-- ==== Sys2Proof/Word.lean ====
section
/-! DEFINITION. Word.lean: the word type of the byte-serial interfaces. Every other quantity of the manual that is not
added, shifted or masked as bits is a `Nat`, an `Int` or an inductive type. -/

namespace Sys2Proof

/-- A byte of a packet, a block attribute, a frame or an addressed memory. -/
abbrev Byte := BitVec 8

/-- A byte holding the low eight bits of `n`. -/
abbrev byteOf (n : Nat) : Byte := BitVec.ofNat 8 n

/-- A complex number: real and imaginary part, in the unit of the thing that holds it. -/
abbrev Cx := Int × Int

end Sys2Proof
end

