-- ==== Sys2Proof/Syntax.lean ====
section
/-! DEFINITION. Syntax.lean: the commands of the block: one constructor of `Instr` for each row of the opcode table. A Finog command
carries the request as its issuer means it; an event carries what it happens to and what is measured. The operands of the
physical rows are what the manual says is measured or received there. -/

namespace Sys2Proof

/-- A Finog request as its issuer means it (R299): the master whose transport carries it, the tag, the FLAGS byte and the
parameter bytes; the opcode is the command's own. -/
structure Req where
  master : Fin 4
  tag : Byte
  flags : Byte
  params : List Byte
  deriving DecidableEq, Repr

/-- What a port measures over the superframe that ends (R70, R76, R79, R94, R202): the averaged arrival offset in 1/64 sample, the
echo return loss enhancement and the NEXT power removed in 0.1 dB, the wavefront margin of its engine in 1/256 units, and the
decision error power of each loaded tone, in units of 2^-20 of the square of the unit of R49's integer points. -/
structure SfMeasure where
  port : Fin 128
  offset : Int
  erle : Nat
  cancel : Nat
  engine : Nat
  errs : List (Nat × Nat)
  deriving DecidableEq, Repr

/-- R76 to R79: an adaptive coefficient of a port: of the echo head, the equaliser or the NEXT canceller for an aggressor, by tone;
or a tap of the echo tail, by its place among the 2,048. -/
inductive AdaptItem where
  | head (tone : Nat)
  | tail (tap : Nat)
  | eq (tone : Nat)
  | next (aggressor : Fin 128) (tone : Nat)
  deriving DecidableEq, Repr

/-- R76, R78, R82: a change of a coefficient that the error after equalisation asks for, in units of 2^-30 (a tail tap: of full
scale). -/
structure AdaptStep where
  item : AdaptItem
  step : Cx
  deriving DecidableEq, Repr

/-- What a port receives in a symbol: the outputs of its FFT (R69), in the unit of a transmitted value, and the changes that the
error after equalisation asks for. -/
structure PortReceived where
  port : Fin 128
  tones : List (Nat × Cx)
  steps : List AdaptStep
  deriving DecidableEq, Repr

/-- R52: a data symbol slot: the prism, and what its ports receive. -/
structure SymbolSlot where
  prism : Fin 8
  received : List PortReceived
  deriving DecidableEq, Repr

/-- R77: a shortening filter: its 256 taps, in units of 2^-15, and its residual in 0.1 dB. -/
structure TsfFilter where
  taps : List Int
  residual : Int
  deriving DecidableEq, Repr

/-- R77: what a shadow filter brings: the correction of the equaliser on each tone (a factor in units of 2^-30), and the predicted gain
of the mean SNR in 0.1 dB. -/
structure TsfGain where
  correction : List (Nat × Cx)
  gain : Int
  deriving DecidableEq, Repr

/-- R75, R154: an echo fit: ERLE in 0.1 dB and the delays of the tail windows in units of 16 samples. -/
structure EchoFitted where
  erle : Nat
  windows : List Nat
  deriving DecidableEq, Repr

/-- R192: a preamble peak: its normalised correlation in thousandths and its power in dBm. -/
structure PreamblePeak where
  corr : Nat
  power : Int
  deriving DecidableEq, Repr

/-- What the receiver finds where the partner's marker is due (R73, R86, R92, R200): the normalised correlation in 1/1000, the form of
R44, the superframe count it carries (R45), the residual arrival offset in 1/64 sample, the advance in ps, the marker error power
and the SNR as received (1/256 dB) of each tone, and the symbol itself. -/
structure MarkerFound where
  corr : Nat
  form : Fin 4
  count : Byte
  offset : Int
  advance : Nat
  errs : List (Nat × Nat)
  snrs : List (Nat × Nat)
  tones : List (Nat × Cx)
  steps : List AdaptStep
  deriving DecidableEq, Repr

/-- What a lane's receiver measures in training (R239, R240): its LANE instance, CTLE peaking in 0.5 dB, DFE taps as LANE.RX_DFE holds
them, eye height in mV and skew in UI. -/
structure LaneMeasure where
  lane : Fin 256
  ctle : Nat
  gain : Int
  dfe : List Byte
  eye : Nat
  skew : Nat
  deriving DecidableEq, Repr

/-- R229, R239: what an alignment slot brings: a codeword for each of L0 to L3 and LS, and measurements of lanes. -/
structure AlignmentFound where
  words : List (List Nat)
  measures : List LaneMeasure
  deriving DecidableEq, Repr

/-- R255, R256: what the checking end found of a pattern: bits checked, bit errors, and for FRAMED codewords corrected, flagged
uncorrectable and miscorrected. -/
structure PatternFound where
  bits : Nat
  errors : Nat
  corrected : Nat
  uncorrectable : Nat
  miscorrected : Nat
  deriving DecidableEq, Repr

/-- R379: what a memory word that cannot be corrected holds: engine memory, the Vertex's working memory, a checkpoint copy (with the
other also lost), hub contexts, a fault log record, a data string of a recast store by port and SEQ, a frame in the store of a host TX
group or of a port, a slot in MRAM, a retention bank, or anything else. -/
inductive MemArea where
  | engine (f : Fin 32) (e : Fin 5)
  | vertexWork
  | checkpoint (both : Bool)
  | hubTables
  | logRecord
  | recastTx (p : Fin 128) (seq : Nat)
  | recastRx (p : Fin 128) (seq : Nat)
  | hostStore (g : Fin 8)
  | portStore (p : Fin 128)
  | slot
  | retention
  | other
  deriving DecidableEq, Repr

/-- R377: what a scrub finds in a word: no error, an error in one byte symbol, or more than the code corrects. -/
inductive ScrubFind where
  | clean
  | corrected (symbol : Nat)
  | uncorrectable (area : MemArea)
  deriving DecidableEq, Repr

/-- A SET or SET_BLOCK whose attribute the command's name gives: the issuing master, the tag and the FLAGS byte. -/
structure SetHead where
  master : Fin 4
  tag : Byte
  flags : Byte
  deriving DecidableEq, Repr

/-- The commands of the block, one for each row of the opcode table. -/
inductive Instr where
  /-- R314: only the effects of R307 and of the lease. -/
  | nop (r : Req)
  /-- R502: returns the identity record. -/
  | ident (r : Req)
  /-- R320: reads an attribute. -/
  | get (r : Req)
  /-- R321: writes an attribute. -/
  | set (r : Req)
  /-- R322: reads bytes of a block. -/
  | getBlock (r : Req)
  /-- R323: writes bytes of a block. -/
  | setBlock (r : Req)
  /-- R39: SET of PRISM.PREFIX. -/
  | prismPrefixSet (h : SetHead) (m : Fin 8) (v : Byte)
  /-- R61: SET of PORT.TX_PSD, as two's complement. -/
  | txPsdSet (h : SetHead) (p : Fin 128) (v : BitVec 16)
  /-- R67: SET of PORT.RATE_CAP. -/
  | rateCapSet (h : SetHead) (p : Fin 128) (v : BitVec 16)
  /-- R62: SET_BLOCK of PORT.TONE_MASK. -/
  | toneMaskSet (h : SetHead) (p : Fin 128) (offset : BitVec 32) (data : List Byte)
  /-- R58: SET_BLOCK of STAGE_LOADING_TX, STAGE_LOADING_RX, STAGE_GAIN_TX or STAGE_GAIN_RX, by number. -/
  | stageTableWrite (h : SetHead) (p : Fin 128) (table : Fin 4) (offset : BitVec 32) (data : List Byte)
  /-- R201: SET of PORT.SNR_HIST_INTERVAL. -/
  | snrHistIntervalSet (h : SetHead) (p : Fin 128) (v : BitVec 16)
  /-- R214: SET of DEVICE.SNAP_READY. -/
  | snapReadyWrite (h : SetHead) (v : Byte)
  /-- R125: SET of PORT.RECAST_RETRY or, where `deadline` is set, PORT.RECAST_DEADLINE. -/
  | recastTimerSet (h : SetHead) (p : Fin 128) (deadline : Bool) (v : BitVec 32)
  /-- R482: SET of CHECK.WIDTH, POLY, INIT or FLAGS, by number, as the low bytes of the value. -/
  | checkParamSet (h : SetHead) (unit : Fin 4) (field : Fin 4) (v : BitVec 64)
  /-- R341: takes ownership. -/
  | claim (r : Req)
  /-- R343: restarts the owner's lease. -/
  | renew (r : Req)
  /-- R345: offers or releases ownership. -/
  | yield (r : Req)
  /-- R346: takes ownership offered. -/
  | accept (r : Req)
  /-- R357: reads the master's own event queue. -/
  | eventsRead (r : Req)
  /-- R360: orders earlier commands and their events. -/
  | fence (r : Req)
  /-- R134: starts ports. -/
  | portStart (r : Req)
  /-- R138: stops ports. -/
  | portStop (r : Req)
  /-- R420: takes ports to QUIET or DORMANT. -/
  | portQuiet (r : Req)
  /-- R432: takes ports out of QUIET or DORMANT. -/
  | portWake (r : Req)
  /-- R158: swaps a port's tables online. -/
  | loadingSwap (r : Req)
  /-- R162: binds or unbinds a chord. -/
  | chordBind (r : Req)
  /-- R141: trains ports in CARRY again. -/
  | portRetrain (r : Req)
  /-- R291: opens a flow context. -/
  | flowOpen (r : Req)
  /-- R293: closes a flow. -/
  | flowClose (r : Req)
  /-- R292: changes a flow's groups, mode, flags and rates. -/
  | flowMap (r : Req)
  /-- R241: trains the named lanes of a pair. -/
  | laneTrain (r : Req)
  /-- R257: sets or clears a loop on a pair. -/
  | laneLoop (r : Req)
  /-- R255: runs a pattern engine on a lane. -/
  | patternRun (r : Req)
  /-- R258: arms L0s, returns a pair to ON or takes it to L2. -/
  | laneIdle (r : Req)
  /-- R407: moves domains to a state. -/
  | powerSet (r : Req)
  /-- R412: releases latched pads. -/
  | padRelease (r : Req)
  /-- R416: arms or disarms a wake set. -/
  | wakeArm (r : Req)
  /-- R449: runs a calibration; the ports on which the 100 us listen of R450 finds partner energy. -/
  | calRun (r : Req) (energy : List (Fin 128))
  /-- R457: stores calibration or configuration. -/
  | calStore (r : Req)
  /-- R452: reports on items. -/
  | calReport (r : Req)
  /-- R477: slices named regions or every region, or runs one RAW pattern run. -/
  | bistRun (r : Req)
  /-- R478: reads records of regions. -/
  | bistResult (r : Req)
  /-- R487: starts a scan. -/
  | checkScan (r : Req)
  /-- R491: reads a unit's latest record. -/
  | checkResult (r : Req)
  /-- R217: starts a reflectometry scan. -/
  | cableScan (r : Req)
  /-- R212: arms a snapshot record. -/
  | snapshot (r : Req)
  /-- R207: reads consecutive counters at one instant. -/
  | countersRead (r : Req)
  /-- R196: queues a message for a node. -/
  | svcSend (r : Req)
  /-- R197: takes the oldest complete message. -/
  | svcRecv (r : Req)
  /-- R198: grants a segment node. -/
  | segmentPoll (r : Req)
  /-- R396: reports on, reads or erases the fault log. -/
  | faultLog (r : Req)
  /-- R397: tests a FAILED element again. -/
  | repair (r : Req)
  /-- R507: stages a patch; whether a word written fails its read-back and cannot be remapped. -/
  | fwStage (r : Req) (lost : Bool)
  /-- R508: verifies the staged image. -/
  | fwCommit (r : Req)
  /-- R505: advances the life cycle with a token. -/
  | lcAdvance (r : Req)
  /-- R512: sets or adjusts device time. -/
  | timeSet (r : Req)
  /-- R331: a private write at mailbox offset 0x40; `bad` marks an HDR-DDR word that failed (R325). -/
  | reqStart (port : Fin 2) (bytes : List Byte) (bad : Bool)
  /-- R331: a private write at mailbox offset 0x41. -/
  | reqCont (port : Fin 2) (bytes : List Byte) (bad : Bool)
  /-- R332: a private read at offset 0x60 of `count` bytes. -/
  | replyRead (port : Fin 2) (count : Nat)
  /-- R332: a private read at offset 0x61. -/
  | replyContRead (port : Fin 2) (count : Nat)
  /-- R330: MBX_CONTROL bit 2. -/
  | clearErr (port : Fin 2)
  /-- R330: MBX_CONTROL bit 1. -/
  | replyDone (port : Fin 2)
  /-- R330: MBX_CONTROL bit 0. -/
  | reqAbort (port : Fin 2)
  /-- R334: ten milliseconds after a request's first byte. -/
  | mbxRequestTimeout (port : Fin 2)
  /-- R332: DEVICE.REPLY_HOLD passes on an unread reply. -/
  | replyHoldExpiry (port : Fin 2)
  /-- R334: SCL unchanged for 100 us in the middle of an I3C transfer. -/
  | i3cSclStall (port : Fin 2)
  /-- R334: SCL held low for 25 ms in I2C. -/
  | i2cSclLowTimeout (port : Fin 2)
  /-- R328: the target reset pattern. -/
  | targetReset (port : Fin 2)
  /-- R325: the HDR exit pattern. -/
  | hdrExit (port : Fin 2)
  /-- R327: ENEC with its event byte. -/
  | enec (port : Fin 2) (events : Byte)
  /-- R327: DISEC with its event byte. -/
  | disec (port : Fin 2) (events : Byte)
  /-- R327: RSTDAA. -/
  | rstdaa (port : Fin 2)
  /-- R327: ENTDAA won by the port, with the address assigned. -/
  | entdaa (port : Fin 2) (addr : Fin 128)
  /-- R327: SETMWL. -/
  | setmwl (port : Fin 2) (v : BitVec 16)
  /-- R327: GETMWL. -/
  | getmwl (port : Fin 2)
  /-- R327: SETMRL. -/
  | setmrl (port : Fin 2) (v : BitVec 16)
  /-- R327: GETMRL. -/
  | getmrl (port : Fin 2)
  /-- R327: ENTHDR0. -/
  | enthdr0 (port : Fin 2)
  /-- R327: RSTACT with its defining byte. -/
  | rstact (port : Fin 2) (action : Byte)
  /-- R327: SETDASA. -/
  | setdasa (port : Fin 2) (addr : Fin 128)
  /-- R327: SETNEWDA. -/
  | setnewda (port : Fin 2) (addr : Fin 128)
  /-- R326: GETPID. -/
  | getpid (port : Fin 2)
  /-- R326: GETBCR. -/
  | getbcr (port : Fin 2)
  /-- R326: GETDCR. -/
  | getdcr (port : Fin 2)
  /-- R327: GETSTATUS. -/
  | getstatus (port : Fin 2)
  /-- R327: GETMXDS. -/
  | getmxds (port : Fin 2)
  /-- R327: GETCAPS. -/
  | getcaps (port : Fin 2)
  /-- R336: an accepted COMMAND row on RX G0 or RX G4. -/
  | commandRowReceived (ch : Fin 2) (payload : List Byte)
  /-- R336: one millisecond without the END of a packet. -/
  | commandPacketTimeout (ch : Fin 2)
  /-- R40: a superframe boundary of a prism, with the frequency of its clock reference relative to the nominal one in 10^-9 units and what its ports measured over the superframe that ends. -/
  | superframeBoundary (m : Fin 8) (clock : Int) (ms : List SfMeasure)
  /-- R52: a data symbol slot of a prism, with what its ports receive in it. -/
  | symbolBoundary (x : SymbolSlot)
  /-- R86: the place of the partner's marker in a superframe. -/
  | markerDetection (p : Fin 128) (mk : MarkerFound)
  /-- R87: pilots 20 dB down for 64 data symbols. -/
  | pilotPowerLoss (p : Fin 128)
  /-- R87: hold-over reaches 16 superframes. -/
  | holdoverTimeout (p : Fin 128)
  /-- R96: 1,024 superframes at a projected margin of 1.10. -/
  | paceRestore (p : Fin 128)
  /-- R93: a block quiet for 4,096 superframes. -/
  | ingressRestore (p : Fin 128) (b : Fin 32)
  /-- R74: the end of a prism clock slew. -/
  | prismClockSlewEnd (m : Fin 8)
  /-- R77: the shortening filter of CHANNEL_PROBE is installed. -/
  | tsfComputed (p : Fin 128) (f : TsfFilter)
  /-- R77: a shadow filter, with what it brings. -/
  | tsfShadowInstall (p : Fin 128) (f : TsfFilter) (x : TsfGain)
  /-- R81: a survey visit ends, with the coupling metrics in 0.1 dB of the surveyed port and of the active slots. -/
  | nextSurveyVisitEnd (p : Fin 128) (surveyed : Int) (active : List Int)
  /-- R83: an admission ramp reaches 16 superframes. -/
  | admissionRampEnd (m : Fin 8)
  /-- R85: ten seconds after an aggressor dropped. -/
  | nextCoeffHoldExpiry (p : Fin 128)
  /-- R85: four superframes after an aggressor left DORMANT. -/
  | nextDormantRelaxEnd (p : Fin 128)
  /-- R23: the 1 kHz sample: die, region code of R33 and margin in 1/256 units, for every running region. -/
  | marginSample (regions : List (Nat × Nat × Nat))
  /-- R10: a symbol boundary at which the spare takes over the port decided. -/
  | spareTakeover (f : Fin 32)
  /-- R15: a flow's inner group has fewer than three data lanes. -/
  | innerGroupFlowMove (f : Fin 1024)
  /-- R30: an election: the other members reachable over bound chords, and whether TIMEPULSE_IN of each is valid. -/
  | timeMasterElection (others : List (Fin 8 × Bool))
  /-- R509: an edge on TIMEPULSE_IN. -/
  | timepulseInEdge (rising : Bool)
  /-- R30: 1.5 intervals without a pulse. -/
  | timepulseInLost
  /-- R31: the time of the upstream chord partner less this member's, in ns, and the partner's TIME.VALID. -/
  | chordTimeSync (offset : Int) (valid : Bool)
  /-- R109: a received codeword under the table in use (the announced one), under the other candidate of R90, the stamp of each segment's first bit, and SEQs of the reorder store that the memory code cannot correct. -/
  | containerReceived (p : Fin 128) (word : List Nat) (alt : List Nat) (times : List Nat) (lost : List Nat)
  /-- R110: one interleave block is sent; SEQs of the transmit store that the memory code cannot correct. -/
  | containerSend (p : Fin 128) (lost : List Nat)
  /-- R118: RECAST_RETRY passes since a hole's last NAK. -/
  | renakTimer (p : Fin 128) (seq : Fin 16384)
  /-- R121: RECAST_DEADLINE passes since a hole was created. -/
  | holeDeadline (p : Fin 128) (seq : Fin 16384)
  /-- R127: no receive hole, and no partner NAK during the last RECAST_RETRY. -/
  | recastDrained (p : Fin 128)
  /-- R127: one RECAST_DEADLINE of waiting passes. -/
  | drainWaitTimeout (p : Fin 128)
  /-- R136: the dwell or hold-off in LISTEN ends. -/
  | listenDwellEnd (p : Fin 128)
  /-- R136: Clause 98 page energy is detected. -/
  | pageEnergy (p : Fin 128)
  /-- R144: the Clause 98 exchange is complete: the partner's Rilas ability word, if it sent one; and where the partner
  advertised 1000BASE-T1, whether the exchange makes Izrath the master of such a link. -/
  | negotiateResolution (p : Fin 128) (word : Option (BitVec 64)) (legacy : Option Bool)
  /-- R132: 500 ms in NEGOTIATE. -/
  | negotiateTimeout (p : Fin 128)
  /-- R137: a second without resolution. -/
  | noPartnerTimer (p : Fin 128)
  /-- R150: the Clause 97 link status fails. -/
  | clause97LinkFail (p : Fin 128)
  /-- R140: ERLE 15 dB below its reference for 1,024 superframes. -/
  | echoDriftRetrain (p : Fin 128)
  /-- R154: the echo is fitted, with ERLE in 0.1 dB and the delays of the tail windows in units of 16 samples (R75); or partner energy above -30 dB is seen in half A. -/
  | echoFitHalfAEnd (p : Fin 128) (erle : Nat) (windows : List Nat) (partner : Bool)
  /-- R154: the SNR of each tone is measured, in 1/256 dB. -/
  | channelProbeDone (p : Fin 128) (snrs : List (Nat × Nat))
  /-- R155: a phase's timeout passes, with the echo fit as it stands. -/
  | trainPhaseTimeout (p : Fin 128) (x : EchoFitted)
  /-- R154: ECHO_READY_A received in the partner role. -/
  | echoReadyA (p : Fin 128)
  /-- R154: ECHO_READY_B received. -/
  | echoReadyB (p : Fin 128)
  /-- R152: ADVANCE received in the partner role. -/
  | advance (p : Fin 128) (ps : BitVec 32) (fine : Bool)
  /-- R152: LOCKED received in the partner role. -/
  | locked (p : Fin 128)
  /-- R152: PROBE_DONE received in the partner role. -/
  | probeDone (p : Fin 128) (cls : Fin 3) (depth : Fin 3)
  /-- R155: a TABLES message received, from its code on. -/
  | tables (p : Fin 128) (msg : List Byte)
  /-- R154: TABLES_OK received. -/
  | tablesOk (p : Fin 128)
  /-- R154: TABLES_BAD received. -/
  | tablesBad (p : Fin 128) (rule : Byte)
  /-- R152: RECAST_GO received in the partner role. -/
  | recastGo (p : Fin 128) (sf : Byte)
  /-- R154: RECAST_OK received. -/
  | recastOk (p : Fin 128)
  /-- R161: a SWAP_REQ message received, from its code on. -/
  | swapReq (p : Fin 128) (msg : List Byte)
  /-- R159: SWAP_REPLY received. -/
  | swapReply (p : Fin 128) (code : Byte)
  /-- R159: SWAP_AT received. -/
  | swapAt (p : Fin 128) (sf : Byte) (dirs : Byte)
  /-- R132: RETRAIN received. -/
  | retrain (p : Fin 128)
  /-- R139: LINK_STOP received. -/
  | linkStop (p : Fin 128)
  /-- R419: QUIET_REQ received in the partner role. -/
  | quietReq (p : Fin 128) (mode : Byte)
  /-- R421: QUIET_REPLY received. -/
  | quietReply (p : Fin 128) (code : Byte)
  /-- R421: QUIET_AT received in the partner role. -/
  | quietAt (p : Fin 128) (sf : Byte)
  /-- R160: a swap reaches 20 ms. -/
  | swapTimeLimit (p : Fin 128)
  /-- R166: one RECAST_DEADLINE after a chord member left CARRY. -/
  | chordFlowMove (p : Fin 128)
  /-- R192: a preamble peak, with its SNR in 0.5 dB units. -/
  | svcPreambleDetected (p : Fin 128) (x : PreamblePeak) (snr : Fin 256)
  /-- R177: the header of the reception under way has been decoded. -/
  | svcHeaderEnd (p : Fin 128) (header : BitVec 36)
  /-- R180: an EMPTY burst ends. -/
  | svcEmptyBurst (p : Fin 128)
  /-- R185: a DATA burst ends; its payload with the CRC as decoded. -/
  | svcDataFragment (p : Fin 128) (payload : List Byte)
  /-- R188: a HELLO burst ends. -/
  | svcHello (p : Fin 128)
  /-- R189: a WAKE burst is received. -/
  | svcWakeBurst (p : Fin 128)
  /-- R180: 15 us without a preamble after a granting burst. -/
  | svcGrantLapse (p : Fin 128)
  /-- R182: a beacon falls due in LISTEN. -/
  | svcBeacon (p : Fin 128)
  /-- R182: a periodic grant falls due. -/
  | svcPollGrant (p : Fin 128)
  /-- R181: node 0 has heard no controller burst for 3 ms. -/
  | svcUnsolicitedHello (p : Fin 128)
  /-- R186: 400 us after the sending of a fragment to a node. -/
  | svcFragmentResend (p : Fin 128) (n : Fin 5)
  /-- R186: 10 ms without a further fragment from a node. -/
  | svcPartialDiscard (p : Fin 128) (n : Fin 5)
  /-- R195: 1 us after Izrath's own burst. -/
  | svcBlankingEnd (p : Fin 128)
  /-- R189: the next WAKE burst of a sequence falls due. -/
  | wakeSequenceNext (p : Fin 128)
  /-- R198: 50 us after a lapsed poll grant of a node. -/
  | segmentPollRetry (p : Fin 128) (n : Fin 5)
  /-- R201: an SNR history interval ends. -/
  | snrHistoryIntervalEnd (p : Fin 128)
  /-- R207: the sampling instant of COUNTERS_READ commands at a boundary of a prism. -/
  | countersSample (m : Fin 8)
  /-- R213: a record is captured: when its first symbol began, its superframe count, and the values captured (layout of R216). -/
  | snapshotTrigger (r : Fin 8) (time : Nat) (sf : Byte) (data : List Byte)
  /-- R213: ARM_TIMEOUT passes. -/
  | snapshotArmTimeout (r : Fin 8)
  /-- R218: the 20 us listen ends, with the noise floor in 0.1 dB. -/
  | cableScanListenEnd (p : Fin 128) (noise : Int)
  /-- R218: a boundary at which the scan may ramp. -/
  | cableScanStartTx (p : Fin 128)
  /-- R218: the correlation is complete. -/
  | cableScanCorrelationEnd (p : Fin 128)
  /-- R218, R220: the analysis is complete: the reflections found (round trip in ps, raw level in 0.1 dB), those of the polarity of the
  incident wave and those of the opposite one. -/
  | cableScanAnalysisDone (p : Fin 128) (same opposite : List (Nat × Int))
  /-- R219: unexplained power for 16 symbols. -/
  | cableScanPartnerEnergy (p : Fin 128)
  /-- R211: traffic needs the capture buffer or the transmitter. -/
  | diagnosticPreempt (p : Fin 128) (capture : Bool)
  /-- R233: a row at a receiver: one codeword of 132 symbols for each physical lane L0 to L3, and one for LS, empty where nothing came. -/
  | rowReceived (g : Fin 32) (words : List (List Nat)) (ls : List Nat)
  /-- R234: a row slot of a transmitter. -/
  | rowSlot (g : Fin 32)
  /-- R229, R239: the alignment slot of a group, with what is received and measured where Izrath receives it. -/
  | alignmentSlot (g : Fin 32) (x : AlignmentFound)
  /-- R234: the oldest unacknowledged row of a transmitter has waited GROUP.REPLAY_TIMER. -/
  | replayTimer (g : Fin 32)
  /-- R236: 1 ms after a retrain of a pair. -/
  | quickRetrainTimeout (pair : Fin 16)
  /-- R246: a lane has lost clock or signal lock for 20 ns. -/
  | laneLockLoss (l : Fin 256)
  /-- R246: the end of a 1 ms window of a lane. -/
  | laneErrorWindow (l : Fin 256)
  /-- R248: the agreed slot of a map change. -/
  | laneSubst (g : Fin 32)
  /-- R250: ten seconds of spare pattern on a retrained lane. -/
  | sparePatternClean (l : Fin 256)
  /-- R253: the clock lane of a group is lost. -/
  | lcLoss (g : Fin 32)
  /-- R244: a training frame on a lane that Izrath receives, and the request its receiver makes next where it holds none. -/
  | trainingFrame (l : Fin 256) (control : BitVec 16) (status : BitVec 16) (request : BitVec 16)
  /-- R242: every named lane still in training has met the end of its phase, with what the receivers measure. -/
  | laneTrainPhaseEnd (pair : Fin 16) (ms : List LaneMeasure)
  /-- R242: a phase's time limit passes, with the lanes of the two groups that have not met its end. -/
  | laneTrainPhaseTimeout (pair : Fin 16) (failTx : List Nat) (failRx : List Nat)
  /-- R255: the duration of a pattern run passes, with what Izrath's checker found beside the codewords checked in rows. -/
  | patternRunEnd (l : Fin 256) (found : PatternFound)
  /-- R259: GROUP.L0S_DWELL has passed with no row to send. -/
  | l0sDwell (g : Fin 32)
  /-- R259: a row or feedback is due in L0s. -/
  | l0sExit (g : Fin 32)
  /-- R259: a tangent burst at a receiver, with the lanes that fail to lock. -/
  | laneTangentBurst (g : Fin 32) (failed : List Nat)
  /-- R260: 10 us without IDLE 3. -/
  | l2EntryTimeout (pair : Fin 16)
  /-- R260: the far end of a pair in L2 restarts LC. -/
  | farLcRestart (pair : Fin 16)
  /-- R532: 100 ms after a start attempt that failed. -/
  | startPairRetry (pair : Fin 8)
  /-- R278: a hub round: the sources whose handshake misses its window, the decisions of R376 repeated, and the sources whose repeat also disagrees. -/
  | hubRound (missed : List (Fin 136)) (again : Nat) (bad : List (Fin 136))
  /-- R281: the end of a 1 ms window, with the lane of each group whose framing completes last. -/
  | slowWindow (last : List (Nat × Nat))
  /-- R288: group A of a flow has been UP for a second. -/
  | failoverReturn (f : Fin 1024)
  /-- R293: the accepted frames of a draining flow are delivered. -/
  | flowDrainComplete (f : Fin 1024)
  /-- R293: ten milliseconds of draining pass. -/
  | flowDrainTimeout (f : Fin 1024)
  /-- R344: the owner's lease ends. -/
  | leaseExpiry
  /-- R347: the handover window passes. -/
  | handoverWindowExpiry
  /-- R359: ten milliseconds without EVENTS_READ on a master's non-empty queue. -/
  | eventSignalRepeat (m : Fin 4)
  /-- R362, R363: the conditions of a fence hold. -/
  | fenceConditionsMet (m : Fin 4) (tag : Byte)
  /-- R364: a fence's TIMEOUT passes. -/
  | fenceTimeout (m : Fin 4) (tag : Byte)
  /-- R372: an engine is judged faulted: 0 STALL, 1 ENERGY, 2 MEMORY, 3 TEST. -/
  | engineFault (f : Fin 32) (e : Fin 5) (cause : Fin 4)
  /-- R373: the self-test slice after an engine fault ends. -/
  | engineFaultVerdict (f : Fin 32) (e : Fin 5) (pass : Bool)
  /-- R374: a slice is stuck or outside the range that calibration can correct. -/
  | adcSliceFault (p : Fin 128) (slice : Fin 68)
  /-- R374: the recalibration of a faulted slice ends. -/
  | adcSliceRecalVerdict (p : Fin 128) (slice : Fin 68) (pass : Bool)
  /-- R375: a port source has completed no handshake for 64 rounds. -/
  | portSourceStall (p : Fin 128)
  /-- R375: 64 rounds after the move. -/
  | sourceStallRecheck (p : Fin 128)
  /-- R376: the end of a 1 ms window of the hub's comparison. -/
  | hubControlWindow
  /-- R377: a word scrubbed, by its device address, and whether it ends the die's pass. -/
  | scrubStep (die : Fin 3) (bank : Fin 256) (word : Nat) (found : ScrubFind) (last : Bool)
  /-- R382: the active cores disagree. -/
  | vertexDisagree
  /-- R382: the reload completes. -/
  | vertexReloadDone
  /-- R383: the trials end: whether the spare agreed with the first active core, and with the second. -/
  | coreTrialEnd (first : Bool) (second : Bool)
  /-- R391: a rail is below its operating minimum. -/
  | supplyLow (rail : Fin 6)
  /-- R392: a rail is back in its range. -/
  | supplyRestored (rail : Fin 6)
  /-- R518: a rail below its reset threshold, and whether VDD_CORE is below 0.4 V. -/
  | railReset (rail : Fin 6) (coreOff : Bool)
  /-- R393: the log writer writes a record. -/
  | logRecordWrite
  /-- R393: the end of an hour. -/
  | summaryHour
  /-- R397: the test of a repair ends. -/
  | repairTestEnd (cls : Nat) (inst : Nat) (pass : Bool)
  /-- R396: every record is erased. -/
  | faultLogEraseEnd
  /-- R408: a named domain has drained and answers. -/
  | powerPrepareAnswer (domain : Fin 195)
  /-- R408: PREPARE_TIMEOUT passes. -/
  | powerPrepareTimeout
  /-- R410: a domain completes its change, and whether its retention banks pass their seal (R413). -/
  | domainCommitDone (domain : Fin 195) (sealGood : Bool)
  /-- R415: an edge on WAKE_IN after the glitch filter. -/
  | wakeInEdge (rising : Bool)
  /-- R415: an edge on a GPIO pin after the glitch filter. -/
  | gpioEdge (pin : Fin 4) (rising : Bool)
  /-- R415: the sentinel sees Clause 98 page energy, or other Rilas-band energy, on a port. -/
  | lineEnergyWake (p : Fin 128) (page : Bool)
  /-- R416: the timer of a wake set runs out. -/
  | wakeSetTimer (n : Fin 8)
  /-- R417: the end of the pulse on WAKE_OUT. -/
  | wakeOutPulseEnd
  /-- R421: 20 ms after ACCEPTED. -/
  | quietEntryTimeout (p : Fin 128)
  /-- R423: a refresh superframe in QUIET: the correlation of marker and refresh symbols in 1/1000 and the residual offset in 1/64 sample. -/
  | quietRefresh (p : Fin 128) (marker : Nat) (corr : Nat) (offset : Int)
  /-- R425: the partner's tangent burst is detected. -/
  | tangentBurstDetected (p : Fin 128)
  /-- R428: the partner's relock symbols in 16 slots, with the residual offset in 1/64 sample. -/
  | relockDetected (p : Fin 128) (offset : Int)
  /-- R431: a millisecond after the decision to leave DORMANT. -/
  | wakeUnanswered (p : Fin 128)
  /-- R440: VREF_EXT in 0.1 mV, REXT in 0.1 ohm, and REFCLK against nominal in 10^-9 units, as measured. -/
  | referenceMeasurement (vref : Nat) (rext : Nat) (refclk : Int)
  /-- R443: an element of an item measured: its error in LSBs, the least trim range left in %, whether it can meet its criterion, and whether with it every element of the item has been measured. -/
  | calMeasurementEnd (item : Nat) (element : Nat) (deviation : Int) (range : Fin 101) (usable : Bool) (last : Bool)
  /-- R443: a boundary at which a corrected element may go back into service, and whether it meets the criterion. -/
  | calElementSwap (item : Nat) (element : Nat) (replaced : Nat) (within : Bool)
  /-- R445: a step of a pending correction. -/
  | calCorrectionStep (item : Nat)
  /-- R447: four tracking periods without a run. -/
  | calOverdueTimer (item : Nat)
  /-- R451: the measurement of an owner ends: its error in LSBs, the range left in %, elements newly left out of service, and whether a slice failed by R374. -/
  | calRunOwnerEnd (item : Nat) (deviation : Int) (range : Fin 101) (lost : Nat) (sliceFailed : Bool)
  /-- R457: a store ends, and whether every word could be written. -/
  | calStoreEnd (good : Bool)
  /-- R472: a multiple of 3,600 s of device time. -/
  | bistCycleStart
  /-- R472: a multiple of BIST.SLOT_PERIOD. -/
  | bistSlot
  /-- R466, R467, R469: the slice under way ends: its signature, its two counts, whether the save buffer was intact, and the wavefront margin measured. -/
  | bistSliceEnd (signature : BitVec 64) (applied : BitVec 32) (independent : BitVec 32) (restoreGood : Bool) (margin : BitVec 16)
  /-- R463: the slice under way is stopped for a request of a higher rank, and its restore completes. -/
  | bistSliceAbort
  /-- R475: a deferred command of a master and tag is taken up. -/
  | deferredTakeUp (master : Fin 4) (tag : Byte)
  /-- R488: a scan ends: what it read of a range outside MRAM and of its partner range, words corrected, whether traffic wrote into such a range, and whether a repair reads back. -/
  | checkScanEnd (unit : Fin 4) (data : List Byte) (partner : List Byte) (corrected : Nat) (written : Bool) (readBack : Bool)
  /-- R497: the start of a part of the wear period. -/
  | wearRotationPart
  /-- R498: an hour of a die: the change of each region's ring oscillator as a change of wavefront margin, in 1/256 units. -/
  | agingCheck (die : Fin 3) (changes : List Int)
  /-- R499: a sample: the junction sensors of D0, D1 and DH in 0.1 degree C, the six rails in mV, and the share that background work took of the millisecond, in 0.01 %. -/
  | telemetrySample (junctions : List (List Int)) (rails : List (BitVec 16)) (share : BitVec 16)
  /-- R505: the fuses are blown. -/
  | lcFuseDone
  /-- R505: the erase of DECOMMISSIONED is complete. -/
  | lcEraseEnd
  /-- R508: the verification of a staged image ends; whether GENERATION and CHECK read back as written. -/
  | fwVerifyEnd (written : Bool)
  /-- R512: two periods of TIMEPULSE_IN without an edge for an AT_PULSE. -/
  | atPulseTimeout (master : Fin 4) (tag : Byte)
  /-- R513: a multiple of TIME.PULSE_OUT_PERIOD of device time. -/
  | timepulseOutPulse
  /-- R513: TIME.PULSE_OUT_WIDTH after a pulse began. -/
  | timepulseOutWidthEnd
  /-- R519: RESET_N low past its glitch filter. -/
  | resetNLow
  /-- R518: the release of reset: the levels of the pins as DEVICE.PIN_STATE has them, and whether the ROM check passes. -/
  | resetRelease (pins : BitVec 11) (romGood : Bool)
  /-- R525: 20 ms without the report of a patch started. -/
  | patchStartTimeout
  /-- R267: a Clause 97 frame, when its first bit reached the pins, and the RS frames corrected and lost since the last. -/
  | legacyFrameReceived (p : Fin 128) (bytes : List Byte) (time : Nat) (corrected : Nat) (lost : Nat)
  /-- R451: partner energy on a port during a FULL run. -/
  | calPartnerEnergy (p : Fin 128)
  /-- R525: a patch started reports the end of its initialisation. -/
  | patchInitDone
  deriving DecidableEq, Repr

end Sys2Proof
end

