-- ==== Sys2Proof/Decode.lean ====
section
/-! DEFINITION. Decode.lean: the opcode table's words. Every row of the table gives no bits (its commands are packets of many bytes, bus
transfers, events and expiries), so no word spells a command; the packets are read by Machine/Vertex.lean (assumption 12). -/

namespace Sys2Proof

/-- The command that a word spells by the table's bits: none, as no row gives bits. -/
def decodeTableWord (_nbits _w : Nat) : Option Instr := none

end Sys2Proof
end

