-- ==== Sys2Proof/Config.lean ====
section
/-! DEFINITION. Config.lean: what one part is fixed with, and the free values: constants with no body, so that nothing can be
proved from a value of theirs. A field of State, `freeCount`, says which free value is next. -/

namespace Sys2Proof

/-- A fresh value for a quantity the manual leaves open, taken with the state's counter (assumption 5). -/
opaque Config.freeNat : Nat → Nat

/-- R501: the package serial, fixed at manufacture. -/
opaque Config.serial : Nat

/-- R502: LOT of die 0, 1 or 2. -/
opaque Config.lot : Nat → Nat

/-- R502: WAFER of a die. -/
opaque Config.wafer : Nat → Nat

/-- R502: X of a die. -/
opaque Config.dieX : Nat → Nat

/-- R502: Y of a die. -/
opaque Config.dieY : Nat → Nat

/-- R502: STEP_LETTER of a die. -/
opaque Config.stepLetter : Nat → Nat

/-- R502: STEP_DIGIT of a die. -/
opaque Config.stepDigit : Nat → Nat

/-- R502: version of the boot ROM. -/
opaque Config.romVersion : Nat

/-- R506: whether an ECDSA P-256 signature (r then s) over a SHA-256 digest verifies under the key in ROM, which the manual
does not give. -/
opaque Config.signatureGood : List Byte → List Byte → Bool

/-- R504: the fused integrator key. -/
opaque Config.integratorKey : List Byte

/-- R504: the fused Spaloth key. -/
opaque Config.spalothKey : List Byte

/-- R465: the expected signature of a region, held in ROM. -/
opaque Config.goldenSignature : Nat → BitVec 64

/-- R465: the pattern count of a region, held in ROM. -/
opaque Config.patternCount : Nat → BitVec 32

/-- R483: bytes of a domain's retention banks, which the manual does not give. -/
opaque Config.bankBytes : Nat → Nat

end Sys2Proof
end

