-- ==== Sys2Proof/Machine/Bits.lean ====
section
/-! DEFINITION. Machine/Bits.lean: bit fields, byte order, two's complement and masks (R2, R3, R7), written once. -/

namespace Sys2Proof.Machine

/-- Byte `i` of a packet's parameters as a number; bytes past the end read 0 (the length is checked before any read). -/
def byteAt (ps : List Byte) (i : Nat) : Nat := (ps.getD i 0#8).toNat

/-- A little-endian field of `n` bytes starting at byte `i` (R3). -/
def leAt (ps : List Byte) (i : Nat) : Nat → Nat
  | 0 => 0
  | n + 1 => byteAt ps i + 256 * leAt ps (i + 1) n

/-- `v` as `n` bytes, least significant first (R3). -/
def toLE (v : Nat) : Nat → List Byte
  | 0 => []
  | n + 1 => byteOf (v % 256) :: toLE (v / 256) n

/-- `v` as `n` bytes, most significant first (UID and OUI, R3; unit headers, R269). -/
def toBE (v n : Nat) : List Byte := (toLE v n).reverse

/-- A list of bytes as one number, least significant first. -/
def ofLE : List Byte → Nat
  | [] => 0
  | b :: r => b.toNat + 256 * ofLE r

/-- A list of bytes as one number, most significant first. -/
def ofBE (bs : List Byte) : Nat := ofLE bs.reverse

/-- Field `[hi:lo]` of a register (R2: bit 0 is the least significant). -/
def fieldOf (v hi lo : Nat) : Nat := v / 2 ^ lo % 2 ^ (hi + 1 - lo)

/-- Bit `i` of a register. -/
def bitOf (v i : Nat) : Bool := v.testBit i

/-- A flag as one bit. -/
def bitNat (b : Bool) : Nat := if b then 1 else 0

/-- `v` with bit `i` given. -/
def withBit (v i : Nat) (b : Bool) : Nat := if b then v ||| 2 ^ i else (v ||| 2 ^ i) - 2 ^ i

/-- Two's complement reading of a `w`-bit value (R7, types S8, S16, S32). -/
def signedOf (w v : Nat) : Int := if v % 2 ^ w < 2 ^ (w - 1) then (v % 2 ^ w : Int) else (v % 2 ^ w : Int) - 2 ^ w

/-- The `w`-bit two's complement of an integer. -/
def unsignedOf (w : Nat) (i : Int) : Nat := (i % (2 ^ w : Int)).toNat

/-- An integer held to a range. -/
def clampInt (i lo hi : Int) : Int := max lo (min i hi)

/-- The two's complement of an integer, saturating at the ends of `w` bits. -/
def saturateS (w : Nat) (i : Int) : Nat := unsignedOf w (clampInt i (-(2 ^ (w - 1))) (2 ^ (w - 1) - 1))

/-- Saturation of an unsigned field. -/
def saturateU (w v : Nat) : Nat := min v (2 ^ w - 1)

/-- Bit `p mod 8` of byte `off + ⌊p/8⌋`: the mask layout of PORT_MASK (R134) and DOMAIN_MASK (R407). -/
def maskBit (ps : List Byte) (off p : Nat) : Bool := (byteAt ps (off + p / 8)).testBit (p % 8)

/-- The members of a mask of `n` bits, ascending. -/
def maskList (ps : List Byte) (off n : Nat) : List Nat := (List.range n).filter (maskBit ps off)

/-- One byte of a mask holding `l`. -/
def maskByte (l : List Nat) (k : Nat) : Byte :=
  byteOf ((List.range 8).foldl (fun a b => if l.contains (8 * k + b) then a + 2 ^ b else a) 0)

/-- A mask of `n` bytes holding the members of `l`. -/
def maskBytes (l : List Nat) (n : Nat) : List Byte := (List.range n).map (maskByte l)

/-- Whether bytes `lo` to `lo + n - 1`, reserved, are all 0 (R4). -/
def reservedZero (ps : List Byte) (lo n : Nat) : Bool := leAt ps lo n == 0

/-- The bits of a byte, most significant first. -/
def bitsMsb (v : Nat) : Nat → List Bool
  | 0 => []
  | n + 1 => v.testBit n :: bitsMsb v n

/-- The bits of a value, least significant first. -/
def bitsLsb (v : Nat) (n : Nat) : List Bool := (bitsMsb v n).reverse

/-- A bit string, first bit most significant, as a number. -/
def ofBits (bs : List Bool) : Nat := bs.foldl (fun a b => 2 * a + bitNat b) 0

/-- A byte string as bits, each byte most significant bit first (R102). -/
def bytesToBits (bs : List Byte) : List Bool := bs.flatMap fun b => bitsMsb b.toNat 8

/-- `n` bytes from a bit string, each most significant bit first. -/
def bitsToBytes : Nat → List Bool → List Byte
  | 0, _ => []
  | n + 1, bs => byteOf (ofBits (bs.take 8)) :: bitsToBytes n (bs.drop 8)

/-- `bs` cut or filled with zeros to `n` bytes. -/
def fitBytes (bs : List Byte) (n : Nat) : List Byte := (bs ++ List.replicate n 0#8).take n

/-- `bs` with the bytes of `new` written from `off`. -/
def spliceBytes (bs : List Byte) (off : Nat) (new : List Byte) : List Byte :=
  bs.take off ++ new ++ bs.drop (off + new.length)

/-- Difference of sequence numbers on a circle of `m` (R115 with 16,384; R234 with 4,096): `a − b` in `−m/2 .. m/2 − 1`. -/
def seqDiff (m a b : Nat) : Int :=
  let d := (a + m - b % m) % m
  if 2 * d ≥ m then (d : Int) - m else d

/-- R115: the container sequence comparison, normative in the manual. -/
def sdiff (a b : Nat) : Int := seqDiff 16384 a b

/-- Replace element `i` of a list. -/
def setAt {α : Type} (l : List α) (i : Nat) (x : α) : List α := l.set i x

/-- The rounded-up quotient. -/
def ceilDiv (a b : Nat) : Nat := (a + b - 1) / b

end Sys2Proof.Machine
end

