-- ==== Sys2Proof/Machine/Bank.lean ====
section
/-! DEFINITION. Machine/Bank.lean: a sparse table of numbered things, as plain data in ONE canonical form: numbers strictly
rising, and no entry equal to what an unlisted number reads as. The attribute space, the addressed memory and every
numbered unit (ports, groups, lanes, records) are held in it. -/

namespace Sys2Proof.Machine

/-- Entry `k` of a table whose unlisted entries read `d`. -/
def bankGet {α : Type} (d : α) : List (Nat × α) → Nat → α
  | [], _ => d
  | (j, v) :: r, k => if j = k then v else bankGet d r k

/-- The table without any entry numbered `k`. -/
def bankErase {α : Type} (m : List (Nat × α)) (k : Nat) : List (Nat × α) := m.filter fun e => e.1 != k

/-- Insertion at the place the rising order gives. -/
def bankInsert {α : Type} (k : Nat) (x : α) : List (Nat × α) → List (Nat × α)
  | [] => [(k, x)]
  | (j, v) :: r => if k < j then (k, x) :: (j, v) :: r else (j, v) :: bankInsert k x r

/-- Entry `k` written; writing what an unlisted entry reads as removes the entry. -/
def bankPut {α : Type} [DecidableEq α] (d : α) (m : List (Nat × α)) (k : Nat) (x : α) : List (Nat × α) :=
  if x = d then bankErase m k else bankInsert k x (bankErase m k)

/-- The canonical form: numbers strictly rising, no entry equal to its unlisted value. -/
def bankWf {α : Type} [DecidableEq α] (d : α) : List (Nat × α) → Bool
  | [] => true
  | (k, v) :: r => decide (v ≠ d) && r.all (fun e => decide (k < e.1)) && bankWf d r

end Sys2Proof.Machine
end

