-- ==== Sys2Proof/Machine/Catalogue.lean ====
section
/-! DEFINITION. Machine/Catalogue.lean: the attributes of the manual (R7, R319), one constant each, from the attribute
tables of every chapter, and the list of all of them by which GET and SET find an attribute from its address. A signed
value is held as its two's complement. Where the Reset column gives no number (fuses, pins, stores, identity) the value
is the model's, assumption 3. -/

namespace Sys2Proof.Machine

/-- R7: the types of attributes. -/
inductive Ty where
  | u (w : Nat)
  | s (w : Nat)
  | bool
  | enum
  | block (n : Nat)
  deriving DecidableEq, Repr

/-- R7: the access columns. -/
inductive Acc where
  | ro | rw | w1c
  deriving DecidableEq, Repr

/-- One row of an attribute table: class, ID, type, access, and the value of each instance at reset (for a block, the
byte that fills it). -/
structure Attr where
  cls : Nat
  id : Nat
  ty : Ty
  acc : Acc
  reset : Nat → Nat

/-- Class and ID as one number. -/
def Attr.code (a : Attr) : Nat := a.cls * 65536 + a.id

/-- The width of a value in bits; 0 for a block. -/
def Attr.width (a : Attr) : Nat :=
  match a.ty with
  | .u w => w
  | .s w => w
  | .bool => 8
  | .enum => 8
  | .block _ => 0

/-- The size of a block in bytes; 0 for another type. -/
def Attr.size (a : Attr) : Nat :=
  match a.ty with
  | .block n => n
  | _ => 0

/-- CAL.SPARES at reset, from the redundant elements of R439; for lane terminations one segment of each of six lanes counts
as one spare of the item (assumption 4). -/
def calSparesReset (i : Nat) : Nat :=
  if i < 0x100 then 4 else if i < 0x200 then 2 else if i < 0x300 then 2 else if i < 0x400 then 1 else if i < 0x500 then 0
  else if i < 0x600 then 1 else if i < 0x700 then 0 else if i < 0x800 then 1 else if i < 0x900 then 1
  else if i < 0xA00 then 1 else 0

/-- DIE.MARGIN_FLOOR (R32). -/
def DIE_MARGIN_FLOOR : Attr := ⟨2, 0x0020, (.u 16), .ro, fun _ => 0⟩

/-- DIE.FLOOR_REGION (R32). -/
def DIE_FLOOR_REGION : Attr := ⟨2, 0x0021, (.u 16), .ro, fun _ => 0xFFFF⟩

/-- DIE.MARGIN_WARN (R32). -/
def DIE_MARGIN_WARN : Attr := ⟨2, 0x0022, (.u 16), .rw, fun _ => 307⟩

/-- PRISM.SYMBOL_PERIOD (R32). -/
def PRISM_SYMBOL_PERIOD : Attr := ⟨3, 0x0001, (.u 8), .ro, fun _ => 72⟩

/-- PRISM.CLOCK_SOURCE (R32). -/
def PRISM_CLOCK_SOURCE : Attr := ⟨3, 0x0002, .enum, .ro, fun _ => 0⟩

/-- PRISM.CLOCK_PORT (R32). -/
def PRISM_CLOCK_PORT : Attr := ⟨3, 0x0003, (.u 8), .ro, fun _ => 0xFF⟩

/-- FACET.ENGINE_MAP (R32). -/
def FACET_ENGINE_MAP : Attr := ⟨4, 0x0001, (.u 32), .ro, fun _ => 0x03020100⟩

/-- FACET.SPARE_STATE (R32). -/
def FACET_SPARE_STATE : Attr := ⟨4, 0x0002, .enum, .ro, fun _ => 0⟩

/-- FACET.SPARE_PORT (R32). -/
def FACET_SPARE_PORT : Attr := ⟨4, 0x0003, (.u 8), .ro, fun _ => 0xFF⟩

/-- FACET.MARGIN_0 (R32). -/
def FACET_MARGIN_0 : Attr := ⟨4, 0x0010, (.u 16), .ro, fun _ => 0⟩

/-- FACET.MARGIN_1 (R32). -/
def FACET_MARGIN_1 : Attr := ⟨4, 0x0011, (.u 16), .ro, fun _ => 0⟩

/-- FACET.MARGIN_2 (R32). -/
def FACET_MARGIN_2 : Attr := ⟨4, 0x0012, (.u 16), .ro, fun _ => 0⟩

/-- FACET.MARGIN_3 (R32). -/
def FACET_MARGIN_3 : Attr := ⟨4, 0x0013, (.u 16), .ro, fun _ => 0⟩

/-- FACET.MARGIN_4 (R32). -/
def FACET_MARGIN_4 : Attr := ⟨4, 0x0014, (.u 16), .ro, fun _ => 0⟩

/-- LATTICE.INDEX (R32). -/
def LATTICE_INDEX : Attr := ⟨15, 0x0001, (.u 8), .ro, fun _ => 0⟩

/-- LATTICE.MEMBERS (R32). -/
def LATTICE_MEMBERS : Attr := ⟨15, 0x0002, (.u 8), .ro, fun _ => 1⟩

/-- LATTICE.TIME_MASTER (R32). -/
def LATTICE_TIME_MASTER : Attr := ⟨15, 0x0003, (.u 8), .ro, fun _ => 0⟩

/-- LATTICE.ELECTION_COUNT (R32). -/
def LATTICE_ELECTION_COUNT : Attr := ⟨15, 0x0004, (.u 32), .ro, fun _ => 0⟩

/-- LATTICE.PULSE_VALID (R32). -/
def LATTICE_PULSE_VALID : Attr := ⟨15, 0x0005, .bool, .ro, fun _ => 0⟩

/-- LATTICE.CLASH (R32). -/
def LATTICE_CLASH : Attr := ⟨15, 0x0006, .bool, .ro, fun _ => 0⟩

/-- PORT.LOADING_TX (R67). -/
def PORT_LOADING_TX : Attr := ⟨5, 0x0100, (.block 256), .ro, fun _ => 0⟩

/-- PORT.LOADING_RX (R67). -/
def PORT_LOADING_RX : Attr := ⟨5, 0x0101, (.block 256), .ro, fun _ => 0⟩

/-- PORT.GAIN_TX (R67). -/
def PORT_GAIN_TX : Attr := ⟨5, 0x0102, (.block 512), .ro, fun _ => 0⟩

/-- PORT.GAIN_RX (R67). -/
def PORT_GAIN_RX : Attr := ⟨5, 0x0103, (.block 512), .ro, fun _ => 0⟩

/-- PORT.STAGE_LOADING_TX (R67). -/
def PORT_STAGE_LOADING_TX : Attr := ⟨5, 0x0104, (.block 256), .rw, fun _ => 0⟩

/-- PORT.STAGE_LOADING_RX (R67). -/
def PORT_STAGE_LOADING_RX : Attr := ⟨5, 0x0105, (.block 256), .rw, fun _ => 0⟩

/-- PORT.STAGE_GAIN_TX (R67). -/
def PORT_STAGE_GAIN_TX : Attr := ⟨5, 0x0106, (.block 512), .rw, fun _ => 0⟩

/-- PORT.STAGE_GAIN_RX (R67). -/
def PORT_STAGE_GAIN_RX : Attr := ⟨5, 0x0107, (.block 512), .rw, fun _ => 0⟩

/-- PORT.BITS_TX (R67). -/
def PORT_BITS_TX : Attr := ⟨5, 0x0108, (.u 16), .ro, fun _ => 0⟩

/-- PORT.BITS_RX (R67). -/
def PORT_BITS_RX : Attr := ⟨5, 0x0109, (.u 16), .ro, fun _ => 0⟩

/-- PORT.NET_RATE_TX (R67). -/
def PORT_NET_RATE_TX : Attr := ⟨5, 0x010A, (.u 32), .ro, fun _ => 0⟩

/-- PORT.NET_RATE_RX (R67). -/
def PORT_NET_RATE_RX : Attr := ⟨5, 0x010B, (.u 32), .ro, fun _ => 0⟩

/-- PORT.RATE_CAP (R67). -/
def PORT_RATE_CAP : Attr := ⟨5, 0x010C, (.u 16), .rw, fun _ => 40000⟩

/-- PORT.TX_PSD (R67). -/
def PORT_TX_PSD : Attr := ⟨5, 0x010D, (.s 16), .rw, fun _ => 65536 - 940⟩

/-- PORT.TX_PSD_NOW (R67). -/
def PORT_TX_PSD_NOW : Attr := ⟨5, 0x010E, (.s 16), .ro, fun _ => 65536 - 940⟩

/-- PORT.TONE_MASK (R67). -/
def PORT_TONE_MASK : Attr := ⟨5, 0x010F, (.block 64), .rw, fun _ => 0⟩

/-- PORT.LOADING_GEN (R67). -/
def PORT_LOADING_GEN : Attr := ⟨5, 0x0110, (.u 32), .ro, fun _ => 0⟩

/-- PORT.OVER_CAP (R67). -/
def PORT_OVER_CAP : Attr := ⟨5, 0x0111, .bool, .ro, fun _ => 0⟩

/-- PRISM.PREFIX (R68). -/
def PRISM_PREFIX : Attr := ⟨3, 0x0004, .enum, .rw, fun _ => 1⟩

/-- PRISM.SF_COUNT (R68). -/
def PRISM_SF_COUNT : Attr := ⟨3, 0x0005, (.u 32), .ro, fun _ => 0⟩

/-- PORT.RX_STATE (R98). -/
def PORT_RX_STATE : Attr := ⟨5, 0x0200, .enum, .ro, fun _ => 0⟩

/-- PORT.RT_DELAY (R98). -/
def PORT_RT_DELAY : Attr := ⟨5, 0x0201, (.u 32), .ro, fun _ => 0⟩

/-- PORT.RX_OFFSET (R98). -/
def PORT_RX_OFFSET : Attr := ⟨5, 0x0202, (.s 16), .ro, fun _ => 0⟩

/-- PORT.ERLE (R98). -/
def PORT_ERLE : Attr := ⟨5, 0x0203, (.u 16), .ro, fun _ => 0⟩

/-- PORT.ECHO_WINDOWS (R98). -/
def PORT_ECHO_WINDOWS : Attr := ⟨5, 0x0204, (.block 16), .ro, fun _ => 0xFF⟩

/-- PORT.TSF_RESIDUAL (R98). -/
def PORT_TSF_RESIDUAL : Attr := ⟨5, 0x0205, (.s 16), .ro, fun _ => 0⟩

/-- PORT.TSF_UPDATES (R98). -/
def PORT_TSF_UPDATES : Attr := ⟨5, 0x0206, (.u 32), .ro, fun _ => 0⟩

/-- PORT.NEXT_SLOTS (R98). -/
def PORT_NEXT_SLOTS : Attr := ⟨5, 0x0207, (.block 8), .ro, fun _ => 0xFF⟩

/-- PORT.NEXT_CANCEL (R98). -/
def PORT_NEXT_CANCEL : Attr := ⟨5, 0x0208, (.u 16), .ro, fun _ => 0⟩

/-- PORT.RETIRED_TX (R98). -/
def PORT_RETIRED_TX : Attr := ⟨5, 0x0209, (.u 32), .ro, fun _ => 0⟩

/-- PORT.RETIRED_RX (R98). -/
def PORT_RETIRED_RX : Attr := ⟨5, 0x020A, (.u 32), .ro, fun _ => 0⟩

/-- PORT.RETIRE_CAUSE (R98). -/
def PORT_RETIRE_CAUSE : Attr := ⟨5, 0x020B, (.block 64), .ro, fun _ => 0⟩

/-- PORT.SHED_COUNT (R98). -/
def PORT_SHED_COUNT : Attr := ⟨5, 0x020C, (.u 32), .ro, fun _ => 0⟩

/-- PORT.INGRESS_COUNT (R98). -/
def PORT_INGRESS_COUNT : Attr := ⟨5, 0x020D, (.u 32), .ro, fun _ => 0⟩

/-- PORT.ARBITRATIONS (R98). -/
def PORT_ARBITRATIONS : Attr := ⟨5, 0x020E, (.u 32), .ro, fun _ => 0⟩

/-- PORT.MICROBREAKS (R98). -/
def PORT_MICROBREAKS : Attr := ⟨5, 0x020F, (.u 32), .ro, fun _ => 0⟩

/-- PORT.INGRESS_RETIRE (R98). -/
def PORT_INGRESS_RETIRE : Attr := ⟨5, 0x0210, .bool, .rw, fun _ => 1⟩

/-- PORT.NOTICE_REJECTS (R98). -/
def PORT_NOTICE_REJECTS : Attr := ⟨5, 0x0211, (.u 32), .ro, fun _ => 0⟩

/-- PRISM.CLOCK_OFFSET (R100). -/
def PRISM_CLOCK_OFFSET : Attr := ⟨3, 0x0010, (.s 32), .ro, fun _ => 0⟩

/-- PRISM.CLOCK_SLEWING (R100). -/
def PRISM_CLOCK_SLEWING : Attr := ⟨3, 0x0011, .bool, .ro, fun _ => 0⟩

/-- PRISM.ADMISSION_PORT (R100). -/
def PRISM_ADMISSION_PORT : Attr := ⟨3, 0x0012, (.u 8), .ro, fun _ => 0xFF⟩

/-- PORT.INTERLEAVE (R130). -/
def PORT_INTERLEAVE : Attr := ⟨5, 0x0300, .enum, .rw, fun _ => 3⟩

/-- PORT.INTERLEAVE_NOW (R130). -/
def PORT_INTERLEAVE_NOW : Attr := ⟨5, 0x0301, .enum, .ro, fun _ => 0⟩

/-- PORT.RECAST_RETRY (R130). -/
def PORT_RECAST_RETRY : Attr := ⟨5, 0x0302, (.u 32), .rw, fun _ => 0⟩

/-- PORT.RECAST_DEADLINE (R130). -/
def PORT_RECAST_DEADLINE : Attr := ⟨5, 0x0303, (.u 32), .rw, fun _ => 0⟩

/-- PORT.RX_HIGHEST (R130). -/
def PORT_RX_HIGHEST : Attr := ⟨5, 0x0304, (.u 16), .ro, fun _ => 0x3FFF⟩

/-- PORT.TX_NEXT (R130). -/
def PORT_TX_NEXT : Attr := ⟨5, 0x0305, (.u 16), .ro, fun _ => 0⟩

/-- PORT.HOLES (R130). -/
def PORT_HOLES : Attr := ⟨5, 0x0306, (.u 16), .ro, fun _ => 0⟩

/-- PORT.REORDER_FILL (R130). -/
def PORT_REORDER_FILL : Attr := ⟨5, 0x0307, (.u 8), .ro, fun _ => 0⟩

/-- PORT.CONT_ACCEPTED (R130). -/
def PORT_CONT_ACCEPTED : Attr := ⟨5, 0x0310, (.u 32), .ro, fun _ => 0⟩

/-- PORT.CONT_CORRECTED (R130). -/
def PORT_CONT_CORRECTED : Attr := ⟨5, 0x0311, (.u 32), .ro, fun _ => 0⟩

/-- PORT.CONT_REJECTED (R130). -/
def PORT_CONT_REJECTED : Attr := ⟨5, 0x0312, (.u 32), .ro, fun _ => 0⟩

/-- PORT.NAK_SENT (R130). -/
def PORT_NAK_SENT : Attr := ⟨5, 0x0313, (.u 32), .ro, fun _ => 0⟩

/-- PORT.RECAST_SENT (R130). -/
def PORT_RECAST_SENT : Attr := ⟨5, 0x0314, (.u 32), .ro, fun _ => 0⟩

/-- PORT.RECAST_FILLED (R130). -/
def PORT_RECAST_FILLED : Attr := ⟨5, 0x0315, (.u 32), .ro, fun _ => 0⟩

/-- PORT.RECAST_DROPPED (R130). -/
def PORT_RECAST_DROPPED : Attr := ⟨5, 0x0316, (.u 32), .ro, fun _ => 0⟩

/-- PORT.DUPLICATES (R130). -/
def PORT_DUPLICATES : Attr := ⟨5, 0x0317, (.u 32), .ro, fun _ => 0⟩

/-- PORT.WINDOW_REJECTS (R130). -/
def PORT_WINDOW_REJECTS : Attr := ⟨5, 0x0318, (.u 32), .ro, fun _ => 0⟩

/-- PORT.NAK_IGNORED (R130). -/
def PORT_NAK_IGNORED : Attr := ⟨5, 0x0319, (.u 32), .ro, fun _ => 0⟩

/-- PORT.RESYNC_DISCARDS (R130). -/
def PORT_RESYNC_DISCARDS : Attr := ⟨5, 0x031A, (.u 32), .ro, fun _ => 0⟩

/-- PORT.FCS_DROPS (R130). -/
def PORT_FCS_DROPS : Attr := ⟨5, 0x031B, (.u 32), .ro, fun _ => 0⟩

/-- PORT.STORE_LOSS (R130). -/
def PORT_STORE_LOSS : Attr := ⟨5, 0x031C, (.u 32), .ro, fun _ => 0⟩

/-- PORT.RESYNCS (R130). -/
def PORT_RESYNCS : Attr := ⟨5, 0x031D, (.u 32), .ro, fun _ => 0⟩

/-- PORT.STATE (R167). -/
def PORT_STATE : Attr := ⟨5, 0x0400, .enum, .ro, fun _ => 0⟩

/-- PORT.TRAIN_PHASE (R167). -/
def PORT_TRAIN_PHASE : Attr := ⟨5, 0x0401, .enum, .ro, fun _ => 0⟩

/-- PORT.NEG_MODE (R167). -/
def PORT_NEG_MODE : Attr := ⟨5, 0x0402, .enum, .rw, fun _ => 0⟩

/-- PORT.NEG_RESULT (R167). -/
def PORT_NEG_RESULT : Attr := ⟨5, 0x0403, .enum, .ro, fun _ => 0⟩

/-- PORT.CLASS (R167). -/
def PORT_CLASS : Attr := ⟨5, 0x0404, .enum, .rw, fun _ => 3⟩

/-- PORT.CLASS_NOW (R167). -/
def PORT_CLASS_NOW : Attr := ⟨5, 0x0405, .enum, .ro, fun _ => 3⟩

/-- PORT.TARGET_MARGIN (R167). -/
def PORT_TARGET_MARGIN : Attr := ⟨5, 0x0406, (.u 8), .rw, fun _ => 30⟩

/-- PORT.MARGIN_USED (R167). -/
def PORT_MARGIN_USED : Attr := ⟨5, 0x0407, (.u 8), .ro, fun _ => 0⟩

/-- PORT.PARTNER_ABILITY (R167). -/
def PORT_PARTNER_ABILITY : Attr := ⟨5, 0x0408, (.u 64), .ro, fun _ => 0⟩

/-- PORT.LAST_FAIL (R167). -/
def PORT_LAST_FAIL : Attr := ⟨5, 0x0409, (.u 16), .ro, fun _ => 0⟩

/-- PORT.TRAIN_COUNT (R167). -/
def PORT_TRAIN_COUNT : Attr := ⟨5, 0x040A, (.u 32), .ro, fun _ => 0⟩

/-- PORT.TRAIN_FAILS (R167). -/
def PORT_TRAIN_FAILS : Attr := ⟨5, 0x040B, (.u 32), .ro, fun _ => 0⟩

/-- PORT.PARTNER_LOSSES (R167). -/
def PORT_PARTNER_LOSSES : Attr := ⟨5, 0x040C, (.u 32), .ro, fun _ => 0⟩

/-- PORT.RETRAIN_HOLDOFF (R167). -/
def PORT_RETRAIN_HOLDOFF : Attr := ⟨5, 0x040D, (.u 16), .rw, fun _ => 100⟩

/-- PORT.LEGACY_LPI (R167). -/
def PORT_LEGACY_LPI : Attr := ⟨5, 0x040E, .bool, .rw, fun _ => 1⟩

/-- PORT.SWAP_STATE (R167). -/
def PORT_SWAP_STATE : Attr := ⟨5, 0x040F, .enum, .ro, fun _ => 0⟩

/-- PORT.SWAP_SF (R167). -/
def PORT_SWAP_SF : Attr := ⟨5, 0x0410, (.u 8), .ro, fun _ => 0⟩

/-- PORT.CHORD (R167). -/
def PORT_CHORD : Attr := ⟨5, 0x0411, (.u 8), .ro, fun _ => 0xFF⟩

/-- PORT.CHORD_MEMBER (R167). -/
def PORT_CHORD_MEMBER : Attr := ⟨5, 0x0412, (.u 8), .ro, fun _ => 0xFF⟩

/-- PORT.AUTO_RETRAIN (R167). -/
def PORT_AUTO_RETRAIN : Attr := ⟨5, 0x0413, .bool, .rw, fun _ => 1⟩

/-- LATTICE.CHORD_STATE (R169). -/
def LATTICE_CHORD_STATE : Attr := ⟨15, 0x0010, (.block 32), .ro, fun _ => 0⟩

/-- SVC.ROLE (R199). -/
def SVC_ROLE : Attr := ⟨16, 0x0001, .enum, .ro, fun _ => 0⟩

/-- SVC.MOD (R199). -/
def SVC_MOD : Attr := ⟨16, 0x0002, .enum, .rw, fun _ => 0⟩

/-- SVC.POLL_INTERVAL (R199). -/
def SVC_POLL_INTERVAL : Attr := ⟨16, 0x0003, (.u 16), .rw, fun _ => 1000⟩

/-- SVC.POLL_RETRIES (R199). -/
def SVC_POLL_RETRIES : Attr := ⟨16, 0x0004, (.u 8), .rw, fun _ => 2⟩

/-- SVC.NODE_PRESENT (R199). -/
def SVC_NODE_PRESENT : Attr := ⟨16, 0x0005, (.u 8), .ro, fun _ => 0⟩

/-- SVC.NODE_SNR (R199). -/
def SVC_NODE_SNR : Attr := ⟨16, 0x0006, (.block 5), .ro, fun _ => 0⟩

/-- SVC.TX_QUEUE (R199). -/
def SVC_TX_QUEUE : Attr := ⟨16, 0x0007, (.u 8), .ro, fun _ => 0⟩

/-- SVC.RX_QUEUE (R199). -/
def SVC_RX_QUEUE : Attr := ⟨16, 0x0008, (.u 8), .ro, fun _ => 0⟩

/-- SVC.BURSTS_TX (R199). -/
def SVC_BURSTS_TX : Attr := ⟨16, 0x0010, (.u 32), .ro, fun _ => 0⟩

/-- SVC.BURSTS_RX (R199). -/
def SVC_BURSTS_RX : Attr := ⟨16, 0x0011, (.u 32), .ro, fun _ => 0⟩

/-- SVC.HEADER_FAILS (R199). -/
def SVC_HEADER_FAILS : Attr := ⟨16, 0x0012, (.u 32), .ro, fun _ => 0⟩

/-- SVC.PAYLOAD_FAILS (R199). -/
def SVC_PAYLOAD_FAILS : Attr := ⟨16, 0x0013, (.u 32), .ro, fun _ => 0⟩

/-- SVC.CAPTURES (R199). -/
def SVC_CAPTURES : Attr := ⟨16, 0x0014, (.u 32), .ro, fun _ => 0⟩

/-- SVC.RECOVERED (R199). -/
def SVC_RECOVERED : Attr := ⟨16, 0x0015, (.u 32), .ro, fun _ => 0⟩

/-- SVC.RESENDS (R199). -/
def SVC_RESENDS : Attr := ⟨16, 0x0016, (.u 32), .ro, fun _ => 0⟩

/-- SVC.RX_REFUSED (R199). -/
def SVC_RX_REFUSED : Attr := ⟨16, 0x0017, (.u 32), .ro, fun _ => 0⟩

/-- SVC.WAKE_RX (R199). -/
def SVC_WAKE_RX : Attr := ⟨16, 0x0018, (.u 32), .ro, fun _ => 0⟩

/-- PORT.SNR_RX (R223). -/
def PORT_SNR_RX : Attr := ⟨5, 0x0500, (.block 512), .ro, fun _ => 0⟩

/-- PORT.SNR_HISTORY (R223). -/
def PORT_SNR_HISTORY : Attr := ⟨5, 0x0501, (.block 2048), .ro, fun _ => 0⟩

/-- PORT.SNR_HIST_HEAD (R223). -/
def PORT_SNR_HIST_HEAD : Attr := ⟨5, 0x0502, (.u 8), .ro, fun _ => 0xFF⟩

/-- PORT.SNR_HIST_INTERVAL (R223). -/
def PORT_SNR_HIST_INTERVAL : Attr := ⟨5, 0x0503, (.u 16), .rw, fun _ => 1000⟩

/-- PORT.LQ_RX (R223). -/
def PORT_LQ_RX : Attr := ⟨5, 0x0504, (.u 8), .ro, fun _ => 0⟩

/-- PORT.LQ_RX_AVG (R223). -/
def PORT_LQ_RX_AVG : Attr := ⟨5, 0x0505, (.u 8), .ro, fun _ => 0⟩

/-- PORT.LQ_RX_MIN (R223). -/
def PORT_LQ_RX_MIN : Attr := ⟨5, 0x0506, (.u 8), .ro, fun _ => 0⟩

/-- PORT.LQ_WARN (R223). -/
def PORT_LQ_WARN : Attr := ⟨5, 0x0507, (.u 8), .rw, fun _ => 136⟩

/-- PORT.MARGIN_RX (R223). -/
def PORT_MARGIN_RX : Attr := ⟨5, 0x0508, (.s 16), .ro, fun _ => 0⟩

/-- PORT.COUNTER_EPOCH (R223). -/
def PORT_COUNTER_EPOCH : Attr := ⟨5, 0x0509, (.u 32), .ro, fun _ => 0⟩

/-- PORT.RS_SYMBOLS_CORRECTED (R223). -/
def PORT_RS_SYMBOLS_CORRECTED : Attr := ⟨5, 0x050A, (.u 32), .ro, fun _ => 0⟩

/-- PORT.DATA_SYMBOLS_RX (R223). -/
def PORT_DATA_SYMBOLS_RX : Attr := ⟨5, 0x050B, (.u 32), .ro, fun _ => 0⟩

/-- PORT.LQ_LOW_COUNT (R223). -/
def PORT_LQ_LOW_COUNT : Attr := ⟨5, 0x050C, (.u 32), .ro, fun _ => 0⟩

/-- PORT.LEGACY_CORRECTED (R223). -/
def PORT_LEGACY_CORRECTED : Attr := ⟨5, 0x050D, (.u 32), .ro, fun _ => 0⟩

/-- PORT.LEGACY_UNCORRECTABLE (R223). -/
def PORT_LEGACY_UNCORRECTABLE : Attr := ⟨5, 0x050E, (.u 32), .ro, fun _ => 0⟩

/-- PORT.LEGACY_FCS_DROPS (R223). -/
def PORT_LEGACY_FCS_DROPS : Attr := ⟨5, 0x050F, (.u 32), .ro, fun _ => 0⟩

/-- PORT.SCAN_VELOCITY (R223). -/
def PORT_SCAN_VELOCITY : Attr := ⟨5, 0x0510, (.u 16), .rw, fun _ => 2000⟩

/-- PORT.SCAN_LOSS (R223). -/
def PORT_SCAN_LOSS : Attr := ⟨5, 0x0511, (.u 16), .rw, fun _ => 200⟩

/-- PORT.SCAN_THRESHOLD (R223). -/
def PORT_SCAN_THRESHOLD : Attr := ⟨5, 0x0512, (.s 16), .rw, fun _ => 65536 - 400⟩

/-- PORT.SCAN_RESULT (R223). -/
def PORT_SCAN_RESULT : Attr := ⟨5, 0x0513, (.block 256), .ro, fun _ => 0⟩

/-- PORT.SCAN_PROFILE (R223). -/
def PORT_SCAN_PROFILE : Attr := ⟨5, 0x0514, (.block 1536), .ro, fun _ => 0xFF⟩

/-- PORT.SCAN_COUNT (R223). -/
def PORT_SCAN_COUNT : Attr := ⟨5, 0x0515, (.u 32), .ro, fun _ => 0⟩

/-- PORT.CLAIMS (R223). -/
def PORT_CLAIMS : Attr := ⟨5, 0x0516, (.u 16), .ro, fun _ => 0⟩

/-- DEVICE.SNAP_STATE (R224). -/
def DEVICE_SNAP_STATE : Attr := ⟨1, 0x0700, (.block 8), .ro, fun _ => 0⟩

/-- DEVICE.SNAP_READY (R224). -/
def DEVICE_SNAP_READY : Attr := ⟨1, 0x0701, (.u 8), .w1c, fun _ => 0⟩

/-- DEVICE.SNAP_DATA (R224). -/
def DEVICE_SNAP_DATA : Attr := ⟨1, 0x0702, (.block 16640), .ro, fun _ => 0⟩

/-- GROUP.STATE (R263). -/
def GROUP_STATE : Attr := ⟨7, 0x0001, .enum, .ro, fun _ => 0⟩

/-- GROUP.WIDTH (R263). -/
def GROUP_WIDTH : Attr := ⟨7, 0x0002, (.u 8), .ro, fun _ => 0⟩

/-- GROUP.LANE_MAP (R263). -/
def GROUP_LANE_MAP : Attr := ⟨7, 0x0003, (.u 16), .ro, fun _ => 0x3210⟩

/-- GROUP.SPARE_STATE (R263). -/
def GROUP_SPARE_STATE : Attr := ⟨7, 0x0004, .enum, .ro, fun _ => 0⟩

/-- GROUP.IDLE_MODE (R263). -/
def GROUP_IDLE_MODE : Attr := ⟨7, 0x0005, .enum, .ro, fun _ => 0⟩

/-- GROUP.L0S_DWELL (R263). -/
def GROUP_L0S_DWELL : Attr := ⟨7, 0x0006, (.u 16), .rw, fun _ => 200⟩

/-- GROUP.REPLAY_TIMER (R263). -/
def GROUP_REPLAY_TIMER : Attr := ⟨7, 0x0007, (.u 16), .rw, fun _ => 1000⟩

/-- GROUP.REPLAY_LIMIT (R263). -/
def GROUP_REPLAY_LIMIT : Attr := ⟨7, 0x0008, (.u 8), .rw, fun _ => 4⟩

/-- GROUP.SUB_LEAD (R263). -/
def GROUP_SUB_LEAD : Attr := ⟨7, 0x0009, (.u 8), .rw, fun _ => 16⟩

/-- GROUP.CAPACITY (R263). -/
def GROUP_CAPACITY : Attr := ⟨7, 0x000A, (.u 32), .ro, fun _ => 0⟩

/-- GROUP.LAST_TRAIN (R263). -/
def GROUP_LAST_TRAIN : Attr := ⟨7, 0x000B, (.u 16), .ro, fun _ => 0⟩

/-- GROUP.ROWS_SENT (R263). -/
def GROUP_ROWS_SENT : Attr := ⟨7, 0x0010, (.u 32), .ro, fun _ => 0⟩

/-- GROUP.ROWS_ACCEPTED (R263). -/
def GROUP_ROWS_ACCEPTED : Attr := ⟨7, 0x0011, (.u 32), .ro, fun _ => 0⟩

/-- GROUP.ROWS_REJECTED (R263). -/
def GROUP_ROWS_REJECTED : Attr := ⟨7, 0x0012, (.u 32), .ro, fun _ => 0⟩

/-- GROUP.NAK_SENT (R263). -/
def GROUP_NAK_SENT : Attr := ⟨7, 0x0013, (.u 32), .ro, fun _ => 0⟩

/-- GROUP.REPLAYS (R263). -/
def GROUP_REPLAYS : Attr := ⟨7, 0x0014, (.u 32), .ro, fun _ => 0⟩

/-- GROUP.REPLAY_ROWS (R263). -/
def GROUP_REPLAY_ROWS : Attr := ⟨7, 0x0015, (.u 32), .ro, fun _ => 0⟩

/-- GROUP.ROWS_DROPPED (R263). -/
def GROUP_ROWS_DROPPED : Attr := ⟨7, 0x0016, (.u 32), .ro, fun _ => 0⟩

/-- GROUP.SUBSTITUTIONS (R263). -/
def GROUP_SUBSTITUTIONS : Attr := ⟨7, 0x0017, (.u 32), .ro, fun _ => 0⟩

/-- GROUP.L0S_ENTRIES (R263). -/
def GROUP_L0S_ENTRIES : Attr := ⟨7, 0x0018, (.u 32), .ro, fun _ => 0⟩

/-- GROUP.TRAIN_COUNT (R263). -/
def GROUP_TRAIN_COUNT : Attr := ⟨7, 0x0019, (.u 32), .ro, fun _ => 0⟩

/-- LANE.STATE (R264). -/
def LANE_STATE : Attr := ⟨8, 0x0001, .enum, .ro, fun _ => 0⟩

/-- LANE.LOGICAL (R264). -/
def LANE_LOGICAL : Attr := ⟨8, 0x0002, (.u 8), .ro, fun _ => 0xFF⟩

/-- LANE.TX_PRE (R264). -/
def LANE_TX_PRE : Attr := ⟨8, 0x0003, (.u 8), .ro, fun _ => 0⟩

/-- LANE.TX_POST (R264). -/
def LANE_TX_POST : Attr := ⟨8, 0x0004, (.u 8), .ro, fun _ => 0⟩

/-- LANE.TX_MAIN (R264). -/
def LANE_TX_MAIN : Attr := ⟨8, 0x0005, (.u 8), .ro, fun _ => 64⟩

/-- LANE.TX_PRESET (R264). -/
def LANE_TX_PRESET : Attr := ⟨8, 0x0006, .enum, .rw, fun _ => 2⟩

/-- LANE.RX_CTLE (R264). -/
def LANE_RX_CTLE : Attr := ⟨8, 0x0007, (.u 8), .ro, fun _ => 0⟩

/-- LANE.RX_DFE (R264). -/
def LANE_RX_DFE : Attr := ⟨8, 0x0008, (.block 8), .ro, fun _ => 0⟩

/-- LANE.EYE_HEIGHT (R264). -/
def LANE_EYE_HEIGHT : Attr := ⟨8, 0x0009, (.u 16), .ro, fun _ => 0⟩

/-- LANE.SKEW (R264). -/
def LANE_SKEW : Attr := ⟨8, 0x000A, (.u 16), .ro, fun _ => 0⟩

/-- LANE.FAULT_UNCORR (R264). -/
def LANE_FAULT_UNCORR : Attr := ⟨8, 0x000B, (.u 8), .rw, fun _ => 4⟩

/-- LANE.FAULT_CORR (R264). -/
def LANE_FAULT_CORR : Attr := ⟨8, 0x000C, (.u 16), .rw, fun _ => 8192⟩

/-- LANE.CW_RECEIVED (R264). -/
def LANE_CW_RECEIVED : Attr := ⟨8, 0x0010, (.u 32), .ro, fun _ => 0⟩

/-- LANE.SYMBOLS_CORRECTED (R264). -/
def LANE_SYMBOLS_CORRECTED : Attr := ⟨8, 0x0011, (.u 32), .ro, fun _ => 0⟩

/-- LANE.CW_UNCORRECTABLE (R264). -/
def LANE_CW_UNCORRECTABLE : Attr := ⟨8, 0x0012, (.u 32), .ro, fun _ => 0⟩

/-- LANE.PATTERN_ERRORS (R264). -/
def LANE_PATTERN_ERRORS : Attr := ⟨8, 0x0013, (.u 32), .ro, fun _ => 0⟩

/-- LANE.LOCK_LOSSES (R264). -/
def LANE_LOCK_LOSSES : Attr := ⟨8, 0x0014, (.u 32), .ro, fun _ => 0⟩

/-- LANE.FAULT_COUNT (R264). -/
def LANE_FAULT_COUNT : Attr := ⟨8, 0x0015, (.u 32), .ro, fun _ => 0⟩

/-- FLOW.STATE (R296). -/
def FLOW_STATE : Attr := ⟨6, 0x0001, .enum, .ro, fun _ => 0⟩

/-- FLOW.KIND (R296). -/
def FLOW_KIND : Attr := ⟨6, 0x0002, .enum, .ro, fun _ => 0⟩

/-- FLOW.TARGET (R296). -/
def FLOW_TARGET : Attr := ⟨6, 0x0003, (.u 8), .ro, fun _ => 0xFF⟩

/-- FLOW.CLASS (R296). -/
def FLOW_CLASS : Attr := ⟨6, 0x0004, (.u 8), .ro, fun _ => 0xFF⟩

/-- FLOW.MAP (R296). -/
def FLOW_MAP : Attr := ⟨6, 0x0005, (.u 32), .ro, fun _ => 0xFFFFFFFF⟩

/-- FLOW.ACTIVE_HOST (R296). -/
def FLOW_ACTIVE_HOST : Attr := ⟨6, 0x0006, (.u 8), .ro, fun _ => 0xFF⟩

/-- FLOW.INNER (R296). -/
def FLOW_INNER : Attr := ⟨6, 0x0007, (.u 8), .ro, fun _ => 0xFF⟩

/-- FLOW.MEMBER (R296). -/
def FLOW_MEMBER : Attr := ⟨6, 0x0008, (.u 8), .ro, fun _ => 0xFF⟩

/-- FLOW.FLAGS (R296). -/
def FLOW_FLAGS : Attr := ⟨6, 0x0009, (.u 8), .ro, fun _ => 0⟩

/-- FLOW.FRAME_HINT (R296). -/
def FLOW_FRAME_HINT : Attr := ⟨6, 0x000A, (.u 16), .ro, fun _ => 0⟩

/-- FLOW.RATE_TO_HOST (R296). -/
def FLOW_RATE_TO_HOST : Attr := ⟨6, 0x000B, (.u 32), .ro, fun _ => 0⟩

/-- FLOW.RATE_FROM_HOST (R296). -/
def FLOW_RATE_FROM_HOST : Attr := ⟨6, 0x000C, (.u 32), .ro, fun _ => 0⟩

/-- FLOW.CHARGE_TO_HOST (R296). -/
def FLOW_CHARGE_TO_HOST : Attr := ⟨6, 0x000D, (.u 32), .ro, fun _ => 0⟩

/-- FLOW.CHARGE_FROM_HOST (R296). -/
def FLOW_CHARGE_FROM_HOST : Attr := ⟨6, 0x000E, (.u 32), .ro, fun _ => 0⟩

/-- FLOW.FRAMES_TO_HOST (R296). -/
def FLOW_FRAMES_TO_HOST : Attr := ⟨6, 0x0010, (.u 32), .ro, fun _ => 0⟩

/-- FLOW.FRAMES_FROM_HOST (R296). -/
def FLOW_FRAMES_FROM_HOST : Attr := ⟨6, 0x0011, (.u 32), .ro, fun _ => 0⟩

/-- FLOW.DROP_LINE (R296). -/
def FLOW_DROP_LINE : Attr := ⟨6, 0x0012, (.u 32), .ro, fun _ => 0⟩

/-- FLOW.DROP_EGRESS_TX (R296). -/
def FLOW_DROP_EGRESS_TX : Attr := ⟨6, 0x0013, (.u 32), .ro, fun _ => 0⟩

/-- FLOW.DROP_EGRESS_RX (R296). -/
def FLOW_DROP_EGRESS_RX : Attr := ⟨6, 0x0014, (.u 32), .ro, fun _ => 0⟩

/-- FLOW.DROP_NO_PATH (R296). -/
def FLOW_DROP_NO_PATH : Attr := ⟨6, 0x0015, (.u 32), .ro, fun _ => 0⟩

/-- FLOW.DROP_LINK (R296). -/
def FLOW_DROP_LINK : Attr := ⟨6, 0x0016, (.u 32), .ro, fun _ => 0⟩

/-- FLOW.DROP_FORMAT (R296). -/
def FLOW_DROP_FORMAT : Attr := ⟨6, 0x0017, (.u 32), .ro, fun _ => 0⟩

/-- FLOW.DROP_STORE (R296). -/
def FLOW_DROP_STORE : Attr := ⟨6, 0x0018, (.u 32), .ro, fun _ => 0⟩

/-- FLOW.TS_RX (R296). -/
def FLOW_TS_RX : Attr := ⟨6, 0x0019, (.u 32), .ro, fun _ => 0⟩

/-- FLOW.TS_INVALID (R296). -/
def FLOW_TS_INVALID : Attr := ⟨6, 0x001A, (.u 32), .ro, fun _ => 0⟩

/-- FLOW.TS_TX_REPORTS (R296). -/
def FLOW_TS_TX_REPORTS : Attr := ⟨6, 0x001B, (.u 32), .ro, fun _ => 0⟩

/-- GROUP.CHARGED (R297). -/
def GROUP_CHARGED : Attr := ⟨7, 0x0020, (.u 32), .ro, fun _ => 0⟩

/-- GROUP.OVERSUB (R297). -/
def GROUP_OVERSUB : Attr := ⟨7, 0x0021, .bool, .ro, fun _ => 0⟩

/-- GROUP.EGRESS_FILL (R297). -/
def GROUP_EGRESS_FILL : Attr := ⟨7, 0x0022, (.u 32), .ro, fun _ => 0⟩

/-- GROUP.MISSED_SLOTS (R297). -/
def GROUP_MISSED_SLOTS : Attr := ⟨7, 0x0023, (.u 32), .ro, fun _ => 0⟩

/-- GROUP.ROWS_DEFERRED (R297). -/
def GROUP_ROWS_DEFERRED : Attr := ⟨7, 0x0024, (.u 32), .ro, fun _ => 0⟩

/-- GROUP.UNKNOWN_FLOW (R297). -/
def GROUP_UNKNOWN_FLOW : Attr := ⟨7, 0x0025, (.u 32), .ro, fun _ => 0⟩

/-- GROUP.UNIT_ERRORS (R297). -/
def GROUP_UNIT_ERRORS : Attr := ⟨7, 0x0026, (.u 32), .ro, fun _ => 0⟩

/-- PORT.FLOW_MAP (R298). -/
def PORT_FLOW_MAP : Attr := ⟨5, 0x0600, (.block 32), .ro, fun _ => 0xFF⟩

/-- PORT.CHARGED_RX (R298). -/
def PORT_CHARGED_RX : Attr := ⟨5, 0x0601, (.u 32), .ro, fun _ => 0⟩

/-- PORT.CHARGED_TX (R298). -/
def PORT_CHARGED_TX : Attr := ⟨5, 0x0602, (.u 32), .ro, fun _ => 0⟩

/-- PORT.OVERSUB (R298). -/
def PORT_OVERSUB : Attr := ⟨5, 0x0603, .bool, .ro, fun _ => 0⟩

/-- PORT.UNMAPPED_DROPS (R298). -/
def PORT_UNMAPPED_DROPS : Attr := ⟨5, 0x0604, (.u 32), .ro, fun _ => 0⟩

/-- PORT.MISSED_SLOTS (R298). -/
def PORT_MISSED_SLOTS : Attr := ⟨5, 0x0605, (.u 32), .ro, fun _ => 0⟩

/-- PORT.EGRESS_FILL (R298). -/
def PORT_EGRESS_FILL : Attr := ⟨5, 0x0606, (.u 32), .ro, fun _ => 0⟩

/-- PORT.TS_TRIM (R298). -/
def PORT_TS_TRIM : Attr := ⟨5, 0x0607, (.s 16), .rw, fun _ => 0⟩

/-- DEVICE.CMD_SEQ_NEXT (R338). -/
def DEVICE_CMD_SEQ_NEXT : Attr := ⟨1, 0x0200, (.u 16), .ro, fun _ => 0⟩

/-- DEVICE.CMD_EXECUTED (R338). -/
def DEVICE_CMD_EXECUTED : Attr := ⟨1, 0x0201, (.u 32), .ro, fun _ => 0⟩

/-- DEVICE.CMD_BAD_CHECK (R338). -/
def DEVICE_CMD_BAD_CHECK : Attr := ⟨1, 0x0202, (.u 32), .ro, fun _ => 0⟩

/-- DEVICE.CMD_BAD_LENGTH (R338). -/
def DEVICE_CMD_BAD_LENGTH : Attr := ⟨1, 0x0203, (.u 32), .ro, fun _ => 0⟩

/-- DEVICE.CMD_SEQUENCE (R338). -/
def DEVICE_CMD_SEQUENCE : Attr := ⟨1, 0x0204, (.u 32), .ro, fun _ => 0⟩

/-- DEVICE.CMD_DUPLICATES (R338). -/
def DEVICE_CMD_DUPLICATES : Attr := ⟨1, 0x0205, (.u 32), .ro, fun _ => 0⟩

/-- DEVICE.CMD_XFER_TIMEOUTS (R338). -/
def DEVICE_CMD_XFER_TIMEOUTS : Attr := ⟨1, 0x0206, (.u 32), .ro, fun _ => 0⟩

/-- DEVICE.CMD_OUTSTANDING (R338). -/
def DEVICE_CMD_OUTSTANDING : Attr := ⟨1, 0x0207, (.u 8), .ro, fun _ => 0⟩

/-- DEVICE.REPLY_HOLD (R338). -/
def DEVICE_REPLY_HOLD : Attr := ⟨1, 0x0208, (.u 16), .rw, fun i => if i < 2 then 1000 else 0⟩

/-- DEVICE.TRANSPORT (R338). -/
def DEVICE_TRANSPORT : Attr := ⟨1, 0x0209, .enum, .ro, fun _ => 0⟩

/-- DEVICE.COMPLETION (R338). -/
def DEVICE_COMPLETION : Attr := ⟨1, 0x0210, (.block 1040), .ro, fun _ => 0⟩

/-- DEVICE.OWNER (R366). -/
def DEVICE_OWNER : Attr := ⟨1, 0x0300, (.u 8), .ro, fun _ => 0xFF⟩

/-- DEVICE.OWNER_PRIORITY (R366). -/
def DEVICE_OWNER_PRIORITY : Attr := ⟨1, 0x0301, (.u 8), .ro, fun _ => 0xFF⟩

/-- DEVICE.LEASE (R366). -/
def DEVICE_LEASE : Attr := ⟨1, 0x0302, (.u 32), .ro, fun _ => 0⟩

/-- DEVICE.LEASE_LEFT (R366). -/
def DEVICE_LEASE_LEFT : Attr := ⟨1, 0x0303, (.u 32), .ro, fun _ => 0⟩

/-- DEVICE.HANDOVER_TARGET (R366). -/
def DEVICE_HANDOVER_TARGET : Attr := ⟨1, 0x0304, (.u 8), .ro, fun _ => 0xFF⟩

/-- DEVICE.OWNER_EPOCH (R366). -/
def DEVICE_OWNER_EPOCH : Attr := ⟨1, 0x0305, (.u 32), .ro, fun _ => 0⟩

/-- DEVICE.EVENT_SEQ_NEXT (R366). -/
def DEVICE_EVENT_SEQ_NEXT : Attr := ⟨1, 0x0306, (.u 32), .ro, fun _ => 0⟩

/-- EVENTQ.COUNT (R367). -/
def EVENTQ_COUNT : Attr := ⟨13, 0x0001, (.u 16), .ro, fun _ => 0⟩

/-- EVENTQ.FILTER (R367). -/
def EVENTQ_FILTER : Attr := ⟨13, 0x0002, (.u 16), .ro, fun _ => 0xFFFF⟩

/-- EVENTQ.IRQ_EN (R367). -/
def EVENTQ_IRQ_EN : Attr := ⟨13, 0x0003, .bool, .ro, fun _ => 0⟩

/-- EVENTQ.QUEUED (R367). -/
def EVENTQ_QUEUED : Attr := ⟨13, 0x0004, (.u 32), .ro, fun _ => 0⟩

/-- EVENTQ.LOST (R367). -/
def EVENTQ_LOST : Attr := ⟨13, 0x0005, (.u 32), .ro, fun _ => 0⟩

/-- EVENTQ.FENCES (R367). -/
def EVENTQ_FENCES : Attr := ⟨13, 0x0006, (.u 8), .ro, fun _ => 0⟩

/-- DEVICE.FAILED_ELEMENTS (R399). -/
def DEVICE_FAILED_ELEMENTS : Attr := ⟨1, 0x0400, (.u 16), .ro, fun _ => 0⟩

/-- DEVICE.UNMASKED_COUNT (R399). -/
def DEVICE_UNMASKED_COUNT : Attr := ⟨1, 0x0401, (.u 32), .ro, fun _ => 0⟩

/-- DEVICE.UNMASKED_LAST (R399). -/
def DEVICE_UNMASKED_LAST : Attr := ⟨1, 0x0402, (.u 8), .ro, fun _ => 0⟩

/-- DEVICE.VERTEX_CORES (R399). -/
def DEVICE_VERTEX_CORES : Attr := ⟨1, 0x0403, (.u 8), .ro, fun _ => 0x24⟩

/-- DEVICE.ROLLBACKS (R399). -/
def DEVICE_ROLLBACKS : Attr := ⟨1, 0x0404, (.u 32), .ro, fun _ => 0⟩

/-- DEVICE.ROLLBACK_MAX (R399). -/
def DEVICE_ROLLBACK_MAX : Attr := ⟨1, 0x0405, (.u 16), .ro, fun _ => 0⟩

/-- DEVICE.BROWNOUTS (R399). -/
def DEVICE_BROWNOUTS : Attr := ⟨1, 0x0406, (.u 32), .ro, fun _ => 0⟩

/-- DEVICE.BROWNOUT_LAST (R399). -/
def DEVICE_BROWNOUT_LAST : Attr := ⟨1, 0x0407, (.u 32), .ro, fun _ => 0⟩

/-- DEVICE.LOG_NEWEST (R399). -/
def DEVICE_LOG_NEWEST : Attr := ⟨1, 0x0408, (.u 32), .ro, fun _ => 0⟩

/-- DEVICE.LOG_HELD (R399). -/
def DEVICE_LOG_HELD : Attr := ⟨1, 0x0409, (.u 16), .ro, fun _ => 0⟩

/-- DEVICE.LOG_WRAPS (R399). -/
def DEVICE_LOG_WRAPS : Attr := ⟨1, 0x040A, (.u 32), .ro, fun _ => 0⟩

/-- DEVICE.HUB_DISAGREE (R399). -/
def DEVICE_HUB_DISAGREE : Attr := ⟨1, 0x040B, (.u 32), .ro, fun _ => 0⟩

/-- DIE.MEM_CORRECTED (R400). -/
def DIE_MEM_CORRECTED : Attr := ⟨2, 0x0040, (.u 32), .ro, fun _ => 0⟩

/-- DIE.MEM_UNCORRECTABLE (R400). -/
def DIE_MEM_UNCORRECTABLE : Attr := ⟨2, 0x0041, (.u 32), .ro, fun _ => 0⟩

/-- DIE.MEM_REMAPPED (R400). -/
def DIE_MEM_REMAPPED : Attr := ⟨2, 0x0042, (.u 16), .ro, fun _ => 0⟩

/-- DIE.SPARE_WORDS_MIN (R400). -/
def DIE_SPARE_WORDS_MIN : Attr := ⟨2, 0x0043, (.u 8), .ro, fun _ => 64⟩

/-- DIE.SCRUB_PASSES (R400). -/
def DIE_SCRUB_PASSES : Attr := ⟨2, 0x0044, (.u 32), .ro, fun _ => 0⟩

/-- DIE.SCRUB_LAST (R400). -/
def DIE_SCRUB_LAST : Attr := ⟨2, 0x0045, (.u 32), .ro, fun _ => 0⟩

/-- PORT.ADC_SPARES (R401). -/
def PORT_ADC_SPARES : Attr := ⟨5, 0x0700, (.u 8), .ro, fun _ => 4⟩

/-- PORT.ADC_FAILED (R401). -/
def PORT_ADC_FAILED : Attr := ⟨5, 0x0701, (.u 8), .ro, fun _ => 0⟩

/-- FACET.ENGINE_FAILED (R401). -/
def FACET_ENGINE_FAILED : Attr := ⟨4, 0x0020, (.u 8), .ro, fun _ => 0⟩

/-- FACET.ENGINE_FAULTS (R401). -/
def FACET_ENGINE_FAULTS : Attr := ⟨4, 0x0021, (.u 32), .ro, fun _ => 0⟩

/-- DOMAIN.STATE (R436). -/
def DOMAIN_STATE : Attr := ⟨9, 0x0001, .enum, .ro, fun _ => 0⟩

/-- DOMAIN.PADS_LATCHED (R436). -/
def DOMAIN_PADS_LATCHED : Attr := ⟨9, 0x0002, .bool, .ro, fun _ => 0⟩

/-- DOMAIN.LAST_WAKE (R436). -/
def DOMAIN_LAST_WAKE : Attr := ⟨9, 0x0003, .enum, .ro, fun _ => 7⟩

/-- DOMAIN.LAST_WAKE_TIME (R436). -/
def DOMAIN_LAST_WAKE_TIME : Attr := ⟨9, 0x0004, (.u 64), .ro, fun _ => 0⟩

/-- DOMAIN.LAST_WAKE_SET (R436). -/
def DOMAIN_LAST_WAKE_SET : Attr := ⟨9, 0x0005, (.u 8), .ro, fun _ => 0xFF⟩

/-- DOMAIN.LAST_WAKE_PORT (R436). -/
def DOMAIN_LAST_WAKE_PORT : Attr := ⟨9, 0x0006, (.u 8), .ro, fun _ => 0xFF⟩

/-- DOMAIN.BOOT_STATE (R436). -/
def DOMAIN_BOOT_STATE : Attr := ⟨9, 0x0007, .enum, .rw, fun _ => 0⟩

/-- DOMAIN.EXITS (R436). -/
def DOMAIN_EXITS : Attr := ⟨9, 0x0008, (.u 32), .ro, fun _ => 0⟩

/-- DOMAIN.REFUSALS (R436). -/
def DOMAIN_REFUSALS : Attr := ⟨9, 0x0009, (.u 32), .ro, fun _ => 0⟩

/-- DOMAIN.RETENTION_LOSSES (R436). -/
def DOMAIN_RETENTION_LOSSES : Attr := ⟨9, 0x000A, (.u 32), .ro, fun _ => 0⟩

/-- DEVICE.WAKE_SET (R437). -/
def DEVICE_WAKE_SET : Attr := ⟨1, 0x0500, (.block 52), .ro, fun _ => 0⟩

/-- DEVICE.WAKE_ARMED (R437). -/
def DEVICE_WAKE_ARMED : Attr := ⟨1, 0x0501, (.u 8), .ro, fun _ => 0⟩

/-- DEVICE.POWER_BUSY (R437). -/
def DEVICE_POWER_BUSY : Attr := ⟨1, 0x0502, .bool, .ro, fun _ => 0⟩

/-- PORT.QUIET_STATE (R438). -/
def PORT_QUIET_STATE : Attr := ⟨5, 0x0800, .enum, .ro, fun _ => 0⟩

/-- PORT.QUIET_ENTRIES (R438). -/
def PORT_QUIET_ENTRIES : Attr := ⟨5, 0x0801, (.u 32), .ro, fun _ => 0⟩

/-- PORT.REFRESHES_MISSED (R438). -/
def PORT_REFRESHES_MISSED : Attr := ⟨5, 0x0802, (.u 32), .ro, fun _ => 0⟩

/-- PORT.LAST_EXIT (R438). -/
def PORT_LAST_EXIT : Attr := ⟨5, 0x0803, (.u 32), .ro, fun _ => 0⟩

/-- PORT.WAKE_PENDING (R438). -/
def PORT_WAKE_PENDING : Attr := ⟨5, 0x0804, .bool, .ro, fun _ => 0⟩

/-- CAL.STATE (R461). -/
def CAL_STATE : Attr := ⟨10, 0x0001, .enum, .ro, fun _ => 0⟩

/-- CAL.STALE (R461). -/
def CAL_STALE : Attr := ⟨10, 0x0002, .bool, .ro, fun _ => 0⟩

/-- CAL.RUN_COUNT (R461). -/
def CAL_RUN_COUNT : Attr := ⟨10, 0x0003, (.u 32), .ro, fun _ => 0⟩

/-- CAL.LAST_RUN (R461). -/
def CAL_LAST_RUN : Attr := ⟨10, 0x0004, (.u 64), .ro, fun _ => 0⟩

/-- CAL.DEVIATION (R461). -/
def CAL_DEVIATION : Attr := ⟨10, 0x0005, (.s 16), .ro, fun _ => 0⟩

/-- CAL.PENDING (R461). -/
def CAL_PENDING : Attr := ⟨10, 0x0006, (.s 16), .ro, fun _ => 0⟩

/-- CAL.SPARES (R461). -/
def CAL_SPARES : Attr := ⟨10, 0x0007, (.u 8), .ro, calSparesReset⟩

/-- CAL.RANGE_LEFT (R461). -/
def CAL_RANGE_LEFT : Attr := ⟨10, 0x0008, (.u 8), .ro, fun _ => 50⟩

/-- CAL.VREF_MEASURED (R461). -/
def CAL_VREF_MEASURED : Attr := ⟨10, 0x0010, (.u 16), .ro, fun _ => 0⟩

/-- CAL.REXT_MEASURED (R461). -/
def CAL_REXT_MEASURED : Attr := ⟨10, 0x0011, (.u 16), .ro, fun _ => 0⟩

/-- CAL.REFCLK_OFFSET (R461). -/
def CAL_REFCLK_OFFSET : Attr := ⟨10, 0x0012, (.s 32), .ro, fun _ => 0⟩

/-- CAL.REF_STATUS (R461). -/
def CAL_REF_STATUS : Attr := ⟨10, 0x0013, (.u 8), .ro, fun _ => 0⟩

/-- CAL.TRACK_PERIOD (R461). -/
def CAL_TRACK_PERIOD : Attr := ⟨10, 0x0014, (.u 16), .rw, fun _ => 1000⟩

/-- CAL.STORE_VALID (R461). -/
def CAL_STORE_VALID : Attr := ⟨10, 0x0015, (.u 8), .ro, fun _ => 0⟩

/-- CAL.CAL_GEN (R461). -/
def CAL_CAL_GEN : Attr := ⟨10, 0x0016, (.u 32), .ro, fun _ => 0⟩

/-- CAL.CFG_GEN (R461). -/
def CAL_CFG_GEN : Attr := ⟨10, 0x0017, (.u 32), .ro, fun _ => 0⟩

/-- CAL.STORES (R461). -/
def CAL_STORES : Attr := ⟨10, 0x0018, (.u 32), .ro, fun _ => 0⟩

/-- BIST.RESULT (R480). -/
def BIST_RESULT : Attr := ⟨11, 0x0001, .enum, .ro, fun _ => 0⟩

/-- BIST.LAST_TIME (R480). -/
def BIST_LAST_TIME : Attr := ⟨11, 0x0002, (.u 64), .ro, fun _ => 0⟩

/-- BIST.PASSES (R480). -/
def BIST_PASSES : Attr := ⟨11, 0x0003, (.u 32), .ro, fun _ => 0⟩

/-- BIST.FAILS (R480). -/
def BIST_FAILS : Attr := ⟨11, 0x0004, (.u 32), .ro, fun _ => 0⟩

/-- BIST.SKIPS (R480). -/
def BIST_SKIPS : Attr := ⟨11, 0x0005, (.u 32), .ro, fun _ => 0⟩

/-- BIST.MARGIN (R480). -/
def BIST_MARGIN : Attr := ⟨11, 0x0006, (.u 16), .ro, fun _ => 0⟩

/-- BIST.POWER_UP (R480). -/
def BIST_POWER_UP : Attr := ⟨11, 0x0010, .bool, .rw, fun _ => 1⟩

/-- BIST.PERIODIC (R480). -/
def BIST_PERIODIC : Attr := ⟨11, 0x0011, .bool, .rw, fun _ => 1⟩

/-- BIST.SLOT_PERIOD (R480). -/
def BIST_SLOT_PERIOD : Attr := ⟨11, 0x0012, (.u 16), .rw, fun _ => 5000⟩

/-- BIST.CYCLES (R480). -/
def BIST_CYCLES : Attr := ⟨11, 0x0013, (.u 32), .ro, fun _ => 0⟩

/-- BIST.CURSOR (R480). -/
def BIST_CURSOR : Attr := ⟨11, 0x0014, (.u 16), .ro, fun _ => 0⟩

/-- BIST.CYCLE_LEFT (R480). -/
def BIST_CYCLE_LEFT : Attr := ⟨11, 0x0015, (.u 16), .ro, fun _ => 461⟩

/-- BIST.SAVE_FAULTS (R480). -/
def BIST_SAVE_FAULTS : Attr := ⟨11, 0x0016, (.u 32), .ro, fun _ => 0⟩

/-- CHECK.WIDTH (R493). -/
def CHECK_WIDTH : Attr := ⟨12, 0x0001, (.u 8), .rw, fun i => if i < 2 then 32 else if i = 2 then 16 else 12⟩

/-- CHECK.POLY (R493). -/
def CHECK_POLY : Attr := ⟨12, 0x0002, (.u 64), .rw, fun i => if i < 2 then 0x1EDC6F41 else if i = 2 then 0x1021 else 0x80F⟩

/-- CHECK.INIT (R493). -/
def CHECK_INIT : Attr := ⟨12, 0x0003, (.u 64), .rw, fun i => if i < 2 then 0xFFFFFFFF else if i = 2 then 0xFFFF else 0⟩

/-- CHECK.FLAGS (R493). -/
def CHECK_FLAGS : Attr := ⟨12, 0x0004, (.u 8), .rw, fun i => if i < 2 then 7 else 0⟩

/-- CHECK.STATE (R493). -/
def CHECK_STATE : Attr := ⟨12, 0x0005, .enum, .ro, fun _ => 0⟩

/-- CHECK.RESULT (R493). -/
def CHECK_RESULT : Attr := ⟨12, 0x0006, (.block 48), .ro, fun _ => 0⟩

/-- CHECK.SCANS (R493). -/
def CHECK_SCANS : Attr := ⟨12, 0x0007, (.u 32), .ro, fun _ => 0⟩

/-- CHECK.REPAIRS (R493). -/
def CHECK_REPAIRS : Attr := ⟨12, 0x0008, (.u 32), .ro, fun _ => 0⟩

/-- DEVICE.BG_SHARE_PEAK (R515). -/
def DEVICE_BG_SHARE_PEAK : Attr := ⟨1, 0x0800, (.u 16), .ro, fun _ => 0⟩

/-- DEVICE.WEAR_ENABLE (R515). -/
def DEVICE_WEAR_ENABLE : Attr := ⟨1, 0x0801, .bool, .rw, fun _ => 1⟩

/-- DEVICE.WEAR_PERIOD (R515). -/
def DEVICE_WEAR_PERIOD : Attr := ⟨1, 0x0802, (.u 16), .rw, fun _ => 20⟩

/-- DEVICE.WEAR_ROTATIONS (R515). -/
def DEVICE_WEAR_ROTATIONS : Attr := ⟨1, 0x0803, (.u 32), .ro, fun _ => 0⟩

/-- DEVICE.RAIL_MV (R515). -/
def DEVICE_RAIL_MV : Attr := ⟨1, 0x0804, (.block 12), .ro, fun _ => 0⟩

/-- DEVICE.TEMP_WARN (R515). -/
def DEVICE_TEMP_WARN : Attr := ⟨1, 0x0805, (.s 16), .rw, fun _ => 1150⟩

/-- DEVICE.UID (R515). -/
def DEVICE_UID : Attr := ⟨1, 0x0806, (.block 16), .ro, fun _ => 0⟩

/-- DEVICE.SERIAL (R515). -/
def DEVICE_SERIAL : Attr := ⟨1, 0x0807, (.u 64), .ro, fun _ => 0⟩

/-- DEVICE.LC_STATE (R515). -/
def DEVICE_LC_STATE : Attr := ⟨1, 0x0808, .enum, .ro, fun _ => 0⟩

/-- DEVICE.LC_NONCE (R515). -/
def DEVICE_LC_NONCE : Attr := ⟨1, 0x0809, (.u 32), .ro, fun _ => 0⟩

/-- DEVICE.LC_FAILS (R515). -/
def DEVICE_LC_FAILS : Attr := ⟨1, 0x080A, (.u 8), .ro, fun _ => 0⟩

/-- DEVICE.FW_ACTIVE (R515). -/
def DEVICE_FW_ACTIVE : Attr := ⟨1, 0x080B, .enum, .ro, fun _ => 0⟩

/-- DEVICE.FW_VERSION (R515). -/
def DEVICE_FW_VERSION : Attr := ⟨1, 0x080C, (.u 32), .ro, fun _ => 0⟩

/-- DEVICE.FW_STAGE_STATE (R515). -/
def DEVICE_FW_STAGE_STATE : Attr := ⟨1, 0x080D, .enum, .ro, fun _ => 0⟩

/-- DEVICE.FW_STAGE_BYTES (R515). -/
def DEVICE_FW_STAGE_BYTES : Attr := ⟨1, 0x080E, (.u 32), .ro, fun _ => 0⟩

/-- DEVICE.ROM_VERSION (R515). -/
def DEVICE_ROM_VERSION : Attr := ⟨1, 0x080F, (.u 32), .ro, fun _ => 0⟩

/-- DIE.TEMP (R516). -/
def DIE_TEMP : Attr := ⟨2, 0x0050, (.s 16), .ro, fun _ => 0⟩

/-- DIE.TEMP_MAX (R516). -/
def DIE_TEMP_MAX : Attr := ⟨2, 0x0051, (.s 16), .ro, fun _ => 0⟩

/-- DIE.AGING (R516). -/
def DIE_AGING : Attr := ⟨2, 0x0052, (.s 16), .ro, fun _ => 0⟩

/-- TIME.NOW (R517). -/
def TIME_NOW : Attr := ⟨14, 0x0001, (.u 64), .ro, fun _ => 0⟩

/-- TIME.VALID (R517). -/
def TIME_VALID : Attr := ⟨14, 0x0002, .bool, .ro, fun _ => 0⟩

/-- TIME.PULSE_IN_PERIOD (R517). -/
def TIME_PULSE_IN_PERIOD : Attr := ⟨14, 0x0003, (.u 32), .rw, fun _ => 1000⟩

/-- TIME.PULSE_IN_EDGE (R517). -/
def TIME_PULSE_IN_EDGE : Attr := ⟨14, 0x0004, .enum, .rw, fun _ => 0⟩

/-- TIME.PULSE_OUT_PERIOD (R517). -/
def TIME_PULSE_OUT_PERIOD : Attr := ⟨14, 0x0005, (.u 32), .rw, fun _ => 1000⟩

/-- TIME.PULSE_OUT_WIDTH (R517). -/
def TIME_PULSE_OUT_WIDTH : Attr := ⟨14, 0x0006, (.u 32), .rw, fun _ => 100000⟩

/-- TIME.STEPS (R517). -/
def TIME_STEPS : Attr := ⟨14, 0x0007, (.u 32), .ro, fun _ => 0⟩

/-- TIME.LAST_STEP (R517). -/
def TIME_LAST_STEP : Attr := ⟨14, 0x0008, (.s 32), .ro, fun _ => 0⟩

/-- TIME.SLEW (R517). -/
def TIME_SLEW : Attr := ⟨14, 0x0009, (.s 32), .ro, fun _ => 0⟩

/-- DEVICE.RESET_CAUSE (R537). -/
def DEVICE_RESET_CAUSE : Attr := ⟨1, 0x0900, (.u 16), .ro, fun _ => 0⟩

/-- DEVICE.START_FLAGS (R537). -/
def DEVICE_START_FLAGS : Attr := ⟨1, 0x0901, (.u 16), .ro, fun _ => 0⟩

/-- DEVICE.START_TIME (R537). -/
def DEVICE_START_TIME : Attr := ⟨1, 0x0902, (.u 32), .ro, fun _ => 0⟩

/-- DEVICE.BOOT_REJECTS (R537). -/
def DEVICE_BOOT_REJECTS : Attr := ⟨1, 0x0903, (.u 8), .ro, fun _ => 0⟩

/-- DEVICE.CONFIG_APPLIED (R537). -/
def DEVICE_CONFIG_APPLIED : Attr := ⟨1, 0x0904, (.u 32), .ro, fun _ => 0⟩

/-- DEVICE.CONFIG_SKIPPED (R537). -/
def DEVICE_CONFIG_SKIPPED : Attr := ⟨1, 0x0905, (.u 32), .ro, fun _ => 0⟩

/-- DEVICE.START_PAIRS (R537). -/
def DEVICE_START_PAIRS : Attr := ⟨1, 0x0906, (.u 8), .rw, fun _ => 0x11⟩

/-- DEVICE.BOOTS (R537). -/
def DEVICE_BOOTS : Attr := ⟨1, 0x0907, (.u 16), .ro, fun _ => 0⟩

/-- DEVICE.PIN_STATE (R571). -/
def DEVICE_PIN_STATE : Attr := ⟨1, 0x0A00, (.u 16), .ro, fun _ => 0⟩

/-- Rows of the catalogue. -/
def catalogue0 : List Attr :=
  [DIE_MARGIN_FLOOR, DIE_FLOOR_REGION, DIE_MARGIN_WARN, PRISM_SYMBOL_PERIOD, PRISM_CLOCK_SOURCE,
   PRISM_CLOCK_PORT, FACET_ENGINE_MAP, FACET_SPARE_STATE, FACET_SPARE_PORT, FACET_MARGIN_0,
   FACET_MARGIN_1, FACET_MARGIN_2, FACET_MARGIN_3, FACET_MARGIN_4, LATTICE_INDEX,
   LATTICE_MEMBERS, LATTICE_TIME_MASTER, LATTICE_ELECTION_COUNT, LATTICE_PULSE_VALID, LATTICE_CLASH,
   PORT_LOADING_TX, PORT_LOADING_RX, PORT_GAIN_TX, PORT_GAIN_RX, PORT_STAGE_LOADING_TX,
   PORT_STAGE_LOADING_RX, PORT_STAGE_GAIN_TX, PORT_STAGE_GAIN_RX, PORT_BITS_TX, PORT_BITS_RX]

/-- Rows of the catalogue. -/
def catalogue1 : List Attr :=
  [PORT_NET_RATE_TX, PORT_NET_RATE_RX, PORT_RATE_CAP, PORT_TX_PSD, PORT_TX_PSD_NOW,
   PORT_TONE_MASK, PORT_LOADING_GEN, PORT_OVER_CAP, PRISM_PREFIX, PRISM_SF_COUNT,
   PORT_RX_STATE, PORT_RT_DELAY, PORT_RX_OFFSET, PORT_ERLE, PORT_ECHO_WINDOWS,
   PORT_TSF_RESIDUAL, PORT_TSF_UPDATES, PORT_NEXT_SLOTS, PORT_NEXT_CANCEL, PORT_RETIRED_TX,
   PORT_RETIRED_RX, PORT_RETIRE_CAUSE, PORT_SHED_COUNT, PORT_INGRESS_COUNT, PORT_ARBITRATIONS,
   PORT_MICROBREAKS, PORT_INGRESS_RETIRE, PORT_NOTICE_REJECTS, PRISM_CLOCK_OFFSET, PRISM_CLOCK_SLEWING]

/-- Rows of the catalogue. -/
def catalogue2 : List Attr :=
  [PRISM_ADMISSION_PORT, PORT_INTERLEAVE, PORT_INTERLEAVE_NOW, PORT_RECAST_RETRY, PORT_RECAST_DEADLINE,
   PORT_RX_HIGHEST, PORT_TX_NEXT, PORT_HOLES, PORT_REORDER_FILL, PORT_CONT_ACCEPTED,
   PORT_CONT_CORRECTED, PORT_CONT_REJECTED, PORT_NAK_SENT, PORT_RECAST_SENT, PORT_RECAST_FILLED,
   PORT_RECAST_DROPPED, PORT_DUPLICATES, PORT_WINDOW_REJECTS, PORT_NAK_IGNORED, PORT_RESYNC_DISCARDS,
   PORT_FCS_DROPS, PORT_STORE_LOSS, PORT_RESYNCS, PORT_STATE, PORT_TRAIN_PHASE,
   PORT_NEG_MODE, PORT_NEG_RESULT, PORT_CLASS, PORT_CLASS_NOW, PORT_TARGET_MARGIN]

/-- Rows of the catalogue. -/
def catalogue3 : List Attr :=
  [PORT_MARGIN_USED, PORT_PARTNER_ABILITY, PORT_LAST_FAIL, PORT_TRAIN_COUNT, PORT_TRAIN_FAILS,
   PORT_PARTNER_LOSSES, PORT_RETRAIN_HOLDOFF, PORT_LEGACY_LPI, PORT_SWAP_STATE, PORT_SWAP_SF,
   PORT_CHORD, PORT_CHORD_MEMBER, PORT_AUTO_RETRAIN, LATTICE_CHORD_STATE, SVC_ROLE,
   SVC_MOD, SVC_POLL_INTERVAL, SVC_POLL_RETRIES, SVC_NODE_PRESENT, SVC_NODE_SNR,
   SVC_TX_QUEUE, SVC_RX_QUEUE, SVC_BURSTS_TX, SVC_BURSTS_RX, SVC_HEADER_FAILS,
   SVC_PAYLOAD_FAILS, SVC_CAPTURES, SVC_RECOVERED, SVC_RESENDS, SVC_RX_REFUSED]

/-- Rows of the catalogue. -/
def catalogue4 : List Attr :=
  [SVC_WAKE_RX, PORT_SNR_RX, PORT_SNR_HISTORY, PORT_SNR_HIST_HEAD, PORT_SNR_HIST_INTERVAL,
   PORT_LQ_RX, PORT_LQ_RX_AVG, PORT_LQ_RX_MIN, PORT_LQ_WARN, PORT_MARGIN_RX,
   PORT_COUNTER_EPOCH, PORT_RS_SYMBOLS_CORRECTED, PORT_DATA_SYMBOLS_RX, PORT_LQ_LOW_COUNT, PORT_LEGACY_CORRECTED,
   PORT_LEGACY_UNCORRECTABLE, PORT_LEGACY_FCS_DROPS, PORT_SCAN_VELOCITY, PORT_SCAN_LOSS, PORT_SCAN_THRESHOLD,
   PORT_SCAN_RESULT, PORT_SCAN_PROFILE, PORT_SCAN_COUNT, PORT_CLAIMS, DEVICE_SNAP_STATE,
   DEVICE_SNAP_READY, DEVICE_SNAP_DATA, GROUP_STATE, GROUP_WIDTH, GROUP_LANE_MAP]

/-- Rows of the catalogue. -/
def catalogue5 : List Attr :=
  [GROUP_SPARE_STATE, GROUP_IDLE_MODE, GROUP_L0S_DWELL, GROUP_REPLAY_TIMER, GROUP_REPLAY_LIMIT,
   GROUP_SUB_LEAD, GROUP_CAPACITY, GROUP_LAST_TRAIN, GROUP_ROWS_SENT, GROUP_ROWS_ACCEPTED,
   GROUP_ROWS_REJECTED, GROUP_NAK_SENT, GROUP_REPLAYS, GROUP_REPLAY_ROWS, GROUP_ROWS_DROPPED,
   GROUP_SUBSTITUTIONS, GROUP_L0S_ENTRIES, GROUP_TRAIN_COUNT, LANE_STATE, LANE_LOGICAL,
   LANE_TX_PRE, LANE_TX_POST, LANE_TX_MAIN, LANE_TX_PRESET, LANE_RX_CTLE,
   LANE_RX_DFE, LANE_EYE_HEIGHT, LANE_SKEW, LANE_FAULT_UNCORR, LANE_FAULT_CORR]

/-- Rows of the catalogue. -/
def catalogue6 : List Attr :=
  [LANE_CW_RECEIVED, LANE_SYMBOLS_CORRECTED, LANE_CW_UNCORRECTABLE, LANE_PATTERN_ERRORS, LANE_LOCK_LOSSES,
   LANE_FAULT_COUNT, FLOW_STATE, FLOW_KIND, FLOW_TARGET, FLOW_CLASS,
   FLOW_MAP, FLOW_ACTIVE_HOST, FLOW_INNER, FLOW_MEMBER, FLOW_FLAGS,
   FLOW_FRAME_HINT, FLOW_RATE_TO_HOST, FLOW_RATE_FROM_HOST, FLOW_CHARGE_TO_HOST, FLOW_CHARGE_FROM_HOST,
   FLOW_FRAMES_TO_HOST, FLOW_FRAMES_FROM_HOST, FLOW_DROP_LINE, FLOW_DROP_EGRESS_TX, FLOW_DROP_EGRESS_RX,
   FLOW_DROP_NO_PATH, FLOW_DROP_LINK, FLOW_DROP_FORMAT, FLOW_DROP_STORE, FLOW_TS_RX]

/-- Rows of the catalogue. -/
def catalogue7 : List Attr :=
  [FLOW_TS_INVALID, FLOW_TS_TX_REPORTS, GROUP_CHARGED, GROUP_OVERSUB, GROUP_EGRESS_FILL,
   GROUP_MISSED_SLOTS, GROUP_ROWS_DEFERRED, GROUP_UNKNOWN_FLOW, GROUP_UNIT_ERRORS, PORT_FLOW_MAP,
   PORT_CHARGED_RX, PORT_CHARGED_TX, PORT_OVERSUB, PORT_UNMAPPED_DROPS, PORT_MISSED_SLOTS,
   PORT_EGRESS_FILL, PORT_TS_TRIM, DEVICE_CMD_SEQ_NEXT, DEVICE_CMD_EXECUTED, DEVICE_CMD_BAD_CHECK,
   DEVICE_CMD_BAD_LENGTH, DEVICE_CMD_SEQUENCE, DEVICE_CMD_DUPLICATES, DEVICE_CMD_XFER_TIMEOUTS, DEVICE_CMD_OUTSTANDING,
   DEVICE_REPLY_HOLD, DEVICE_TRANSPORT, DEVICE_COMPLETION, DEVICE_OWNER, DEVICE_OWNER_PRIORITY]

/-- Rows of the catalogue. -/
def catalogue8 : List Attr :=
  [DEVICE_LEASE, DEVICE_LEASE_LEFT, DEVICE_HANDOVER_TARGET, DEVICE_OWNER_EPOCH, DEVICE_EVENT_SEQ_NEXT,
   EVENTQ_COUNT, EVENTQ_FILTER, EVENTQ_IRQ_EN, EVENTQ_QUEUED, EVENTQ_LOST,
   EVENTQ_FENCES, DEVICE_FAILED_ELEMENTS, DEVICE_UNMASKED_COUNT, DEVICE_UNMASKED_LAST, DEVICE_VERTEX_CORES,
   DEVICE_ROLLBACKS, DEVICE_ROLLBACK_MAX, DEVICE_BROWNOUTS, DEVICE_BROWNOUT_LAST, DEVICE_LOG_NEWEST,
   DEVICE_LOG_HELD, DEVICE_LOG_WRAPS, DEVICE_HUB_DISAGREE, DIE_MEM_CORRECTED, DIE_MEM_UNCORRECTABLE,
   DIE_MEM_REMAPPED, DIE_SPARE_WORDS_MIN, DIE_SCRUB_PASSES, DIE_SCRUB_LAST, PORT_ADC_SPARES]

/-- Rows of the catalogue. -/
def catalogue9 : List Attr :=
  [PORT_ADC_FAILED, FACET_ENGINE_FAILED, FACET_ENGINE_FAULTS, DOMAIN_STATE, DOMAIN_PADS_LATCHED,
   DOMAIN_LAST_WAKE, DOMAIN_LAST_WAKE_TIME, DOMAIN_LAST_WAKE_SET, DOMAIN_LAST_WAKE_PORT, DOMAIN_BOOT_STATE,
   DOMAIN_EXITS, DOMAIN_REFUSALS, DOMAIN_RETENTION_LOSSES, DEVICE_WAKE_SET, DEVICE_WAKE_ARMED,
   DEVICE_POWER_BUSY, PORT_QUIET_STATE, PORT_QUIET_ENTRIES, PORT_REFRESHES_MISSED, PORT_LAST_EXIT,
   PORT_WAKE_PENDING, CAL_STATE, CAL_STALE, CAL_RUN_COUNT, CAL_LAST_RUN,
   CAL_DEVIATION, CAL_PENDING, CAL_SPARES, CAL_RANGE_LEFT, CAL_VREF_MEASURED]

/-- Rows of the catalogue. -/
def catalogue10 : List Attr :=
  [CAL_REXT_MEASURED, CAL_REFCLK_OFFSET, CAL_REF_STATUS, CAL_TRACK_PERIOD, CAL_STORE_VALID,
   CAL_CAL_GEN, CAL_CFG_GEN, CAL_STORES, BIST_RESULT, BIST_LAST_TIME,
   BIST_PASSES, BIST_FAILS, BIST_SKIPS, BIST_MARGIN, BIST_POWER_UP,
   BIST_PERIODIC, BIST_SLOT_PERIOD, BIST_CYCLES, BIST_CURSOR, BIST_CYCLE_LEFT,
   BIST_SAVE_FAULTS, CHECK_WIDTH, CHECK_POLY, CHECK_INIT, CHECK_FLAGS,
   CHECK_STATE, CHECK_RESULT, CHECK_SCANS, CHECK_REPAIRS, DEVICE_BG_SHARE_PEAK]

/-- Rows of the catalogue. -/
def catalogue11 : List Attr :=
  [DEVICE_WEAR_ENABLE, DEVICE_WEAR_PERIOD, DEVICE_WEAR_ROTATIONS, DEVICE_RAIL_MV, DEVICE_TEMP_WARN,
   DEVICE_UID, DEVICE_SERIAL, DEVICE_LC_STATE, DEVICE_LC_NONCE, DEVICE_LC_FAILS,
   DEVICE_FW_ACTIVE, DEVICE_FW_VERSION, DEVICE_FW_STAGE_STATE, DEVICE_FW_STAGE_BYTES, DEVICE_ROM_VERSION,
   DIE_TEMP, DIE_TEMP_MAX, DIE_AGING, TIME_NOW, TIME_VALID,
   TIME_PULSE_IN_PERIOD, TIME_PULSE_IN_EDGE, TIME_PULSE_OUT_PERIOD, TIME_PULSE_OUT_WIDTH, TIME_STEPS,
   TIME_LAST_STEP, TIME_SLEW, DEVICE_RESET_CAUSE, DEVICE_START_FLAGS, DEVICE_START_TIME]

/-- Rows of the catalogue. -/
def catalogue12 : List Attr :=
  [DEVICE_BOOT_REJECTS, DEVICE_CONFIG_APPLIED, DEVICE_CONFIG_SKIPPED, DEVICE_START_PAIRS, DEVICE_BOOTS,
   DEVICE_PIN_STATE]

/-- R319: every attribute the manual defines. -/
def catalogue : List Attr :=
  catalogue0 ++ catalogue1 ++ catalogue2 ++ catalogue3 ++ catalogue4 ++ catalogue5 ++ catalogue6 ++ catalogue7 ++ catalogue8 ++ catalogue9 ++ catalogue10 ++ catalogue11 ++ catalogue12

end Sys2Proof.Machine
end

