-- ==== Sys2Proof/Machine/Names.lean ====
section
/-! DEFINITION. Machine/Names.lean: the codes of the manual by name: attribute classes (R319), status codes (R315), event codes
(R354, R398, R434, R459, R479, R492, R514, R534), causes of PORT_STATE (R355, R435), port states (R167), and the kinds of
running time limits. -/

namespace Sys2Proof.Machine

/-! ### Classes (R319) -/

abbrev clsDevice : Nat := 1
abbrev clsDie : Nat := 2
abbrev clsPrism : Nat := 3
abbrev clsFacet : Nat := 4
abbrev clsPort : Nat := 5
abbrev clsFlow : Nat := 6
abbrev clsGroup : Nat := 7
abbrev clsLane : Nat := 8
abbrev clsDomain : Nat := 9
abbrev clsCal : Nat := 10
abbrev clsBist : Nat := 11
abbrev clsCheck : Nat := 12
abbrev clsEventq : Nat := 13
abbrev clsTime : Nat := 14
abbrev clsLattice : Nat := 15
abbrev clsSvc : Nat := 16

/-! ### Status codes (R315) -/

abbrev stOk : Nat := 0x00
abbrev stAccepted : Nat := 0x01
abbrev stNotOwner : Nat := 0x02
abbrev stBadOpcode : Nat := 0x03
abbrev stBadLength : Nat := 0x04
abbrev stBadCheck : Nat := 0x05
abbrev stOutOfRange : Nat := 0x06
abbrev stConflict : Nat := 0x07
abbrev stRefused : Nat := 0x08
abbrev stTimeout : Nat := 0x09
abbrev stDeferred : Nat := 0x0A
abbrev stPrecondition : Nat := 0x0B
abbrev stLifecycle : Nat := 0x0C
abbrev stBusy : Nat := 0x0D
abbrev stNoResource : Nat := 0x0E
abbrev stAborted : Nat := 0x0F
abbrev stDegraded : Nat := 0x10
abbrev stSequence : Nat := 0x11

/-! ### Port states (R167) -/

abbrev psDown : Nat := 0
abbrev psListen : Nat := 1
abbrev psNegotiate : Nat := 2
abbrev psTrain : Nat := 3
abbrev psCarry : Nat := 4
abbrev psQuiet : Nat := 5
abbrev psDormant : Nat := 6
abbrev psLegacy : Nat := 7

/-! ### Event codes -/

abbrev evOverflow : Nat := 0x00
abbrev evOwnerChange : Nat := 0x01
abbrev evHandoverOffer : Nat := 0x02
abbrev evYieldDone : Nat := 0x03
abbrev evFenceDone : Nat := 0x04
abbrev evFenceMark : Nat := 0x05
abbrev evCommandDone : Nat := 0x06
abbrev evMarginLow : Nat := 0x08
abbrev evSpareTakeover : Nat := 0x09
abbrev evSlow : Nat := 0x0A
abbrev evSlowCleared : Nat := 0x0B
abbrev evLatticeIdxClash : Nat := 0x0C
abbrev evTimeMasterChange : Nat := 0x0D
abbrev evTimeStep : Nat := 0x0E
abbrev evPortState : Nat := 0x10
abbrev evPortStopped : Nat := 0x11
abbrev evNoPartner : Nat := 0x12
abbrev evPartnerLost : Nat := 0x13
abbrev evTrainFail : Nat := 0x14
abbrev evSwapDone : Nat := 0x15
abbrev evMicrobreak : Nat := 0x16
abbrev evTimingFault : Nat := 0x17
abbrev evPaceShed : Nat := 0x18
abbrev evPaceFloor : Nat := 0x19
abbrev evIngressRetire : Nat := 0x1A
abbrev evBlockRestored : Nat := 0x1B
abbrev evRateOverCap : Nat := 0x1C
abbrev evContainerDrop : Nat := 0x1D
abbrev evRecastResync : Nat := 0x1E
abbrev evStoreLoss : Nat := 0x1F
abbrev evChordUp : Nat := 0x20
abbrev evChordDegraded : Nat := 0x21
abbrev evChordDown : Nat := 0x22
abbrev evChordMismatch : Nat := 0x23
abbrev evSvcDone : Nat := 0x24
abbrev evSvcRx : Nat := 0x25
abbrev evSvcRxFull : Nat := 0x26
abbrev evSegmentDone : Nat := 0x27
abbrev evSegmentNode : Nat := 0x28
abbrev evLqLow : Nat := 0x29
abbrev evSnapshotDone : Nat := 0x2A
abbrev evCableScanDone : Nat := 0x2B
abbrev evLaneFault : Nat := 0x30
abbrev evLaneSubst : Nat := 0x31
abbrev evGroupTrained : Nat := 0x32
abbrev evGroupDegraded : Nat := 0x33
abbrev evGroupDown : Nat := 0x34
abbrev evGroupIdle : Nat := 0x35
abbrev evPatternDone : Nat := 0x36
abbrev evPortOversub : Nat := 0x38
abbrev evGroupOversub : Nat := 0x39
abbrev evFlowFailover : Nat := 0x3A
abbrev evFlowClosed : Nat := 0x3B
abbrev evFault : Nat := 0x40
abbrev evUnmasked : Nat := 0x41
abbrev evRollback : Nat := 0x42
abbrev evWordRemap : Nat := 0x43
abbrev evBrownout : Nat := 0x44
abbrev evFaultCleared : Nat := 0x45
abbrev evRepairDone : Nat := 0x46
abbrev evFaultLogDone : Nat := 0x47
abbrev evPowerDone : Nat := 0x50
abbrev evDomainState : Nat := 0x51
abbrev evWake : Nat := 0x52
abbrev evRetentionLost : Nat := 0x53
abbrev evWakeHeld : Nat := 0x54
abbrev evQuietDone : Nat := 0x55
abbrev evWakeDone : Nat := 0x56
abbrev evCalDone : Nat := 0x60
abbrev evCalStoreDone : Nat := 0x61
abbrev evCalLimit : Nat := 0x62
abbrev evRefLost : Nat := 0x63
abbrev evRefRestored : Nat := 0x64
abbrev evCalOverdue : Nat := 0x65
abbrev evBistDone : Nat := 0x68
abbrev evBistFail : Nat := 0x69
abbrev evBistCycle : Nat := 0x6A
abbrev evBistOverdue : Nat := 0x6B
abbrev evCheckDone : Nat := 0x6C
abbrev evLcDone : Nat := 0x70
abbrev evFwDone : Nat := 0x71
abbrev evTimeDone : Nat := 0x72
abbrev evBgOverrun : Nat := 0x73
abbrev evAgingWarn : Nat := 0x74
abbrev evTempHigh : Nat := 0x75
abbrev evReady : Nat := 0x76
abbrev evBootReject : Nat := 0x77
abbrev evConfigSkipped : Nat := 0x78
abbrev evStartPair : Nat := 0x79
abbrev evStartResumed : Nat := 0x7A

/-! ### Causes of PORT_STATE (R355) -/

abbrev causeHostStart : Nat := 0x01
abbrev causeHostStop : Nat := 0x02
abbrev causePageEnergy : Nat := 0x03
abbrev causePartnerBurst : Nat := 0x04
abbrev causeDwell : Nat := 0x05
abbrev causeResolved : Nat := 0x06
abbrev causeNoCommon : Nat := 0x07
abbrev causeTrained : Nat := 0x08
abbrev causeTrainFail : Nat := 0x09
abbrev causePartnerLost : Nat := 0x0A
abbrev causePartnerStop : Nat := 0x0B
abbrev causePartnerRetrain : Nat := 0x0C
abbrev causeFloorFallback : Nat := 0x0D
abbrev causeHoldover : Nat := 0x0E
abbrev causeLinkFail : Nat := 0x0F
abbrev causeNegotiateTimeout : Nat := 0x10
abbrev causeHostRetrain : Nat := 0x11
abbrev causeEchoDrift : Nat := 0x12
abbrev causeEngineFault : Nat := 0x13
abbrev causeHostQuiet : Nat := 0x20
abbrev causeHostDormant : Nat := 0x21
abbrev causeHostWake : Nat := 0x22
abbrev causePartnerWake : Nat := 0x23
abbrev causeRefreshLost : Nat := 0x24
abbrev causeWakeUnanswered : Nat := 0x25
abbrev causePartnerReset : Nat := 0x26
abbrev causeRetentionLost : Nat := 0x27

/-! ### Causes of UNMASKED (R387) -/

abbrev unmSecondEngine : Nat := 1
abbrev unmAdcSpares : Nat := 2
abbrev unmGroupWidth : Nat := 3
abbrev unmGroupDown : Nat := 4
abbrev unmMemory : Nat := 5
abbrev unmSpareWords : Nat := 6
abbrev unmVertexHalt : Nat := 7
abbrev unmPaceFloor : Nat := 8
abbrev unmSourceStall : Nat := 9
abbrev unmHubControl : Nat := 10
abbrev unmBrownoutLong : Nat := 11
abbrev unmTemperature : Nat := 12

/-! ### Kinds of time limits -/

abbrev tkLease : Nat := 1
abbrev tkHandover : Nat := 2
abbrev tkSignal : Nat := 3
abbrev tkRequest : Nat := 4
abbrev tkPacket : Nat := 5
abbrev tkFence : Nat := 6
abbrev tkFailover : Nat := 7
abbrev tkDrain : Nat := 8
abbrev tkChordMove : Nat := 9
abbrev tkSlew : Nat := 10
abbrev tkShadow : Nat := 11
abbrev tkSurvey : Nat := 12
abbrev tkCoeffHold : Nat := 13
abbrev tkRelax : Nat := 14
abbrev tkDwell : Nat := 15
abbrev tkNegotiate : Nat := 16
abbrev tkNoPartner : Nat := 17
abbrev tkPhase : Nat := 18
abbrev tkSwap : Nat := 19
abbrev tkDrainWait : Nat := 20
abbrev tkGrantLapse : Nat := 21
abbrev tkBeacon : Nat := 22
abbrev tkPollGrant : Nat := 23
abbrev tkHello : Nat := 24
abbrev tkResend : Nat := 25
abbrev tkPartial : Nat := 26
abbrev tkBlank : Nat := 27
abbrev tkWakeNext : Nat := 28
abbrev tkPollRetry : Nat := 29
abbrev tkAckDue : Nat := 30
abbrev tkSnapArm : Nat := 31
abbrev tkScanListen : Nat := 32
abbrev tkQuickRetrain : Nat := 33
abbrev tkSpareClean : Nat := 34
abbrev tkLanePhase : Nat := 35
abbrev tkPattern : Nat := 36
abbrev tkL0s : Nat := 37
abbrev tkL2 : Nat := 38
abbrev tkStartPair : Nat := 39
abbrev tkRepair : Nat := 40
abbrev tkErase : Nat := 41
abbrev tkPrepare : Nat := 42
abbrev tkCommit : Nat := 43
abbrev tkWakeTimer : Nat := 44
abbrev tkWakeOut : Nat := 45
abbrev tkQuietEntry : Nat := 46
abbrev tkWakeUnanswered : Nat := 47
abbrev tkCalRate : Nat := 48
abbrev tkCalOverdue : Nat := 49
abbrev tkCalRun : Nat := 50
abbrev tkCalStore : Nat := 51
abbrev tkBistSlot : Nat := 52
abbrev tkPulseIn : Nat := 53
abbrev tkAtPulse : Nat := 54
abbrev tkPulseOut : Nat := 55
abbrev tkPulseWidth : Nat := 56
abbrev tkPatchStart : Nat := 57
abbrev tkSourceStall : Nat := 58
abbrev tkReload : Nat := 59
abbrev tkTrial : Nat := 60
abbrev tkFuse : Nat := 61
abbrev tkLcErase : Nat := 62
abbrev tkFwVerify : Nat := 63
abbrev tkRecal : Nat := 64
abbrev tkVerdict : Nat := 65
abbrev tkScan : Nat := 66
abbrev tkTimeSync : Nat := 67
abbrev tkHelloWait : Nat := 68
abbrev tkSnrInterval : Nat := 69
abbrev tkCorrRun : Nat := 70
abbrev tkSummary : Nat := 71
abbrev tkBrownout : Nat := 72
abbrev tkRepeat : Nat := 73
abbrev tkCycle : Nat := 74
abbrev tkWear : Nat := 75
abbrev tkAging : Nat := 76
abbrev tkTelemetry : Nat := 77
abbrev tkHub : Nat := 78
abbrev tkSlow : Nat := 79
abbrev tkHubControl : Nat := 80

end Sys2Proof.Machine
end

