-- ==== Sys2Proof/Machine/State.lean ====
section
/-! DEFINITION. Machine/State.lean: the state of the block as plain data, the reasons for which a step can stop, and the state
after reset. Attributes live in one sparse table (`Dev.attrs`, `Dev.blocks`); everything else the manual gives the machine
stands in the structures below, one for each kind of unit. -/

namespace Sys2Proof.Machine

/-! ### Commands, masters, events (R299 to R367) -/

/-- R352: one event record. -/
structure EventRec where
  seq : Nat
  time : Nat
  cls : Nat
  inst : Nat
  type : Nat
  detail : Nat
  deriving DecidableEq, Repr

/-- R332: one reply in a mailbox queue or, in-band, not yet sent: its bytes, how many the host has read, whether it has
been read to its end, and when it entered the queue. -/
structure Reply where
  bytes : List Byte
  read : Nat
  readFull : Bool
  since : Nat
  deriving DecidableEq, Repr

/-- R316: the issuer and tag by which a long-running command completes. -/
structure JobRef where
  master : Nat
  tag : Nat
  deriving DecidableEq, Repr

/-- R317: one outstanding long-running command: its opcode and parameters, its place in the order in which the Vertex took
commands, whether it was deferred (R474), and for a fence its scope and whether its timeout has passed (R364). -/
structure Job where
  ref : JobRef
  opcode : Nat
  params : List Byte
  order : Nat
  deferred : Bool
  device : Bool
  timedOut : Bool
  deriving DecidableEq, Repr

/-- A request taken by the Vertex: what a command's definition reads. -/
structure Call where
  master : Nat
  tag : Nat
  op : Nat
  params : List Byte
  order : Nat
  raw : List Byte
  seq : Nat
  deriving DecidableEq, Repr

/-- R207: a COUNTERS_READ that waits for its sampling instant: the request, the prism at whose boundary it samples, the
counters, and whether a target reset has voided its reply (R328). -/
structure HeldRead where
  call : Call
  prism : Nat
  void : Bool
  deriving DecidableEq, Repr

/-- What Izrath keeps for one master: its transport (R325 to R336), its packet sequence (R308) and its event queue
(R349). The sequence number itself is DEVICE.CMD_SEQ_NEXT. -/
structure Master where
  /-- R331, R336: the request being assembled. -/
  partialReq : Option (List Byte) := none
  /-- R332: replies waiting to be read, or in-band to be sent. -/
  replies : List Reply := []
  /-- R308: the last request that advanced the sequence, and its reply. -/
  stored : Option (List Byte × List Byte) := none
  /-- R349: the event queue, oldest first. -/
  events : List EventRec := []
  /-- R326: the static address sampled from the strap. -/
  staticAddr : Nat := 0
  /-- R327: the dynamic address, where one is assigned. -/
  dynAddr : Option Nat := none
  /-- R327: ENINT. -/
  enint : Bool := false
  mwl : Nat := 1037
  mrl : Nat := 1036
  /-- R325: the port is in HDR-DDR. -/
  hdr : Bool := false
  /-- R328: the action of the next target reset pattern. -/
  rstact : Nat := 0
  /-- R327: a protocol error since the last GETSTATUS. -/
  protoErr : Bool := false
  /-- R333: an in-band interrupt requested and not yet sent, with its data byte. -/
  ibi : Option Nat := none
  ibiLast : Nat := 0
  /-- R334: the port waits for a START. -/
  waitStart : Bool := false
  errTimeout : Bool := false
  errFraming : Bool := false
  errDiscard : Bool := false
  /-- R335, R359: a NOTICE row owed, with its byte. -/
  notice : Option Nat := none
  /-- What the last transfer on the port returned to the bus, and whether its header was acknowledged. -/
  busOut : List Byte := []
  busAck : Bool := true
  deriving DecidableEq, Repr

/-- R382, R383: what the Vertex is doing. -/
inductive VertexMode where
  /-- It takes requests. -/
  | running
  /-- A checkpoint reload is under way (R382). -/
  | reloading
  /-- Trial pairings with the spare core are under way (R383). -/
  | trial
  /-- Two cores have failed and no third is left (R383). -/
  | halted
  deriving DecidableEq, Repr

/-- R518 to R531: where the start sequence stands. -/
inductive StartPhase where
  /-- RESET_N low or a rail below its reset threshold (R518). -/
  | held
  /-- Released; an erase left undone by a power failure, the ROM check and the slots (R523 to R525). -/
  | patch (slot : Nat)
  /-- The start calibration (R528, R529). -/
  | calibrate
  /-- Training of the inner links and the start pairs (R530, R532). -/
  | train
  /-- The power-up self-test (R471). -/
  | selfTest
  /-- The Vertex has halted before READY; only RESET_N restarts Izrath (R536). -/
  | stopped
  /-- READY (R531). -/
  | ready
  deriving DecidableEq, Repr

/-! ### Ports: line signal and receiver (R34 to R99) -/

/-- R88: a retirement notice: the complete set of retired blocks and the superframe count from which it applies. -/
structure Notice where
  set : Nat
  sf : Nat
  deriving DecidableEq, Repr

/-- R92, R94: a retirement or restoration of a receive block that is wanted or announced: the block, its cause bits (R99),
whether it is a restoration, and what the event at the boundary reports. -/
structure BlockChange where
  block : Nat
  cause : Nat
  restore : Bool
  detail : Nat
  deriving DecidableEq, Repr

/-- R90: the two candidates between which a receiver decides in a superframe: the announced or swapped set and tables
against those before. -/
structure Arbitration where
  setNew : Nat
  setOld : Nat
  changes : List BlockChange
  swap : Bool
  deriving DecidableEq, Repr

/-- R92, R93: what is kept for one tone: marker error powers of the last 256 superframes, newest first, how many markers in
a row exceeded the reference by 10 dB, how many superframes in a row stayed within 3 dB, the last excess in dB, and whether the tone is under ingress. -/
structure ToneRef where
  hist : List Nat := []
  above : Nat := 0
  calm : Nat := 0
  excess : Nat := 0
  ingress : Bool := false
  deriving DecidableEq, Repr

/-- R77: a shadow filter that waits for a superframe boundary: its taps, the correction of the equaliser on each tone and the
residual it leaves. -/
structure ShadowFilter where
  taps : List Int
  correction : List (Nat × Cx)
  residual : Int
  deriving DecidableEq, Repr

/-- The receiver of a port beside its attributes. -/
structure PortRx where
  /-- R86, R87: consecutive missed and detected markers. -/
  missed : Nat := 0
  detected : Nat := 0
  /-- R154: ADVANCE messages sent in this TIMING_LOCK. -/
  advances : Nat := 0
  /-- R73: consecutive superframes within the lock window. -/
  lockRun : Nat := 0
  /-- R87: superframes spent in hold-over. -/
  holdSf : Nat := 0
  /-- R88: the notice announced for the receive direction, with the changes it carries, and changes waiting for the next. -/
  notice : Option Notice := none
  announced : List BlockChange := []
  wanted : List BlockChange := []
  /-- R89: the partner's accepted notice for the transmit direction, and the last one ignored. -/
  partnerNotice : Option Notice := none
  ignored : Option Notice := none
  /-- R90: the marker of S − 1 of a pending swap was missed. -/
  swapMissed : Bool := false
  /-- R90. -/
  arb : Option Arbitration := none
  /-- R92: tones, by number. -/
  tones : List (Nat × ToneRef) := []
  /-- R94, R96: blocks retired for pace, the last one first, and superframes at a projected margin of 282 or more. -/
  paceOrder : List Nat := []
  paceCalm : Nat := 0
  /-- R95: the port is at its floor. -/
  atFloor : Bool := false
  /-- R81: the exchange of NEXT slots due at the boundary: slot and aggressor. -/
  nextSwap : Option (Nat × Nat) := none
  /-- R83: the survey visit abandoned for a ramp. -/
  surveySaved : Option Nat := none
  /-- R85: superframes left of enlarged coefficient steps after DORMANT. -/
  relax : Option Nat := none
  /-- R77: when the last shadow filter was computed, by `Dev.elapsed`, plus one; 0 for none since training. -/
  shadowAt : Nat := 0
  /-- R62: the tone mask in effect since the last training. -/
  maskNow : List Byte := List.replicate 64 0#8
  /-- R140: ERLE at the end of half A of the last ECHO_FIT, and the run of superframes 15 dB below it. -/
  erleRef : Nat := 0
  echoRun : Nat := 0
  /-- R200: averaged SNR per tone at 0 dB fine gain, in 1/256 dB, by tone; none where not measured. -/
  snr : List (Nat × Option Int) := []
  /-- R201: the interval being filled: the lowest value of each block, and whether a marker was detected. -/
  histLow : List Nat := List.replicate 32 0xFF
  histSeen : Bool := false
  /-- R203: error-vector ratios of the last superframes, newest first, in units of 2^-20. -/
  evrHist : List Nat := []
  /-- R205: superframes in a row below LQ_WARN, at LQ_WARN + 8 or more, and whether LQ_LOW is armed. -/
  lqLowRun : Nat := 0
  lqHighRun : Nat := 0
  lqArmed : Bool := true
  /-- R67: LOADING_GEN has been raised for this superframe. -/
  genDone : Bool := false
  /-- R202: error-vector ratios of the loaded tones in the superframe last measured, in units of 2^-20. -/
  toneEvr : List (Nat × Nat) := []
  /-- R76: the echo head by tone, and the echo tail by tap; both, and every coefficient below, in units of 2^-30 (assumption 104). -/
  head : List (Nat × Cx) := []
  tail : List (Nat × Int) := []
  /-- R77: the taps of the shortening filter, and a replacement that waits for the boundary. -/
  tsf : List Int := []
  shadow : Option ShadowFilter := none
  /-- R78: the equaliser by tone, and the tones of the last symbol after equalisation and removal of the common phase. -/
  eq : List (Nat × Cx) := []
  received : List (Nat × Cx) := []
  /-- R79, R85: the NEXT coefficients by aggressor, then by tone; those of no slot are kept for the next survey or in retention. -/
  next : List (Nat × List (Nat × Cx)) := []
  /-- R42: on a chord where Izrath acts as partner, the superframe count received less the prism's own, modulo 256. -/
  countDelta : Nat := 0
  deriving DecidableEq, Repr

/-- R50: what a tone carries in a symbol: the mapped point, after the rotation of a marker's form, the energy of its constellation,
and the level of the tone in 0.1 dBm/Hz, fine gain included. -/
structure ToneOut where
  tone : Nat
  point : Cx
  energy : Nat
  level : Int
  deriving DecidableEq, Repr

/-- R142: a Clause 98 page that Izrath sends: the base page with its two choices, master preferred and not forced; the message page
with the OUI of IDENT; an unformatted page with 32 bits of the ability word. -/
inductive NegPage where
  | base (legacy nextPage masterPreferred : Bool)
  | message (oui : Nat)
  | unformatted (word : Nat)
  deriving DecidableEq, Repr

/-- R148: a Clause 97 link: the role that the Clause 98 exchange resolved, and whether it uses low-power idle. -/
structure LegacyLink where
  master : Bool
  lpi : Bool
  deriving DecidableEq, Repr

/-- The transmitter of a port beside its attributes. -/
structure PortTx where
  /-- R52: stream bits not yet taken by a symbol. -/
  bits : List Bool := []
  /-- R46: the pilot generator. -/
  pilotGen : Nat := 0
  /-- What the last symbol slot put on the line, pilots included (R43 to R52). -/
  symbol : List ToneOut := []
  /-- R142: the Clause 98 pages of the negotiation in progress, in order. -/
  pages : List NegPage := []
  /-- R276: stamps owed: bits of the stream before the frame's first bit, flow and tag. -/
  stamps : List (Nat × Nat × Nat) := []
  /-- R44: the form of the last marker: 0 NORMAL, 1 SWAP, 2 QUIET_NEXT. -/
  form : Nat := 0
  deriving DecidableEq, Repr

/-! ### Ports: containers and recast (R101 to R130) -/

/-- R105, R114: one segment: class, END, bytes, and the device time at which the symbol with its first bit
reached the pins (R275), none in a copy. -/
structure Segment where
  cls : Nat
  fin : Bool
  bytes : List Byte
  stamp : Option Nat := none
  deriving DecidableEq, Repr

/-- R116: a sent data string: SEQ, the three descriptors as bits [43:12] hold them, and the payload. -/
structure SentContainer where
  seq : Nat
  segs : Nat
  payload : List Byte
  deriving DecidableEq, Repr

/-- R117, R118, R121: a hole: its SEQ, when it is finally dropped, and when it is NAKed again. -/
structure Hole where
  seq : Nat
  dropAt : Nat
  nakAt : Nat
  deriving DecidableEq, Repr

/-- R113: a frame that waits in a port's store for the line: its flow, class and bytes, how many of them have been sent,
whether it is still arriving, and the tag of a transmit timestamp request (R276). -/
structure LineFrame where
  flow : Nat
  cls : Nat
  bytes : List Byte
  sent : Nat
  arriving : Bool
  tag : Option Nat
  deriving DecidableEq, Repr

/-- Recast of a port beside its attributes. -/
structure Recast where
  /-- R117: the holes, oldest first. -/
  holes : List Hole := []
  /-- R116: the reorder store. -/
  reorder : List (Nat × List Segment) := []
  /-- R118: rejected containers since the last one accepted with d of 1 or more. -/
  rejects : Nat := 0
  /-- R118: speculative NAKs not yet matched by a hole: SEQ and the instant at which each is due again. -/
  spec : List (Nat × Nat) := []
  /-- R119: sequence numbers still to be NAKed. -/
  naks : List Nat := []
  /-- R116: the transmit store, oldest first. -/
  store : List SentContainer := []
  /-- R120: copies to send. -/
  copies : List Nat := []
  /-- R114: the open frame of each class, in arrival order. -/
  openFrames : List (Nat × Option Nat × List Byte) := []
  /-- R122: classes in resync. -/
  resync : List Nat := []
  /-- R122: final drops in this superframe. -/
  dropsNow : Nat := 0
  /-- R127: when the partner last sent a NAK, plus one; 0 for none. -/
  partnerNakAt : Nat := 0
  /-- R127: the wait before QUIET_NEXT or LINK_STOP is over. -/
  drained : Bool := false
  /-- R103: OFFSET of the headers of this superframe (R104). -/
  offset : Int := 0
  /-- R138, R421: no new DATA container is started. -/
  noNewData : Bool := false
  deriving DecidableEq, Repr

/-! ### Ports: bring-up (R131 to R168) -/

/-- R154: where training stands beside TRAIN_PHASE. -/
structure Training where
  /-- Half B of ECHO_FIT. -/
  halfB : Bool := false
  /-- R84: the port waits for its admission ramp; R155: the ramp is complete. -/
  waitRamp : Bool := false
  rampDone : Bool := false
  /-- R155: the phase in progress is a repeat. -/
  repeated : Bool := false
  /-- R146: the controller of training; clear on the higher-index end of a chord. -/
  controller : Bool := true
  /-- R154: TABLES_OK received for the receive direction, and sent for the transmit direction. -/
  rxAgreed : Bool := false
  txAgreed : Bool := false
  /-- R154: RECAST_GO's superframe count S, once sent or received, and whether containers have started. -/
  startSf : Option Nat := none
  started : Bool := false
  accepted : Bool := false
  recastOk : Bool := false
  /-- R157: the pair proposed for the receive direction. -/
  proposed : Option (List Byte × List Byte) := none
  /-- R136: the hold-off now, ms; 0 while the set value stands, and whether the dwell follows a TRAIN_FAIL. -/
  holdoff : Nat := 0
  afterFail : Bool := false
  /-- R137: the second of NO_PARTNER runs or has run since the last resolution. -/
  resolvedSince : Bool := true
  noPartnerRaised : Bool := false
  /-- R155: this negotiation is advertised without the Next Page bit. -/
  noNextPage : Bool := false
  /-- R155: the partner advertised 1000BASE-T1. -/
  partnerLegacy : Bool := false
  /-- R572: held in LISTEN until an engine can serve the port. -/
  held : Bool := false
  deriving DecidableEq, Repr

/-- R159, R160: a swap in progress. -/
structure Swap where
  job : Option JobRef
  partner : Bool
  /-- Directions named, agreed, and changed: bit 0 transmit, bit 1 receive. -/
  dirs : Nat
  /-- Directions asked about and not yet answered, in order. -/
  asked : List Nat
  agreed : Nat
  changed : Nat
  fresh : Bool
  tx : Option (List Byte × List Byte)
  rx : Option (List Byte × List Byte)
  /-- S of SWAP_AT, and how many SWAP_AT have been sent. -/
  sf : Option Nat
  attempts : Nat
  /-- R159: when SWAP_AT was sent or received, and the transmit (bit 0) and receive (bit 1) directions it names, from Izrath's side. -/
  atTime : Option Nat
  atDirs : Nat
  /-- Directions whose SWAP marker has been sent or received in superframe S − 1. -/
  marked : Nat
  /-- R160: an ending that waits for boundary S. -/
  ending : Option Nat
  deriving DecidableEq, Repr

/-! ### Ports: service channel (R170 to R198) -/

/-- R184: a message to send: node, class, message ID, bytes, bytes acknowledged, the command behind it, and its place in the order of
arrival (R183). -/
structure SvcMsg where
  node : Nat
  tclass : Nat
  id : Nat
  bytes : List Byte
  acked : Nat
  job : Option JobRef
  since : Nat := 0
  deriving DecidableEq, Repr

/-- R185: the unacknowledged fragment to a peer: class, bytes, FIRST, LAST, sendings so far, and whether it is to be sent
(again) now. -/
structure SvcFragment where
  tclass : Nat
  bytes : List Byte
  first : Bool
  last : Bool
  tries : Nat
  due : Bool
  deriving DecidableEq, Repr

/-- What is kept for one peer of a service channel. -/
structure SvcPeer where
  /-- R185: the SEQ bit of the next fragment sent; the SEQ of the last fragment accepted; an acknowledgement owed. -/
  txSeq : Bool := false
  rxLast : Option Bool := none
  ackOwed : Option Bool := none
  out : Option SvcFragment := none
  /-- R182: the peer's last burst had MORE set; it holds a fragment that has not been acknowledged. -/
  more : Bool := false
  holds : Bool := false
  /-- R183: the places in the order of arrival of the acknowledgement owed and of the grant owed for MORE or a fragment outstanding. -/
  ackSince : Nat := 0
  moreSince : Nat := 0
  /-- R186: partly received messages: class, bytes. -/
  partials : List (Nat × List Byte) := []
  deriving DecidableEq, Repr

/-- R187, R197: a complete message waiting for SVC_RECV. -/
structure SvcReceived where
  node : Nat
  tclass : Nat
  time : Nat
  bytes : List Byte
  order : Nat
  deriving DecidableEq, Repr

/-- R198: a poll in progress: node, the command, grants given, lapsed grants repeated, whether the node has answered, whether a repeat
waits for its 50 us, and the poll's place in the order of arrival (R183). -/
structure SvcPoll where
  node : Nat
  job : JobRef
  grants : Nat
  lapses : Nat
  answered : Bool
  retryWait : Bool
  since : Nat := 0
  deriving DecidableEq, Repr

/-- R176: a burst as sent: the 36 header bits and the payload bytes. -/
structure SvcBurst where
  header : Nat
  payload : List Byte
  deriving DecidableEq, Repr

/-- R192 to R194: a reception: preamble power in dBm, preamble SNR in 0.5 dB units, and its header once valid. -/
structure SvcReception where
  power : Int
  snr : Nat
  header : Option Nat
  /-- R194: it was held pending. -/
  recovered : Bool := false
  deriving DecidableEq, Repr

/-- The service channel of a port beside its attributes. -/
structure Svc where
  peers : List (Nat × SvcPeer) := []
  training : List SvcMsg := []
  queue : List SvcMsg := []
  received : List SvcReceived := []
  /-- R187: SVC_RX_FULL raised since the queue last had room. -/
  fullRaised : Bool := false
  polls : List SvcPoll := []
  /-- R180: the node whose grant is open; as node 0, a grant is held. -/
  granted : Option Nat := none
  mayReply : Bool := false
  /-- R195: Izrath's own burst or the blanking after it. -/
  blanked : Bool := false
  /-- R193: the reception under way, and a weaker detection held. -/
  rx : Option SvcReception := none
  pendingRx : Option SvcReception := none
  /-- R189: WAKE bursts still to send. -/
  wakeLeft : Nat := 0
  wakeSent : Bool := false
  /-- R182, R183: a beacon or periodic grant due. -/
  grantDue : Bool := false
  /-- R188: as node 0, HELLO has been sent since reset. -/
  helloSent : Bool := false
  /-- R181: when a burst was last heard, plus one; 0 for never. -/
  heardAt : Nat := 0
  /-- R183: the next place in the order of arrival. -/
  arrivals : Nat := 0
  lastBurst : Option SvcBurst := none
  deriving DecidableEq, Repr

/-! ### Ports: quiet (R419 to R432) -/

/-- How a port's QUIET or DORMANT entry stands. -/
inductive QuietStep where
  /-- Waiting for a pending swap to end. -/
  | waiting
  /-- QUIET_REQ sent or received; not yet agreed. -/
  | asked
  /-- Agreed; waiting for the conditions of R127. -/
  | draining
  /-- QUIET_AT sent or received: S. -/
  | scheduled (sf : Nat)
  deriving DecidableEq, Repr

/-- R421: an entry in progress. -/
structure QuietEntry where
  dormant : Bool
  step : QuietStep
  fromHost : Bool
  deriving DecidableEq, Repr

/-- The quiet state of a port beside its attributes. -/
structure QuietState where
  entry : Option QuietEntry := none
  /-- R127: when the entry was agreed, by `Dev.elapsed`. -/
  agreedAt : Nat := 0
  /-- R423: superframes since S, and consecutive missed refreshes. -/
  sfSince : Nat := 0
  missed : Nat := 0
  /-- R425: symbols of the tangent burst still to send. -/
  burstLeft : Nat := 0
  /-- R426, R428: an exit in progress: the burst has been started; the instant of the decision, plus one. -/
  burstSent : Bool := false
  decidedAt : Nat := 0
  /-- R431: a partner WAKE or relock symbols seen since the decision. -/
  answered : Bool := false
  deriving DecidableEq, Repr

/-! ### Ports: diagnostics (R207 to R222) -/

/-- R218: how far a scan has come. -/
inductive ScanStep where
  | listening | waitRamp | ramp | correlating | analysing
  deriving DecidableEq, Repr

/-- R217: a scan in progress. -/
structure Scan where
  job : JobRef
  length : Nat
  step : ScanStep
  noise : Int
  since : Nat
  deriving DecidableEq, Repr

/-- Everything of a port that is no attribute. -/
structure Port where
  rx : PortRx := {}
  tx : PortTx := {}
  recast : Recast := {}
  train : Training := {}
  swap : Option Swap := none
  svc : Svc := {}
  quiet : QuietState := {}
  scan : Option Scan := none
  /-- R138: a graceful stop in progress: the command, and whether LINK_STOP has been sent. -/
  stop : Option JobRef := none
  stopSent : Bool := false
  /-- R113, R295: frames from the hub that wait for the line. -/
  store : List LineFrame := []
  /-- R148: the link of LEGACY. -/
  legacy : Option LegacyLink := none
  deriving DecidableEq, Repr

/-- A command on several ports that completes when all of them have finished (R138, R421, R432): the ports still at work,
those that ended as wanted and those that did not, and the lowest port that did not with its cause. -/
structure MultiPort where
  ref : JobRef
  waiting : List Nat
  good : List Nat
  bad : List (Nat × Nat)
  last : Nat
  deriving DecidableEq, Repr

/-! ### Prisms (R39, R74, R83, R84) -/

/-- What is kept for a prism beside its attributes. -/
structure Prism where
  /-- R39: an accepted prefix waits for a boundary or for the domain's return to ON. -/
  prefixPending : Bool := false
  /-- R83, R84: superframes of the ramp under way, and ports waiting for theirs. -/
  rampSf : Nat := 0
  rampQueue : List Nat := []
  /-- R74: the frequency of the reference in use, relative to the nominal one, in 10^-9 units. -/
  reference : Int := 0
  /-- R40: the symbol slot within the superframe. -/
  slot : Nat := 0
  /-- R40: when the last boundary came, by `Dev.elapsed`, plus one. -/
  boundaryAt : Nat := 0
  deriving DecidableEq, Repr

/-! ### Snapshots (R212 to R216) -/

/-- R212: an armed snapshot of a record, and for a STATE snapshot whether its trigger has occurred. -/
structure Snapshot where
  job : JobRef
  port : Nat
  kind : Nat
  trigger : Nat
  symbols : Nat
  fired : Bool
  /-- R213: a boundary has come since the trigger of a STATE snapshot. -/
  due : Bool := false
  deriving DecidableEq, Repr

/-! ### Drigal groups and lanes (R225 to R264) -/

/-- R268: one flow-frame unit: its flow, FIRST, LAST, its data (metadata included), the port or group it came from, whether
its frame is counted as delivered on the group that carries it (R295; one of the two copies in COPY mode), and how often the
flow had changed its group when the unit was given to one (R15, R289). -/
structure HubUnit where
  flow : Nat
  first : Bool
  last : Bool
  data : List Byte
  src : Nat
  counted : Bool
  era : Nat
  deriving DecidableEq, Repr

/-- R234: a numbered row kept until it is acknowledged: RSEQ, KIND, payload, the units it carries, and when it was last
sent. -/
structure SentRow where
  seq : Nat
  kind : Nat
  payload : List Byte
  units : List HubUnit
  sentAt : Nat
  deriving DecidableEq, Repr

/-- R248: a map change and the row slot from which it applies; the rank of R247 for which it is made; whether the receiver
asked for it (clear: the transmitter announced it). -/
structure SubChange where
  code : Nat
  slot : Nat
  rank : Nat
  asked : Bool
  /-- The receiver has applied its request and waits for the first row it accepts. -/
  applied : Bool := false
  deriving DecidableEq, Repr

/-- R241, R242: why a pair trains. -/
inductive TrainWhy where
  /-- LANE_TRAIN. -/
  | command (j : JobRef)
  /-- LANE_IDLE ON out of L2 (R260). -/
  | idleExit (j : JobRef)
  /-- The far end restarted LC (R260). -/
  | farExit
  /-- R236. -/
  | replayLimit
  /-- R529, R532: at start; whether a failed inner pair has been trained once more. -/
  | start (again : Bool)
  /-- R250: a faulted lane alone, in the background. -/
  | background (lane : Nat)
  /-- R397: a FAILED lane alone. -/
  | repair (j : JobRef) (lane : Nat)
  deriving DecidableEq, Repr

/-- R242: a training of a pair: QUICK or FULL, named lanes, phase 1 to 4, whether the phase is being repeated as FULL, the
failed lanes of TX and RX and the phase in which the first of each failed. -/
structure LaneTraining where
  why : TrainWhy
  quick : Bool
  lanes : List Nat
  phase : Nat
  repeated : Bool
  failTx : List Nat
  failRx : List Nat
  phaseTx : Nat
  phaseRx : Nat
  deriving DecidableEq, Repr

/-- One group: transmitter and receiver, either of which may be the far end's. -/
structure Link where
  /-- R229: alignment period and row slot of the transmitter, and of the receiver. -/
  ab : Nat := 0
  slot : Nat := 0
  rxAb : Nat := 0
  rxSlot : Nat := 0
  /-- R228: the scramblers of the physical lanes 0 to 4, at the transmitter and at the receiver. -/
  scrTx : List Nat := [0, 0, 0, 0, 0]
  scrRx : List Nat := [0, 0, 0, 0, 0]
  /-- R234: next RSEQ, rows not yet acknowledged, and the RSEQ from which a replay is under way. -/
  txSeq : Nat := 0
  replay : List SentRow := []
  resend : Option Nat := none
  /-- R234: next RSEQ expected, a NAK owed, when the last NAK was sent plus one, and an acknowledgement owed. -/
  rxNext : Nat := 0
  /-- R236: NAKs sent for the row expected. -/
  rxTries : Nat := 0
  /-- R248: the transmitter's map; GROUP.LANE_MAP follows the receiver where Izrath receives. -/
  txMap : Nat := 0x3210
  nakOwed : Bool := false
  nakAt : Nat := 0
  ackOwed : Bool := false
  /-- R248: the request to send for this direction, the change announced by its transmitter, and the change its receiver
  follows. -/
  subReq : Option SubChange := none
  subAnn : Option SubChange := none
  rxAnn : Option SubChange := none
  /-- R247: the rank for which LS is in use, and the logical lane it covers. -/
  cover : Option (Nat × Nat) := none
  /-- R270: open frames of flows on this group's receiver. -/
  openFlows : List Nat := []
  /-- Flows of which this group's transmitter has sent part of a frame. -/
  partSent : List Nat := []
  /-- R259, R260: IDLE rows still to send, with their code; the far end's L0s. -/
  idleRows : Nat := 0
  idleCode : Nat := 0
  tangent : Bool := false
  /-- R260: an entry to L2 under way. -/
  l2 : Option JobRef := none
  fromDown : Bool := false
  train : Option LaneTraining := none
  /-- R257: the loop set, and the codewords a near loop returns. -/
  loop : Nat := 0
  /-- R253: LC lost. -/
  lcLost : Bool := false
  /-- R226: what the last slot put on the lanes: physical lane and PAM4 levels, LS included. -/
  sent : List (Nat × List Int) := []
  /-- R242: IDLE rows accepted in LINK_INIT. -/
  idleSeen : Nat := 0
  /-- R259: row slots until the far end's entry into L0s is complete; a tangent burst due at the receiver. -/
  l0sLeft : Nat := 0
  rxTangent : Bool := false
  /-- Host TX groups: the egress store (R279); inner TX groups: units waiting for the link. -/
  store : List HubUnit := []
  /-- R336: bytes of the head reply already sent on this group's command channel. -/
  cmdSent : Nat := 0
  deriving DecidableEq, Repr

/-- R255, R256: a pattern run on a lane. -/
structure PatternRun where
  job : JobRef
  pattern : Nat
  inject : Nat
  count : Nat
  interval : Nat
  bits : Nat
  bitErrors : Nat
  corrected : Nat
  uncorrectable : Nat
  miscorrected : Nat
  injections : Nat
  /-- Codewords, or alignment periods, since the last injection. -/
  gap : Nat
  deriving DecidableEq, Repr

/-- What is kept for one lane beside its attributes. -/
structure LaneRun where
  /-- R246: uncorrectable codewords and corrected symbols of this millisecond, and milliseconds in a row above FAULT_CORR. -/
  uncorr : Nat := 0
  corr : Nat := 0
  corrRun : Nat := 0
  /-- R236: uncorrectable codewords since the replay of a row began. -/
  replayUncorr : Nat := 0
  /-- R250: how far background retraining is: 0 not, 1 wanted or under way, 2 the ten seconds of spare pattern, 3 the second of
  R397. -/
  retrain : Nat := 0
  pattern : Option PatternRun := none
  /-- R244: the request this lane's receiver holds, the status word last sent for this lane's transmitter, and the control word last
  received for it. -/
  request : Nat := 0
  status : Nat := 0
  lastControl : Nat := 0
  /-- R243: the receiver of this lane has set RX_READY; the last training frame sent; the generator of PRBS-13 and of a pattern. -/
  ready : Bool := false
  frame : List Int := []
  prbs : Nat := 0
  /-- R242: alignment codewords received in a row. -/
  alignRun : Nat := 0
  /-- R239: the variable gain, dB. -/
  gain : Int := 0
  deriving DecidableEq, Repr

/-! ### Hub and flows (R265 to R298) -/

/-- R279: a FROM_HOST frame in a port's store in hub SRAM. -/
structure EgressFrame where
  flow : Nat
  cls : Nat
  total : Nat
  tsKind : Nat
  tsTag : Nat
  bytes : List Byte
  whole : Bool
  deriving DecidableEq, Repr

/-- What is kept for one flow beside its attributes. -/
structure FlowRun where
  /-- R273. -/
  fseq : Nat := 0
  gap : Bool := false
  /-- R293: the command of a drain. -/
  drain : Option JobRef := none
  /-- R289, R15: how often the flow has left a host TX group, and an inner pair. -/
  hostEra : Nat := 0
  innerEra : Nat := 0
  /-- R288, R279: the groups of the TO_HOST frame now crossing the hub, none while it is discarded, and its bytes still to come. -/
  dest : List Nat := []
  left : Nat := 0
  discard : Bool := false
  /-- R272: FROM_HOST: the frame crossing the hub is discarded. -/
  discardRx : Bool := false
  deriving DecidableEq, Repr

/-- One of the 136 sources of the hub: its elastic buffer, slots missed in this 1 ms window, rounds in a row without a handshake, and
whether that stall has been acted on (R375). -/
structure HubSource where
  queue : List HubUnit := []
  missed : Nat := 0
  stalled : Nat := 0
  handled : Bool := false
  deriving DecidableEq, Repr

/-! ### Faults (R368 to R397) -/

/-- R394: a fault log record still to be written: its TIME, source, element, fault class, KIND, STATUS, CAUSE, COUNT and DETAIL. -/
structure LogRec where
  time : Nat
  cls : Nat
  inst : Nat
  element : Nat
  fclass : Nat
  kind : Nat
  status : Nat
  cause : Nat
  count : Nat
  detail : List Byte
  deriving DecidableEq, Repr

/-- R393, R395: a record of the ring: its LOG_SEQ, its place, and whether it is pinned. -/
structure LogPlace where
  seq : Nat
  place : Nat
  pinned : Bool
  deriving DecidableEq, Repr

/-- R397: a repair in progress. -/
structure Repair where
  job : JobRef
  cls : Nat
  inst : Nat
  element : Nat
  deriving DecidableEq, Repr

/-- R386: a cause and source of UNMASKED and when it was last raised. -/
structure UnmaskedAt where
  cause : Nat
  cls : Nat
  inst : Nat
  at_ : Nat
  deriving DecidableEq, Repr

/-- R393: transient faults of one class at one source in the present hour. -/
structure FaultSum where
  cls : Nat
  inst : Nat
  fclass : Nat
  count : Nat
  deriving DecidableEq, Repr

/-- What fault masking keeps beside its attributes. -/
structure Faults where
  /-- R393: records waiting for the log writer, oldest first. -/
  queue : List LogRec := []
  /-- R395: the ring, oldest first; the next LOG_SEQ. -/
  places : List LogPlace := []
  nextSeq : Nat := 0
  sums : List FaultSum := []
  raised : List UnmaskedAt := []
  /-- R373, R374, R250: by element key, the instants of faults of the last hour. -/
  hist : List (Nat × List Nat) := []
  /-- R373: engines by 5·facet + engine: 0 in service, 1 out of service and under test, 2 FAILED. -/
  engines : List (Nat × Nat) := []
  /-- R374: slices by 128·port + slice: 0 as built (0 to 63 active, 64 to 67 spare), 1 under recalibration, 2 FAILED,
  3 made active, 4 made spare. -/
  slices : List (Nat × Nat) := []
  repairs : List Repair := []
  /-- R396: the ERASE in progress. -/
  erase : Option JobRef := none
  /-- R383: instants of the disagreements of the last 10 ms; cores that are FAILED; the instant of the disagreement being handled, by
  `Dev.elapsed` and by device time. -/
  rollbacks : List Nat := []
  failedCores : List Nat := []
  disagreeAt : Nat := 0
  disagreeTime : Nat := 0
  /-- R391, R392: rails now below their range; when the last brownout ended, plus one. -/
  rails : List Nat := []
  brownoutEnd : Nat := 0
  /-- R378: words with an error in the same symbol in the last scrub passes, as (word, symbol, passes); spare words used by bank; words
  now remapped; R379: words that the memory code cannot correct. -/
  suspects : List (Nat × Nat × Nat) := []
  sparesUsed : List (Nat × Nat) := []
  remapped : List Nat := []
  /-- R378: banks with MRAM words now remapped, which hold for life. -/
  mramBanks : List Nat := []
  badWords : List Nat := []
  /-- R377, R496: when the scrub pass of each die began, plus one; tasks of R494 behind their pace. -/
  scrubStart : List (Nat × Nat) := []
  behind : List Nat := []
  /-- R23: dies whose lowest margin has fallen below the threshold and not yet recovered. -/
  marginLow : List Nat := []
  /-- R95, R281: elements marked SLOW, by element key. -/
  slow : List (Nat × Nat) := []
  /-- R10: moves to the spare decided and not yet made: facet, rank of R11 and port. -/
  takeovers : List (Nat × Nat × Nat) := []
  /-- R376: repeats that disagreed, and slots, in this millisecond. -/
  hubBad : Nat := 0
  hubSlots : Nat := 0
  deriving DecidableEq, Repr

/-! ### Self-test (R462 to R480) -/

/-- R462, R466: the slice under way: its region, what it was dispatched for (1 BIST_RUN, 2 SLOW clearing, 3 the PERIODIC
cycle, 4 power-up: R471, R473), when its restore is planned to end, whether it is the repeat of R470, whether a restore of it
has failed (R469), and whether it has been stopped and only its restore remains (R463). -/
structure Slice where
  region : Nat
  why : Nat
  restoreEnd : Nat
  again : Bool
  rebuilt : Bool
  aborted : Bool
  deriving DecidableEq, Repr

/-- R477: a BIST_RUN in progress: its command, mode, the regions still to visit, and its counts. -/
structure BistRun where
  job : JobRef
  mode : Nat
  left : List Nat
  passed : Nat
  failed : Nat
  skipped : Nat
  seed : Nat
  patterns : Nat
  deriving DecidableEq, Repr

/-- What self-test keeps beside its attributes. -/
structure Bist where
  slice : Option Slice := none
  run : Option BistRun := none
  /-- R472: a PERIODIC cycle runs; regions that have passed in it; retries taken by region. -/
  cycling : Bool := false
  passed : List Nat := []
  tries : List (Nat × Nat) := []
  /-- R478: REASON of the last skip of each region. -/
  reasons : List (Nat × Nat) := []
  /-- R473: when each SLOW region was last sliced, plus one. -/
  slowTried : List (Nat × Nat) := []
  /-- R470: capture sections, hub control copies and axis interface copies that are FAILED, by region. -/
  failed : List Nat := []
  /-- R462, R497: the stand-in copy of hub control. -/
  standIn : Nat := 2
  deriving DecidableEq, Repr

/-! ### Power (R402 to R417) -/

/-- R408: a POWER_SET in progress: the state wanted, the domains named, those that have not answered, the refusals (domain,
reason, detail), and in the commit phase the domains still to change. -/
structure PowerSet where
  job : JobRef
  state : Nat
  mask : List Nat
  waiting : List Nat
  refusals : List (Nat × Nat × Nat)
  committing : Bool
  left : List Nat
  /-- R532: host pairs whose start training it has suspended. -/
  paused : List Nat
  deriving DecidableEq, Repr

/-- R417: a wake set firing: its set, source code and port, and the domains still to change. -/
structure Firing where
  set : Nat
  source : Nat
  port : Nat
  left : List Nat
  deriving DecidableEq, Repr

/-- What power keeps beside its attributes. -/
structure Power where
  set : Option PowerSet := none
  firing : Option Firing := none
  /-- R410, R417: firings that wait for POWER_DONE, and sentinel reports held until it (port, source, page energy). -/
  waiting : List (Nat × Nat × Nat) := []
  held : List (Nat × Nat × Bool) := []
  /-- R417: the timer of a set has run in this arming. -/
  timed : List Nat := []
  /-- R417: WAKE_OUT is high. -/
  wakeOut : Bool := false
  deriving DecidableEq, Repr

/-! ### Calibration (R439 to R458) -/

/-- What is kept for a calibrated item beside its attributes. -/
structure CalItem where
  /-- R456: FROM_STORE and DEFAULT. -/
  fromStore : Bool := false
  atDefault : Bool := false
  /-- R445: corrections applied to the item's trim since its nominal value or its stored result, in item LSBs. -/
  trim : Int := 0
  /-- R443: the element out of service that has been measured and corrected and waits for its boundary; the element last
  replaced. -/
  out : Option Nat := none
  resting : Option Nat := none
  /-- R447, R448: CAL_OVERDUE and CAL_LIMIT have been raised. -/
  overdue : Bool := false
  limited : Bool := false
  /-- R447: when the last run ended, by `Dev.elapsed`. -/
  ranAt : Nat := 0
  deriving DecidableEq, Repr

/-- R449: a CAL_RUN in progress: its command, kind and mode, the item of the first owner named, the owners still to do, those
done in ascending order, those of them that ended AT_LIMIT or HELD or had a slice fail, and whether one reached AT_LIMIT or
failed. -/
structure CalRun where
  job : JobRef
  kind : Nat
  check : Bool
  first : Nat
  left : List Nat
  finished : List Nat
  worst : List Nat
  degraded : Bool
  deriving DecidableEq, Repr

/-- R455, R457: a CAL_STORE in progress: its command, REGION as given, the slot (0 A, 1 B), the generation, and the slot's
contents as captured, header included. -/
structure CalStore where
  job : JobRef
  region : Nat
  slot : Nat
  gen : Nat
  bytes : List Byte
  deriving DecidableEq, Repr

/-- What calibration keeps beside its attributes. -/
structure Cal where
  items : List (Nat × CalItem) := []
  runs : List CalRun := []
  store : Option CalStore := none
  /-- R440: for VREF_EXT, REXT and REFCLK, consecutive measurements outside and inside the window. -/
  outside : List Nat := [0, 0, 0]
  inside : List Nat := [0, 0, 0]
  deriving DecidableEq, Repr

/-! ### Check units (R481 to R491) -/

/-- R487: a CHECK_SCAN in progress on a unit: its command, its 32 parameter bytes, and whether a write has reached a word of a
range since its start (R486). -/
structure CheckRun where
  job : JobRef
  unit : Nat
  params : List Byte
  changed : Bool
  deriving DecidableEq, Repr

/-! ### Life cycle, firmware, time, pins (R497 to R513, R521, R563) -/

/-- What the life cycle and firmware staging keep beside their attributes. -/
structure Life where
  /-- R505: an LC_ADVANCE in progress: its command and TARGET; R505: an erase is owed; it is under way. -/
  advance : Option (JobRef × Nat) := none
  erasePending : Bool := false
  erasing : Bool := false
  /-- R508: the FW_COMMIT in progress. -/
  commit : Option JobRef := none
  /-- R525: generation of the running patch, 0 for ROM. -/
  fwGen : Nat := 0
  deriving DecidableEq, Repr

/-- What the time base and the pulse pins keep beside their attributes. -/
structure TimeBase where
  /-- R512: AT_PULSE commands that wait for their edge, with their SEC. -/
  atPulse : List (JobRef × Nat) := []
  /-- R30: when the last pulse arrived, plus one, and how many intervals in a row have been in tolerance. -/
  pulseAt : Nat := 0
  pulseGood : Nat := 0
  /-- R510: offset still to be slewed, ns. -/
  slewLeft : Int := 0
  /-- R31, R510: the nanoseconds of `Dev.elapsed` in the present 10,000 ns of slewing. -/
  slewTick : Nat := 0
  /-- R513: TIMEPULSE_OUT is high. -/
  pulseOut : Bool := false
  deriving DecidableEq, Repr

/-- What wear rotation keeps (R497): the part of the period now, 0 before the first; when the last rotation started, plus one;
and which active core has served longest, as a place of DEVICE.VERTEX_CORES. -/
structure Wear where
  part : Nat := 0
  startedAt : Nat := 0
  oldest : Nat := 0
  deriving DecidableEq, Repr

/-- Everything the manual gives the block but the addressed memory. -/
structure Dev where
  /-- R7: the attributes that hold a value other than their reset value, by `attrKey`. -/
  attrs : List (Nat × Nat) := []
  /-- R7: the BLOCK attributes that hold other bytes than at reset, by `attrKey`. -/
  blocks : List (Nat × List Byte) := []
  /-- Nanoseconds since the release of reset; the model's own clock, by which time limits run (assumption 2). -/
  elapsed : Nat := 0
  /-- R509: device time, ns. -/
  devTime : Nat := 0
  /-- Time limits that are running, by `timerKey`: one more than the instant, in `elapsed`, at which each ends. -/
  timers : List (Nat × Nat) := []
  /-- The model's own counter: which free value is next (assumption 5). -/
  freeCount : Nat := 0
  /-- R339: the masters M0 to M3. -/
  masters : List (Nat × Master) := []
  /-- R331, R336: complete requests waiting for the Vertex, in order of arrival, with their master. -/
  waiting : List (Nat × List Byte) := []
  /-- R317: outstanding long-running commands, in the order taken. -/
  jobs : List Job := []
  /-- R207: COUNTERS_READ commands waiting for their sampling instant. -/
  held : List HeldRead := []
  /-- The order number of the next command taken. -/
  nextOrder : Nat := 0
  /-- R380 to R383. -/
  vertex : VertexMode := .running
  /-- R347: the master that yielded and the tag of its YIELD, while a handover is pending. -/
  handover : Option JobRef := none
  /-- R523: the start sequence. -/
  phase : StartPhase := .ready
  /-- R391: a brownout is being handled, with its rail and the instant it began. -/
  brownout : Option (Nat × Nat) := none
  /-- R523 to R529: steps of the start sequence left undone for want of REFCLK. -/
  startOwed : Bool := false
  ports : List (Nat × Port) := []
  prisms : List (Nat × Prism) := []
  multi : List MultiPort := []
  /-- R196: the next MSG_ID. -/
  msgId : Nat := 0
  /-- R197: messages received so far, their order. -/
  msgOrder : Nat := 0
  /-- R212: armed snapshots by record. -/
  snapshots : List (Nat × Option Snapshot) := []
  /-- R162: the ports and the remote index of each bound chord. -/
  chords : List (Nat × Option (List Nat × Nat)) := []
  links : List (Nat × Link) := []
  lanes : List (Nat × LaneRun) := []
  flows : List (Nat × FlowRun) := []
  /-- R278: the hub's sources, 0 to 127 ports, 128 to 135 host RX groups; the units accepted in the last round. -/
  sources : List (Nat × HubSource) := []
  accepted : List HubUnit := []
  /-- R279: port stores in hub SRAM. -/
  egress : List (Nat × List EgressFrame) := []
  faults : Faults := {}
  bist : Bist := {}
  power : Power := {}
  /-- R27: chords that clash. -/
  clashed : List Nat := []
  cal : Cal := {}
  /-- R484: CHECK_SCAN commands in progress. -/
  scans : List CheckRun := []
  life : Life := {}
  time : TimeBase := {}
  wear : Wear := {}
  /-- R498: dies on which AGING_WARN has been raised; R499: dies on which TEMP_HIGH is raised and UNMASKED TEMPERATURE. -/
  aged : List Nat := []
  hot : List Nat := []
  tooHot : List Nat := []
  /-- R496: background shares of the milliseconds of the present second. -/
  shares : List Nat := []
  /-- R563: GPIO_D is driven as slice strobe. -/
  strobe : Bool := false
  /-- R522: latched in the axis domain: VDD_CORE has been below 0.4 V, RESET_N has been low, the first rail that fell. -/
  sawCoreOff : Bool := false
  sawResetN : Bool := false
  sawRail : Option Nat := none
  /-- R514: rails now below their reset threshold, and RESET_N low. -/
  railsDown : List Nat := []
  resetLow : Bool := false
  /-- R536: REFCLK is back after a start without it, and the steps left undone are running. -/
  resuming : Bool := false
  deriving DecidableEq, Repr

/-- The whole state: the commands waiting, first in first out; the addressed memory of R483 as (address, byte) pairs in
canonical form; and the block. -/
structure State where
  pending : List Instr
  mem : List Host.Cell
  dev : Dev
  deriving DecidableEq, Repr

/-- R518 to R531: the state at READY after the release of reset, with no stored configuration, no stored calibration and no
patch, nothing waiting, and nothing listed in memory (assumptions 1, 3). -/
def State.reset : State :=
  { pending := [], mem := [], dev := { masters := [(0, { staticAddr := 0x5C, enint := true }), (1, { staticAddr := 0x5E, enint := true })] } }

/-- The reasons for which a step stops with a fault. No command of this block ends in one. -/
inductive Fault where
  deriving DecidableEq, Repr

/-- The reasons for which a command is refused by the model. -/
inductive Refusal where
  /-- Raised by `exec` for a row that has no meaning yet. Safe: the machine stops. -/
  | notModelled (mnemonic : String)
  deriving DecidableEq, Repr

end Sys2Proof.Machine
end

