-- ==== Sys2Proof/Machine/Cells.lean ====
section
/-! DEFINITION. Machine/Cells.lean: the one home of every read and write of an attribute, a block, a numbered unit, a time
limit, a free value and an addressed byte. -/

namespace Sys2Proof.Machine

/-! ### Attributes (R7) -/

/-- The place of an attribute's instance in the tables; distinct attributes never share one. -/
def attrKey (a : Attr) (i : Nat) : Nat := i * 2 ^ 24 + a.code

/-- The value of an attribute's instance as stored. -/
def attr (d : Dev) (a : Attr) (i : Nat) : Nat := bankGet (a.reset i) d.attrs (attrKey a i)

/-- An attribute's instance written, cut to its width. -/
def setAttr (a : Attr) (i v : Nat) (d : Dev) : Dev :=
  { d with attrs := bankPut (a.reset i) d.attrs (attrKey a i) (v % 2 ^ a.width) }

/-- A counter raised by `n`; it wraps at its width. -/
def bump (a : Attr) (i n : Nat) (d : Dev) : Dev := setAttr a i (attr d a i + n) d

/-- A flag attribute. -/
def attrOn (d : Dev) (a : Attr) (i : Nat) : Bool := attr d a i != 0

/-- A signed attribute's value. -/
def attrInt (d : Dev) (a : Attr) (i : Nat) : Int := signedOf a.width (attr d a i)

/-- A signed attribute written, saturating at its width. -/
def setAttrInt (a : Attr) (i : Nat) (v : Int) (d : Dev) : Dev := setAttr a i (saturateS a.width v) d

/-- The bytes of a block at reset (R7; SCAN_RESULT by R222). -/
def blockReset (a : Attr) (i : Nat) : List Byte :=
  if a.code = PORT_SCAN_RESULT.code then 0xFF#8 :: List.replicate 255 0#8 else List.replicate a.size (byteOf (a.reset i))

/-- The bytes of a block as stored. -/
def block (d : Dev) (a : Attr) (i : Nat) : List Byte := bankGet (blockReset a i) d.blocks (attrKey a i)

/-- A block written, at its size. -/
def setBlock (a : Attr) (i : Nat) (bs : List Byte) (d : Dev) : Dev :=
  { d with blocks := bankPut (blockReset a i) d.blocks (attrKey a i) (fitBytes bs a.size) }

/-- One byte of a block. -/
def blockByte (d : Dev) (a : Attr) (i k : Nat) : Nat := byteAt (block d a i) k

/-- One byte of a block written. -/
def setBlockByte (a : Attr) (i k v : Nat) (d : Dev) : Dev := setBlock a i ((block d a i).set k (byteOf v)) d

/-- The attribute back at its reset value. -/
def resetAttr (a : Attr) (i : Nat) (d : Dev) : Dev := setAttr a i (a.reset i) d

/-- The attribute at its reset value for each instance of a list. -/
def resetAttrs (as : List Attr) (i : Nat) (d : Dev) : Dev := as.foldl (fun e a => resetAttr a i e) d

/-! ### Masters -/

/-- A master's own state. -/
def master (d : Dev) (m : Nat) : Master := bankGet {} d.masters m

/-- A master's own state written. -/
def setMaster (m : Nat) (x : Master) (d : Dev) : Dev := { d with masters := bankPut {} d.masters m x }

/-- A master's own state changed. -/
def modMaster (m : Nat) (f : Master → Master) (d : Dev) : Dev := setMaster m (f (master d m)) d

/-! ### Time limits -/

/-- One key for a kind of time limit and the unit it belongs to. -/
def timerKey (kind inst : Nat) : Nat := kind * 2 ^ 24 + inst

/-- A time limit started (again): it ends `ns` from now. -/
def arm (kind inst ns : Nat) (d : Dev) : Dev := { d with timers := bankPut 0 d.timers (timerKey kind inst) (d.elapsed + ns + 1) }

/-- A time limit stopped. -/
def disarm (kind inst : Nat) (d : Dev) : Dev := { d with timers := bankPut 0 d.timers (timerKey kind inst) 0 }

/-- Whether a time limit is running. -/
def armed (d : Dev) (kind inst : Nat) : Bool := bankGet 0 d.timers (timerKey kind inst) != 0

/-- Whether a running time limit has ended. -/
def due (d : Dev) (kind inst : Nat) : Bool :=
  armed d kind inst && decide (bankGet 0 d.timers (timerKey kind inst) ≤ d.elapsed + 1)

/-- Nanoseconds until a time limit ends; 0 where it is not running. -/
def timeLeft (d : Dev) (kind inst : Nat) : Nat := bankGet 0 d.timers (timerKey kind inst) - 1 - d.elapsed

/-- `f` where the time limit has ended, nothing otherwise: the form of every row that is the expiry of a limit. -/
def onExpiry (kind inst : Nat) (f : Dev → Dev) (d : Dev) : Dev := if due d kind inst then f (disarm kind inst d) else d

/-- R511: a time limit that ends at the next multiple of a period of device time. -/
def armMultiple (kind inst period : Nat) (d : Dev) : Dev := arm kind inst (period - d.devTime % period) d

/-- R511: whether a multiple of a period of device time has come since the last one taken. -/
def multipleDue (d : Dev) (kind period : Nat) : Bool := if armed d kind 0 then due d kind 0 else decide (period ≤ d.devTime)

abbrev nsPerUs : Nat := 1000
abbrev nsPerMs : Nat := 1000000
abbrev nsPerS : Nat := 1000000000

/-! ### Free values -/

/-- The next free value. -/
def freeVal (d : Dev) : Nat := Config.freeNat d.freeCount

/-- The free value used up. -/
def usedFree (d : Dev) : Dev := { d with freeCount := d.freeCount + 1 }

/-! ### Addressed memory (R483) -/

/-- What a byte that nothing has written reads as (assumption 6). -/
abbrev memDefault : Byte := 0#8

/-- One byte of the device address space. -/
def memGet (m : List Host.Cell) (a : Nat) : Byte := bankGet memDefault m a

/-- One byte written. -/
def memPut (m : List Host.Cell) (a : Nat) (b : Byte) : List Host.Cell := bankPut memDefault m a b

/-- `n` bytes from an address. -/
def memRead (m : List Host.Cell) (a n : Nat) : List Byte := (List.range n).map fun i => memGet m (a + i)

/-- Bytes written from an address on. -/
def memWrite (m : List Host.Cell) (a : Nat) : List Byte → List Host.Cell
  | [] => m
  | b :: r => memWrite (memPut m a b) (a + 1) r

/-- Every byte of a range back to what an unwritten byte reads as. -/
def memErase (m : List Host.Cell) (a n : Nat) : List Host.Cell := m.filter fun c => decide (c.1 < a) || decide (a + n ≤ c.1)

/-- The canonical form of the memory. -/
def memWf (m : List Host.Cell) : Bool := bankWf memDefault m

/-- A change a command makes to the addressed memory. -/
inductive MemOp where
  | keep
  | write (addr : Nat) (bytes : List Byte)
  | erase (addr n : Nat)
  | both (a b : MemOp)
  deriving DecidableEq, Repr

/-- The memory after a change. -/
def applyMemOp (m : List Host.Cell) : MemOp → List Host.Cell
  | .keep => m
  | .write a bs => memWrite m a bs
  | .erase a n => memErase m a n
  | .both x y => applyMemOp (applyMemOp m x) y

/-! ### Outcomes -/

/-- What a step answers. -/
abbrev Out := Host.Outcome State Fault Refusal

/-- A command whose effect is on the block alone. -/
def onDev (f : Dev → Dev) (s : State) : Out := .next { s with dev := f s.dev }

/-! ### Geometry (R6) -/

/-- The facet of a port. -/
def facetOf (p : Nat) : Nat := p / 4

/-- The prism of a port. -/
def prismOf (p : Nat) : Nat := p / 16

/-- The line die of a port. -/
def dieOf (p : Nat) : Nat := p / 64

/-- The ports of a prism. -/
def portsOfPrism (m : Nat) : List Nat := (List.range 16).map (16 * m + ·)

/-- The ports of a facet. -/
def portsOfFacet (f : Nat) : List Nat := (List.range 4).map (4 * f + ·)

/-- Every port. -/
def allPorts : List Nat := List.range 128

/-- `f` over a list of units, in order. -/
def forAll (l : List Nat) (f : Nat → Dev → Dev) (d : Dev) : Dev := l.foldl (fun e i => f i e) d

/-- `f` where a condition holds, nothing otherwise. -/
def when (c : Bool) (f : Dev → Dev) (d : Dev) : Dev := if c then f d else d

end Sys2Proof.Machine
end

