-- ==== Sys2Proof/Machine/Flags.lean ====
section
/-! DEFINITION. Machine/Flags.lean: the status bits that are computed from the state: MBX_STATUS and the mailbox registers
(R330), the IBI data byte (R333), IRQ_N (R358), the I3C status words (R326, R327). -/

namespace Sys2Proof.Machine

/-- Whether a queue holds an OVERFLOW record (R356). -/
def overflowed (x : Master) : Bool := x.events.any fun r => r.type == evOverflow

/-- R333: the IBI data byte. -/
def ibiByte (x : Master) : Nat :=
  4 * bitNat (overflowed x) + 2 * bitNat (!x.events.isEmpty) + bitNat (!x.replies.isEmpty)

/-- R331: requests of a master that wait for the Vertex. -/
def waitingOf (d : Dev) (m : Nat) : List (List Byte) := (d.waiting.filter fun w => w.1 == m).map (·.2)

/-- R330: both request places of a port occupied. -/
def reqFull (d : Dev) (m : Nat) : Bool := (master d m).partialReq.isSome && decide (1 ≤ (waitingOf d m).length)
  || decide (2 ≤ (waitingOf d m).length)

/-- R358: a reply is pending from the moment it enters the queue until it is read in full or removed. -/
def replyPending (x : Master) : Bool := x.replies.any fun r => !r.readFull

/-- R358: whether IRQ_N is held low. -/
def irqLow (d : Dev) : Bool :=
  (List.range 4).any fun m =>
    let x := master d m
    attrOn d EVENTQ_IRQ_EN m && (!x.events.isEmpty || (decide (m < 2) && replyPending x))

/-- R327: the port's current address. -/
def currentAddr (x : Master) : Nat := x.dynAddr.getD x.staticAddr

/-- R326: bits [31:1] of the CRC-32C over the unique ID, bits [47:33] the manufacturer ID, bit 32 one, bit 0 the port. -/
def mipiMfg : Nat := 0x6B3D

/-- R501: Spaloth's OUI. -/
def ouiValue : Nat := 0x9C4E21

end Sys2Proof.Machine
end

