-- ==== Sys2Proof/Machine/Complex.lean ====
section
/-! DEFINITION. Machine/Complex.lean: complex numbers as the line receiver uses them: pairs of integers in a unit that the place names,
and coefficients in units of 2^-30 (assumption 104). -/

namespace Sys2Proof.Machine

/-- The sum of two complex numbers. -/
def cxAdd (a b : Cx) : Cx := (a.1 + b.1, a.2 + b.2)

/-- Their difference. -/
def cxSub (a b : Cx) : Cx := (a.1 - b.1, a.2 - b.2)

/-- Their product. -/
def cxMul (a b : Cx) : Cx := (a.1 * b.1 - a.2 * b.2, a.1 * b.2 + a.2 * b.1)

/-- The conjugate. -/
def cxConj (a : Cx) : Cx := (a.1, -a.2)

/-- Both parts divided by a positive number, rounded toward minus infinity. -/
def cxDiv (a : Cx) (n : Int) : Cx := (a.1 / n, a.2 / n)

/-- The square of the magnitude. -/
def cxNorm (a : Cx) : Nat := (a.1 * a.1 + a.2 * a.2).toNat

/-- One, as a coefficient. -/
abbrev coefOne : Int := 2 ^ 30

/-- A coefficient applied to a value. -/
def cxApply (c z : Cx) : Cx := cxDiv (cxMul c z) coefOne

/-- A point turned by `r` times 90 degrees (R44, R175). -/
def quarterTurn : Nat → Cx → Cx
  | 0, z => z
  | r + 1, z => let w := quarterTurn r z; (-w.2, w.1)

/-- The largest number below `2 ^ n`, above `x` in steps of powers of two, that a downward closed predicate allows. -/
def largestBelow (ok : Nat → Bool) : Nat → Nat → Nat
  | 0, x => x
  | n + 1, x => largestBelow ok n (if ok (x + 2 ^ n) then x + 2 ^ n else x)

/-- The square root, rounded down, of a number below 2^160. -/
def rootOf (v : Nat) : Nat := largestBelow (fun x => decide (x * x ≤ v)) 80 0

/-- 10^(k/100), for `k` in 0.1 dB, in units of 2^-20. -/
def powerOf (k : Nat) : Nat := largestBelow (fun x => decide (x ^ 100 ≤ 2 ^ 2000 * 10 ^ k)) 40 0

/-- A step of a coefficient of magnitude `c` held to 2^-k of that magnitude: halved until it fits (assumption 104). -/
def boundStep (k : Nat) (c : Cx) : Nat → Cx → Cx
  | 0, _ => (0, 0)
  | n + 1, s => if cxNorm s * 4 ^ k ≤ cxNorm c then s else boundStep k c n (s.1.tdiv 2, s.2.tdiv 2)

/-- A value turned back by the phase of `c`. -/
def cxUnturn (c z : Cx) : Cx := cxDiv (cxMul z (cxConj c)) (max 1 (rootOf (cxNorm c)))

end Sys2Proof.Machine
end

