-- ==== Sys2Proof/Machine/Coding.lean ====
section
/-! DEFINITION. Machine/Coding.lean: the codes the manual makes normative: CRC engines (R108, R178, R269, R301, R482), the
PRBS generators (R43, R228, R230), RS codes over GF(2^10) (R101, R227), and the constellation mapping (R49). -/

namespace Sys2Proof.Machine

/-! ### Cyclic redundancy checks -/

/-- One bit into a CRC register of width `w` (R482, the body of its inner loop). -/
def crcBit (w poly reg : Nat) (b : Bool) : Nat :=
  let top := (reg.testBit (w - 1)) != b
  let sh := (reg * 2) % 2 ^ w
  if top then sh ^^^ poly else sh

/-- A CRC register run over a bit string. -/
def crcBits (w poly reg : Nat) (bs : List Bool) : Nat := bs.foldl (crcBit w poly) reg

/-- Bit `j` to bit `w − 1 − j` (R482). -/
def reflectBits (v w : Nat) : Nat := ofBits (bitsLsb v w)

/-- The parameters of a check unit (R481). -/
structure CrcParams where
  width : Nat
  poly : Nat
  init : Nat
  reflectIn : Bool
  reflectOut : Bool
  invert : Bool
  deriving DecidableEq, Repr

/-- R482: the register after a stream of bytes. -/
def crcStream (c : CrcParams) (reg : Nat) (bs : List Byte) : Nat :=
  bs.foldl (fun r b => crcBits c.width c.poly r (if c.reflectIn then bitsLsb b.toNat 8 else bitsMsb b.toNat 8)) reg

/-- R482: the value given out for a final register. -/
def crcFinal (c : CrcParams) (reg : Nat) : Nat :=
  let out := if c.reflectOut then reflectBits reg c.width else reg
  if c.invert then out ^^^ (2 ^ c.width - 1) else out

/-- R482: the check of a byte stream. -/
def crcOf (c : CrcParams) (bs : List Byte) : Nat := crcFinal c (crcStream c c.init bs)

/-- The CRC-32C of R178. -/
def crc32cParams : CrcParams := ⟨32, 0x1EDC6F41, 0xFFFFFFFF, true, true, true⟩

/-- R178: CRC-32C of a byte string. -/
def crc32c (bs : List Byte) : Nat := crcOf crc32cParams bs

/-- IEEE 802.3 frame check sequence. PRESUMED (assumption 13): the manual names the sequence without its polynomial. -/
def fcs32 (bs : List Byte) : Nat := crcOf ⟨32, 0x04C11DB7, 0xFFFFFFFF, true, true, true⟩ bs

/-- Whether a frame's last four bytes are its frame check sequence (R114, R272). -/
def fcsGood (frame : List Byte) : Bool :=
  decide (4 ≤ frame.length) && (fcs32 (frame.take (frame.length - 4)) == ofLE (frame.drop (frame.length - 4)))

/-- R301: the header check, the tag folded in through the initial value. -/
def hcrc (header : List Byte) (reply : Bool) : Nat :=
  let tag := byteAt header 3
  crcBits 16 0x1021 (if reply then tag * 256 + 0xFF else 0xFF00 + tag) (bytesToBits (header.take 6))

/-- R303: the parameter check; the prefix is SEQ, MASTER, TAG. -/
def pcrc (seq master tag : Nat) (ps : List Byte) : Nat :=
  crc32c (toLE seq 2 ++ [byteOf master, byteOf tag] ++ ps)

/-- R108: CRC-12 of a bit string. -/
def crc12 (bs : List Bool) : Nat := crcBits 12 0x80F 0 bs

/-- R269: CRC-8 of a bit string. -/
def crc8 (bs : List Bool) : Nat := crcBits 8 0x07 0 bs

/-! ### Pseudo-random generators -/

/-- R43: one step of the PRBS-15 generator: the output bit and the next state. -/
def prbs15Step (s : Nat) : Bool × Nat :=
  let b := (s.testBit 14) != (s.testBit 13)
  (b, (s * 2 + bitNat b) % 2 ^ 15)

/-- `n` outputs of the PRBS-15 generator and the state left. -/
def prbs15 : Nat → Nat → List Bool × Nat
  | 0, s => ([], s)
  | n + 1, s =>
    let (b, s') := prbs15Step s
    let (bs, t) := prbs15 n s'
    (b :: bs, t)

/-- R228: one step of the PRBS-31 generator (x^31 + x^28 + 1). DEDUCED (assumption 14): taken in the shift form that R43 gives PRBS-15. -/
def prbs31Step (s : Nat) : Bool × Nat :=
  let b := (s.testBit 30) != (s.testBit 27)
  (b, (s * 2 + bitNat b) % 2 ^ 31)

/-- `n` outputs of the PRBS-31 generator and the state left. -/
def prbs31 : Nat → Nat → List Bool × Nat
  | 0, s => ([], s)
  | n + 1, s =>
    let (b, s') := prbs31Step s
    let (bs, t) := prbs31 n s'
    (b :: bs, t)

/-- R243: one step of the PRBS-13 generator (x^13 + x^12 + x^2 + x + 1), in the same form. -/
def prbs13Step (s : Nat) : Bool × Nat :=
  let b := ((s.testBit 12) != (s.testBit 11)) != ((s.testBit 1) != (s.testBit 0))
  (b, (s * 2 + bitNat b) % 2 ^ 13)

/-- `n` outputs of the PRBS-13 generator and the state left. -/
def prbs13 : Nat → Nat → List Bool × Nat
  | 0, s => ([], s)
  | n + 1, s =>
    let (b, s') := prbs13Step s
    let (bs, t) := prbs13 n s'
    (b :: bs, t)

/-! ### PAM4 (R226) -/

/-- R226: the level of a pair of bits, the first bit sent first. -/
def pam4 : Bool → Bool → Int
  | false, false => -3
  | false, true => -1
  | true, true => 1
  | true, false => 3

/-- R226: a bit string as levels. -/
def levelsOf : List Bool → List Int
  | a :: b :: r => pam4 a b :: levelsOf r
  | _ => []

/-- Bitwise exclusive or of bit strings. -/
def xorBits (a b : List Bool) : List Bool := List.zipWith (fun x y => x != y) a b

/-! ### GF(2^10) and the Reed-Solomon codes -/

/-- Multiplication by α in the field of R101 (x^10 + x^3 + 1). -/
def gfTimesAlpha (a : Nat) : Nat := if a.testBit 9 then ((a * 2) % 1024) ^^^ 9 else a * 2

/-- Product in GF(2^10), over the ten bits of `b` from the top. -/
def gfMulAux (a b : Nat) : Nat → Nat → Nat
  | 0, acc => acc
  | n + 1, acc => gfMulAux a b n ((gfTimesAlpha acc) ^^^ (if b.testBit n then a else 0))

/-- R101: product in GF(2^10). -/
def gfMul (a b : Nat) : Nat := gfMulAux a b 10 0

/-- α to a power. -/
def gfAlpha : Nat → Nat
  | 0 => 1
  | n + 1 => gfTimesAlpha (gfAlpha n)

/-- Power of an element. -/
def gfPow (a : Nat) : Nat → Nat
  | 0 => 1
  | n + 1 => gfMul a (gfPow a n)

/-- The inverse a^1022 of a non-zero element, by squaring: 1022 = 2 + 4 + … + 512. -/
def gfInv (a : Nat) : Nat :=
  let step := fun (p : Nat × Nat) (_ : Nat) => (gfMul p.1 p.1, gfMul p.2 (gfMul p.1 p.1))
  ((List.range 9).foldl step (a, 1)).2

/-- Multiply a polynomial (lowest coefficient first) by (x + r). -/
def polyTimesRoot (p : List Nat) (r : Nat) : List Nat :=
  List.zipWith (· ^^^ ·) (0 :: p) (p.map (gfMul r) ++ [0])

/-- R101, R227: the generator (x + α^0) … (x + α^(k−1)), lowest coefficient first, without its leading 1. -/
def rsGenerator (k : Nat) : List Nat :=
  ((List.range k).foldl (fun p i => polyTimesRoot p (gfAlpha i)) [1]).take k

/-- Systematic parity of `k` symbols for data symbols in codeword order (symbol 0 is the highest coefficient). -/
def rsParity (k : Nat) (data : List Nat) : List Nat :=
  let g := (rsGenerator k).reverse
  data.foldl (fun reg d =>
    let f := d ^^^ reg.headD 0
    List.zipWith (· ^^^ ·) (reg.drop 1 ++ [0]) (g.map (gfMul f))) (List.replicate k 0)

/-- A codeword: the data symbols and their parity. -/
def rsEncode (k : Nat) (data : List Nat) : List Nat := data ++ rsParity k data

/-- A polynomial given highest coefficient first, at a point. -/
def hornerAt (cs : List Nat) (x : Nat) : Nat := cs.foldl (fun a c => gfMul a x ^^^ c) 0

/-- The `k` syndromes of a received word. -/
def rsSyndromes (k : Nat) (w : List Nat) : List Nat := (List.range k).map fun i => hornerAt w (gfAlpha i)

/-- Coefficient `i` of a polynomial given lowest coefficient first. -/
def coeff (p : List Nat) (i : Nat) : Nat := p.getD i 0

/-- Sum of two polynomials given lowest coefficient first. -/
def polyAdd (a b : List Nat) : List Nat := (List.range (max a.length b.length)).map fun i => coeff a i ^^^ coeff b i

/-- The state of the Berlekamp–Massey recursion. -/
structure BmState where
  c : List Nat
  b : List Nat
  len : Nat
  m : Nat
  disc : Nat

/-- One step of the Berlekamp–Massey recursion on syndrome `n`. -/
def bmStep (syn : List Nat) (t : BmState) (n : Nat) : BmState :=
  let d := (List.range (t.len + 1)).foldl (fun a i => a ^^^ gfMul (coeff t.c i) (coeff syn (n - i))) 0
  if d = 0 then { t with m := t.m + 1 }
  else
    let f := gfMul d (gfInv t.disc)
    let c' := polyAdd t.c (List.replicate t.m 0 ++ t.b.map (gfMul f))
    if 2 * t.len ≤ n then { c := c', b := t.c, len := n + 1 - t.len, m := 1, disc := d }
    else { t with c := c', m := t.m + 1 }

/-- The error locator of a received word, lowest coefficient first, and its length. -/
def bmLocator (syn : List Nat) : List Nat × Nat :=
  let t := (List.range syn.length).foldl (bmStep syn) ⟨[1], [1], 0, 1, 1⟩
  (t.c, t.len)

/-- The value of an error at locator `x`, by Forney's formula with first root α^0. -/
def rsErrorValue (syn loc : List Nat) (x : Nat) : Nat :=
  let xi := gfInv x
  let k := syn.length
  let omega := (List.range k).map fun i => (List.range (i + 1)).foldl (fun a j => a ^^^ gfMul (coeff syn j) (coeff loc (i - j))) 0
  let num := (List.range k).foldl (fun a i => a ^^^ gfMul (coeff omega i) (gfPow xi i)) 0
  let den := (List.range loc.length).foldl (fun a i => if i % 2 = 1 then a ^^^ gfMul (coeff loc i) (gfPow xi (i - 1)) else a) 0
  gfMul x (gfMul num (gfInv den))

/-- R101, R227: decoding with `k` parity symbols. At most `k / 2` symbols are corrected, with no erasures; answers the
corrected word and the number of symbols corrected, or nothing where no codeword lies that near. -/
def rsDecode (k : Nat) (w : List Nat) : Option (List Nat × Nat) :=
  let syn := rsSyndromes k w
  if syn.all (· == 0) then some (w, 0)
  else
    let (loc, len) := bmLocator syn
    let n := w.length
    let hits := (List.range n).filter fun i =>
      (List.range loc.length).foldl (fun a j => a ^^^ gfMul (coeff loc j) (gfPow (gfInv (gfAlpha (n - 1 - i))) j)) 0 == 0
    if len ≤ k / 2 ∧ hits.length = len then
      let w' := hits.foldl (fun v i => v.set i (v.getD i 0 ^^^ rsErrorValue syn loc (gfAlpha (n - 1 - i)))) w
      if (rsSyndromes k w').all (· == 0) then some (w', len) else none
    else none

/-- Ten-bit symbols as a bit string, each most significant bit first (R102). -/
def symbolsToBits (l : List Nat) : List Bool := l.flatMap fun v => bitsMsb v 10

/-- `n` ten-bit symbols from a bit string. -/
def bitsToSymbols : Nat → List Bool → List Nat
  | 0, _ => []
  | n + 1, bs => ofBits (bs.take 10) :: bitsToSymbols n (bs.drop 10)

/-! ### Constellations -/

/-- R49: binary-reflected Gray code to index. -/
def grayInv (g : Nat) : Nat := (List.range 12).foldl (fun n i => n ^^^ (g >>> (i + 1))) g

/-- R49: a `b`-bit label as an integer point (i, q), `1 ≤ b ≤ 12`. -/
def mapPoint (v b : Nat) : Int × Int :=
  let bi := (b + 1) / 2
  let bq := b / 2
  let i : Int := 2 * (grayInv (v >>> bq) : Int) - (2 ^ bi - 1)
  let q : Int := 2 * (grayInv (v % 2 ^ bq) : Int) - (2 ^ bq - 1)
  let si : Int := if i > 0 then 1 else -1
  let sq : Int := if q > 0 then 1 else -1
  if b = 3 ∧ i.natAbs = 3 ∧ si = sq then (si, 3 * sq)
  else if 5 ≤ b ∧ b % 2 = 1 then
    let a : Int := 2 ^ bq
    let edge : Int := 3 * a / 2 - 1
    if (i.natAbs : Int) > edge then (si * q.natAbs, sq * (a - 1 + 2 * (((i.natAbs : Int) - edge) / 2))) else (i, q)
  else (i, q)

/-- R48: the average energy of the integer points. -/
def pointEnergy : Nat → Nat
  | 1 => 1 | 2 => 2 | 3 => 6 | 4 => 10 | 5 => 20 | 6 => 42 | 7 => 82 | 8 => 170 | 9 => 330 | 10 => 682 | 11 => 1322
  | 12 => 2730 | _ => 0

end Sys2Proof.Machine
end

