-- ==== Sys2Proof/Machine/Operands.lean ====
section
/-! DEFINITION. Machine/Operands.lean: how a Finog packet is built and read (R299 to R304), and the operand forms that commands
share: port masks (R134), attribute addresses (R319), the paths of R6. -/

namespace Sys2Proof.Machine

/-! ### Packets (R299 to R304) -/

/-- R299, R304: an eight-byte header without its check; `second` is FLAGS of a request, STATUS of a reply. -/
def headerBase (op second m tag len : Nat) : List Byte := [byteOf op, byteOf second, byteOf m, byteOf tag] ++ toLE len 2

/-- A packet: header, HCRC, parameters or result, PCRC. -/
def buildPacket (reply : Bool) (op second m tag seq : Nat) (ps : List Byte) : List Byte :=
  let h := headerBase op second m tag ps.length
  h ++ toLE (hcrc h reply) 2 ++ ps ++ toLE (pcrc seq m tag ps) 4

/-- R299: a request. -/
def buildRequest (op flags m tag seq : Nat) (ps : List Byte) : List Byte := buildPacket false op flags m tag seq ps

/-- R304: a reply. -/
def buildReply (op status m tag seq : Nat) (result : List Byte) : List Byte := buildPacket true op status m tag seq result

/-- R302: byte 2 of a packet replaced by the ID of the transport, where the packet has that byte. -/
def withMaster (m : Nat) (raw : List Byte) : List Byte := raw.set 2 (byteOf m)

/-- R309 step 1: the header check of a request. -/
def headerGood (raw : List Byte) : Bool := leAt raw 6 2 == hcrc (raw.take 8) false

/-- The LENGTH field of a packet. -/
def packetLength (raw : List Byte) : Nat := leAt raw 4 2

/-- The parameters of a packet that is as long as its LENGTH says. -/
def packetParams (raw : List Byte) : List Byte := (raw.drop 8).take (packetLength raw)

/-- The PCRC field of a packet. -/
def packetPcrc (raw : List Byte) : Nat := leAt raw (8 + packetLength raw) 4

/-- The issuer and tag of a request. -/
def callRef (c : Call) : JobRef := ⟨c.master, c.tag⟩

/-! ### Port masks (R134) and attribute addresses (R320) -/

/-- The ports of a mask of 128 bits at byte `off`. -/
def maskPorts (ps : List Byte) (off : Nat) : List Nat := maskList ps off 128

/-- R320: CLASS, INSTANCE and ID. -/
structure AttrAddr where
  cls : Nat
  inst : Nat
  id : Nat
  deriving DecidableEq, Repr

/-- R320: the address in bytes 0 to 5. -/
def addrAt (ps : List Byte) : AttrAddr := ⟨byteAt ps 0, leAt ps 2 2, leAt ps 4 2⟩

/-- R320: the six address bytes. -/
def addrBytes (a : AttrAddr) : List Byte := [byteOf a.cls, 0#8] ++ toLE a.inst 2 ++ toLE a.id 2

/-- R319: the attribute an address names. -/
def findAttr (a : AttrAddr) : Option Attr := catalogue.find? fun x => x.cls == a.cls && x.id == a.id

/-! ### Numbering (R6, R225, R262, R353) -/

/-- R353: the full path of an event's source. -/
structure Path where
  lattice : Nat
  die : Option Nat := none
  prism : Option Nat := none
  facet : Option Nat := none
  port : Option Nat := none
  group : Option Nat := none
  lane : Option Nat := none
  deriving DecidableEq, Repr

/-- R262: the die at whose edge a group instance lies (2 is DH). -/
def dieOfGroup (g : Nat) : Nat := if g < 16 then 2 else (g - 16) / 8

/-- R6, R353: the path of a source, from the lattice index, its class and its instance. -/
def pathOf (idx cls inst : Nat) : Path :=
  if cls = clsDie then { lattice := idx, die := some inst }
  else if cls = clsPrism then { lattice := idx, die := some (inst / 4), prism := some inst }
  else if cls = clsFacet then { lattice := idx, die := some (inst / 16), prism := some (inst / 4), facet := some inst }
  else if cls = clsPort ∨ cls = clsSvc then
    { lattice := idx, die := some (dieOf inst), prism := some (prismOf inst), facet := some (facetOf inst), port := some inst }
  else if cls = clsGroup then { lattice := idx, die := some (dieOfGroup inst), group := some inst }
  else if cls = clsLane then
    { lattice := idx, die := some (dieOfGroup (inst / 8)), group := some (inst / 8), lane := some (inst % 8) }
  else if cls = clsFlow ∨ cls = clsEventq then { lattice := idx, die := some 2 }
  else { lattice := idx }

end Sys2Proof.Machine
end

