-- ==== Sys2Proof/Machine/Ops.lean ====
section
/-! DEFINITION. Machine/Ops.lean: the operations that many commands share: raising events (R349 to R356), completing
long-running commands (R316 to R318), and how the Vertex takes a request and answers it (R309 to R312). -/

namespace Sys2Proof.Machine

/-! ### Signalling (R333, R359) -/

/-- Whether the transport of a master is up (R337, R338): an I3C port always is; a command channel is while its host pair
carries rows. -/
def transportUp (d : Dev) (m : Nat) : Bool :=
  decide (m < 2) || (let st := attr d GROUP_STATE (4 * (m - 2)); st == 2 || st == 3 || st == 4)

/-- R333, R359: an IBI requested on an I3C port with ENINT and a dynamic address, a NOTICE owed on a command channel; neither before
READY (R524). -/
def signal (m : Nat) (d : Dev) : Dev :=
  let x := master d m
  if d.phase ≠ .ready then d
  else if m < 2 then
    if x.enint ∧ x.dynAddr.isSome then setMaster m { x with ibi := some (ibiByte x) } d else d
  else setMaster m { x with notice := some (ibiByte x) } d

/-! ### Events (R349 to R356) -/

/-- R356: an event at one queue. At a queue that holds 255 it is lost: an OVERFLOW record takes the last place, and counts
each further loss. -/
def enqueue (m : Nat) (r : EventRec) (d : Dev) : Dev :=
  let x := master d m
  if x.events.length < 255 then
    let d1 := bump EVENTQ_QUEUED m 1 (setMaster m { x with events := x.events ++ [r] } d)
    if x.events.isEmpty then arm tkSignal m (10 * nsPerMs) (signal m d1) else d1
  else
    match x.events.getLast? with
    | some o =>
      if o.type = evOverflow then
        bump EVENTQ_LOST m 1
          (setMaster m { x with events := x.events.dropLast ++ [{ o with detail := min 0xFFFF (o.detail + 1) }] } d)
      else
        let ov : EventRec := ⟨r.seq, r.time, clsEventq, m, evOverflow, 1⟩
        signal m (bump EVENTQ_QUEUED m 1 (bump EVENTQ_LOST m 1 (setMaster m { x with events := x.events ++ [ov] } d)))
    | none => d

/-- R352: the record an event leaves, with the next EVENT_SEQ. -/
def makeEvent (d : Dev) (cls inst type detail : Nat) : EventRec :=
  ⟨attr d DEVICE_EVENT_SEQ_NEXT 0, d.devTime % 2 ^ 48, cls, inst, type, detail % 65536⟩

/-- R349: an event placed in the queues of a list of masters; it takes one EVENT_SEQ. A halted Vertex queues none (R383). -/
def raiseTo (ms : List Nat) (cls inst type detail : Nat) (d : Dev) : Dev :=
  if d.vertex = .halted then d
  else
    let r := makeEvent d cls inst type detail
    forAll ms (fun m => enqueue m r) (bump DEVICE_EVENT_SEQ_NEXT 0 1 d)

/-- R350: the category of an event. -/
def category (type : Nat) : Nat := fieldOf type 6 3

/-- R350: the queues whose filter takes a category. -/
def subscribers (d : Dev) (type : Nat) : List Nat :=
  (List.range 4).filter fun m => bitOf (attr d EVENTQ_FILTER m) (category type)

/-- R350: an event of category 1 or more. -/
def raise (cls inst type detail : Nat) (d : Dev) : Dev := raiseTo (subscribers d type) cls inst type detail d

/-- R350: an event of category 0 that goes to every queue. -/
def raiseAll (cls inst type detail : Nat) (d : Dev) : Dev := raiseTo (List.range 4) cls inst type detail d

/-! ### Long-running commands (R316 to R318) -/

/-- The outstanding command of an issuer and tag. -/
def findJob (d : Dev) (j : JobRef) : Option Job := d.jobs.find? fun x => x.ref == j

/-- R317: how many long-running commands of a master are outstanding. -/
def outstanding (d : Dev) (m : Nat) : Nat := (d.jobs.filter fun x => x.ref.master == m).length

/-- R316: a command now outstanding. -/
def addJob (c : Call) (d : Dev) : Dev := { d with jobs := d.jobs ++ [⟨callRef c, c.op, c.params, c.order, false, false, false⟩] }

/-- R318: the completion record. -/
def completionRecord (d : Dev) (op status : Nat) (j : JobRef) (result : List Byte) : List Byte :=
  [byteOf op, byteOf status, byteOf j.master, byteOf j.tag] ++ toLE result.length 2 ++ toLE (attr d DEVICE_EVENT_SEQ_NEXT 0) 4
    ++ toLE (d.devTime % 2 ^ 48) 6 ++ result

/-- R316 to R318: a completion event on the issuer's queue, its record in DEVICE.COMPLETION, and the tag free again. -/
def completeBase (j : JobRef) (cls inst type status : Nat) (result : List Byte) (d : Dev) : Dev :=
  match findJob d j with
  | none => d
  | some job =>
    let d1 := setBlock DEVICE_COMPLETION (256 * j.master + j.tag) (completionRecord d job.opcode status j result) d
    let d2 := { d1 with jobs := d1.jobs.filter fun x => !(x.ref == j) }
    disarm tkFence (256 * j.master + j.tag) (raiseTo [j.master] cls inst (128 + type) (j.tag + 256 * status) d2)

/-- R364: the first fence of a master, where its timeout has passed. -/
def timedOutFence (d : Dev) (m : Nat) : Option Job :=
  match d.jobs.find? fun x => x.ref.master == m && x.opcode == 0x28 with
  | some f => if f.timedOut then some f else none
  | none => none

/-- R364: fences whose timeout passed while an earlier fence waited complete after it, in the order taken; at most `n`. -/
def flushFences (m : Nat) : Nat → Dev → Dev
  | 0, d => d
  | n + 1, d =>
    match timedOutFence d m with
    | some f => flushFences m n (completeBase f.ref clsEventq m evFenceDone stTimeout [] d)
    | none => d

/-- R316 to R318, R364: a long-running command completes. -/
def complete (j : JobRef) (cls inst type status : Nat) (result : List Byte) (d : Dev) : Dev :=
  completeBase j cls inst type status result d

/-- A fence completes, and after it the fences of that master whose timeout has already passed (R360, R364). -/
def completeFence (j : JobRef) (status : Nat) (d : Dev) : Dev :=
  flushFences j.master 16 (completeBase j clsEventq j.master evFenceDone status [] d)

/-- A completion owed to no command, to one command (R316). -/
def completeOpt (j : Option JobRef) (cls inst type status : Nat) (result : List Byte) (d : Dev) : Dev :=
  match j with
  | some r => complete r cls inst type status result d
  | none => d

/-! ### Taking a request (R309 to R312) -/

/-- What a command's own checks and effect come to. -/
inductive Verdict where
  /-- Checks failed, or the command does not apply: the status and its result; no effect (R310). -/
  | refuse (status : Nat) (result : List Byte)
  /-- Done with its reply: status OK, the result, the block after it and the change to memory. -/
  | done (result : List Byte) (d : Dev) (w : MemOp)
  /-- Started: status ACCEPTED, its result, and the block after the start, the command being outstanding in it. -/
  | accept (result : List Byte) (d : Dev)
  /-- A region it needs is under a self-test slice: status DEFERRED (R474). -/
  | defer
  /-- The reply follows at a later instant (COUNTERS_READ, R207). -/
  | hold (h : HeldRead)
  /-- Checks passed or failed with an effect that the manual names beside the status (R505, R507). -/
  | ended (status : Nat) (result : List Byte) (d : Dev) (w : MemOp)
  deriving DecidableEq, Repr

/-- A command's definition: its checks in order and its effect, from the memory, the request and the block. -/
abbrev Body := List Host.Cell → Call → Dev → Verdict

/-- R310: OK with no result. -/
def okDev (d : Dev) : Verdict := .done [] d .keep

/-- R310: OK with a result and no effect. -/
def okResult (r : List Byte) (d : Dev) : Verdict := .done r d .keep

/-- A check of a command's definition, the first to fail deciding. -/
def need (c : Bool) (status : Nat) (v : Verdict) : Verdict := if c then v else .refuse status []

/-- R313: the opcodes a master that is not the owner may issue; FENCE by its scope (R309). -/
def nonOwnerMay (op : Nat) (ps : List Byte) : Bool :=
  op == 0x00 || op == 0x01 || op == 0x10 || op == 0x12 || op == 0x20 || op == 0x23 || op == 0x24 || op == 0x92
    || (op == 0x28 && byteAt ps 0 != 1)

/-- R309 step 9: the parameter length of each opcode, least and greatest. SET and SET_BLOCK check their own (R321, R323). -/
def paramRange (op : Nat) : Nat × Nat :=
  match op with
  | 0x00 => (0, 0) | 0x01 => (0, 0) | 0x10 => (6, 6) | 0x11 => (0, 1024) | 0x12 => (12, 12) | 0x13 => (0, 1024)
  | 0x20 => (6, 6) | 0x21 => (4, 4) | 0x22 => (4, 4) | 0x23 => (6, 6) | 0x24 => (4, 4) | 0x28 => (4, 4)
  | 0x30 => (16, 16) | 0x31 => (20, 20) | 0x32 => (20, 20) | 0x33 => (16, 16) | 0x34 => (4, 4) | 0x35 => (20, 20) | 0x36 => (16, 16)
  | 0x40 => (20, 20) | 0x41 => (4, 4) | 0x42 => (20, 20) | 0x50 => (4, 4) | 0x51 => (4, 4) | 0x52 => (12, 12) | 0x53 => (4, 4)
  | 0x60 => (32, 32) | 0x61 => (28, 28) | 0x62 => (52, 52) | 0x70 => (8, 8) | 0x71 => (4, 4) | 0x72 => (4, 4) | 0x80 => (20, 20) | 0x81 => (4, 4)
  | 0x88 => (32, 32) | 0x89 => (4, 4) | 0x90 => (4, 4) | 0x91 => (8, 8) | 0x92 => (8, 8) | 0xA0 => (4, 1024) | 0xA1 => (4, 4) | 0xA2 => (4, 4)
  | 0xB0 => (8, 8) | 0xB1 => (4, 4) | 0xC0 => (8, 1024) | 0xC1 => (4, 4) | 0xC4 => (12, 12) | 0xC8 => (22, 22)
  | _ => (0, 1024)

/-- R342: the lease restarted. -/
def restartLease (d : Dev) : Dev := arm tkLease 0 (attr d DEVICE_LEASE 0 * nsPerMs) d

/-- R306, R342: the sequence advances, the request becomes the stored one, and the owner's lease restarts. -/
def advance (m seq : Nat) (raw : List Byte) (d : Dev) : Dev :=
  let d1 := bump DEVICE_CMD_EXECUTED m 1 (setAttr DEVICE_CMD_SEQ_NEXT m ((seq + 1) % 65536) d)
  let d2 := modMaster m (fun x => { x with stored := some (raw, []) }) d1
  if attr d DEVICE_OWNER 0 = m then restartLease d2 else d2

/-- R332, R333, R337: a reply placed in its queue; an IBI where it enters an empty one. -/
def placeReply (m : Nat) (bytes : List Byte) (d : Dev) : Dev :=
  if transportUp d m then
    let x := master d m
    let d1 := setMaster m { x with replies := x.replies ++ [⟨bytes, 0, false, d.elapsed⟩] } d
    if decide (m < 2) && x.replies.isEmpty then signal m d1 else d1
  else d

/-- R308, R311: the reply of a request that advanced the sequence: stored, and placed. -/
def answer (c : Call) (status : Nat) (result : List Byte) (d : Dev) : Dev :=
  let bytes := buildReply c.op status c.master c.tag c.seq result
  placeReply c.master bytes (modMaster c.master (fun x => { x with stored := some (c.raw, bytes) }) d)

/-- R309 steps 5 to 11, on the block after the sequence advanced: the first check to fail decides. -/
def judge (mem : List Host.Cell) (flags : Nat) (body : Option Body) (c : Call) (d : Dev) : Verdict :=
  if flags / 2 ≠ 0 ∨ (flags % 2 = 1 ∧ c.op ≠ 0) then .refuse stOutOfRange []
  else
    match body with
    | none => .refuse stBadOpcode []
    | some f =>
      if attr d DEVICE_OWNER 0 ≠ c.master ∧ nonOwnerMay c.op c.params = false then .refuse stNotOwner []
      else
        match findJob d (callRef c) with
        | some j => .refuse stConflict [byteOf j.opcode]
        | none =>
          if c.params.length < (paramRange c.op).1 ∨ (paramRange c.op).2 < c.params.length then .refuse stBadLength []
          else
            match f mem c d with
            | .accept r d' => if outstanding d c.master < 16 then .accept r d' else .refuse stNoResource []
            | .defer => if outstanding d c.master < 16 then .defer else .refuse stNoResource []
            | v => v

/-- R475: whether the slice under way runs to its end: its restore ends within 150 us of the reply, or it is aborted. -/
def deferSlice (d : Dev) : Dev :=
  match d.bist.slice with
  | some x => if d.elapsed + 150 * nsPerUs < x.restoreEnd then { d with bist := { d.bist with slice := some { x with aborted := true } } } else d
  | none => d

/-- R311: what a verdict commits: the reply, and the effect with it. -/
def settle (c : Call) (v : Verdict) (s : State) : State :=
  match v with
  | .refuse st r => { s with dev := answer c st r s.dev }
  | .done r d w => { s with dev := answer c stOk r d, mem := applyMemOp s.mem w }
  | .accept r d => { s with dev := answer c stAccepted r d }
  | .defer =>
    let d := deferSlice { s.dev with jobs := s.dev.jobs ++ [⟨callRef c, c.op, c.params, c.order, true, false, false⟩] }
    { s with dev := answer c stDeferred [] d }
  | .hold h => { s with dev := { s.dev with held := s.dev.held ++ [h] } }
  | .ended st r d w => { s with dev := answer c st r d, mem := applyMemOp s.mem w }

/-- R309 from step 5 on: a request whose checks 1 to 4 have passed, taken now. -/
def takeCall (flags : Nat) (body : Option Body) (c : Call) (s : State) : State :=
  let d := advance c.master c.seq c.raw s.dev
  let c' := { c with order := d.nextOrder }
  let d' := { d with nextOrder := d.nextOrder + 1 }
  settle c' (judge s.mem flags body c' d') { s with dev := d' }

/-- R531: Izrath has reached READY. -/
def isReady (d : Dev) : Bool := d.phase == .ready

/-- R309, R312, R332, R383, R391: whether the Vertex takes a request of a master now. -/
def canTake (d : Dev) (m : Nat) : Bool :=
  isReady d && d.vertex == .running && d.brownout.isNone && transportUp d m
    && (decide (2 ≤ m) || decide ((master d m).replies.length < 2))
    && (d.held.all fun h => h.call.master != m) && (waitingOf d m).isEmpty

/-- R309 step 3, R336: requests of a command channel received and not yet answered. -/
def unanswered (d : Dev) (m : Nat) : Nat :=
  (waitingOf d m).length + (d.held.filter fun h => h.call.master == m).length

/-- R331, R309 step 3: whether a complete request finds a place to wait in. -/
def canWait (d : Dev) (m : Nat) : Bool :=
  isReady d && d.vertex != .halted && transportUp d m && decide ((if m < 2 then (waitingOf d m).length else unanswered d m) < 2)

/-- A command packet that reaches its transport whole, with the sequence number the master is expected to use: taken at
once where the Vertex can, kept in a request place where it cannot and one is free, BUSY on a full command channel
(R309 step 3), and otherwise not acknowledged (R331), with no effect. -/
def issue (op : Nat) (body : Body) (r : Req) (s : State) : State :=
  let m := r.master.val
  let d := s.dev
  let seq := if r.flags.toNat % 2 = 1 then 0 else attr d DEVICE_CMD_SEQ_NEXT m
  let raw := buildRequest op r.flags.toNat m r.tag.toNat seq r.params
  if canTake d m then
    if r.flags.toNat % 2 = 1 ∧ op ≠ 0 then
      { s with dev := placeReply m (buildReply op stOutOfRange m r.tag.toNat (attr d DEVICE_CMD_SEQ_NEXT m) []) d }
    else takeCall r.flags.toNat (some body) ⟨m, r.tag.toNat, op, r.params, 0, raw, seq⟩ s
  else if canWait d m then { s with dev := { d with waiting := d.waiting ++ [(m, raw)] } }
  else if isReady d && d.vertex != .halted && transportUp d m && decide (2 ≤ m) then
    { s with dev := placeReply m (buildReply op stBusy m r.tag.toNat (attr d DEVICE_CMD_SEQ_NEXT m) []) d }
  else s

/-- A command row's outcome. -/
def issueOut (op : Nat) (body : Body) (r : Req) (s : State) : Out := .next (issue op body r s)

end Sys2Proof.Machine
end

