-- ==== Sys2Proof/Machine/Line.lean ====
section
/-! DEFINITION. Machine/Line.lean: tones, tables and rates of the line signal (R34 to R62), and what Izrath puts on the
tones of a data symbol and of a marker (R43 to R52). -/

namespace Sys2Proof.Machine

/-! ### Tones (R35, R36) -/

/-- R36: the pilot tones. -/
def isPilot (t : Nat) : Bool := t % 64 == 32

/-- R36: the loadable tones, ascending: 4 to 511 less the pilots. -/
def loadableTones : List Nat := (List.range 512).filter fun t => decide (4 ≤ t) && !isPilot t

/-- R8, R36: the block a tone lies in. -/
def blockOf (t : Nat) : Nat := t / 16

/-- R62: a tone masked by a 64-byte mask. -/
def toneMasked (mask : List Byte) (t : Nat) : Bool := maskBit mask 0 t

/-! ### Tables (R53 to R58) -/

/-- R53: the bits a loading table gives a tone. -/
def loadOf (tbl : List Byte) (t : Nat) : Nat :=
  if t % 2 = 0 then byteAt tbl (t / 2) % 16 else byteAt tbl (t / 2) / 16

/-- R54: the fine gain of a tone, 0.1 dB. -/
def gainOf (tbl : List Byte) (t : Nat) : Int := signedOf 8 (byteAt tbl t)

/-- R53: a loading table from the bits of each tone. -/
def loadingTable (f : Nat → Nat) : List Byte := (List.range 256).map fun n => byteOf (f (2 * n) % 16 + 16 * (f (2 * n + 1) % 16))

/-- R55: total bits per data symbol of a table. -/
def totalBits (tbl : List Byte) : Nat := ((List.range 512).map (loadOf tbl)).sum

/-- R57, R59: bits per data symbol with the blocks of a mask retired. -/
def bitsInEffect (tbl : List Byte) (retired : Nat) : Nat :=
  (((List.range 512).filter fun t => !bitOf retired (blockOf t)).map (loadOf tbl)).sum

/-- The bits of one block of a table. -/
def blockBits (tbl : List Byte) (b : Nat) : Nat := ((List.range 16).map fun k => loadOf tbl (16 * b + k)).sum

/-- R59: the net rate of `b` bits per data symbol at a symbol period of `t` ns, Mbit/s. -/
def netRate (b t : Nat) : Nat := b * 256 * 1152 * 1000 / (257 * t * 1360)

/-- R55 rules 4 and 5, for a fine-gain table under a mask. -/
def gainsOk (gains mask : List Byte) : Bool :=
  (List.range 512).all fun t =>
    let g := gainOf gains t
    decide (-25 ≤ g) && decide (g ≤ 25) && ((decide (4 ≤ t) && !isPilot t && !toneMasked mask t) || g == 0)

/-- R55 rules 1 to 3, for a loading table under a mask. -/
def loadsOk (load mask : List Byte) : Bool :=
  (List.range 512).all fun t =>
    let b := loadOf load t
    decide (b ≤ 12) && ((decide (4 ≤ t) && !isPilot t && !toneMasked mask t) || b == 0)

/-- R55: a valid pair at a mask, a rate cap and a symbol period. -/
def validPair (load gains mask : List Byte) (cap period : Nat) : Bool :=
  loadsOk load mask && gainsOk gains mask && decide (136 ≤ totalBits load) && decide (netRate (totalBits load) period ≤ cap)

/-- R58: a loading table all of whose entries are 0. -/
def emptyLoad (load : List Byte) : Bool := load.all (· == 0#8)

/-- R58: what a staged pair must be after a write. -/
def stageOk (load gains mask : List Byte) (cap period : Nat) : Bool :=
  (emptyLoad load && gainsOk gains mask) || validPair load gains mask cap period

/-- R55 for a port as it is configured now. -/
def validPairAt (d : Dev) (p : Nat) (load gains : List Byte) : Bool :=
  validPair load gains (block d PORT_TONE_MASK p) (attr d PORT_RATE_CAP p) (attr d PRISM_SYMBOL_PERIOD (prismOf p))

/-- R58 for a port as it is configured now. -/
def stageOkAt (d : Dev) (p : Nat) (load gains : List Byte) : Bool :=
  stageOk load gains (block d PORT_TONE_MASK p) (attr d PORT_RATE_CAP p) (attr d PRISM_SYMBOL_PERIOD (prismOf p))

/-- R37: the symbol period of a prefix setting, ns. -/
def periodOf (prefixCode : Nat) : Nat := if prefixCode = 0 then 68 else if prefixCode = 1 then 72 else 80

/-- R37, R40: the superframe of a prism, ns. -/
def superframeNs (d : Dev) (m : Nat) : Nat := 257 * attr d PRISM_SYMBOL_PERIOD m

/-- R62: a tone mask that touches no reserved tone and no pilot. -/
def toneMaskOk (mask : List Byte) : Bool :=
  (List.range 512).all fun t => (decide (4 ≤ t) && !isPilot t) || !toneMasked mask t

/-- R60: an accepted launch level. -/
def psdOk (v : Int) : Bool := decide (-1000 ≤ v) && decide (v ≤ -920) && v % 5 == 0

/-- R61: one step of the level in use toward the setting. -/
def psdStep (now setting : Int) : Int := if now < setting then min (now + 5) setting else max (now - 5) setting

/-! ### Rates in effect (R59, R67) -/

/-- R67: BITS, NET_RATE and OVER_CAP from the agreed tables and the retired blocks. -/
def refreshRates (p : Nat) (d : Dev) : Dev :=
  let bt := bitsInEffect (block d PORT_LOADING_TX p) (attr d PORT_RETIRED_TX p)
  let br := bitsInEffect (block d PORT_LOADING_RX p) (attr d PORT_RETIRED_RX p)
  let t := attr d PRISM_SYMBOL_PERIOD (prismOf p)
  let excess := decide (attr d PORT_RATE_CAP p < netRate bt t) || decide (attr d PORT_RATE_CAP p < netRate br t)
  d |> setAttr PORT_BITS_TX p bt |> setAttr PORT_BITS_RX p br |> setAttr PORT_NET_RATE_TX p (netRate bt t)
    |> setAttr PORT_NET_RATE_RX p (netRate br t) |> setAttr PORT_OVER_CAP p (bitNat excess)

/-! ### Error-vector ratios (R202, R203) -/

/-- Whether an error-vector ratio of `x` in units of 2^-20 is at most 10^(−k/n). -/
def evrAtMost (n x : Nat) (k : Int) : Bool := decide (x ^ n * 10 ^ k.toNat ≤ 2 ^ (20 * n) * 10 ^ (-k).toNat)

/-- ⌊−n·log10(EVR)⌋, held to `lo .. lo + span`. -/
def evrLevel (n x : Nat) (lo : Int) (span : Nat) : Int :=
  lo + ((List.range span).filter fun i => evrAtMost n x (lo + (i : Int) + 1)).length

/-! ### Symbols (R43 to R52) -/

/-- Consecutive pairs of generator outputs as labels, the first output the label's bit 1 (R43, R46). -/
def pairLabels : List Bool → List Nat
  | a :: b :: r => (2 * bitNat a + bitNat b) :: pairLabels r
  | _ => []

/-- R43 steps 1 to 4: the labels of a marker, in the order of the loadable tones. -/
def markerLabels (seed : Nat) : List Nat := pairLabels (prbs15 1000 seed).1

/-- R45: the labels of the eight marker pilots for a superframe count. -/
def markerPilots (count : Nat) : List Nat := (List.range 8).map fun k => if bitOf count k then 3 else 0

/-- R46: the pilot labels of one data symbol and the generator after it. -/
def pilotLabels (state : Nat) : List Nat × Nat :=
  let (bs, s') := prbs15 16 state
  (pairLabels bs, s')

/-- R52: the labels of one data symbol: each tone takes its bits, the first bit taken the most significant. -/
def takeLabels (load : List Byte) (retired : Nat) : List Nat → List Bool → List (Nat × Nat) × List Bool
  | [], bs => ([], bs)
  | t :: ts, bs =>
    let b := if bitOf retired (blockOf t) then 0 else loadOf load t
    if b = 0 then takeLabels load retired ts bs
    else
      let (l, r) := takeLabels load retired ts (bs.drop b)
      ((t, ofBits (bs.take b)) :: l, r)

/-- R49, R50: the integer point and the constellation energy of a tone's label. -/
def tonePoint (load : List Byte) (x : Nat × Nat) : (Int × Int) × Nat :=
  (mapPoint x.2 (loadOf load x.1), pointEnergy (loadOf load x.1))

end Sys2Proof.Machine
end

