-- ==== Sys2Proof/Machine/Units.lean ====
section
/-! DEFINITION. Machine/Units.lean: numbered units of the block (ports, prisms, groups, lanes, flows, hub sources), and the path
of frames through flows: flow-frame units (R268 to R271), time stamps (R274 to R276), the stores of the hub (R279) and
what provisioning charges (R283 to R287). -/

namespace Sys2Proof.Machine

/-! ### Numbered units -/

/-- A port beside its attributes. -/
def port (d : Dev) (p : Nat) : Port := bankGet {} d.ports p

/-- A port written. -/
def setPort (p : Nat) (x : Port) (d : Dev) : Dev := { d with ports := bankPut {} d.ports p x }

/-- A port changed. -/
def modPort (p : Nat) (f : Port → Port) (d : Dev) : Dev := setPort p (f (port d p)) d

/-- The receiver of a port changed. -/
def modRx (p : Nat) (f : PortRx → PortRx) (d : Dev) : Dev := modPort p (fun x => { x with rx := f x.rx }) d

/-- The transmitter of a port changed. -/
def modTx (p : Nat) (f : PortTx → PortTx) (d : Dev) : Dev := modPort p (fun x => { x with tx := f x.tx }) d

/-- Recast of a port changed. -/
def modRecast (p : Nat) (f : Recast → Recast) (d : Dev) : Dev := modPort p (fun x => { x with recast := f x.recast }) d

/-- Training of a port changed. -/
def modTrain (p : Nat) (f : Training → Training) (d : Dev) : Dev := modPort p (fun x => { x with train := f x.train }) d

/-- The service channel of a port changed. -/
def modSvc (p : Nat) (f : Svc → Svc) (d : Dev) : Dev := modPort p (fun x => { x with svc := f x.svc }) d

/-- The quiet state of a port changed. -/
def modQuiet (p : Nat) (f : QuietState → QuietState) (d : Dev) : Dev := modPort p (fun x => { x with quiet := f x.quiet }) d

/-- A prism beside its attributes. -/
def prism (d : Dev) (m : Nat) : Prism := bankGet {} d.prisms m

/-- A prism changed. -/
def modPrism (m : Nat) (f : Prism → Prism) (d : Dev) : Dev := { d with prisms := bankPut {} d.prisms m (f (prism d m)) }

/-- A group beside its attributes. -/
def link (d : Dev) (g : Nat) : Link := bankGet {} d.links g

/-- A group changed. -/
def modLink (g : Nat) (f : Link → Link) (d : Dev) : Dev := { d with links := bankPut {} d.links g (f (link d g)) }

/-- A lane beside its attributes. -/
def lane (d : Dev) (l : Nat) : LaneRun := bankGet {} d.lanes l

/-- A lane changed. -/
def modLane (l : Nat) (f : LaneRun → LaneRun) (d : Dev) : Dev := { d with lanes := bankPut {} d.lanes l (f (lane d l)) }

/-- A flow beside its attributes. -/
def flow (d : Dev) (f : Nat) : FlowRun := bankGet {} d.flows f

/-- A flow changed. -/
def modFlow (n : Nat) (f : FlowRun → FlowRun) (d : Dev) : Dev := { d with flows := bankPut {} d.flows n (f (flow d n)) }

/-- A hub source. -/
def source (d : Dev) (s : Nat) : HubSource := bankGet {} d.sources s

/-- A hub source changed. -/
def modSource (n : Nat) (f : HubSource → HubSource) (d : Dev) : Dev := { d with sources := bankPut {} d.sources n (f (source d n)) }

/-- R279: the store of a port in hub SRAM. -/
def egressOf (d : Dev) (p : Nat) : List EgressFrame := bankGet [] d.egress p

/-- The ports of a bound chord, ascending; none where it is unbound. -/
def chordPorts (d : Dev) (c : Nat) : List Nat :=
  match bankGet none d.chords c with
  | some x => x.1
  | none => []

/-- R162: whether a chord is bound. -/
def chordBound (d : Dev) (c : Nat) : Bool := (bankGet none d.chords c).isSome

/-! ### Flows (R265 to R267) -/

/-- The flow contexts that are not FREE, ascending. -/
def usedFlows (d : Dev) : List Nat :=
  d.attrs.filterMap fun e => if e.1 % 2 ^ 24 = FLOW_STATE.code then some (e.1 / 2 ^ 24) else none

/-- Byte 0 to 3 of FLOW.MAP: TO_HOST_A, TO_HOST_B, MODE, FROM_HOST. -/
def flowMap (d : Dev) (f k : Nat) : Nat := attr d FLOW_MAP f / 256 ^ k % 256

/-- R265: the flow, OPEN or DRAINING, of a target and class. -/
def flowOfTarget (d : Dev) (kind target cls : Nat) : Option Nat :=
  (usedFlows d).find? fun f => attr d FLOW_KIND f == kind && attr d FLOW_TARGET f == target && attr d FLOW_CLASS f == cls

/-- R267: the OPEN flow of a class on a port. -/
def flowOnPort (d : Dev) (p cls : Nat) : Option Nat :=
  let c := attr d PORT_CHORD p
  match (if c = 0xFF then flowOfTarget d 0 p cls else flowOfTarget d 1 c cls) with
  | some f => if attr d FLOW_STATE f = 1 then some f else none
  | none => none

/-- The port that a flow's FROM_HOST frames go to, and under which its TO_HOST units cross the hub (R278, R290). -/
def flowPort (d : Dev) (f : Nat) : Nat := if attr d FLOW_KIND f = 0 then attr d FLOW_TARGET f else attr d FLOW_MEMBER f

/-- The die of a flow's target: the members of a chord are on one prism (R162). -/
def flowDie (d : Dev) (f : Nat) : Nat := dieOf (flowPort d f)

/-- R262, R285: a flow's inner TX group. -/
def innerTx (d : Dev) (f : Nat) : Nat := 16 + 8 * flowDie d f + attr d FLOW_INNER f

/-- R262, R285: a flow's inner RX group. -/
def innerRx (d : Dev) (f : Nat) : Nat := 20 + 8 * flowDie d f + attr d FLOW_INNER f

/-- R225: the other direction of a group's pair. -/
def reverseOf (g : Nat) : Nat := if g < 8 then g + 8 else if g < 16 then g - 8 else if (g - 16) % 8 < 4 then g + 4 else g - 4

/-- R225, R262: the TX group of a PAIR code. -/
def pairTx (pair : Nat) : Nat := if pair < 8 then pair else if pair < 12 then pair + 8 else pair + 12

/-- R225, R262: the RX group of a PAIR code. -/
def pairRx (pair : Nat) : Nat := reverseOf (pairTx pair)

/-- The PAIR code of a group. -/
def pairOf (g : Nat) : Nat := if g < 16 then g % 8 else 8 + 4 * ((g - 16) / 8) + (g - 16) % 4

/-- R287, R284: the reference of a group. -/
def groupReference (d : Dev) (g : Nat) : Nat :=
  if attr d GROUP_STATE g = 0 ∨ attr d GROUP_STATE g = 1 then 427219 else attr d GROUP_CAPACITY g

/-- R288: a group to which a flow's units may go: not DOWN, and not TRAINING from DOWN. -/
def hasPath (d : Dev) (g : Nat) : Bool :=
  let st := attr d GROUP_STATE g
  st != 0 && !(st == 1 && attr d GROUP_WIDTH g == 0)

/-- R288: a group on which a flow may be active. -/
def groupCarries (d : Dev) (g : Nat) : Bool := let st := attr d GROUP_STATE g; st == 2 || st == 3 || st == 4

/-! ### Provisioning (R283 to R287) -/

/-- R283: the charge of a reserved rate at a frame length. -/
def chargeOf (rate f : Nat) : Nat := ceilDiv (rate * (f + 16 + 4 * ceilDiv (f + 16) 626)) f

/-- R284: the groups a flow is charged on, with its charge on each, for a map and charges. -/
def chargedGroups (a b mode fromHost active inner die toHost fromCharge : Nat) : List (Nat × Nat) :=
  (if a < 8 then [(a, toHost)] else [])
    ++ (if b < 8 ∧ (mode = 1 ∨ (mode = 2 ∧ active = b)) then [(b, toHost)] else [])
    ++ (if fromHost < 8 then [(8 + fromHost, fromCharge)] else [])
    ++ (if inner < 4 then [(16 + 8 * die + inner, toHost), (20 + 8 * die + inner, fromCharge)] else [])

/-- R284: the charges of an open flow. -/
def flowCharges (d : Dev) (f : Nat) : List (Nat × Nat) :=
  chargedGroups (flowMap d f 0) (flowMap d f 1) (flowMap d f 2) (flowMap d f 3) (attr d FLOW_ACTIVE_HOST f)
    (attr d FLOW_INNER f) (flowDie d f) (attr d FLOW_CHARGE_TO_HOST f) (attr d FLOW_CHARGE_FROM_HOST f)

/-- What a list of charges puts on a group. -/
def chargeOn (l : List (Nat × Nat)) (g : Nat) : Nat := ((l.filter fun x => x.1 == g).map (·.2)).sum

/-- R284: the sum of the charges on a group. -/
def groupCharged (d : Dev) (g : Nat) : Nat := ((usedFlows d).map fun f => chargeOn (flowCharges d f) g).sum

/-- R284, R287: GROUP.CHARGED and GROUP.OVERSUB, with GROUP_OVERSUB where the flag is newly set. -/
def refreshGroup (g : Nat) (d : Dev) : Dev :=
  let c := groupCharged d g
  let short := decide (groupReference d g < c)
  let d1 := setAttr GROUP_OVERSUB g (bitNat short) (setAttr GROUP_CHARGED g c d)
  if short ∧ attrOn d GROUP_OVERSUB g = false then raise clsGroup g evGroupOversub 0 d1 else d1

/-- R286: the reserved sums of a port. -/
def portReserved (d : Dev) (rate : Attr) (p : Nat) : Nat :=
  (((usedFlows d).filter fun f => flowPort d f == p).map fun f => attr d rate f).sum

/-- R286: PORT.OVERSUB, with PORT_OVERSUB where the condition newly holds. -/
def refreshOversub (p : Nat) (d : Dev) : Dev :=
  let carry := attr d PORT_STATE p == psCarry
  let rx := carry && decide (attr d PORT_NET_RATE_RX p < attr d PORT_CHARGED_RX p)
  let tx := carry && decide (attr d PORT_NET_RATE_TX p < attr d PORT_CHARGED_TX p)
  let d1 := setAttr PORT_OVERSUB p (bitNat (rx || tx)) d
  if (rx || tx) && !attrOn d PORT_OVERSUB p then raise clsPort p evPortOversub (bitNat rx + 2 * bitNat tx) d1 else d1

/-- R286: PORT.CHARGED_RX, PORT.CHARGED_TX and what follows from them. -/
def refreshPortSums (p : Nat) (d : Dev) : Dev :=
  refreshOversub p (setAttr PORT_CHARGED_TX p (portReserved d FLOW_RATE_FROM_HOST p)
    (setAttr PORT_CHARGED_RX p (portReserved d FLOW_RATE_TO_HOST p) d))

/-- Charges of every group, and the sums of some ports, after a change of flows. -/
def refreshCharges (ports : List Nat) (d : Dev) : Dev := forAll ports refreshPortSums (forAll (List.range 32) refreshGroup d)

/-- R290: the member of a chord that a flow goes to: in CARRY, with the lowest sum of FROM_HOST charges; the lowest member
where none is in CARRY. -/
def pickMember (d : Dev) (c : Nat) : Nat :=
  let ps := chordPorts d c
  let load := fun p => (((usedFlows d).filter fun f => attr d FLOW_KIND f == 1 && attr d FLOW_MEMBER f == p).map
    fun f => attr d FLOW_CHARGE_FROM_HOST f).sum
  match ps.filter fun p => attr d PORT_STATE p == psCarry with
  | [] => ps.headD 0xFF
  | q :: r => r.foldl (fun best p => if load p < load best then p else best) q

/-! ### Units (R268 to R271) -/

/-- R271: the 16 bytes of metadata. -/
def metadata (len kind : Nat) (gap : Bool) (tag fseq time : Nat) : List Byte :=
  toBE len 2 ++ [byteOf (kind * 64 + bitNat gap * 32), byteOf tag] ++ toBE fseq 2 ++ toBE (time / nsPerS) 6 ++ toBE (time % nsPerS) 4

/-- R273: GAP and FSEQ written into the metadata of a first unit. -/
def stampSequence (data : List Byte) (gap : Bool) (fseq : Nat) : List Byte :=
  let b2 := byteAt data 2
  spliceBytes (data.set 2 (byteOf (b2 / 64 * 64 + bitNat gap * 32))) 4 (toBE fseq 2)

/-- R268: bytes cut into pieces of at most `n`; `fuel` bounds their number. -/
def chunks (n : Nat) : Nat → List Byte → List (List Byte)
  | 0, _ => []
  | k + 1, bs => if bs.length ≤ n then [bs] else bs.take n :: chunks n k (bs.drop n)

/-- R268: the most data bytes of one unit at a width. -/
def unitMax (width : Nat) : Nat := if width = 3 then 466 else 626

/-- A frame with its metadata as units. -/
def unitsOf (width f src : Nat) (content : List Byte) : List HubUnit :=
  let cs := chunks (unitMax width) 32 content
  (cs.zip (List.range cs.length)).map fun x => ⟨f, x.2 == 0, x.2 + 1 == cs.length, x.1, src, false, 0⟩

/-- R269: a unit header. -/
def unitHeader (u : HubUnit) : List Byte :=
  let h := 2 ^ 31 + bitNat u.first * 2 ^ 30 + bitNat u.last * 2 ^ 29 + u.flow * 2 ^ 19 + (u.data.length - 1) * 256
  toBE (h + crc8 ((bitsMsb h 32).take 24)) 4

/-- Units waiting for a group. -/
def linkPush (g : Nat) (us : List HubUnit) (d : Dev) : Dev := modLink g (fun x => { x with store := x.store ++ us }) d

/-- R15: units of a flow given to a group of its inner pair. -/
def innerPush (g f : Nat) (us : List HubUnit) (d : Dev) : Dev := linkPush g (us.map fun u => { u with era := (flow d f).innerEra }) d

/-- R271, R276: a transmit timestamp report, which is no frame. -/
def isReport (u : HubUnit) : Bool := u.first && u.last && ofBE (u.data.take 2) == 0

/-- R113: the order of classes. -/
def classOrder : List Nat := [8, 15, 14, 13, 12, 11, 10, 9, 7, 6, 5, 4, 3, 2, 1, 0]

/-- R297: GROUP.EGRESS_FILL of a host TX group. -/
def storeFill (l : List HubUnit) : Nat := (l.map fun u => u.data.length).sum

/-! ### Time stamps (R274 to R276) -/

/-- The offset of the EtherType after up to two tags. -/
def etherTypeAt (fr : List Byte) : Nat :=
  let tagged := fun o => leAt fr o 2 == 0x0081 || leAt fr o 2 == 0xA888
  if tagged 12 then (if tagged 16 then 20 else 16) else 12

/-- R274: a PTP event message. -/
def isPtpEvent (fr : List Byte) : Bool :=
  let o := etherTypeAt fr
  let et := byteAt fr o * 256 + byteAt fr (o + 1)
  let ip := o + 2
  let ihl := 4 * (byteAt fr ip % 16)
  (et == 0x88F7 && decide (byteAt fr (o + 2) % 16 ≤ 3))
    || (et == 0x0800 && byteAt fr ip / 16 == 4 && byteAt fr (ip + 9) == 17 && byteAt fr (ip + ihl + 2) * 256 + byteAt fr (ip + ihl + 3) == 319)
    || (et == 0x86DD && byteAt fr ip / 16 == 6 && byteAt fr (ip + 6) == 17 && byteAt fr (ip + 42) * 256 + byteAt fr (ip + 43) == 319)

/-- A stamp less, or plus, PORT.TS_TRIM; never below 0. -/
def trimmed (t : Nat) (trim : Int) : Nat := ((t : Int) + trim).toNat

/-- R276: a transmit timestamp report on the flow's TO_HOST path. -/
def sendReport (f kind tag time : Nat) (d : Dev) : Dev :=
  let u : HubUnit := ⟨f, true, true, metadata 0 kind false tag 0 time, flowPort d f, false, 0⟩
  bump FLOW_TS_TX_REPORTS f 1 (innerPush (innerTx d f) f [u] d)

/-- R276: the report of a request whose frame is dropped. -/
def reportDropped (f tsKind tag : Nat) (d : Dev) : Dev :=
  if tsKind = 2 ∧ bitOf (attr d FLOW_FLAGS f) 1 then sendReport f 3 tag 0 d else d

/-- R276: the report that a first FROM_HOST unit asks for where its frame is dropped. -/
def unitDropped (u : HubUnit) (d : Dev) : Dev := reportDropped u.flow (byteAt u.data 2 / 64) (byteAt u.data 3) d

/-- A frame from the line enters the flow path of its port (R267, R268, R275): `stamp` is when its first segment reached the
pins, none where that segment came in a copy. While the port's hub source is stalled (R375) it is discarded whole (R282). -/
def frameFromLine (p cls : Nat) (bytes : List Byte) (stamp : Option Nat) (d : Dev) : Dev :=
  match flowOnPort d p cls with
  | none => bump PORT_UNMAPPED_DROPS p 1 d
  | some f =>
    let g := innerTx d f
    let w := attr d GROUP_WIDTH g
    if 64 ≤ (source d (flowPort d f)).stalled then modFlow f (fun x => { x with gap := true }) (bump FLOW_DROP_LINK f 1 d)
    else if bitOf (attr d FLOW_FLAGS f) 0 && isPtpEvent bytes then
      match stamp with
      | some t =>
        let content := metadata bytes.length 1 false 0 0 (trimmed t (-(attrInt d PORT_TS_TRIM p))) ++ bytes
        bump FLOW_TS_RX f 1 (innerPush g f (unitsOf w f p content) d)
      | none => bump FLOW_TS_INVALID f 1 (innerPush g f (unitsOf w f p (metadata bytes.length 3 false 0 0 0 ++ bytes)) d)
    else innerPush g f (unitsOf w f p (metadata bytes.length 0 false 0 0 0 ++ bytes)) d

/-- A frame of a class lost on the line of a port: DROP_LINE and GAP where its flow is open (R273, R295), unmapped where it
is not. -/
def lineDrop (p cls n : Nat) (d : Dev) : Dev :=
  if n = 0 then d
  else
    match flowOnPort d p cls with
    | some f => modFlow f (fun x => { x with gap := true }) (bump FLOW_DROP_LINE f n d)
    | none => bump PORT_UNMAPPED_DROPS p n d

end Sys2Proof.Machine
end

