-- ==== Sys2Proof/Machine/CalCore.lean ====
section
/-! DEFINITION. Machine/CalCore.lean: what other work does to calibration, self-test slices and check scans: items, references and
the end of a CAL_RUN (R439 to R452), a slice stopped (R463), a write into a scanned range (R486). -/

namespace Sys2Proof.Machine

/-! ### Self-test slices (R463) -/

/-- What self-test keeps, changed. -/
def modBist (f : Bist → Bist) (d : Dev) : Dev := { d with bist := f d.bist }

/-- R462: a slice of a region is running. -/
def sliceRegion (d : Dev) (region : Nat) : Bool := match d.bist.slice with | some x => x.region == region | none => false

/-- R463: a slice of a region is stopped; its restore follows. -/
def stopSlice (region : Nat) (d : Dev) : Dev :=
  match d.bist.slice with
  | some x => if x.region = region then modBist (fun b => { b with slice := some { x with aborted := true } }) d else d
  | none => d

/-- R470: the capture buffer of a port is FAILED. -/
def captureFailed (d : Dev) (p : Nat) : Bool := d.bist.failed.contains (0x100 + p)

/-! ### Items (R439 to R448) -/

/-- What calibration keeps, changed. -/
def modCal (f : Cal → Cal) (d : Dev) : Dev := { d with cal := f d.cal }

/-- What is kept for an item. -/
def calItem (d : Dev) (i : Nat) : CalItem := bankGet {} d.cal.items i

/-- What is kept for an item, changed. -/
def modItem (i : Nat) (f : CalItem → CalItem) (d : Dev) : Dev :=
  modCal (fun c => { c with items := bankPut {} c.items i (f (bankGet {} c.items i)) }) d

/-- R439: the kind of an item. -/
def calKind (i : Nat) : Nat := i / 256

/-- R439: the references a kind is traced to: 0 VREF_EXT, 1 REXT, 2 REFCLK. -/
def tracedTo (kind : Nat) : List Nat :=
  if kind = 0 then [0, 2] else if kind = 1 ∨ kind = 2 ∨ kind = 6 then [0] else if kind = 3 ∨ kind = 4 ∨ kind = 7 then [1]
  else if kind = 5 ∨ kind = 8 then [2] else if kind = 9 then [0, 1] else []

/-- R440: a reference has been declared lost and not yet present again. -/
def refLost (d : Dev) (r : Nat) : Bool := decide (4 ≤ d.cal.outside.getD r 0)

/-- R440: a reference is present. -/
def refPresent (d : Dev) (r : Nat) : Bool := bitOf (attr d CAL_REF_STATUS 0x0A00) r

/-- R441: an item is HELD. -/
def calHeld (d : Dev) (i : Nat) : Bool := (tracedTo (calKind i)).any (refLost d)

/-- R450: every reference an item is traced to is present. -/
def refsPresent (d : Dev) (i : Nat) : Bool := (tracedTo (calKind i)).all (refPresent d)

/-- R402: the domains of the two groups of a pair. -/
def pairDomains (pair : Nat) : List Nat := if pair < 8 then [168 + pair, 176 + pair] else [184 + 2 * ((pair - 8) / 4), 185 + 2 * ((pair - 8) / 4)]

/-- R402, R439: the domains in which an item lies. -/
def calDomains (i : Nat) : List Nat :=
  let o := i % 256
  match i / 256 with
  | 0 | 1 | 2 | 3 | 4 => [o]
  | 5 => [160 + o]
  | 6 | 7 => if o < 16 then [168 + o] else [184 + 2 * ((o - 16) / 8)]
  | 8 => pairDomains o
  | _ => []

/-- R461: CAL.SPARES of an item; for an ADC, the usable spare slices. -/
def calSpares (d : Dev) (i : Nat) : Nat := if calKind i = 0 then attr d PORT_ADC_SPARES i else attr d CAL_SPARES i

/-- R461: CAL.STATE of an item. -/
def calStateOf (d : Dev) (i : Nat) : Nat :=
  if (calDomains i).any fun k => attr d DOMAIN_STATE k != 0 then 4
  else if calHeld d i then 2
  else if attrOn d CAL_STALE i then 1
  else if decide (attr d CAL_RANGE_LEFT i < 10) || (calSparesReset i != 0 && calSpares d i == 0) then 3
  else 0

/-- R452: the record of an item. -/
def calRecord (d : Dev) (i : Nat) : List Byte :=
  let x := calItem d i
  toLE i 2 ++ [byteOf (calStateOf d i), byteOf (attr d CAL_STALE i + 2 * bitNat x.fromStore + 4 * bitNat x.atDefault)]
    ++ toLE (attr d CAL_RUN_COUNT i) 4 ++ toLE (attr d CAL_LAST_RUN i) 6 ++ toLE (attr d CAL_DEVIATION i) 2 ++ toLE (attr d CAL_PENDING i) 2
    ++ [byteOf (calSpares d i), byteOf (attr d CAL_RANGE_LEFT i)] ++ toLE 0 4

/-- R439, R460: the owners of a kind. -/
def kindOwners (kind : Nat) : List Nat :=
  match kind with
  | 0 | 1 | 2 | 3 | 4 => List.range 128
  | 5 => List.range 8
  | 6 => (List.range 24).map (8 + ·)
  | 7 => List.range 32
  | 8 => List.range 16
  | 9 => List.range 3
  | 10 => [0]
  | _ => []

/-- The items of a list of kinds. -/
def itemsOf (kinds : List Nat) : List Nat := kinds.flatMap fun k => (kindOwners k).map (256 * k + ·)

/-- R528, R536: the items among some kinds that a start must still measure: domain ON, references present, no run yet. -/
def owedItems (d : Dev) (kinds : List Nat) : List Nat :=
  (itemsOf kinds).filter fun i => attr d CAL_RUN_COUNT i == 0 && refsPresent d i && (calDomains i).all fun k => attr d DOMAIN_STATE k == 0

/-! ### CAL_RUN (R451) -/

/-- Cause 5 of R451, beside those of R211. -/
abbrev endReference : Nat := 5

/-- R209: the port whose resources an item's measurement claims, and whether the transmitter is one of them. -/
def calClaims (i : Nat) : Option (Nat × Bool) := if calKind i ≤ 4 then some (i % 256, decide (1 ≤ calKind i)) else none

/-- R223: the holder codes of calibration. -/
abbrev holdCal : Nat := 5

/-- R209: calibration gives up what it holds of a port. -/
def releaseCal (p : Nat) (d : Dev) : Dev :=
  let v := attr d PORT_CLAIMS p
  setAttr PORT_CLAIMS p ((if v % 256 = holdCal then 0 else v % 256) + 256 * (if v / 256 = holdCal then 0 else v / 256)) d

/-- The measurement of an item is over or discarded. -/
def endMeasure (i : Nat) (d : Dev) : Dev :=
  let d1 := setAttr CAL_STALE i 0 d
  match calClaims i with
  | some (p, _) => releaseCal p d1
  | none => d1

/-- R451: the owners of which CAL_DONE carries records: all of them where 40 or fewer, else those with something to tell first. -/
def recordOwners (r : CalRun) : List Nat :=
  if r.finished.length ≤ 40 then r.finished
  else ((r.finished.filter r.worst.contains) ++ (r.finished.filter fun o => !r.worst.contains o)).take 40

/-- R451: a CAL_RUN is over. -/
def finishCalRun (r : CalRun) (status cause : Nat) (d : Dev) : Dev :=
  let own := recordOwners r
  let d1 := modCal (fun c => { c with runs := c.runs.filter fun x => !(x.job == r.job) }) d
  let d2 := match r.left with
    | o :: _ => endMeasure (256 * r.kind + o) d1
    | [] => d1
  complete r.job clsCal r.first evCalDone status
    (toLE r.finished.length 2 ++ [byteOf cause, byteOf own.length] ++ own.flatMap fun o => calRecord d2 (256 * r.kind + o)) d2

/-- R451: each run with an owner still to do that meets a test ends with ABORTED. -/
def abortCalRuns (hits : CalRun → Nat → Bool) (cause : Nat) (d : Dev) : Dev :=
  (d.cal.runs.filter fun r => r.left.any (hits r)).foldl (fun e r => finishCalRun r stAborted cause e) d

/-- R451: the FULL runs of items that a change of a port, pair or prism ends. -/
def abortFullRuns (item : Nat → Bool) (cause : Nat) (d : Dev) : Dev :=
  abortCalRuns (fun r o => !r.check && item (256 * r.kind + o)) cause d

/-- An item of a port (R439). -/
def portItem (p i : Nat) : Bool := decide (calKind i ≤ 4) && i % 256 == p

/-- R209, R451: what a new state of a port does to calibration: claims of another state are given up, and a port that leaves DOWN, or
DOWN and DORMANT, ends the FULL runs that need it there. -/
def calOnPort (p new : Nat) (d : Dev) : Dev :=
  let d0 := if new = psDown ∨ new = psListen then d else releaseCal p (if new = psQuiet then stopSlice (0x100 + p) d else d)
  let d1 := if new = psDown then d0 else abortFullRuns (portItem p) 2 d0
  if new = psDown ∨ new = psDormant then d1 else abortFullRuns (fun i => i == 0x500 + prismOf p) 2 d1

/-- R451: a pair leaves DOWN. -/
def calOnPair (pair : Nat) (d : Dev) : Dev :=
  let g := pairTx pair
  abortFullRuns (fun i => i == 0x800 + pair || ((calKind i == 6 || calKind i == 7) && (i % 256 == g || i % 256 == reverseOf g))) 2 d

/-- R210, R211: a claimant of rank 1 or 2 takes the resources of a port: calibration measurements on it are discarded, and a slice of
its capture section stops. -/
def preemptBackground (p : Nat) (d : Dev) : Dev :=
  let held := attr d PORT_CLAIMS p % 256 == holdCal || attr d PORT_CLAIMS p / 256 == holdCal
  let d1 := if held then abortCalRuns (fun r o => portItem p (256 * r.kind + o) && r.left.head? == some o) 3 d else d
  stopSlice (0x100 + p) (releaseCal p ((List.range 5).foldl (fun e k => modItem (256 * k + p) (fun x => { x with out := none }) (setAttr CAL_STALE (256 * k + p) 0 e)) d1))

/-! ### Check scans (R486) -/

/-- R487: fields of a scan's parameters. -/
def scanStart (ps : List Byte) : Nat := leAt ps 4 4
def scanLength (ps : List Byte) : Nat := leAt ps 8 4
def scanPartner (ps : List Byte) : Nat := leAt ps 20 4

/-- R402: the die of a domain. -/
def dieOfDomain (k : Nat) : Nat :=
  if k < 128 then dieOf k else if k < 160 then (k - 128) / 16 else if k < 168 then (k - 160) / 4
  else if k = 184 then 0 else if k = 186 then 1 else 2

/-- R484: the die whose scan engine reads a device address. -/
def scanDie (a : Nat) : Nat :=
  if 0x20000000 ≤ a ∧ a < 0x21000000 then 0 else if 0x21000000 ≤ a ∧ a < 0x30000000 then 1
  else if 0x30000000 ≤ a ∧ a < 0x40000000 then dieOfDomain ((a - 0x30000000) / 0x10000) else 2

/-- R486: whether bytes from `a` lie in words of a scan's ranges. -/
def scanTouches (ps : List Byte) (a n : Nat) : Bool :=
  let hit := fun s => decide (a < s + scanLength ps) && decide (s < a + n)
  hit (scanStart ps) || (byteAt ps 1 == 3 && hit (scanPartner ps))

/-- R486: a write to device addresses sets CHANGED in the scans that cover them. -/
def noteWrite (a n : Nat) (d : Dev) : Dev :=
  { d with scans := d.scans.map fun r => if scanTouches r.params a n then { r with changed := true } else r }

end Sys2Proof.Machine
end

