-- ==== Sys2Proof/Machine/SvcCore.lean ====
section
/-! DEFINITION. Machine/SvcCore.lean: the service channel of a port as far as other chapters use it: who speaks (R179 to R183),
messages and fragments to send (R184 to R186), and what a change of port state does to them (R191, R196, R198). -/

namespace Sys2Proof.Machine

/-- The service channel of a port. -/
def svc (d : Dev) (p : Nat) : Svc := (port d p).svc

/-- What is kept for a peer. -/
def peer (x : Svc) (n : Nat) : SvcPeer := bankGet {} x.peers n

/-- A peer changed. -/
def modPeer (p n : Nat) (f : SvcPeer → SvcPeer) (d : Dev) : Dev :=
  modSvc p (fun x => { x with peers := bankPut {} x.peers n (f (peer x n)) }) d

/-- The lattice index of a chord's neighbour. -/
def remoteIndex (d : Dev) (c : Nat) : Nat :=
  match bankGet none d.chords c with
  | some x => x.2
  | none => 0

/-- R146, R179: whether Izrath acts as partner (node 0) on a port: the higher-index end of a chord. -/
def actsAsPartner (d : Dev) (p : Nat) : Bool :=
  let c := attr d PORT_CHORD p
  c != 0xFF && decide (remoteIndex d c < attr d LATTICE_INDEX 0)

/-- R199: SVC.ROLE. -/
def svcRole (d : Dev) (p : Nat) : Nat :=
  let st := attr d PORT_STATE p
  if st = psDown ∨ st = psLegacy then 0
  else if st = psQuiet ∨ st = psDormant then 3
  else if actsAsPartner d p then 2 else 1

/-- R176: the 36 header bits of a burst without ACK and MORE: CTRL, TYPE, ADDR, GRANT, MOD, LEN, TCLASS, SEQ, FIRST, LAST. -/
structure Head where
  ctrl : Bool := true
  ty : Nat := 0
  addr : Nat := 0
  grant : Bool := false
  mod : Bool := false
  len : Nat := 0
  tclass : Nat := 0
  seq : Bool := false
  ack : Nat := 0
  more : Bool := false
  first : Bool := false
  last : Bool := false
  deriving DecidableEq, Repr

/-- R176: a header with its CHK. -/
def headBits (h : Head) : Nat :=
  let v := bitNat h.ctrl * 2 ^ 35 + h.ty * 2 ^ 32 + h.addr * 2 ^ 29 + bitNat h.grant * 2 ^ 28 + bitNat h.mod * 2 ^ 27 + h.len * 2 ^ 20
    + h.tclass * 2 ^ 18 + bitNat h.seq * 2 ^ 17 + h.ack * 2 ^ 15 + bitNat h.more * 2 ^ 14 + bitNat h.first * 2 ^ 13 + bitNat h.last * 2 ^ 12
  v + crc12 ((bitsMsb v 36).take 24)

/-- R176: a header read. -/
def readHead (v : Nat) : Head :=
  { ctrl := bitOf v 35, ty := fieldOf v 34 32, addr := fieldOf v 31 29, grant := bitOf v 28, mod := bitOf v 27, len := fieldOf v 26 20,
    tclass := fieldOf v 19 18, seq := bitOf v 17, ack := fieldOf v 16 15, more := bitOf v 14, first := bitOf v 13, last := bitOf v 12 }

/-- R177: a valid header. -/
def headValid (v : Nat) : Bool :=
  let h := readHead v
  crc12 ((bitsMsb v 36).take 24) == v % 4096 && decide (h.ty ≤ 3) && decide (h.addr ≤ 4) && h.ack != 1 && h.tclass != 3
    && (!h.grant || (h.ctrl && h.ty != 3))
    && (h.ty == 1 || (!h.mod && h.len == 0 && !h.seq && !h.first && !h.last))
    && (if h.addr = 0 then decide (h.tclass ≤ 1) else h.tclass == 2)

/-- R178: the symbols of a burst with a payload of `n` bytes (0: none). -/
def burstSymbols (qpsk : Bool) (n : Nat) : Nat := 10 + (if n = 0 then 0 else ceilDiv (8 * n + 38) (if qpsk then 12 else 6))

/-- R171: its length, ns. -/
def burstNs (qpsk : Bool) (n : Nat) : Nat := 1600 * burstSymbols qpsk n

/-- R199: the payload modulation toward a node. -/
def useQpsk (d : Dev) (p n : Nat) : Bool :=
  match attr d SVC_MOD p with
  | 0 => decide (24 ≤ blockByte d SVC_NODE_SNR p n)
  | 1 => false
  | _ => true

/-- R187, R199: the queue lengths that SVC attributes report. -/
def refreshSvc (p : Nat) (d : Dev) : Dev :=
  let x := svc d p
  setAttr SVC_ROLE p (svcRole d p) (setAttr SVC_RX_QUEUE p x.received.length (setAttr SVC_TX_QUEUE p x.queue.length d))

/-- R195: a burst put on the pair: counted, kept as the last one, and the service band ignored to 1 us after its end; a reception that it
overlaps is lost. -/
def putBurst (p : Nat) (h : Head) (payload : List Byte) (d : Dev) : Dev :=
  let ns := burstNs h.mod payload.length
  arm tkBlank p (ns + nsPerUs)
    (bump SVC_BURSTS_TX p 1 (modSvc p (fun x => { x with blanked := true, rx := none, pendingRx := none, lastBurst := some ⟨headBits h, payload⟩ }) d))

/-- R183: something that becomes due takes its place in the order of arrival. -/
def nextArrival (p : Nat) (d : Dev) : Nat × Dev := ((svc d p).arrivals, modSvc p (fun x => { x with arrivals := x.arrivals + 1 }) d)

/-- R159: the sending of SWAP_AT is noted, by when its burst ends. -/
def noteSwapAt (p : Nat) (f : SvcFragment) (ns : Nat) (d : Dev) : Dev :=
  if f.tclass = 0 ∧ f.first ∧ byteAt f.bytes 0 = 0x0D then
    modPort p (fun x => { x with swap := x.swap.map fun s => if s.sf.isSome && s.atTime.isNone then { s with atTime := some (d.elapsed + ns) } else s }) d
  else d

/-- The class of the messages a node takes from the host queue. -/
def hostClass (n : Nat) : Nat := if n = 0 then 1 else 2

/-- R182, R184: the message of a class whose next fragment may go to a node now: TRAINING from its own store, host messages
where the port's state serves them. -/
def nextMessage (d : Dev) (p n : Nat) : Option SvcMsg :=
  let x := svc d p
  let st := attr d PORT_STATE p
  match (if n = 0 then x.training.head? else none) with
  | some m => some m
  | none =>
    if (if n = 0 then st = psTrain ∨ st = psCarry else st = psListen ∨ st = psNegotiate ∨ st = psTrain ∨ st = psCarry) then
      x.queue.find? fun m => m.node == n
    else none

/-- R184: a message's next fragment. -/
def fragmentOf (m : SvcMsg) : SvcFragment :=
  let rest := m.bytes.drop m.acked
  ⟨m.tclass, rest.take 128, m.acked == 0, decide (rest.length ≤ 128), 0, true⟩

/-- R184, R185: the fragment for a node, started where none is unacknowledged. -/
def loadFragment (p n : Nat) (d : Dev) : Dev :=
  match (peer (svc d p) n).out with
  | some _ => d
  | none =>
    match nextMessage d p n with
    | some m => modPeer p n (fun x => { x with out := some (fragmentOf m) }) d
    | none => d

/-- Whether fragments beyond the one under way are held for a node (MORE of R176). -/
def holdsMore (d : Dev) (p n : Nat) (f : SvcFragment) : Bool :=
  !f.last || decide (1 < ((svc d p).queue.filter fun m => m.node == n).length + (if n = 0 then (svc d p).training.length else 0))

/-- R183, R185: one burst for a node: an acknowledgement owed, a grant, and a fragment that is due, together. -/
def burstFor (p n : Nat) (d : Dev) : Dev :=
  let d0 := loadFragment p n d
  let x := peer (svc d0 p) n
  let ctrl := !(actsAsPartner d p)
  let ack := match x.ackOwed with | none => 0 | some s => if s then 3 else 2
  let d1 := modPeer p n (fun y => { y with ackOwed := none, more := false }) d0
  let more := match x.out with | some f => holdsMore d p n f | none => false
  let base : Head := { ctrl := ctrl, addr := n, grant := ctrl, ack := ack, tclass := if n = 0 then 0 else 2, more := more }
  match x.out with
  | some f =>
    if f.due then
      let h : Head := { base with ty := 1, mod := useQpsk d p n, len := f.bytes.length - 1, tclass := f.tclass, seq := x.txSeq, first := f.first, last := f.last }
      let d2 := modPeer p n (fun y => { y with out := some { f with due := false, tries := f.tries + 1 } }) d1
      noteSwapAt p f (burstNs h.mod f.bytes.length) (arm tkResend (8 * p + n) (400 * nsPerUs) (putBurst p h f.bytes d2))
    else putBurst p base [] d1
  | none => putBurst p base [] d1

/-- R180: a burst of the controller opens a grant that lapses 15 us after its end. -/
def grantBurst (p n : Nat) (d : Dev) : Dev :=
  let d1 := burstFor p n d
  let ns := match (svc d1 p).lastBurst with | some b => burstNs (bitOf b.header 27) b.payload.length | none => 0
  arm tkGrantLapse p (ns + 15 * nsPerUs) (modSvc p (fun x => { x with granted := some n, grantDue := if n = 0 then false else x.grantDue }) d1)

/-- R183: a fragment of a class due for a node, or one that could be started. -/
def fragmentDue (d : Dev) (p n cls : Nat) : Bool :=
  match (peer (svc d p) n).out with
  | some f => f.due && f.tclass == cls
  | none =>
    match nextMessage d p n with
    | some m => m.tclass == cls
    | none => false

/-- R183: within a rank, the node whose claim arrived first. -/
def firstArrival (l : List (Nat × Nat)) : Option Nat :=
  (l.foldl (fun (b : Option (Nat × Nat)) e => match b with | none => some e | some y => if e.1 < y.1 then some e else b) none).map (·.2)

/-- R183: the place in the order of arrival of the oldest message for a node. -/
def messageSince (x : Svc) (n : Nat) : Nat := match x.queue.find? fun m => m.node == n with | some m => m.since | none => 0

/-- R183: the ranks 2 to 7 of what is due on a port, each with its claims: place in the order of arrival, and node. -/
def dueRanks (d : Dev) (p : Nat) : List (List (Nat × Nat)) :=
  let x := svc d p
  let nodes := List.range 5
  let among := fun (c : Nat → Bool) (since : Nat → Nat) => (nodes.filter c).map fun n => (since n, n)
  [among (fun n => (peer x n).ackOwed.isSome) fun n => (peer x n).ackSince,
   among (fun n => (peer x n).more || (peer x n).holds) fun n => (peer x n).moreSince,
   among (fun n => fragmentDue d p n 0) fun _ => 0,
   (x.polls.filter fun q => !q.retryWait).map (fun q => (q.since, q.node)) ++ among (fun n => decide (1 ≤ n) && fragmentDue d p n 2) (messageSince x),
   among (fun n => n == 0 && fragmentDue d p 0 1) fun _ => 0,
   among (fun n => n == 0 && x.grantDue) fun _ => 0]

/-- R182, R183: the node that the next burst of the controller addresses; in NEGOTIATE node 0 is not granted. -/
def dueNode (d : Dev) (p : Nat) : Option Nat :=
  (dueRanks d p).findSome? fun l => firstArrival (l.filter fun e => e.2 != 0 || attr d PORT_STATE p != psNegotiate)

/-- Whether a burst may start now (R180, R182, R193, R195). -/
def channelFree (d : Dev) (p : Nat) : Bool :=
  let x := svc d p
  !x.blanked && x.rx.isNone && x.granted.isNone

/-- R180: a poll's grant counted where the burst is for its node. -/
def countGrant (p n : Nat) (d : Dev) : Dev :=
  modSvc p (fun x => { x with polls := x.polls.map fun q => if q.node == n then { q with grants := q.grants + 1 } else q }) d

/-- R188: as node 0, HELLO. -/
def sendHello (p : Nat) (d : Dev) : Dev := putBurst p { ctrl := false, ty := 2 } [] (modSvc p (fun x => { x with helloSent := true }) d)

/-- R180 to R183: the next burst that is due, where one may start: as controller by rank, as node 0 under a grant. -/
def svcKick (p : Nat) (d : Dev) : Dev :=
  if channelFree d p = false then d
  else
    match svcRole d p with
    | 1 =>
      match dueNode d p with
      | some n => grantBurst p n (countGrant p n d)
      | none => d
    | 2 =>
      if (svc d p).mayReply then
        let d1 := modSvc p (fun x => { x with mayReply := false }) d
        if (svc d p).helloSent then burstFor p 0 d1 else sendHello p d1
      else d
    | _ => d

/-- R152: a training message to the partner, with acknowledgement. -/
def sendTraining (p : Nat) (bytes : List Byte) (d : Dev) : Dev :=
  svcKick p (modSvc p (fun x => { x with training := x.training ++ [{ node := 0, tclass := 0, id := 0, bytes := bytes, acked := 0, job := none }] }) d)

/-- R181: as node 0, an unsolicited burst may start: no burst has been heard for 50 us. -/
def heardNothing (d : Dev) (p : Nat) : Bool := (svc d p).heardAt == 0 || decide ((svc d p).heardAt + 50 * nsPerUs ≤ d.elapsed + 1)

/-- R138, R182: LINK_STOP sent once, with no acknowledgement awaited. DESIGN CHOICE (assumption 113): as node 0 in QUIET it is not sent where
a burst has been heard within 50 us (R181), since the port is silenced at once. -/
def sendStopOnce (p : Nat) (d : Dev) : Dev :=
  let node := actsAsPartner d p
  let h : Head := { ctrl := !node, addr := 0, grant := !node, ty := 1, mod := useQpsk d p 0, tclass := 0, first := true, last := true, seq := (peer (svc d p) 0).txSeq }
  if node ∧ attr d PORT_STATE p = psQuiet ∧ heardNothing d p = false then d else putBurst p h [0x0F#8] d

/-- R189: one WAKE burst. -/
def sendWake (p : Nat) (d : Dev) : Dev := putBurst p { ctrl := !(actsAsPartner d p), ty := 3 } [] d

/-- R189: a wake sequence of eight WAKE bursts begins; as node 0 not before 50 us without a burst heard (R181). -/
def startWake (p : Nat) (d : Dev) : Dev :=
  if actsAsPartner d p ∧ heardNothing d p = false then
    arm tkWakeNext p (50 * nsPerUs - (d.elapsed + 1 - (svc d p).heardAt)) (modSvc p (fun x => { x with wakeLeft := 8, wakeSent := true }) d)
  else arm tkWakeNext p (50 * nsPerUs) (modSvc p (fun x => { x with wakeLeft := 7, wakeSent := true }) (sendWake p d))

/-- R185, R186: every SEQ bit for node 0 back at 0; the fragment under way is sent again, three times in all. -/
def resetSeq (p n : Nat) (d : Dev) : Dev :=
  modPeer p n (fun x => { x with txSeq := false, rxLast := none, holds := false,
                                 out := x.out.map fun f => { f with due := f.due || decide (f.tries < 3) } }) d

/-- R196: SVC_DONE of a host message. -/
def svcDone (p : Nat) (m : SvcMsg) (status : Nat) (d : Dev) : Dev :=
  completeOpt m.job clsSvc p evSvcDone status ([byteOf p, byteOf m.node] ++ toLE m.id 2) d

/-- R196: every host message of a port aborted, and partly received messages discarded. -/
def abortMessages (p : Nat) (d : Dev) : Dev :=
  let ms := (svc d p).queue
  let d1 := modSvc p (fun x => { x with queue := [], peers := x.peers.map fun e => (e.1, { e.2 with out := none, partials := [], more := false, holds := false }) }) d
  refreshSvc p (ms.foldl (fun e m => svcDone p m stAborted e) (forAll (List.range 5) (fun n => disarm tkResend (8 * p + n)) d1))

/-- The training messages still to send dropped, with the fragment under way. -/
def clearTraining (p : Nat) (d : Dev) : Dev :=
  disarm tkResend (8 * p) (modPeer p 0 (fun x => { x with out := x.out.filter fun f => f.tclass != 0 }) (modSvc p (fun x => { x with training := [] }) d))

/-- R198: SEGMENT_DONE. -/
def endPoll (p : Nat) (q : SvcPoll) (status : Nat) (d : Dev) : Dev :=
  complete q.job clsSvc p evSegmentDone status [byteOf p, byteOf q.node]
    (disarm tkPollRetry (8 * p + q.node) (modSvc p (fun x => { x with polls := x.polls.filter fun y => y.node != q.node }) d))

/-- R198: every poll of a port aborted. -/
def abortPolls (p : Nat) (d : Dev) : Dev := (svc d p).polls.foldl (fun e q => endPoll p q stAborted e) d

/-- R191: a bit of SVC.NODE_PRESENT, with SEGMENT_NODE where it changes. -/
def setPresent (p n : Nat) (on : Bool) (d : Dev) : Dev :=
  let v := attr d SVC_NODE_PRESENT p
  if bitOf v n = on then d
  else
    let w := withBit v n on
    raise clsSvc p evSegmentNode w (setAttr SVC_NODE_PRESENT p w d)

/-- R191: every node gone. -/
def clearPresent (p : Nat) (d : Dev) : Dev := forAll (List.range 5) (fun n => setPresent p n false) d

/-- The channel silent: no grant, reception or sequence. -/
def silenceSvc (p : Nat) (d : Dev) : Dev :=
  disarm tkWakeNext p (disarm tkPollGrant p (disarm tkBeacon p (disarm tkHello p (disarm tkGrantLapse p
    (modSvc p (fun x => { x with granted := none, mayReply := false, rx := none, pendingRx := none, wakeLeft := 0, grantDue := false }) d)))))

end Sys2Proof.Machine
end

