-- ==== Sys2Proof/Machine/Transmit.lean ====
section
/-! DEFINITION. Machine/Transmit.lean: what Izrath transmits on the tones of a port (R42 to R51, R83, R142, R146): the superframe count in
use, the seeds of the generators, the launch level, and the value of each tone. -/

namespace Sys2Proof.Machine

/-! ### The ends of a pair (R42, R146) -/

/-- R145: PORT_ID of the partner's ability word. -/
def partnerPortId (d : Dev) (p : Nat) : Nat := fieldOf (attr d PORT_PARTNER_ABILITY p) 55 48

/-- R42: the superframe count of a port: the prism's, or as the partner on a chord the count received (assumption 105). -/
def sfCount (d : Dev) (p : Nat) : Nat :=
  (attr d PRISM_SF_COUNT (prismOf p) + (if actsAsPartner d p then (port d p).rx.countDelta else 0)) % 256

/-- R43, R46, R146: the seed of Izrath's transmitter on a port: the controller's base with its own number, or as the partner on a chord
the partner's base with the other end's PORT_ID. -/
def ownSeed (d : Dev) (p controller partner : Nat) : Nat := if actsAsPartner d p then partner + partnerPortId d p else controller + p

/-- R43, R46, R146: the seed of the transmitter at the other end. -/
def farSeed (d : Dev) (p controller partner : Nat) : Nat := if actsAsPartner d p then controller + partnerPortId d p else partner + p

/-- R43: the seed of the markers of Izrath's transmitter. -/
def markerSeed (d : Dev) (p : Nat) : Nat := ownSeed d p 0x4000 0x6000

/-- R46: the seed of its pilot generator. -/
def pilotSeed (d : Dev) (p : Nat) : Nat := ownSeed d p 0x0100 0x0300

/-- R423: the seed of its refresh symbols. -/
def refreshSeed (d : Dev) (p : Nat) : Nat := ownSeed d p 0x4800 0x4C00

/-- R425: the seed of its tangent bursts. -/
def tangentSeed (d : Dev) (p : Nat) : Nat := ownSeed d p 0x5800 0x5C00

/-! ### Levels and values (R47, R50, R60, R83) -/

/-- R60, R83: the level of a loaded tone at 0 dB fine gain, 0.1 dBm/Hz: TX_PSD_NOW, and during the port's admission ramp 24 dB less, rising
by 1.5 dB at each superframe boundary. -/
def launchLevel (d : Dev) (p : Nat) : Int :=
  let m := prismOf p
  attrInt d PORT_TX_PSD_NOW p - (if attr d PRISM_ADMISSION_PORT m = p then 240 - 15 * (min 16 (prism d m).rampSf : Int) else 0)

/-- R50: the amplitude of a unit of the integer grid of a constellation of energy `e` at a level: the power of the tone in units of
2^-80 of 1 mW/Hz. -/
def amplitudeOf (e : Nat) (level : Int) : Nat :=
  largestBelow (fun x => decide ((x * x * e) ^ 100 * 10 ^ (-level).toNat ≤ 2 ^ 8000 * 10 ^ level.toNat)) 48 0

/-- R50: X(t). -/
def toneValue (o : ToneOut) : Cx :=
  let a : Int := amplitudeOf o.energy o.level
  (a * o.point.1, a * o.point.2)

/-- R79: what a port transmits on a tone in this symbol; nothing where it is silent there. -/
def sentOn (d : Dev) (p t : Nat) : Cx :=
  match (port d p).tx.symbol.find? fun o => o.tone == t with
  | some o => toneValue o
  | none => (0, 0)

/-- A QPSK point on a tone at a level. -/
def qpskOut (level : Int) (t label : Nat) : ToneOut := ⟨t, mapPoint label 2, pointEnergy 2, level⟩

/-- R47: the eight pilots at the launch level and 0 dB fine gain. -/
def pilotOuts (level : Int) (labels : List Nat) : List ToneOut := (labels.zip (List.range 8)).map fun x => qpskOut level (64 * x.2 + 32) x.1

/-- R44: quarter turns of a marker form: NORMAL, SWAP, QUIET_NEXT. -/
def formTurns (form : Nat) : Nat := if form = 1 then 2 else if form = 2 then 1 else 0

/-- R43 to R45: the marker of a superframe count: pilots unturned, and a QPSK point turned by the form on every unmasked loadable tone,
with its fine gain. -/
def markerOuts (seed count form : Nat) (mask gains : List Byte) (level : Int) : List ToneOut :=
  pilotOuts level (markerPilots count) ++ ((loadableTones.zip (markerLabels seed)).filter fun x => !toneMasked mask x.1).map fun x =>
    ⟨x.1, quarterTurn (formTurns form) (mapPoint x.2 2), pointEnergy 2, level + gainOf gains x.1⟩

/-- R50, R51: the loaded tones of a data symbol: point, energy and fine gain. -/
def dataOuts (load gains : List Byte) (level : Int) (labels : List (Nat × Nat)) : List ToneOut :=
  labels.map fun x => ⟨x.1, (tonePoint load x).1, (tonePoint load x).2, level + gainOf gains x.1⟩

/-- R151: a probe symbol, and the generator after it: pilots first, then two outputs for each loadable tone. -/
def probeOuts (mask : List Byte) (gen : Nat) (level : Int) : List ToneOut × Nat :=
  let (pilots, g1) := pilotLabels gen
  let (bits, g2) := prbs15 1000 g1
  (pilotOuts level pilots
    ++ ((loadableTones.zip (pairLabels bits)).filter fun x => !toneMasked mask x.1).map (fun x => qpskOut level x.1 x.2), g2)

/-- R46: a pilot generator at data slot `slot`, seeded at symbol 1 of the superframe. DEDUCED (assumption 47): a data symbol takes the outputs of its
slot also where the slots before it carried something else. -/
def pilotStateAt (seed slot : Nat) : Nat := (prbs15 (16 * (slot - 1)) seed).2

/-- R45, R46: the pilots that the other end sends in a slot of the superframe. -/
def farPilots (d : Dev) (p slot : Nat) : List Nat :=
  if slot = 0 then markerPilots (sfCount d p) else (pilotLabels (pilotStateAt (farSeed d p 0x0300 0x0100) slot)).1

/-! ### Clause 98 pages (R142) -/

/-- R142: the OUI that IDENT reports. -/
abbrev spalothOui : Nat := 0x9C4E21

/-- R142: whether Izrath advertises 1000BASE-T1 and sends next pages. -/
def offersLegacy (d : Dev) (p : Nat) : Bool := attr d PORT_NEG_MODE p != 1
def offersRilas (d : Dev) (p : Nat) : Bool := attr d PORT_NEG_MODE p != 2 && !(port d p).train.noNextPage

/-- R145: the Rilas ability word that Izrath sends. -/
def ownAbility (d : Dev) (p : Nat) : Nat :=
  let c := attr d PORT_CHORD p
  let chord := c != 0xFF
  1 * 2 ^ 60 + (if chord then 1 else 2) * 2 ^ 58 + attr d PORT_CLASS p * 2 ^ 56 + p * 2 ^ 48
    + (if chord then attr d LATTICE_INDEX 0 * 2 ^ 45 else 0) + attr d PORT_INTERLEAVE p * 2 ^ 43
    + 2 ^ attr d PRISM_PREFIX (prismOf p) * 2 ^ 40 + 12 * 2 ^ 36 + 2 ^ 35 + 2 ^ 34 + 2 ^ 33
    + (if chord then (chordPorts d c).length * 2 ^ 29 + attr d PORT_CHORD_MEMBER p * 2 ^ 27 else 0)

/-- R142: the pages of a negotiation. -/
def negotiationPages (d : Dev) (p : Nat) : List NegPage :=
  let w := ownAbility d p
  .base (offersLegacy d p) (offersRilas d p) true
    :: (if offersRilas d p then [.message spalothOui, .unformatted (fieldOf w 63 32), .unformatted (fieldOf w 31 0)] else [])

end Sys2Proof.Machine
end

