-- ==== Sys2Proof/Machine/Loading.lean ====
section
/-! DEFINITION. Machine/Loading.lean: how receive tables are built (R157), and loading swaps (R158 to R161). -/

namespace Sys2Proof.Machine

/-! ### Building receive tables (R157) -/

/-- R157: req[b], in 0.1 dB. -/
def req : Nat → Int
  | 1 => 115 | 2 => 145 | 3 => 180 | 4 => 215 | 5 => 245 | 6 => 275 | 7 => 305 | 8 => 335 | 9 => 365 | 10 => 395 | 11 => 425
  | 12 => 455
  | _ => 0

/-- R157: the largest b up to `bmax` with req[b] ≤ s + 2.5 dB; `s` in 1/2560 dB, the unit of the averaged SNR times ten. -/
def bitsFor (bmax : Nat) (s : Int) : Nat :=
  ((List.range 13).filter fun b => decide (b ≤ bmax) && (b == 0 || decide (256 * (req b - 25) ≤ s))).foldl max 0

/-- R157: the fine gain of a tone of `b` bits, 0.1 dB: the least whole number not below req − s. -/
def gainFor (b : Nat) (s : Int) : Int := if b = 0 then 0 else clampInt (-((s - 256 * req b) / 256)) (-25) 25

/-- R157: a tone that may be loaded. -/
def mayLoad (mask : List Byte) (t : Nat) : Bool := decide (4 ≤ t) && !isPilot t && !toneMasked mask t

/-- R157: the loaded tone with the smallest margin left, the highest on a tie. -/
def worstTone (s : Nat → Int) (l : List (Nat × Nat)) : Option (Nat × Int) :=
  l.foldl (fun acc x =>
    if x.2 = 0 then acc
    else
      let m := s x.1 + 256 * gainFor x.2 (s x.1) - 256 * req x.2
      match acc with
      | none => some (x.1, m)
      | some (_, bm) => if m ≤ bm then some (x.1, m) else acc) none

/-- R157: bits taken one at a time until the net rate is within the cap; `fuel` bounds their number. -/
def trimTo (cap period : Nat) (s : Nat → Int) : Nat → List (Nat × Nat) → List (Nat × Nat)
  | 0, l => l
  | n + 1, l =>
    if netRate ((l.map (·.2)).sum) period ≤ cap then l
    else
      match worstTone s l with
      | some (t, _) => trimTo cap period s n (l.map fun x => if x.1 = t then (t, x.2 - 1) else x)
      | none => l

/-- R157: the bits of each tone at a margin (0.1 dB). -/
def loadAt (mask : List Byte) (snr : Nat → Int) (bmax cap period m : Nat) : List (Nat × Nat) :=
  let s := fun t => 10 * snr t - 256 * (m : Int)
  trimTo cap period s 6000 (((List.range 512).filter (mayLoad mask)).map fun t => (t, bitsFor bmax (s t)))

/-- R157: the table pair of a list of loads. -/
def pairOfLoads (snr : Nat → Int) (m : Nat) (l : List (Nat × Nat)) : List Byte × List Byte :=
  let b := fun t => ((l.find? fun x => x.1 == t).map (·.2)).getD 0
  let s := fun t => 10 * snr t - 256 * (m : Int)
  (loadingTable b, (List.range 512).map fun t => byteOf (unsignedOf 8 (gainFor (b t) (s t))))

/-- R157: the margins tried in turn, from the target down by 1.0 dB to exactly 0. -/
def marginsFrom : Nat → Nat → List Nat
  | 0, _ => [0]
  | n + 1, m => if m = 0 then [0] else m :: marginsFrom n (m - 10)

/-- R157: the pair and the final margin, none where 136 bits are not reached at 0 dB. -/
def buildTables (mask : List Byte) (snr : Nat → Int) (bmax cap period target : Nat) : Option ((List Byte × List Byte) × Nat) :=
  (marginsFrom 13 target).findSome? fun m =>
    let l := loadAt mask snr bmax cap period m
    if 136 ≤ (l.map (·.2)).sum then some (pairOfLoads snr m l, m) else none

/-- R200: the averaged SNR of a tone, 1/256 dB. -/
def snrOf (d : Dev) (p t : Nat) : Int := (bankGet none (port d p).rx.snr t).getD 0

/-- R145: MAX_BITS of the partner's ability word. -/
def partnerMaxBits (d : Dev) (p : Nat) : Nat := fieldOf (attr d PORT_PARTNER_ABILITY p) 39 36

/-- R157 for a port as it stands. -/
def buildFor (d : Dev) (p : Nat) : Option ((List Byte × List Byte) × Nat) :=
  buildTables (port d p).rx.maskNow (snrOf d p) (partnerMaxBits d p) (attr d PORT_RATE_CAP p) (attr d PRISM_SYMBOL_PERIOD (prismOf p))
    (attr d PORT_TARGET_MARGIN p)

/-! ### Checking a proposed pair (R55, R147, R152) -/

/-- R55: the rule of the lowest number that a pair breaks; 0 where all hold. -/
def brokenRule (load gains mask : List Byte) (cap period : Nat) : Nat :=
  let ts := List.range 512
  let quiet := fun t => decide (t < 4) || isPilot t
  if ts.any fun t => decide (12 < loadOf load t) then 1
  else if ts.any fun t => quiet t && loadOf load t != 0 then 2
  else if ts.any fun t => toneMasked mask t && loadOf load t != 0 then 3
  else if ts.any fun t => decide (gainOf gains t < -25) || decide (25 < gainOf gains t) then 4
  else if ts.any fun t => (quiet t || toneMasked mask t) && gainOf gains t != 0 then 5
  else if totalBits load < 136 then 6
  else if cap < netRate (totalBits load) period then 7
  else 0

/-- R147: whether a table asks more of a tone than the partner's MAX_BITS. -/
def aboveMaxBits (d : Dev) (p : Nat) (load : List Byte) : Bool := (List.range 512).any fun t => decide (partnerMaxBits d p < loadOf load t)

/-- R55 for a port, under the mask in effect. -/
def brokenAt (d : Dev) (p : Nat) (load gains : List Byte) : Nat :=
  brokenRule load gains (port d p).rx.maskNow (attr d PORT_RATE_CAP p) (attr d PRISM_SYMBOL_PERIOD (prismOf p))

/-- R152: the tables of a TABLES or SWAP_REQ message. -/
def messageTables (bs : List Byte) : List Byte × List Byte := ((bs.drop 1).take 256, (bs.drop 257).take 512)

/-! ### Tables in use -/

/-- The tables of a direction replaced (bit 0 transmit, bit 1 receive), with what follows for the rates. -/
def useTables (p dirs : Nat) (tx rx : Option (List Byte × List Byte)) (d : Dev) : Dev :=
  let d1 := match tx with
    | some t => if bitOf dirs 0 then setBlock PORT_GAIN_TX p t.2 (setBlock PORT_LOADING_TX p t.1 d) else d
    | none => d
  let d2 := match rx with
    | some t => if bitOf dirs 1 then setBlock PORT_GAIN_RX p t.2 (setBlock PORT_LOADING_RX p t.1 d1) else d1
    | none => d1
  refreshOversub p (refreshRates p d2)

/-! ### Swaps (R159 to R161) -/

/-- The swap of a port. -/
def swapOf (d : Dev) (p : Nat) : Option Swap := (port d p).swap

/-- A swap written, with PORT.SWAP_STATE and PORT.SWAP_SF. -/
def setSwap (p : Nat) (x : Option Swap) (d : Dev) : Dev :=
  let st := match x with
    | none => 0
    | some s => if s.sf.isSome then 3 else if s.agreed = s.dirs ∧ s.dirs ≠ 0 then 2 else 1
  let sf := match x with
    | some s => s.sf.getD 0
    | none => 0
  setAttr PORT_SWAP_SF p sf (setAttr PORT_SWAP_STATE p st (modPort p (fun y => { y with swap := x }) d))

/-- R160: a swap ends: SWAP_DONE with the directions changed and a status. -/
def finishSwap (p status : Nat) (d : Dev) : Dev :=
  match swapOf d p with
  | none => d
  | some s =>
    let d1 := disarm tkSwap p (setSwap p none d)
    match s.job with
    | some j => complete j clsPort p evSwapDone status [byteOf p, byteOf s.changed, 0#8, 0#8] d1
    | none => if s.agreed = 0 then d1 else raise clsPort p evSwapDone (s.changed * 256 + status) d1

/-- R160: a rule ends a swap: at once, or after boundary S where a SWAP marker of S − 1 has gone out or come in. -/
def endSwap (p status : Nat) (d : Dev) : Dev :=
  match swapOf d p with
  | none => d
  | some s => if s.marked = 0 then finishSwap p status d else setSwap p (some { s with ending := some status }) d

/-- R159, R160: the superframe that a new SWAP_AT names: 32 ahead of the count (assumption 10). -/
def swapTarget (d : Dev) (p : Nat) : Nat := (sfCount d p + 32) % 256

/-- R159 step 3: SWAP_AT for the directions not yet changed; when it was sent is noted as its burst ends (`noteSwapAt`). -/
def scheduleSwap (p : Nat) (s : Swap) (d : Dev) : Dev :=
  let sf := swapTarget d p
  let left := s.dirs - s.changed
  sendTraining p [0x0D#8, byteOf sf, byteOf left]
    (setSwap p (some { s with sf := some sf, attempts := s.attempts + 1, marked := 0, atTime := none, atDirs := left }) d)

/-- R159: every named direction agreed: the schedule follows. -/
def swapAgreed (p : Nat) (s : Swap) (d : Dev) : Dev :=
  if s.agreed = s.dirs ∧ s.partner = false then scheduleSwap p s d else setSwap p (some s) d

/-- R159 step 1, R158: a swap of the host begins. -/
def beginSwap (p : Nat) (j : JobRef) (dirs : Nat) (fresh : Bool) (d : Dev) : Dev :=
  let stageTx := (block d PORT_STAGE_LOADING_TX p, block d PORT_STAGE_GAIN_TX p)
  let stageRx := (block d PORT_STAGE_LOADING_RX p, block d PORT_STAGE_GAIN_RX p)
  let base : Swap := { job := some j, partner := false, dirs := dirs, asked := [], agreed := 0, changed := 0, fresh := fresh, tx := none, rx := none,
                       sf := none, attempts := 0, atTime := none, atDirs := 0, marked := 0, ending := none }
  let d0 := arm tkSwap p (20 * nsPerMs) d
  if fresh then
    let rx := if bitOf dirs 1 then (buildFor d p).map (·.1) else none
    if bitOf dirs 1 ∧ rx.isNone then finishSwap p stRefused (setSwap p (some base) d0)
    else
      let d1 := setSwap p (some { base with rx := rx, asked := if bitOf dirs 1 then [1] else [] }) d0
      let d2 := match rx with | some t => sendTraining p (0x0B#8 :: (t.1 ++ t.2)) d1 | none => d1
      if bitOf dirs 0 then sendTraining p [0x0B#8] d2 else d2
  else
    let asked := (if bitOf dirs 1 then [1] else []) ++ (if bitOf dirs 0 then [0] else [])
    let d1 := setSwap p (some { base with tx := some stageTx, rx := some stageRx, asked := asked }) d0
    let d2 := if bitOf dirs 1 then sendTraining p (0x0B#8 :: (stageRx.1 ++ stageRx.2)) d1 else d1
    if bitOf dirs 0 then sendTraining p (0x0B#8 :: (stageTx.1 ++ stageTx.2)) d2 else d2

/-- R159 step 2: SWAP_REPLY received for the oldest request. -/
def swapReply (p code : Nat) (d : Dev) : Dev :=
  match swapOf d p with
  | none => d
  | some s =>
    match s.asked with
    | [] => if s.fresh && bitOf s.dirs 0 && !s.partner && s.tx.isNone && code != 0 then endSwap p stRefused d else d
    | b :: r =>
      if code = 0 then swapAgreed p { s with asked := r, agreed := s.agreed ||| 2 ^ b } d
      else endSwap p stRefused d

/-- R159, R161: SWAP_REQ with tables, for Izrath's transmit direction. -/
def swapRequest (p : Nat) (msg : List Byte) (busy : Bool) (d : Dev) : Dev :=
  let t := messageTables msg
  let valid := msg.length == 769 && brokenAt d p t.1 t.2 == 0
  match swapOf d p with
  | some s =>
    if s.fresh && bitOf s.dirs 0 && s.tx.isNone && !s.partner then
      if valid then swapAgreed p { s with tx := some t, agreed := s.agreed ||| 1 } (sendTraining p [0x0C#8, 0x00#8] d)
      else sendTraining p [0x0C#8, 0x01#8] d
    else sendTraining p [0x0C#8, 0x02#8] d
  | none =>
    if busy then sendTraining p [0x0C#8, 0x02#8] d
    else if valid then
      let s : Swap := { job := none, partner := true, dirs := 1, asked := [], agreed := 1, changed := 0, fresh := false, tx := some t, rx := none,
                        sf := none, attempts := 0, atTime := none, atDirs := 0, marked := 0, ending := none }
      sendTraining p [0x0C#8, 0x00#8] (arm tkSwap p (20 * nsPerMs) (setSwap p (some s) d))
    else sendTraining p [0x0C#8, 0x01#8] d

/-- R159: SWAP_REQ without tables: the partner asks for a request for Izrath's receive direction (assumption 11). -/
def swapAsked (p : Nat) (d : Dev) : Dev :=
  match swapOf d p with
  | some _ => sendTraining p [0x0C#8, 0x02#8] d
  | none =>
    match buildFor d p with
    | none => sendTraining p [0x0C#8, 0x01#8] d
    | some (t, _) =>
      let s : Swap := { job := none, partner := true, dirs := 2, asked := [1], agreed := 0, changed := 0, fresh := true, tx := none, rx := some t,
                        sf := none, attempts := 0, atTime := none, atDirs := 0, marked := 0, ending := none }
      sendTraining p (0x0B#8 :: (t.1 ++ t.2)) (arm tkSwap p (20 * nsPerMs) (setSwap p (some s) d))

/-- R152: the directions of a SWAP_AT from Izrath's side: the sender's transmit direction is Izrath's receive direction. -/
def mirrorDirs (dirs : Nat) : Nat := bitNat (bitOf dirs 1) + 2 * bitNat (bitOf dirs 0)

/-- R159 step 3: SWAP_AT received: S, and the directions from the sender's side. -/
def swapAt (p sf dirs : Nat) (d : Dev) : Dev :=
  match swapOf d p with
  | some s =>
    if s.partner ∧ s.agreed = s.dirs then
      setSwap p (some { s with sf := some sf, attempts := s.attempts + 1, atTime := some d.elapsed, atDirs := mirrorDirs dirs, marked := 0 }) d
    else d
  | none => d

/-- R159: whether SWAP_AT names a direction that is agreed and has not changed. -/
def swapNames (s : Swap) (bit : Nat) : Bool := bitOf s.agreed bit && !bitOf s.changed bit && bitOf s.atDirs bit

/-- R159: whether superframe `count` is S − 1 of a scheduled swap. -/
def swapNext (d : Dev) (p count : Nat) : Bool :=
  match swapOf d p with
  | some s => s.sf == some ((count + 1) % 256)
  | none => false

/-- R159: whether the marker that opens superframe `count` carries the SWAP form: S − 1, transmit direction agreed and not
changed, SWAP_AT at least 2 us before. -/
def sendsSwapForm (d : Dev) (p count : Nat) : Bool :=
  match swapOf d p with
  | some s => swapNext d p count && swapNames s 0 && (match s.atTime with | some t => decide (t + 2000 ≤ d.elapsed) | none => false)
  | none => false

/-- R160: directions whose SWAP marker has passed. -/
def markSwap (p bit : Nat) (d : Dev) : Dev :=
  match swapOf d p with
  | some s => setSwap p (some { s with marked := s.marked ||| 2 ^ bit }) d
  | none => d

/-- R159 step 4, R160: directions that change now: tables, and SWAP_DONE where none is left. -/
def changeDirections (p dirs : Nat) (d : Dev) : Dev :=
  match swapOf d p with
  | none => d
  | some s =>
    let d1 := useTables p dirs s.tx s.rx (setSwap p (some { s with changed := s.changed ||| dirs }) d)
    if s.changed ||| dirs = s.dirs then finishSwap p stOk d1 else d1

/-- R160: after boundary S, what is left: the ending that waited, another attempt, or TIMEOUT after three. -/
def afterSwapBoundary (p : Nat) (d : Dev) : Dev :=
  match swapOf d p with
  | none => d
  | some s =>
    match s.ending with
    | some st => finishSwap p st d
    | none =>
      if 3 ≤ s.attempts then finishSwap p stTimeout d
      else if s.partner then setSwap p (some { s with sf := none, atTime := none, marked := 0 }) d
      else scheduleSwap p s d

/-- R158: LOADING_SWAP; an entry above the partner's MAX_BITS is refused as R147 has it (assumption 106). -/
def bodyLoadingSwap : Body := fun _ c d =>
  let ps := c.params
  let p := byteAt ps 0
  let dirs := byteAt ps 1
  let stageEmpty := (bitOf dirs 0 && emptyLoad (block d PORT_STAGE_LOADING_TX p)) || (bitOf dirs 1 && emptyLoad (block d PORT_STAGE_LOADING_RX p))
  let good := fun a b => validPairAt d p (block d a p) (block d b p)
  let above := (bitOf dirs 0 && aboveMaxBits d p (block d PORT_STAGE_LOADING_TX p)) || (bitOf dirs 1 && aboveMaxBits d p (block d PORT_STAGE_LOADING_RX p))
  let stageGood := !above && (!bitOf dirs 0 || good PORT_STAGE_LOADING_TX PORT_STAGE_GAIN_TX) && (!bitOf dirs 1 || good PORT_STAGE_LOADING_RX PORT_STAGE_GAIN_RX)
  need (decide (p ≤ 127) && decide (1 ≤ dirs) && decide (dirs ≤ 3) && decide (byteAt ps 2 ≤ 1) && reservedZero ps 3 1) stOutOfRange <|
  need (attr d PORT_STATE p == psCarry) stPrecondition <|
  need ((swapOf d p).isNone && (port d p).quiet.entry.isNone) stBusy <|
  need (byteAt ps 2 == 1 || !stageEmpty) stPrecondition <|
  need (byteAt ps 2 == 1 || stageGood) stOutOfRange <|
    .accept [] (beginSwap p (callRef c) dirs (byteAt ps 2 == 1) (addJob c d))

/-- R158: the LOADING_SWAP row. -/
def execLoadingSwap (r : Req) (s : State) : Out := issueOut 0x34 bodyLoadingSwap r s

/-- R160: the SWAP_TIME_LIMIT row. -/
def execSwapTimeLimit (p : Fin 128) (s : State) : Out := onDev (onExpiry tkSwap p (endSwap p stTimeout)) s

end Sys2Proof.Machine
end

