-- ==== Sys2Proof/Machine/Next.lean ====
section
/-! DEFINITION. Machine/Next.lean: the slots of the NEXT canceller, its coefficients by aggressor, and the admission of aggressors (R79
to R85). How the coefficients are used and change stands in Machine/Adapt.lean. -/

namespace Sys2Proof.Machine

/-! ### Domains of a port (R402) -/

/-- R410, R411: whether a power domain counts as ON: ON, its pads not latched, and not named by a POWER_SET in progress. -/
def domainOn (d : Dev) (i : Nat) : Bool :=
  attr d DOMAIN_STATE i == 0 && !attrOn d DOMAIN_PADS_LATCHED i
    && (match d.power.set with | some x => !x.mask.contains i | none => true)

/-- R402: the front-end, facet DSP and prism control domains of a port. -/
def pathDomains (p : Nat) : List Nat := [p, 128 + facetOf p, 160 + prismOf p]

/-- R135, R141, R217: the path of a port powered. -/
def pathOn (d : Dev) (p : Nat) : Bool := (pathDomains p).all (domainOn d)

/-! ### Slots (R79 to R81) -/

/-- Slot `k` of a victim: 0 to 6 active, 7 survey; 0xFF empty. -/
def nextSlot (d : Dev) (p k : Nat) : Nat := blockByte d PORT_NEXT_SLOTS p k

/-- A slot written. -/
def setNextSlot (p k v : Nat) (d : Dev) : Dev := setBlockByte PORT_NEXT_SLOTS p k v d

/-- R80: whether a port's transmitter is on the prism grid. -/
def onGrid (d : Dev) (p : Nat) : Bool :=
  let st := attr d PORT_STATE p
  st == psTrain || st == psCarry || st == psQuiet || attr d PRISM_ADMISSION_PORT (prismOf p) == p || (port d p).scan.isSome

/-- R80: a victim's candidates, ascending. -/
def nextCandidates (d : Dev) (p : Nat) : List Nat := (portsOfPrism (prismOf p)).filter fun q => q != p && onGrid d q

/-- R81: candidates without an active slot. -/
def unslotted (d : Dev) (p : Nat) : List Nat := (nextCandidates d p).filter fun q => !((block d PORT_NEXT_SLOTS p).take 7).contains (byteOf q)

/-- R81: the next candidate to survey after the one in the survey slot; one that is about to enter an active slot is none. -/
def nextSurvey (d : Dev) (p : Nat) : Nat :=
  let l := (unslotted d p).filter fun q => (port d p).rx.nextSwap.map (·.2) != some q
  let now := nextSlot d p 7
  (l.find? fun q => now < q ∧ now ≠ 0xFF).getD (l.headD 0xFF)

/-- R81: 64 superframes. -/
def surveyNs (d : Dev) (p : Nat) : Nat := 64 * superframeNs d (prismOf p)

/-- R81: a survey visit begins, where there is a candidate. -/
def startSurvey (p : Nat) (d : Dev) : Dev :=
  let q := nextSurvey d p
  let d1 := setNextSlot p 7 q d
  if q = 0xFF then disarm tkSurvey p d1 else arm tkSurvey p (surveyNs d p) d1

/-- R83: a port that enters TRAIN or CARRY while another port of its prism is ramped surveys that port. -/
def joinSurvey (p : Nat) (d : Dev) : Dev :=
  let q := attr d PRISM_ADMISSION_PORT (prismOf p)
  if q = 0xFF ∨ q = p then d
  else if nextSlot d p 7 = q then d
  else disarm tkSurvey p (setNextSlot p 7 q (modRx p (fun x => { x with surveySaved := some (nextSlot d p 7) }) d))

/-- R81: whether the surveyed candidate takes an active slot: the weakest where it is 3 dB stronger; metrics in 0.1 dB, the surveyed
one's and those of the active slots. DESIGN CHOICE (assumption 107): an empty active slot is filled without that test. -/
def surveyWins (d : Dev) (p : Nat) (surveyed : Int) (active : List Int) : Option Nat :=
  match (List.range 7).find? fun k => nextSlot d p k == 0xFF with
  | some k => some k
  | none =>
    let w := (List.range 7).foldl (fun b k => if active.getD k 0 < active.getD b 0 then k else b) 0
    if active.getD w 0 + 30 ≤ surveyed then some w else none

/-- R81: the end of a visit: an exchange due at the next boundary, and the next candidate. -/
def endSurvey (p : Nat) (surveyed : Int) (active : List Int) (d : Dev) : Dev :=
  let q := nextSlot d p 7
  if attr d PORT_RX_STATE p = 3 then arm tkSurvey p (surveyNs d p) d
  else if q = 0xFF then startSurvey p d
  else
    let d1 := match surveyWins d p surveyed active with
      | some k => modRx p (fun x => { x with nextSwap := some (k, q) }) d
      | none => d
    startSurvey p d1

/-- R81: the exchange of slots that is due, at a boundary; the coefficients of both aggressors stay, and no port holds two active
slots. -/
def applyExchange (p : Nat) (d : Dev) : Dev :=
  if attr d PORT_RX_STATE p = 3 then d
  else
    match (port d p).rx.nextSwap with
    | some (k, q) =>
      let d1 := modRx p (fun x => { x with nextSwap := none }) d
      if (unslotted d p).contains q then setNextSlot p k q d1 else d1
    | none => d

/-- R80, R85: an aggressor taken out of every slot of its prism, its coefficients freed, and the coefficients that the port itself held
as a victim with them (assumption 107). -/
def freeAggressor (q : Nat) (d : Dev) : Dev :=
  forAll (portsOfPrism (prismOf q)) (fun p e =>
    forAll (List.range 8) (fun k e2 => if nextSlot e2 p k = q then setNextSlot p k 0xFF e2 else e2)
      (modRx p (fun x => { x with next := if p = q then [] else bankErase x.next q }) e)) d

/-- R85: an aggressor drops: its coefficients are held for 10 s. -/
def holdCoefficients (q : Nat) (d : Dev) : Dev := arm tkCoeffHold q (10 * nsPerS) d

/-! ### Admission ramps (R83, R84) -/

/-- R83: the victims of a ramp; the slots of a port in hold-over are frozen. -/
def rampVictims (d : Dev) (p : Nat) : List Nat :=
  (portsOfPrism (prismOf p)).filter fun q => q != p && attr d PORT_RX_STATE q != 3 && (let st := attr d PORT_STATE q; st == psTrain || st == psCarry || st == psQuiet)

/-- R83: a ramp begins: the victims survey the new port, a visit under way being kept for later. -/
def startRamp (p : Nat) (d : Dev) : Dev :=
  let m := prismOf p
  let d1 := modPrism m (fun x => { x with rampSf := 0 }) (setAttr PRISM_ADMISSION_PORT m p d)
  disarm tkCoeffHold p (forAll (rampVictims d p) (fun q e =>
    disarm tkSurvey q (setNextSlot q 7 p (modRx q (fun x => { x with surveySaved := some (nextSlot d q 7) }) e))) d1)

/-- R84: a port that is to ramp: at once where the prism ramps none, otherwise in turn. Answers whether it waits. -/
def rampBusy (d : Dev) (p : Nat) : Bool := attr d PRISM_ADMISSION_PORT (prismOf p) != 0xFF || !(prism d (prismOf p)).rampQueue.isEmpty

/-- R84: a ramp wanted. -/
def requestRamp (p : Nat) (d : Dev) : Dev :=
  if rampBusy d p then modPrism (prismOf p) (fun x => { x with rampQueue := x.rampQueue ++ [p] }) d else startRamp p d

/-- R84: a port whose ramp has begun after a wait starts ECHO_FIT now. -/
def settleRamp (p : Nat) (d : Dev) : Dev :=
  if attr d PORT_STATE p = psTrain ∧ (port d p).train.waitRamp then
    arm tkPhase p (2 * nsPerMs) (modTrain p (fun x => { x with waitRamp := false }) d)
  else d

/-- R84, R218: the next waiting port is ramped, where the prism ramps none; a scan, which starts at a boundary, keeps its place till then. -/
def nextRamp (m : Nat) (d : Dev) : Dev :=
  match (prism d m).rampQueue with
  | [] => d
  | q :: r =>
    if attr d PRISM_ADMISSION_PORT m ≠ 0xFF ∨ (port d q).scan.isSome = true then d
    else settleRamp q (startRamp q (modPrism m (fun x => { x with rampQueue := r }) d))

/-- R83: the ramp of a prism is over or given up: the victims' visits resume, the next waiting port is ramped. DESIGN CHOICE
(assumption 107): a visit that was given up runs its 64 superframes again. -/
def releaseRamp (m : Nat) (d : Dev) : Dev :=
  let p := attr d PRISM_ADMISSION_PORT m
  if p = 0xFF then d
  else
    let d1 := modPrism m (fun x => { x with rampSf := 0 }) (setAttr PRISM_ADMISSION_PORT m 0xFF d)
    let d2 := forAll (portsOfPrism m) (fun q e =>
      match (port e q).rx.surveySaved with
      | some v =>
        let e1 := setNextSlot q 7 v (modRx q (fun x => { x with surveySaved := none }) e)
        if v = 0xFF then startSurvey q e1 else arm tkSurvey q (surveyNs e q) e1
      | none => e) d1
    nextRamp m d2

/-- A port gives up its ramp or its place in the queue. -/
def cancelRamp (p : Nat) (d : Dev) : Dev :=
  let m := prismOf p
  let d1 := modPrism m (fun x => { x with rampQueue := x.rampQueue.filter (· != p) }) d
  if attr d PRISM_ADMISSION_PORT m = p then releaseRamp m d1 else nextRamp m d1

/-! ### Rows -/

/-- R81: the NEXT_SURVEY_VISIT_END row: coupling metrics in 0.1 dB of the surveyed port and of the active slots. -/
def execNextSurveyVisitEnd (p : Fin 128) (surveyed : Int) (active : List Int) (s : State) : Out :=
  onDev (onExpiry tkSurvey p (endSurvey p surveyed active)) s

/-- R85: the NEXT_COEFF_HOLD_EXPIRY row of an aggressor. -/
def execNextCoeffHoldExpiry (p : Fin 128) (s : State) : Out := onDev (onExpiry tkCoeffHold p (freeAggressor p)) s

/-- R85: the NEXT_DORMANT_RELAX_END row of an aggressor. -/
def execNextDormantRelaxEnd (p : Fin 128) (s : State) : Out :=
  onDev (fun d => if (port d p).rx.relax = some 0 then modRx p (fun x => { x with relax := none }) d else d) s

end Sys2Proof.Machine
end

