-- ==== Sys2Proof/Machine/Diag.lean ====
section
/-! DEFINITION. Machine/Diag.lean: the capture buffer and its claimants (R208 to R211), snapshots (R212 to R216) and cable scans
(R217 to R222). -/

namespace Sys2Proof.Machine

/-! ### Claims (R208 to R211) -/

/-- Holder codes of PORT.CLAIMS (R223). -/
abbrev holdTraffic : Nat := 1
abbrev holdRefresh : Nat := 2
abbrev holdScan : Nat := 3
abbrev holdSnapshot : Nat := 4
abbrev holdTest : Nat := 6

/-- Causes of R211. -/
abbrev endNone : Nat := 0
abbrev endPartnerEnergy : Nat := 1
abbrev endState : Nat := 2
abbrev endPreempted : Nat := 3
abbrev endHost : Nat := 4

/-- The holder of a port's capture buffer. -/
def captureHolder (d : Dev) (p : Nat) : Nat := attr d PORT_CLAIMS p / 256

/-- The holder of a port's transmitter. -/
def txHolder (d : Dev) (p : Nat) : Nat := attr d PORT_CLAIMS p % 256

/-- The capture buffer's holder written. -/
def setCapture (p h : Nat) (d : Dev) : Dev := setAttr PORT_CLAIMS p (256 * h + txHolder d p) d

/-- The transmitter's holder written. -/
def setTx (p h : Nat) (d : Dev) : Dev := setAttr PORT_CLAIMS p (256 * captureHolder d p + h) d

/-- R210: a holder that a diagnostic must not disturb. -/
def claimHeld (h : Nat) : Bool := decide (1 ≤ h) && decide (h ≤ 4)

/-- The armed snapshot in a record. -/
def snapshotOf (d : Dev) (r : Nat) : Option Snapshot := bankGet none d.snapshots r

/-- R210: the result of CONFLICT. -/
def claimConflict (d : Dev) (p resource holder : Nat) : List Byte :=
  let found := (List.range 8).find? fun r => match snapshotOf d r with
    | some x => x.port == p && x.kind != 0
    | none => false
  [byteOf resource, byteOf holder] ++ toLE (if holder = holdSnapshot then found.getD 0xFFFF else 0xFFFF) 2

/-! ### Snapshots -/

/-- R224: a record's state. -/
def setRecord (r st : Nat) (d : Dev) : Dev :=
  setAttr DEVICE_SNAP_READY 0 (withBit (attr d DEVICE_SNAP_READY 0) r (st != 0)) (setBlockByte DEVICE_SNAP_STATE 0 r st d)

/-- R211, R213: an armed snapshot leaves its record with SNAPSHOT_DONE; the capture buffer is released. -/
def endSnapshot (r status cause st : Nat) (d : Dev) : Dev :=
  match snapshotOf d r with
  | none => d
  | some x =>
    let d1 := disarm tkSnapArm r (setRecord r st { d with snapshots := bankPut none d.snapshots r none })
    let d2 := if x.kind ≠ 0 ∧ captureHolder d1 x.port = holdSnapshot then setCapture x.port 0 d1 else d1
    complete x.job clsPort x.port evSnapshotDone status [byteOf x.port, byteOf r, byteOf cause, 0#8] d2

/-- The armed snapshots of a port that meet a test end with ABORTED. -/
def abortSnapshots (p cause : Nat) (f : Snapshot → Bool) (d : Dev) : Dev :=
  forAll (List.range 8) (fun r e =>
    match snapshotOf e r with
    | some x => if x.port == p && f x then endSnapshot r stAborted cause 0 e else e
    | none => e) d

/-- R213: a trigger occurs on a port: its armed snapshots may now be captured. -/
def fireSnapshots (p trigger : Nat) (d : Dev) : Dev :=
  forAll (List.range 8) (fun r e =>
    match snapshotOf e r with
    | some x => if x.port = p ∧ x.trigger = trigger then disarm tkSnapArm r { e with snapshots := bankPut none e.snapshots r (some { x with fired := true }) } else e
    | none => e) d

/-- R213: a boundary of a prism: STATE snapshots of its ports whose trigger has occurred are captured at it. -/
def snapshotBoundary (m : Nat) (d : Dev) : Dev :=
  forAll (List.range 8) (fun r e =>
    match snapshotOf e r with
    | some x => if x.kind = 0 ∧ x.fired = true ∧ prismOf x.port = m then { e with snapshots := bankPut none e.snapshots r (some { x with due := true }) } else e
    | none => e) d

/-- Whether a prism stands at the boundary of a superframe. -/
def atBoundary (d : Dev) (m : Nat) : Bool := (prism d m).boundaryAt == d.elapsed + 1

/-- R212: what a port must be for a snapshot. -/
def snapshotAllowed (kind trigger st : Nat) : Bool :=
  if kind = 1 ∨ trigger ≠ 0 then st == psCarry
  else if kind = 2 then st != psDown && st != psDormant
  else st != psDown

/-- R212: SNAPSHOT. -/
def bodySnapshot : Body := fun _ c d =>
  let ps := c.params
  let p := byteAt ps 0
  let kind := byteAt ps 1
  let trig := byteAt ps 2
  let n := byteAt ps 3
  let t := leAt ps 4 2
  need (decide (p ≤ 127) && decide (kind ≤ 2) && decide (trig ≤ 3) && reservedZero ps 6 2
      && (if kind = 0 then n == 0 else decide (1 ≤ n) && decide (n ≤ if kind = 1 then 8 else 6))
      && (if trig = 0 then t == 0 else decide (1 ≤ t) && decide (t ≤ 60000))) stOutOfRange <|
  need (snapshotAllowed kind trig (attr d PORT_STATE p) && domainOn d 188 && (kind == 0 || !captureFailed d p)) stPrecondition <|
  if kind ≠ 0 ∧ claimHeld (captureHolder d p) then .refuse stConflict (claimConflict d p 1 (captureHolder d p))
  else
    match (List.range 8).find? fun r => blockByte d DEVICE_SNAP_STATE 0 r == 0 with
    | none => .refuse stNoResource []
    | some r =>
      let x : Snapshot := { job := callRef c, port := p, kind := kind, trigger := trig, symbols := n, fired := trig == 0 }
      let d1 := setRecord r 1 { addJob c d with snapshots := bankPut none d.snapshots r (some x) }
      let d2 := if kind = 0 then d1 else setCapture p holdSnapshot (preemptBackground p d1)
      .accept [byteOf r] (if t = 0 then d2 else arm tkSnapArm r (t * nsPerMs) d2)

/-- R216: the data of a STATE snapshot. -/
def stateData (d : Dev) (p : Nat) : List Byte :=
  let load := loadingTable fun t => if bitOf (attr d PORT_RETIRED_RX p) (blockOf t) then 0 else loadOf (block d PORT_LOADING_RX p) t
  let margins := (List.range 512).map fun t =>
    match (port d p).rx.toneEvr.find? fun x => x.1 == t with
    | some x => byteOf (unsignedOf 8 (evrLevel 40 x.2 (-128) 255))
    | none => 0x80#8
  let counters := ((catalogue.filter fun a => a.cls == clsPort && decide (0x310 ≤ a.id) && decide (a.id ≤ 0x31D)).mergeSort fun a b => decide (a.id ≤ b.id)).flatMap
    fun a => toLE (attr d a p) 4
  block d PORT_SNR_RX p ++ load ++ margins ++ counters ++ toLE (attr d PORT_RS_SYMBOLS_CORRECTED p) 4 ++ toLE (attr d PORT_DATA_SYMBOLS_RX p) 4
    ++ [byteOf (attr d PORT_LQ_RX p), byteOf (attr d PORT_LQ_RX_AVG p)] ++ toLE (attr d PORT_MARGIN_RX p) 2

/-- R216: bytes of data of a kind. -/
def snapshotBytes (d : Dev) (x : Snapshot) : Nat :=
  match x.kind with
  | 0 => 1348
  | 1 => 2048 * x.symbols
  | _ => 2 * (16 * attr d PRISM_SYMBOL_PERIOD (prismOf x.port)) * x.symbols

/-- R215: the header of a record: when and in which superframe the first captured symbol began. -/
def snapshotHeader (d : Dev) (x : Snapshot) (time sf bytes : Nat) : List Byte :=
  let p := x.port
  [byteOf p, byteOf x.kind, byteOf x.trigger, byteOf x.symbols] ++ toLE (time % 2 ^ 48) 6
    ++ [byteOf sf, byteOf (attr d PRISM_PREFIX (prismOf p)), byteOf (attr d PORT_STATE p), byteOf x.job.master]
    ++ toLE (attr d PORT_BITS_RX p) 2 ++ toLE (attr d PORT_LOADING_GEN p) 4 ++ toLE (attr d PORT_RETIRED_RX p) 4
    ++ toLE (attr d PORT_COUNTER_EPOCH p) 4 ++ toLE bytes 2 ++ List.replicate 226 0#8

/-- R216: tone data with tones 0 to 3 and masked tones 0. -/
def toneData (mask : List Byte) (l : List Byte) : List Byte :=
  l.zipIdx.map fun x => let t := x.2 % 2048 / 4; if t < 4 ∨ maskBit mask 0 t = true then 0#8 else x.1

/-- R213: a record captured: the captured tones or samples are what the receiver holds, a STATE record is read out. -/
def captureSnapshot (r time sf : Nat) (data : List Byte) (d : Dev) : Dev :=
  match snapshotOf d r with
  | none => d
  | some x =>
    if x.fired = false ∨ (x.kind = 0 ∧ (x.due = false ∨ atBoundary d (prismOf x.port) = false)) then d
    else
      let n := snapshotBytes d x
      let body := if x.kind = 0 then stateData d x.port else if x.kind = 1 then toneData (port d x.port).rx.maskNow (fitBytes data n) else fitBytes data n
      let when := if x.kind = 0 then d.devTime else time
      let count := if x.kind = 0 then attr d PRISM_SF_COUNT (prismOf x.port) % 256 else sf
      endSnapshot r stOk 0 2 (setBlock DEVICE_SNAP_DATA r (snapshotHeader d x when count n ++ body) d)

/-- R214: bits written to DEVICE.SNAP_READY. -/
def freeRecords (v : Nat) (d : Dev) : Dev :=
  forAll ((List.range 8).filter (bitOf v)) (fun r e =>
    match snapshotOf e r with
    | some _ => endSnapshot r stAborted endHost 0 e
    | none => setRecord r 0 e) d

/-! ### Cable scans (R217 to R222) -/

/-- The first 32 bytes of SCAN_RESULT (R222). -/
def scanHeader (status cause features flags time velocity loss noise symbols : Nat) : List Byte :=
  [byteOf status, byteOf cause, byteOf features, byteOf flags] ++ toLE (time % 2 ^ 48) 6 ++ toLE velocity 2 ++ toLE loss 2 ++ toLE noise 2 ++ toLE symbols 4
    ++ List.replicate 12 0#8

/-- R222: SCAN_RESULT of a scan that ends without a result. -/
def scanBlank (d : Dev) (p status cause : Nat) : List Byte :=
  scanHeader status cause 0 0 d.devTime (attr d PORT_SCAN_VELOCITY p) (attr d PORT_SCAN_LOSS p) 0 0

/-- R211, R218: a scan is over: claims and ramp given back; neighbours treat it as a drop of the port (R85). -/
def finishScan (p status cause : Nat) (d : Dev) : Dev :=
  match (port d p).scan with
  | none => d
  | some x =>
    let d1 := modPort p (fun y => { y with scan := none }) d
    let d2 := if captureHolder d1 p = holdScan then setCapture p 0 d1 else d1
    let d3 := if txHolder d2 p = holdScan then setTx p 0 d2 else d2
    let d4 := match x.step with
      | .ramp => holdCoefficients p (cancelRamp p d3)
      | .correlating => holdCoefficients p d3
      | .waitRamp => cancelRamp p d3
      | _ => d3
    complete x.job clsPort p evCableScanDone status [byteOf p, byteOf cause, 0#8, 0#8] (disarm tkScanListen p (disarm tkScan p d4))

/-- R211: a scan ended before its result. -/
def abortScan (p cause : Nat) (d : Dev) : Dev :=
  if (port d p).scan.isSome then finishScan p stAborted cause (setBlock PORT_SCAN_RESULT p (scanBlank d p stAborted cause) d) else d

/-- R217: CABLE_SCAN. -/
def bodyCableScan : Body := fun _ c d =>
  let p := byteAt c.params 0
  let n := byteAt c.params 1
  let st := attr d PORT_STATE p
  need (decide (p ≤ 127) && (n == 0 || (decide (4 ≤ n) && decide (n ≤ 64))) && reservedZero c.params 2 2) stOutOfRange <|
  need ((st == psDown || st == psListen || st == psQuiet) && pathOn d p && !captureFailed d p) stPrecondition <|
  if st = psQuiet then .refuse stConflict (claimConflict d p 0 holdRefresh)
  else if claimHeld (txHolder d p) then .refuse stConflict (claimConflict d p 0 (txHolder d p))
  else if claimHeld (captureHolder d p) then .refuse stConflict (claimConflict d p 1 (captureHolder d p))
  else
    let x : Scan := { job := callRef c, length := if n = 0 then 16 else n, step := .listening, noise := 0, since := d.elapsed }
    let d1 := setTx p holdScan (setCapture p holdScan (modPort p (fun y => { y with scan := some x }) (preemptBackground p (addJob c d))))
    .accept [] (arm tkScanListen p (20 * nsPerUs) (setBlock PORT_SCAN_RESULT p (scanBlank d p 1 0) d1))

/-- R218: a scan moved to another step. -/
def setScan (p : Nat) (f : Scan → Scan) (d : Dev) : Dev := modPort p (fun y => { y with scan := y.scan.map f }) d

/-- R218 step 3: the scan symbols of one slot, from the generator seeded with 0x5000 + p: their labels on loadable tones. -/
def scanSeed (p : Nat) : Nat := 0x5000 + p

/-- R218: the scan of a port, where it stands at a step. -/
def scanAt (d : Dev) (p : Nat) (st : ScanStep) : Bool :=
  match (port d p).scan with
  | some x => x.step == st
  | none => false

/-- R220: one reflection at the pins: its round-trip delay (ps), its raw level (0.1 dB) and whether it has the polarity of the incident
wave. -/
structure Reflection where
  roundTrip : Nat
  raw : Int
  same : Bool
  deriving DecidableEq, Repr

/-- R220: a feature: its round-trip delay (ps), its raw level (0.1 dB) and its KIND. -/
structure Feature where
  roundTrip : Nat
  raw : Int
  kind : Nat
  deriving DecidableEq, Repr

/-- R222: the distance of a feature, mm: ps × 0.1 mm/ns / 2. -/
def featureDistance (velocity roundTrip : Nat) : Nat := roundTrip * velocity / 20000

/-- R220: the corrected reflection: two-way loss over the distance added back, to the nearest 0.1 dB as in the worked example of the
chapter. -/
def correctedLevel (loss dist : Nat) (raw : Int) : Int := raw + (((2 * loss * dist + 50000) / 100000 : Nat) : Int)

/-- R222: a feature record. -/
def featureBytes (velocity loss : Nat) (f : Feature) : List Byte :=
  let dist := featureDistance velocity f.roundTrip
  toLE f.roundTrip 4 ++ toLE dist 4 ++ toLE (unsignedOf 16 (correctedLevel loss dist f.raw)) 2 ++ toLE (unsignedOf 16 f.raw) 2 ++ [byteOf f.kind, 0#8]

/-- R220: a reflection corrected at its own distance. -/
def levelAt (velocity loss : Nat) (x : Reflection) : Int := correctedLevel loss (featureDistance velocity x.roundTrip) x.raw

/-- R220: two reflections that make a COUPLER. -/
def couples (velocity loss : Nat) (threshold : Int) (x y : Reflection) : Bool :=
  let apart := featureDistance velocity (y.roundTrip - x.roundTrip)
  let fits := fun z => decide (threshold ≤ levelAt velocity loss z) && decide (levelAt velocity loss z ≤ -60)
  x.same != y.same && decide (10 ≤ apart) && decide (apart ≤ 80) && fits x && fits y

/-- R220: the kind of one reflection; 0 for none. -/
def kindOf (threshold level : Int) (same : Bool) : Nat :=
  if -30 ≤ level then (if same then 1 else 2) else if threshold ≤ level then (if same then 4 else 5) else 0

/-- R220: the features of the reflections, nearest first: of two that make a COUPLER their midpoint with the stronger level. DEDUCED
(assumption 114): a reflection pairs with the nearest one behind it that it can. `n` bounds the reflections. -/
def featuresOf (velocity loss : Nat) (threshold : Int) : Nat → List Reflection → List Feature
  | 0, _ => []
  | _, [] => []
  | n + 1, x :: r =>
    match r.find? (couples velocity loss threshold x) with
    | some y => ⟨(x.roundTrip + y.roundTrip) / 2, max x.raw y.raw, 3⟩ :: featuresOf velocity loss threshold n (r.erase y)
    | none => ⟨x.roundTrip, x.raw, kindOf threshold (levelAt velocity loss x) x.same⟩ :: featuresOf velocity loss threshold n r

/-- R220: the features reported: nearest first, each 10 dB above the noise floor, none beyond an OPEN or a SHORT, and whether one of
those ends the view. -/
def reported (velocity loss : Nat) (threshold noise : Int) (xs : List Reflection) : List Feature × Bool :=
  let ordered := xs.mergeSort fun a b => decide (a.roundTrip ≤ b.roundTrip)
  let near := ((featuresOf velocity loss threshold xs.length ordered).filter fun f => decide (f.kind ≠ 0) && decide (noise + 100 ≤ f.raw)).mergeSort
    fun a b => decide (a.roundTrip ≤ b.roundTrip)
  match near.findIdx? fun f => f.kind == 1 || f.kind == 2 with
  | some i => (near.take (i + 1), true)
  | none => (near, false)

/-- R222: SCAN_PROFILE: of each quarter metre the strongest raw reflection, in half decibels below the incident wave; 0xFF below the noise
floor. -/
def scanProfile (velocity : Nat) (noise : Int) (xs : List Reflection) : List Byte :=
  let found := xs.filter fun x => decide (noise ≤ x.raw) && decide (featureDistance velocity x.roundTrip < 384000)
  (List.range 1536).map fun n =>
    match ((found.filter fun x => featureDistance velocity x.roundTrip / 250 == n).map (·.raw)).max? with
    | some v => byteOf (min 0xFE ((-v).toNat / 5))
    | none => 0xFF#8

/-- R222: the result and the profile of a scan, from the reflections found. -/
def scanResult (p : Nat) (x : Scan) (xs : List Reflection) (d : Dev) : Dev :=
  let v := attr d PORT_SCAN_VELOCITY p
  let l := attr d PORT_SCAN_LOSS p
  let (rs, cut) := reported v l (attrInt d PORT_SCAN_THRESHOLD p) x.noise xs
  let out := rs.take 16
  let cutShown := cut && decide (rs.length ≤ 16)
  let bytes := scanHeader 0 0 out.length (bitNat cutShown + 2 * bitNat (decide (16 < rs.length))) d.devTime v l (unsignedOf 16 x.noise) (1024 * x.length)
    ++ out.flatMap (featureBytes v l)
  setBlock PORT_SCAN_PROFILE p (scanProfile v x.noise xs) (setBlock PORT_SCAN_RESULT p bytes d)

/-! ### Rows -/

/-- R212: the SNAPSHOT row. -/
def execSnapshot (r : Req) (s : State) : Out := issueOut 0x91 bodySnapshot r s

/-- R213: the SNAPSHOT_TRIGGER row of a record: the time and superframe count of the first captured symbol, and the captured
tone values or samples in the layout of R216. -/
def execSnapshotTrigger (r : Fin 8) (time : Nat) (sf : Byte) (data : List Byte) (s : State) : Out :=
  onDev (captureSnapshot r time sf.toNat data) s

/-- R213: the SNAPSHOT_ARM_TIMEOUT row of a record. -/
def execSnapshotArmTimeout (r : Fin 8) (s : State) : Out := onDev (onExpiry tkSnapArm r fun d => if (snapshotOf d r).any (·.fired) then d else endSnapshot r stTimeout 0 0 d) s

/-- R217: the CABLE_SCAN row. -/
def execCableScan (r : Req) (s : State) : Out := issueOut 0x90 bodyCableScan r s

/-- R218 step 1: the CABLE_SCAN_LISTEN_END row: the noise floor relative to the incident level, 0.1 dB. -/
def execCableScanListenEnd (p : Fin 128) (noise : Int) (s : State) : Out :=
  onDev (onExpiry tkScanListen p fun d =>
    modPrism (prismOf p) (fun x => { x with rampQueue := x.rampQueue ++ [p.val] }) (setScan p (fun x => { x with noise := noise, step := .waitRamp }) d)) s

/-- R218: whether a scan's turn to transmit has come: the prism ramps no port, none waits ahead of it, and a superframe begins. -/
def scanTurn (d : Dev) (p : Nat) : Bool :=
  scanAt d p .waitRamp && attr d PRISM_ADMISSION_PORT (prismOf p) == 0xFF && (prism d (prismOf p)).rampQueue.head? == some p && atBoundary d (prismOf p)

/-- R218 steps 2 and 3: the CABLE_SCAN_START_TX row. -/
def execCableScanStartTx (p : Fin 128) (s : State) : Out :=
  onDev (fun d => if scanTurn d p then
      startRamp p (modPrism (prismOf p) (fun x => { x with rampQueue := x.rampQueue.tail }) (setScan p (fun x => { x with step := .ramp })
        (modTx p (fun x => { x with pilotGen := scanSeed p }) d)))
    else d) s

/-- R218 step 4: the CABLE_SCAN_CORRELATION_END row. -/
def execCableScanCorrelationEnd (p : Fin 128) (s : State) : Out :=
  onDev (onExpiry tkScan p fun d =>
    if scanAt d p .correlating then holdCoefficients p (setTx p 0 (setScan p (fun x => { x with step := .analysing }) d)) else d) s

/-- R218 step 5, R222: the CABLE_SCAN_ANALYSIS_DONE row: the reflections found, by delay and raw level, of the
incident polarity and of the opposite one. -/
def execCableScanAnalysisDone (p : Fin 128) (same opposite : List (Nat × Int)) (s : State) : Out :=
  onDev (fun d =>
    match (port d p).scan with
    | some x =>
      if x.step = .analysing then
        bump PORT_SCAN_COUNT p 1 (finishScan p stOk 0 (scanResult p x ((same.map fun f => ⟨f.1, f.2, true⟩) ++ opposite.map fun f => ⟨f.1, f.2, false⟩) d))
      else d
    | none => d) s

/-- R219: the CABLE_SCAN_PARTNER_ENERGY row. -/
def execCableScanPartnerEnergy (p : Fin 128) (s : State) : Out :=
  onDev (fun d => if scanAt d p .ramp || scanAt d p .correlating || scanAt d p .listening || scanAt d p .waitRamp then abortScan p endPartnerEnergy d else d) s

/-- R211: the DIAGNOSTIC_PREEMPT row: a claimant of rank 1 needs the transmitter (false) or the capture buffer (true). -/
def execDiagnosticPreempt (p : Fin 128) (capture : Bool) (s : State) : Out :=
  onDev (fun d =>
    let d1 := if capture then abortSnapshots p endPreempted (fun x => x.kind != 0) d else d
    abortScan p endPreempted d1) s

end Sys2Proof.Machine
end

