-- ==== Sys2Proof/Machine/Hub.lean ====
section
/-! DEFINITION. Machine/Hub.lean: the hub and its flows (R265 to R298): rounds, stores, the flow commands, failover and the moves
of R15, R166 and R288. -/

namespace Sys2Proof.Machine

/-! ### Release into the stores (R279, R288) -/

/-- R288: the groups that take a TO_HOST frame that begins now. -/
def activeGroups (d : Dev) (f : Nat) : List Nat :=
  let alive := fun g => decide (g < 8) && hasPath d g
  match flowMap d f 2 with
  | 0 => [flowMap d f 0].filter alive
  | 1 => [flowMap d f 0, flowMap d f 1].filter alive
  | _ => [attr d FLOW_ACTIVE_HOST f].filter alive

/-- R268: the frame bytes a first unit announces, its metadata included. -/
def announced (u : HubUnit) : Nat := ofBE (u.data.take 2) + 16

/-- R297: GROUP.EGRESS_FILL after a change of a store. -/
def refreshFill (g : Nat) (d : Dev) : Dev := if g < 8 then setAttr GROUP_EGRESS_FILL g (storeFill (link d g).store) d else d

/-- A unit put into the store of a host TX group. -/
def storeUnit (g : Nat) (u : HubUnit) (d : Dev) : Dev := refreshFill g (linkPush g [{ u with era := (flow d u.flow).hostEra }] d)

/-- R279: bytes still to come of the frames that a host TX group's store has admitted. -/
def stillComing (d : Dev) (g : Nat) : Nat := ((d.flows.filter fun x => x.2.dest.contains g).map fun x => x.2.left).sum

/-- R279: whether the store of a host TX group has room for a whole frame. -/
def hasRoom (d : Dev) (g total : Nat) : Bool := decide (storeFill (link d g).store + stillComing d g + total ≤ 1048576)

/-- R279: the groups whose store has room for a frame; at each other one the frame is a DROP_EGRESS_TX. -/
def admitGroups (f total : Nat) : List Nat → Dev → List Nat × Dev
  | [], d => ([], d)
  | g :: r, d =>
    if hasRoom d g total then
      let (l, d') := admitGroups f total r d
      (g :: l, d')
    else admitGroups f total r (bump FLOW_DROP_EGRESS_TX f 1 d)

/-- The stores that hold a unit's frame take the unit; the first of them counts the delivery. -/
def storeAll (u : HubUnit) : List Nat → Dev → Dev
  | [], d => d
  | g :: r, d => forAll r (fun h => storeUnit h { u with counted := false }) (storeUnit g { u with counted := true } d)

/-- R279, R288: a TO_HOST unit released. -/
def releaseToHost (u : HubUnit) (d : Dev) : Dev :=
  let f := u.flow
  if isReport u then forAll ((activeGroups d f).filter fun g => hasRoom d g 16) (fun g => storeUnit g { u with counted := false }) d
  else if u.first then
    let d0 := modFlow f (fun x => { x with dest := [], left := if u.last then 0 else announced u - u.data.length }) d
    match activeGroups d0 f with
    | [] => bump FLOW_DROP_NO_PATH f 1 d0
    | gs =>
      let (l, d1) := admitGroups f (announced u) gs d0
      storeAll u l (modFlow f (fun x => { x with dest := l }) d1)
  else storeAll u (flow d f).dest (modFlow f (fun x => { x with left := if u.last then 0 else x.left - u.data.length }) d)

/-- R298: PORT.EGRESS_FILL after a change of a port's stores. -/
def refreshEgress (p : Nat) (d : Dev) : Dev :=
  setAttr PORT_EGRESS_FILL p (((egressOf d p).map fun e => e.bytes.length).sum + ((port d p).store.map fun x => x.bytes.length).sum) d

/-- A port's store in hub SRAM written. -/
def setEgress (p : Nat) (l : List EgressFrame) (d : Dev) : Dev := refreshEgress p { d with egress := bankPut [] d.egress p l }

/-- R279: bytes of a port's store that are spoken for. -/
def egressReserved (d : Dev) (p : Nat) : Nat := ((egressOf d p).map (·.total)).sum + ((port d p).store.map fun x => x.bytes.length).sum

/-- A FROM_HOST frame dropped with its flow's counter, its timestamp request answered (R276). -/
def dropFromHost (counter : Attr) (f tsKind tag : Nat) (d : Dev) : Dev := reportDropped f tsKind tag (bump counter f 1 d)

/-- R279, R295: a first FROM_HOST unit released into its port's store. -/
def openEgress (u : HubUnit) (d : Dev) : Dev :=
  let f := u.flow
  let p := flowPort d f
  let len := ofBE (u.data.take 2)
  let kind := byteAt u.data 2 / 64
  let tag := byteAt u.data 3
  let lost := fun c => dropFromHost c f kind tag (modFlow f (fun x => { x with discardRx := true }) d)
  if attr d PORT_STATE p = psDown then lost FLOW_DROP_NO_PATH
  else if 65536 < egressReserved d p + len then lost FLOW_DROP_EGRESS_RX
  else
    setEgress p (egressOf d p ++ [⟨f, attr d FLOW_CLASS f, len, kind, tag, u.data.drop 16, false⟩])
      (modFlow f (fun x => { x with discardRx := false }) d)

/-- R272: a whole FROM_HOST frame checked in the store. -/
def closeEgress (f p : Nat) (d : Dev) : Dev :=
  match (egressOf d p).find? fun e => e.flow == f && !e.whole with
  | none => d
  | some e =>
    if e.bytes.length = e.total ∧ fcsGood e.bytes then
      setEgress p ((egressOf d p).map fun x => if x.flow == f && !x.whole then { x with whole := true } else x) d
    else dropFromHost FLOW_DROP_FORMAT f e.tsKind e.tsTag (setEgress p ((egressOf d p).filter fun x => !(x.flow == f && !x.whole)) d)

/-- R272, R276: a FROM_HOST frame of which the store holds a part is dropped, its units to come with it. -/
def dropPartial (f : Nat) (drop : EgressFrame → Dev → Dev) (d : Dev) : Dev :=
  let p := flowPort d f
  match (egressOf d p).find? fun e => e.flow == f && !e.whole with
  | none => d
  | some e => drop e (setEgress p ((egressOf d p).filter fun x => !(x.flow == f && !x.whole)) (modFlow f (fun x => { x with discardRx := true }) d))

/-- A FROM_HOST unit added to its frame in the store of its port; a frame that outgrows FRAME_LEN is dropped at once (R272). -/
def extendEgress (u : HubUnit) (d : Dev) : Dev :=
  let f := u.flow
  let p := flowPort d f
  match (egressOf d p).find? fun e => e.flow == f && !e.whole with
  | none => d
  | some e =>
    if e.total < e.bytes.length + u.data.length then dropPartial f (fun x => dropFromHost FLOW_DROP_FORMAT f x.tsKind x.tsTag) d
    else setEgress p ((egressOf d p).map fun x => if x.flow == f && !x.whole then { x with bytes := x.bytes ++ u.data } else x) d

/-- R279: a FROM_HOST unit released. -/
def releaseFromHost (u : HubUnit) (d : Dev) : Dev :=
  let f := u.flow
  let d1 := if u.first then openEgress u d else if (flow d f).discardRx then d else extendEgress u d
  if u.last ∧ (flow d1 f).discardRx = false then closeEgress f (flowPort d f) d1 else d1

/-- R278: a unit accepted in the last round is released. -/
def releaseUnit (u : HubUnit) (d : Dev) : Dev := if u.src < 128 then releaseToHost u d else releaseFromHost u d

/-! ### Acceptance (R273, R278) -/

/-- R273: a TO_HOST unit accepted: FSEQ and GAP for a first one; a frame of a flow that is not OPEN is unmapped. -/
def acceptToHost (u : HubUnit) (d : Dev) : Dev :=
  let f := u.flow
  let keep := fun v e => { e with accepted := e.accepted ++ [v] }
  if u.first then
    if isReport u then keep u d
    else if attr d FLOW_STATE f = 1 then
      let x := flow d f
      keep { u with data := stampSequence u.data x.gap x.fseq }
        (modFlow f (fun y => { y with fseq := (y.fseq + 1) % 65536, gap := false, discard := false }) d)
    else bump PORT_UNMAPPED_DROPS u.src 1 (modFlow f (fun y => { y with discard := true }) d)
  else if (flow d f).discard then d else keep u d

/-- R278: a unit accepted in its source's slot. -/
def acceptUnit (u : HubUnit) (d : Dev) : Dev :=
  if u.src < 128 then acceptToHost u d else { d with accepted := d.accepted ++ [u] }

/-- R280: the counter of a source's missed slots. -/
def countMissed (s : Nat) (d : Dev) : Dev := if s < 128 then bump PORT_MISSED_SLOTS s 1 d else bump GROUP_MISSED_SLOTS (s - 120) 1 d

/-- R278, R280: one source's slot; `missed` says that its handshake did not complete in its window. -/
def sourceSlot (missed : Bool) (s : Nat) (d : Dev) : Dev :=
  let x := source d s
  if x.queue = [] then modSource s (fun y => { y with stalled := 0, handled := false }) d
  else if missed then countMissed s (modSource s (fun y => { y with missed := y.missed + 1, stalled := y.stalled + 1 }) d)
  else
    let n := if s < 128 then 4 else 32
    (x.queue.take n).foldl (fun e u => acceptUnit u e) (modSource s (fun y => { y with queue := y.queue.drop n, stalled := 0, handled := false }) d)

/-- The sources with something to hand over, ascending. -/
def busySources (d : Dev) : List Nat := d.sources.map (·.1)

/-- R278: one hub round: last round's units are released, and each source has its slot. -/
def hubRound (missed : List Nat) (d : Dev) : Dev :=
  let d1 := d.accepted.foldl (fun e u => releaseUnit u e) { d with accepted := [] }
  forAll (busySources d) (fun s => sourceSlot (missed.contains s) s) d1

/-! ### Units off a row (R270, R272) -/

/-- R270, R282: a unit received by a group goes to the elastic buffer of its source. One of a flow that is FREE has been counted when the flow
was closed (R293). -/
def toSource (g : Nat) (u : HubUnit) (d : Dev) : Dev :=
  let s := if g < 16 then 120 + g else flowPort d u.flow
  if attr d FLOW_STATE u.flow = 0 then d else modSource s (fun x => { x with queue := x.queue ++ [{ u with src := s }] }) d

/-- A list, from its last unit back, without what it holds of a frame not ended; and that frame's first unit, where it is there. -/
def cutBack (mine : HubUnit → Bool) : List HubUnit → List HubUnit × Option HubUnit
  | [] => ([], none)
  | u :: r =>
    if mine u = false then let (l, x) := cutBack mine r; (u :: l, x)
    else if u.last then (u :: r, none)
    else if u.first then (r, some u)
    else cutBack mine r

/-- A list without what it holds of a frame not ended; and that frame's first unit, where it is there. -/
def cutOpen (mine : HubUnit → Bool) (us : List HubUnit) : List HubUnit × Option HubUnit :=
  let (l, x) := cutBack mine us.reverse
  (l.reverse, x)

/-- The open frame of a flow taken out of a source's buffer and out of the hub's round; its first unit, where it was in the buffer, and where
it was in the round. -/
def cutCrossing (s f : Nat) (d : Dev) : Option HubUnit × Option HubUnit × Dev :=
  let mine := fun (u : HubUnit) => u.flow == f && decide (u.src < 128) == decide (s < 128)
  let (q, x) := cutOpen mine (source d s).queue
  let d1 := modSource s (fun y => { y with queue := q }) d
  if x.isSome then (x, none, d1)
  else
    let (a, y) := cutOpen mine d1.accepted
    (none, y, { d1 with accepted := a })

/-- R270, R276: an open FROM_HOST frame discarded. -/
def discardFromHost (s f : Nat) (d : Dev) : Dev :=
  match cutCrossing s f d with
  | (some u, _, d1) => unitDropped u d1
  | (none, some u, d1) => unitDropped u d1
  | (none, none, d1) => if (flow d1 f).discardRx then d1 else dropPartial f (fun e => reportDropped f e.tsKind e.tsTag) d1

/-- R270, R273: an open TO_HOST frame discarded, with what the stores hold of it; one not yet accepted sets GAP. -/
def discardToHost (s f : Nat) (d : Dev) : Dev :=
  match cutCrossing s f d with
  | (some _, _, d1) => modFlow f (fun x => { x with gap := true }) d1
  | (none, y, d1) =>
    let gs := if y.isSome then [] else (flow d1 f).dest
    modFlow f (fun x => { x with dest := [], left := 0, discard := true })
      (forAll gs (fun g e => refreshFill g (modLink g (fun x => { x with store := (cutOpen (fun u => u.flow == f) x.store).1 }) e)) d1)

/-- R270, R276: a frame that has come to the line die in part discarded. -/
def discardLine (f : Nat) (d : Dev) : Dev :=
  let p := flowPort d f
  match (port d p).store.find? fun e => e.flow == f && e.arriving with
  | none => d
  | some e =>
    refreshEgress p (modPort p (fun x => { x with store := x.store.filter fun y => !(y.flow == f && y.arriving) })
      (reportDropped f (if e.tag.isSome then 2 else 0) (e.tag.getD 0) d))

/-- The flow has no open frame on a receiving group any more. -/
def closeFlow (g f : Nat) (d : Dev) : Dev := modLink g (fun x => { x with openFlows := x.openFlows.filter (· != f) }) d

/-- R270: the open frame of a flow on a receiving group discarded, wherever parts of it have come to. -/
def discardOpen (g f : Nat) (d : Dev) : Dev :=
  if (link d g).openFlows.contains f = false then d
  else if g < 16 then discardFromHost (120 + g) f (closeFlow g f d)
  else if (g - 16) % 8 < 4 then discardToHost (flowPort d f) f (closeFlow g f d)
  else discardLine f (closeFlow g f d)

/-- R270, R295: a FIRST unit discards the open frame it finds, counted in GROUP.UNIT_ERRORS. -/
def replaceOpen (g f : Nat) (d : Dev) : Dev :=
  if (link d g).openFlows.contains f then bump GROUP_UNIT_ERRORS g 1 (discardOpen g f d) else d

/-- R270: a unit passed on: the first of its frame, or one of a frame that is open. -/
def passUnit (g : Nat) (u : HubUnit) (pass : Dev → Dev) (d : Dev) : Dev :=
  if u.first then pass (if u.last then d else modLink g (fun x => { x with openFlows := x.openFlows ++ [u.flow] }) d)
  else if (link d g).openFlows.contains u.flow then pass (if u.last then closeFlow g u.flow d else d)
  else d

/-- R272: the check of a first FROM_HOST unit: the counter it fails in, if any. A change of FROM_HOST takes effect once the frame open on the
old group has ended (R292). -/
def firstCheck (d : Dev) (g : Nat) (u : HubUnit) : Option Nat :=
  let elsewhere := ((List.range 8).map (8 + ·)).any fun o => o != g && (link d o).openFlows.contains u.flow
  if attr d FLOW_STATE u.flow ≠ 1 ∨ flowMap d u.flow 3 + 8 ≠ g ∨ elsewhere = true then some 0
  else
    let len := ofBE (u.data.take 2)
    let kind := byteAt u.data 2 / 64
    if len < 64 ∨ 9216 < len ∨ kind = 1 ∨ kind = 3 then some 1 else none

/-- R272: a unit received on a host RX group. -/
def hostUnit (g : Nat) (u : HubUnit) (d : Dev) : Dev :=
  if u.first then
    let d0 := replaceOpen g u.flow d
    match firstCheck d0 g u with
    | some 0 => bump GROUP_UNKNOWN_FLOW g 1 (if attr d0 FLOW_STATE u.flow = 1 then unitDropped u d0 else d0)
    | some _ => unitDropped u (bump FLOW_DROP_FORMAT u.flow 1 d0)
    | none => passUnit g u (toSource g u) d0
  else passUnit g u (toSource g u) d

/-- R276, R296: a frame sent on the pair of a port in LEGACY. -/
def legacySent (p : Nat) (d : Dev) (x : LineFrame) : Dev :=
  let d1 := bump FLOW_FRAMES_FROM_HOST x.flow 1 d
  match x.tag with
  | some t => if bitOf (attr d FLOW_FLAGS x.flow) 1 then sendReport x.flow 2 t (trimmed d.devTime (attrInt d PORT_TS_TRIM p)) d1 else d1
  | none => d1

/-- R295: a port in LEGACY sends at once the frames that are wholly at the line die. -/
def flushLegacy (p : Nat) (d : Dev) : Dev :=
  if attr d PORT_STATE p ≠ psLegacy then d
  else
    let out := (port d p).store.filter fun x => !x.arriving
    refreshEgress p (out.foldl (legacySent p) (modPort p (fun x => { x with store := x.store.filter (·.arriving) }) d))

/-- R270: the line die's store takes a unit: a new frame, or more of one that is arriving; a whole one is sent at once in LEGACY. -/
def lineTake (u : HubUnit) (d : Dev) : Dev :=
  let f := u.flow
  let p := flowPort d f
  let kind := byteAt u.data 2 / 64
  let grown := fun (e : LineFrame) => if e.flow == f && e.arriving then { e with bytes := e.bytes ++ u.data, arriving := !u.last } else e
  let d1 :=
    if u.first then
      modPort p (fun x => { x with store := x.store ++
        [⟨f, attr d FLOW_CLASS f, u.data.drop 16, 0, !u.last, if kind = 2 then some (byteAt u.data 3) else none⟩] }) d
    else modPort p (fun x => { x with store := x.store.map grown }) d
  flushLegacy p (refreshEgress p d1)

/-- R270, R295: a unit received at the line-die end of an inner RX group; a frame for a port in DOWN has no path. -/
def lineUnit (g : Nat) (u : HubUnit) (d : Dev) : Dev :=
  if u.first then
    let d0 := replaceOpen g u.flow d
    if attr d0 FLOW_STATE u.flow = 0 then d0
    else if attr d0 PORT_STATE (flowPort d0 u.flow) = psDown then unitDropped u (bump FLOW_DROP_NO_PATH u.flow 1 d0)
    else passUnit g u (lineTake u) d0
  else passUnit g u (lineTake u) d

/-- A unit accepted by the receiver of a group. -/
def receivedUnit (g : Nat) (u : HubUnit) (d : Dev) : Dev :=
  if g < 16 then hostUnit g u d
  else if (g - 16) % 8 < 4 then passUnit g u (toSource g u) (if u.first then replaceOpen g u.flow d else d)
  else lineUnit g u d

/-- R252, R295: the frames open on a group that goes DOWN are discarded; those of a host RX group count against their flows as lost with
the rows, those of an inner group do where they are sent. -/
def closeReceived (g : Nat) (d : Dev) : Dev :=
  forAll (link d g).openFlows (fun f e => discardOpen g f (if g < 16 then bump FLOW_DROP_LINK f 1 e else e)) d

/-- R270: the units of a row's payload, and whether the walk ended in an error. -/
def parseUnits : Nat → List Byte → List HubUnit × Bool
  | 0, _ => ([], false)
  | n + 1, bs =>
    if bs.length < 4 ∨ byteAt bs 0 = 0 then ([], false)
    else
      let h := ofBE (bs.take 4)
      let len := fieldOf h 17 8 + 1
      if crc8 ((bitsMsb h 32).take 24) ≠ h % 256 ∨ bs.length < 4 + len then ([], true)
      else
        let (us, e) := parseUnits n (bs.drop (4 + len))
        (⟨fieldOf h 28 19, bitOf h 30, bitOf h 29, (bs.drop 4).take len, 0, false, 0⟩ :: us, e)

/-- R270: a DATA row's payload: its units, and on an error the open frames of every flow the row touched discarded. -/
def receivePayload (g : Nat) (payload : List Byte) (d : Dev) : Dev :=
  let (us, bad) := parseUnits 160 payload
  let d1 := us.foldl (fun e u => receivedUnit g u e) d
  if bad then us.foldl (fun e u => discardOpen g u.flow e) (bump GROUP_UNIT_ERRORS g 1 d1) else d1

/-- R20, R282: whether the elastic buffer of a host RX group's source cannot take every unit of a row beside those that wait in it. DESIGN
CHOICE (assumption 118): an empty buffer passes a row on whatever its units, as R278 lets a group source hand over 32 in a slot. -/
def rowDeferred (d : Dev) (g : Nat) (payload : List Byte) : Bool :=
  let waiting := (source d (120 + g)).queue.length
  decide (0 < waiting) && decide (16 < waiting + (parseUnits 160 payload).1.length)

/-! ### Rows take units (R20, R270, R289) -/

/-- The groups that can carry a flow's units in the direction of a group: the host TX groups, or one direction of a die's inner pairs. -/
def besideGroups (g : Nat) : List Nat := if g < 8 then List.range 8 else if 16 ≤ g then (List.range 4).map (g / 4 * 4 + ·) else []

/-- R289, R15: whether a unit in a group's store must wait for those that its flow left on another group. -/
def unitHeld (d : Dev) (g : Nat) (u : HubUnit) : Bool :=
  let before := fun (v : HubUnit) => v.flow == u.flow && decide (v.era < u.era)
  (besideGroups g).any fun o =>
    o != g && hasPath d o && ((link d o).store.any before || (link d o).replay.any fun r => r.units.any before)

/-- The first `n` bytes of a unit as one unit, and the rest as another (a unit made for width 4 on a group at width 3). -/
def splitUnit (n : Nat) (u : HubUnit) : List HubUnit :=
  if u.data.length ≤ n then [u] else [{ u with data := u.data.take n, last := false }, { u with first := false, data := u.data.drop n }]

/-- Units that fit one row, in order: taken and left. -/
def takeUnits (room : Nat) : List HubUnit → List HubUnit × List HubUnit
  | [] => ([], [])
  | u :: r =>
    if u.data.length + 4 ≤ room then
      let (t, l) := takeUnits (room - (u.data.length + 4)) r
      (u :: t, l)
    else ([], u :: r)

/-- R20: units of which no more go to a source than its elastic buffer has places for, and the others. -/
def withinCredit (d : Dev) (left : Nat → Nat) : List HubUnit → List HubUnit × List HubUnit
  | [] => ([], [])
  | u :: r =>
    let s := flowPort d u.flow
    if 0 < left s then
      let (a, b) := withinCredit d (fun x => if x = s then left s - 1 else left x) r
      (u :: a, b)
    else
      let (a, b) := withinCredit d left r
      (a, u :: b)

/-- R20: places of a port source's elastic buffer that are neither taken nor spoken for by units on their way over an inner TX group. -/
def sourceRoom (d : Dev) (g s : Nat) : Nat :=
  let x := link d g
  let coming := (x.replay.filter fun r => decide (0 ≤ seqDiff 4096 r.seq x.rxNext)).flatMap fun r => r.units.filter fun u => flowPort d u.flow == s
  16 - ((source d s).queue.length + coming.length)

/-- R20, R289: the units of a group's store that may go into its next row, and the others: 16 at most pass from the hub to the serialiser,
and no more to a port source than its buffer takes. -/
def readyUnits (d : Dev) (g : Nat) (us : List HubUnit) : List HubUnit × List HubUnit :=
  let (held, ready) := us.partition (unitHeld d g)
  let (now, later) := if 16 ≤ g ∧ (g - 16) % 8 < 4 then withinCredit d (sourceRoom d g) ready else (ready.take 16, ready.drop 16)
  (now, later ++ held)

/-- R279: whole frames of the ports of a pair's die whose flows use the pair, as units for the inner RX group. -/
def egressUnits (d : Dev) (g : Nat) : List HubUnit × Dev :=
  let die := (g - 16) / 8
  let ps := (List.range 64).map (64 * die + ·)
  match ps.find? fun p => (egressOf d p).any fun e => e.whole && innerRx d e.flow == g with
  | none => ([], d)
  | some p =>
    let frames := (egressOf d p).filter fun e => e.whole && innerRx d e.flow == g
    match classOrder.findSome? fun c => frames.find? fun e => e.cls == c with
    | none => ([], d)
    | some e =>
      let us := unitsOf (attr d GROUP_WIDTH g) e.flow p (metadata e.bytes.length e.tsKind false e.tsTag 0 0 ++ e.bytes)
      (us.map fun u => { u with era := (flow d e.flow).innerEra }, setEgress p ((egressOf d p).erase e) d)

/-! ### Delivery, failover and draining (R287 to R289, R293) -/

/-- The frames that a list of units completes. -/
def framesEnded (us : List HubUnit) : List Nat := (us.filter fun u => u.last && u.counted).map (·.flow)

/-- Rows acknowledged: the frames they complete on a host TX group are delivered. -/
def deliverRows (g : Nat) (rows : List SentRow) (d : Dev) : Dev :=
  if g < 8 then (rows.flatMap fun r => framesEnded r.units).foldl (fun e f => bump FLOW_FRAMES_TO_HOST f 1 e) d else d

/-- R288, R289: the active group of a FAILOVER flow changes, with FLOW_FAILOVER. -/
def failTo (f g : Nat) (d : Dev) : Dev :=
  disarm tkFailover f (raise clsFlow f evFlowFailover g (modFlow f (fun x => { x with hostEra := x.hostEra + 1 }) (setAttr FLOW_ACTIVE_HOST f g d)))

/-- R288: the frames of a flow in a group's store dropped and counted. -/
def dropStored (g f : Nat) (d : Dev) : Dev :=
  let n := ((link d g).store.filter fun u => u.flow == f && u.first && u.counted).length
  refreshFill g (modLink g (fun x => { x with store := x.store.filter fun u => u.flow != f }) (bump FLOW_DROP_LINK f n d))

/-- R288: what a host TX group that goes DOWN does to one flow. A FAILOVER flow whose other group is DOWN too is active on none. -/
def flowLosesGroup (g f : Nat) (d : Dev) : Dev :=
  let d0 := modFlow f (fun x => { x with dest := x.dest.filter (· != g) }) d
  if flowMap d f 2 = 2 ∧ attr d FLOW_ACTIVE_HOST f = g then
    let other := if flowMap d f 0 = g then flowMap d f 1 else flowMap d f 0
    let d1 := dropStored g f d0
    if hasPath d other then failTo f other d1 else setAttr FLOW_ACTIVE_HOST f 0xFF d1
  else d0

/-- R288: whether a group is UP: it carries rows at full width, in L0s too. -/
def groupUp (d : Dev) (g : Nat) : Bool := groupCarries d g && attr d GROUP_WIDTH g == 4

/-- R288: the second without a break after which a flow on B returns to its group A. -/
def returnTimer (g f : Nat) (d : Dev) : Dev :=
  if flowMap d f 2 = 2 ∧ flowMap d f 0 = g ∧ attr d FLOW_ACTIVE_HOST f ≠ g then
    if groupUp d g = false then disarm tkFailover f d else if armed d tkFailover f then d else arm tkFailover f nsPerS d
  else d

/-- R288: what a host TX group that carries rows again does to one flow: a FAILOVER flow whose groups were both DOWN goes to
the one that comes first; one on B begins the second after which it returns to A. -/
def flowGainsGroup (g f : Nat) (d : Dev) : Dev :=
  let act := attr d FLOW_ACTIVE_HOST f
  if flowMap d f 2 = 2 ∧ act ≠ g ∧ (8 ≤ act ∨ hasPath d act = false) then failTo f g d else returnTimer g f d

/-- The flows with a host TX group in their map. -/
def flowsOnGroup (d : Dev) (g : Nat) : List Nat := (usedFlows d).filter fun f => g < 8 && (flowMap d f 0 == g || flowMap d f 1 == g)

/-- R287, R288: a host TX group has gone DOWN. -/
def hubGroupDown (g : Nat) (d : Dev) : Dev :=
  refreshCharges [] (forAll (flowsOnGroup d g) (fun f e => returnTimer g f (flowLosesGroup g f e)) d)

/-- R288: a host TX group carries rows. -/
def hubGroupUp (g : Nat) (d : Dev) : Dev := refreshCharges [] (forAll (flowsOnGroup d g) (flowGainsGroup g) d)

/-- R288: a host TX group has changed its width, or stopped carrying to train. -/
def hubGroupWidth (g : Nat) (d : Dev) : Dev := forAll (flowsOnGroup d g) (returnTimer g) d

/-- R288: A has been UP for a second. -/
def failoverReturn (f : Nat) (d : Dev) : Dev :=
  let a := flowMap d f 0
  if attr d FLOW_STATE f ≠ 0 ∧ flowMap d f 2 = 2 ∧ attr d FLOW_ACTIVE_HOST f ≠ a ∧ groupUp d a = true then
    refreshCharges [] (failTo f a d)
  else d

/-- R293: whether frames of a flow that the hub accepted are still held. -/
def flowHolds (d : Dev) (f : Nat) : Bool :=
  d.accepted.any (fun u => u.flow == f)
    || d.sources.any (fun x => decide (128 ≤ x.1) && x.2.queue.any fun u => u.flow == f)
    || d.links.any (fun x => (decide (x.1 < 16) || decide (4 ≤ (x.1 - 16) % 8))
        && (x.2.store.any (fun u => u.flow == f) || x.2.replay.any fun r => r.units.any fun u => u.flow == f))
    || d.egress.any (fun x => x.2.any fun e => e.flow == f)
    || d.ports.any (fun x => x.2.store.any fun e => e.flow == f)

/-- R293: TO_HOST frames of a flow that the hub has not accepted yet. -/
def notAccepted (d : Dev) (f : Nat) : Nat :=
  let x := link d (innerTx d f)
  let rows := (x.replay.filter fun r => decide (0 ≤ seqDiff 4096 r.seq x.rxNext)).flatMap (·.units)
  (((source d (flowPort d f)).queue ++ rows ++ x.store).filter fun u => u.flow == f && u.first && !isReport u).length

/-- Everything held of a flow discarded. -/
def purgeFlow (f : Nat) (d : Dev) : Dev :=
  let others := fun (us : List HubUnit) => us.filter fun u => u.flow != f
  let d1 := forAll (d.links.map (·.1)) (fun g e => refreshFill g (modLink g (fun x =>
    { x with store := others x.store, openFlows := x.openFlows.filter (· != f), partSent := x.partSent.filter (· != f),
             replay := x.replay.map fun r => { r with units := others r.units } }) e)) d
  let d2 := forAll (d1.egress.map (·.1)) (fun p e => setEgress p ((egressOf e p).filter fun x => x.flow != f) e) d1
  let d3 := forAll (d2.ports.map (·.1)) (fun p e =>
    if (port e p).store.any (fun x => x.flow == f) then
      refreshEgress p (modPort p (fun x => { x with store := x.store.filter fun y => y.flow != f }) e)
    else e) d2
  let d4 := forAll (d3.sources.map (·.1)) (fun s => modSource s (fun x => { x with queue := others x.queue })) d3
  { d4 with accepted := others d4.accepted }

/-- R298: one entry of PORT.FLOW_MAP. -/
def setFlowEntry (p cls v : Nat) (d : Dev) : Dev := setBlock PORT_FLOW_MAP p (spliceBytes (block d PORT_FLOW_MAP p) (2 * cls) (toLE v 2)) d

/-- The ports to which a flow goes. -/
def flowPorts (d : Dev) (f : Nat) : List Nat :=
  if attr d FLOW_KIND f = 0 then [attr d FLOW_TARGET f] else chordPorts d (attr d FLOW_TARGET f)

/-- R296: the attributes of a FLOW context. -/
def flowAttrs : List Attr := catalogue.filter fun a => a.cls == clsFlow

/-- R298: the flow that PORT.FLOW_MAP gives for a class. -/
def flowEntry (d : Dev) (p cls : Nat) : Nat := leAt (fitBytes (block d PORT_FLOW_MAP p) 32) (2 * cls) 2

/-- R293: the context reads FREE and its counters 0; what the hub has not accepted counts as unmapped. -/
def freeFlow (f : Nat) (d : Dev) : Dev :=
  let cls := attr d FLOW_CLASS f
  let p := flowPort d f
  let ps := (List.range 128).filter fun q => flowEntry d q cls == f
  let d1 := forAll ps (fun q => setFlowEntry q cls 0xFFFF) (purgeFlow f (bump PORT_UNMAPPED_DROPS p (notAccepted d f) d))
  let d2 := disarm tkFailover f (disarm tkDrain f (modFlow f (fun _ => {}) d1))
  refreshCharges (ps.filter (· != p) ++ [p]) (resetAttrs flowAttrs f d2)

/-- R298: the flows of a chord entered at its members, and taken out of ports that leave it. -/
def enterChordFlows (c : Nat) (ps : List Nat) (bound : Bool) (d : Dev) : Dev :=
  let fs := (usedFlows d).filter fun f => attr d FLOW_KIND f == 1 && attr d FLOW_TARGET f == c
  forAll fs (fun f => forAll ps fun p => setFlowEntry p (attr d FLOW_CLASS f) (if bound then f else 0xFFFF)) d

/-- R293: a drain ends. -/
def endDrain (f status : Nat) (d : Dev) : Dev :=
  if attr d FLOW_STATE f = 2 then freeFlow f (completeOpt (flow d f).drain clsFlow f evFlowClosed status [] d) else d

/-! ### FLOW_OPEN, FLOW_MAP, FLOW_CLOSE (R291 to R293) -/

/-- Bytes 5 to 19 of FLOW_OPEN and FLOW_MAP in range (R291). -/
def mapFieldsOk (ps : List Byte) : Bool :=
  let a := byteAt ps 5
  let b := byteAt ps 6
  let mode := byteAt ps 7
  let grp := fun g => decide (g ≤ 7) || g == 0xFF
  grp a && grp b && decide (mode ≤ 2) && grp (byteAt ps 8) && decide (byteAt ps 9 < 4)
    && decide (64 ≤ leAt ps 10 2) && decide (leAt ps 10 2 ≤ 9216) && decide (leAt ps 12 4 ≤ 40000) && decide (leAt ps 16 4 ≤ 40000)
    && (if mode = 0 then b == 0xFF else a != 0xFF && b != 0xFF && a != b)

/-- R291: a named group in L2 or LOOP. -/
def groupsClosed (d : Dev) (ps : List Byte) : Bool :=
  let bad := fun g => let st := attr d GROUP_STATE g; st == 5 || st == 6
  (decide (byteAt ps 5 < 8) && bad (byteAt ps 5)) || (decide (byteAt ps 6 < 8) && bad (byteAt ps 6))
    || (decide (byteAt ps 8 < 8) && bad (8 + byteAt ps 8))

/-- R284: the new charges a map asks for. -/
def wantedCharges (d : Dev) (ps : List Byte) (inner die : Nat) : List (Nat × Nat) :=
  let f := leAt ps 10 2
  let act := firstActive d (byteAt ps 5) (byteAt ps 6) (byteAt ps 7)
  chargedGroups (byteAt ps 5) (byteAt ps 6) (byteAt ps 7) (byteAt ps 8) act inner die (chargeOf (leAt ps 12 4) f) (chargeOf (leAt ps 16 4) f)
where
  /-- R288: the group on which a flow with a new map is active. -/
  firstActive (d : Dev) (a b mode : Nat) : Nat :=
    if mode = 1 then 0xFE else if mode = 2 ∧ hasPath d a = false ∧ hasPath d b = true then b else a

/-- R284: by how much a group would be over its reference, where the change raises its charge. -/
def shortfall (d : Dev) (old new : List (Nat × Nat)) (g : Nat) : Nat :=
  if chargeOn new g ≤ chargeOn old g then 0 else groupCharged d g - chargeOn old g + chargeOn new g - groupReference d g

/-- R292: the first host group short, as WHERE, INDEX, SHORT. -/
def hostShort (d : Dev) (old new : List (Nat × Nat)) (ps : List Byte) : Option (Nat × Nat × Nat) :=
  let cands := [(1, byteAt ps 5, byteAt ps 5), (1, byteAt ps 6, byteAt ps 6), (2, byteAt ps 8, 8 + byteAt ps 8)]
  (cands.filterMap fun x => if x.2.1 < 8 ∧ 0 < shortfall d old new x.2.2 then some (x.1, x.2.1, shortfall d old new x.2.2) else none).head?

/-- R292: the group of an inner pair that is short. -/
def innerShort (d : Dev) (old new : List (Nat × Nat)) (die pair : Nat) (larger : Bool) : Option (Nat × Nat × Nat) :=
  let tx := shortfall d old new (16 + 8 * die + pair)
  let rx := shortfall d old new (20 + 8 * die + pair)
  if tx = 0 ∧ rx = 0 then none
  else if larger then (if rx ≤ tx then some (3, pair, tx) else some (4, pair, rx))
  else if 0 < tx then some (3, pair, tx) else some (4, pair, rx)

/-- R292: the result of NO_RESOURCE. -/
def shortBytes (x : Nat × Nat × Nat) : List Byte := [byteOf x.1, byteOf x.2.1] ++ toLE x.2.2 4

/-- R406: the inner pairs of a die that are not in L2. -/
def openPairs (d : Dev) (die : Nat) : List Nat :=
  (List.range 4).filter fun q => attr d GROUP_STATE (16 + 8 * die + q) != 5 && attr d GROUP_STATE (20 + 8 * die + q) != 5

/-- R285: the pairs on which both directions fit. -/
def fittingPairs (d : Dev) (ps : List Byte) (die : Nat) : List Nat :=
  (openPairs d die).filter fun q => (innerShort d [] (wantedCharges d ps q die) die q true).isNone

/-- R285: the inner pair chosen among those that fit. -/
def choosePair (d : Dev) (die : Nat) : List Nat → Nat
  | [] => 0
  | q :: r => r.foldl (fun best x => if groupCharged d (16 + 8 * die + x) < groupCharged d (16 + 8 * die + best) then x else best) q

/-- R292: the pair whose larger shortfall is smallest, and its short group. -/
def leastShort (d : Dev) (ps : List Byte) (die : Nat) : Nat × Nat × Nat :=
  let all := (openPairs d die).filterMap fun q => innerShort d [] (wantedCharges d ps q die) die q true
  match all with
  | [] => (3, 0, 0)
  | x :: r => r.foldl (fun best y => if y.2.2 < best.2.2 then y else best) x

/-- The map attributes of a flow written from bytes 5 to 19 (R291, R292, R288). -/
def writeMap (ps : List Byte) (f : Nat) (d : Dev) : Dev :=
  let hint := leAt ps 10 2
  d |> setAttr FLOW_MAP f (leAt ps 5 4) |> setAttr FLOW_FLAGS f (byteAt ps 9)
    |> setAttr FLOW_FRAME_HINT f hint |> setAttr FLOW_RATE_TO_HOST f (leAt ps 12 4) |> setAttr FLOW_RATE_FROM_HOST f (leAt ps 16 4)
    |> setAttr FLOW_CHARGE_TO_HOST f (chargeOf (leAt ps 12 4) hint) |> setAttr FLOW_CHARGE_FROM_HOST f (chargeOf (leAt ps 16 4) hint)
    |> setAttr FLOW_ACTIVE_HOST f (wantedCharges.firstActive d (byteAt ps 5) (byteAt ps 6) (byteAt ps 7))

/-- R291: the effect of FLOW_OPEN on a free context. -/
def openFlow (ps : List Byte) (f pair : Nat) (d : Dev) : Dev :=
  let kind := byteAt ps 2
  let target := byteAt ps 3
  let d1 := modFlow f (fun _ => {}) (resetAttrs flowAttrs f d)
  let d2 := d1 |> setAttr FLOW_STATE f 1 |> setAttr FLOW_KIND f kind |> setAttr FLOW_TARGET f target |> setAttr FLOW_CLASS f (byteAt ps 4)
    |> setAttr FLOW_INNER f pair
  let d3 := if kind = 1 then setAttr FLOW_MEMBER f (pickMember d target) d2 else d2
  let d4 := writeMap ps f d3
  refreshCharges [flowPort d4 f] (forAll (flowPorts d4 f) (fun p => setFlowEntry p (byteAt ps 4) f) d4)

/-- R291: FLOW_OPEN. -/
def bodyFlowOpen : Body := fun _ c d =>
  let ps := c.params
  let want := leAt ps 0 2
  let kind := byteAt ps 2
  let target := byteAt ps 3
  let cls := byteAt ps 4
  need ((decide (want ≤ 1023) || want == 0xFFFF) && decide (kind ≤ 1) && mapFieldsOk ps
      && (if kind = 0 then decide (target ≤ 127) && decide (cls ≤ 8) else decide (target ≤ 31) && decide (9 ≤ cls) && decide (cls ≤ 12)))
    stOutOfRange <|
  need ((kind == 0 || chordBound d target) && !groupsClosed d ps
      && !(openPairs d (dieOf (if kind = 0 then target else (chordPorts d target).headD 0))).isEmpty) stPrecondition <|
  if want ≠ 0xFFFF ∧ attr d FLOW_STATE want ≠ 0 then .refuse stConflict (toLE want 2)
  else
    match flowOfTarget d kind target cls with
    | some f => .refuse stConflict (toLE f 2)
    | none =>
      match (if want = 0xFFFF then (List.range 1024).find? fun f => attr d FLOW_STATE f == 0 else some want) with
      | none => .refuse stNoResource (shortBytes (0, 0, 0))
      | some f =>
        let die := dieOf (if kind = 0 then target else (chordPorts d target).headD 0)
        match hostShort d [] (wantedCharges d ps 0xFF die) ps with
        | some x => .refuse stNoResource (shortBytes x)
        | none =>
          match fittingPairs d ps die with
          | [] => .refuse stNoResource (shortBytes (leastShort d ps die))
          | q :: r =>
            let pair := choosePair d die (q :: r)
            let d' := openFlow ps f pair d
            okResult (toLE f 2 ++ [byteOf pair, byteOf (attr d' FLOW_MEMBER f)]) d'

/-- R289: the host groups on which a flow is active. -/
def activeSet (d : Dev) (f : Nat) : List Nat :=
  if attr d FLOW_ACTIVE_HOST f = 0xFE then [flowMap d f 0, flowMap d f 1] else [attr d FLOW_ACTIVE_HOST f]

/-- R292: FLOW_MAP. -/
def bodyFlowMap : Body := fun _ c d =>
  let ps := c.params
  let f := leAt ps 0 2
  need (decide (f ≤ 1023) && reservedZero ps 2 3 && mapFieldsOk ps) stOutOfRange <|
  need (!groupsClosed d ps && attr d FLOW_STATE f == 1) stPrecondition <|
    let old := flowCharges d f
    let die := flowDie d f
    let new := wantedCharges d ps (attr d FLOW_INNER f) die
    match hostShort d old new ps with
    | some x => .refuse stNoResource (shortBytes x)
    | none =>
      match innerShort d old new die (attr d FLOW_INNER f) false with
      | some x => .refuse stNoResource (shortBytes x)
      | none =>
        let before := activeSet d f
        let d1 := writeMap ps f d
        let gone := (before.filter fun g => decide (g < 8)).filter fun g => !(activeSet d1 f).contains g
        okDev (refreshCharges [flowPort d f] (returnTimer (flowMap d1 f 0) f (disarm tkFailover f
          (if gone = [] then d1 else modFlow f (fun x => { x with hostEra := x.hostEra + 1 }) d1))))

/-- R293: FLOW_CLOSE. -/
def bodyFlowClose : Body := fun _ c d =>
  let f := leAt c.params 0 2
  need (decide (f ≤ 1023) && decide (byteAt c.params 2 ≤ 1) && reservedZero c.params 3 1) stOutOfRange <|
  need (attr d FLOW_STATE f == 1) stPrecondition <|
    if byteAt c.params 2 = 1 then okDev (freeFlow f d)
    else
      let d1 := modFlow f (fun x => { x with drain := some (callRef c) }) (setAttr FLOW_STATE f 2 (addJob c d))
      .accept [] (arm tkDrain f (10 * nsPerMs) d1)

/-! ### Moves (R15, R166, R290) -/

/-- R15: whether a flow's inner pair has fewer than three working data lanes in a direction. -/
def innerBroken (d : Dev) (f : Nat) : Bool :=
  !(decide (attr d FLOW_INNER f < 4)) || !hasPath d (innerTx d f) || !hasPath d (innerRx d f)

/-- The units of a list up to the first that ends a frame. -/
def headFrame : List HubUnit → List HubUnit
  | [] => []
  | u :: r => if u.last then [u] else u :: headFrame r

/-- R15: what a group's store holds of a flow goes to another group's, but for the rest of a frame part sent. -/
def moveStore (old new f : Nat) (d : Dev) : Dev :=
  let x := link d old
  let mine := x.store.filter fun u => u.flow == f
  let tail := if x.partSent.contains f then headFrame mine else []
  innerPush new f (mine.drop tail.length) (modLink old (fun y => { y with store := (y.store.filter fun u => u.flow != f) ++ tail }) d)

/-- R15: a flow moved to another inner pair of its die at a frame boundary: what waits whole for the old pair waits for the new, behind what
is still on its way over the old one. DESIGN CHOICE (assumption 119): of the pairs that carry rows in both directions, the one with the
lowest TO_HOST charge, as R285 chooses at FLOW_OPEN. -/
def moveInner (f : Nat) (d : Dev) : Dev :=
  let die := flowDie d f
  let good := (List.range 4).filter fun q => groupCarries d (16 + 8 * die + q) && groupCarries d (20 + 8 * die + q)
  if attr d FLOW_STATE f = 0 ∨ innerBroken d f = false then d
  else
    match good with
    | [] => d
    | q :: r =>
      let pair := choosePair d die (q :: r)
      let d1 := setAttr FLOW_INNER f pair (modFlow f (fun x => { x with innerEra := x.innerEra + 1 }) d)
      let d2 := if attr d FLOW_INNER f < 4 then moveStore (innerRx d f) (innerRx d1 f) f (moveStore (innerTx d f) (innerTx d1 f) f d1) else d1
      refreshCharges [] d2

/-- R279: the room that a port's store has left. -/
def egressRoom (d : Dev) (p : Nat) : Nat := 65536 - egressReserved d p

/-- R166: a frame at the line die of a chord flow's old member goes to the new one, from its first byte; one for which the new store has no
room is dropped (R279). -/
def moveLine (f new : Nat) (d : Dev) (x : LineFrame) : Dev :=
  if x.bytes.length ≤ egressRoom d new then modPort new (fun y => { y with store := y.store ++ [{ x with sent := 0 }] }) d
  else dropFromHost FLOW_DROP_EGRESS_RX f (if x.tag.isSome then 2 else 0) (x.tag.getD 0) (if x.arriving then closeFlow (innerRx d f) f d else d)

/-- R166: a frame in the hub's store of a chord flow's old member goes to the new one's. -/
def moveHub (f new : Nat) (d : Dev) (x : EgressFrame) : Dev :=
  if x.total ≤ egressRoom d new then { d with egress := bankPut [] d.egress new (egressOf d new ++ [x]) }
  else dropFromHost FLOW_DROP_EGRESS_RX f x.tsKind x.tsTag (if x.whole then d else modFlow f (fun y => { y with discardRx := true }) d)

/-- R166, R290: a chord flow moved to another member in CARRY, with every frame of it that waits or is on its way to the old one. -/
def moveMember (f : Nat) (d : Dev) : Dev :=
  let old := attr d FLOW_MEMBER f
  let new := pickMember d (attr d FLOW_TARGET f)
  if attr d FLOW_STATE f = 0 ∨ attr d FLOW_KIND f ≠ 1 ∨ new = old ∨ attr d PORT_STATE new ≠ psCarry then d
  else
    let line := (port d old).store.filter fun e => e.flow == f
    let hub := (egressOf d old).filter fun e => e.flow == f
    let units := (source d old).queue.filter fun u => u.flow == f
    let d1 := modPort old (fun x => { x with store := x.store.filter fun e => e.flow != f }) (setAttr FLOW_MEMBER f new d)
    let d2 := hub.foldl (moveHub f new) (line.foldl (moveLine f new) (setEgress old ((egressOf d old).filter fun e => e.flow != f) d1))
    let d3 := modSource new (fun x => { x with queue := x.queue ++ units }) (modSource old (fun x => { x with queue := x.queue.filter fun u => u.flow != f }) d2)
    refreshCharges [old, new] (refreshEgress new d3)

/-- R166: the flows of a chord on one of its members. -/
def memberFlows (d : Dev) (p : Nat) : List Nat :=
  (usedFlows d).filter fun f => attr d FLOW_KIND f == 1 && attr d FLOW_MEMBER f == p

/-- R295: a port entering DOWN discards the frames its stores hold. -/
def dropPortStores (p : Nat) (d : Dev) : Dev :=
  let d1 := (egressOf d p).foldl (fun e x => dropFromHost FLOW_DROP_NO_PATH x.flow x.tsKind x.tsTag e) d
  let d2 := (port d p).store.foldl (fun e x => dropFromHost FLOW_DROP_NO_PATH x.flow (if x.tag.isSome then 2 else 0) (x.tag.getD 0) e) d1
  let fs := ((egressOf d p).filter fun x => !x.whole).map (·.flow)
  let gs := ((port d p).store.filter (·.arriving)).map (·.flow)
  let d3 := forAll gs (fun f e => closeFlow (innerRx e f) f e) (forAll fs (fun f => modFlow f (fun y => { y with discardRx := true })) d2)
  setEgress p [] (modPort p (fun x => { x with store := [] }) d3)

/-- R166: the flows of a member whose wait is over go to another in CARRY; without one they wait for it. -/
def chordWaitOver (p : Nat) (d : Dev) : Dev :=
  let c := attr d PORT_CHORD p
  if attr d PORT_STATE p = psCarry then disarm tkChordMove p d
  else if (chordPorts d c).any fun q => attr d PORT_STATE q == psCarry then forAll (memberFlows d p) moveMember (disarm tkChordMove p d)
  else d

/-! ### Rows -/

/-- R291: the FLOW_OPEN row. -/
def execFlowOpen (r : Req) (s : State) : Out := issueOut 0x40 bodyFlowOpen r s

/-- R293: the FLOW_CLOSE row. -/
def execFlowClose (r : Req) (s : State) : Out := issueOut 0x41 bodyFlowClose r s

/-- R292: the FLOW_MAP row. -/
def execFlowMap (r : Req) (s : State) : Out := issueOut 0x42 bodyFlowMap r s

/-- R288: the FAILOVER_RETURN row of a flow. -/
def execFailoverReturn (f : Fin 1024) (s : State) : Out := onDev (onExpiry tkFailover f (failoverReturn f)) s

/-- R293: the FLOW_DRAIN_COMPLETE row of a flow. -/
def execFlowDrainComplete (f : Fin 1024) (s : State) : Out :=
  onDev (fun d => if attr d FLOW_STATE f = 2 ∧ flowHolds d f = false then endDrain f stOk d else d) s

/-- R293: the FLOW_DRAIN_TIMEOUT row of a flow. -/
def execFlowDrainTimeout (f : Fin 1024) (s : State) : Out := onDev (onExpiry tkDrain f (endDrain f stTimeout)) s

/-- R15: the INNER_GROUP_FLOW_MOVE row of a flow. -/
def execInnerGroupFlowMove (f : Fin 1024) (s : State) : Out := onDev (moveInner f) s

/-- R166: the CHORD_FLOW_MOVE row of a member port. -/
def execChordFlowMove (p : Fin 128) (s : State) : Out :=
  onDev (fun d => if due d tkChordMove p then chordWaitOver p d else d) s

end Sys2Proof.Machine
end

