-- ==== Sys2Proof/Machine/FaultCore.lean ====
section
/-! DEFINITION. Machine/FaultCore.lean: what every detector of a fault uses: the queue of the log writer (R393), FAULT and UNMASKED
(R385 to R387), and the hourly sums of transient faults. -/

namespace Sys2Proof.Machine

/-- Fault masking changed. -/
def modFaults (f : Faults → Faults) (d : Dev) : Dev := { d with faults := f d.faults }

/-- KIND codes of R394. -/
abbrev logPermanent : Nat := 0
abbrev logUnmasked : Nat := 1
abbrev logRepaired : Nat := 2
abbrev logBrownout : Nat := 3
abbrev logReset : Nat := 4
abbrev logSummary : Nat := 5

/-- R393: a record for the log writer. Its DETAIL is element state in a form that R394 does not give: a free value. -/
def queueLog (cls inst element fclass kind status cause count : Nat) (d : Dev) : Dev :=
  let r : LogRec := ⟨d.devTime, cls, inst, element, fclass, kind, status, cause, min 0xFFFF count, toLE (freeVal d) 32⟩
  modFaults (fun x => { x with queue := x.queue ++ [r] }) (usedFree d)

/-- R393: `n` more transient faults of a class at a source in this hour. -/
def countTransients (cls inst fclass n : Nat) (d : Dev) : Dev :=
  modFaults (fun x =>
    if x.sums.any fun s => s.cls == cls && s.inst == inst && s.fclass == fclass then
      { x with sums := x.sums.map fun s => if s.cls = cls ∧ s.inst = inst ∧ s.fclass = fclass then { s with count := s.count + n } else s }
    else { x with sums := x.sums ++ [⟨cls, inst, fclass, n⟩] }) d

/-- R393: one more transient fault of a class at a source in this hour. -/
def countTransient (cls inst fclass : Nat) (d : Dev) : Dev := countTransients cls inst fclass 1 d

/-- R377, R400: words of a die corrected by a read. -/
def countCorrected (die n : Nat) (d : Dev) : Dev :=
  if n = 0 then d else countTransients clsDie die 5 n (bump DIE_MEM_CORRECTED die n d)

/-- R386: UNMASKED, at most once a second for each cause and source; what comes later in that second goes to SUMMARY records. -/
def unmasked (cls inst element fclass cause : Nat) (d : Dev) : Dev :=
  match d.faults.raised.find? fun r => r.cause == cause && r.cls == cls && r.inst == inst && decide (d.elapsed < r.at_ + nsPerS) with
  | some _ => countTransient cls inst fclass d
  | none =>
    let d1 := modFaults (fun x => { x with raised := (x.raised.filter fun r => !(r.cause == cause && r.cls == cls && r.inst == inst)) ++ [⟨cause, cls, inst, d.elapsed⟩] }) d
    raise cls inst evUnmasked (256 * cause + element)
      (queueLog cls inst element fclass logUnmasked 0 cause 1 (setAttr DEVICE_UNMASKED_LAST 0 cause (bump DEVICE_UNMASKED_COUNT 0 1 d1)))

/-- R373, R374, R383, R250: an element marked FAILED: FAULT, a PERMANENT record, and the count of R385. -/
def permanentFault (cls inst element fclass : Nat) (d : Dev) : Dev :=
  raise cls inst evFault (256 * fclass + element)
    (queueLog cls inst element fclass logPermanent 0 0 1 (bump DEVICE_FAILED_ELEMENTS 0 1 d))

/-- A transient verdict: FAULT_CLEARED (R373, R374). -/
def faultCleared (cls inst element fclass : Nat) (d : Dev) : Dev :=
  raise cls inst evFaultCleared (256 * fclass + element) (countTransient cls inst fclass d)

/-- R379: an uncorrectable word of a die counted, and UNMASKED with cause MEMORY. -/
def memoryLost (die cls inst element : Nat) (d : Dev) : Dev :=
  unmasked cls inst element 5 unmMemory (bump DIE_MEM_UNCORRECTABLE die 1 d)

/-- R373, R374, R250: faults of an element in the last hour, before now. -/
def recentFaults (d : Dev) (key : Nat) : List Nat :=
  (bankGet [] d.faults.hist key).filter fun t => decide (d.elapsed < t + 3600 * nsPerS)

/-- A fault of an element entered in its history. -/
def noteFault (key : Nat) (d : Dev) : Dev :=
  modFaults (fun x => { x with hist := bankPut [] x.hist key (recentFaults d key ++ [d.elapsed]) }) d

/-- R397: the history of an element cleared. -/
def clearHistory (key : Nat) (d : Dev) : Dev := modFaults (fun x => { x with hist := bankPut [] x.hist key [] }) d

/-- One key for each element that can be FAILED: engines, slices, lanes, cores. -/
def elementKey (cls inst element : Nat) : Nat := (cls * 65536 + inst) * 256 + element

/-- R397: one FAILED element fewer. -/
def unfail (key : Nat) (d : Dev) : Dev := clearHistory key (setAttr DEVICE_FAILED_ELEMENTS 0 (attr d DEVICE_FAILED_ELEMENTS 0 - 1) d)

/-- R371: the fault class of an element that REPAIR names by its attribute class. -/
def repairClass (cls : Nat) : Nat := if cls = clsDevice then 6 else if cls = clsFacet then 1 else if cls = clsPort then 2 else 3

/-- R397: a repair in progress on a unit. -/
def repairOn (d : Dev) (cls inst : Nat) : Option Repair := d.faults.repairs.find? fun r => r.cls == cls && r.inst == inst

/-- R397: a repair ends: REPAIR_DONE and its REPAIRED record. -/
def endRepair (r : Repair) (status : Nat) (d : Dev) : Dev :=
  let d1 := modFaults (fun x => { x with repairs := x.repairs.filter (· != r) }) d
  complete r.job r.cls r.inst evRepairDone status [] (queueLog r.cls r.inst r.element (repairClass r.cls) logRepaired status 0 1 d1)

end Sys2Proof.Machine
end

