-- ==== Sys2Proof/Machine/Receive.lean ====
section
/-! DEFINITION. Machine/Receive.lean: the receiver of a port: hold-over (R86, R87), tone-block retirement (R88 to R96) and what each
marker measures (R92, R200, R201). -/

namespace Sys2Proof.Machine

/-- The receiver's own state. -/
def rx (d : Dev) (p : Nat) : PortRx := (port d p).rx

/-! ### Hold-over (R87) -/

/-- Whether a port is in hold-over. -/
def inHoldover (d : Dev) (p : Nat) : Bool := attr d PORT_RX_STATE p == 3

/-- R87: hold-over begins. -/
def enterHoldover (p : Nat) (d : Dev) : Dev :=
  if attr d PORT_STATE p ≠ psCarry ∨ inHoldover d p then d
  else fireSnapshots p 2 (setAttr PORT_RX_STATE p 3 (modRx p (fun x => { x with holdSf := 0, detected := 0 }) d))

/-- R87: hold-over ends by recovery, with MICROBREAK. -/
def leaveHoldover (p : Nat) (d : Dev) : Dev :=
  let n := (rx d p).holdSf
  raise clsPort p evMicrobreak n (bump PORT_MICROBREAKS p 1 (setAttr PORT_RX_STATE p 2 (modRx p (fun x => { x with missed := 0, detected := 0, holdSf := 0 }) d)))

/-! ### Retirement (R88 to R96) -/

/-- Cause bits of R99. -/
abbrev retPace : Nat := 1
abbrev retIngress : Nat := 2
abbrev retPartner : Nat := 4

/-- R99: the cause byte of a receive block. -/
def rxCause (d : Dev) (p b : Nat) : Nat := blockByte d PORT_RETIRE_CAUSE p (32 + b)

/-- R92: receive blocks retired for ingress. -/
def ingressCount (d : Dev) (p : Nat) : Nat := ((List.range 32).filter fun b => bitOf (rxCause d p b) 1).length

/-- A set of blocks after a change. -/
def changedSet (set : Nat) (c : BlockChange) : Nat := withBit set c.block (!c.restore)

/-- R91: a set that a receiver may announce: 136 bits left, and no block of 0 bits. -/
def setOk (load : List Byte) (set : Nat) : Bool :=
  decide (136 ≤ bitsInEffect load set) && (List.range 32).all fun b => !bitOf set b || decide (0 < blockBits load b)

/-- R91, R92: the changes of a list that one notice can carry, and the set they give. A retirement that would leave too little is left
out; a restoration is taken, and the whole set is judged at the end. -/
def fitChanges (load : List Byte) : List BlockChange → Nat → List BlockChange × Nat
  | [], set => ([], set)
  | c :: r, set =>
    let s' := changedSet set c
    if c.restore || (decide (136 ≤ bitsInEffect load s') && decide (0 < blockBits load c.block)) then
      let (l, s) := fitChanges load r s'
      (c :: l, s)
    else fitChanges load r set

/-- R57, R91: the receive table that will be in use at superframe `count`: a pending swap's from its S on. -/
def loadingRxAt (d : Dev) (p count : Nat) : List Byte :=
  match swapOf d p with
  | some s =>
    (match s.rx with
     | some t => if s.sf = some count ∧ bitOf s.agreed 1 ∧ bitOf s.changed 1 = false then t.1 else block d PORT_LOADING_RX p
     | none => block d PORT_LOADING_RX p)
  | none => block d PORT_LOADING_RX p

/-- R88, R91: the changes wanted go into a notice for the next superframe, where none is outstanding; a set that may not be announced
stays wanted. -/
def issueNotice (p : Nat) (d : Dev) : Dev :=
  let x := rx d p
  if x.notice.isSome ∨ x.arb.isSome ∨ x.wanted = [] then d
  else
    let sf := (sfCount d p + 1) % 256
    let load := loadingRxAt d p sf
    let (cs, set) := fitChanges load x.wanted (attr d PORT_RETIRED_RX p)
    if cs = [] then modRx p (fun y => { y with wanted := [] }) d
    else if setOk load set = false then d
    else modRx p (fun y => { y with notice := some ⟨set, sf⟩, announced := cs, wanted := [] }) d

/-- A change wanted, pace first (the first row of "When receive events meet"). -/
def wantChange (p : Nat) (c : BlockChange) (d : Dev) : Dev :=
  modRx p (fun x =>
    if x.wanted.any (fun y => y.block == c.block && y.cause == c.cause) || x.announced.any (fun y => y.block == c.block && y.cause == c.cause) then x
    else { x with wanted := if bitOf c.cause 0 && !c.restore then c :: x.wanted else x.wanted ++ [c] }) d

/-- R92, R94, R96: one change takes effect, with its cause bits, counter and event. -/
def applyChange (p : Nat) (c : BlockChange) (d : Dev) : Dev :=
  if c.restore then
    let d1 := setBlockByte PORT_RETIRE_CAUSE p (32 + c.block) 0 (setAttr PORT_RETIRED_RX p (withBit (attr d PORT_RETIRED_RX p) c.block false) d)
    let d2 := modRx p (fun x => { x with paceOrder := x.paceOrder.filter (· != c.block), paceCalm := 0 }) d1
    raise clsPort p evBlockRestored (256 * rxCause d p c.block + c.block) d2
  else
    let d1 := setBlockByte PORT_RETIRE_CAUSE p (32 + c.block) (rxCause d p c.block ||| c.cause)
      (setAttr PORT_RETIRED_RX p (withBit (attr d PORT_RETIRED_RX p) c.block true) d)
    if c.cause = retPace then
      raise clsPort p evPaceShed (32 * min 2047 c.detail + c.block)
        (bump PORT_SHED_COUNT p 1 (modRx p (fun x => { x with paceOrder := c.block :: x.paceOrder, paceCalm := 0 }) d1))
    else raise clsPort p evIngressRetire (256 * min 255 c.detail + c.block) (bump PORT_INGRESS_COUNT p 1 d1)

/-- The rates after a change of retired blocks (R67, R286). -/
def ratesChanged (p : Nat) (d : Dev) : Dev := refreshOversub p (refreshRates p d)

/-- R90: the announced, or swapped, table kept. -/
def keepAnnounced (p : Nat) (a : Arbitration) (d : Dev) : Dev :=
  let d1 := ratesChanged p (a.changes.foldl (fun e c => applyChange p c e) (modRx p (fun x => { x with arb := none, announced := [] }) d))
  issueNotice p (if a.swap then changeDirections p 2 d1 else d1)

/-- R90: the table before kept: what was announced is announced again. -/
def keepOld (p : Nat) (a : Arbitration) (d : Dev) : Dev :=
  issueNotice p (modRx p (fun x => { x with arb := none, announced := [], wanted := a.changes ++ x.wanted }) d)

/-- R88, R90: at a boundary, a notice becomes an arbitration between the announced set and the one before; so does a missed
SWAP marker. -/
def openArbitration (p : Nat) (d : Dev) : Dev :=
  let x := rx d p
  match x.notice with
  | some n =>
    let a : Arbitration := ⟨n.set, attr d PORT_RETIRED_RX p, x.announced, x.swapMissed⟩
    modRx p (fun y => { y with notice := none, swapMissed := false, arb := some a }) d
  | none =>
    if x.swapMissed then
      let a : Arbitration := ⟨attr d PORT_RETIRED_RX p, attr d PORT_RETIRED_RX p, [], true⟩
      modRx p (fun y => { y with swapMissed := false, arb := some a }) d
    else d

/-- R90: an arbitration that no container decided by the end of its superframe: R87 applies. -/
def expireArbitration (p : Nat) (d : Dev) : Dev :=
  if (rx d p).arb.isSome then enterHoldover p (modRx p (fun x => { x with arb := none, announced := [] }) d) else d

/-- Time left in the superframe of a prism, ns, from its symbol slot. -/
def sfLeft (d : Dev) (m : Nat) : Nat := (257 - (prism d m).slot) * attr d PRISM_SYMBOL_PERIOD m

/-- R89: a partner's notice for the transmit direction. DESIGN CHOICE (assumption 108): a notice repeated in later headers of its
superframe counts once in NOTICE_REJECTS. -/
def partnerNotice (p set sf : Nat) (d : Dev) : Dev :=
  let x := rx d p
  let n : Notice := ⟨set, sf⟩
  let m := prismOf p
  if x.partnerNotice = some n ∨ x.ignored = some n then d
  else if sf = (sfCount d p + 1) % 256 ∧ 2000 ≤ sfLeft d m ∧ 136 ≤ bitsInEffect (block d PORT_LOADING_TX p) set then
    modRx p (fun y => { y with partnerNotice := some n }) d
  else bump PORT_NOTICE_REJECTS p 1 (modRx p (fun y => { y with ignored := some n }) d)

/-- R89: the partner's set applies at its boundary. -/
def applyPartnerNotice (p : Nat) (d : Dev) : Dev :=
  match (rx d p).partnerNotice with
  | none => modRx p (fun y => { y with ignored := none }) d
  | some n =>
    let d1 := modRx p (fun y => { y with partnerNotice := none, ignored := none }) (setAttr PORT_RETIRED_TX p n.set d)
    let d2 := setBlock PORT_RETIRE_CAUSE p (((List.range 32).map fun b => byteOf (if bitOf n.set b then retPartner else 0)) ++ (block d PORT_RETIRE_CAUSE p).drop 32) d1
    ratesChanged p d2

/-! ### Ingress (R92, R93) -/

/-- A tone's reference. -/
def toneRef (x : PortRx) (t : Nat) : ToneRef := bankGet {} x.tones t

/-- R92: the largest whole number of dB by which `e` exceeds the mean of a history. -/
def excessDb (hist : List Nat) (e : Nat) : Nat :=
  ((List.range 60).filter fun n => decide ((hist.sum ^ 10) * 10 ^ n ≤ (e * hist.length) ^ 10)).foldl max 0

/-- R92, R93: one tone's marker error power: 10 dB or more above the reference, within 3 dB of it, and the history of 256, which
stands still while the tone is under ingress. DESIGN CHOICE (assumption 108): a tone is under ingress from the marker at which it first exceeds
its reference by 10 dB until one at which it lies within 3 dB of it. -/
def measureTone (e : Nat) (r : ToneRef) : ToneRef :=
  let n := r.hist.length
  if n = 0 then { r with hist := [e] }
  else
    let high := decide (10 * r.hist.sum ≤ e * n)
    let near := decide ((e * n) ^ 10 ≤ r.hist.sum ^ 10 * 1000)
    let under := high || (r.ingress && !near)
    { hist := if under then r.hist else (e :: r.hist).take 256, above := if high then r.above + 1 else 0,
      calm := if near then r.calm + 1 else 0, excess := if high then excessDb r.hist e else r.excess, ingress := under }

/-- R92: the marker error powers of a superframe. -/
def measureTones (p : Nat) (errs : List (Nat × Nat)) (d : Dev) : Dev :=
  modRx p (fun x => { x with tones := errs.foldl (fun b e =>
    bankPut {} b e.1 (measureTone e.2 (bankGet {} b e.1))) x.tones }) d

/-- R92: the excess of the block's worst loaded tone, none where no tone is 10 dB above in two markers. -/
def blockIngress (d : Dev) (p b : Nat) : Option Nat :=
  let l := ((List.range 16).map (16 * b + ·)).filter fun t => decide (0 < loadOf (block d PORT_LOADING_RX p) t) && decide (2 ≤ (toneRef (rx d p) t).above)
  if l = [] then none else some ((l.map fun t => (toneRef (rx d p) t).excess).foldl max 0)

/-- R92: blocks under ingress announced for retirement, eight at most. -/
def announceIngress (p : Nat) (d : Dev) : Dev :=
  if attrOn d PORT_INGRESS_RETIRE p = false then d
  else
    let x := rx d p
    let queued := ((x.wanted ++ x.announced).filter fun c => c.cause == retIngress && !c.restore).map (·.block)
    let hits := (List.range 32).filterMap fun b =>
      if bitOf (rxCause d p b) 1 || queued.contains b then none else (blockIngress d p b).map fun e => (b, e)
    (hits.take (8 - ingressCount d p - queued.length)).foldl (fun e h => wantChange p ⟨h.1, retIngress, false, h.2⟩ e) d

/-- R93: every tone of a block within 3 dB for 4,096 superframes. -/
def ingressOver (d : Dev) (p b : Nat) : Bool :=
  ((List.range 16).map (16 * b + ·)).all fun t => !(mayLoad (rx d p).maskNow t) || decide (4096 ≤ (toneRef (rx d p) t).calm)

/-- R96: the last block retired for pace, and whether its restoration is allowed. -/
def paceRestorable (d : Dev) (p : Nat) : Option Nat :=
  let x := rx d p
  match x.paceOrder with
  | b :: _ => if 1024 ≤ x.paceCalm then some b else none
  | [] => none

/-! ### SNR (R200, R201) -/

/-- R200: a tone's averaged SNR (1/256 dB) with one more marker at a weight of 1/16; the first marker starts the average. -/
def averageSnr (old : Option Int) (new : Int) : Int :=
  match old with
  | none => new
  | some v => (15 * v + new) / 16

/-- R200: an SNR as received (1/256 dB) referred to 0 dB fine gain: less the gain (0.1 dB) that the tone's marker point carried. -/
def ungained (gains : List Byte) (e : Nat × Nat) : Int := (10 * (e.2 : Int) - 256 * gainOf gains e.1) / 10

/-- R200: PORT.SNR_RX from the averages. -/
def refreshSnr (p : Nat) (d : Dev) : Dev :=
  let x := rx d p
  setBlock PORT_SNR_RX p ((List.range 512).map fun t =>
    if t < 4 ∨ toneMasked x.maskNow t then 0#8 else byteOf (clampInt ((bankGet none x.snr t).getD 0 / 64) 0 255).toNat) d

/-- R200, R201: the SNR measured at a detected marker, and the lowest of each block for the history. DESIGN CHOICE (assumption 108): a block
none of whose tones is unmasked and loadable holds 0xFF in an interval with a detected marker. -/
def measureSnr (p : Nat) (snrs : List (Nat × Nat)) (d : Dev) : Dev :=
  let d1 := refreshSnr p (modRx p (fun x => { x with snr := snrs.foldl (fun b e =>
    bankPut none b e.1 (some (averageSnr (bankGet none b e.1) (ungained (block d PORT_GAIN_RX p) e)))) x.snr }) d)
  let bytes := block d1 PORT_SNR_RX p
  modRx p (fun x => { x with histSeen := true, histLow := (List.range 32).map fun b =>
    (((List.range 16).map (16 * b + ·)).filter (mayLoad x.maskNow)).foldl (fun m t => min m (byteAt bytes t)) (x.histLow.getD b 0xFF) }) d1

/-- R201: an interval ends: its entry in the ring. -/
def endInterval (p : Nat) (d : Dev) : Dev :=
  let x := rx d p
  let i := (attr d PORT_SNR_HIST_HEAD p + 1) % 256 % 64
  let entry := if x.histSeen then x.histLow.map byteOf else List.replicate 32 0#8
  let d1 := setBlock PORT_SNR_HISTORY p (spliceBytes (block d PORT_SNR_HISTORY p) (32 * i) entry) d
  setAttr PORT_SNR_HIST_HEAD p i (modRx p (fun y => { y with histLow := List.replicate 32 0xFF, histSeen := false }) d1)

/-- R201: the interval timer of a port. -/
def armInterval (p : Nat) (d : Dev) : Dev := arm tkSnrInterval p (attr d PORT_SNR_HIST_INTERVAL p * nsPerMs) d

/-! ### Rows -/

/-- R87: whether QUIET or DORMANT entry is agreed for the superframe in progress, whose end the partner may have reached. -/
def quietDue (d : Dev) (p : Nat) : Bool :=
  match (port d p).quiet.entry with
  | some e => e.step == .scheduled (sfCount d p)
  | none => false

/-- R87: the PILOT_POWER_LOSS row: 64 data symbols with pilots 20 dB down; in S of an agreed entry it is taken as the entry. -/
def execPilotPowerLoss (p : Fin 128) (s : State) : Out := onDev (fun d => if quietDue d p then d else enterHoldover p d) s

/-- R96: the PACE_RESTORE row. -/
def execPaceRestore (p : Fin 128) (s : State) : Out :=
  onDev (fun d =>
    match paceRestorable d p with
    | some b =>
      if bitOf (rxCause d p b) 1 && !ingressOver d p b then d
      else issueNotice p (wantChange p ⟨b, rxCause d p b, true, 0⟩ d)
    | none => d) s

/-- R93: the INGRESS_RESTORE row of a block. -/
def execIngressRestore (p : Fin 128) (b : Fin 32) (s : State) : Out :=
  onDev (fun d =>
    if bitOf (rxCause d p b) 1 && ingressOver d p b && !((rx d p).wanted ++ (rx d p).announced).any (fun c => c.restore)
        && (!bitOf (rxCause d p b) 0 || paceRestorable d p == some b.val) then
      issueNotice p (wantChange p ⟨b, rxCause d p b, true, 0⟩ d)
    else d) s

/-- R74: the PRISM_CLOCK_SLEW_END row. -/
def execPrismClockSlewEnd (m : Fin 8) (s : State) : Out := onDev (fun d =>
    if attrInt d PRISM_CLOCK_OFFSET m = (prism d m).reference then disarm tkSlew m (setAttr PRISM_CLOCK_SLEWING m 0 d) else d) s

/-- R77: the TSF_COMPUTED row: the filter of CHANNEL_PROBE installed, with the residual it leaves (0.1 dB). -/
def execTsfComputed (p : Fin 128) (f : TsfFilter) (s : State) : Out :=
  onDev (fun d =>
    if attr d PORT_STATE p = psTrain ∧ attr d PORT_TRAIN_PHASE p = 3 then
      setAttr PORT_TSF_UPDATES p 0 (setAttrInt PORT_TSF_RESIDUAL p f.residual (modRx p (fun x => { x with shadowAt := 0, shadow := none, tsf := f.taps }) d))
    else d) s

/-- R77: the TSF_SHADOW_INSTALL row: a shadow filter with its predicted gain of the mean SNR (0.1 dB) and its residual; from 0.5 dB on it
waits for the next boundary. -/
def execTsfShadowInstall (p : Fin 128) (f : TsfFilter) (g : TsfGain) (s : State) : Out :=
  onDev (fun d =>
    let x := rx d p
    if attr d PORT_STATE p = psCarry ∧ inHoldover d p = false ∧ (x.shadowAt = 0 ∨ x.shadowAt + nsPerS ≤ d.elapsed + 1) then
      modRx p (fun y => { y with shadowAt := d.elapsed + 1, shadow := if 5 ≤ g.gain then some ⟨f.taps, g.correction, f.residual⟩ else y.shadow }) d
    else d) s

/-- R201: the SNR_HISTORY_INTERVAL_END row; the ring of a port runs from reset. -/
def execSnrHistoryIntervalEnd (p : Fin 128) (s : State) : Out :=
  onDev (fun d => if armed d tkSnrInterval p && !due d tkSnrInterval p then d else armInterval p (endInterval p d)) s

end Sys2Proof.Machine
end

