-- ==== Sys2Proof/Machine/Recast.lean ====
section
/-! DEFINITION. Machine/Recast.lean: containers and recast (R101 to R130): how a container is read and built, holes and negative
acknowledgements, release in order, final drops, and the transmit side. -/

namespace Sys2Proof.Machine

/-- Recast of a port. -/
def recast (d : Dev) (p : Nat) : Recast := (port d p).recast

/-! ### Timers by class (R125) -/

/-- R125: the retry in use, ns; 0 where none is. -/
def retryInUse (d : Dev) (p : Nat) : Nat :=
  let r := attr d PORT_RECAST_RETRY p
  if r ≠ 0 then r
  else match attr d PORT_CLASS_NOW p with | 0 => 1200 | 1 => 2000 | 2 => 10000 | _ => 0

/-- R125: the deadline in use, ns, never below the retry in use. -/
def deadlineInUse (d : Dev) (p : Nat) : Nat :=
  let v := attr d PORT_RECAST_DEADLINE p
  let base := if v ≠ 0 then v else match attr d PORT_CLASS_NOW p with | 0 => 2400 | 1 => 6000 | 2 => 20000 | _ => 0
  max base (retryInUse d p)

/-! ### The container (R101 to R109) -/

/-- R103: a field of the header. -/
abbrev hdrKind (h : Nat) : Nat := fieldOf h 127 126
abbrev hdrSeq (h : Nat) : Nat := fieldOf h 125 112

/-- R105: whether the descriptors are present, and the classes, END bits and lengths of those that are. -/
def descriptors (h : Nat) : List (Nat × Bool × Nat) :=
  let l0 := fieldOf h 38 31
  let l1 := fieldOf h 25 18
  (if l0 = 0 then [] else [(fieldOf h 43 40, bitOf h 39, l0)]) ++ (if l1 = 0 then [] else [(fieldOf h 30 27, bitOf h 26, l1)])
    ++ (if bitOf h 17 then [(fieldOf h 16 13, bitOf h 12, 144 - l0 - l1)] else [])

/-- R107. -/
def descriptorsOk (h : Nat) : Bool :=
  let l0 := fieldOf h 38 31
  let l1 := fieldOf h 25 18
  let s2 := bitOf h 17
  (if hdrKind h = 2 then l0 == 0 && l1 == 0 && !s2 else l0 != 0)
    && (l1 == 0 || l0 != 0) && (!s2 || l1 != 0) && decide (l0 ≤ 144) && decide (l1 ≤ 144)
    && decide (l0 + l1 ≤ if s2 then 143 else 144)

/-- R104: fields that read 0 while their valid bit does. -/
def feedbackOk (h : Nat) : Bool :=
  (bitOf h 111 || fieldOf h 110 93 == 0) && (bitOf h 52 || fieldOf h 92 53 == 0)

/-- R108: CHK of a header, whose bits [11:0] do not count, and a payload. -/
def containerChk (h : Nat) (payload : List Byte) : Nat := crc12 ((bitsMsb h 128).take 116 ++ bytesToBits payload)

/-- R109: a received codeword: header, payload and how many symbols were corrected; none where it is rejected. -/
def readContainer (word : List Nat) : Option (Nat × List Byte × Nat) :=
  if word.length ≠ 136 then none
  else
    match rsDecode 8 word with
    | none => none
    | some (w, n) =>
      let bits := symbolsToBits (w.take 128)
      let h := ofBits (bits.take 128)
      let payload := bitsToBytes 144 (bits.drop 128)
      if containerChk h payload = h % 4096 ∧ hdrKind h ≠ 3 ∧ descriptorsOk h ∧ feedbackOk h then some (h, payload, n) else none

/-- R102, R101: a header without its CHK and a payload as a codeword. -/
def writeContainer (h : Nat) (payload : List Byte) : List Nat :=
  let full := h + containerChk h payload
  rsEncode 8 (bitsToSymbols 128 (bitsMsb full 128 ++ bytesToBits payload))

/-- R105: the segments of a container; `times` are the stamps of the segments of a container that is no copy. -/
def segmentsOf (h : Nat) (payload : List Byte) (times : List Nat) : List Segment :=
  let copy := hdrKind h == 1
  let step := fun (acc : Nat × Nat × List Segment) (x : Nat × Bool × Nat) =>
    let s : Segment := ⟨x.1, x.2.1, (payload.drop acc.1).take x.2.2, if copy then none else times[acc.2.1]?⟩
    (acc.1 + x.2.2, acc.2.1 + 1, acc.2.2 ++ [s])
  ((descriptors h).foldl step (0, 0, [])).2.2

/-! ### Frames (R114, R122) -/

/-- The place of a finally dropped container in the order of release. -/
def gapMark : List Segment := [⟨16, true, [], none⟩]

/-- R122 steps 2 and 3: the open frame of every class discarded, every class in resync. -/
def breakFrames (p : Nat) (d : Dev) : Dev :=
  let fs := (recast d p).openFrames
  fs.foldl (fun e f => lineDrop p f.1 1 e) (modRecast p (fun x => { x with openFrames := [], resync := List.range 16 }) d)

/-- R114, R122: a released segment. -/
def appendSegment (p : Nat) (s : Segment) (d : Dev) : Dev :=
  let x := recast d p
  if s.cls = 16 then breakFrames p d
  else if x.resync.contains s.cls then
    if s.fin then lineDrop p s.cls 1 (bump PORT_RESYNC_DISCARDS p 1 (modRecast p (fun y => { y with resync := y.resync.filter (· != s.cls) }) d)) else d
  else
    let was := (x.openFrames.find? fun f => f.1 == s.cls).getD (s.cls, s.stamp, [])
    let now := (s.cls, was.2.1, was.2.2 ++ s.bytes)
    let others := x.openFrames.filter fun f => f.1 != s.cls
    if s.fin then
      let d1 := modRecast p (fun y => { y with openFrames := others }) d
      if fcsGood now.2.2 then frameFromLine p s.cls now.2.2 now.2.1 d1 else lineDrop p s.cls 1 (bump PORT_FCS_DROPS p 1 d1)
    else modRecast p (fun y => { y with openFrames := others ++ [now] }) d

/-! ### Release and final drop (R121 to R123) -/

/-- Whether SEQ `a` is older than `b`. -/
def older (a b : Nat) : Bool := decide (sdiff a b < 0)

/-- R121: accepted containers that no older hole holds back are released, oldest first. -/
def releaseReady (p : Nat) (d : Dev) : Dev :=
  let x := recast d p
  let free := fun (e : Nat × List Segment) => match x.holes with | [] => true | h :: _ => older e.1 h.seq
  let out := x.reorder.filter free
  let d1 := modRecast p (fun y => { y with reorder := y.reorder.filter fun e => !free e }) d
  out.foldl (fun e r => r.2.foldl (fun e2 s => appendSegment p s e2) e) d1

/-- An entry put into the reorder store at its place in SEQ order. -/
def insertReorder (s : Nat) (segs : List Segment) : List (Nat × List Segment) → List (Nat × List Segment)
  | [] => [(s, segs)]
  | e :: r => if older s e.1 then (s, segs) :: e :: r else e :: insertReorder s segs r

/-- R121, R122: one hole finally dropped; what it held back is released, its frames broken off at its place. -/
def dropHole (p s : Nat) (d : Dev) : Dev :=
  if (recast d p).holes.any (fun h => h.seq == s) then
    releaseReady p (bump PORT_RECAST_DROPPED p 1 (modRecast p (fun x => { x with dropsNow := x.dropsNow + 1, holes := x.holes.filter (fun h => h.seq != s), reorder := insertReorder s gapMark x.reorder }) d))
  else d

/-- R121: every hole dropped, oldest first. -/
def dropAllHoles (p : Nat) (d : Dev) : Dev := (recast d p).holes.foldl (fun e h => dropHole p h.seq e) d

/-- Data strings that the reorder store holds. -/
def reorderFill (x : Recast) : Nat := (x.reorder.filter fun e => e.2 != gapMark).length

/-- R121: oldest holes dropped until the store has its 96 places; at most `n`. -/
def fitReorder (p : Nat) : Nat → Dev → Dev
  | 0, d => d
  | n + 1, d =>
    if reorderFill (recast d p) ≤ 96 then d
    else
      match (recast d p).holes with
      | [] => d
      | h :: _ => fitReorder p n (dropHole p h.seq d)

/-- R123: a receiver resynchronises on a container `gap` ahead. -/
def resynchronise (p s gap : Nat) (d : Dev) : Dev :=
  let d1 := releaseReady p (dropAllHoles p d)
  let d2 := setAttr PORT_RX_HIGHEST p s (breakFrames p d1)
  raise clsPort p evRecastResync (min 0xFFFF (gap - 1)) (bump PORT_RESYNCS p 1 (modRecast p (fun x => { x with spec := [], rejects := 0 }) d2))

/-! ### Holes (R117, R118) -/

/-- R118: a NAK of a sequence number queued; its retry timer starts. -/
def queueNak (p s : Nat) (d : Dev) : Dev := modRecast p (fun x => if x.naks.contains s then x else { x with naks := x.naks ++ [s] }) d

/-- R117, R118: one new hole. -/
def makeHole (p s : Nat) (d : Dev) : Dev :=
  let x := recast d p
  if x.holes.any (fun h => h.seq == s) ∨ x.reorder.any (fun e => e.1 == s) then d
  else
    let add := fun at_ => modRecast p (fun y => { y with holes := y.holes ++ [⟨s, d.elapsed + deadlineInUse d p, at_⟩] })
    match x.spec.find? fun e => e.1 == s with
    | some e => add e.2 d
    | none => queueNak p s (add (d.elapsed + retryInUse d p) d)

/-- R117: the sequence numbers skipped by an accepted container become holes. -/
def makeHoles (p h n : Nat) (d : Dev) : Dev := forAll ((List.range n).map fun k => (h + 1 + k) % 16384) (makeHole p) d

/-- R121: holes 512 or more behind H. -/
def dropFarHoles (p : Nat) (d : Dev) : Dev :=
  ((recast d p).holes.filter fun h => decide (512 ≤ sdiff (attr d PORT_RX_HIGHEST p) h.seq)).foldl (fun e h => dropHole p h.seq e) d

/-- A container's segments into the reorder store, and out of it what may go. -/
def storeAccepted (p s : Nat) (segs : List Segment) (d : Dev) : Dev :=
  let d1 := bump PORT_CONT_ACCEPTED p 1 (modRecast p (fun x => { x with reorder := insertReorder s segs x.reorder }) d)
  fitReorder p 512 (releaseReady p d1)

/-- R117: a container with d of 1 to 512. -/
def acceptAhead (p s gap : Nat) (segs : List Segment) (d : Dev) : Dev :=
  let h := attr d PORT_RX_HIGHEST p
  let d1 := setAttr PORT_RX_HIGHEST p s (makeHoles p h (gap - 1) d)
  let d2 := modRecast p (fun x => { x with rejects := 0, spec := x.spec.filter fun e => older s e.1 }) d1
  dropFarHoles p (storeAccepted p s segs d2)

/-- R117: a hole filled. -/
def fillHole (p s : Nat) (segs : List Segment) (d : Dev) : Dev :=
  storeAccepted p s segs (bump PORT_RECAST_FILLED p 1 (modRecast p (fun x => { x with holes := x.holes.filter (fun h => h.seq != s) }) d))

/-- R117: an accepted DATA or RECAST container. -/
def takeContainer (p kind s : Nat) (segs : List Segment) (d : Dev) : Dev :=
  let gap := sdiff s (attr d PORT_RX_HIGHEST p)
  if 1 ≤ gap ∧ gap ≤ 512 then acceptAhead p s gap.toNat segs d
  else if -511 ≤ gap ∧ gap ≤ 0 then
    if (recast d p).holes.any (fun h => h.seq == s) then fillHole p s segs d else bump PORT_DUPLICATES p 1 d
  else if 512 < gap ∧ kind = 0 then storeAccepted p s segs (resynchronise p s gap.toNat d)
  else bump PORT_WINDOW_REJECTS p 1 d

/-- R118 step 1: a rejected container: the speculative NAK, and the REJECT trigger of R213. -/
def rejectContainer (p : Nat) (d : Dev) : Dev :=
  let k := (recast d p).rejects + 1
  let s := (attr d PORT_RX_HIGHEST p + k) % 16384
  let d1 := modRecast p (fun x => { x with rejects := k, spec := (x.spec.filter fun e => e.1 != s) ++ [(s, d.elapsed + retryInUse d p)] }) d
  fireSnapshots p 1 (bump PORT_CONT_REJECTED p 1 (queueNak p s d1))

/-- R118 step 3: a hole NAKed again. -/
def renak (p s : Nat) (d : Dev) : Dev :=
  if (recast d p).holes.any (fun h => h.seq == s && decide (h.nakAt ≤ d.elapsed)) then
    queueNak p s (modRecast p (fun x => { x with holes := x.holes.map fun h => if h.seq = s then { h with nakAt := d.elapsed + retryInUse d p } else h }) d)
  else d

/-! ### Feedback received (R88, R120) -/

/-- R120: a copy to send, oldest SEQ first. DESIGN CHOICE (assumption 112): a second NAK of a number whose copy still waits asks for no
second copy. -/
def insertCopy (s : Nat) : List Nat → List Nat
  | [] => [s]
  | c :: r => if c = s then c :: r else if older s c then s :: c :: r else c :: insertCopy s r

/-- R120: a NAK naming a sequence number. -/
def takeNak (p s : Nat) (d : Dev) : Dev :=
  if (recast d p).store.any (fun c => c.seq == s) then modRecast p (fun x => { x with copies := insertCopy s x.copies }) d
  else bump PORT_NAK_IGNORED p 1 d

/-- R103: the sequence numbers that a header NAKs. -/
def nakRun (h : Nat) : List Nat :=
  if bitOf h 111 then
    let s := fieldOf h 110 97
    s :: ((List.range 4).filter fun n => bitOf h (93 + n)).map fun n => (s + 1 + n) % 16384
  else []

/-- The feedback fields of an accepted header. -/
def takeFeedback (p h : Nat) (d : Dev) : Dev :=
  let run := nakRun h
  let d1 := if run = [] then d else forAll run (takeNak p) (modRecast p (fun x => { x with partnerNakAt := d.elapsed + 1 }) d)
  if bitOf h 52 then partnerNotice p (fieldOf h 92 61) (fieldOf h 60 53) d1 else d1

/-! ### Memory loss in the stores (R379) -/

/-- A data string lost from a store: counted and raised. -/
def storeLoss (p s : Nat) (transmit : Bool) (d : Dev) : Dev :=
  memoryLost (dieOf p) clsDie (dieOf p) 0xFF
    (raise clsPort p evStoreLoss (bitNat transmit * 32768 + s) (bump PORT_STORE_LOSS p 1 d))

/-- R379: a data string of the reorder store that the memory code cannot correct: its container is finally dropped. -/
def loseReorder (p s : Nat) (d : Dev) : Dev :=
  if (recast d p).reorder.any (fun e => e.1 == s && e.2 != gapMark) then
    storeLoss p s false (bump PORT_RECAST_DROPPED p 1 (modRecast p (fun x => { x with dropsNow := x.dropsNow + 1, reorder := x.reorder.map fun e => if e.1 = s then (s, gapMark) else e }) d))
  else d

/-! ### Receiving -/

/-- Whether a port's receiver decodes containers now (R87, R110). -/
def decodes (d : Dev) (p : Nat) : Bool :=
  (attr d PORT_STATE p == psCarry && !inHoldover d p) || (attr d PORT_STATE p == psDormant && (port d p).quiet.burstSent)
    || (attr d PORT_STATE p == psTrain && attr d PORT_TRAIN_PHASE p == 5 && (port d p).train.started)

/-- A container that R109 accepts. -/
def acceptedContainer (p : Nat) (times : List Nat) (c : Nat × List Byte × Nat) (d : Dev) : Dev :=
  let h := c.1
  let d1 := takeFeedback p h (when (decide (0 < c.2.2)) (fun e => bump PORT_RS_SYMBOLS_CORRECTED p c.2.2 (bump PORT_CONT_CORRECTED p 1 e)) (modTrain p (fun x => { x with accepted := true }) d))
  if hdrKind h = 2 then d1 else takeContainer p (hdrKind h) (hdrSeq h) (segmentsOf h c.2.1 times) d1

/-- R90, R109: a container under one table, or under the two candidates of an arbitration. -/
def receiveContainer (p : Nat) (word alt : List Nat) (times : List Nat) (d : Dev) : Dev :=
  match (rx d p).arb with
  | none =>
    match readContainer word with
    | some c => acceptedContainer p times c d
    | none => rejectContainer p d
  | some a =>
    match readContainer word with
    | some c => acceptedContainer p times c (keepAnnounced p a (bump PORT_ARBITRATIONS p 1 d))
    | none =>
      match readContainer alt with
      | some c => acceptedContainer p times c (keepOld p a (bump PORT_ARBITRATIONS p 1 d))
      | none => rejectContainer p d

/-! ### Sending (R110 to R116) -/

/-- The frame that a class sends from: the first in its store that is wholly there. -/
def frameOfClass (l : List LineFrame) (c : Nat) : Option LineFrame :=
  match l.find? fun f => f.cls == c with
  | some f => if f.arriving then none else some f
  | none => none

/-- Bytes of a frame not yet sent. -/
def LineFrame_left (f : LineFrame) : Nat := f.bytes.length - f.sent

/-- The first frame, by class order, that meets a test. -/
def pickFrame (l : List LineFrame) (ok : LineFrame → Bool) : Option LineFrame :=
  classOrder.findSome? fun c => match frameOfClass l c with | some f => if ok f then some f else none | none => none

/-- A piece of a frame sent: the store after it. -/
def advanceFrame (l : List LineFrame) (c n : Nat) : List LineFrame :=
  match l with
  | [] => []
  | f :: r => if f.cls = c then (if f.bytes.length ≤ f.sent + n then r else { f with sent := f.sent + n } :: r) else f :: advanceFrame r c n

/-- A segment of a container being built: the frame it is taken from and its length. -/
structure Piece where
  frame : LineFrame
  len : Nat
  deriving DecidableEq, Repr

/-- Whether a piece ends its frame. -/
def pieceEnds (x : Piece) : Bool := decide (x.frame.bytes.length ≤ x.frame.sent + x.len)

/-- R113: the segments of the next DATA container, and the store after them. -/
def choosePieces (l : List LineFrame) : List Piece × List LineFrame :=
  match pickFrame l fun f => decide (0 < LineFrame_left f) with
  | none => ([], l)
  | some f0 =>
    let n0 := min 144 (LineFrame_left f0)
    let l0 := advanceFrame l f0.cls n0
    if n0 = 144 then ([⟨f0, n0⟩], l0)
    else
      match pickFrame l0 fun f => decide (0 < LineFrame_left f) with
      | none => ([⟨f0, n0⟩], l0)
      | some f1 =>
        let n1 := min (144 - n0) (LineFrame_left f1)
        let l1 := advanceFrame l0 f1.cls n1
        let span := 144 - n0 - n1
        if span = 0 then ([⟨f0, n0⟩, ⟨f1, n1⟩], l1)
        else
          match pickFrame l1 fun f => decide (span ≤ LineFrame_left f) with
          | none => ([⟨f0, n0⟩, ⟨f1, n1⟩], l1)
          | some f2 => ([⟨f0, n0⟩, ⟨f1, n1⟩, ⟨f2, span⟩], advanceFrame l1 f2.cls span)

/-- R105: the descriptors of the chosen segments, header bits [43:12]. -/
def descriptorBits (ps : List Piece) : Nat :=
  let long := fun (x : Piece) => x.frame.cls * 512 + bitNat (pieceEnds x) * 256 + x.len
  match ps with
  | a :: b :: c :: _ => long a * 2 ^ 31 + long b * 2 ^ 18 + 2 ^ 17 + c.frame.cls * 2 ^ 13 + bitNat (pieceEnds c) * 2 ^ 12
  | [a, b] => long a * 2 ^ 31 + long b * 2 ^ 18
  | [a] => long a * 2 ^ 31
  | [] => 0

/-- The payload of the chosen segments, with its fill (R105). -/
def piecesPayload (ps : List Piece) : List Byte := fitBytes (ps.flatMap fun x => (x.frame.bytes.drop x.frame.sent).take x.len) 144

/-- R119: the NAKs that the next header carries, and those left. -/
def nextNaks (d : Dev) (p : Nat) : List Nat × List Nat :=
  let l := (recast d p).naks.mergeSort fun a b => decide (sdiff a b ≤ 0)
  match l with
  | [] => ([], [])
  | s :: r =>
    let near := fun x => decide (1 ≤ sdiff x s) && decide (sdiff x s ≤ 4)
    (s :: r.filter near, r.filter fun x => !near x)

/-- R103, R104: the feedback fields of a header. -/
def feedbackBits (d : Dev) (p : Nat) : Nat :=
  let naks := match (nextNaks d p).1 with
    | [] => 0
    | s :: r => 2 ^ 111 + s * 2 ^ 97 + (r.map fun x => 2 ^ (92 + (sdiff x s).toNat)).sum
  let notice := match (rx d p).notice with
    | none => 0
    | some n => n.set * 2 ^ 61 + n.sf * 2 ^ 53 + 2 ^ 52
  naks + notice + saturateS 8 (recast d p).offset * 2 ^ 44

/-- R119: the NAKs of a header are sent. -/
def sentNaks (p : Nat) (d : Dev) : Dev :=
  let (now, left) := nextNaks d p
  bump PORT_NAK_SENT p now.length (modRecast p (fun x => { x with naks := left }) d)

/-- R276: frames whose first byte a container carries and that asked for a stamp: the byte, flow and tag. -/
def stampsOf (ps : List Piece) : List (Nat × Nat × Nat) :=
  (ps.foldl (fun (acc : Nat × List (Nat × Nat × Nat)) x =>
    (acc.1 + x.len, match x.frame.tag with | some t => if x.frame.sent = 0 then acc.2 ++ [(acc.1, x.frame.flow, t)] else acc.2 | none => acc.2)) (0, [])).2

/-- A codeword with the stamps owed for it. -/
abbrev Built : Type := List Nat × List (Nat × Nat × Nat)

/-- R115: a container with its feedback as it stands now. -/
def finishContainer (p kind seq segs : Nat) (payload : List Byte) (stamps : List (Nat × Nat × Nat)) (d : Dev) : Built × Dev :=
  let h := kind * 2 ^ 126 + seq * 2 ^ 112 + feedbackBits d p + segs
  ((writeContainer h payload, stamps), sentNaks p d)

/-- R116: the transmit store after a new DATA container. -/
def keepSent (l : List SentContainer) (c : SentContainer) : List SentContainer :=
  (l ++ [c]).filter fun x => decide (sdiff c.seq x.seq < 512)

/-- R113, R115: a new DATA container. -/
def sendData (p : Nat) (ps : List Piece) (rest : List LineFrame) (d : Dev) : Built × Dev :=
  let s := attr d PORT_TX_NEXT p
  let c : SentContainer := ⟨s, descriptorBits ps, piecesPayload ps⟩
  let d1 := setAttr PORT_TX_NEXT p ((s + 1) % 16384) (modRecast p (fun x => { x with store := keepSent x.store c }) (modPort p (fun x => { x with store := rest }) d))
  let d2 := (ps.filter pieceEnds).foldl (fun e x => bump FLOW_FRAMES_FROM_HOST x.frame.flow 1 e) d1
  let fill := ((egressOf d2 p).map fun e => e.bytes.length).sum + (rest.map fun x => x.bytes.length).sum
  finishContainer p 0 s c.segs c.payload (stampsOf ps) (setAttr PORT_EGRESS_FILL p fill d2)

/-- R120: copies whose data string the memory code cannot correct are not sent. -/
def loseCopies (p : Nat) (lost : List Nat) (d : Dev) : Dev :=
  ((recast d p).copies.filter lost.contains).foldl (fun e s =>
    storeLoss p s true (modRecast p (fun x => { x with copies := x.copies.filter (· != s), store := x.store.filter fun c => c.seq != s }) e)) d

/-- R111, R113, R120: the container at the next position: a copy, new data, or IDLE. -/
def nextContainer (p : Nat) (d : Dev) : Built × Dev :=
  let x := recast d p
  match x.copies with
  | s :: r =>
    match x.store.find? fun c => c.seq == s with
    | some c => finishContainer p 1 s c.segs c.payload [] (bump PORT_RECAST_SENT p 1 (modRecast p (fun y => { y with copies := r }) d))
    | none => finishContainer p 2 0 0 (List.replicate 144 0#8) [] (modRecast p (fun y => { y with copies := r }) d)
  | [] =>
    let (ps, rest) := if x.noNewData then ([], (port d p).store) else choosePieces (port d p).store
    if ps = [] then finishContainer p 2 0 0 (List.replicate 144 0#8) [] d else sendData p ps rest d

/-- R110, R112: the depth in use. -/
def depthNow (d : Dev) (p : Nat) : Nat := 2 ^ attr d PORT_INTERLEAVE_NOW p

/-- `n` containers in turn. -/
def buildBlock (p : Nat) : Nat → Dev → List Built × Dev
  | 0, d => ([], d)
  | n + 1, d =>
    let (c, d1) := nextContainer p d
    let (cs, d2) := buildBlock p n d1
    (c :: cs, d2)

/-- R110: the stream bits of a block. -/
def blockBitsOf (cs : List (List Nat)) : List Bool :=
  (List.range 136).flatMap fun j => cs.flatMap fun c => bitsMsb (c.getD j 0) 10

/-- R110: the stream bit at which payload byte `b` of container `i` begins. -/
def payloadBitAt (depth i b : Nat) : Nat := ((128 + 8 * b) / 10 * depth + i) * 10 + (128 + 8 * b) % 10

/-- R110, R111: the next block into the transmit bit stream. -/
def sendBlock (p : Nat) (lost : List Nat) (d : Dev) : Dev :=
  let depth := depthNow d p
  let (cs, d1) := buildBlock p depth (loseCopies p lost d)
  let base := (port d1 p).tx.bits.length
  let stamps := (cs.zip (List.range depth)).flatMap fun x => x.1.2.map fun s => (base + payloadBitAt depth x.2 s.1, s.2.1, s.2.2)
  modTx p (fun x => { x with bits := x.bits ++ blockBitsOf (cs.map (·.1)), stamps := x.stamps ++ stamps }) d1

/-- Whether a port's transmitter sends containers now. -/
def sendsContainers (d : Dev) (p : Nat) : Bool :=
  attr d PORT_STATE p == psCarry || (attr d PORT_STATE p == psDormant && (port d p).quiet.burstSent)
    || (attr d PORT_STATE p == psTrain && attr d PORT_TRAIN_PHASE p == 5 && (port d p).train.started)

/-- R115, R117: both directions as they are at RECAST_START. DESIGN CHOICE (assumption 112): a frame half sent before is sent again from
its first byte. -/
def startRecast (p : Nat) (d : Dev) : Dev :=
  setAttr PORT_RX_HIGHEST p 0x3FFF (setAttr PORT_TX_NEXT p 0 (modPort p (fun x => { x with store := x.store.map fun f => { f with sent := 0 } })
    (modTx p (fun x => { x with bits := [], stamps := [] }) (modRecast p (fun _ => {}) d))))

/-- R276: stamps owed that will never be taken, answered as those of dropped frames; a frame still in the store is stamped when it is
sent again. -/
def voidStamps (p : Nat) (d : Dev) : Dev :=
  let x := port d p
  let gone := x.tx.stamps.filter fun s => !(x.store.any fun f => f.flow == s.2.1 && f.tag == some s.2.2)
  gone.foldl (fun e s => reportDropped s.2.1 2 s.2.2 e) (modTx p (fun y => { y with bits := [], stamps := [] }) d)

/-- R121, R128: a port leaves CARRY for a state other than QUIET: holes dropped, what is held released; for DORMANT the sequences stand,
otherwise open frames are discarded. -/
def closeRecast (p : Nat) (dormant : Bool) (d : Dev) : Dev :=
  let d1 := releaseReady p (dropAllHoles p d)
  if dormant then modRecast p (fun x => { x with copies := [], noNewData := false, drained := false }) (voidStamps p d1)
  else
    let d2 := (recast d1 p).openFrames.foldl (fun e f => lineDrop p f.1 1 e) d1
    modRecast p (fun x => { x with openFrames := [], resync := [], spec := [], naks := [], copies := [], rejects := 0, noNewData := false, drained := false })
      (voidStamps p d2)

/-- R127: no receive hole, and no partner NAK during the last retry interval. -/
def recastQuiet (d : Dev) (p : Nat) : Bool :=
  let x := recast d p
  x.holes.isEmpty && (x.partnerNakAt == 0 || decide (x.partnerNakAt + retryInUse d p ≤ d.elapsed + 1))

/-! ### Rows -/

/-- R110 to R115: the CONTAINER_SEND row: one interleave block, and the SEQs of the transmit store that cannot be corrected. -/
def execContainerSend (p : Fin 128) (lost : List Nat) (s : State) : Out :=
  onDev (fun d => if sendsContainers d p then sendBlock p lost d else d) s

/-- R118 step 3: the RENAK_TIMER row of a hole. -/
def execRenakTimer (p : Fin 128) (seq : Fin 16384) (s : State) : Out := onDev (renak p seq) s

/-- R121: the HOLE_DEADLINE row of a hole. -/
def execHoleDeadline (p : Fin 128) (seq : Fin 16384) (s : State) : Out :=
  onDev (fun d => if (recast d p).holes.any (fun h => h.seq == seq.val && decide (h.dropAt ≤ d.elapsed)) then dropHole p seq d else d) s

end Sys2Proof.Machine
end

