-- ==== Sys2Proof/Machine/PortState.lean ====
section
/-! DEFINITION. Machine/PortState.lean: the states of a port (R131 to R133) and everything that a change of state does in other
chapters: recast, swaps, diagnostics, claims, the service channel, chords, the hub, and the commands that wait for it. -/

namespace Sys2Proof.Machine

/-- A port's state. -/
abbrev stateOf (d : Dev) (p : Nat) : Nat := attr d PORT_STATE p

/-- The training of a port. -/
def train (d : Dev) (p : Nat) : Training := (port d p).train

/-! ### Commands on several ports (R138, R421, R432) -/

/-- R421: the result of QUIET_DONE. -/
def quietResult (x : MultiPort) : List Byte :=
  let first := x.bad.foldl (fun (b : Nat × Nat) e => if e.1 < b.1 then e else b) (0xFF, 0)
  maskBytes x.good 16 ++ maskBytes (x.bad.map (·.1)) 16 ++ [byteOf first.1, byteOf first.2]

/-- The completion of a command on several ports. -/
def finishMulti (x : MultiPort) (d : Dev) : Dev :=
  match findJob d x.ref with
  | none => d
  | some j =>
    let status := if x.bad.isEmpty then stOk else stDegraded
    if j.opcode = 0x31 then complete x.ref clsPort x.last evPortStopped stOk [] d
    else if j.opcode = 0x32 then complete x.ref clsDevice 0 evQuietDone status (quietResult x) d
    else complete x.ref clsDevice 0 evWakeDone status (maskBytes x.good 16 ++ maskBytes (x.bad.map (·.1)) 16) d

/-- A port's part of the commands of one opcode is over. -/
def portEnded (op p : Nat) (ok : Bool) (cause : Nat) (d : Dev) : Dev :=
  let mine := fun (x : MultiPort) => x.waiting.contains p && (match findJob d x.ref with | some j => j.opcode == op | none => false)
  let upd := fun (x : MultiPort) =>
    if mine x then { x with waiting := x.waiting.filter (· != p), good := if ok then x.good ++ [p] else x.good, bad := if ok then x.bad else x.bad ++ [(p, cause)], last := p }
    else x
  let all := d.multi.map upd
  (all.filter fun x => x.waiting.isEmpty).foldl (fun e x => finishMulti x e) { d with multi := all.filter fun x => !x.waiting.isEmpty }

/-- A command on several ports begins to wait. -/
def startMulti (c : Call) (ps : List Nat) (d : Dev) : Dev :=
  let d1 := addJob c d
  { d1 with multi := d1.multi ++ [⟨callRef c, ps, [], [], 0⟩] }

/-! ### Engines (R9, R572) -/

/-- R9: the engine serving a port. -/
def engineOf (d : Dev) (p : Nat) : Nat := fieldOf (attr d FACET_ENGINE_MAP (facetOf p)) (8 * (p % 4) + 2) (8 * (p % 4))

/-- R373: whether an engine of a facet is in service. -/
def engineWorks (d : Dev) (f e : Nat) : Bool := bankGet 0 d.faults.engines (5 * f + e) == 0

/-- R572: whether a port's engine can serve it. -/
def portServed (d : Dev) (p : Nat) : Bool := engineWorks d (facetOf p) (engineOf d p)

/-! ### Chords (R164, R165) -/

/-- R165: a chord's state written. -/
def setChordState (c v : Nat) (d : Dev) : Dev := setBlockByte LATTICE_CHORD_STATE 0 c v d

/-- R165: a chord's state after a change of a member, with its event; `carried` is whether that member has just reached CARRY, which
alone ends MISMATCH. -/
def refreshChord (c : Nat) (carried : Bool) (d : Dev) : Dev :=
  let ps := chordPorts d c
  let old := blockByte d LATTICE_CHORD_STATE 0 c
  let n := (ps.filter fun p => stateOf d p == psCarry || stateOf d p == psQuiet).length
  let new := if old = 4 ∧ carried = false then 4 else if n = 0 then 1 else if n = ps.length then 2 else 3
  if chordBound d c = false ∨ new = old then d
  else
    let ev := if new = 2 then evChordUp else if new = 3 then evChordDegraded else evChordDown
    raise clsPort (ps.headD 0) ev c (setChordState c new d)

/-- R164: a member past TIMING_LOCK in TRAIN, in CARRY or in QUIET. -/
def pastLock (d : Dev) (p : Nat) : Bool :=
  (stateOf d p == psTrain && decide (3 ≤ attr d PORT_TRAIN_PHASE p)) || stateOf d p == psCarry || stateOf d p == psQuiet

/-- R28, R164: the members of the chord from which a prism takes its clock: its upstream chord, where a member is past TIMING_LOCK. -/
def clockMembers (d : Dev) (m : Nat) : List Nat :=
  match (List.range 32).find? fun c =>
    let ps := chordPorts d c
    !ps.isEmpty && ps.all (fun p => prismOf p == m && actsAsPartner d p) && ps.any (pastLock d) with
  | some c => chordPorts d c
  | none => []

/-- R164: the member whose recovered clock a prism follows: the lowest in CARRY; without one, the member followed so far where it is
past TIMING_LOCK, else the lowest that is. -/
def clockMember (d : Dev) (m : Nat) : Option Nat :=
  let ps := clockMembers d m
  let now := attr d PRISM_CLOCK_PORT m
  match ps.find? fun p => stateOf d p == psCarry with
  | some p => some p
  | none => if ps.contains now && pastLock d now then some now else ps.find? (pastLock d)

/-- R164, R74: PRISM.CLOCK_SOURCE after a change of a port, with the slew that a change of reference takes. -/
def refreshClock (m : Nat) (d : Dev) : Dev :=
  let (src, p) := match clockMember d m with
    | some p => (1, p)
    | none => (0, 0xFF)
  if attr d PRISM_CLOCK_SOURCE m = src ∧ attr d PRISM_CLOCK_PORT m = p then d
  else arm tkSlew m 0 (setAttr PRISM_CLOCK_SLEWING m 1 (setAttr PRISM_CLOCK_PORT m p (setAttr PRISM_CLOCK_SOURCE m src d)))

/-! ### What a change of state does -/

/-- R133: what a port keeps nothing of. -/
def clearTrained (p : Nat) (d : Dev) : Dev :=
  let d1 := setBlock PORT_GAIN_RX p [] (setBlock PORT_GAIN_TX p [] (setBlock PORT_LOADING_RX p [] (setBlock PORT_LOADING_TX p [] d)))
  setBlock PORT_RETIRE_CAUSE p [] (resetAttrs [PORT_BITS_TX, PORT_BITS_RX, PORT_NET_RATE_TX, PORT_NET_RATE_RX, PORT_RETIRED_TX, PORT_RETIRED_RX,
    PORT_INTERLEAVE_NOW, PORT_OVER_CAP, PORT_CLASS_NOW, PORT_TRAIN_PHASE] p d1)

/-- The receiver at the start of a training or out of use: what R201 and R205 keep stays, and the NEXT coefficients (R85, R133). -/
def freshRx (mask : List Byte) (x : PortRx) : PortRx :=
  { histLow := x.histLow, histSeen := x.histSeen, lqArmed := x.lqArmed, maskNow := mask, next := x.next, countDelta := x.countDelta }

/-- R200, R204: what reads 0 outside TRAIN, CARRY, QUIET and DORMANT, and in TRAIN until CHANNEL_PROBE measures. -/
def clearMeasures (p : Nat) (d : Dev) : Dev := setBlock PORT_SNR_RX p [] (resetAttrs [PORT_LQ_RX, PORT_LQ_RX_AVG, PORT_MARGIN_RX] p d)

/-- R206: the counters that restart at entry to CARRY from RECAST_START. -/
def lineCounters : List Attr :=
  [PORT_CONT_ACCEPTED, PORT_CONT_CORRECTED, PORT_CONT_REJECTED, PORT_NAK_SENT, PORT_RECAST_SENT, PORT_RECAST_FILLED, PORT_RECAST_DROPPED,
   PORT_DUPLICATES, PORT_WINDOW_REJECTS, PORT_NAK_IGNORED, PORT_RESYNC_DISCARDS, PORT_FCS_DROPS, PORT_STORE_LOSS, PORT_RESYNCS,
   PORT_RS_SYMBOLS_CORRECTED, PORT_DATA_SYMBOLS_RX]

/-- R209: claims that a state holds by rank 1; those of another state are given up. -/
def stateClaims (p new : Nat) (d : Dev) : Dev :=
  let traffic := fun h => h == holdTraffic || h == holdRefresh
  let d1 :=
    if new = psTrain ∨ new = psCarry ∨ new = psLegacy then setTx p holdTraffic d
    else if new = psQuiet then setTx p holdRefresh d
    else if traffic (txHolder d p) then setTx p 0 d else d
  if new = psQuiet then setCapture p holdRefresh d1 else if traffic (captureHolder d1 p) then setCapture p 0 d1 else d1

/-- R211: diagnostics that a state ends. -/
def endDiagnostics (p new : Nat) (d : Dev) : Dev :=
  let d1 := if new = psQuiet then abortSnapshots p endPreempted (fun x => x.kind != 0) d else d
  let d2 := abortSnapshots p endState (fun x => !snapshotAllowed x.kind x.trigger new) d1
  if new = psDown ∨ new = psListen then d2 else abortScan p endState d2

/-- R191, R196, R198: what a state does to the service channel. -/
def svcOnState (p new : Nat) (d : Dev) : Dev :=
  let d0 := if new = psTrain ∨ new = psListen then resetSeq p 0 d else d
  let d1 := if new = psCarry then d0 else clearTraining p d0
  let d2 := when (new == psDown || new == psListen || new == psLegacy) (abortMessages p) d1
  let d3 := when (new == psDown || new == psQuiet || new == psDormant || new == psLegacy) (abortPolls p) d2
  let d4 := when (new == psDown || new == psLegacy) (clearPresent p) d3
  refreshSvc p (when (new == psDown || new == psQuiet || new == psDormant || new == psLegacy) (silenceSvc p) d4)

/-- R421: a QUIET or DORMANT entry that fails. -/
def failQuiet (p cause : Nat) (d : Dev) : Dev :=
  if (port d p).quiet.entry.isSome then
    portEnded 0x32 p false cause (disarm tkQuietEntry p (disarm tkDrainWait p (setAttr PORT_QUIET_STATE p 0
      (modRecast p (fun x => { x with noNewData := false, drained := false }) (modQuiet p (fun x => { x with entry := none }) d)))))
  else d

/-- R85, R133: what the neighbours of a port do. -/
def neighbours (p old new : Nat) (d : Dev) : Dev :=
  if new = psListen ∨ new = psDown then
    let d1 := when (port d p).scan.isNone (cancelRamp p) (disarm tkSurvey p d)
    if old = psTrain ∨ old = psCarry ∨ old = psQuiet ∨ old = psDormant then holdCoefficients p d1 else d1
  else if new = psNegotiate ∧ old = psTrain then holdCoefficients p (cancelRamp p (disarm tkSurvey p d))
  else if old = psDormant ∧ new = psCarry then modRx p (fun x => { x with relax := some 4 }) d
  else if new = psLegacy then disarm tkCoeffHold p (freeAggressor p d)
  else d

/-- R136, R137, R572: LISTEN entered. -/
def enterListen (p old : Nat) (d : Dev) : Dev :=
  let t := train d p
  let d1 := arm tkDwell p ((if t.afterFail then t.holdoff else 50) * nsPerMs) d
  let held := !portServed d p
  if old = psDown ∨ t.resolvedSince then
    arm tkNoPartner p nsPerS (modTrain p (fun x => { x with resolvedSince := false, noPartnerRaised := false, held := held }) d1)
  else modTrain p (fun x => { x with held := held }) d1

/-- R154, R83, R84: training begins with ECHO_FIT and an admission ramp; a partner ramps when it starts to transmit. -/
def enterTrain (p : Nat) (d : Dev) : Dev :=
  let ctrl := !(actsAsPartner d p)
  let busy := rampBusy d p
  let t : Training := { train d p with halfB := false, waitRamp := ctrl && busy, rampDone := false, repeated := false, controller := ctrl, rxAgreed := false, txAgreed := false, startSf := none, started := false, accepted := false, recastOk := false, proposed := none, resolvedSince := true, afterFail := false }
  let d1 := modRx p (freshRx (block d PORT_TONE_MASK p)) (modTrain p (fun _ => t) d)
  let d2 := setAttr PORT_RX_STATE p 0 (setAttr PORT_TRAIN_PHASE p 1 (bump PORT_TRAIN_COUNT p 1 d1))
  let d3 := joinSurvey p (modTx p (fun x => { x with pilotGen := pilotSeed d p, form := 0 }) (disarm tkNoPartner p d2))
  let d4 := if ctrl then requestRamp p d3 else d3
  if ctrl && busy then d4 else arm tkPhase p (2 * nsPerMs) d4

/-- R132, R206: CARRY entered. -/
def enterCarry (p old : Nat) (d : Dev) : Dev :=
  let d1 := setAttr PORT_RX_STATE p 2 (modRx p (fun x => { x with missed := 0, detected := 0 }) d)
  if old = psTrain then
    let d2 := bump PORT_COUNTER_EPOCH p 1 (resetAttrs lineCounters p (disarm tkPhase p (setAttr PORT_TRAIN_PHASE p 0 d1)))
    let d3 := joinSurvey p (ratesChanged p (modTrain p (fun x => { x with holdoff := 0, afterFail := false, noNextPage := false }) d2))
    if nextSlot d3 p 7 = 0xFF then startSurvey p d3 else d3
  else joinSurvey p d1

/-- What a state does on entry. -/
def enterState (p old new : Nat) (d : Dev) : Dev :=
  if new = psListen then enterListen p old d
  else if new = psNegotiate then modTx p (fun x => { x with pages := negotiationPages d p }) (arm tkNegotiate p (500 * nsPerMs) d)
  else if new = psTrain then enterTrain p d
  else if new = psCarry then enterCarry p old d
  else if new = psLegacy then
    flushLegacy p <| bump PORT_COUNTER_EPOCH p 1 (resetAttrs [PORT_LEGACY_CORRECTED, PORT_LEGACY_UNCORRECTABLE, PORT_LEGACY_FCS_DROPS] p
      (disarm tkNoPartner p (modTrain p (fun x => { x with holdoff := 0, afterFail := false, resolvedSince := true, noNextPage := false }) d)))
  else if new = psDown then
    disarm tkNoPartner p (dropPortStores p (modTrain p (fun x => { controller := x.controller }) d))
  else d

/-- What a state does on leaving it. -/
def leaveState (p old new : Nat) (d : Dev) : Dev :=
  let d1 := if old = psCarry ∧ new ≠ psQuiet then
      finishSwap p stAborted (closeRecast p (new == psDormant) (failQuiet p 3 d))
    else d
  let d2 := when ((old == psTrain && new != psCarry) || new == psListen || new == psDown) (clearTrained p) d1
  let d3 := if new = psListen ∨ new = psDown then
      setAttr PORT_QUIET_STATE p 0 (setAttr PORT_RX_STATE p 0 (modQuiet p (fun _ => {}) (modRx p (freshRx (List.replicate 64 0#8)) (modRecast p (fun _ => {}) (modTx p (fun x => { pilotGen := x.pilotGen }) d2)))))
    else d2
  let d4 := if old = psDormant then setAttr PORT_WAKE_PENDING p 0 (disarm tkWakeUnanswered p d3) else d3
  let d5 := if old = psNegotiate then modTx p (fun x => { x with pages := [] }) d4 else d4
  let d6 := if old = psLegacy then modPort p (fun x => { x with legacy := none }) d5 else d5
  disarm tkDwell p (disarm tkNegotiate p (if new = psCarry then d6 else disarm tkPhase p d6))

/-- R166, R165, R164: what a chord does. -/
def chordOnState (p old new deadline : Nat) (d : Dev) : Dev :=
  let c := attr d PORT_CHORD p
  if c = 0xFF then d
  else
    let d1 := if old = psCarry ∧ new ≠ psQuiet then arm tkChordMove p deadline d
      else if new = psCarry then disarm tkChordMove p d else d
    let d2 := when (new == psCarry) (forAll ((chordPorts d c).filter fun q => due d1 tkChordMove q) chordWaitOver) d1
    refreshClock (prismOf p) (refreshChord c (new == psCarry) d2)

/-- R138: a graceful stop is over once the port is in DOWN. -/
def stopOnState (p new : Nat) (d : Dev) : Dev :=
  if new = psDown then portEnded 0x31 p true 0 (disarm tkDrainWait p (modPort p (fun x => { x with stop := none, stopSent := false }) d)) else d

/-- R432: a wake is over once the port is in CARRY or LISTEN; R421: an entry once it is in QUIET or DORMANT. -/
def wakeOnState (p new : Nat) (d : Dev) : Dev :=
  if new = psCarry then portEnded 0x33 p true 0 d
  else if new = psListen ∨ new = psDown then portEnded 0x33 p false 0 d
  else if new = psQuiet ∨ new = psDormant then portEnded 0x32 p true 0 d
  else d

/-- R138: where a port goes that is to change state: one that a graceful stop is to silence goes to DOWN when it leaves CARRY for TRAIN
or LISTEN (assumption 109). -/
def stopTarget (d : Dev) (p new cause : Nat) : Nat × Nat :=
  if (port d p).stop.isSome ∧ stateOf d p = psCarry ∧ (new = psListen ∨ new = psTrain) then (psDown, causeHostStop) else (new, cause)

/-- R132: a port changes state. -/
def changeState (p wanted why : Nat) (d : Dev) : Dev :=
  let old := stateOf d p
  let (new, cause) := stopTarget d p wanted why
  if old = new then d
  else
    let d1 := leaveState p old new d
    let d2 := raise clsPort p evPortState (old * 4096 + new * 256 + cause) (setAttr PORT_STATE p new d1)
    let d3 := enterState p old new (when (new != psCarry && new != psQuiet && new != psDormant) (clearMeasures p) <| neighbours p old new (stateClaims p new (calOnPort p new (endDiagnostics p new d2))))
    let d4 := chordOnState p old new (deadlineInUse d p) (svcOnState p new d3)
    wakeOnState p new (stopOnState p new (refreshOversub p d4))

/-! ### Losses and failures (R153, R155, R168) -/

/-- R153, R168: the partner is lost: PARTNER_LOST, and LISTEN; during a graceful stop, DOWN alone (R138). -/
def partnerLost (p cause : Nat) (d : Dev) : Dev :=
  if (port d p).stop.isSome then changeState p psListen cause d else
  let st := stateOf d p
  let phase := if st = psTrain then attr d PORT_TRAIN_PHASE p else if st = psLegacy then 6 else 0
  let why := if st = psLegacy then 0x0B else 2
  let d1 := bump PORT_PARTNER_LOSSES p 1 (setAttr PORT_LAST_FAIL p (phase * 256 + why) d)
  changeState p psListen cause (raise clsPort p evPartnerLost (phase * 256 + st) d1)

/-- R136: the hold-off after one more TRAIN_FAIL. -/
def nextHoldoff (d : Dev) (p : Nat) : Nat :=
  let v := attr d PORT_RETRAIN_HOLDOFF p
  let h := (train d p).holdoff
  if h = 0 then v else min (2 * h) (16 * v)

/-- R155, R144: a training or a negotiation fails: TRAIN_FAIL, and LISTEN for the hold-off. -/
def trainFail (p phase why cause : Nat) (d : Dev) : Dev :=
  let h := nextHoldoff d p
  let d1 := bump PORT_TRAIN_FAILS p 1 (setAttr PORT_LAST_FAIL p (phase * 256 + why) d)
  let d2 := modTrain p (fun x => { x with holdoff := h, afterFail := true }) (raise clsPort p evTrainFail (phase * 256 + why) d1)
  if stateOf d2 p = psListen then arm tkDwell p (h * nsPerMs) d2 else changeState p psListen cause d2

/-- R155: FLOOR. -/
def floorFail (p phase : Nat) (d : Dev) : Dev :=
  if attr d PORT_NEG_MODE p = 0 ∧ (train d p).partnerLegacy then
    modTrain p (fun x => { x with noNextPage := true }) (changeState p psNegotiate causeFloorFallback (setAttr PORT_LAST_FAIL p (phase * 256 + 6) d))
  else trainFail p phase 6 causeTrainFail d

/-! ### Phases (R154) -/

/-- R154: the timeout of a phase, ns. -/
def phaseNs (phase : Nat) : Nat :=
  (match phase with | 1 => 2 | 2 => 4 | 3 => 6 | 4 => 10 | _ => 2) * nsPerMs

/-- R154: the superframe that RECAST_GO names: eight ahead of the count. DESIGN CHOICE (assumption 32): 4 to 16 are allowed. -/
def goTarget (d : Dev) (p : Nat) : Nat := (sfCount d p + 8) % 256

/-- R152: the TABLES message; all 0 where no pair could be built (R155). -/
def tablesMessage (t : Option (List Byte × List Byte)) : List Byte :=
  match t with
  | some x => 0x06#8 :: (x.1 ++ x.2)
  | none => 0x06#8 :: List.replicate 768 0#8

/-- R154: what starts with a phase, at its first start and at its repeat. -/
def beginPhase (p phase : Nat) (d : Dev) : Dev :=
  let d0 := arm tkPhase p (phaseNs phase) d
  match phase with
  | 1 => modTrain p (fun x => { x with halfB := false }) d0
  | 2 => setAttr PORT_RX_STATE p 1 (modRx p (fun x => { x with lockRun := 0, advances := 0, missed := 0 }) d0)
  | 3 => modRx p (fun x => { x with snr := [] }) d0
  | 4 =>
    sendTraining p (tablesMessage (train d p).proposed) (modTrain p (fun x => { x with rxAgreed := false, txAgreed := false }) d0)
  | 5 =>
    let d1 := modTrain p (fun x => { x with startSf := none, started := false, accepted := false, recastOk := false }) d0
    if (train d p).controller then
      sendTraining p [0x09#8, byteOf (goTarget d p)] (modTrain p (fun x => { x with startSf := some (goTarget d p) }) d1)
    else d1
  | _ => d0

/-- R154: the next phase. -/
def startPhase (p phase : Nat) (d : Dev) : Dev :=
  let d1 := beginPhase p phase (modTrain p (fun x => { x with repeated := false }) (setAttr PORT_TRAIN_PHASE p phase d))
  if attr d PORT_CHORD p = 0xFF then d1 else refreshClock (prismOf p) d1

/-- R155: a phase fails for another cause than partner loss, with a last message of the attempt to send before the repeat. -/
def phaseFailSaying (p why : Nat) (say : Dev → Dev) (d : Dev) : Dev :=
  let phase := attr d PORT_TRAIN_PHASE p
  if (train d p).repeated then trainFail p phase why causeTrainFail (say d)
  else beginPhase p phase (say (modTrain p (fun x => { x with repeated := true }) (clearTraining p d)))

/-- R155: a phase fails for another cause than partner loss. -/
def phaseFail (p why : Nat) (d : Dev) : Dev := phaseFailSaying p why id d

/-- R154, R132: RECAST_START ends: CARRY. -/
def carryIfReady (p : Nat) (d : Dev) : Dev :=
  let t := train d p
  if stateOf d p = psTrain ∧ attr d PORT_TRAIN_PHASE p = 5 ∧ t.started ∧ t.accepted ∧ t.recastOk then changeState p psCarry causeTrained d else d

/-- R154: the first container accepted in RECAST_START: the partner's end answers with RECAST_OK and is done with it. -/
def firstAccepted (p : Nat) (d : Dev) : Dev :=
  let t := train d p
  if stateOf d p = psTrain ∧ attr d PORT_TRAIN_PHASE p = 5 ∧ t.accepted then
    if t.controller then carryIfReady p d
    else if t.recastOk then d
    else changeState p psCarry causeTrained (sendTraining p [0x0A#8] (modTrain p (fun x => { x with recastOk := true }) d))
  else d

/-- R428, R438: the first container accepted after an exit from QUIET or DORMANT. -/
def exitAccepted (p : Nat) (d : Dev) : Dev :=
  let q := (port d p).quiet
  if q.decidedAt ≠ 0 ∧ (train d p).accepted then
    let d1 := setAttr PORT_LAST_EXIT p (d.elapsed + 1 - q.decidedAt) (modQuiet p (fun x => { x with decidedAt := 0, burstSent := false, answered := false }) d)
    let cause := match q.entry with
      | some e => if e.fromHost then causeHostWake else causePartnerWake
      | none => causePartnerWake
    setAttr PORT_QUIET_STATE p 0 (modQuiet p (fun x => { x with entry := none }) (changeState p psCarry cause d1))
  else d

/-- The table in effect of a port: loading, gains and retired blocks of both directions. -/
def tablesInEffect (d : Dev) (p : Nat) : List (List Byte) × Nat × Nat :=
  ([block d PORT_LOADING_TX p, block d PORT_GAIN_TX p, block d PORT_LOADING_RX p, block d PORT_GAIN_RX p], attr d PORT_RETIRED_TX p, attr d PORT_RETIRED_RX p)

/-- R67: LOADING_GEN after a change, once for each superframe. -/
def countGeneration (p : Nat) (before d : Dev) : Dev :=
  if tablesInEffect before p = tablesInEffect d p ∨ (rx d p).genDone then d
  else bump PORT_LOADING_GEN p 1 (modRx p (fun x => { x with genDone := true }) d)

/-- R109 to R124: a container arrives at a port that decodes. -/
def containerArrives (p : Nat) (word alt times lost : List Nat) (d : Dev) : Dev :=
  let d1 := receiveContainer p word alt times (modTrain p (fun x => { x with accepted := (attr d PORT_TRAIN_PHASE p == 5) && x.accepted }) (forAll lost (loseReorder p) d))
  exitAccepted p (firstAccepted p (countGeneration p d d1))

/-- R109, R117, R120: the CONTAINER_RECEIVED row. -/
def execContainerReceived (p : Fin 128) (word alt times lost : List Nat) (s : State) : Out :=
  onDev (fun d => if decodes d p then containerArrives p word alt times lost d else d) s

end Sys2Proof.Machine
end

