-- ==== Sys2Proof/Machine/Bringup.lean ====
section
/-! DEFINITION. Machine/Bringup.lean: starting and stopping ports, negotiation, training and chords (R134 to R166), and frames of a
Clause 97 link (R148 to R150, R267). -/

namespace Sys2Proof.Machine

/-! ### Commands -/

/-- R134, R135: PORT_START. -/
def bodyPortStart : Body := fun _ c d =>
  let ps := maskPorts c.params 0
  let down := ps.filter fun p => stateOf d p == psDown
  need (!ps.isEmpty) stOutOfRange <|
  need (ps.all (pathOn d) && !d.startOwed) stPrecondition <|
    okResult (maskBytes down 16) (forAll down (fun p => changeState p psListen causeHostStart) d)

/-- R138: a port silenced, with LINK_STOP sent once where its state has a partner to tell. -/
def stopNow (p : Nat) (d : Dev) : Dev :=
  let st := stateOf d p
  changeState p psDown causeHostStop (when (st == psTrain || st == psCarry || st == psQuiet) (sendStopOnce p) d)

/-- R138: a graceful stop begins on a port in CARRY: a pending swap ends, and the wait of R127 starts. -/
def stopGraceful (c : Call) (p : Nat) (d : Dev) : Dev :=
  let d1 := modPort p (fun x => { x with stop := some (callRef c) }) (endSwap p stAborted d)
  if (port d p).stop.isSome then d1 else arm tkDrainWait p (deadlineInUse d p) d1

/-- R138: PORT_STOP. -/
def bodyPortStop : Body := fun _ c d =>
  let ps := maskPorts c.params 0
  let soft := ps.filter fun p => byteAt c.params 16 == 0 && stateOf d p == psCarry
  need (!ps.isEmpty && decide (byteAt c.params 16 ≤ 1) && reservedZero c.params 17 3) stOutOfRange <|
    let d1 := forAll (ps.filter fun p => !soft.contains p) stopNow d
    if soft.isEmpty then okDev d1 else .accept [] (forAll soft (stopGraceful c) (startMulti c soft d1))

/-- R140: RETRAIN sent: the port trains again from ECHO_FIT. -/
def retrain (p cause : Nat) (d : Dev) : Dev := sendTraining p [0x0E#8] (changeState p psTrain cause d)

/-- R141: PORT_RETRAIN. -/
def bodyPortRetrain : Body := fun _ c d =>
  let ps := maskPorts c.params 0
  need (!ps.isEmpty) stOutOfRange <|
  need (ps.all fun p => stateOf d p == psCarry && pathOn d p) stPrecondition <|
    okDev (forAll ps (fun p => retrain p causeHostRetrain) d)

/-- R29: whether a prism has a chord toward a lower-index member. -/
def hasUpstream (d : Dev) (m : Nat) : Bool :=
  (List.range 32).any fun c => match bankGet none d.chords c with
    | some x => decide (x.2 < attr d LATTICE_INDEX 0) && x.1.any fun p => prismOf p == m
    | none => false

/-- R162: BIND. -/
def bindChord (c remote : Nat) (ps : List Nat) (d : Dev) : Dev :=
  let d1 := { d with chords := bankPut none d.chords c (some (ps, remote)) }
  let d2 := (ps.zip (List.range 4)).foldl (fun e x => setAttr PORT_CHORD_MEMBER x.1 x.2 (setAttr PORT_CHORD x.1 c e)) d1
  setChordState c 1 (forAll ps refreshSvc (enterChordFlows c ps true d2))

/-- R162, R32: UNBIND. -/
def unbindChord (c : Nat) (d : Dev) : Dev :=
  let ps := chordPorts d c
  let clashed := d.clashed.filter (· != c)
  let d1 := { d with chords := bankPut none d.chords c none, clashed := clashed }
  let d2 := enterChordFlows c ps false (forAll ps (fun p e => resetAttrs [PORT_CHORD, PORT_CHORD_MEMBER] p e) d1)
  let d3 := setChordState c 0 (if clashed.isEmpty then setAttr LATTICE_CLASH 0 0 d2 else d2)
  forAll ps refreshSvc (refreshClock (prismOf (ps.headD 0)) d3)

/-- R162: CHORD_BIND. -/
def bodyChordBind : Body := fun _ c d =>
  let chord := byteAt c.params 0
  let act := byteAt c.params 1
  let remote := byteAt c.params 2
  let ps := maskPorts c.params 4
  need (decide (chord ≤ 31) && decide (act ≤ 1) && decide (remote ≤ 7) && reservedZero c.params 3 1) stOutOfRange <|
  if act = 1 then
    if chordBound d chord = false then okDev d
    else need ((chordPorts d chord).all fun p => stateOf d p == psDown) stPrecondition <| okDev (unbindChord chord d)
  else
    need (decide (2 ≤ ps.length) && decide (ps.length ≤ 4) && ps.all (fun p => prismOf p == prismOf (ps.headD 0)) && remote != attr d LATTICE_INDEX 0) stOutOfRange <|
    need (!chordBound d chord && ps.all (fun p => attr d PORT_CHORD p == 0xFF)
      && !(decide (remote < attr d LATTICE_INDEX 0) && hasUpstream d (prismOf (ps.headD 0)))) stConflict <|
    need (ps.all fun p => stateOf d p == psDown) stPrecondition <|
      okDev (bindChord chord remote ps d)

/-! ### Negotiation (R136, R142 to R146, R163) -/

/-- R136: a moment at which a port in LISTEN negotiates; page energy and bursts are none after a TRAIN_FAIL. -/
def negotiateOn (p cause : Nat) (d : Dev) : Dev :=
  let t := train d p
  if stateOf d p = psListen ∧ t.held = false ∧ (cause = causeDwell ∨ t.afterFail = false) then changeState p psNegotiate cause d else d

/-- R146: compatible roles. -/
def rolesFit (d : Dev) (p word : Nat) : Bool := fieldOf word 59 58 == (if attr d PORT_CHORD p = 0xFF then 0 else 1)

/-- R144: the partner's PREFIX holds the bit that Izrath sets. -/
def prefixFits (d : Dev) (p word : Nat) : Bool := bitOf (fieldOf word 42 40) (attr d PRISM_PREFIX (prismOf p))

/-- R163: what the partner's word must say of the chord. -/
def chordFits (d : Dev) (p word : Nat) : Bool :=
  let c := attr d PORT_CHORD p
  fieldOf word 47 45 == remoteIndex d c && fieldOf word 31 29 == (chordPorts d c).length && fieldOf word 28 27 == attr d PORT_CHORD_MEMBER p

/-- R163: every member of a chord goes to LISTEN with TRAIN_FAIL, cause MISMATCH. -/
def chordMismatch (c : Nat) (d : Dev) : Dev :=
  let ps := (chordPorts d c).filter fun p => stateOf d p != psDown
  let was := blockByte d LATTICE_CHORD_STATE 0 c
  let d1 := forAll ps (fun p => trainFail p 0 9 causeTrainFail) (setChordState c 4 d)
  if was = 4 then d1 else raise clsPort ((chordPorts d c).headD 0) evChordMismatch c d1

/-- R27, R165: equal lattice indices: the chord's ports return to LISTEN, with the hold-off that follows a TRAIN_FAIL. -/
def chordClash (c idx : Nat) (d : Dev) : Dev :=
  let ps := (chordPorts d c).filter fun p => stateOf d p != psDown
  let was := blockByte d LATTICE_CHORD_STATE 0 c
  let back := fun p (e : Dev) =>
    let h := nextHoldoff e p
    let e1 := modTrain p (fun x => { x with holdoff := h, afterFail := true }) e
    if stateOf e1 p = psListen then arm tkDwell p (h * nsPerMs) e1 else changeState p psListen causeTrainFail e1
  let d1 := forAll ps back (setAttr LATTICE_CLASH 0 1 (setChordState c 4 { d with clashed := (d.clashed.filter (· != c)) ++ [c] }))
  if was = 4 then d1 else raise clsPort ((chordPorts d c).headD 0) evLatticeIdxClash idx d1

/-- R144, R148: the resolution of a negotiation: the partner's ability word, where it sent one, and where it advertised 1000BASE-T1, whether
the Clause 98 exchange makes Izrath the master of a Clause 97 link. -/
def resolve (p : Nat) (word : Option Nat) (legacy : Option Bool) (d : Dev) : Dev :=
  let w := word.getD 0
  let d1 := modTrain p (fun x => { x with partnerLegacy := legacy.isSome }) (setAttr PORT_PARTNER_ABILITY p w d)
  let speak := word.isSome && offersRilas d p && fieldOf w 63 60 == 1 && rolesFit d p w
  let c := attr d PORT_CHORD p
  if speak && prefixFits d p w then
    if c ≠ 0xFF ∧ fieldOf w 47 45 = attr d LATTICE_INDEX 0 then chordClash c (fieldOf w 47 45) d1
    else if c ≠ 0xFF ∧ chordFits d p w = false then chordMismatch c d1
    else changeState p psTrain causeResolved (setAttr PORT_NEG_RESULT p 1 d1)
  else if legacy.isSome && offersLegacy d p then
    changeState p psLegacy causeResolved (modPort p (fun x => { x with legacy := some ⟨legacy.getD false, attrOn d PORT_LEGACY_LPI p⟩ }) (setAttr PORT_NEG_RESULT p 2 d1))
  else trainFail p 0 (if speak then 8 else 0x0A) causeNoCommon (setAttr PORT_NEG_RESULT p 3 (modTrain p (fun x => { x with noNextPage := false }) d1))

/-! ### Training (R154 to R156) -/

/-- R75, R154: half A ends, with the tail windows placed: ECHO_READY_A, or on the partner's side of a chord ECHO_READY_B at the end of
half B. -/
def echoFitted (p erle : Nat) (windows : List Nat) (d : Dev) : Dev :=
  let t := train d p
  let d1 := setAttr PORT_ERLE p erle (setBlock PORT_ECHO_WINDOWS p ((List.range 8).flatMap fun k => toLE (windows.getD k 0xFFFF) 2) d)
  if t.controller then
    arm tkPhase p (2 * nsPerMs) (sendTraining p [0x01#8] (modTrain p (fun x => { x with halfB := true }) (modRx p (fun x => { x with erleRef := erle }) d1)))
  else startPhase p 2 (sendTraining p [0x02#8] (modRx p (fun x => { x with erleRef := erle }) d1))

/-- R154: whether half A may end (half B on the partner's side): the ramp is complete and ERLE is at least 60 dB. -/
def mayEndEcho (d : Dev) (p erle : Nat) : Bool :=
  let t := train d p
  stateOf d p == psTrain && attr d PORT_TRAIN_PHASE p == 1 && t.rampDone && !t.waitRamp && decide (600 ≤ erle)
    && (if t.controller then !t.halfB else t.halfB)

/-- R112: a requested depth at a class, as a code of PORT.INTERLEAVE_NOW. -/
def depthAt (cls code : Nat) : Nat := if code = 3 then (if cls = 2 then 2 else 0) else code

/-- R156: the class of a port. -/
def measuredClass (d : Dev) (p : Nat) : Nat :=
  let set := attr d PORT_CLASS p
  if set ≠ 3 then set
  else
    let rt := attr d PORT_RT_DELAY p
    let own := if rt ≤ 150000 then 0 else if rt ≤ 500000 then 1 else 2
    let theirs := fieldOf (attr d PORT_PARTNER_ABILITY p) 57 56
    if theirs < 3 ∧ own < theirs then theirs else own

/-- R157: the receive tables of a training, with PORT.MARGIN_USED. -/
def proposeTables (p : Nat) (d : Dev) : Dev :=
  match buildFor d p with
  | some (t, m) => setAttr PORT_MARGIN_USED p m (modTrain p (fun x => { x with proposed := some t }) d)
  | none => setAttr PORT_MARGIN_USED p 0 (modTrain p (fun x => { x with proposed := none }) d)

/-- R154: CHANNEL_PROBE has its measurements: class, depth and tables are fixed, and PROBE_DONE goes out. -/
def probed (p : Nat) (snrs : List (Nat × Nat)) (d : Dev) : Dev :=
  let d1 := refreshSnr p (modRx p (fun x => { x with snr := snrs.foldl (fun b e => bankPut none b e.1 (some (e.2 : Int))) [] }) d)
  if (train d p).controller = false then d1
  else
    let cls := measuredClass d1 p
    let depth := max (depthAt cls (attr d1 PORT_INTERLEAVE p)) (depthAt cls (fieldOf (attr d1 PORT_PARTNER_ABILITY p) 44 43))
    let d2 := proposeTables p (setAttr PORT_INTERLEAVE_NOW p depth (setAttr PORT_CLASS_NOW p cls d1))
    if (train d2 p).proposed.isNone then floorFail p 3 d2 else sendTraining p [0x05#8, byteOf cls, byteOf depth] d2

/-- R154: PROBE_DONE is acknowledged. -/
def probeAcked (p : Nat) (d : Dev) : Dev :=
  if stateOf d p = psTrain ∧ attr d PORT_TRAIN_PHASE p = 3 then startPhase p 4 d else d

/-- R154: LOADING_AGREE ends when both directions are answered with TABLES_OK. -/
def agreed (p : Nat) (d : Dev) : Dev :=
  let t := train d p
  if t.rxAgreed && t.txAgreed then startPhase p 5 d else d

/-- R155: a TABLES message that stands for FLOOR: a loading table all of whose entries are 0. DESIGN CHOICE (assumption 110): with or
without a fine-gain table after it. -/
def floorTables (msg : List Byte) : Bool := (msg.length == 769 || msg.length == 257) && emptyLoad (messageTables msg).1

/-- R154, R155: a TABLES message, for Izrath's transmit direction. -/
def tablesReceived (p : Nat) (msg : List Byte) (d : Dev) : Dev :=
  let t := messageTables msg
  if stateOf d p ≠ psTrain ∨ attr d PORT_TRAIN_PHASE p ≠ 4 then d
  else if floorTables msg then floorFail p 4 d
  else
    let r := if msg.length = 769 then brokenAt d p t.1 t.2 else 6
    if r = 0 then
      agreed p (modTrain p (fun x => { x with txAgreed := true }) (sendTraining p [0x07#8] (setBlock PORT_GAIN_TX p t.2 (setBlock PORT_LOADING_TX p t.1 d))))
    else phaseFailSaying p 7 (sendTraining p [0x08#8, byteOf r]) d

/-- R154: TABLES_OK for Izrath's receive direction. -/
def tablesOk (p : Nat) (d : Dev) : Dev :=
  if stateOf d p ≠ psTrain ∨ attr d PORT_TRAIN_PHASE p ≠ 4 then d
  else
    let t := (train d p).proposed.getD ([], [])
    agreed p (modTrain p (fun x => { x with rxAgreed := true }) (setBlock PORT_GAIN_RX p t.2 (setBlock PORT_LOADING_RX p t.1 d)))

/-- R155: a phase's timeout; ERLE as it stands, 0.1 dB, and the delays of the tail windows. -/
def phaseTimeout (p erle : Nat) (windows : List Nat) (d : Dev) : Dev :=
  let t := train d p
  if stateOf d p ≠ psTrain then d
  else if attr d PORT_TRAIN_PHASE p = 1 then
    if t.controller && !t.halfB then
      if erle < 450 then phaseFail p 3 (setAttr PORT_ERLE p erle d) else echoFitted p erle windows d
    else phaseFail p 1 d
  else phaseFail p 1 d

/-- R139: LINK_STOP received. -/
def linkStop (p : Nat) (d : Dev) : Dev :=
  let st := stateOf d p
  if st = psTrain ∨ st = psCarry ∨ st = psQuiet then changeState p psListen causePartnerStop d else d

/-- A message that only one phase takes. -/
def inPhase (p phase : Nat) (controller : Bool) (f : Dev → Dev) (d : Dev) : Dev :=
  if stateOf d p = psTrain ∧ attr d PORT_TRAIN_PHASE p = phase ∧ (train d p).controller = controller then f d else d

/-- R154, R155: ECHO_READY_A received: half B, in which this end transmits and ramps; a repeat of ECHO_FIT ramps no more. -/
def echoReadyA (p : Nat) (d : Dev) : Dev :=
  inPhase p 1 false (fun e =>
    if (train e p).halfB then e
    else if (train e p).rampDone then arm tkPhase p (2 * nsPerMs) (modTrain p (fun x => { x with halfB := true }) e)
    else
      let busy := rampBusy e p
      let e1 := requestRamp p (modTrain p (fun x => { x with halfB := true, waitRamp := busy }) e)
      if busy then disarm tkPhase p e1 else arm tkPhase p (2 * nsPerMs) e1) d

/-- R154: ECHO_READY_B received. -/
def echoReadyB (p : Nat) (d : Dev) : Dev := inPhase p 1 true (fun e => if (train e p).halfB then startPhase p 2 e else e) d

/-- R152: ADVANCE received by the partner's side: the transmit advance, ps. -/
def advanceReceived (p ps : Nat) (d : Dev) : Dev := inPhase p 2 false (setAttr PORT_RT_DELAY p ps) d

/-- R152: LOCKED received by the partner's side. -/
def lockedReceived (p : Nat) (d : Dev) : Dev := inPhase p 2 false (fun e => startPhase p 3 (setAttr PORT_RX_STATE p 2 e)) d

/-- R152: PROBE_DONE received by the partner's side: class and depth. -/
def probeDone (p cls depth : Nat) (d : Dev) : Dev :=
  inPhase p 3 false (fun e => startPhase p 4 (proposeTables p (setAttr PORT_INTERLEAVE_NOW p depth (setAttr PORT_CLASS_NOW p cls e)))) d

/-- R152: RECAST_GO received by the partner's side: S. -/
def recastGo (p sf : Nat) (d : Dev) : Dev :=
  if stateOf d p = psTrain ∧ (attr d PORT_TRAIN_PHASE p = 5 ∨ attr d PORT_TRAIN_PHASE p = 4) ∧ (train d p).controller = false then
    let d1 := if attr d PORT_TRAIN_PHASE p = 4 then startPhase p 5 d else d
    modTrain p (fun x => { x with startSf := some sf }) d1
  else d

/-- R154: RECAST_OK received. -/
def recastOk (p : Nat) (d : Dev) : Dev :=
  inPhase p 5 true (fun e => carryIfReady p (modTrain p (fun x => { x with recastOk := true }) e)) d

/-! ### Leaving CARRY in order (R127, R138) -/

/-- R138: the wait of R127 is over: LINK_STOP with acknowledgement, and no new DATA. -/
def sendGracefulStop (p : Nat) (d : Dev) : Dev :=
  sendTraining p [0x0F#8] (modRecast p (fun x => { x with noNewData := true, drained := true }) (modPort p (fun x => { x with stopSent := true }) (disarm tkDrainWait p d)))

/-! ### Rows -/

/-- R134: the PORT_START row. -/
def execPortStart (r : Req) (s : State) : Out := issueOut 0x30 bodyPortStart r s
/-- R138: the PORT_STOP row. -/
def execPortStop (r : Req) (s : State) : Out := issueOut 0x31 bodyPortStop r s
/-- R141: the PORT_RETRAIN row. -/
def execPortRetrain (r : Req) (s : State) : Out := issueOut 0x36 bodyPortRetrain r s
/-- R162: the CHORD_BIND row. -/
def execChordBind (r : Req) (s : State) : Out := issueOut 0x35 bodyChordBind r s

/-- R136: the LISTEN_DWELL_END row; while a scan runs the dwell goes on, and it ends with the scan (R219). -/
def execListenDwellEnd (p : Fin 128) (s : State) : Out :=
  onDev (fun d => if (port d p).scan.isSome then d else onExpiry tkDwell p (negotiateOn p causeDwell) d) s

/-- R136, R431: the PAGE_ENERGY row. -/
def execPageEnergy (p : Fin 128) (s : State) : Out :=
  onDev (fun d => if stateOf d p = psDormant ∧ pathOn d p then partnerLost p causePartnerReset d else negotiateOn p causePageEnergy d) s

/-- R144: the NEGOTIATE_RESOLUTION row. -/
def execNegotiateResolution (p : Fin 128) (word : Option (BitVec 64)) (legacy : Option Bool) (s : State) : Out :=
  onDev (fun d => if stateOf d p = psNegotiate then resolve p (word.map (·.toNat)) legacy d else d) s

/-- R132: the NEGOTIATE_TIMEOUT row. -/
def execNegotiateTimeout (p : Fin 128) (s : State) : Out :=
  onDev (onExpiry tkNegotiate p fun d => changeState p psListen causeNegotiateTimeout (modTrain p (fun x => { x with afterFail := false, noNextPage := false }) d)) s

/-- R137: the NO_PARTNER_TIMER row. -/
def execNoPartnerTimer (p : Fin 128) (s : State) : Out :=
  onDev (onExpiry tkNoPartner p fun d => raise clsPort p evNoPartner 0 (modTrain p (fun x => { x with noPartnerRaised := true }) d)) s

/-- R150: the CLAUSE97_LINK_FAIL row. -/
def execClause97LinkFail (p : Fin 128) (s : State) : Out :=
  onDev (fun d => if stateOf d p = psLegacy then partnerLost p causeLinkFail d else d) s

/-- R140: the ECHO_DRIFT_RETRAIN row. -/
def execEchoDriftRetrain (p : Fin 128) (s : State) : Out :=
  onDev (fun d => if stateOf d p = psCarry ∧ attrOn d PORT_AUTO_RETRAIN p ∧ 1024 ≤ (rx d p).echoRun then retrain p causeEchoDrift d else d) s

/-- R154: the ECHO_FIT_HALF_A_END row: ERLE reached (0.1 dB), or the partner's energy seen above −30 dB. -/
def execEchoFitHalfAEnd (p : Fin 128) (erle : Nat) (windows : List Nat) (partner : Bool) (s : State) : Out :=
  onDev (fun d =>
    if partner then inPhase p 1 true (fun e => if (train e p).halfB then e else phaseFail p 4 e) d
    else if mayEndEcho d p erle then
      echoFitted p erle windows d
    else d) s

/-- R154: the CHANNEL_PROBE_DONE row: the SNR of each tone, 1/256 dB. -/
def execChannelProbeDone (p : Fin 128) (snrs : List (Nat × Nat)) (s : State) : Out :=
  onDev (fun d => if stateOf d p = psTrain ∧ attr d PORT_TRAIN_PHASE p = 3 then probed p snrs d else d) s

/-- R155: the TRAIN_PHASE_TIMEOUT row, with ERLE as it stands (0.1 dB) and the delays of the tail windows fitted. -/
def execTrainPhaseTimeout (p : Fin 128) (x : EchoFitted) (s : State) : Out := onDev (onExpiry tkPhase p (phaseTimeout p x.erle x.windows)) s

/-- R154: the ECHO_READY_A row. -/
def execEchoReadyA (p : Fin 128) (s : State) : Out := onDev (echoReadyA p) s
/-- R154: the ECHO_READY_B row. -/
def execEchoReadyB (p : Fin 128) (s : State) : Out := onDev (echoReadyB p) s
/-- R152: the ADVANCE row. -/
def execAdvance (p : Fin 128) (ps : BitVec 32) (_fine : Bool) (s : State) : Out := onDev (advanceReceived p ps.toNat) s
/-- R152: the LOCKED row. -/
def execLocked (p : Fin 128) (s : State) : Out := onDev (lockedReceived p) s
/-- R152: the PROBE_DONE row. -/
def execProbeDone (p : Fin 128) (cls : Fin 3) (depth : Fin 3) (s : State) : Out := onDev (probeDone p cls depth) s
/-- R155: the TABLES row: the message from its code on. -/
def execTables (p : Fin 128) (msg : List Byte) (s : State) : Out := onDev (tablesReceived p msg) s
/-- R154: the TABLES_OK row. -/
def execTablesOk (p : Fin 128) (s : State) : Out := onDev (tablesOk p) s
/-- R154: the TABLES_BAD row. -/
def execTablesBad (p : Fin 128) (_rule : Byte) (s : State) : Out :=
  onDev (fun d => if stateOf d p = psTrain ∧ attr d PORT_TRAIN_PHASE p = 4 then phaseFail p 7 d else d) s
/-- R152: the RECAST_GO row. -/
def execRecastGo (p : Fin 128) (sf : Byte) (s : State) : Out := onDev (recastGo p sf.toNat) s
/-- R154: the RECAST_OK row. -/
def execRecastOk (p : Fin 128) (s : State) : Out := onDev (recastOk p) s

/-- R159, R161: a SWAP_REQ. -/
def swapReqReceived (p : Nat) (msg : List Byte) (d : Dev) : Dev :=
  if stateOf d p ≠ psCarry then d else if msg.length ≤ 1 then swapAsked p d else swapRequest p msg (port d p).quiet.entry.isSome d

/-- R161: the SWAP_REQ row: the message from its code on. -/
def execSwapReq (p : Fin 128) (msg : List Byte) (s : State) : Out := onDev (swapReqReceived p msg) s

/-- R159: the SWAP_REPLY row. -/
def execSwapReply (p : Fin 128) (code : Byte) (s : State) : Out := onDev (swapReply p code.toNat) s

/-- R159: the SWAP_AT row. -/
def execSwapAt (p : Fin 128) (sf dirs : Byte) (s : State) : Out := onDev (fun d => if dirs.toNat ≤ 3 then swapAt p sf.toNat dirs.toNat d else d) s

/-- R132: a RETRAIN received. -/
def retrainReceived (p : Nat) (d : Dev) : Dev := if stateOf d p = psCarry then changeState p psTrain causePartnerRetrain d else d

/-- R132: the RETRAIN row. -/
def execRetrain (p : Fin 128) (s : State) : Out := onDev (retrainReceived p) s

/-- R139: the LINK_STOP row. -/
def execLinkStop (p : Fin 128) (s : State) : Out := onDev (linkStop p) s

/-- R87: the HOLDOVER_TIMEOUT row. -/
def execHoldoverTimeout (p : Fin 128) (s : State) : Out :=
  onDev (fun d => if inHoldover d p ∧ 16 ≤ (rx d p).holdSf then partnerLost p causeHoldover d else d) s

/-- R83, R84: the ADMISSION_RAMP_END row of a prism: 16 superframes of ramp. -/
def rampEnds (m : Nat) (d : Dev) : Dev :=
  let p := attr d PRISM_ADMISSION_PORT m
  if 128 ≤ p ∨ (prism d m).rampSf < 16 then d
  else
    let d1 := modTrain p (fun x => { x with rampDone := true }) d
    let d2 := if scanAt d p .ramp then
        setScan p (fun x => { x with step := .correlating }) (arm tkScan p (1024 * (match (port d p).scan with | some x => x.length | none => 0) * attr d PRISM_SYMBOL_PERIOD m) d1)
      else d1
    releaseRamp m d2

/-- R83: the ADMISSION_RAMP_END row. -/
def execAdmissionRampEnd (m : Fin 8) (s : State) : Out := onDev (rampEnds m) s

/-! ### Clause 97 frames (R267) -/

/-- R267: the class of a frame on a port in LEGACY. -/
def legacyClass (fr : List Byte) : Nat :=
  let tpid := byteAt fr 12 * 256 + byteAt fr 13
  if tpid = 0x8100 ∨ tpid = 0x88A8 then byteAt fr 14 / 32 else 0

/-- R267, R223: the LEGACY_FRAME_RECEIVED row: the frame, when its first bit reached the pins, and the RS frames corrected and
lost since the last. -/
def execLegacyFrameReceived (p : Fin 128) (bytes : List Byte) (time corrected lost : Nat) (s : State) : Out :=
  onDev (fun d =>
    if stateOf d p ≠ psLegacy then d
    else
      let d1 := bump PORT_LEGACY_UNCORRECTABLE p lost (bump PORT_LEGACY_CORRECTED p corrected d)
      if fcsGood bytes then frameFromLine p (legacyClass bytes) bytes (some time) d1
      else lineDrop p (legacyClass bytes) 1 (bump PORT_LEGACY_FCS_DROPS p 1 d1)) s

end Sys2Proof.Machine
end

