-- ==== Sys2Proof/Machine/Quiet.lean ====
section
/-! DEFINITION. Machine/Quiet.lean: QUIET and DORMANT: entry, refreshes and exit (R419 to R432), and the waits of R127 that entry
shares with the graceful stop. -/

namespace Sys2Proof.Machine

/-- The quiet state of a port. -/
def quiet (d : Dev) (p : Nat) : QuietState := (port d p).quiet

/-! ### Entry (R420, R421) -/

/-- A step of an entry written. -/
def setQuietStep (p : Nat) (st : QuietStep) (d : Dev) : Dev := modQuiet p (fun x => { x with entry := x.entry.map fun e => { e with step := st } }) d

/-- R421 step 1: QUIET_REQ, once no swap is pending. -/
def kickQuiet (p : Nat) (d : Dev) : Dev :=
  match (quiet d p).entry with
  | some e =>
    if e.step = .waiting ∧ (swapOf d p).isNone ∧ stateOf d p = psCarry then
      sendTraining p [0x10#8, byteOf (bitNat e.dormant)] (setQuietStep p .asked (setAttr PORT_QUIET_STATE p 1 d))
    else d
  | none => d

/-- R420: a port begins to enter. -/
def beginQuiet (dormant : Bool) (p : Nat) (d : Dev) : Dev :=
  if (quiet d p).entry.isSome then d
  else
    let e : QuietEntry := ⟨dormant, .waiting, true⟩
    kickQuiet p (arm tkQuietEntry p (20 * nsPerMs) (setAttr PORT_QUIET_STATE p 1 (modQuiet p (fun x => { x with entry := some e }) d)))

/-- R420: PORT_QUIET. -/
def bodyPortQuiet : Body := fun _ c d =>
  let ps := maskPorts c.params 0
  let mode := byteAt c.params 16
  need (!ps.isEmpty && decide (mode ≤ 1) && reservedZero c.params 17 3) stOutOfRange <|
  need (ps.all fun p => stateOf d p == psCarry && !captureFailed d p && bitOf (attr d PORT_PARTNER_ABILITY p) (35 - mode)) stPrecondition <|
    .accept [] (forAll ps (beginQuiet (mode == 1)) (startMulti c ps d))

/-- R421: agreed: no new DATA, and the wait of R127 begins. -/
def quietAgreed (p : Nat) (d : Dev) : Dev :=
  arm tkDrainWait p (deadlineInUse d p)
    (setQuietStep p .draining (setAttr PORT_QUIET_STATE p 2 (modRecast p (fun x => { x with noNewData := true })
      (modQuiet p (fun x => { x with agreedAt := d.elapsed }) d))))

/-- R421: QUIET_REPLY received. -/
def quietReply (p code : Nat) (d : Dev) : Dev :=
  match (quiet d p).entry with
  | some e => if e.step = .asked then (if code = 0 then quietAgreed p d else failQuiet p 1 d) else d
  | none => d

/-- R419: QUIET_REQ received in the partner role: agreed, or busy while a swap is pending or an entry runs. -/
def quietRequest (p mode : Nat) (d : Dev) : Dev :=
  if stateOf d p ≠ psCarry then d
  else if (swapOf d p).isSome ∨ (quiet d p).entry.isSome ∨ (port d p).stop.isSome then sendTraining p [0x11#8, 0x02#8] d
  else if 1 < mode ∨ captureFailed d p = true then sendTraining p [0x11#8, 0x01#8] d
  else
    let e : QuietEntry := ⟨mode == 1, .draining, false⟩
    sendTraining p [0x11#8, 0x00#8] (quietAgreed p (modQuiet p (fun x => { x with entry := some e }) (arm tkQuietEntry p (20 * nsPerMs) d)))

/-- R421: QUIET_AT received: S. -/
def quietAt (p sf : Nat) (d : Dev) : Dev :=
  match (quiet d p).entry with
  | some e => if e.fromHost then d else setQuietStep p (.scheduled sf) d
  | none => d

/-- R421 step 2: QUIET_AT, naming eight superframes ahead. DESIGN CHOICE (assumption 32): 4 to 64 are allowed. -/
def sendQuietAt (p : Nat) (d : Dev) : Dev :=
  let sf := goTarget d p
  sendTraining p [0x12#8, byteOf sf] (setQuietStep p (.scheduled sf) (modRecast p (fun x => { x with drained := true }) (disarm tkDrainWait p d)))

/-- R421 step 4: QUIET or DORMANT entered at boundary S + 1; R128 for DORMANT. -/
def enterQuiet (p : Nat) (dormant : Bool) (d : Dev) : Dev :=
  let d1 := modQuiet p (fun _ => { sfSince := 1 }) (disarm tkQuietEntry p (disarm tkDrainWait p d))
  let d2 := modTx p (fun x => { x with bits := [], stamps := [], form := 0 }) (modRecast p (fun x => { x with noNewData := false, drained := false, copies := [] }) d1)
  let d3 := setAttr PORT_QUIET_STATE p (if dormant then 4 else 3) (bump PORT_QUIET_ENTRIES p 1 d2)
  if dormant then setAttr PORT_RX_STATE p 0 (modRecast p (fun x => { x with store := [], reorder := [] }) (changeState p psDormant causeHostDormant d3))
  else changeState p psQuiet causeHostQuiet d3

/-- R127, R421: superframe S begins: the marker says QUIET_NEXT and only IDLE containers go, where no hole is left and no NAK came during
the last retry; once a deadline has passed since the agreement the holes left are dropped first. DESIGN CHOICE (assumption 112): where
neither holds the entry fails. -/
def quietNext (p : Nat) (d : Dev) : Dev :=
  let expired := decide ((quiet d p).agreedAt + deadlineInUse d p ≤ d.elapsed)
  if recastQuiet d p = false ∧ expired = false then failQuiet p 2 d
  else modTx p (fun x => { x with form := 2 }) (modRecast p (fun x => { x with copies := [] }) (if recastQuiet d p then d else dropAllHoles p d))

/-- R421: an entry reaches a boundary: in S the marker says QUIET_NEXT; at S + 1 QUIET or DORMANT is entered. -/
def quietBoundary (p count : Nat) (d : Dev) : Dev :=
  match (quiet d p).entry with
  | some e =>
    match e.step with
    | .scheduled sf =>
      if stateOf d p ≠ psCarry then d
      else if sf = count then quietNext p d
      else if (sf + 1) % 256 = count then enterQuiet p e.dormant d
      else d
    | .waiting => kickQuiet p d
    | _ => d
  | none => d

/-! ### The wait of R127 -/

/-- R127: the wait is over for a graceful stop or an entry. -/
def drainOver (p : Nat) (d : Dev) : Dev :=
  let x := port d p
  if x.stop.isSome && !x.stopSent then sendGracefulStop p d
  else
    match x.quiet.entry with
    | some e =>
      if e.step = .draining then
        if e.fromHost then sendQuietAt p d else modRecast p (fun x => { x with drained := true }) (disarm tkDrainWait p d)
      else d
    | none => d

/-! ### Refresh (R423, R424) -/

/-- R423: N. -/
def refreshEvery (d : Dev) (p : Nat) : Nat :=
  let t := attr d PRISM_SYMBOL_PERIOD (prismOf p)
  if t = 68 then 57 else if t = 72 then 54 else 48

/-- R424: a refresh judged: marker and refresh correlation in 1/1000, the residual offset in 1/64 sample. -/
def judgeRefresh (p marker corr : Nat) (offset : Int) (d : Dev) : Dev :=
  let x := quiet d p
  if stateOf d p ≠ psQuiet ∨ x.sfSince % refreshEvery d p ≠ 0 then d
  else if marker < 500 ∨ corr < 500 ∨ 128 < offset.natAbs then
    let d1 := bump PORT_REFRESHES_MISSED p 1 (modQuiet p (fun y => { y with missed := y.missed + 1 }) d)
    if 3 ≤ x.missed + 1 then partnerLost p causeRefreshLost d1 else d1
  else setAttrInt PORT_RX_OFFSET p offset (modQuiet p (fun y => { y with missed := 0 }) d)

/-! ### Exit (R425 to R432) -/

/-- R426: the tangent burst and then containers. DEDUCED (assumption 115): out of DORMANT the burst holds the transmitter (R209) under
code 2. -/
def startBurst (p : Nat) (d : Dev) : Dev :=
  when (stateOf d p == psDormant) (setTx p holdRefresh) <| modTx p (fun x => { x with bits := [], stamps := [], form := 0, pilotGen := tangentSeed d p }) (modQuiet p (fun x => { x with burstSent := true, burstLeft := 4 }) d)

/-- R426: QUIET is left: the port is in CARRY from the decision. -/
def exitQuiet (p cause : Nat) (d : Dev) : Dev :=
  changeState p psCarry cause (startBurst p (setAttr PORT_QUIET_STATE p 0 (modQuiet p (fun _ => { decidedAt := d.elapsed + 1 }) d)))

/-- R428: a DORMANT exit is decided, where none is under way. -/
def exitDormant (p : Nat) (host : Bool) (d : Dev) : Dev :=
  if (quiet d p).decidedAt ≠ 0 then d
  else
    let e : QuietEntry := ⟨true, .asked, host⟩
    let d1 := modQuiet p (fun _ => { entry := some e, decidedAt := d.elapsed + 1 }) (setAttr PORT_QUIET_STATE p 5 (setAttr PORT_WAKE_PENDING p 0 d))
    let d2 := startWake p d1
    arm tkWakeUnanswered p nsPerMs (modTx p (fun x => { x with pilotGen := refreshSeed d p }) d2)

/-- R432: one port of PORT_WAKE. -/
def wakePort (p : Nat) (d : Dev) : Dev := if stateOf d p = psQuiet then exitQuiet p causeHostWake d else exitDormant p true d

/-- R432: PORT_WAKE. -/
def bodyPortWake : Body := fun _ c d =>
  let ps := maskPorts c.params 0
  need (!ps.isEmpty) stOutOfRange <|
  need (ps.all fun p => (stateOf d p == psQuiet || stateOf d p == psDormant) && pathOn d p) stPrecondition <|
    .accept [] (forAll ps wakePort (startMulti c ps d))

/-- R428 step 2: the partner's relock symbols in 16 slots: the tangent burst follows. -/
def relocked (p : Nat) (offset : Int) (d : Dev) : Dev :=
  let x := quiet d p
  if stateOf d p = psDormant ∧ x.decidedAt ≠ 0 ∧ x.burstSent = false then
    let d1 := disarm tkWakeUnanswered p (modQuiet p (fun y => { y with answered := true }) d)
    if offset.natAbs ≤ 128 then startBurst p d1 else d1
  else d

/-! ### Rows -/

/-- R420: the PORT_QUIET row. -/
def execPortQuiet (r : Req) (s : State) : Out := issueOut 0x32 bodyPortQuiet r s
/-- R432: the PORT_WAKE row. -/
def execPortWake (r : Req) (s : State) : Out := issueOut 0x33 bodyPortWake r s
/-- R419: the QUIET_REQ row. -/
def execQuietReq (p : Fin 128) (mode : Byte) (s : State) : Out := onDev (quietRequest p mode.toNat) s
/-- R421: the QUIET_REPLY row. -/
def execQuietReply (p : Fin 128) (code : Byte) (s : State) : Out := onDev (quietReply p code.toNat) s
/-- R421: the QUIET_AT row. -/
def execQuietAt (p : Fin 128) (sf : Byte) (s : State) : Out := onDev (quietAt p sf.toNat) s

/-- R127: the RECAST_DRAINED row. -/
def execRecastDrained (p : Fin 128) (s : State) : Out := onDev (fun d => if recastQuiet d p then drainOver p d else d) s

/-- R127: the DRAIN_WAIT_TIMEOUT row. -/
def execDrainWaitTimeout (p : Fin 128) (s : State) : Out := onDev (onExpiry tkDrainWait p fun d => drainOver p (dropAllHoles p d)) s

/-- R421: the QUIET_ENTRY_TIMEOUT row. -/
def execQuietEntryTimeout (p : Fin 128) (s : State) : Out := onDev (onExpiry tkQuietEntry p (failQuiet p 2)) s

/-- R423, R424: the QUIET_REFRESH row. -/
def execQuietRefresh (p : Fin 128) (marker corr : Nat) (offset : Int) (s : State) : Out := onDev (judgeRefresh p marker corr offset) s

/-- R425, R426: the TANGENT_BURST_DETECTED row. -/
def execTangentBurstDetected (p : Fin 128) (s : State) : Out :=
  onDev (fun d => if stateOf d p = psQuiet then exitQuiet p causePartnerWake d else d) s

/-- R428: the RELOCK_DETECTED row: the residual offset, 1/64 sample. -/
def execRelockDetected (p : Fin 128) (offset : Int) (s : State) : Out := onDev (relocked p offset) s

/-- R431: the WAKE_UNANSWERED row. -/
def execWakeUnanswered (p : Fin 128) (s : State) : Out :=
  onDev (onExpiry tkWakeUnanswered p fun d =>
    if stateOf d p = psDormant ∧ (quiet d p).answered = false then partnerLost p causeWakeUnanswered d else d) s

end Sys2Proof.Machine
end

