-- ==== Sys2Proof/Machine/Adapt.lean ====
section
/-! DEFINITION. Machine/Adapt.lean: the adaptive receiver of a port, tone by tone (R76 to R79, R82, R85, R87, R97): what is subtracted from
a received symbol, how it is equalised, and which changes of coefficients are allowed in which state and how far. -/

namespace Sys2Proof.Machine

/-! ### A received symbol (R76, R78, R79) -/

/-- A coefficient of a list by tone; 0 where none is held. -/
def coefAt (l : List (Nat × Cx)) (t : Nat) : Cx := bankGet (0, 0) l t

/-- R79: the aggressors of the seven active slots. -/
def activeAggressors (d : Dev) (p : Nat) : List Nat := ((List.range 7).map (nextSlot d p)).filter (· != 0xFF)

/-- R79, R85: the coefficients kept for an aggressor. -/
def nextCoefs (x : PortRx) (q : Nat) : List (Nat × Cx) := bankGet [] x.next q

/-- R76, R79: a tone of a received symbol less the echo head and the crosstalk of the active aggressors; silence of either cancels
to nothing (R85). -/
def cancelled (d : Dev) (p t : Nat) (y : Cx) : Cx :=
  let x := rx d p
  let z := cxSub y (cxApply (coefAt x.head t) (sentOn d p t))
  (activeAggressors d p).foldl (fun z q => cxSub z (cxApply (coefAt (nextCoefs x q) t) (sentOn d q t))) z

/-- R78: a symbol after cancellation and equalisation. -/
def equalised (d : Dev) (p : Nat) (tones : List (Nat × Cx)) : List (Nat × Cx) :=
  tones.map fun e => (e.1, cxApply (coefAt (rx d p).eq e.1) (cancelled d p e.1 e.2))

/-- R78: the common phase of a symbol, from its pilots against those expected. -/
def commonPhase (labels : List Nat) (zs : List (Nat × Cx)) : Cx :=
  (labels.zip (List.range 8)).foldl (fun acc x =>
    match zs.find? fun e => e.1 == 64 * x.2 + 32 with
    | some e => cxAdd acc (cxMul e.2 (cxConj (mapPoint x.1 2)))
    | none => acc) (0, 0)

/-- R78: a symbol as the demapper takes it. -/
def demapped (d : Dev) (p slot : Nat) (tones : List (Nat × Cx)) : List (Nat × Cx) :=
  let zs := equalised d p tones
  let c := commonPhase (farPilots d p slot) zs
  if c = (0, 0) then zs else zs.map fun e => (e.1, cxUnturn c e.2)

/-! ### Changes of coefficients (R76, R78, R82, R85, R97) -/

/-- How far a change of a coefficient may go: not at all, freely, or to 2^-k of the coefficient's magnitude. -/
inductive StepLimit where
  | frozen
  | free
  | bounded (k : Nat)
  deriving DecidableEq, Repr

/-- R76, R423: whether coefficients move at all: in TRAIN; in CARRY out of hold-over; in QUIET while Izrath itself sends. -/
def adapts (d : Dev) (p : Nat) : Bool :=
  let st := stateOf d p
  st == psTrain || (st == psCarry && !inHoldover d p) || (st == psQuiet && !(port d p).tx.symbol.isEmpty)

/-- R78: whether a tone carries decisions in a data symbol: loaded, and its block not retired. -/
def carriesBits (d : Dev) (p t : Nat) : Bool := decide (0 < loadOf (block d PORT_LOADING_RX p) t) && !bitOf (attr d PORT_RETIRED_RX p) (blockOf t)

/-- R82, R85, R97: the limit of a NEXT coefficient: only where the aggressor sends energy; 2^-11, or 2^-8 in the four superframes after
it left DORMANT. In the survey slot a coefficient still 0 takes its first value freely (assumption 104). -/
def nextLimit (d : Dev) (p q t : Nat) : StepLimit :=
  if sentOn d q t = (0, 0) then .frozen
  else if (activeAggressors d p).contains q then .bounded (if (rx d q).relax.isSome then 8 else 11)
  else if nextSlot d p 7 = q then (if coefAt (nextCoefs (rx d p) q) t = (0, 0) then .free else .bounded 11)
  else .frozen

/-- R97: the limit of a change asked for in slot `slot`. -/
def stepLimit (d : Dev) (p slot : Nat) (x : AdaptItem) : StepLimit :=
  if adapts d p = false then .frozen
  else
    let train := stateOf d p == psTrain
    match x with
    | .head _ => if train then .free else .bounded 12
    | .tail _ => if train then .free else if slot % 16 = 0 ∧ (0 < slot ∨ stateOf d p = psQuiet) then .bounded 12 else .frozen
    | .eq t =>
      if train then .free
      else if stateOf d p = psQuiet ∨ carriesBits d p t = decide (0 < slot) then .bounded 10 else .frozen
    | .next q t => if train && (activeAggressors d p ++ [nextSlot d p 7]).contains q.val && sentOn d q t != (0, 0) then .free else nextLimit d p q t

/-- A change held to its limit. -/
def heldStep (l : StepLimit) (c s : Cx) : Cx :=
  match l with
  | .frozen => (0, 0)
  | .free => s
  | .bounded k => boundStep k c 64 s

/-- A coefficient of a list by tone changed within its limit. -/
def stepCoef (l : StepLimit) (t : Nat) (s : Cx) (cs : List (Nat × Cx)) : List (Nat × Cx) :=
  bankPut (0, 0) cs t (cxAdd (coefAt cs t) (heldStep l (coefAt cs t) s))

/-- One change applied. -/
def applyStep (p slot : Nat) (x : AdaptStep) (d : Dev) : Dev :=
  let l := stepLimit d p slot x.item
  modRx p (fun r =>
    match x.item with
    | .head t => { r with head := stepCoef l t x.step r.head }
    | .eq t => { r with eq := stepCoef l t x.step r.eq }
    | .next q t => { r with next := bankPut [] r.next q (stepCoef l t x.step (nextCoefs r q)) }
    | .tail k => { r with tail := bankPut 0 r.tail k (bankGet 0 r.tail k + (heldStep l (coefOne, 0) x.step).1) }) d

/-- R76 to R82: a received symbol of slot `slot`: equalised with the coefficients as they stand, which then change. -/
def receiveSymbol (p slot : Nat) (tones : List (Nat × Cx)) (steps : List AdaptStep) (d : Dev) : Dev :=
  let st := stateOf d p
  if st = psTrain ∨ st = psCarry ∨ st = psQuiet then
    steps.foldl (fun e x => applyStep p slot x e) (modRx p (fun r => { r with received := demapped d p slot tones }) d)
  else d

/-! ### The shortening filter (R77) -/

/-- R77: the shadow filter that waits is installed, with the equaliser's correction; in hold-over every adaptive item is frozen. -/
def installShadow (p : Nat) (d : Dev) : Dev :=
  match (rx d p).shadow with
  | none => d
  | some f =>
    if stateOf d p ≠ psCarry then modRx p (fun r => { r with shadow := none }) d
    else if inHoldover d p then d
    else
      bump PORT_TSF_UPDATES p 1 (setAttrInt PORT_TSF_RESIDUAL p f.residual (modRx p (fun r =>
        { r with shadow := none, tsf := f.taps,
                 eq := f.correction.foldl (fun cs e => bankPut (0, 0) cs e.1 (cxApply e.2 (coefAt cs e.1))) r.eq }) d))

end Sys2Proof.Machine
end

