-- ==== Sys2Proof/Machine/Spare.lean ====
section
/-! DEFINITION. Machine/Spare.lean: the spare engine of a facet (R9 to R11), SLOW marks (R95, R281) and faults of engines (R372, R373,
R572). -/

namespace Sys2Proof.Machine

/-! ### Engines (R9) -/

/-- R373: the state of an engine: 0 in service, 1 out of service and under test, 2 FAILED. -/
def engineState (d : Dev) (f e : Nat) : Nat := bankGet 0 d.faults.engines (5 * f + e)

/-- An engine's state written, with FACET.ENGINE_FAILED. -/
def setEngine (f e st : Nat) (d : Dev) : Dev :=
  setAttr FACET_ENGINE_FAILED f (withBit (attr d FACET_ENGINE_FAILED f) e (st == 2))
    (modFaults (fun x => { x with engines := bankPut 0 x.engines (5 * f + e) st }) d)

/-- R32: the engine map of a facet with port `p` on engine `e`. -/
def mapEngine (p e : Nat) (d : Dev) : Dev :=
  let f := facetOf p
  let old := attr d FACET_ENGINE_MAP f
  setAttr FACET_ENGINE_MAP f (old - engineOf d p * 2 ^ (8 * (p % 4)) + e * 2 ^ (8 * (p % 4))) d

/-- The ports of a facet held in LISTEN by R572, ascending. -/
def heldPorts (d : Dev) (f : Nat) : List Nat := (portsOfFacet f).filter fun p => (train d p).held

/-- R572: an engine can serve a held port again: it negotiates by R136. -/
def releaseHeld (p : Nat) (d : Dev) : Dev :=
  if (train d p).held && portServed d p then
    let d1 := modTrain p (fun x => { x with held := false }) d
    if stateOf d1 p = psListen then arm tkDwell p (50 * nsPerMs) d1 else d1
  else d

/-! ### The spare (R10, R11) -/

/-- The move to the spare that is decided for a facet: its rank and port. -/
def pendingTakeover (d : Dev) (f : Nat) : Option (Nat × Nat) := (d.faults.takeovers.find? fun t => t.1 == f).map (·.2)

/-- R11: the rank of what the spare is used for now; 9 where it is idle, 0 where it is out of service. -/
def spareRank (d : Dev) (f : Nat) : Nat :=
  if engineState d f 4 ≠ 0 then 0
  else
    match pendingTakeover d f with
    | some t => t.1
    | none => let st := attr d FACET_SPARE_STATE f; if st = 0 then 9 else if st = 5 then 0 else st

/-- R11: the use of the spare that stands or is decided: its rank and port. -/
def spareUse (d : Dev) (f : Nat) : Option (Nat × Nat) :=
  match pendingTakeover d f with
  | some t => some t
  | none =>
    let st := attr d FACET_SPARE_STATE f
    if st = 0 ∨ st = 5 then none else some (st, attr d FACET_SPARE_PORT f)

/-- R11: a slice that the spare covers, or is about to cover, is aborted. -/
def stopCovered (f : Nat) (d : Dev) : Dev :=
  match spareUse d f with
  | some (3, p) => stopSlice (5 * f + p % 4) d
  | _ => d

/-- R10: the port on the spare goes back to its own engine; the spare is idle. -/
def returnPort (f : Nat) (d : Dev) : Dev :=
  let p := attr d FACET_SPARE_PORT f
  let d1 := if p < 128 then mapEngine p (p % 4) d else d
  setAttr FACET_SPARE_PORT f 0xFF (setAttr FACET_SPARE_STATE f 0 (modFaults (fun x => { x with takeovers := x.takeovers.filter fun t => t.1 != f }) d1))

/-- R11: a request for the spare: where it outranks the present use, that use ends and the move is decided. -/
def requestSpare (p rank : Nat) (d : Dev) : Dev :=
  let f := facetOf p
  if rank < spareRank d f then
    modFaults (fun x => { x with takeovers := x.takeovers ++ [(f, rank, p)] }) (returnPort f (stopSlice (5 * f + 4) (stopCovered f d)))
  else d

/-- R11: whether the spare is on the way to a port, or serves it, after a request. -/
def spareTaken (d : Dev) (p : Nat) : Bool :=
  attr d FACET_SPARE_PORT (facetOf p) == p || (match pendingTakeover d (facetOf p) with | some t => t.2 == p | none => false)

/-- R10: the spare takes over the port for which it was requested; where its source had stalled, the 64 rounds after the move begin
(R375). -/
def takeOver (f : Nat) (d : Dev) : Dev :=
  match pendingTakeover d f with
  | none => d
  | some (rank, p) =>
    let e := engineOf d p
    let d1 := modFaults (fun x => { x with takeovers := x.takeovers.filter fun t => t.1 != f }) d
    let d2 := setAttr FACET_SPARE_PORT f p (setAttr FACET_SPARE_STATE f rank (mapEngine p 4 d1))
    let d3 := if (source d p).handled then arm tkSourceStall p 2560 d2 else d2
    releaseHeld p (raise clsPort p evSpareTakeover (16 * rank + e) d3)

/-- R572: a spare that has become free is asked for by the lowest port held for want of an engine. -/
def spareFreed (f : Nat) (d : Dev) : Dev :=
  match (heldPorts d f).filter fun p => !portServed d p with
  | p :: _ => requestSpare p 1 d
  | [] => d

/-- R10, R572: the spare given back by the port on it, and offered to a held port. -/
def giveBackSpare (f : Nat) (d : Dev) : Dev := spareFreed f (returnPort f d)

/-! ### SLOW marks (R95, R281) -/

/-- Whether an element is marked SLOW. -/
def isSlow (d : Dev) (key : Nat) : Bool := d.faults.slow.any fun x => x.1 == key

/-- R95, R281: an element marked SLOW, with SLOW once for the marking, on its port or lane. -/
def markSlow (key cls inst detail : Nat) (d : Dev) : Dev :=
  if isSlow d key then d else raise cls inst evSlow detail (modFaults (fun x => { x with slow := x.slow ++ [(key, inst)] }) d)

/-- The key of the engine that serves a port. -/
def engineKey (d : Dev) (p : Nat) : Nat := elementKey clsFacet (facetOf p) (engineOf d p)

/-- R281: a mark cleared, with SLOW_CLEARED on what was marked. -/
def clearSlow (key cls : Nat) (d : Dev) : Dev :=
  match d.faults.slow.find? fun x => x.1 == key with
  | some m => raise cls m.2 evSlowCleared 0 (modFaults (fun x => { x with slow := x.slow.filter fun y => y.1 != key }) d)
  | none => d

/-! ### Faults of engines (R372, R373, R572) -/

/-- R387, R572: a port whose engine is lost without cover. -/
def secondEngine (p e : Nat) (d : Dev) : Dev :=
  let f := facetOf p
  if stateOf d p = psDown then d
  else
    let d1 := unmasked clsFacet f e 1 unmSecondEngine (changeState p psListen causeEngineFault d)
    modTrain p (fun x => { x with held := true }) (disarm tkDwell p d1)

/-- R372: the causes of an engine fault: 0 STALL, 1 ENERGY, 2 MEMORY, 3 TEST. -/
abbrev engineMemory : Nat := 2

/-- R503: DECOMMISSIONED. -/
abbrev lcDecommissioned : Nat := 3

/-- R373, R385: an engine FAILED: FAULT and its PERMANENT record. -/
def failEngine (f e : Nat) (d : Dev) : Dev := permanentFault clsFacet f e 1 (setEngine f e 2 (disarm tkVerdict (5 * f + e) d))

/-- "When recoveries meet": the spare faults: a port on it goes back to its own engine where that works, and is lost where it does not. -/
def spareFault (lost : Nat → Nat → Dev → Dev) (f : Nat) (d : Dev) : Dev :=
  let p := attr d FACET_SPARE_PORT f
  let d2 := setAttr FACET_SPARE_STATE f 5 (modFaults (fun x => { x with takeovers := x.takeovers.filter fun t => t.1 != f }) (stopCovered f d))
  if p < 128 then
    let d3 := setAttr FACET_SPARE_PORT f 0xFF (mapEngine p (p % 4) d2)
    if engineState d f (p % 4) = 0 then raise clsPort p evSpareTakeover (16 * 1 + 4) d3 else lost p (p % 4) d3
  else d2

/-- R372: an engine faulted: it leaves service for its test slice, and its port goes to the spare; `lost` is what becomes of a port
that no engine can take. -/
def engineFaultWith (lost : Nat → Nat → Dev → Dev) (f e : Nat) (d : Dev) : Dev :=
  if engineState d f e ≠ 0 then d
  else
    let d1 := noteFault (elementKey clsFacet f e) (bump FACET_ENGINE_FAULTS f 1 d)
    let d2 := arm tkVerdict (5 * f + e) (10 * nsPerMs) (setEngine f e 1 d1)
    let p := 4 * f + e
    let d3 :=
      if e = 4 then spareFault lost f d2
      else if attr d FACET_SPARE_PORT f = p then
        raise clsPort p evSpareTakeover (16 * 1 + e) (setAttr FACET_SPARE_STATE f 1 (if attr d FACET_SPARE_STATE f = 3 then stopSlice (5 * f + e) d2 else d2))
      else
        let d4 := requestSpare p 1 d2
        if spareTaken d4 p then d4 else lost p e d4
    if attr d DEVICE_LC_STATE 0 = lcDecommissioned then failEngine f e d3 else d3

/-- R372, R572: an engine faulted: its port goes to the spare or to LISTEN. -/
def engineFault (f e : Nat) (d : Dev) : Dev := engineFaultWith secondEngine f e d

/-- R397, R373: an engine is back in service: its port returns to it, or is served by it again. -/
def engineBack (f e : Nat) (d : Dev) : Dev :=
  let d1 := setEngine f e 0 d
  if e = 4 then spareFreed f (setAttr FACET_SPARE_STATE f 0 d1)
  else if attr d1 FACET_SPARE_PORT f = 4 * f + e then giveBackSpare f d1
  else
    let d2 := modFaults (fun x => { x with takeovers := x.takeovers.filter fun t => t.2.2 != 4 * f + e }) d1
    spareFreed f (releaseHeld (4 * f + e) d2)

/-- R373: whether an engine, slice or lane has faulted at most twice in the last hour, this fault counted. -/
def fewFaults (d : Dev) (key : Nat) : Bool := decide ((recentFaults d key).length ≤ 2)

/-- R373: the verdict of the test slice after a fault. -/
def engineVerdict (f e : Nat) (pass : Bool) (d : Dev) : Dev :=
  if engineState d f e ≠ 1 then d
  else if pass && fewFaults d (elementKey clsFacet f e) then
    engineBack f e (faultCleared clsFacet f e 1 (disarm tkVerdict (5 * f + e) d))
  else failEngine f e d

/-! ### Rows -/

/-- R10: the SPARE_TAKEOVER row of a facet. -/
def execSpareTakeover (f : Fin 32) (s : State) : Out := onDev (takeOver f) s

/-- R372: the ENGINE_FAULT row: an engine and why it is judged faulted (0 STALL, 1 ENERGY, 2 MEMORY, 3 TEST); a MEMORY fault is an
uncorrectable word of the engine's die (R400). -/
def execEngineFault (f : Fin 32) (e : Fin 5) (cause : Fin 4) (s : State) : Out :=
  onDev (fun d => engineFault f e (if cause.val = engineMemory then bump DIE_MEM_UNCORRECTABLE (dieOf (4 * f)) 1 d else d)) s

/-- R373: the ENGINE_FAULT_VERDICT row: the test slice passed or failed. -/
def execEngineFaultVerdict (f : Fin 32) (e : Fin 5) (pass : Bool) (s : State) : Out := onDev (engineVerdict f e pass) s

end Sys2Proof.Machine
end

