-- ==== Sys2Proof/Machine/Identity.lean ====
section
/-! DEFINITION. Machine/Identity.lean: the unique ID and the per-die records (R501, R502), from what is fixed at manufacture. -/

namespace Sys2Proof.Machine

/-- R500, R501: the twelve bytes of a die's record. -/
def dieRecord (die : Nat) : List Byte :=
  toLE (Config.lot die) 4 ++ [byteOf (Config.wafer die), byteOf (Config.dieX die), byteOf (Config.dieY die),
    byteOf (if die < 2 then 0 else 1), byteOf (Config.stepLetter die), byteOf (Config.stepDigit die), 0#8, 0#8]

/-- R501: the unique ID as a number. -/
def uidValue : Nat :=
  Config.serial % 2 ^ 48 * 2 ^ 80 + Config.lot 2 % 2 ^ 32 * 2 ^ 48 + Config.wafer 2 % 32 * 2 ^ 43 + Config.dieX 2 % 256 * 2 ^ 35
    + Config.dieY 2 % 256 * 2 ^ 27 + crc32c (dieRecord 0 ++ dieRecord 1) % 2 ^ 27

/-- R501: the unique ID as sent. -/
def uidBytes : List Byte := toBE uidValue 16

end Sys2Proof.Machine
end

