-- ==== Sys2Proof/Machine/View.lean ====
section
/-! DEFINITION. Machine/View.lean: what an attribute reads as (R319, R320): the stored value, or, for an attribute that only shows
other state, what that state gives. -/

namespace Sys2Proof.Machine

/-- R338: a master's transport. -/
def transportCode (d : Dev) (m : Nat) : Nat :=
  if m < 2 then (if (master d m).dynAddr.isSome then 2 else 1) else if transportUp d m then 3 else 0

/-- R367: fences of a master outstanding. -/
def fencesOf (d : Dev) (m : Nat) : Nat := (d.jobs.filter fun j => j.ref.master == m && j.opcode == 0x28).length

/-- R493: CHECK.STATE of a unit. -/
def checkStateOf (d : Dev) (i : Nat) : Nat :=
  if d.scans.any fun r => r.unit == i then 1
  else if d.jobs.any fun j => j.deferred && j.opcode == 0x88 && byteAt j.params 0 == i then 2
  else 0

/-- The attributes that show other state, with what they read as for an instance. -/
def shown (d : Dev) (i : Nat) : List (Attr × Nat) :=
  [(DEVICE_CMD_OUTSTANDING, outstanding d i), (DEVICE_TRANSPORT, transportCode d i), (DEVICE_LEASE_LEFT, timeLeft d tkLease 0 / nsPerMs),
   (EVENTQ_COUNT, (master d i).events.length), (EVENTQ_FENCES, fencesOf d i), (PORT_HOLES, (recast d i).holes.length),
   (PORT_REORDER_FILL, reorderFill (recast d i)), (TIME_NOW, d.devTime), (DEVICE_SERIAL, Config.serial % 2 ^ 48),
   (DEVICE_ROM_VERSION, Config.romVersion), (CAL_STATE, calStateOf d i), (CAL_SPARES, calSpares d i), (CHECK_STATE, checkStateOf d i),
   (DEVICE_POWER_BUSY, bitNat (d.power.set.isSome || d.power.firing.isSome))]

/-- What a value attribute's instance reads as. -/
def readValue (d : Dev) (a : Attr) (i : Nat) : Nat :=
  match (shown d i).find? fun x => x.1.code == a.code with
  | some x => x.2 % 2 ^ a.width
  | none => attr d a i

/-- What a block attribute's instance reads as. -/
def readBlock (d : Dev) (a : Attr) (i : Nat) : List Byte := if a.code = DEVICE_UID.code then uidBytes else block d a i

end Sys2Proof.Machine
end

