-- ==== Sys2Proof/Machine/Superframe.lean ====
section
/-! DEFINITION. Machine/Superframe.lean: the prism grid (R12, R40 to R52): superframe boundaries and what takes effect at them, data
symbol slots, and the partner's markers (R86, R87, R90 to R96, R200 to R207). -/

namespace Sys2Proof.Machine

/-! ### Measures of the superframe that ends -/

/-- R70, R72: the averaged arrival offset; beyond two samples TIMING_FAULT and hold-over. -/
def takeOffset (p : Nat) (offset : Int) (d : Dev) : Dev :=
  if stateOf d p ≠ psCarry ∨ inHoldover d p then d
  else
    let d1 := setAttrInt PORT_RX_OFFSET p offset (modRecast p (fun x => { x with offset := offset }) d)
    if 128 < offset.natAbs then enterHoldover p (raise clsPort p evTimingFault (saturateS 16 offset) d1) else d1

/-- R76, R140: the enhancement in use, and the run of superframes 15 dB or more below its reference. -/
def takeErle (p erle : Nat) (d : Dev) : Dev :=
  let st := stateOf d p
  if st = psTrain ∨ st = psCarry ∨ st = psQuiet then
    let d1 := setAttr PORT_ERLE p (min 0xFFFF erle) d
    if st = psCarry ∧ inHoldover d p = false then
      modRx p (fun x => { x with echoRun := if erle + 150 ≤ x.erleRef then x.echoRun + 1 else 0 }) d1
    else d1
  else d

/-- R202: the error-vector ratio of a tone of `b` bits from its decision error power: 10^(−m/10) at the margin m of its decision SNR over
req[b], in units of 2^-20. -/
def toneEvrOf (b e : Nat) : Nat := e * powerOf (req b).toNat / (pointEnergy b * 2 ^ 20)

/-- R202: the ratios of the tones that carried bits in the superframe, tones of retired blocks left out. -/
def loadedEvr (d : Dev) (p : Nat) (errs : List (Nat × Nat)) : List (Nat × Nat) :=
  (errs.filter fun e => carriesBits d p e.1).map fun e => (e.1, toneEvrOf (loadOf (block d PORT_LOADING_RX p) e.1) e.2)

/-- R202: the error-vector ratio of a list of tones, weighted by bits, in units of 2^-20. -/
def evrMean (d : Dev) (p : Nat) (l : List (Nat × Nat)) : Nat :=
  let b := fun t => loadOf (block d PORT_LOADING_RX p) t
  (l.map fun e => b e.1 * e.2).sum / max 1 ((l.map fun e => b e.1).sum)

/-- R203: LQ of a ratio. -/
def lqOf (evr : Nat) : Nat := (128 + evrLevel 80 evr (-128) 255).toNat

/-- R205: the block whose loaded tones have the largest ratio, the lower on a tie. DEDUCED (assumption 47): the margin of a block is taken as R202
takes the port's. -/
def worstBlock (d : Dev) (p : Nat) (l : List (Nat × Nat)) : Nat :=
  ((List.range 32).foldl (fun (b : Nat × Nat) n =>
    let e := evrMean d p (l.filter fun x => blockOf x.1 == n)
    if b.2 < e then (n, e) else b) (0, 0)).1

/-- R205: LQ_LOW after 16 superframes below LQ_WARN; armed again by 256 at LQ_WARN + 8 or more. -/
def judgeLq (p lq worst : Nat) (d : Dev) : Dev :=
  let warn := attr d PORT_LQ_WARN p
  let d1 := modRx p (fun x =>
    let high := if warn + 8 ≤ lq then x.lqHighRun + 1 else 0
    { x with lqLowRun := if lq < warn then x.lqLowRun + 1 else 0, lqHighRun := high, lqArmed := x.lqArmed || decide (256 ≤ high) }) d
  let x := rx d1 p
  if warn ≠ 0 ∧ x.lqArmed ∧ 16 ≤ x.lqLowRun then
    raise clsPort p evLqLow (256 * lq + worst) (bump PORT_LQ_LOW_COUNT p 1 (modRx p (fun y => { y with lqArmed := false, lqHighRun := 0 }) d1))
  else d1

/-- R203 to R205: link quality of the superframe. -/
def takeEvr (p : Nat) (errs : List (Nat × Nat)) (d : Dev) : Dev :=
  let l := loadedEvr d p errs
  if stateOf d p ≠ psCarry ∨ inHoldover d p ∨ l = [] then d
  else
    let e := evrMean d p l
    let first := (rx d p).evrHist.isEmpty
    let d1 := modRx p (fun x => { x with toneEvr := l, evrHist := (e :: x.evrHist).take 256 }) d
    let hist := (rx d1 p).evrHist
    let lq := lqOf e
    let d2 := setAttr PORT_LQ_RX_AVG p (lqOf (hist.sum / hist.length)) (setAttr PORT_LQ_RX p lq d1)
    let d3 := setAttr PORT_LQ_RX_MIN p (if first then lq else min lq (attr d2 PORT_LQ_RX_MIN p)) d2
    judgeLq p lq (worstBlock d p l) (setAttrInt PORT_MARGIN_RX p (evrLevel 100 e (-1000) 1603) d3)

/-- What a port measured over the superframe that ends. -/
def takeMeasure (x : SfMeasure) (d : Dev) : Dev :=
  let p := x.port.val
  takeEvr p x.errs (takeErle p x.erle (when (stateOf d p == psCarry) (setAttr PORT_NEXT_CANCEL p (min 0xFFFF x.cancel)) (takeOffset p x.offset d)))

/-- R90, R122, R206: the end of a superframe on a port: an undecided arbitration, the drops of the superframe, the symbols received. -/
def endSuperframe (p : Nat) (d : Dev) : Dev :=
  let d1 := expireArbitration p d
  let n := (recast d1 p).dropsNow
  let d2 := if n = 0 then d1 else raise clsPort p evContainerDrop (min 0xFFFF n) (modRecast p (fun x => { x with dropsNow := 0 }) d1)
  if inHoldover d p then modRx p (fun x => { x with holdSf := x.holdSf + 1 }) d2 else d2

/-! ### Pace shedding (R94 to R96) -/

/-- R94: the receive set once every announced retirement has taken effect, changes that wait for the next notice included. -/
def nextSet (d : Dev) (p : Nat) : Nat :=
  let x := rx d p
  let base := match x.arb with
    | some a => a.setNew
    | none => match x.notice with
      | some n => n.set
      | none => attr d PORT_RETIRED_RX p
  x.wanted.foldl changedSet base

/-- R94: the block to retire: the most loaded bits, the lower number on a tie, keeping R91; none where there is none. -/
def shedBlock (d : Dev) (p : Nat) : Option Nat :=
  let load := block d PORT_LOADING_RX p
  let set := nextSet d p
  ((List.range 32).foldl (fun (b : Option (Nat × Nat)) n =>
    let k := blockBits load n
    if bitOf set n ∨ k = 0 ∨ bitsInEffect load (withBit set n true) < 136 then b
    else match b with
      | some x => if x.2 < k then some (n, k) else b
      | none => some (n, k)) none).map (·.1)

/-- R95: the floor: the engine marked SLOW and the spare asked for; PACE_FLOOR where it does not come. -/
def paceFloor (p margin : Nat) (d : Dev) : Dev :=
  let e := engineOf d p
  let d1 := markSlow (engineKey d p) clsPort p (0x8000 + min 0x7FFF margin) d
  let d2 := if e = 4 then d1 else requestSpare p 2 d1
  if e ≠ 4 ∧ spareTaken d2 p then d2
  else if (rx d2 p).atFloor then d2
  else
    modRx p (fun x => { x with atFloor := true })
      (unmasked clsPort p e 1 unmPaceFloor (raise clsPort p evPaceFloor (min 0xFFFF margin) d2))

/-- R94 to R96: the projected margin of a port's engine, from its measured margin `m` and the receive bits of the superframe
that ended. -/
def paceBoundary (p m bits : Nat) (d : Dev) : Dev :=
  if stateOf d p ≠ psCarry ∨ inHoldover d p ∨ bits = 0 then d
  else
    let load := block d PORT_LOADING_RX p
    let next := bitsInEffect load (nextSet d p)
    let calm := match (rx d p).paceOrder with
      | b :: _ => decide (282 * (next + blockBits load b) ≤ m * bits)
      | [] => false
    let d1 := modRx p (fun x => { x with paceCalm := if calm then x.paceCalm + 1 else 0 }) d
    if 256 * next ≤ m * bits then modRx p (fun x => { x with atFloor := false }) d1
    else if d.brownout.isSome then d1
    else
      match shedBlock d1 p with
      | some b => wantChange p ⟨b, retPace, false, m * bits / max 1 next⟩ (modRx p (fun x => { x with atFloor := false }) d1)
      | none => paceFloor p m d1

/-! ### The superframe that begins -/

/-- R159, R160: a scheduled swap at a boundary: directions whose SWAP marker passed change; a missed marker leaves the receive
direction to arbitration. -/
def swapBoundary (p count : Nat) (d : Dev) : Dev :=
  match swapOf d p with
  | none => d
  | some s =>
    if s.sf = some count then changeDirections p s.marked d
    else if s.sf = some ((count + 255) % 256) ∧ (rx d p).arb.isNone then afterSwapBoundary p d
    else d

/-- R160: what follows boundary S, where no arbitration is open. -/
def swapSettled (p count : Nat) (d : Dev) : Dev :=
  match swapOf d p with
  | some s => if s.sf = some count ∧ (rx d p).arb.isNone then afterSwapBoundary p d else d
  | none => d

/-- R44, R159, R421: the form of the marker that opens superframe `count`, beside QUIET_NEXT. -/
def markerForm (p count : Nat) (d : Dev) : Dev :=
  if sendsSwapForm d p count then markSwap p 0 (modTx p (fun x => { x with form := 1 }) d) else modTx p (fun x => { x with form := 0 }) d

/-- R59, R67: the trained tables take effect at a boundary: no block is retired (assumption 111), the rates follow, and LOADING_GEN counts
the change once. -/
def tablesTakeEffect (p : Nat) (d : Dev) : Dev :=
  let d1 := ratesChanged p (setBlock PORT_RETIRE_CAUSE p [] (resetAttrs [PORT_RETIRED_TX, PORT_RETIRED_RX] p d))
  if (rx d p).genDone then d1 else bump PORT_LOADING_GEN p 1 (modRx p (fun x => { x with genDone := true }) d1)

/-- R110, R154: containers start at data symbol 1 of superframe S. -/
def startContainers (p count : Nat) (d : Dev) : Dev :=
  let t := train d p
  if stateOf d p = psTrain ∧ attr d PORT_TRAIN_PHASE p = 5 ∧ t.startSf = some count ∧ t.started = false then
    startRecast p (tablesTakeEffect p (modTrain p (fun x => { x with started := true }) d))
  else d

/-- Whether a superframe of QUIET carries a refresh (R423). -/
def refreshNow (d : Dev) (p : Nat) : Bool := stateOf d p == psQuiet && decide (0 < (quiet d p).sfSince) && (quiet d p).sfSince % refreshEvery d p == 0

/-- Whether a port's transmitter sends symbols at all in this part of TRAIN (R154, R84). -/
def trainSends (d : Dev) (p : Nat) : Bool :=
  let t := train d p
  if attr d PORT_TRAIN_PHASE p = 1 then !t.waitRamp && (t.controller || t.halfB) else true

/-- R154: whether the port is the controller in half B of ECHO_FIT, which sends markers and pilots only. -/
def pilotsOnly (d : Dev) (p : Nat) : Bool := attr d PORT_TRAIN_PHASE p == 1 && (train d p).controller && (train d p).halfB

/-- R217: a scan that transmits. -/
def scanSends (d : Dev) (p : Nat) : Bool := scanAt d p .ramp || scanAt d p .correlating

/-- R151: a probe symbol on the line, from a fresh seed or from where the generator stands. -/
def sendProbe (p : Nat) (seed : Option Nat) (d : Dev) : Dev :=
  let (sym, g) := probeOuts (if scanSends d p then block d PORT_TONE_MASK p else (rx d p).maskNow) (seed.getD (port d p).tx.pilotGen) (launchLevel d p)
  modTx p (fun x => { x with symbol := sym, pilotGen := g }) d

/-- R46, R154: a data slot of half B of ECHO_FIT on the controller: its pilots alone. -/
def sendPilots (p slot : Nat) (d : Dev) : Dev :=
  modTx p (fun x => { x with symbol := pilotOuts (launchLevel d p) (pilotLabels (pilotStateAt (pilotSeed d p) slot)).1 }) d

/-- R425: one symbol of a tangent burst. -/
def sendBurst (p : Nat) (d : Dev) : Dev := sendProbe p none (modQuiet p (fun x => { x with burstLeft := x.burstLeft - 1 }) d)

/-- R40, R43 to R45, R218, R425: what a port sends in slot 0: a burst or scan symbol, or its marker with the pilots of the count. In TRAIN
before S the marker points carry no fine gain, as probe symbols do. -/
def sendMarker (p count : Nat) (d : Dev) : Dev :=
  let st := stateOf d p
  let gains := if st = psTrain ∧ sendsContainers d p = false then [] else block d PORT_GAIN_TX p
  let form := if st = psCarry then (port d p).tx.form else 0
  let marks := (st == psTrain && trainSends d p) || st == psCarry || refreshNow d p || (st == psDormant && decide ((quiet d p).decidedAt ≠ 0))
  if (quiet d p).burstLeft ≠ 0 then sendBurst p d
  else if marks then
    modTx p (fun x => { x with symbol := markerOuts (markerSeed d p) count form (rx d p).maskNow gains (launchLevel d p) }) d
  else if scanSends d p then sendProbe p none d
  else modTx p (fun x => { x with symbol := [] }) d

/-- What takes effect on a port at the boundary that opens superframe `count`; `m` and `bits` are its engine's margin and its
receive bits in the superframe before, where it measured. -/
def startSuperframe (count : Nat) (measured : List (Nat × Nat × Nat)) (p : Nat) (d : Dev) : Dev :=
  let d0 := modRx p (fun x => { x with genDone := false, relax := x.relax.map (· - 1) }) d
  let d1 := setAttrInt PORT_TX_PSD_NOW p (psdStep (attrInt d0 PORT_TX_PSD_NOW p) (attrInt d0 PORT_TX_PSD p)) d0
  let d2 := openArbitration p (swapBoundary p count (installShadow p (applyPartnerNotice p d1)))
  let d3 := swapSettled p count (applyExchange p d2)
  let d4 := match measured.find? fun x => x.1 == p with
    | some x => paceBoundary p x.2.1 x.2.2 d3
    | none => d3
  let d5 := startContainers p count (markerForm p count (issueNotice p d4))
  let d6 := if stateOf d5 p = psQuiet then modQuiet p (fun x => { x with sfSince := x.sfSince + 1 }) d5 else d5
  sendMarker p count (quietBoundary p count (countGeneration p d0 d6))

/-- R39: an accepted prefix takes effect. -/
def applyPrefix (m : Nat) (d : Dev) : Dev :=
  if (prism d m).prefixPending then
    setAttr PRISM_SYMBOL_PERIOD m (periodOf (attr d PRISM_PREFIX m)) (modPrism m (fun x => { x with prefixPending := false }) d)
  else d

/-- R74: the clock moves toward its reference by at most 0.2 ppm. -/
def slewClock (m : Nat) (reference : Int) (d : Dev) : Dev :=
  let target := if attr d PRISM_CLOCK_SOURCE m = 0 then 0 else reference
  let now := attrInt d PRISM_CLOCK_OFFSET m
  setAttrInt PRISM_CLOCK_OFFSET m (now + clampInt (target - now) (-200) 200) (modPrism m (fun x => { x with reference := target }) d)

/-- R40 to R42: a superframe boundary of a prism. -/
def superframeBoundary (m : Nat) (clock : Int) (ms : List SfMeasure) (d : Dev) : Dev :=
  let here := ms.filter fun x => prismOf x.port.val == m
  let measured := here.map fun x => (x.port.val, x.engine, attr d PORT_BITS_RX x.port.val)
  let d1 := here.foldl (fun e x => takeMeasure x e) (forAll (portsOfPrism m) endSuperframe d)
  let d2 := slewClock m clock (applyPrefix m (bump PRISM_SF_COUNT m 1 d1))
  let ramping := attr d2 PRISM_ADMISSION_PORT m != 0xFF
  let d3 := modPrism m (fun x => { x with slot := 0, boundaryAt := d.elapsed + 1, rampSf := if ramping then x.rampSf + 1 else 0 }) (snapshotBoundary m d2)
  forAll (portsOfPrism m) (fun p e => startSuperframe (sfCount d3 p) measured p e) d3

/-! ### Data symbols (R46, R51, R52, R151) -/

/-- R52: stream bits enough for one data symbol, blocks being started as they run short; at most `n`. -/
def fillStream (p need : Nat) : Nat → Dev → Dev
  | 0, d => d
  | n + 1, d => if need ≤ (port d p).tx.bits.length then d else fillStream p need n (sendBlock p [] d)

/-- R276: stamps owed for frames whose first bit went out in the first `n` bits of the stream. -/
def settleStamps (p n : Nat) (d : Dev) : Dev :=
  let ss := (port d p).tx.stamps
  let d1 := modTx p (fun x => { x with stamps := (ss.filter fun s => decide (n ≤ s.1)).map fun s => (s.1 - n, s.2) }) d
  (ss.filter fun s => decide (s.1 < n)).foldl (fun e s =>
    if bitOf (attr e FLOW_FLAGS s.2.1) 1 then sendReport s.2.1 2 s.2.2 (trimmed e.devTime (attrInt e PORT_TS_TRIM p)) e else e) d1

/-- R46, R51, R52: one data symbol of the transmit stream, in data slot `slot`. -/
def sendSymbol (p slot : Nat) (d : Dev) : Dev :=
  let load := block d PORT_LOADING_TX p
  let retired := attr d PORT_RETIRED_TX p
  let n := bitsInEffect load retired
  let level := launchLevel d p
  let d1 := fillStream p n 8 d
  let pilots := pilotOuts level (pilotLabels (pilotStateAt (pilotSeed d p) slot)).1
  let (labels, left) := takeLabels load retired loadableTones (port d1 p).tx.bits
  settleStamps p n (modTx p (fun x => { x with symbol := pilots ++ dataOuts load (block d PORT_GAIN_TX p) level labels, bits := left }) d1)

/-- What a port sends in data slot `slot`. -/
def slotOf (slot p : Nat) (d : Dev) : Dev :=
  let st := stateOf d p
  let q := quiet d p
  let silent := modTx p (fun x => { x with symbol := [] }) d
  let first := if slot = 1 then some (pilotSeed d p) else none
  if q.burstLeft ≠ 0 then sendBurst p d
  else if st = psCarry then sendSymbol p slot d
  else if st = psTrain then
    if sendsContainers d p then sendSymbol p slot d
    else if trainSends d p then (if pilotsOnly d p then sendPilots p slot d else sendProbe p first d)
    else silent
  else if st = psQuiet then
    if refreshNow d p && decide (slot ≤ 8) then sendProbe p (if slot = 1 then some (refreshSeed d p) else none) d else silent
  else if st = psDormant ∧ q.decidedAt ≠ 0 then
    if q.burstSent then sendSymbol p slot d else sendProbe p none d
  else if scanSends d p then sendProbe p none d
  else silent

/-- R10, R12, R52, R79: a data symbol slot of a prism: decided takeovers happen, every port sends, and what its ports receive is taken
with what they send. -/
def symbolBoundary (m : Nat) (rs : List PortReceived) (d : Dev) : Dev :=
  let slot := (prism d m).slot + 1
  let d1 := forAll ((List.range 4).map (4 * m + ·)) takeOver d
  if 256 < slot then d1
  else
    let d2 := forAll (portsOfPrism m) (slotOf slot) (modPrism m (fun x => { x with slot := slot }) d1)
    let d3 := (rs.filter fun x => prismOf x.port.val == m).foldl (fun e x => receiveSymbol x.port.val slot x.tones x.steps e) d2
    forAll ((portsOfPrism m).filter fun p => stateOf d3 p == psCarry && !inHoldover d3 p) (fun p e => bump PORT_DATA_SYMBOLS_RX p 1 e) d3

/-! ### Markers (R86, R87) -/

/-- R73, R154: a marker in TIMING_LOCK: ADVANCE, coarse then fine, and lock after 16 superframes within an eighth of a sample. -/
def lockMarker (p : Nat) (found : Bool) (mk : MarkerFound) (d : Dev) : Dev :=
  if (train d p).controller = false then d
  else if !found then modRx p (fun x => { x with lockRun := 0 }) d
  else if 4000000 < mk.advance then phaseFail p 5 d
  else
    let n := (rx d p).advances
    let run := if mk.offset.natAbs ≤ 8 then (rx d p).lockRun + 1 else 0
    let d1 := setAttr PORT_RT_DELAY p mk.advance (modRx p (fun x => { x with lockRun := run, advances := min 2 (n + 1) }) d)
    let d2 := if n < 2 then sendTraining p ((0x03#8 :: toLE mk.advance 4) ++ [byteOf n]) d1 else d1
    if 16 ≤ run then startPhase p 3 (setAttr PORT_RX_STATE p 2 (sendTraining p [0x04#8] d2)) else d2

/-- R153, R200: a marker after TIMING_LOCK in TRAIN. -/
def trainMarker (p : Nat) (found : Bool) (mk : MarkerFound) (d : Dev) : Dev :=
  if found then measureSnr p mk.snrs (modRx p (fun x => { x with missed := 0 }) d)
  else
    let d1 := modRx p (fun x => { x with missed := x.missed + 1 }) d
    if 4 ≤ (rx d1 p).missed then partnerLost p causePartnerLost d1 else d1

/-- R159: whether the marker of S − 1 for an agreed receive direction is due now. -/
def swapMarkerDue (d : Dev) (p : Nat) : Bool :=
  swapNext d p (sfCount d p) && (match swapOf d p with | some s => swapNames s 1 | none => false)

/-- R86, R87: a marker detected in CARRY. -/
def markerSeen (p : Nat) (mk : MarkerFound) (d : Dev) : Dev :=
  let d1 := measureSnr p mk.snrs d
  let d2 := if mk.form.val = 1 ∧ swapMarkerDue d p then markSwap p 1 d1 else d1
  if inHoldover d2 p then
    let d3 := modRx p (fun x => { x with detected := x.detected + 1 }) d2
    if 2 ≤ (rx d3 p).detected then leaveHoldover p d3 else d3
  else issueNotice p (announceIngress p (measureTones p mk.errs (modRx p (fun x => { x with missed := 0 }) d2)))

/-- R86, R87, R90: a marker missed in CARRY. -/
def markerMissed (p : Nat) (d : Dev) : Dev :=
  let d1 := fireSnapshots p 3 (modRx p (fun x => { x with missed := x.missed + 1, detected := 0, swapMissed := x.swapMissed || swapMarkerDue d p }) d)
  if quietDue d p then d1 else if 2 ≤ (rx d1 p).missed then enterHoldover p d1 else d1

/-- R42: the superframe count received, as the partner on a chord. -/
def takeCount (p count : Nat) (d : Dev) : Dev :=
  if actsAsPartner d p then modRx p (fun x => { x with countDelta := (count + 256 - attr d PRISM_SF_COUNT (prismOf p) % 256) % 256 }) d else d

/-- R78, R86: where the partner's marker is due: its correlation, and the symbol through the canceller and the equaliser. -/
def markerDue (p : Nat) (mk : MarkerFound) (d0 : Dev) : Dev :=
  let found := decide (500 ≤ mk.corr) && decide (mk.form.val ≠ 3)
  let d := receiveSymbol p 0 mk.tones mk.steps (if found then takeCount p mk.count.toNat d0 else d0)
  let st := stateOf d p
  if st = psTrain then
    let phase := attr d PORT_TRAIN_PHASE p
    if phase = 2 then lockMarker p found mk d else if 3 ≤ phase then trainMarker p found mk d else d
  else if st = psCarry then (if found then markerSeen p mk d else markerMissed p d)
  else d

/-! ### COUNTERS_READ (R207) -/

/-- R207: the U32 attributes a request names, none where one does not exist or is no U32. -/
def countersOf (cls first n : Nat) : Option (List Attr) :=
  (List.range n).foldr (fun k acc =>
    match acc, catalogue.find? fun a => a.code == cls * 65536 + first + k with
    | some l, some a => if a.ty = .u 32 then some (a :: l) else none
    | _, _ => none) (some [])

/-- R207: the result of a request, sampled now. -/
def countersResult (d : Dev) (cls inst : Nat) (as : List Attr) : List Byte :=
  toLE (d.devTime % 2 ^ 48) 6 ++ toLE (if cls = clsPort then attr d PORT_COUNTER_EPOCH inst else 0) 4 ++ toLE 0 2
    ++ as.flatMap fun a => toLE (readValue d a inst) 4

/-- R207: the requests that wait for a boundary of a prism are answered. -/
def sampleCounters (m : Nat) (d : Dev) : Dev :=
  let now := d.held.filter fun h => h.prism == m
  now.foldl (fun e h =>
    if h.void then e
    else
      let ps := h.call.params
      answer h.call stOk (countersResult e (byteAt ps 0) (leAt ps 2 2) ((countersOf (byteAt ps 0) (leAt ps 4 2) (byteAt ps 1)).getD [])) e)
    { d with held := d.held.filter fun h => h.prism != m }

/-! ### Rows -/

/-- R39: a prism has a symbol clock while its control domain is ON. -/
def prismClocked (d : Dev) (m : Nat) : Bool := attr d DOMAIN_STATE (160 + m) == 0

/-- R40: the SUPERFRAME_BOUNDARY row. -/
def execSuperframeBoundary (m : Fin 8) (clock : Int) (ms : List SfMeasure) (s : State) : Out :=
  onDev (fun d => if prismClocked d m then superframeBoundary m clock ms d else d) s

/-- R52: the SYMBOL_BOUNDARY row. -/
def execSymbolBoundary (x : SymbolSlot) (s : State) : Out :=
  onDev (fun d => if prismClocked d x.prism then symbolBoundary x.prism x.received d else d) s

/-- R86: the MARKER_DETECTION row. -/
def execMarkerDetection (p : Fin 128) (mk : MarkerFound) (s : State) : Out := onDev (markerDue p mk) s

/-- R207: the COUNTERS_SAMPLE row. -/
def execCountersSample (m : Fin 8) (s : State) : Out := onDev (sampleCounters m) s

end Sys2Proof.Machine
end

