-- ==== Sys2Proof/Machine/Access.lean ====
section
/-! DEFINITION. Machine/Access.lean: reading and writing attributes (R319 to R324, R207), with the value range and the state
condition that each attribute's own rule gives, NOP (R314) and IDENT (R502). -/

namespace Sys2Proof.Machine

/-! ### Addresses (R319) -/

/-- R460: the CAL instances. -/
def calInstance (i : Nat) : Bool :=
  let o := i % 256
  match i / 256 with
  | 0 | 1 | 2 | 3 | 4 => decide (o < 128)
  | 5 => decide (o < 8)
  | 6 => decide (8 ≤ o) && decide (o < 32)
  | 7 => decide (o < 32)
  | 8 => decide (o < 16)
  | 9 => decide (o < 3)
  | 10 => o == 0
  | _ => false

/-- R262: the LANE instances. -/
def laneInstance (i : Nat) : Bool := decide (i < 256) && decide (i % 8 < 6)

/-- R462: the test regions. -/
def bistRegion (i : Nat) : Bool :=
  decide (i < 0xA0) || (decide (0x100 ≤ i) && decide (i < 0x180)) || (decide (0x200 ≤ i) && decide (i < 0x203))
    || (decide (0x210 ≤ i) && decide (i < 0x213)) || (decide (0x300 ≤ i) && decide (i < 0x400) && decide (i % 8 < 5))
    || (decide (0x400 ≤ i) && decide (i < 0x403)) || i == 0x500 || i == 0x510 || i == 0x511 || i == 0x600

/-- The instances of a DEVICE attribute (R319, R338, R223, R318, R418). -/
def deviceInstances (a : Attr) : Nat :=
  if a.code = DEVICE_COMPLETION.code then 1024
  else if a.code = DEVICE_SNAP_DATA.code ∨ a.code = DEVICE_WAKE_SET.code then 8
  else if 0x200 ≤ a.id ∧ a.id < 0x210 then 4
  else 1

/-- R319: whether an attribute has an instance. -/
def instanceOk (a : Attr) (i : Nat) : Bool :=
  if a.cls = clsDevice then decide (i < deviceInstances a)
  else if a.cls = clsDie then decide (i < 3)
  else if a.cls = clsPrism then decide (i < 8)
  else if a.cls = clsFacet ∨ a.cls = clsGroup then decide (i < 32)
  else if a.cls = clsPort ∨ a.cls = clsSvc then decide (i < 128)
  else if a.cls = clsFlow then decide (i < 1024)
  else if a.cls = clsLane then laneInstance i
  else if a.cls = clsDomain then decide (i < 195)
  else if a.cls = clsCal then (if a.id < 0x10 then calInstance i else i == 0x0A00)
  else if a.cls = clsBist then (if a.id < 0x10 then bistRegion i else i == 0x600)
  else if a.cls = clsCheck ∨ a.cls = clsEventq then decide (i < 4)
  else i == 0

/-- R319: the attribute and instance that an address names. -/
def addressed (x : AttrAddr) : Option Attr :=
  match findAttr x with
  | some a => if instanceOk a x.inst then some a else none
  | none => none

/-- R320: the type code. -/
def typeCode (a : Attr) : Nat :=
  match a.ty with
  | .u w => if w = 8 then 0x01 else if w = 16 then 0x02 else if w = 32 then 0x03 else 0x04
  | .s w => if w = 8 then 0x11 else if w = 16 then 0x12 else 0x13
  | .bool => 0x21
  | .enum => 0x22
  | .block _ => 0x30

/-- Whether an attribute is a BLOCK. -/
def isBlock (a : Attr) : Bool := typeCode a == 0x30

/-! ### Value ranges and state conditions (R321, each attribute's own rule) -/

/-- The inclusive ranges of value attributes whose range is an interval, with 0 accepted beside it where the flag is set. -/
def rangeTable : List (Attr × Int × Int × Bool) :=
  [(DIE_MARGIN_WARN, 257, 511, false), (PORT_RATE_CAP, 1800, 40000, false), (PRISM_PREFIX, 0, 2, false), (PORT_INTERLEAVE, 0, 3, false),
   (PORT_RECAST_RETRY, 200, 100000, true), (PORT_RECAST_DEADLINE, 400, 200000, true), (PORT_NEG_MODE, 0, 2, false), (PORT_CLASS, 0, 3, false),
   (PORT_TARGET_MARGIN, 0, 120, false), (PORT_RETRAIN_HOLDOFF, 10, 10000, false), (SVC_MOD, 0, 2, false),
   (SVC_POLL_INTERVAL, 100, 10000, false), (SVC_POLL_RETRIES, 0, 7, false), (PORT_SNR_HIST_INTERVAL, 10, 60000, false),
   (PORT_SCAN_VELOCITY, 1500, 2900, false), (PORT_SCAN_LOSS, 0, 1000, false), (PORT_SCAN_THRESHOLD, -600, -60, false),
   (GROUP_L0S_DWELL, 24, 60000, false), (GROUP_REPLAY_TIMER, 200, 20000, false), (GROUP_REPLAY_LIMIT, 2, 16, false),
   (GROUP_SUB_LEAD, 8, 64, false), (LANE_TX_PRESET, 1, 3, false), (LANE_FAULT_UNCORR, 1, 255, false), (LANE_FAULT_CORR, 256, 65535, false),
   (PORT_TS_TRIM, -1000, 1000, false), (DEVICE_REPLY_HOLD, 10, 60000, false), (CAL_TRACK_PERIOD, 100, 60000, false),
   (BIST_SLOT_PERIOD, 100, 7000, false), (CHECK_WIDTH, 1, 64, false), (CHECK_FLAGS, 0, 7, false), (DEVICE_WEAR_PERIOD, 5, 1000, false),
   (DEVICE_TEMP_WARN, 800, 1250, false), (TIME_PULSE_IN_PERIOD, 1, 60000, false), (TIME_PULSE_IN_EDGE, 0, 1, false),
   (TIME_PULSE_OUT_PERIOD, 1, 60000, true), (TIME_PULSE_OUT_WIDTH, 1, 500000, false)]

/-- A value as its type reads it. -/
def typedValue (a : Attr) (v : Nat) : Int :=
  match a.ty with
  | .s w => signedOf w v
  | _ => v

/-- R321 check 5 for a value attribute. -/
def valueOk (d : Dev) (a : Attr) (i v : Nat) : Bool :=
  let x := typedValue a v
  (match rangeTable.find? fun r => r.1.code == a.code with
   | some (_, lo, hi, zero) => (decide (lo ≤ x) && decide (x ≤ hi)) || (zero && v == 0)
   | none => true)
    && (a.ty != .bool || decide (v ≤ 1))
    && (a.code != PORT_TX_PSD.code || psdOk x)
    && (a.code != PORT_RECAST_DEADLINE.code || v == 0 || decide (retryInUse d i ≤ v))
    && (a.code != DOMAIN_BOOT_STATE.code || v == 0 || (v == 2 && i != 194))
    && (a.code != TIME_PULSE_OUT_WIDTH.code || attr d TIME_PULSE_OUT_PERIOD 0 == 0 || decide (v < 1000 * attr d TIME_PULSE_OUT_PERIOD 0))

/-- A port in NEGOTIATE, TRAIN, CARRY, QUIET or DORMANT (R39, R62, R112). -/
def engaged (d : Dev) (p : Nat) : Bool := let st := stateOf d p; decide (psNegotiate ≤ st) && decide (st ≤ psDormant)

/-- R321 check 6 for a value attribute: the status where its state condition fails. -/
def valueState (d : Dev) (a : Attr) (i v : Nat) : Option Nat :=
  if a.code = PRISM_PREFIX.code then
    if (portsOfPrism i).any fun p => engaged d p || attr d PORT_CHORD p != 0xFF then some stPrecondition else none
  else if a.code = PORT_INTERLEAVE.code then if engaged d i then some stPrecondition else none
  else if a.code = PORT_NEG_MODE.code ∨ a.code = PORT_CLASS.code ∨ a.code = PORT_LEGACY_LPI.code then
    if stateOf d i = psDown then none else some stPrecondition
  else if a.code = BIST_POWER_UP.code then if attr d DEVICE_LC_STATE 0 = 1 ∧ v = 0 then some stLifecycle else none
  else if a.cls = clsCheck then if checkStateOf d i = 1 then some stPrecondition else none
  else none

/-- R321: whether the access column, or an instance of it, refuses a SET. -/
def setRefused (a : Attr) (i : Nat) : Bool := a.acc == .ro || (a.code == DEVICE_REPLY_HOLD.code && decide (2 ≤ i))

/-- R321 checks 4 to 6: the status of the first that fails. -/
def valueCheck (d : Dev) (a : Attr) (i v : Nat) : Option Nat :=
  if setRefused a i then some stRefused else if valueOk d a i v = false then some stOutOfRange else valueState d a i v

/-- R201: the history of a port cleared, and its interval begun again. -/
def clearSnrHistory (p : Nat) (d : Dev) : Dev :=
  armInterval p (setBlock PORT_SNR_HISTORY p [] (setAttr PORT_SNR_HIST_HEAD p 0xFF
    (modRx p (fun x => { x with histLow := List.replicate 32 0xFF, histSeen := false }) d)))

/-- R67: the rate cap written: OVER_CAP follows it, and lowering it below a rate in effect is reported. -/
def setRateCap (p v : Nat) (d : Dev) : Dev :=
  let d1 := refreshRates p (setAttr PORT_RATE_CAP p v d)
  when (decide (v < attr d PORT_RATE_CAP p) && attrOn d1 PORT_OVER_CAP p) (raise clsPort p evRateOverCap 0) d1

/-- R30: another programmed interval: the intervals seen so far do not fit it, so TIMEPULSE_IN is not valid until three have. -/
def newPulsePeriod (v : Nat) (d : Dev) : Dev :=
  if v = attr d TIME_PULSE_IN_PERIOD 0 then d
  else
    setAttr TIME_PULSE_IN_PERIOD 0 v (setAttr LATTICE_PULSE_VALID 0 0
      (disarm tkPulseIn 0 { d with time := { d.time with pulseGood := 0 } }))

/-- The effect of an accepted SET. -/
def writeValue (a : Attr) (i v : Nat) (d : Dev) : Dev :=
  if a.code = DEVICE_SNAP_READY.code then freeRecords v d
  else if a.code = PRISM_PREFIX.code then modPrism i (fun x => { x with prefixPending := true }) (setAttr a i v d)
  else if a.code = PORT_RATE_CAP.code then setRateCap i v d
  else if a.code = PORT_SNR_HIST_INTERVAL.code then clearSnrHistory i (setAttr a i v d)
  else if a.code = TIME_PULSE_IN_PERIOD.code then newPulsePeriod v d
  else if a.code = TIME_PULSE_OUT_PERIOD.code then disarm tkPulseOut 0 (setAttr a i v d)
  else if a.code = BIST_SLOT_PERIOD.code then disarm tkBistSlot 0 (setAttr a i v d)
  else setAttr a i v d

/-- R58, R62, R323: whether a block may stand as given. -/
def blockOk (d : Dev) (a : Attr) (i : Nat) (bs : List Byte) : Bool :=
  let staged := fun x => if a.code = x.code then bs else block d x i
  if a.code = PORT_TONE_MASK.code then toneMaskOk bs
  else if a.code = PORT_STAGE_LOADING_TX.code ∨ a.code = PORT_STAGE_GAIN_TX.code then
    stageOkAt d i (staged PORT_STAGE_LOADING_TX) (staged PORT_STAGE_GAIN_TX)
  else stageOkAt d i (staged PORT_STAGE_LOADING_RX) (staged PORT_STAGE_GAIN_RX)

/-- R323 checks 4 to 6 for `data` written from `off`: the status of the first that fails. -/
def blockCheck (d : Dev) (a : Attr) (i off : Nat) (data : List Byte) : Option Nat :=
  if a.acc = .ro then some stRefused
  else if a.size < off + data.length then some stOutOfRange
  else if blockOk d a i (spliceBytes (block d a i) off data) = false then some stOutOfRange
  else if a.code = PORT_TONE_MASK.code ∧ engaged d i = true then some stPrecondition
  else none

/-- The effect of an accepted SET_BLOCK. -/
def writeBytes (a : Attr) (i off : Nat) (data : List Byte) (d : Dev) : Dev := setBlock a i (spliceBytes (block d a i) off data) d

/-! ### Commands -/

/-- R314: NOP. -/
def bodyNop : Body := fun _ _ d => okDev d

/-- R502: the result of IDENT. -/
def identRecord (d : Dev) : List Byte :=
  uidBytes ++ toLE Config.serial 6 ++ [0x49#8, 0x5A#8, 0x31#8, 0x32#8, 0x38#8, 0x2D#8, 0x41#8, 0#8] ++ toLE 0x6B3D 2 ++ toBE 0x9C4E21 3
    ++ [byteOf (attr d DEVICE_LC_STATE 0)] ++ toLE Config.romVersion 4
    ++ [byteOf (attr d DEVICE_FW_ACTIVE 0), byteOf (attr d LATTICE_INDEX 0)] ++ toLE (attr d DEVICE_FW_VERSION 0) 4 ++ [0#8, 0#8]
    ++ dieRecord 0 ++ dieRecord 1 ++ dieRecord 2

/-- R502: IDENT. -/
def bodyIdent : Body := fun _ _ d => okResult (identRecord d) d

/-- R320: GET. -/
def bodyGet : Body := fun _ c d =>
  need (reservedZero c.params 1 1) stOutOfRange <|
    match addressed (addrAt c.params) with
    | none => .refuse stOutOfRange []
    | some a =>
      need (!isBlock a) stOutOfRange <|
        okResult (byteOf (typeCode a) :: toLE (readValue d a (addrAt c.params).inst) (a.width / 8)) d

/-- R321: SET. -/
def bodySet : Body := fun _ c d =>
  need (decide (6 ≤ c.params.length)) stBadLength <|
  need (reservedZero c.params 1 1 && reservedZero c.params 6 2) stOutOfRange <|
    match addressed (addrAt c.params) with
    | none => .refuse stOutOfRange []
    | some a =>
      need (!isBlock a) stOutOfRange <|
      need (c.params.length == 8 + a.width / 8) stBadLength <|
        let v := leAt c.params 8 (a.width / 8)
        match valueCheck d a (addrAt c.params).inst v with
        | some st => .refuse st []
        | none => okDev (writeValue a (addrAt c.params).inst v d)

/-- R322: GET_BLOCK. -/
def bodyGetBlock : Body := fun _ c d =>
  need (reservedZero c.params 1 1) stOutOfRange <|
    match addressed (addrAt c.params) with
    | none => .refuse stOutOfRange []
    | some a =>
      let n := leAt c.params 6 2
      let off := leAt c.params 8 4
      need (isBlock a && decide (1 ≤ n) && decide (n ≤ 1020) && decide (off + n ≤ a.size)) stOutOfRange <|
        okResult (toLE a.size 4 ++ ((readBlock d a (addrAt c.params).inst).drop off).take n) d

/-- R323: SET_BLOCK. -/
def bodySetBlock : Body := fun _ c d =>
  need (decide (6 ≤ c.params.length)) stBadLength <|
  need (reservedZero c.params 1 1 && reservedZero c.params 6 2) stOutOfRange <|
    match addressed (addrAt c.params) with
    | none => .refuse stOutOfRange []
    | some a =>
      need (isBlock a) stOutOfRange <|
      need (decide (13 ≤ c.params.length)) stBadLength <|
        let off := leAt c.params 8 4
        let data := c.params.drop 12
        match blockCheck d a (addrAt c.params).inst off data with
        | some st => .refuse st []
        | none => okDev (writeBytes a (addrAt c.params).inst off data d)

/-- R207: COUNTERS_READ: on a port of a prism with a symbol clock, the reply waits for the boundary. -/
def bodyCountersRead : Body := fun _ c d =>
  let x := addrAt c.params
  let n := byteAt c.params 1
  match countersOf x.cls x.id n with
  | none => .refuse stOutOfRange []
  | some as =>
    need (decide (1 ≤ n) && decide (n ≤ 64) && as.all (fun a => instanceOk a x.inst) && reservedZero c.params 6 2) stOutOfRange <|
      if x.cls = clsPort ∧ attr d DOMAIN_STATE (160 + prismOf x.inst) = 0 then .hold ⟨c, prismOf x.inst, false⟩
      else okResult (countersResult d x.cls x.inst as) d

/-! ### Rows -/

/-- The SET of one attribute's instance to a value. -/
def setRequest (h : SetHead) (a : Attr) (i v : Nat) : Req :=
  ⟨h.master, h.tag, h.flags, addrBytes ⟨a.cls, i, a.id⟩ ++ toLE 0 2 ++ toLE v (a.width / 8)⟩

/-- The SET_BLOCK of bytes of one attribute's instance. -/
def setBlockRequest (h : SetHead) (a : Attr) (i off : Nat) (data : List Byte) : Req :=
  ⟨h.master, h.tag, h.flags, addrBytes ⟨a.cls, i, a.id⟩ ++ toLE 0 2 ++ toLE off 4 ++ data⟩

/-- R314: the NOP row. -/
def execNop (r : Req) (s : State) : Out := issueOut 0x00 bodyNop r s
/-- R502: the IDENT row. -/
def execIdent (r : Req) (s : State) : Out := issueOut 0x01 bodyIdent r s
/-- R320: the GET row. -/
def execGet (r : Req) (s : State) : Out := issueOut 0x10 bodyGet r s
/-- R321: the SET row. -/
def execSet (r : Req) (s : State) : Out := issueOut 0x11 bodySet r s
/-- R322: the GET_BLOCK row. -/
def execGetBlock (r : Req) (s : State) : Out := issueOut 0x12 bodyGetBlock r s
/-- R323: the SET_BLOCK row. -/
def execSetBlock (r : Req) (s : State) : Out := issueOut 0x13 bodySetBlock r s
/-- R39: the PRISM_PREFIX_SET row. -/
def execPrismPrefixSet (h : SetHead) (m : Fin 8) (v : Byte) (s : State) : Out :=
  issueOut 0x11 bodySet (setRequest h PRISM_PREFIX m v.toNat) s
/-- R61: the TX_PSD_SET row. -/
def execTxPsdSet (h : SetHead) (p : Fin 128) (v : BitVec 16) (s : State) : Out :=
  issueOut 0x11 bodySet (setRequest h PORT_TX_PSD p v.toNat) s
/-- R67: the RATE_CAP_SET row. -/
def execRateCapSet (h : SetHead) (p : Fin 128) (v : BitVec 16) (s : State) : Out :=
  issueOut 0x11 bodySet (setRequest h PORT_RATE_CAP p v.toNat) s
/-- R62: the TONE_MASK_SET row. -/
def execToneMaskSet (h : SetHead) (p : Fin 128) (offset : BitVec 32) (data : List Byte) (s : State) : Out :=
  issueOut 0x13 bodySetBlock (setBlockRequest h PORT_TONE_MASK p offset.toNat data) s
/-- R58: the four staged tables. -/
def stageTable (n : Fin 4) : Attr :=
  if n = 0 then PORT_STAGE_LOADING_TX else if n = 1 then PORT_STAGE_LOADING_RX else if n = 2 then PORT_STAGE_GAIN_TX else PORT_STAGE_GAIN_RX
/-- R58: the STAGE_TABLE_WRITE row. -/
def execStageTableWrite (h : SetHead) (p : Fin 128) (table : Fin 4) (offset : BitVec 32) (data : List Byte) (s : State) : Out :=
  issueOut 0x13 bodySetBlock (setBlockRequest h (stageTable table) p offset.toNat data) s
/-- R201: the SNR_HIST_INTERVAL_SET row. -/
def execSnrHistIntervalSet (h : SetHead) (p : Fin 128) (v : BitVec 16) (s : State) : Out :=
  issueOut 0x11 bodySet (setRequest h PORT_SNR_HIST_INTERVAL p v.toNat) s
/-- R214: the SNAP_READY_WRITE row. -/
def execSnapReadyWrite (h : SetHead) (v : Byte) (s : State) : Out :=
  issueOut 0x11 bodySet (setRequest h DEVICE_SNAP_READY 0 v.toNat) s
/-- R125: the RECAST_TIMER_SET row. -/
def execRecastTimerSet (h : SetHead) (p : Fin 128) (deadline : Bool) (v : BitVec 32) (s : State) : Out :=
  issueOut 0x11 bodySet (setRequest h (if deadline then PORT_RECAST_DEADLINE else PORT_RECAST_RETRY) p v.toNat) s
/-- R481: the parameters of a check unit. -/
def checkField (n : Fin 4) : Attr := if n = 0 then CHECK_WIDTH else if n = 1 then CHECK_POLY else if n = 2 then CHECK_INIT else CHECK_FLAGS
/-- R482: the CHECK_PARAM_SET row. -/
def execCheckParamSet (h : SetHead) (unit field : Fin 4) (v : BitVec 64) (s : State) : Out :=
  issueOut 0x11 bodySet (setRequest h (checkField field) unit v.toNat) s
/-- R207: the COUNTERS_READ row. -/
def execCountersRead (r : Req) (s : State) : Out := issueOut 0x92 bodyCountersRead r s

end Sys2Proof.Machine
end

