-- ==== Sys2Proof/Machine/BistCore.lean ====
section
/-! DEFINITION. Machine/BistCore.lean: the test regions (R462), when a slice may run (R464), its start and its record (R466, R478). -/

namespace Sys2Proof.Machine

/-! ### Regions (R462) -/

/-- R462: the 461 regions, ascending. -/
def regions : List Nat :=
  List.range 0xA0 ++ (List.range 128).map (0x100 + ·) ++ [0x200, 0x201, 0x202, 0x210, 0x211, 0x212]
    ++ ((List.range 256).filter fun l => decide (l % 8 < 5)).map (0x300 + ·) ++ [0x400, 0x401, 0x402, 0x500, 0x510, 0x511, 0x600]

/-- R462: the test time of a region, us. -/
def testUs (r : Nat) : Nat :=
  if r < 0xA0 then 150 else if r < 0x200 then 50 else if r < 0x210 then 160 else if r < 0x300 then 120 else if r < 0x400 then 100
  else if r < 0x510 then 170 else if r < 0x600 then 120 else 20

/-- The key of a region's element among SLOW marks. -/
def regionKey (r : Nat) : Nat :=
  if r < 0xA0 then elementKey clsFacet (r / 5) (r % 5) else if 0x300 ≤ r ∧ r < 0x400 then elementKey clsLane (r - 0x300) ((r - 0x300) % 8)
  else elementKey clsBist r 0

/-- R402, R462: the domains of a region. -/
def regionDomains (r : Nat) : List Nat :=
  if r < 0xA0 then [128 + r / 5] else if 0x100 ≤ r ∧ r < 0x200 then [160 + prismOf (r - 0x100)]
  else if 0x300 ≤ r ∧ r < 0x400 then
    let g := (r - 0x300) / 8
    if g < 16 then [168 + g] else [184 + 2 * ((g - 16) / 8)]
  else if r = 0x500 then [192] else if r = 0x600 then [193] else []

/-- R464: a region that is FAILED. -/
def regionFailed (d : Dev) (r : Nat) : Bool :=
  if r < 0xA0 then engineState d (r / 5) (r % 5) == 2
  else if 0x200 ≤ r ∧ r < 0x203 then d.faults.failedCores.contains (r - 0x200)
  else if 0x300 ≤ r ∧ r < 0x400 then attr d LANE_STATE (r - 0x300) == 6
  else d.bist.failed.contains r

/-- R462, R464: a region with its cover unavailable; `quiet` where no traffic runs and covers are not needed (R471). -/
def coverTaken (d : Dev) (r : Nat) (quiet : Bool) : Bool :=
  if quiet then false
  else if r < 0xA0 then
    let f := r / 5
    let e := r % 5
    if e = 4 then attr d FACET_SPARE_STATE f != 0 || (spareUse d f).isSome
    else attr d FACET_SPARE_STATE f == 5 || (match spareUse d f with | some (rank, p) => decide (rank ≤ 3) && p != 4 * f + e | none => false)
  else if 0x100 ≤ r ∧ r < 0x200 then
    let h := attr d PORT_CLAIMS (r - 0x100) / 256
    decide (1 ≤ h) && decide (h ≤ 4)
  else if 0x200 ≤ r ∧ r < 0x203 then fieldOf (attr d DEVICE_VERTEX_CORES 0) 5 4 != r - 0x200
  else if 0x210 ≤ r ∧ r < 0x213 then d.bist.failed.any fun x => decide (0x210 ≤ x) && decide (x < 0x213)
  else if 0x300 ≤ r ∧ r < 0x400 then
    let g := (r - 0x300) / 8
    let k := (r - 0x300) % 8
    let st := attr d GROUP_SPARE_STATE g
    if attr d GROUP_STATE g = 2 ∨ attr d GROUP_STATE g = 3 ∨ attr d GROUP_STATE g = 4 then
      if k = 4 then st != 0
      else match (link d g).cover with
        | some (rank, j) => decide (rank ≤ 3) && j != k
        | none => st != 0
    else false
  else if 0x400 ≤ r ∧ r < 0x403 then
    d.scans.any fun x => scanDie (scanStart x.params) == r - 0x400
  else if r = 0x500 then !d.cal.runs.isEmpty || d.cal.store.isSome
  else if r = 0x510 ∨ r = 0x511 then d.bist.failed.any fun x => x == 0x510 || x == 0x511
  else false

/-- R464, R478: the reason for which a region is skipped: 0 none, 1 DOMAIN, 2 COVER, 3 FAILED. -/
def skipReason (d : Dev) (r : Nat) (quiet : Bool) : Nat :=
  if (regionDomains r).any fun k => attr d DOMAIN_STATE k != 0 then 1
  else if regionFailed d r then 3
  else if coverTaken d r quiet then 2
  else 0

/-! ### Records (R478) -/

/-- Results of R478. -/
abbrev brPass : Nat := 1
abbrev brSignature : Nat := 2
abbrev brCount : Nat := 3
abbrev brAborted : Nat := 4
abbrev brSkipped : Nat := 5
abbrev brRestore : Nat := 6
abbrev brRaw : Nat := 7

/-- R478: the result of a region's last slice. -/
def recordResult (r result : Nat) (d : Dev) : Dev :=
  setAttr BIST_LAST_TIME r d.devTime (setAttr BIST_RESULT r result (modBist (fun b => { b with reasons := bankPut 0 b.reasons r 0 }) d))

/-- R464, R478: a region recorded as SKIPPED. -/
def recordSkip (r reason : Nat) (d : Dev) : Dev :=
  bump BIST_SKIPS r 1 (setAttr BIST_RESULT r brSkipped (modBist (fun b => { b with reasons := bankPut 0 b.reasons r reason }) d))

/-- R462, R475: a slice begins: a save of 10 us, the test, a restore of 20 us. -/
def beginSlice (r why : Nat) (again rebuilt : Bool) (d : Dev) : Dev :=
  modBist (fun b => { b with slice := some ⟨r, why, d.elapsed + (testUs r + 30) * nsPerUs, again, rebuilt, false⟩ }) d

/-- R563: GPIO_D driven as slice strobe, where the RAW run has it. -/
def strobeLevel (level : Bool) (d : Dev) : Dev :=
  if d.strobe then setAttr DEVICE_PIN_STATE 0 (withBit (attr d DEVICE_PIN_STATE 0) 5 level) d else d

/-- R477: a BIST_RUN is over; its result counts slices passed, failed and skipped. -/
def finishBistRun (status : Nat) (d : Dev) : Dev :=
  match d.bist.run with
  | none => d
  | some x =>
    complete x.job clsBist 0x600 evBistDone status (toLE x.passed 2 ++ toLE x.failed 2 ++ toLE x.skipped 2)
      (modBist (fun b => { b with run := none }) { strobeLevel false d with strobe := false })

/-- R477: a RAW run that is aborted: the manual gives it no signature; a free value, with no pattern counted. -/
def abortBistRun (d : Dev) : Dev :=
  match d.bist.run with
  | none => d
  | some x =>
    if x.mode = 2 then
      complete x.job clsBist 0x600 evBistDone stAborted (toLE (freeVal d) 8 ++ toLE 0 8)
        (modBist (fun b => { b with run := none }) { strobeLevel false (usedFree d) with strobe := false })
    else finishBistRun stAborted d

/-- R471, R530: the power-up self-test goes on after region `r`: regions that R464 excludes are recorded as SKIPPED, and the first other
one is sliced. Answers whether none is left. -/
def powerUpFrom : List Nat → Dev → Bool × Dev
  | [], d => (true, modBist (fun b => { b with slice := none }) d)
  | r :: rest, d =>
    match skipReason d r true with
    | 0 => (false, beginSlice r 4 false false d)
    | n + 1 => powerUpFrom rest (recordSkip r (n + 1) d)

end Sys2Proof.Machine
end

