-- ==== Sys2Proof/Machine/LaneCore.lean ====
section
/-! DEFINITION. Machine/LaneCore.lean: groups and lanes of Drigal: lane maps and their changes (R247 to R251), faults of lanes (R246,
R250, R253), groups going DOWN (R252), and training (R241 to R245). -/

namespace Sys2Proof.Machine

/-! ### Numbering (R225, R262) -/

/-- Whether Izrath transmits a group. -/
def groupSends (g : Nat) : Bool := decide (g < 8) || decide (16 ≤ g)

/-- Whether Izrath receives a group. -/
def groupReceives (g : Nat) : Bool := decide (8 ≤ g)

/-- R262: the LANE instance of lane `k` of a group. -/
def laneOf (g k : Nat) : Nat := 8 * g + k

/-- LANE.STATE of a lane of a group. -/
def laneState (d : Dev) (g k : Nat) : Nat := attr d LANE_STATE (laneOf g k)

/-- LANE.STATE written. -/
def setLaneState (g k v : Nat) (d : Dev) : Dev := setAttr LANE_STATE (laneOf g k) v d

/-- R241, R260: the group domains of a pair are ON with their pads released. -/
def pairOn (d : Dev) (pair : Nat) : Bool := (pairDomains pair).all (domainOn d)

/-- R241, R257, R260: a flow is mapped to a pair. -/
def pairMapped (d : Dev) (pair : Nat) : Bool :=
  (usedFlows d).any fun f =>
    if pair < 8 then flowMap d f 0 == pair || flowMap d f 1 == pair || flowMap d f 3 == pair else innerTx d f == pairTx pair

/-- Whether a group carries rows: UP, DEGRADED or in L0s. -/
def groupRuns (d : Dev) (g : Nat) : Bool := let st := attr d GROUP_STATE g; st == 2 || st == 3 || st == 4

/-- R257, R260: whether a command comes over the pair's own command channel. -/
def ownChannel (m pair : Nat) : Bool := (m == 2 && pair == 0) || (m == 3 && pair == 4)

/-! ### Lane maps (R226, R248) -/

/-- The physical lane that carries a logical lane; 15 none. -/
def mapPhys (m j : Nat) : Nat := m / 16 ^ j % 16

/-- The width a map gives. -/
def mapWidth (m : Nat) : Nat := if mapPhys m 3 = 15 then 3 else 4

/-- The physical lanes of a map in logical order. -/
def mapList (m : Nat) : List Nat := ((List.range 4).map (mapPhys m)).filter (· != 15)

/-- A map from the physical lanes in logical order. -/
def makeMap (l : List Nat) : Nat := (List.range 4).foldl (fun a j => a + l.getD j 15 * 16 ^ j) 0

/-- The logical lane a physical lane carries. -/
def carriedBy (m k : Nat) : Option Nat := (List.range 4).find? fun j => mapPhys m j == k

/-- The physical lanes, LS among them, that carry nothing. -/
def idleLanes (m : Nat) : List Nat := (List.range 5).filter fun k => (carriedBy m k).isNone

/-- Whether a lane that carries nothing can be switched in: it carries the spare pattern and is no longer on trial (R250). -/
def laneReady (d : Dev) (g k : Nat) : Bool := laneState d g k == 3 && (lane d (laneOf g k)).retrain == 0

/-- The lane to which a substitution moves a logical lane. -/
def spareTarget (d : Dev) (g m : Nat) : Nat := ((idleLanes m).find? (laneReady d g)).getD ((idleLanes m).headD 15)

/-- R248: the map after a change; a logical lane covered for a planned reason goes back to its own lane first ("When lane events
meet"). -/
def codeMap (target m : Nat) (cover : Option (Nat × Nat)) (code : Nat) : Nat :=
  let l := mapList m
  if code = 0 ∨ 8 < code then m
  else if 5 ≤ code then makeMap (l.eraseIdx (code - 5))
  else
    match cover with
    | some (r, i) =>
      if 2 ≤ r ∧ i + 1 ≠ code then makeMap ((l.set i target).set (code - 1) (mapPhys m i)) else makeMap (l.set (code - 1) target)
    | none => makeMap (l.set (code - 1) target)

/-- GROUP.LANE_MAP and LANE.LOGICAL. -/
def writeLaneMap (g m : Nat) (d : Dev) : Dev :=
  forAll (List.range 5) (fun k => setAttr LANE_LOGICAL (laneOf g k) ((carriedBy m k).getD 0xFF)) (setAttr GROUP_LANE_MAP g m d)

/-- R237: GROUP.WIDTH, GROUP.CAPACITY and, for a group that carries rows, GROUP.STATE. -/
def setWidth (g w : Nat) (d : Dev) : Dev :=
  let st := if w = 4 then 2 else if w = 3 then 3 else 0
  setAttr GROUP_STATE g st (setAttr GROUP_CAPACITY g (if w = 4 then 427219 else if w = 3 then 318719 else 0) (setAttr GROUP_WIDTH g w d))

/-! ### Row slots (R229) -/

/-- The number of the next row slot after `slot` row slots of alignment period `ab`. -/
def slotNumber (ab slot : Nat) : Nat := (ab % 4 * 1024 + slot) % 4096

/-- The transmitter's next row slot. -/
def txSlot (d : Dev) (g : Nat) : Nat := slotNumber (link d g).ab (link d g).slot

/-- The row slot that the receiver receives next. -/
def rxSlot (d : Dev) (g : Nat) : Nat := slotNumber (link d g).rxAb (link d g).rxSlot

/-- Comparison of row slots and row numbers (R234). -/
def diff4096 (a b : Nat) : Int := seqDiff 4096 a b

/-! ### Pattern runs (R255, R256) -/

/-- R256: the result of PATTERN_DONE. -/
def patternResult (l status cause : Nat) (r : PatternRun) : List Byte :=
  toLE l 2 ++ [byteOf status, byteOf cause] ++ toLE r.bits 8 ++ toLE r.bitErrors 4 ++ toLE r.corrected 4 ++ toLE r.uncorrectable 4
    ++ toLE r.miscorrected 4 ++ toLE r.injections 4

/-- R255: a pattern run ends with PATTERN_DONE. -/
def endPattern (l status cause : Nat) (d : Dev) : Dev :=
  match (lane d l).pattern with
  | none => d
  | some r =>
    let d1 := disarm tkPattern l (modLane l (fun x => { x with pattern := none }) d)
    let d2 := if groupRuns d (l / 8) then d1 else if attr d LANE_STATE l = 3 then setAttr LANE_STATE l (if attr d GROUP_STATE (l / 8) = 6 then 7 else 0) d1 else d1
    complete r.job clsLane l evPatternDone status (patternResult l status cause r) d2

/-! ### Requests for a map change (R247, R248) -/

/-- R255: a substitution ends the pattern run on the lane it takes. -/
def endSparePattern (g code : Nat) (d : Dev) : Dev :=
  if 5 ≤ code then d else endPattern (laneOf g (spareTarget d g (attr d GROUP_LANE_MAP g))) stAborted 3 d

/-- R248: the receiver of a group wants a change; the slot is named when the request is first sent. A fault takes the place of a planned
request. -/
def wantMapChange (g code rank : Nat) (d : Dev) : Dev :=
  let x := link d g
  let free := (match x.subReq with | some r => decide (rank < r.rank) | none => true) && (x.rxAnn.isNone || rank == 1)
  if free then modLink g (fun y => { y with subReq := some ⟨code, 0, rank, false, false⟩ }) (endSparePattern g code d) else d

/-- R248: the transmitter of a group announces a change, in place of a planned one of lower rank (R11). -/
def announceChange (g code rank : Nat) (d : Dev) : Dev :=
  let slot := (txSlot d g + attr d GROUP_SUB_LEAD g) % 4096
  let free := match (link d g).subAnn with | some a => !a.asked && decide (rank < a.rank) | none => true
  if free then modLink g (fun y => { y with subAnn := some ⟨code, slot, rank, false, false⟩ }) (endSparePattern g code d) else d

/-- R11, R247: whether LS can take a logical lane with a rank: a ready spare, LC present, and no use of it that ranks as high. -/
def spareReady (d : Dev) (g rank : Nat) : Bool :=
  let x := link d g
  !x.lcLost && groupRuns d g && (idleLanes (attr d GROUP_LANE_MAP g)).any (laneReady d g)
    && (match x.cover with | some (r, _) => decide (rank < r) | none => true)

/-- R247: a planned use of LS (ranks 2 to 4) for a logical lane: announced where Izrath transmits, requested where it only
receives. -/
def requestLs (g j rank : Nat) (d : Dev) : Dev :=
  let lower := fun (c : Option SubChange) => match c with | some a => !a.asked && decide (rank < a.rank) | none => true
  if spareReady d g rank && lower (link d g).subReq && lower (link d g).subAnn && (link d g).rxAnn.isNone then
    let d1 := if rank < 3 then stopSlice (0x300 + laneOf g (spareTarget d g (attr d GROUP_LANE_MAP g))) d else d
    if groupSends g then announceChange g (j + 1) rank d1 else wantMapChange g (j + 1) rank d1
  else d

/-- A covered logical lane goes back to its own lane, which carries the spare pattern meanwhile. -/
def returnLs (g : Nat) (d : Dev) : Dev :=
  match (link d g).cover with
  | some (r, i) => if 2 ≤ r then (if groupSends g then announceChange g (i + 1) r d else wantMapChange g (i + 1) r d) else d
  | none => d

/-! ### Groups going DOWN (R252, R337) -/

/-- The frames a list of units touches: one for each first unit, and one for a frame that began earlier. -/
def framesTouched (counted : Bool) : List Nat → List HubUnit → List Nat
  | _, [] => []
  | opened, u :: r =>
    if counted && !u.counted then framesTouched counted opened r
    else if u.first ∨ opened.contains u.flow = false then u.flow :: framesTouched counted (u.flow :: opened) r
    else framesTouched counted opened r

/-- The flows whose frame is cut: their last unit in a list is not a last one. -/
def flowsCut (us : List HubUnit) : List Nat :=
  us.foldl (fun a u => if u.last then a.filter (· != u.flow) else if a.contains u.flow then a else a ++ [u.flow]) []

/-- A store without the rest of the frames that are cut. -/
def dropTails : List Nat → List HubUnit → List HubUnit
  | _, [] => []
  | cut, u :: r => if cut.contains u.flow then dropTails (if u.last then cut.filter (· != u.flow) else cut) r else u :: dropTails cut r

/-- Whether the copy of a frame part sent on a host TX group is the one that counts. -/
def tailCounts (d : Dev) (g f : Nat) : Bool :=
  match (link d g).store.find? fun u => u.flow == f with
  | some u => u.counted
  | none => (flow d f).dest.head? == some g

/-- R252: the units of the rows that a transmitter still has to deliver: on an inner group, of which Izrath is both ends, those not yet
accepted. -/
def undelivered (d : Dev) (g : Nat) : List HubUnit :=
  let x := link d g
  ((if g < 16 then x.replay else x.replay.filter fun r => decide (0 ≤ diff4096 r.seq x.rxNext)).flatMap (·.units)).filter fun u => !isReport u

/-- R252: the unacknowledged rows of a transmitter dropped and their frames, with those part sent, counted against their flows; a TO_HOST
frame that the hub has not accepted sets GAP (R273), and a request for a stamp is answered (R276). -/
def dropReplay (g : Nat) (d : Dev) : Dev :=
  let x := link d g
  let us := undelivered d g
  let tails := x.partSent.filter fun f => !(flowsCut us).contains f && (decide (8 ≤ g) || tailCounts d g f)
  let d1 := (framesTouched (decide (g < 8)) [] us ++ tails).foldl (fun e f => bump FLOW_DROP_LINK f 1 e) d
  let begun := us.filter (·.first)
  let d2 :=
    if g < 16 then d1
    else if (g - 16) % 8 < 4 then begun.foldl (fun e u => modFlow u.flow (fun y => { y with gap := true }) e) d1
    else begun.foldl (fun e u => unitDropped u e) d1
  refreshFill g (modLink g (fun y => { y with replay := [], resend := none, partSent := [], store := dropTails x.partSent y.store })
    (bump GROUP_ROWS_DROPPED g x.replay.length d2))

/-- R337: a host pair that carries a command channel has gone DOWN: its partial request, requests not yet taken and unsent replies are
discarded. -/
def channelDown (pair : Nat) (d : Dev) : Dev :=
  if pair = 0 ∨ pair = 4 then
    let m := 2 + pair / 4
    let d1 := { d with waiting := d.waiting.filter fun w => w.1 != m }
    disarm tkPacket m (modMaster m (fun x => { x with partialReq := none, replies := [], notice := none }) (modLink pair (fun x => { x with cmdSent := 0 }) d1))
  else d

/-- A group that stops carrying: nothing pending on it, its lanes off but for those FAILED and LC. -/
def quietGroup (g : Nat) (d : Dev) : Dev :=
  let d1 := modLink g (fun x => { x with subReq := none, subAnn := none, rxAnn := none, cover := none, openFlows := [], idleRows := 0, idleCode := 0, tangent := false, rxTangent := false, l0sLeft := 0, sent := [], nakOwed := false, ackOwed := false, nakAt := 0, rxTries := 0 }) (disarm tkL0s g d)
  forAll (List.range 5) (fun k e =>
    let l := laneOf g k
    let e1 := disarm tkSpareClean l (disarm tkRepair l (modLane l (fun x => { x with retrain := 0, request := 0, status := 0, lastControl := 0 }) (setAttr LANE_LOGICAL l 0xFF e)))
    if laneState e g k = 6 then e1 else setLaneState g k 0 e1) d1

/-- R397: the repair of a lane of a group broken off. -/
def abortRepair (g : Nat) (d : Dev) : Dev :=
  match repairOn d clsGroup g with
  | some r => endRepair r stAborted d
  | none => d

/-- R252: a group goes DOWN; `k` is the lane whose loss decided it, 0xFF none. -/
def groupDown (g k : Nat) (d : Dev) : Dev :=
  let n := (link d g).replay.length
  let d1 := quietGroup g (closeReceived g (abortRepair g (if groupSends g then dropReplay g d else d)))
  let d2 := setAttr GROUP_LANE_MAP g 0x3210 (setAttr GROUP_SPARE_STATE g 0 (setWidth g 0 d1))
  let d3 := unmasked clsLane (laneOf g (if k = 0xFF then 0 else k)) k 3 unmGroupDown (raise clsGroup g evGroupDown (min 0xFFFF n) d2)
  channelDown (pairOf g) (if g < 8 then hubGroupDown g d3 else refreshCharges [] d3)

/-! ### Training (R241 to R245) -/

/-- R242: the time limit of a phase, ns. -/
def lanePhaseNs (quick : Bool) (phase : Nat) : Nat :=
  match phase with
  | 1 => if quick then 5000 else 50000
  | 2 => if quick then 10000 else 5000000
  | 3 => if quick then 1000 else 200000
  | _ => if quick then 2000 else 100000

/-- The training of a pair. -/
def training (d : Dev) (pair : Nat) : Option LaneTraining := (link d (pairTx pair)).train

/-- The training of a pair written. -/
def setTraining (pair : Nat) (t : Option LaneTraining) (d : Dev) : Dev := modLink (pairTx pair) (fun x => { x with train := t }) d

/-- The group that a training concerns alone, for a lane trained by itself. -/
def trainLane : TrainWhy → Option Nat
  | .background l => some l
  | .repair _ l => some l
  | _ => none

/-- R241: whether a pair is training; a background training gives way. -/
def pairTraining (d : Dev) (pair : Nat) : Bool :=
  match training d pair with
  | some t => (match t.why with | .background _ => false | _ => true)
  | none => false

/-- The groups of a pair that a training concerns. -/
def trainGroups (pair : Nat) (why : TrainWhy) : List Nat :=
  match trainLane why with
  | some l => [l / 8]
  | none => [pairTx pair, pairRx pair]

/-- R238: the taps of a preset. -/
def presetTaps (preset : Nat) : Nat × Nat := if preset = 1 then (0, 0) else if preset = 2 then (4, 8) else (8, 16)

/-- R238: the taps of a lane's transmitter. -/
def setTaps (l pre post : Nat) (d : Dev) : Dev :=
  setAttr LANE_TX_MAIN l (64 - pre - post) (setAttr LANE_TX_POST l post (setAttr LANE_TX_PRE l pre d))

/-- R241: FULL training starts each named lane at its preset. -/
def applyPresets (pair : Nat) (t : LaneTraining) (d : Dev) : Dev :=
  forAll (trainGroups pair t.why) (fun g => forAll t.lanes fun k e =>
    let x := presetTaps (attr e LANE_TX_PRESET (laneOf g k))
    setTaps (laneOf g k) x.1 x.2 (modLane (laneOf g k) (fun y => { y with request := 0, status := 0, lastControl := 0 }) e)) d

/-- The lanes of a group that failed in a training. -/
def failedIn (g : Nat) (t : LaneTraining) : List Nat := if g = pairTx (pairOf g) then t.failTx else t.failRx

/-- R245: the physical lanes of a group that work once a training has ended. -/
def goodLanes (d : Dev) (g : Nat) (t : LaneTraining) : List Nat :=
  (List.range 5).filter fun k =>
    if t.lanes.contains k then laneState d g k == 1 && !(failedIn g t).contains k
    else laneState d g k == 2 || laneState d g k == 3 || laneState d g k == 4

/-- R245: the width a number of working lanes gives. -/
def widthOf (good : List Nat) : Nat := if 4 ≤ good.length then 4 else if good.length = 3 then 3 else 0

/-- R245: the status for one direction. -/
def trainStatus (good : List Nat) : Nat := if good.length = 5 then stOk else if 3 ≤ good.length then stDegraded else stTimeout

/-- R241: the worse of two statuses, in the order OK, DEGRADED, TIMEOUT. -/
def worse (a b : Nat) : Nat := if a = stTimeout ∨ b = stTimeout then stTimeout else if a = stDegraded ∨ b = stDegraded then stDegraded else stOk

/-- R245: the map for the working lanes: logical k on Lk, LS in the place of the first lane that failed. -/
def trainedMap (good : List Nat) : Nat :=
  let l := (List.range 4).map fun k => if good.contains k then k else if (List.range k).all good.contains then 4 else 15
  makeMap (l.filter good.contains)

/-- R228: the seeds of a group's scramblers. -/
def laneSeeds (pair : Nat) : List Nat := (List.range 5).map fun k => 0x40000000 + 0x100 * pair + k

/-- R242, R234: LINK_INIT starts: numbers and scramblers at their start, and the alignment slot that opens a regular period next, with an
AB_COUNT divisible by 4; after a retrain of R236 the rows and their numbers stay. -/
def linkInit (keep : Bool) (g m : Nat) (d : Dev) : Dev :=
  let seeds := laneSeeds (pairOf g)
  let before := fun (ab : Nat) => ((ab + 3) / 4 * 4 + 65535) % 65536
  modLink g (fun x =>
    let y := { x with ab := before x.ab, slot := 1024, rxAb := before x.rxAb, rxSlot := 1024, scrTx := seeds, scrRx := seeds, txMap := m,
                      subReq := none, subAnn := none, rxAnn := none, cover := none, idleRows := 0, idleCode := 0, tangent := false, rxTangent := false,
                      l0sLeft := 0, idleSeen := 0, lcLost := false, fromDown := false, nakOwed := false, nakAt := 0, rxTries := 0, ackOwed := false, sent := [] }
    if keep then { y with resend := (y.replay.head?).map (·.seq) }
    else { y with txSeq := 0, replay := [], resend := none, rxNext := 0, openFlows := [], partSent := [] }) (writeLaneMap g m d)

/-- R242: what the receivers of a training have met so far, forgotten at the start of a phase. -/
def clearPhase (pair : Nat) (t : LaneTraining) (d : Dev) : Dev :=
  forAll (trainGroups pair t.why) (fun g => forAll t.lanes fun k => modLane (laneOf g k) fun x => { x with ready := false, alignRun := 0 }) d

/-- R243: the generators of the training frames of a pair: R243 gives them no first state (a free value). -/
def seedFrames (pair : Nat) (t : LaneTraining) (d : Dev) : Dev :=
  usedFree (forAll (trainGroups pair t.why) (fun g => forAll t.lanes fun k e =>
    modLane (laneOf g k) (fun x => { x with prbs := 1 + (freeVal d + 5 * g + k) % 8191 }) e) d)

/-- R242: a phase begins. -/
def beginLanePhase (pair : Nat) (t : LaneTraining) (d : Dev) : Dev :=
  let fast := t.quick && !t.repeated
  let d1 := arm tkLanePhase pair (lanePhaseNs fast t.phase) (setTraining pair (some t) (clearPhase pair t d))
  if t.phase = 2 then seedFrames pair t (if fast then d1 else applyPresets pair t d1)
  else if t.phase = 4 ∧ (trainLane t.why).isNone then
    forAll (trainGroups pair t.why) (fun g e => if attr e GROUP_STATE g = 1 then linkInit (t.why == .replayLimit) g (trainedMap (goodLanes e g t)) e else e) d1
  else d1

/-- Whether a training takes a group out of service: it carries no rows, or a named lane carries a logical lane. -/
def takesDown (d : Dev) (g : Nat) (lanes : List Nat) : Bool :=
  !groupRuns d g || lanes.any fun k => (carriedBy (attr d GROUP_LANE_MAP g) k).isSome

/-- R242: a training of a pair begins. -/
def startTraining (pair : Nat) (why : TrainWhy) (quick : Bool) (lanes : List Nat) (d : Dev) : Dev :=
  let gs := trainGroups pair why
  let d1 := forAll gs (fun g e =>
    let down := (trainLane why).isNone && takesDown e g lanes
    let e1 := forAll lanes (fun k x => if laneState x g k = 6 ∧ (trainLane why).isNone then x else setLaneState g k 1 (endPattern (laneOf g k) stAborted 2 x)) e
    let e2 := when ((trainLane why).isNone && laneState e1 g 5 != 5) (setLaneState g 5 2) (bump GROUP_TRAIN_COUNT g 1 e1)
    if down then modLink g (fun x => { x with idleRows := 0, tangent := false, rxTangent := false, l0sLeft := 0 }) (disarm tkL0s g (hubGroupWidth g (setAttr GROUP_STATE g 1 e2))) else e2) d
  beginLanePhase pair ⟨why, quick, lanes, 1, false, [], [], 0, 0⟩ (disarm tkStartPair pair (calOnPair pair (refreshCharges [] d1)))

/-- R245: a group that was taken out of service comes up on its working lanes. -/
def bringUp (g : Nat) (good : List Nat) (d : Dev) : Dev :=
  let m := trainedMap good
  let d1 := writeLaneMap g m (setWidth g (widthOf good) d)
  let d2 := modLink g (fun x => { x with txMap := m }) d1
  let d3 := forAll (List.range 5) (fun k e =>
    if good.contains k then setLaneState g k (if (carriedBy m k).isSome then 2 else 3) (modLane (laneOf g k) (fun x => { x with retrain := 0, replayUncorr := 0, uncorr := 0, corr := 0, corrRun := 0 }) e)
    else if laneState e g k = 6 then e else setLaneState g k 5 e) (setLaneState g 5 2 d2)
  let d4 := setAttr GROUP_SPARE_STATE g (if good.length = 5 then 0 else if good.contains 4 then 6 else 5) d3
  let d5 := if widthOf good = 3 then raise clsGroup g evGroupDegraded 3 d4 else d4
  if g < 8 then hubGroupUp g d5 else refreshCharges [] d5

/-- R245: lanes that carried nothing return as the spare of a group that runs on; at width 3 the fourth lane restores the width. -/
def bringBack (g : Nat) (good : List Nat) (t : LaneTraining) (d : Dev) : Dev :=
  let d1 := forAll t.lanes (fun k e =>
    if good.contains k then setLaneState g k 3 (modLane (laneOf g k) (fun x => { x with retrain := 0 }) e) else if laneState e g k = 1 then setLaneState g k 5 e else e) d
  if attr d GROUP_WIDTH g = 3 ∧ 4 ≤ good.length then
    let m := trainedMap good
    let d2 := modLink g (fun x => { x with txMap := m, cover := none }) (writeLaneMap g m (setWidth g 4 d1))
    let d3 := forAll good (fun k => setLaneState g k (if (carriedBy m k).isSome then 2 else 3)) d2
    refreshCharges [] (hubGroupWidth g (setAttr GROUP_SPARE_STATE g (if good.length = 5 then 0 else if good.contains 4 then 6 else 5) d3))
  else if t.lanes.any good.contains then
    setAttr GROUP_SPARE_STATE g 0 (modLink g (fun x => { x with cover := match x.cover with | some (1, _) => none | c => c }) d1)
  else if attr d1 GROUP_SPARE_STATE g = 0 then setAttr GROUP_SPARE_STATE g 5 d1 else d1

/-- R245: what a training leaves of one group. -/
def settleGroup (t : LaneTraining) (g : Nat) (d : Dev) : Dev :=
  let good := goodLanes d g t
  if attr d GROUP_STATE g ≠ 1 then bringBack g good t d
  else if 3 ≤ good.length then bringUp g good d
  else if attr d GROUP_WIDTH g ≠ 0 then groupDown g 0xFF d
  else quietGroup g (setAttr GROUP_LANE_MAP g 0x3210 (setWidth g 0 d))

/-- R397: the repair of a FAILED lane of a group that waits for its training. -/
def waitingRepair (d : Dev) (g : Nat) : Option Repair :=
  match repairOn d clsGroup g with
  | some r => if laneState d g r.element = 6 then some r else none
  | none => none

/-- R397, R250: the next lane of a pair that waits for training by itself begins it. -/
def nextBackground (pair : Nat) (d : Dev) : Dev :=
  let repairs := ([pairTx pair, pairRx pair].filterMap (waitingRepair d)).head?
  if (training d pair).isSome then d
  else if let some r := repairs then startTraining pair (.repair r.job (laneOf r.inst r.element)) true [r.element] d
  else
    let wants := fun g => (List.range 5).filterMap fun k => if (lane d (laneOf g k)).retrain = 1 ∧ laneState d g k = 5 ∧ groupRuns d g then some (laneOf g k) else none
    match wants (pairTx pair) ++ wants (pairRx pair) with
    | l :: _ => startTraining pair (.background l) true [l % 8] d
    | [] => d

/-- GROUP.LAST_TRAIN of a group. -/
def recordTraining (pair status : Nat) (t : LaneTraining) (d : Dev) : Dev :=
  forAll (trainGroups pair t.why) (fun g => setAttr GROUP_LAST_TRAIN g (256 * (if g = pairTx pair then t.phaseTx else t.phaseRx) + status)) d

/-! ### Steps 7 to 9 of the start sequence (R523) -/

/-- R522, R535: a flag of DEVICE.START_FLAGS set. -/
def startFlag (bit : Nat) (d : Dev) : Dev := setAttr DEVICE_START_FLAGS 0 (withBit (attr d DEVICE_START_FLAGS 0) bit true) d

/-- R532: whether a host pair is one that start training serves. -/
def startsPair (d : Dev) (g : Nat) : Bool := bitOf (attr d DEVICE_START_PAIRS 0) g && pairOn d g && domainOn d (188 + g / 2)

/-- R527: at the end of step 8, the calibration and self-test engines take their BOOT_STATE. -/
def engineBoot (i : Nat) (d : Dev) : Dev := setAttr DOMAIN_STATE i (attr d DOMAIN_BOOT_STATE i) d

/-- R531, R532: READY. -/
def enterReady (d : Dev) : Dev :=
  let d1 := queueLog clsDevice 0 0xFF 0 logReset 0 (attr d DEVICE_RESET_CAUSE 0) 1 (engineBoot 193 (engineBoot 192 d))
  let d2 := forAll ((List.range 195).filter fun i => attr d1 DOMAIN_STATE i == 0) (fun i => setAttr DOMAIN_PADS_LATCHED i 0) d1
  let d3 := setAttr DEVICE_START_TIME 0 (d.elapsed / nsPerUs) { d2 with phase := .ready }
  let d4 := raise clsDevice 0 evReady (attr d DEVICE_RESET_CAUSE 0 % 256 * 256 + attr d3 DEVICE_START_FLAGS 0 % 256) d3
  let d5 := forAll [0, 1] (fun m e => if (master e m).events.isEmpty then e else signal m e) d4
  forAll ((List.range 8).filter (startsPair d5)) (fun g => startTraining g (.start false) false [0, 1, 2, 3, 4]) d5

/-- R471, R523: step 8 goes on after the regions before `rest`. -/
def selfTestFrom (rest : List Nat) (d : Dev) : Dev :=
  match powerUpFrom rest d with
  | (true, e) => enterReady e
  | (false, e) => e

/-- R523, R530: step 8 begins. -/
def beginSelfTest (d : Dev) : Dev :=
  if attr d BIST_POWER_UP 0x600 = 1 ∧ attr d DEVICE_LC_STATE 0 ≠ 3 then selfTestFrom regions { d with phase := .selfTest }
  else enterReady { d with phase := .selfTest }

/-- The inner pairs with both ends ON. -/
def innerPairs (d : Dev) : List Nat := ((List.range 8).map (8 + ·)).filter fun p => (pairDomains p).all fun i => attr d DOMAIN_STATE i == 0

/-- Whether a pair is in start training. -/
def inStart (d : Dev) (pair : Nat) : Bool :=
  match (link d (pairTx pair)).train with
  | some t => (match t.why with | .start _ => true | _ => false)
  | none => false

/-- R535: an inner pair below width 4, or without a spare. -/
def innerDegraded (d : Dev) (pair : Nat) : Bool :=
  [pairTx pair, pairRx pair].any fun g => decide (attr d GROUP_WIDTH g < 4) || attr d GROUP_SPARE_STATE g != 0

/-- R529, R536: where the inner links are: at the end of step 7 the self-test begins; after a start without REFCLK, START_RESUMED is raised
once the steps left undone have run. -/
def afterInner (d : Dev) : Dev :=
  if (innerPairs d).any (inStart d) then d
  else
    let flagged := if (innerPairs d).any (innerDegraded d) then startFlag 5 d else d
    if d.phase = .train then beginSelfTest flagged
    else if d.resuming ∧ owedItems d [0, 5, 8] = [] then
      raise clsDevice 0 evStartResumed (attr flagged DEVICE_START_FLAGS 0 % 256) { flagged with resuming := false }
    else d

/-- R523, R529: step 7: every inner pair with both ends ON trains. -/
def trainInner (d : Dev) : Dev := afterInner (forAll (innerPairs d) (fun p => startTraining p (.start false) false [0, 1, 2, 3, 4]) d)

/-- R529, R532: start training of a pair has ended. -/
def endStart (pair : Nat) (again : Bool) (wTx wRx : Nat) (d : Dev) : Dev :=
  let tx := pairTx pair
  let w := min wTx wRx
  if w = 0 then
    if pair < 8 then arm tkStartPair pair (100 * nsPerMs) d
    else if again then afterInner (unmasked clsLane (laneOf tx 0) 0xFF 3 unmGroupDown d)
    else startTraining pair (.start true) false [0, 1, 2, 3, 4] d
  else
    let d1 := raise clsGroup tx evStartPair (256 * pair + w) d
    let d2 := if w = 3 ∧ 8 ≤ pair then unmasked clsLane (laneOf tx 0) 0xFF 3 unmGroupWidth d1 else d1
    let m := 2 + pair / 4
    if (pair = 0 ∨ pair = 4) ∧ (master d2 m).events ≠ [] then modMaster m (fun x => { x with notice := some (ibiByte x) }) d2 else if 8 ≤ pair then afterInner d2 else d2

/-- R250, R397: the training of one lane alone has ended: it carries the spare pattern for ten seconds, or for the second of a
repair, before it is the spare. -/
def endAlone (l : Nat) (ok : Bool) (repair : Bool) (d : Dev) : Dev :=
  if ok then
    let d1 := setAttr LANE_STATE l 3 (modLane l (fun x => { x with retrain := if repair then 3 else 2 }) d)
    if repair then arm tkRepair l nsPerS d1 else arm tkSpareClean l (10 * nsPerS) d1
  else
    let d1 := setAttr LANE_STATE l (if repair then 6 else 5) (modLane l (fun x => { x with retrain := 0 }) d)
    if repair then
      match repairOn d1 clsGroup (l / 8) with
      | some r => endRepair r stDegraded d1
      | none => d1
    else d1

/-- R242, R245, R260: a training has ended. -/
def finishTraining (pair : Nat) (t : LaneTraining) (d : Dev) : Dev :=
  let tx := pairTx pair
  let rx := pairRx pair
  let d0 := disarm tkLanePhase pair (setTraining pair none d)
  match trainLane t.why with
  | some l =>
    let ok := !(failedIn (l / 8) t).contains (l % 8)
    let d1 := recordTraining pair (if ok then stOk else stTimeout) t d0
    nextBackground pair (endAlone l ok (match t.why with | .repair _ _ => true | _ => false) d1)
  | none =>
    let status := worse (trainStatus (goodLanes d0 tx t)) (trainStatus (goodLanes d0 rx t))
    let d1 := settleGroup t rx (settleGroup t tx (recordTraining pair status t d0))
    let wTx := attr d1 GROUP_WIDTH tx
    let wRx := attr d1 GROUP_WIDTH rx
    let d2 :=
      match t.why with
      | .command j => complete j clsGroup tx evGroupTrained status [byteOf pair, byteOf wTx, byteOf wRx, 0#8] d1
      | .idleExit j =>
        let w := min wTx wRx
        complete j clsGroup tx evGroupIdle (if w = 4 then stOk else if w = 3 then stDegraded else stTimeout)
          [byteOf pair, 0#8, byteOf (attr d1 GROUP_STATE tx), 0#8] d1
      | .replayLimit => disarm tkQuickRetrain pair d1
      | .start again => endStart pair again wTx wRx d1
      | _ => d1
    nextBackground pair d2

/-- A training given up: what its lanes and groups were is not restored; a background one is wanted again. -/
def dropTraining (pair : Nat) (d : Dev) : Dev :=
  match training d pair with
  | none => d
  | some t =>
    let d1 := disarm tkLanePhase pair (setTraining pair none d)
    match t.why with
    | .background l => setAttr LANE_STATE l 5 d1
    | _ => d1

/-- R250: a faulted lane is to be retrained in the background. -/
def wantBackground (l : Nat) (d : Dev) : Dev :=
  nextBackground (pairOf (l / 8)) (modLane l (fun x => { x with retrain := 1 }) d)

/-! ### Map changes applied (R248, R249, R251) -/

/-- Whether a lane is FAULTED or FAILED. -/
def laneBad (d : Dev) (g k : Nat) : Bool := laneState d g k == 5 || laneState d g k == 6

/-- R252: the lanes that can still carry a logical lane: those of the map that work, and the spare where a fault may have it. -/
def lanesLeft (d : Dev) (g : Nat) : Nat :=
  ((mapList (attr d GROUP_LANE_MAP g)).filter fun k => !laneBad d g k).length + bitNat (spareReady d g 1)

/-- R247, R251, R252: the change for the first lane that carries a logical lane and is faulted: onto the spare where it is free for a
fault, or to width 3; with fewer than three data lanes left the group is DOWN. -/
def coverFaulted (g : Nat) (d : Dev) : Dev :=
  let m := attr d GROUP_LANE_MAP g
  match (mapList m).find? (laneBad d g) with
  | none => d
  | some k =>
    let pending := fun (c : Option SubChange) => match c with | some a => a.rank == 1 | none => false
    if groupRuns d g = false then d
    else if lanesLeft d g < 3 then groupDown g k d
    else if pending (link d g).subReq || pending (link d g).rxAnn then d
    else
      let j := (carriedBy m k).getD 0
      if spareReady d g 1 then wantMapChange g (j + 1) 1 (stopSlice (0x300 + laneOf g (spareTarget d g m)) d)
      else wantMapChange g (5 + j) 1 (unmasked clsLane (laneOf g k) k 3 unmGroupWidth d)

/-- GROUP.SPARE_STATE after a change: by the lane that now carries nothing. -/
def spareAfter (d : Dev) (g v rank : Nat) (back : Bool) : Nat :=
  if laneBad d g v then (if v = 4 then 5 else 1) else if back then 0 else rank

/-- R248, R251: a map change applied where Izrath reports the group: LANE_SUBST, and at width 3 GROUP_DEGRADED. -/
def applyMapChange (g code rank : Nat) (d : Dev) : Dev :=
  let m := attr d GROUP_LANE_MAP g
  let x := link d g
  let m' := codeMap (spareTarget d g m) m x.cover code
  let back := match x.cover with | some (r, i) => decide (2 ≤ r) && i + 1 == code | none => false
  let gone := (mapList m).filter fun k => (carriedBy m' k).isNone
  let d1 := modLink g (fun y => { y with cover := if 5 ≤ code ∨ back = true then none else some (rank, code - 1) }) (writeLaneMap g m' d)
  let d2 := forAll (mapList m') (fun k e => if laneState e g k = 3 then setLaneState g k 2 e else e) d1
  let d3 := forAll gone (fun k e => if laneState e g k = 2 then setLaneState g k 3 e else e) d2
  let d4 := bump GROUP_SUBSTITUTIONS g 1 (raise clsGroup g evLaneSubst code d3)
  if 5 ≤ code then
    let d5 := setAttr GROUP_SPARE_STATE g (if attr d GROUP_SPARE_STATE g = 5 then 5 else 6) (setWidth g 3 d4)
    refreshCharges [] (hubGroupWidth g (raise clsGroup g evGroupDegraded 3 d5))
  else setAttr GROUP_SPARE_STATE g (spareAfter d4 g (gone.headD 4) rank back) d4

/-- R251: the units of rows cut to rows of three lanes; at most `n` rows. -/
def packUnits : Nat → List HubUnit → List (List HubUnit)
  | 0, _ => []
  | _, [] => []
  | n + 1, us =>
    let (t, rest) := takeUnits 470 us
    t :: packUnits n rest

/-- R251, R335: what one row carries, cut to rows of three lanes: a DATA row at its units, a COMMAND row within its part. -/
def narrowRow (r : SentRow) : List SentRow :=
  if r.payload.length ≤ 470 then [r]
  else if r.kind = 0 then
    let us := r.units.flatMap (splitUnit (unitMax 3))
    (packUnits us.length us).map fun l => { r with payload := l.flatMap fun u => unitHeader u ++ u.data, units := l }
  else
    let h := ofBE (r.payload.take 4)
    let part := (r.payload.drop 4).take (h / 2 ^ 16 % 8192)
    let head := fun (v n : Nat) => toBE (v / 2 ^ 29 * 2 ^ 29 + n * 2 ^ 16 + v % 2 ^ 16) 4
    if part.length ≤ 466 then [{ r with payload := head h part.length ++ part }]
    else [{ r with payload := head (withBit h 30 false) 466 ++ part.take 466 },
          { r with payload := head (h / 2 ^ 30 % 2 * 2 ^ 30) (part.length - 466) ++ part.drop 466 }]

/-- R251: at width 3 the rows not yet acknowledged are numbered anew from the oldest: none of them has been accepted, since only IDLE rows
and their acknowledgements have passed since the request (R248). DEDUCED (assumption 116). -/
def narrowReplay (x : Link) : Link :=
  match x.replay with
  | [] => x
  | r :: _ =>
    let rows := (x.replay.flatMap narrowRow).zipIdx.map fun y => { y.1 with seq := (r.seq + y.2) % 4096 }
    { x with replay := rows, txSeq := (r.seq + rows.length) % 4096 }

/-- R248: the transmitter's map at the agreed slot; asked changes are followed by the oldest row not yet acknowledged (R249). -/
def applyTxChange (g : Nat) (c : SubChange) (d : Dev) : Dev :=
  let x := link d g
  let again := c.asked && x.resend.isNone && !x.replay.isEmpty
  let narrow := decide (5 ≤ c.code) && mapWidth x.txMap == 4
  let d1 := modLink g (fun y => let z := if narrow then narrowReplay y else y
    { z with subAnn := none, resend := if again || (narrow && z.resend.isSome) then (z.replay.head?).map (·.seq) else z.resend }) d
  let d2 := if again then bump GROUP_REPLAYS g 1 d1 else d1
  if g < 8 then
    let d3 := applyMapChange g c.code c.rank d2
    modLink g (fun y => { y with txMap := attr d3 GROUP_LANE_MAP g }) d3
  else modLink g (fun y => { y with txMap := codeMap (spareTarget d2 g y.txMap) y.txMap y.cover c.code }) d2

/-- The transmitter's change where its slot has come. -/
def txChangeDue (g : Nat) (d : Dev) : Dev :=
  match (link d g).subAnn with
  | some c => if groupSends g ∧ c.slot = txSlot d g then applyTxChange g c d else d
  | none => d

/-- R248, R249: the receiver's change where its slot has come: one announced, or its own request for a fault, which needs no confirmation
that could not reach it; another faulted lane is then seen to. -/
def rxChangeDue (g : Nat) (d : Dev) : Dev :=
  let x := link d g
  if groupReceives g = false then d
  else
    match x.rxAnn, x.subReq with
    | some c, _ =>
      if c.slot = rxSlot d g then coverFaulted g (applyMapChange g c.code c.rank (modLink g (fun y => { y with rxAnn := none }) d)) else d
    | none, some r =>
      if r.rank = 1 ∧ r.asked = true ∧ r.applied = false ∧ r.slot = rxSlot d g then
        applyMapChange g r.code 1 (modLink g (fun y => { y with subReq := some { r with applied := true } }) d)
      else d
    | none, none => d

/-- R248: a row is accepted after a request was applied: the change stands, and another faulted lane is seen to. -/
def requestMet (g : Nat) (d : Dev) : Dev :=
  match (link d g).subReq with
  | some r => if r.applied then coverFaulted g (modLink g (fun y => { y with subReq := none }) d) else d
  | none => d

/-- R248: a row is rejected after a request was applied: it came too late, and is made again. -/
def requestAgain (g : Nat) (d : Dev) : Dev :=
  modLink g (fun y => { y with subReq := y.subReq.map fun r => if r.applied ∧ diff4096 r.slot (rxSlot d g) ≤ 0 then { r with asked := false } else r }) d

/-! ### Faults (R246, R250, R253) -/

/-- R246: whether a lane is watched. -/
def watched (d : Dev) (g k : Nat) : Bool :=
  groupReceives g && decide (k < 5) && (attr d GROUP_STATE g == 2 || attr d GROUP_STATE g == 3) && (laneState d g k == 2 || laneState d g k == 3)

/-- R246, R250: a lane fault. -/
def laneFault (g k cause : Nat) (d : Dev) : Dev :=
  if watched d g k = false then d
  else
    let l := laneOf g k
    let key := elementKey clsLane l k
    let d1 := noteFault key (bump LANE_FAULT_COUNT l 1 (raise clsLane l evLaneFault cause d))
    let d2 := disarm tkSpareClean l (endPattern l stAborted 2 (setAttr LANE_STATE l 5 d1))
    let d3 :=
      match repairOn d2 clsGroup g with
      | some r => if (lane d2 l).retrain = 3 then endRepair r stDegraded (disarm tkRepair l d2) else d2
      | none => d2
    let d4 :=
      if 3 ≤ (recentFaults d3 key).length then permanentFault clsLane l k 3 (setAttr LANE_STATE l 6 (modLane l (fun x => { x with retrain := 0 }) d3))
      else countTransient clsLane l 3 (modLane l (fun x => { x with retrain := 1 }) d3)
    let d5 := if (carriedBy (attr d4 GROUP_LANE_MAP g) k).isNone ∧ (attr d4 GROUP_SPARE_STATE g = 0 ∨ k = 4) then setAttr GROUP_SPARE_STATE g 5 d4 else d4
    nextBackground (pairOf g) (coverFaulted g d5)

/-- R253: the clock lane of a group is lost; the group runs on. -/
def lcLoss (g : Nat) (d : Dev) : Dev :=
  if groupReceives g && groupRuns d g && !(link d g).lcLost then
    let l := laneOf g 5
    bump LANE_FAULT_COUNT l 1 (raise clsLane l evLaneFault 4 (setAttr LANE_STATE l 5 (modLink g (fun x => { x with lcLost := true }) d)))
  else d

/-- R250: a retrained lane becomes the spare of its group. -/
def becomeSpare (l : Nat) (d : Dev) : Dev :=
  let g := l / 8
  let d1 := modLane l (fun x => { x with retrain := 0 }) d
  if groupRuns d g then setAttr GROUP_SPARE_STATE g 0 (modLink g (fun x => { x with cover := match x.cover with | some (1, _) => none | c => c }) d1) else d1

end Sys2Proof.Machine
end

