-- ==== Sys2Proof/Machine/LaneLine.lean ====
section
/-! DEFINITION. Machine/LaneLine.lean: what the lanes of Drigal carry outside rows: PAM4 levels (R226), training frames (R243), tangent
bursts (R259) and the content of patterns (R255). -/

namespace Sys2Proof.Machine

/-- R226: the levels of a codeword of ten-bit symbols. -/
def wordLevels (w : List Nat) : List Int := levelsOf (symbolsToBits w)

/-- What a group puts on a physical lane in the present slot. -/
def putLevels (g k : Nat) (l : List Int) (d : Dev) : Dev := modLink g (fun x => { x with sent := x.sent ++ [(k, l)] }) d

/-! ### Training frames (R243) -/

/-- R243: a control or status word, four UI for each bit, bit 15 first. -/
def cellLevels (w : Nat) : List Int := (bitsMsb w 16).flatMap fun b => if b then [3, 3, -3, -3] else [-3, -3, 3, 3]

/-- R243: a training frame of 4,096 UI, and the PRBS-13 generator after it. -/
def trainingFrameOf (control status seed : Nat) : List Int × Nat :=
  let (bs, s) := prbs13 7808 seed
  (List.replicate 32 3 ++ List.replicate 32 (-3) ++ cellLevels control ++ cellLevels status ++ levelsOf bs, s)

/-- R243, R244: the control word that a frame of a transmitter's lane carries: the request and RX_READY of the same lane of the reverse
direction. -/
def controlWord (d : Dev) (g k : Nat) : Nat :=
  let y := lane d (laneOf (reverseOf g) k)
  (y.request % 2 ^ 16 / 2 ^ 10) * 2 ^ 10 + bitNat y.ready * 2 ^ 9

/-- R243: the next training frame of a lane of a group is sent. -/
def sendFrame (g k : Nat) (d : Dev) : Dev :=
  let l := laneOf g k
  let (f, s) := trainingFrameOf (controlWord d g k) (lane d l).status (lane d l).prbs
  modLane l (fun x => { x with frame := f, prbs := s }) d

/-! ### Tangent bursts (R259) -/

/-- R259: a tangent burst, and the generator after it. -/
def tangentLevels (seed : Nat) : List Int × Nat :=
  let (bs, s) := prbs13 1064 seed
  (((List.range 128).map fun i => if i % 2 = 0 then -3 else 3) ++ levelsOf bs, s)

/-- Whether a lane of a group carries codewords: in service or in the spare pattern, or in LINK_INIT (R242). -/
def inLinkInit (d : Dev) (g : Nat) : Bool :=
  attr d GROUP_STATE g == 1 && (match training d (pairOf g) with | some t => t.phase == 4 && (trainGroups (pairOf g) t.why).contains g | none => false)

/-- R242, R254: whether lane `k` of a group carries codewords. -/
def laneLive (d : Dev) (g k : Nat) : Bool := laneState d g k == 2 || laneState d g k == 3 || (laneState d g k == 1 && inLinkInit d g)

/-- R259: a tangent burst on the lanes of a group. -/
def sendTangent (g : Nat) (d : Dev) : Dev :=
  forAll ((List.range 5).filter (laneLive d g)) (fun k e =>
    let (l, s) := tangentLevels (lane e (laneOf g k)).prbs
    putLevels g k l (modLane (laneOf g k) (fun x => { x with prbs := s }) e)) (modLink g (fun x => { x with tangent := false }) d)

/-! ### Patterns (R255) -/

/-- R254, R255: the 1,320 bits of one slot of a pattern, and its generator after them: FRAMED codewords of scrambled zeros, PRBS-13 and
PRBS-31 as R243 and R228 have them. The manual gives the content of PRBS-7 and SSPRQ by name only: a free value (assumption 117). -/
def patternBits (pattern seed free : Nat) : List Bool × Nat :=
  if pattern = 0 then
    let (k, s) := prbs31 1280 seed
    (symbolsToBits (rsEncode 4 (bitsToSymbols 128 k)), s)
  else if pattern = 2 then prbs13 1320 seed
  else if pattern = 3 then prbs31 1320 seed
  else (bitsMsb free 1320, seed)

/-- R257: a near loop of a group's pair. -/
def nearLoop (d : Dev) (g : Nat) : Bool := (link d g).loop == 1 || (link d g).loop == 2

/-- R255, R257: the LANE instance whose run acts on a transmitter's lane: its own, or in a near loop that of the lane it returns to. -/
def runOn (d : Dev) (g k : Nat) : Option Nat :=
  let own := laneOf g k
  let back := laneOf (reverseOf g) k
  if (lane d own).pattern.isSome then some own
  else if nearLoop d g && (lane d back).pattern.isSome then some back
  else none

end Sys2Proof.Machine
end

