-- ==== Sys2Proof/Machine/LaneRows.lean ====
section
/-! DEFINITION. Machine/LaneRows.lean: rows of Drigal: lane coding (R227 to R230), the row control field (R231, R232), what a transmitter
sends in a row slot (R234, R248, R254, R259) and what a receiver does with a row (R233 to R236). -/

namespace Sys2Proof.Machine

/-! ### Lane coding (R227, R228, R230) -/

/-- R228: 1,280 data bits scrambled, or descrambled, and the generator after them. -/
def scramble (bits : List Bool) (seed : Nat) : List Bool × Nat :=
  let (k, s) := prbs31 1280 seed
  (xorBits bits k, s)

/-- R227: a codeword of 1,280 data bits. -/
def laneCodeword (bits : List Bool) : List Nat := rsEncode 4 (bitsToSymbols 128 bits)

/-- R227: the data bits of a received codeword and how many symbols were corrected, where it decodes. -/
def laneDecode (w : List Nat) : Option (List Bool × Nat) :=
  if w.length = 132 then (rsDecode 4 w).map fun x => (symbolsToBits (x.1.take 128), x.2) else none

/-- R230: the data string of an alignment codeword. -/
def alignmentBits (ab k pair logical width : Nat) : List Bool :=
  bitsMsb 0xA55A3CC30FF09669 64 ++ bitsMsb ab 16 ++ bitsMsb k 3 ++ bitsMsb pair 4 ++ bitsMsb logical 4
    ++ bitsMsb (if width = 3 then 1 else 0) 2 ++ bitsMsb 0 3 ++ (prbs31 1184 0x7FFFFFFF).1

/-- R230: AB_COUNT of a received alignment codeword whose SYNC is right. -/
def alignmentCount (bits : List Bool) : Option Nat :=
  if ofBits (bits.take 64) = 0xA55A3CC30FF09669 then some (ofBits ((bits.drop 64).take 16)) else none

/-! ### The row control field (R232) -/

/-- R232: the fields of a row's control field. -/
structure RowControl where
  kind : Nat
  rseq : Nat
  ackValid : Bool
  ack : Nat
  nak : Bool
  width : Nat
  subReq : Nat
  subSlot : Nat
  ann : Nat
  annSlot : Nat
  idle : Nat
  deriving DecidableEq, Repr

/-- R232: bits [79:12] of a control field. -/
def controlHigh (c : RowControl) : Nat :=
  c.kind * 2 ^ 66 + c.rseq * 2 ^ 54 + bitNat c.ackValid * 2 ^ 53 + c.ack * 2 ^ 41 + bitNat c.nak * 2 ^ 40 + (if c.width = 3 then 1 else 0) * 2 ^ 38
    + c.subReq * 2 ^ 34 + c.subSlot * 2 ^ 22 + c.ann * 2 ^ 18 + c.annSlot * 2 ^ 6 + c.idle * 2 ^ 4

/-- R232: a control field with its check. -/
def buildControl (c : RowControl) : Nat :=
  let h := controlHigh c
  h * 4096 + crc12 (bitsMsb h 68)

/-- R232, R233: a control field read: none where the check, KIND or a reserved bit is wrong, or WIDTH is not the receiver's. -/
def readControl (v width : Nat) : Option RowControl :=
  let h := v / 4096
  if crc12 (bitsMsb h 68) ≠ v % 4096 ∨ fieldOf v 79 78 = 3 ∨ fieldOf v 51 50 ≠ (if width = 3 then 1 else 0) ∨ fieldOf v 15 12 ≠ 0 then none
  else
    some ⟨fieldOf v 79 78, fieldOf v 77 66, bitOf v 65, fieldOf v 64 53, bitOf v 52, width, fieldOf v 49 46, fieldOf v 45 34,
      fieldOf v 33 30, fieldOf v 29 18, fieldOf v 17 16⟩

/-- R231: payload bytes of a row at a width. -/
def rowRoom (width : Nat) : Nat := if width = 3 then 470 else 630

/-- R231: the 1,280-bit strings of a row's logical lanes. -/
def rowLanes (width control : Nat) (payload : List Byte) : List (List Bool) :=
  let bits := bitsMsb control 80 ++ bytesToBits (fitBytes payload (rowRoom width))
  (List.range width).map fun j => (bits.drop (1280 * j)).take 1280

/-- R231: the control field and the payload of a row from its logical lanes. -/
def rowSplit (width : Nat) (lanes : List (List Bool)) : Nat × List Byte :=
  let bits := lanes.flatten
  (ofBits (bits.take 80), bitsToBytes (rowRoom width) (bits.drop 80))

/-! ### What the transmitter sends (R234) -/

/-- R255: an injection into a spare codeword: `count` symbols changed (R255 does not say to what: free values), or `count` PAM4 levels
reflected through 0 (R226: the first bit of the pair inverted). -/
def injectWord (r : PatternRun) (free : Nat) (w : List Nat) : List Nat :=
  if r.inject = 1 then (List.range r.count).foldl (fun a i => a.set i (a.getD i 0 ^^^ (1 + (free + i) % 1023))) w
  else if r.inject = 2 then
    bitsToSymbols 132 (xorBits (symbolsToBits w) ((List.range 1320).map fun i => i % 2 == 0 && decide (i < 2 * r.count)))
  else w

/-- R255: whether this codeword, or alignment period, is one to corrupt. -/
def injectNow (r : PatternRun) (align : Bool) : Bool :=
  (if align then r.inject == 3 else r.inject == 1 || r.inject == 2) && decide (r.interval ≤ r.gap + 1)

/-- The run on a lane after one codeword of the kind it injects into. -/
def countInjection (l : Nat) (align : Bool) (d : Dev) : Dev :=
  modLane l (fun x =>
    match x.pattern with
    | some r =>
      if (r.inject == 3) == align ∧ r.inject ≠ 0 then
        { x with pattern := some (if injectNow r align then { r with gap := 0, injections := r.injections + 1 } else { r with gap := r.gap + 1 }) }
      else x
    | none => x) d

/-- A codeword of lane `k` of a group as it leaves the transmitter, injections made. -/
def putCodeword (g k : Nat) (w : List Nat) (d : Dev) : Dev :=
  match (lane d (laneOf g k)).pattern with
  | some r =>
    let hit := injectNow r false
    let d1 := countInjection (laneOf g k) false d
    if hit then usedFree (putLevels g k (wordLevels (injectWord r (freeVal d) w)) d1) else putLevels g k (wordLevels w) d1
  | none => putLevels g k (wordLevels w) d

/-- R231, R254: a row put on the lanes of a group: logical lanes by the transmitter's map, zeros on a lane that carries none. -/
def putRow (g : Nat) (lanes : List (List Bool)) (d : Dev) : Dev :=
  let m := (link d g).txMap
  let d0 := modLink g (fun x => { x with sent := [] }) d
  forAll (List.range 5) (fun k e =>
    let seed := (link e g).scrTx.getD k 0
    let bits := match carriedBy m k with
      | some j => lanes.getD j []
      | none => List.replicate 1280 false
    let (out, s') := scramble bits seed
    let e1 := modLink g (fun x => { x with scrTx := x.scrTx.set k s' }) e
    if laneLive e g k then putCodeword g k (laneCodeword out) e1 else e1) d0

/-- A host group's command channel: M2 on G0, M3 on G4 (R335); none elsewhere. -/
def channelOf (g : Nat) : Option Nat := if g = 0 then some 2 else if g = 4 then some 3 else none

/-- R335, R336: whether a COMMAND row is owed on a transmitting group. -/
def commandOwed (d : Dev) (g : Nat) : Bool :=
  match channelOf g with
  | some m => let x := master d m; !x.replies.isEmpty || x.notice.isSome
  | none => false

/-- R335: a channel header. -/
def channelHeader (start fin notice : Bool) (len byte : Nat) : List Byte :=
  toBE (bitNat start * 2 ^ 31 + bitNat fin * 2 ^ 30 + bitNat notice * 2 ^ 29 + len * 2 ^ 16 + byte * 256) 4

/-- R335, R336: the payload of the next COMMAND row and the block after it. -/
def commandRow (g m width : Nat) (d : Dev) : List Byte × Dev :=
  let x := master d m
  match x.replies with
  | [] => (channelHeader false false true 0 (x.notice.getD 0), modMaster m (fun y => { y with notice := none }) d)
  | r :: _ =>
    let pos := (link d g).cmdSent
    let part := (r.bytes.drop pos).take (rowRoom width - 4)
    let fin := decide (r.bytes.length ≤ pos + part.length)
    let note := pos == 0
    let d1 := modLink g (fun y => { y with cmdSent := if fin then 0 else pos + part.length }) d
    let d2 := modMaster m (fun y => { y with replies := if fin then y.replies.drop 1 else y.replies, notice := if note then none else y.notice }) d1
    (channelHeader note fin note part.length (if note then ibiByte x else 0) ++ part, d2)

/-- R270, R289: the units of the next DATA row and the block after it. -/
def dataRow (g width : Nat) (d : Dev) : List HubUnit × Dev :=
  let (more, d0) := if 16 ≤ g ∧ 4 ≤ (g - 16) % 8 ∧ (link d g).store = [] then egressUnits d g else ([], d)
  let all := ((link d0 g).store ++ more).flatMap (splitUnit (unitMax width))
  let (now, later) := readyUnits d0 g all
  let (t, rest) := takeUnits (rowRoom width) now
  (t, refreshFill g (modLink g (fun x => { x with store := rest ++ later }) d0))

/-- R259: whether a transmitter owes the far end something: a row, or feedback. -/
def owesFeedback (d : Dev) (g : Nat) : Bool :=
  let y := link d (reverseOf g)
  y.nakOwed || y.ackOwed || y.subReq.isSome || (link d g).subAnn.isSome

/-- R259: whether a transmitter has a row to send. -/
def rowOwed (d : Dev) (g : Nat) : Bool :=
  let x := link d g
  x.resend.isSome || commandOwed d g || !(readyUnits d g x.store).1.isEmpty
    || (decide (16 ≤ g) && decide (4 ≤ (g - 16) % 8) && !(egressUnits d g).1.isEmpty)

/-- R260: the L2 entry for which a pair's transmitter sends IDLE 2. -/
def l2Pending (d : Dev) (g : Nat) : Bool := (link d g).l2.isSome && (link d g).replay.isEmpty

/-- R248: the request to put in the next row for the reverse direction: its slot is named as it is first sent, and again once that slot has
passed unannounced; one that has been applied is not sent again. -/
def requestNow (d : Dev) (g : Nat) : Option SubChange :=
  match (link d g).subReq with
  | some r =>
    if r.asked ∧ (r.applied = true ∨ 0 ≤ diff4096 r.slot (rxSlot d g)) then some r
    else some { r with slot := (rxSlot d g + attr d GROUP_SUB_LEAD g) % 4096, asked := true }
  | none => none

/-- The request as a row carries it. -/
def requestSent (d : Dev) (g : Nat) : Option SubChange := (requestNow d g).filter fun r => !(r.applied && 0 < diff4096 (rxSlot d g) r.slot)

/-- R232, R234: the control field of the next row of a group, and the feedback taken as sent. A request for a fault takes the place of an
announced change that the transmitter withdraws for it (R248). -/
def makeControl (g kind rseq idle : Nat) (d : Dev) : Nat × Dev :=
  let v := reverseOf g
  let y := link d v
  let x := link d g
  let rq := requestSent d v
  let fault := match requestNow d v with | some r => r.rank == 1 | none => false
  let c : RowControl := ⟨kind, rseq, true, (y.rxNext + 4095) % 4096, y.nakOwed, mapWidth x.txMap, (rq.map (·.code)).getD 0,
    (rq.map (·.slot)).getD 0, (x.subAnn.map (·.code)).getD 0, (x.subAnn.map (·.slot)).getD 0, idle⟩
  let d1 := modLink v (fun z => { z with nakOwed := false, ackOwed := false, nakAt := if z.nakOwed then d.elapsed + 1 else z.nakAt,
                                         subReq := requestNow d v, rxAnn := if fault then none else z.rxAnn }) d
  (buildControl c, if y.nakOwed then bump GROUP_NAK_SENT v 1 d1 else d1)

/-- A row of a group built and put on its lanes. -/
def sendRow (g kind rseq idle : Nat) (payload : List Byte) (d : Dev) : Dev :=
  let w := mapWidth (link d g).txMap
  let (c, d1) := makeControl g kind rseq idle d
  putRow g (rowLanes w c payload) d1

/-- The flows with a frame part sent, after some more units. -/
def partAfter (l : List Nat) (us : List HubUnit) : List Nat :=
  us.foldl (fun a u => if u.last then a.filter (· != u.flow) else if a.contains u.flow then a else a ++ [u.flow]) l

/-- R234: a new numbered row. -/
def sendNew (g kind : Nat) (payload : List Byte) (units : List HubUnit) (d : Dev) : Dev :=
  let n := (link d g).txSeq
  let d1 := sendRow g kind n 0 payload d
  bump GROUP_ROWS_SENT g 1 (modLink g (fun x => { x with txSeq := (n + 1) % 4096, partSent := partAfter x.partSent units, replay := x.replay ++ [⟨n, kind, payload, units, d.elapsed⟩] }) d1)

/-- R234: a row sent again. -/
def sendAgain (g : Nat) (r : SentRow) (d : Dev) : Dev :=
  let d1 := sendRow g r.kind r.seq 0 r.payload d
  let next := ((link d g).replay.find? fun x => decide (0 < diff4096 x.seq r.seq)).map (·.seq)
  bump GROUP_REPLAY_ROWS g 1 (modLink g (fun x => { x with resend := next, replay := x.replay.map fun y => if y.seq = r.seq then { y with sentAt := d.elapsed } else y }) d1)

/-- LANE.STATE of the data lanes and LS of a group that enters L0s or leaves it (R259). -/
def lanesIdle (g : Nat) (idle : Bool) (d : Dev) : Dev :=
  let m := attr d GROUP_LANE_MAP g
  forAll (List.range 5) (fun k e =>
    if idle then (if laneState e g k = 2 ∨ laneState e g k = 3 then setLaneState g k 4 e else e)
    else if laneState e g k = 4 then setLaneState g k (if (carriedBy m k).isSome then 2 else 3) e else e) d

/-- R259: a group is in L0s. -/
def enterL0s (g : Nat) (d : Dev) : Dev :=
  if attr d GROUP_STATE g = 4 then d else bump GROUP_L0S_ENTRIES g 1 (setAttr GROUP_STATE g 4 (lanesIdle g true d))

/-- R259: a group leaves L0s. -/
def leaveL0s (g : Nat) (d : Dev) : Dev :=
  if attr d GROUP_STATE g = 4 then setAttr GROUP_STATE g (if attr d GROUP_WIDTH g = 3 then 3 else 2) (lanesIdle g false d) else d

/-- R259: the dwell of an armed transmitter, by whether this row slot carried a row. -/
def dwell (g : Nat) (carried : Bool) (d : Dev) : Dev :=
  if carried then disarm tkL0s g d
  else if attr d GROUP_IDLE_MODE g = 1 ∧ armed d tkL0s g = false then arm tkL0s g (attr d GROUP_L0S_DWELL g) d
  else d

/-- R234, R248, R259, R260: an IDLE row. -/
def sendIdle (g : Nat) (d : Dev) : Dev :=
  let x := link d g
  if 0 < x.idleRows then
    let d1 := modLink g (fun y => { y with idleRows := y.idleRows - 1 }) (sendRow g 1 0 x.idleCode [] d)
    if x.idleRows = 1 ∧ x.idleCode = 1 then enterL0s g d1 else d1
  else dwell g false (sendRow g 1 0 (if l2Pending d g then 2 else 0) [] d)

/-- R234: what a transmitter sends in a row slot: IDLE rows announced or owed to an asked map change, then a replay, then nothing new
while 512 rows wait, then a COMMAND row, then a DATA row, then IDLE. -/
def sendNext (g : Nat) (d : Dev) : Dev :=
  let x := link d g
  let w := mapWidth x.txMap
  if 0 < x.idleRows ∨ (x.subAnn.map (·.asked)).getD false then sendIdle g d
  else
    match x.resend.bind fun s => x.replay.find? fun r => decide (0 ≤ diff4096 r.seq s) with
    | some r => dwell g true (sendAgain g r d)
    | none =>
      let d0 := modLink g (fun y => { y with resend := none }) d
      if 512 ≤ x.replay.length then sendIdle g d0
      else if commandOwed d0 g then
        let (p, d1) := commandRow g ((channelOf g).getD 2) w d0
        dwell g true (sendNew g 2 p [] d1)
      else
        match dataRow g w d0 with
        | ([], d1) => sendIdle g d1
        | (us, d1) => dwell g true (sendNew g 0 (us.flatMap fun u => unitHeader u ++ u.data) us d1)

/-! ### What the receiver does (R233 to R236) -/

/-- What a received codeword leaves in a lane's counters (R246, R264). -/
def countCodeword (l : Nat) (r : Option (List Bool × Nat)) (d : Dev) : Dev :=
  let d1 := bump LANE_CW_RECEIVED l 1 d
  match r with
  | some (_, n) => modLane l (fun x => { x with corr := x.corr + n }) (bump LANE_SYMBOLS_CORRECTED l n d1)
  | none => modLane l (fun x => { x with uncorr := x.uncorr + 1, replayUncorr := x.replayUncorr + 1 }) (bump LANE_CW_UNCORRECTABLE l 1 d1)

/-- Bits that are set. -/
def onesOf (bs : List Bool) : Nat := (bs.filter id).length

/-- R255, R256: a codeword of a FRAMED run checked, with descrambled data that must be all 0. -/
def checkFramed (l : Nat) (r : Option (List Bool × Nat)) (plain : List Bool) (d : Dev) : Dev :=
  let e := onesOf plain
  modLane l (fun x => { x with pattern := x.pattern.map fun p =>
    match r with
    | none => { p with bits := p.bits + 1280, uncorrectable := p.uncorrectable + 1 }
    | some (_, n) =>
      { p with bits := p.bits + 1280, bitErrors := p.bitErrors + e, corrected := p.corrected + bitNat (decide (0 < n)), miscorrected := p.miscorrected + bitNat (decide (0 < e)) } }) d

/-- R254, R255: a spare codeword checked. -/
def checkSpare (l : Nat) (r : Option (List Bool × Nat)) (plain : List Bool) (d : Dev) : Dev :=
  match (lane d l).pattern with
  | some _ => checkFramed l r plain d
  | none =>
    if sliceRegion d (0x300 + l) || r.isNone then d else bump LANE_PATTERN_ERRORS l (onesOf plain) d

/-- R250, R397: an uncorrectable codeword on a lane that is on trial ends the trial. -/
def trialError (l : Nat) (d : Dev) : Dev :=
  let n := (lane d l).retrain
  if n = 2 ∨ n = 3 then endAlone l false (n == 3) (disarm tkSpareClean l (disarm tkRepair l d)) else d

/-- One lane of a received row: counters, descrambling, the spare pattern; answers the descrambled data where it decoded. -/
def receiveLane (g k : Nat) (w : List Nat) (d : Dev) : Option (List Bool) × Dev :=
  let l := laneOf g k
  let (key, s') := prbs31 1280 ((link d g).scrRx.getD k 0)
  let d0 := modLink g (fun x => { x with scrRx := x.scrRx.set k s' }) d
  if laneLive d g k then
    let r := laneDecode w
    let plain := match r with | some (b, _) => xorBits b key | none => []
    let d1 := countCodeword l r d0
    let d2 := if (carriedBy (attr d GROUP_LANE_MAP g) k).isNone then checkSpare l r plain d1 else d1
    (r.map fun _ => plain, if r.isNone then trialError l d2 else d2)
  else (none, d0)

/-- Every lane of a received row. -/
def receiveLanes (g : Nat) (words : List (List Nat)) : List Nat → Dev → List (Option (List Bool)) × Dev
  | [], d => ([], d)
  | k :: r, d =>
    let (x, d1) := receiveLane g k (words.getD k []) d
    let (xs, d2) := receiveLanes g words r d1
    (x :: xs, d2)

/-- R233: the logical lanes of a row, where every codeword of it decoded. -/
def logicalLanes (m : Nat) (xs : List (Option (List Bool))) : Option (List (List Bool)) :=
  (mapList m).foldr (fun k acc => match (xs.getD k none), acc with | some b, some l => some (b :: l) | _, _ => none) (some [])

/-- R236: the lane of a group with strictly the most uncorrectable codewords since the replay of a row began. -/
def worstLane (d : Dev) (g : Nat) : Option Nat :=
  let n := fun k => (lane d (laneOf g k)).replayUncorr
  (List.range 5).find? fun k => decide (0 < n k) && (List.range 5).all fun i => i == k || decide (n i < n k)

/-- The counters of R236 start again. -/
def clearReplayCount (g : Nat) (d : Dev) : Dev :=
  forAll (List.range 5) (fun k => modLane (laneOf g k) fun x => { x with replayUncorr := 0 }) (modLink g (fun x => { x with rxTries := 0 }) d)

/-- R236: the receiving end's action when a row has been replayed REPLAY_LIMIT times in vain. -/
def replayLimit (g : Nat) (d : Dev) : Dev :=
  let d1 := clearReplayCount g d
  match worstLane d g with
  | some k => laneFault g k 1 d1
  | none =>
    let pair := pairOf g
    if pairTraining d pair then d1
    else arm tkQuickRetrain pair nsPerMs (startTraining pair .replayLimit true [0, 1, 2, 3, 4] (dropTraining pair d1))

/-- R234 step 1, R236: a row was rejected or is not the one expected. -/
def wantReplay (g : Nat) (d : Dev) : Dev :=
  let x := link d g
  if x.nakOwed ∨ (x.nakAt ≠ 0 ∧ d.elapsed + 1 < x.nakAt + attr d GROUP_REPLAY_TIMER g) then d
  else if attr d GROUP_REPLAY_LIMIT g < x.rxTries + 1 then replayLimit g d
  else modLink g (fun y => { y with nakOwed := true, rxTries := y.rxTries + 1 }) d

/-- R234: feedback received for a transmitter: acknowledged rows leave the replay buffer, a NAK starts a replay. -/
def takeRowFeedback (g : Nat) (c : RowControl) (d : Dev) : Dev :=
  if c.ackValid = false ∨ groupSends g = false then d
  else
    let x := link d g
    let got := x.replay.filter fun r => decide (0 ≤ diff4096 c.ack r.seq)
    let rest := x.replay.filter fun r => decide (diff4096 c.ack r.seq < 0)
    let d1 := deliverRows g got (modLink g (fun y => { y with replay := rest }) d)
    if c.nak ∧ rest ≠ [] then bump GROUP_REPLAYS g 1 (modLink g (fun y => { y with resend := (rest.head?).map (·.seq) }) d1) else d1

/-- R248: whether a transmitter follows a request, or has already done so: the announced change, or the map as it stands. -/
def requestKnown (x : Link) (code slot : Nat) : Bool :=
  (match x.subAnn with | some a => a.asked && a.code == code && a.slot == slot | none => false)
    || (decide (5 ≤ code) && mapWidth x.txMap == 3) || (decide (code ≤ 4) && x.cover == some (1, code - 1))

/-- R246, R248, R251: a change of a host TX group asked for by the far receiver: its physical lane is faulted (cause 3), and at width 3
capacity is lost. -/
def farFault (g code : Nat) (d : Dev) : Dev :=
  let x := link d g
  let k := mapPhys x.txMap (if code ≤ 4 then code - 1 else code - 5)
  if 8 ≤ g ∨ 5 ≤ k ∨ laneBad d g k = true then d
  else
    let l := laneOf g k
    let d1 := setAttr LANE_STATE l 5 (if code ≤ 4 then endPattern (laneOf g (spareTarget d g x.txMap)) stAborted 3 d else unmasked clsLane l k 3 unmGroupWidth d)
    wantBackground l (raise clsLane l evLaneFault 3 d1)

/-- R248: a request received for a transmitter's direction, at least four slots ahead: announced and applied, ahead of any planned
announcement. -/
def takeRequest (g : Nat) (c : RowControl) (d : Dev) : Dev :=
  let x := link d g
  if c.subReq = 0 ∨ 8 < c.subReq ∨ groupSends g = false ∨ requestKnown x c.subReq c.subSlot = true ∨ diff4096 c.subSlot (txSlot d g) < 4 then d
  else
    let rank := match x.subReq with | some r => r.rank | none => 1
    farFault g c.subReq (modLink g (fun y => { y with subAnn := some ⟨c.subReq, c.subSlot, rank, true, false⟩ }) d)

/-- R248: an announcement received for a receiver's direction, at least four slots ahead; code 0 withdraws one. One that confirms a request
already applied needs nothing more. -/
def takeAnnouncement (g : Nat) (c : RowControl) (d : Dev) : Dev :=
  let x := link d g
  if c.ann = 0 then modLink g (fun y => { y with rxAnn := none }) d
  else if 8 < c.ann ∨ diff4096 c.annSlot (rxSlot d g) < 4 then d
  else
    let mine := match x.subReq with | some r => r.code == c.ann | none => false
    let done := match x.subReq with | some r => r.code == c.ann && r.applied | none => false
    let planned := match x.subAnn with | some a => if a.code == c.ann then a.rank else 1 | none => 1
    let rank := if mine then (x.subReq.map (·.rank)).getD 1 else planned
    if done then d
    else modLink g (fun y => { y with rxAnn := some ⟨c.ann, c.annSlot, rank, mine, false⟩, subReq := if mine then none else y.subReq }) d

/-- R260: both ends of a pair stop every lane: L2. -/
def enterL2 (pair : Nat) (d : Dev) : Dev :=
  forAll [pairTx pair, pairRx pair] (fun g e =>
    let e1 := modLink g (fun x => { x with loop := 0, idleRows := 0, idleCode := 0, tangent := false, sent := [], l2 := none, subReq := none, subAnn := none, rxAnn := none }) (disarm tkL0s g e)
    setLaneState g 5 4 (forAll (List.range 5) (fun k x => if laneState x g k = 6 then x else setLaneState g k 4 x) (setAttr GROUP_STATE g 5 e1))) d

/-- R260: GROUP_IDLE for the entry to L2. -/
def endL2Entry (pair status : Nat) (d : Dev) : Dev :=
  let tx := pairTx pair
  match (link d tx).l2 with
  | none => d
  | some j =>
    let d1 := disarm tkL2 pair (modLink tx (fun x => { x with l2 := none }) d)
    let d2 := if status = stOk then enterL2 pair d1 else d1
    complete j clsGroup tx evGroupIdle status [byteOf pair, 2#8, byteOf (attr d2 GROUP_STATE tx), 0#8] d2

/-- R259, R260: the IDLE field of an accepted row: the far end enters L0s after four such rows, asks for L2 or agrees to it. -/
def takeIdle (g : Nat) (c : RowControl) (d : Dev) : Dev :=
  let pair := pairOf g
  if c.idle = 1 then (if (link d g).l0sLeft = 0 then modLink g (fun x => { x with l0sLeft := 4 }) d else d)
  else if c.idle = 2 ∧ (link d (pairTx pair)).l2.isSome then modLink (reverseOf g) (fun x => { x with idleRows := 1, idleCode := 3 }) d
  else if c.idle = 3 then endL2Entry pair stOk d
  else d

/-- R229: one row slot further at the receiver. -/
def nextRxSlot (g : Nat) (d : Dev) : Dev := modLink g (fun x => { x with rxSlot := x.rxSlot + 1 }) d

/-- R259: one row slot less before the far end is in L0s; at the last, or once the lanes are silent, L0s is entered. -/
def countL0s (g : Nat) (silent : Bool) (d : Dev) : Dev :=
  let n := (link d g).l0sLeft
  if n = 0 then d
  else
    let d1 := modLink g (fun x => { x with l0sLeft := if silent then 0 else n - 1 }) d
    if n = 1 ∨ silent = true then enterL0s g d1 else d1

/-- R234: a numbered row that was accepted in its turn. -/
def acceptRow (g : Nat) (d : Dev) : Dev :=
  bump GROUP_ROWS_ACCEPTED g 1 (clearReplayCount g (modLink g (fun x => { x with rxNext := (x.rxNext + 1) % 4096, nakOwed := false, nakAt := 0, ackOwed := true }) d))

/-- R233 to R236, R248, R259, R260, R282: what a receiver does with a row that meets R233; answers the payload of a COMMAND row accepted in
its turn on a command channel. -/
def takeRow (g : Nat) (c : RowControl) (payload : List Byte) (d : Dev) : Option (List Byte) × Dev :=
  let turn := c.rseq == (link d g).rxNext
  if c.kind = 0 && turn && decide (g < 16) && rowDeferred d g payload then (none, wantReplay g (bump GROUP_ROWS_DEFERRED g 1 d))
  else
    let d1 := takeIdle g c (takeAnnouncement g c (takeRequest (reverseOf g) c (takeRowFeedback (reverseOf g) c d)))
    if c.kind = 1 then (none, d1)
    else if turn then
      let d2 := acceptRow g d1
      if c.kind = 0 then (none, receivePayload g payload d2)
      else if g = 8 ∨ g = 12 then (some payload, d2) else (none, d2)
    else (none, wantReplay g d1)

/-- R233: a received row read: its lanes counted and descrambled, and its control field and payload where it meets R233. -/
def readRow (g : Nat) (words : List (List Nat)) (d : Dev) : Option (RowControl × List Byte) × Dev :=
  let m := attr d GROUP_LANE_MAP g
  let w := mapWidth m
  let (xs, d1) := receiveLanes g words (List.range 5) d
  ((logicalLanes m xs).bind fun ls => let x := rowSplit w ls; (readControl x.1 w).map fun c => (c, x.2), d1)

/-- R242: a row in LINK_INIT: IDLE rows are counted. -/
def initRow (g : Nat) (words : List (List Nat)) (d : Dev) : Dev :=
  match readRow g words d with
  | (some (c, _), d1) => nextRxSlot g (if c.kind = 1 then modLink g (fun x => { x with idleSeen := x.idleSeen + 1 }) d1 else d1)
  | (none, d1) => nextRxSlot g (bump GROUP_ROWS_REJECTED g 1 d1)

/-- R255: the codewords of FRAMED runs on the lanes of a group that is DOWN or looped. -/
def patternRow (g : Nat) (words : List (List Nat)) (d : Dev) : Dev :=
  nextRxSlot g (forAll ((List.range 5).filter fun k => (lane d (laneOf g k)).pattern.any fun r => r.pattern == 0) (fun k e => (receiveLane g k (words.getD k []) e).2) d)

/-- R257: in the far loop every received lane goes out again on the same lane of the other group. -/
def farLoop (g : Nat) (words : List (List Nat)) (d : Dev) : Dev :=
  if (link d g).loop = 3 then
    modLink (reverseOf g) (fun x => { x with sent := ((List.range 5).filter fun k => (words.getD k []) != []).map fun k => (k, wordLevels (words.getD k [])) }) d
  else d

/-- R255: whether a lane of a group runs a pattern. -/
def hasPattern (d : Dev) (g : Nat) : Bool := (List.range 5).any fun k => (lane d (laneOf g k)).pattern.isSome

/-- R233: a row received by a group that carries rows. -/
def rowTaken (g : Nat) (words : List (List Nat)) (d : Dev) : Option (List Byte) × Dev :=
  match readRow g words (rxChangeDue g d) with
  | (none, d1) => (none, countL0s g false (nextRxSlot g (wantReplay g (bump GROUP_ROWS_REJECTED g 1 (requestAgain g d1)))))
  | (some (c, p), d1) =>
    let (out, d2) := takeRow g c p (requestMet g d1)
    (out, countL0s g false (nextRxSlot g d2))

/-- R233: a row slot at a receiver: one codeword for each physical lane. -/
def rowReceived (g : Nat) (words : List (List Nat)) (d : Dev) : Option (List Byte) × Dev :=
  if groupReceives g = false ∨ 1024 ≤ (link d g).rxSlot then (none, d)
  else if groupRuns d g then
    if (attr d GROUP_STATE g = 4 ∨ (link d g).l0sLeft ≠ 0) ∧ words.all (· == []) then (none, nextRxSlot g (countL0s g true (rxChangeDue g d)))
    else rowTaken g words d
  else if inLinkInit d g then (none, initRow g words d)
  else if hasPattern d g then (none, farLoop g words (patternRow g words d))
  else (none, farLoop g words d)

/-! ### Pattern slots and row slots of a transmitter (R234, R255, R257) -/

/-- R255, R257: what a near loop returns of a pattern slot is checked where it arrives: `l` is the run, `k` the lane of the receiving
group, `bits` what was meant and `out` what was sent. -/
def checkLooped (l g k : Nat) (bits out : List Bool) (d : Dev) : Dev :=
  if (lane d l).pattern.any fun r => r.pattern == 0 then
    let r := laneDecode (bitsToSymbols 132 out)
    checkFramed l r (match r with | some (b, _) => xorBits b bits | none => []) (countCodeword (laneOf g k) r d)
  else
    modLane l (fun x => { x with pattern := x.pattern.map fun p => { p with bits := p.bits + 1320, bitErrors := p.bitErrors + onesOf (xorBits out bits) } }) d

/-- R255: one slot of the pattern on lane `k` of a transmitter that carries no rows: on the pins, or through a near loop. -/
def patternLane (g k : Nat) (d : Dev) : Dev :=
  match runOn d g k with
  | none => d
  | some l =>
    match (lane d l).pattern with
    | none => d
    | some r =>
      let framed := r.pattern == 0
      let (bits, s) := patternBits r.pattern (if framed then (link d g).scrTx.getD k 0 else (lane d (laneOf g k)).prbs) (freeVal d)
      let hit := injectNow r false
      let out := if hit then symbolsToBits (injectWord r (freeVal d) (bitsToSymbols 132 bits)) else bits
      let d1 := if framed then modLink g (fun x => { x with scrTx := x.scrTx.set k s }) d else modLane (laneOf g k) (fun x => { x with prbs := s }) d
      let d2 := countInjection l false (usedFree d1)
      if nearLoop d g then checkLooped l (reverseOf g) k bits out d2 else putLevels g k (levelsOf out) d2

/-- R229: one row slot further at the transmitter. -/
def nextTxSlot (g : Nat) (d : Dev) : Dev := modLink g (fun x => { x with slot := x.slot + 1 }) d

/-- R255: whether a transmitter that carries no rows sends patterns. -/
def patternsOut (d : Dev) (g : Nat) : Bool := (link d g).loop != 3 && (List.range 5).any fun k => (runOn d g k).isSome

/-- R234, R242, R255: a row slot of a transmitter. -/
def rowSlot (g : Nat) (d : Dev) : Dev :=
  if groupSends g = false ∨ 1024 ≤ (link d g).slot then d
  else if groupRuns d g then
    let d0 := modLink g (fun x => { x with sent := [] }) (txChangeDue g d)
    if (link d0 g).tangent then nextTxSlot g (sendTangent g d0)
    else if attr d0 GROUP_STATE g = 4 ∧ (link d0 g).idleRows = 0 then nextTxSlot g d0
    else nextTxSlot g (sendNext g d0)
  else if inLinkInit d g then nextTxSlot g (sendRow g 1 0 0 [] d)
  else if patternsOut d g then nextTxSlot g (forAll (List.range 5) (patternLane g) (modLink g (fun x => { x with sent := [] }) d))
  else d

/-! ### Alignment slots (R229, R230) -/

/-- R230: an alignment codeword with a count put on lane `k`. -/
def putAlignment (g k ab : Nat) (d : Dev) : Dev :=
  let x := link d g
  let l := (runOn d g k).getD (laneOf g k)
  let bits := alignmentBits ab k (pairOf g) ((carriedBy x.txMap k).getD 15) (mapWidth x.txMap)
  let hit := match (lane d l).pattern with | some r => injectNow r true | none => false
  let out := if hit then (match bits with | b :: r => (!b) :: r | [] => []) else bits
  let d1 := countInjection l true d
  if nearLoop d g then d1 else putLevels g k (wordLevels (laneCodeword out)) d1

/-- R229, R255: the lanes of a group that send an alignment codeword in an alignment slot. -/
def alignedLanes (d : Dev) (g : Nat) : List Nat :=
  (List.range 5).filter fun k => if groupRuns d g || inLinkInit d g then laneLive d g k else (runOn d g k).isSome

/-- R229: the transmitter's alignment slot: after 1,024 row slots. A tangent burst takes its place (R259). -/
def alignTx (g : Nat) (d : Dev) : Dev :=
  if groupSends g = false ∨ (groupRuns d g || inLinkInit d g || patternsOut d g) = false ∨ (link d g).slot ≠ 1024 then d
  else
    let d1 := modLink g (fun x => { x with ab := (x.ab + 1) % 65536, slot := 0, scrTx := laneSeeds (pairOf g), sent := [] }) d
    if (link d g).tangent then sendTangent g d1
    else if attr d GROUP_STATE g = 4 then d1
    else forAll (alignedLanes d g) (fun k e => putAlignment g k (link e g).ab e) d1

/-- AB_COUNT from the first lane whose alignment codeword is read. -/
def firstCount (d : Dev) (g : Nat) (words : List (List Nat)) : Option Nat :=
  ((List.range 5).filterMap fun k => if laneLive d g k then (laneDecode (words.getD k [])).bind fun x => alignmentCount x.1 else none).head?

/-- R229: the receiver's alignment slot. -/
def alignRx (g : Nat) (words : List (List Nat)) (d : Dev) : Dev :=
  if groupReceives g = false ∨ (groupRuns d g || inLinkInit d g || hasPattern d g) = false ∨ (link d g).rxSlot ≠ 1024 then d
  else
    let ab := (firstCount d g words).getD (((link d g).rxAb + 1) % 65536)
    let d1 := modLink g (fun x => { x with rxAb := ab, rxSlot := 0, scrRx := laneSeeds (pairOf g) }) d
    if attr d GROUP_STATE g = 4 then d1
    else forAll ((List.range 5).filter (laneLive d g)) (fun k => countCodeword (laneOf g k) (laneDecode (words.getD k []))) d1

/-- R242: the lanes of a group that are in ALIGN, in which every slot is an alignment slot. -/
def aligning (d : Dev) (g : Nat) : List Nat :=
  match training d (pairOf g) with
  | some t => if t.phase = 3 ∧ (trainGroups (pairOf g) t.why).contains g then t.lanes.filter fun k => laneState d g k == 1 && !(failedIn g t).contains k else []
  | none => []

/-- R242: a slot of ALIGN: an alignment codeword on every lane in training, AB_COUNT rising, and those received counted in a row. -/
def alignStep (g : Nat) (words : List (List Nat)) (d : Dev) : Dev :=
  let ks := aligning d g
  if ks.isEmpty then d
  else
    let alone := groupRuns d g
    let d1 := if groupSends g then
        forAll ks (fun k e => putAlignment g k (if alone then (link e g).ab else (link d g).ab + 1) e)
          (modLink g (fun x => { x with ab := if alone then x.ab else (x.ab + 1) % 65536, sent := x.sent.filter fun y => !ks.contains y.1 }) d)
      else d
    if groupReceives g then
      forAll ks (fun k => modLane (laneOf g k) fun x =>
        { x with alignRun := if ((laneDecode (words.getD k [])).bind fun y => alignmentCount y.1).isSome then x.alignRun + 1 else 0 }) d1
    else d1

/-- R239: a setting moves toward its wanted value by at most one step. -/
def oneStep (now wanted : Int) : Int := now + clampInt (wanted - now) (-1) 1

/-- R239: tap `i` of a DFE within its range. -/
def tapIn (i : Nat) (v : Int) : Int := if i = 0 then clampInt v 0 64 else clampInt v (-64) 64

/-- R239: the receiver settings of a measurement, in their ranges. -/
def wantedTaps (m : LaneMeasure) : List Int := (List.range 8).map fun i => tapIn i (signedOf 8 (byteAt m.dfe i))

/-- R239: the settings of a lane's receiver written. -/
def setReceiver (l ctle : Nat) (gain : Int) (taps : List Int) (d : Dev) : Dev :=
  setBlock LANE_RX_DFE l (taps.map fun v => byteOf (unsignedOf 8 v)) (setAttr LANE_RX_CTLE l ctle (modLane l (fun x => { x with gain := gain }) d))

/-- R239: in service the settings follow by at most one step in 4,096 row slots. -/
def trackReceiver (m : LaneMeasure) (d : Dev) : Dev :=
  let l := m.lane.val
  let now := (List.range 8).map fun i => signedOf 8 (byteAt (block d LANE_RX_DFE l) i)
  if groupRuns d (l / 8) && groupReceives (l / 8) && (laneState d (l / 8) (l % 8) == 2 || laneState d (l / 8) (l % 8) == 3) then
    setReceiver l (oneStep (attr d LANE_RX_CTLE l) (min 40 m.ctle)).toNat (oneStep (lane d l).gain (clampInt m.gain (-6) 12))
      (List.zipWith oneStep now (wantedTaps m)) d
  else d

/-- R229, R239, R242: an alignment slot of a group; at every fourth the receivers follow what they measure. -/
def alignSlot (g : Nat) (words : List (List Nat)) (ms : List LaneMeasure) (d : Dev) : Dev :=
  let d1 := alignRx g words (alignTx g (alignStep g words d))
  if (link d g).rxSlot = 1024 ∧ (link d1 g).rxSlot = 0 ∧ (link d1 g).rxAb % 4 = 0 then
    (ms.filter fun m => m.lane.val / 8 == g).foldl (fun e m => trackReceiver m e) d1
  else d1

end Sys2Proof.Machine
end

