-- ==== Sys2Proof/Machine/Drigal.lean ====
section
/-! DEFINITION. Machine/Drigal.lean: the commands on Drigal pairs (R241, R255, R257, R258, R260), the lane events (R242 to R260) and the
hub's rounds and windows (R278 to R281, R376). -/

namespace Sys2Proof.Machine

/-! ### Commands -/

/-- R503: MANUFACTURE or RETURN, in which inner pairs may be commanded. -/
def lcOpen (d : Dev) : Bool := let s := attr d DEVICE_LC_STATE 0; s == 0 || s == 2

/-- R241: the lanes named by a LANES byte. -/
def namedLanes (b : Nat) : List Nat := if b = 0 then [0, 1, 2, 3, 4] else (List.range 5).filter fun k => bitOf b k

/-- R474: a named lane of a pair whose framing logic is under a slice. -/
def laneSliced (d : Dev) (pair : Nat) (lanes : List Nat) : Bool :=
  lanes.any fun k => sliceRegion d (0x300 + laneOf (pairTx pair) k) || sliceRegion d (0x300 + laneOf (pairRx pair) k)

/-- R241: whether a named lane of either direction carries a logical lane. -/
def namesCarrying (d : Dev) (pair : Nat) (lanes : List Nat) : Bool :=
  [pairTx pair, pairRx pair].any fun g => groupRuns d g && lanes.any fun k => (carriedBy (attr d GROUP_LANE_MAP g) k).isSome

/-- Whether a state of GROUP.STATE holds of either group of a pair. -/
def pairIn (d : Dev) (pair st : Nat) : Bool := attr d GROUP_STATE (pairTx pair) == st || attr d GROUP_STATE (pairRx pair) == st

/-- R241: LANE_TRAIN. -/
def bodyLaneTrain : Body := fun _ c d =>
  let pair := byteAt c.params 0
  let lanes := namedLanes (byteAt c.params 2)
  need (decide (pair ≤ 15) && decide (byteAt c.params 1 ≤ 1) && decide (byteAt c.params 2 < 32) && reservedZero c.params 3 1) stOutOfRange <|
  need (decide (pair < 8) || lcOpen d || lanes == [4]) stLifecycle <|
  need (!(namesCarrying d pair lanes && pairMapped d pair) && !pairIn d pair 6 && !pairIn d pair 5 && pairOn d pair
      && !d.startOwed) stPrecondition <|
  need (!pairTraining d pair) stBusy <|
    if laneSliced d pair lanes then .defer
    else .accept [] (startTraining pair (.command (callRef c)) (byteAt c.params 1 == 1) lanes (dropTraining pair (addJob c d)))

/-- R257: a pair looped, or left DOWN by OFF; a training of it ends there. LC runs but in the far loop, where it follows the received one
(R226). -/
def setLoop (pair mode : Nat) (d : Dev) : Dev :=
  let d0 := match training d pair with
    | some t => (match t.why with
      | .command j => complete j clsGroup (pairTx pair) evGroupTrained stTimeout [byteOf pair, 0#8, 0#8, 0#8] (dropTraining pair d)
      | .idleExit j => complete j clsGroup (pairTx pair) evGroupIdle stTimeout [byteOf pair, 0#8, 0#8, 0#8] (dropTraining pair d)
      | .repair _ l => (match repairOn d clsGroup (l / 8) with | some r => endRepair r stAborted (dropTraining pair d) | none => dropTraining pair d)
      | _ => dropTraining pair d)
    | none => d
  let d1 := disarm tkQuickRetrain pair (disarm tkStartPair pair d0)
  let d2 := forAll [pairTx pair, pairRx pair] (fun g e =>
      let e1 := quietGroup g (if groupSends g then dropReplay g e else e)
      let e2 := setAttr GROUP_LANE_MAP g 0x3210 (setAttr GROUP_SPARE_STATE g 0 (setWidth g 0 e1))
      let e3 := modLink g (fun x => { x with loop := mode }) e2
      let e4 := if laneState e3 g 5 = 5 then e3 else setLaneState g 5 (if mode = 3 then 7 else 2) e3
      if mode = 0 then e4
      else forAll (List.range 5) (fun k y => if laneState y g k = 6 then y else setLaneState g k 7 y) (setAttr GROUP_STATE g 6 e4)) d1
  channelDown pair (refreshCharges [] d2)

/-- R257: LANE_LOOP. -/
def bodyLaneLoop : Body := fun _ c d =>
  let pair := byteAt c.params 0
  need (decide (pair ≤ 15) && decide (byteAt c.params 1 ≤ 3) && reservedZero c.params 2 2) stOutOfRange <|
  need (!pairMapped d pair && !pairIn d pair 5 && !ownChannel c.master pair) stPrecondition <|
  need (decide (pair < 8) || lcOpen d) stLifecycle <|
    okDev (setLoop pair (byteAt c.params 1) d)

/-- R255: the fields of PATTERN_RUN in range. -/
def patternFieldsOk (ps : List Byte) : Bool :=
  let inj := byteAt ps 3
  let n := byteAt ps 4
  decide (leAt ps 0 2 < 256) && decide (leAt ps 0 2 % 8 < 6) && decide (byteAt ps 2 ≤ 4) && decide (inj ≤ 3)
    && (if inj = 1 then decide (1 ≤ n) && decide (n ≤ 8) else if inj = 2 then decide (1 ≤ n) && decide (n ≤ 64) else n == 0)
    && reservedZero ps 5 1 && (if inj = 0 then leAt ps 6 2 == 0 else leAt ps 6 2 != 0)
    && decide (1 ≤ leAt ps 8 4) && decide (leAt ps 8 4 ≤ 3600000)

/-- R255: whether a pattern may run on a lane as it stands. -/
def patternPlace (d : Dev) (l pattern : Nat) : Bool :=
  let g := l / 8
  let st := attr d GROUP_STATE g
  decide (l % 8 < 5) && (lane d l).pattern.isNone
    && ((l % 8 == 4 && st == 2 && pattern == 0 && attr d LANE_STATE l == 3)
      || st == 6 || (st == 0 && !pairTraining d (pairOf g)))

/-- R255: PATTERN_RUN; the first state of a PRBS is not given (a free value). -/
def bodyPatternRun : Body := fun _ c d =>
  let ps := c.params
  let l := leAt ps 0 2
  need (patternFieldsOk ps) stOutOfRange <|
  need (decide (l < 128) || lcOpen d || l % 8 == 4) stLifecycle <|
  need (patternPlace d l (byteAt ps 2)) stPrecondition <|
    if sliceRegion d (0x300 + l) then .defer
    else
      let r : PatternRun := ⟨callRef c, byteAt ps 2, byteAt ps 3, byteAt ps 4, leAt ps 6 2, 0, 0, 0, 0, 0, 0, 0⟩
      let seed := 1 + freeVal d % 8191
      let d1 := modLane (laneOf (reverseOf (l / 8)) (l % 8)) (fun x => { x with prbs := seed }) (usedFree (addJob c d))
      .accept [] (arm tkPattern l (leAt ps 8 4 * nsPerMs) (setAttr LANE_STATE l 3 (modLane l (fun x => { x with pattern := some r, prbs := seed }) d1)))

/-- R258: the transmitters of a pair that are Izrath's. -/
def pairSenders (pair : Nat) : List Nat := [pairTx pair, pairRx pair].filter groupSends

/-- R259: L0s left at once: a tangent burst in the next slot. -/
def exitL0s (g : Nat) (d : Dev) : Dev :=
  if groupSends g ∧ attr d GROUP_STATE g = 4 then leaveL0s g (modLink g (fun x => { x with tangent := true, rxTangent := groupReceives g, idleRows := 0 }) d) else d

/-- R258: the mode of the last LANE_IDLE on a pair. -/
def setIdleMode (pair mode : Nat) (d : Dev) : Dev := forAll [pairTx pair, pairRx pair] (fun g => setAttr GROUP_IDLE_MODE g mode) d

/-- R258: LANE_IDLE ON. -/
def idleOn (pair : Nat) (c : Call) (d : Dev) : Verdict :=
  let d1 := setIdleMode pair 0 (disarm tkStartPair pair d)
  let d2 := forAll (pairSenders pair) (fun g e => exitL0s g (disarm tkL0s g e)) d1
  if pairIn d pair 5 then .accept [] (startTraining pair (.idleExit (callRef c)) true [0, 1, 2, 3, 4] (addJob c d2)) else okDev d2

/-- R260: LANE_IDLE L2: at once on a pair that is DOWN, or already in L2, by agreement otherwise. -/
def idleL2 (pair : Nat) (c : Call) (d : Dev) : Verdict :=
  let tx := pairTx pair
  let d1 := setIdleMode pair 2 (disarm tkStartPair pair (addJob c d))
  let d2 := modLink tx (fun x => { x with l2 := some (callRef c) }) d1
  if groupRuns d tx then
    .accept [] (arm tkL2 pair 10000 (forAll (pairSenders pair) (fun g e => exitL0s g (disarm tkL0s g e)) (dropTraining pair d2)))
  else
    let d3 := if pairIn d pair 5 then d2 else modLink tx (fun x => { x with fromDown := true }) d2
    .accept [] (endL2Entry pair stOk (dropTraining pair d3))

/-- R258, R260: LANE_IDLE. -/
def bodyLaneIdle : Body := fun _ c d =>
  let pair := byteAt c.params 0
  let mode := byteAt c.params 1
  need (decide (pair ≤ 15) && decide (mode ≤ 2) && reservedZero c.params 2 2) stOutOfRange <|
  need (pairOn d pair && (mode != 2 || (!pairMapped d pair && !pairIn d pair 6))) stPrecondition <|
  need (mode != 2 || (!pairTraining d pair && (link d (pairTx pair)).l2.isNone)) stBusy <|
  need (mode != 2 || !ownChannel c.master pair) stRefused <|
    if mode = 0 then idleOn pair c d
    else if mode = 1 then okDev (setIdleMode pair 1 (disarm tkStartPair pair d))
    else idleL2 pair c d

/-! ### Training (R242 to R245) -/

/-- What the receivers measure (R239, R240, R264). -/
def recordMeasure (phase : Nat) (m : LaneMeasure) (d : Dev) : Dev :=
  if phase = 2 then setAttr LANE_EYE_HEIGHT m.lane m.eye (setReceiver m.lane (min 40 m.ctle) (clampInt m.gain (-6) 12) (wantedTaps m) d)
  else if phase = 3 then setAttr LANE_SKEW m.lane m.skew d
  else d

/-- Whether a measurement is of a lane that a training concerns and that Izrath receives. -/
def measures (pair : Nat) (t : LaneTraining) (m : LaneMeasure) : Bool :=
  groupReceives (m.lane.val / 8) && (trainGroups pair t.why).contains (m.lane.val / 8) && t.lanes.contains (m.lane.val % 8)

/-- R242: a training goes on to its next phase, or ends. -/
def nextPhase (pair : Nat) (t : LaneTraining) (d : Dev) : Dev :=
  if t.phase = 4 then finishTraining pair t d else beginLanePhase pair { t with phase := t.phase + 1, repeated := false } d

/-- R260: a pair that entered L2 from DOWN holds no coefficients, so QUICK fails in EQUALISE. -/
def noCoefficients (d : Dev) (pair : Nat) (t : LaneTraining) : Bool := (link d (pairTx pair)).fromDown && t.quick && !t.repeated && t.phase == 2

/-- R242: a QUICK phase that fails is repeated once as FULL. -/
def repeatPhase (pair : Nat) (t : LaneTraining) (d : Dev) : Dev := beginLanePhase pair { t with repeated := true } d

/-- R242: whether the lanes of a group still in training meet the end of a phase: RX_READY, three alignment codewords in a row within the
skew of R240, or eight IDLE rows; what a far receiver meets beyond RX_READY is its own. -/
def groupMet (d : Dev) (t : LaneTraining) (ms : List LaneMeasure) (g : Nat) : Bool :=
  let ks := t.lanes.filter fun k => laneState d g k == 1 && !(failedIn g t).contains k
  match t.phase with
  | 2 => ks.all fun k => (lane d (laneOf g k)).ready
  | 3 => !groupReceives g || (ks.all fun k => decide (3 ≤ (lane d (laneOf g k)).alignRun) && ms.all fun m => m.lane.val != laneOf g k || decide (m.skew ≤ 256))
  | 4 => !groupReceives g || attr d GROUP_STATE g != 1 || decide (8 ≤ (link d g).idleSeen)
  | _ => true

/-- R242: a phase is over for every lane still in training. -/
def trainPhaseEnd (pair : Nat) (ms : List LaneMeasure) (d : Dev) : Dev :=
  match training d pair with
  | none => d
  | some t =>
    if noCoefficients d pair t then repeatPhase pair t d
    else if (trainGroups pair t.why).any fun g => !groupMet d t ms g then d
    else nextPhase pair t ((ms.filter (measures pair t)).foldl (fun e m => recordMeasure t.phase m e) d)

/-- Lanes newly failed in a phase. -/
def newlyFailed (t : LaneTraining) (old now : List Nat) : List Nat := (now.filter fun k => t.lanes.contains k && !old.contains k).eraseDups

/-- R242, R245: a phase's time limit: a QUICK phase is repeated as FULL, and otherwise the lanes that missed it have failed. -/
def trainPhaseTimeout (pair : Nat) (failTx failRx : List Nat) (d : Dev) : Dev :=
  match training d pair with
  | none => d
  | some t =>
    if t.quick && !t.repeated then repeatPhase pair t d
    else
      let nt := newlyFailed t t.failTx failTx
      let nr := newlyFailed t t.failRx failRx
      nextPhase pair { t with failTx := t.failTx ++ nt, failRx := t.failRx ++ nr, phaseTx := if t.phaseTx = 0 ∧ nt ≠ [] then t.phase else t.phaseTx,
                              phaseRx := if t.phaseRx = 0 ∧ nr ≠ [] then t.phase else t.phaseRx } d

/-- R238, R244: one step of one tap: its new value and the result, 1 updated or 2 at limit. -/
def stepTap (v request top other : Nat) : Nat × Nat :=
  if request = 1 then (if v + 1 ≤ top ∧ v + 1 + other ≤ 32 then (v + 1, 1) else (v, 2))
  else if request = 2 then (if 1 ≤ v then (v - 1, 1) else (v, 2))
  else (v, 0)

/-- R244: a field of a control word as a new request: one that the last word already held has been applied. -/
def freshField (control last hi lo : Nat) : Nat := if fieldOf last hi lo = 0 then fieldOf control hi lo else 0

/-- R244: a field of the status word: the result of a new request, the last result while the request is held, and 0 at hold. -/
def resultField (control last status result hi lo : Nat) : Nat :=
  if fieldOf control hi lo = 0 then 0 else if fieldOf last hi lo = 0 then result else fieldOf status hi lo

/-- R244: the requests of a control word applied once to a lane's transmitter: its taps and the status word, from the control word received
before it and the status that stands. -/
def applyRequest (pre post control last status : Nat) : (Nat × Nat) × Nat :=
  let preset := freshField control last 11 10
  let (pre0, post0) := if preset = 0 then (pre, post) else presetTaps preset
  let (pre1, a) := stepTap pre0 (freshField control last 15 14) 16 post0
  let (post1, b) := stepTap post0 (freshField control last 13 12) 24 pre1
  ((pre1, post1), resultField control last status a 15 14 * 2 ^ 14 + resultField control last status b 13 12 * 2 ^ 12
    + resultField control last status 1 11 10 * 2 ^ 10)

/-- Whether a lane is in EQUALISE. -/
def inEqualise (d : Dev) (g k : Nat) : Bool :=
  match training d (pairOf g) with
  | some t => t.phase == 2 && (trainGroups (pairOf g) t.why).contains g && t.lanes.contains k
  | none => false

/-- R244: whether a status word answers a request that is held. -/
def answered (request status : Nat) : Bool :=
  request != 0 && (fieldOf status 15 14 != 0 || fieldOf status 13 12 != 0 || fieldOf status 11 10 != 0)

/-- R244: a training frame received on lane `k` of a group: its requests go to the same lane of the reverse direction, its status answers
this lane's request, and the transmitter's own frame goes out (R243). -/
def trainingFrame (g k control status next : Nat) (d : Dev) : Dev :=
  if groupReceives g && inEqualise d g k then
    let l := laneOf g k
    let v := laneOf (reverseOf g) k
    let d1 :=
      if groupSends (reverseOf g) then
        let (taps, st) := applyRequest (attr d LANE_TX_PRE v) (attr d LANE_TX_POST v) control (lane d v).lastControl (lane d v).status
        setTaps v taps.1 taps.2 (modLane v (fun x => { x with status := st, lastControl := control,
                                                              ready := if groupReceives (reverseOf g) then x.ready else bitOf control 9 }) d)
      else d
    let held := (lane d1 l).request
    sendReverse g k <| modLane l (fun x => { x with ready := x.ready || bitOf next 9 }) <| if answered held status then
      let d2 :=
        if groupSends g then d1
        else
          let (taps, st) := applyRequest (attr d1 LANE_TX_PRE l) (attr d1 LANE_TX_POST l) held 0 0
          if st = status then setTaps l taps.1 taps.2 d1 else d1
      modLane l (fun x => { x with request := 0 }) d2
    else if held = 0 then modLane l (fun x => { x with request := next / 2 ^ 10 * 2 ^ 10 }) d1
    else d1
  else d
where
  /-- The frame of the other direction. -/
  sendReverse (g k : Nat) (d : Dev) : Dev := if groupSends (reverseOf g) then sendFrame (reverseOf g) k d else d

/-! ### Windows and time limits -/

/-- R246: the end of a millisecond of a lane. -/
def errorWindow (g k : Nat) (d : Dev) : Dev :=
  let l := laneOf g k
  let x := lane d l
  let high := decide (attr d LANE_FAULT_CORR l < x.corr)
  let run := if high then x.corrRun + 1 else 0
  let d1 := modLane l (fun y => { y with uncorr := 0, corr := 0, corrRun := if 100 ≤ run then 0 else run }) d
  if watched d g k then
    if attr d LANE_FAULT_UNCORR l < x.uncorr then laneFault g k 1 d1 else if 100 ≤ run then laneFault g k 2 d1 else d1
  else modLane l (fun y => { y with corrRun := 0 }) d1

/-- R234 step 4: the oldest row has waited: the transmitter resends from it. -/
def replayTimer (g : Nat) (d : Dev) : Dev :=
  let x := link d g
  match x.replay with
  | r :: _ =>
    if groupRuns d g ∧ x.resend = none ∧ r.sentAt + attr d GROUP_REPLAY_TIMER g ≤ d.elapsed then
      bump GROUP_REPLAYS g 1 (modLink g (fun y => { y with resend := some r.seq }) d)
    else d
  | [] => d

/-- R236, R252: 1 ms after a retrain the pair still carries no rows. -/
def quickRetrainTimeout (pair : Nat) (d : Dev) : Dev :=
  if attr d GROUP_STATE (pairTx pair) = 1 ∨ attr d GROUP_STATE (pairRx pair) = 1 then
    groupDown (pairRx pair) 0xFF (groupDown (pairTx pair) 0xFF (dropTraining pair d))
  else d

/-- R259: whether an armed transmitter may enter L0s now. -/
def mayIdle (d : Dev) (g : Nat) : Bool :=
  groupSends g && attr d GROUP_IDLE_MODE g == 1 && (attr d GROUP_STATE g == 2 || attr d GROUP_STATE g == 3)
    && (link d g).replay.isEmpty && !rowOwed d g && !owesFeedback d g

/-- R259: a tangent burst received, in a row slot or in place of an alignment slot: rows are decoded from the next slot; a lane that fails to
lock is faulted. -/
def tangentBurst (g : Nat) (failed : List Nat) (d : Dev) : Dev :=
  if groupReceives g ∧ (attr d GROUP_STATE g = 4 ∨ (link d g).rxTangent = true) then
    let d1 := modLink g (fun x => if x.rxSlot = 1024 then { x with rxTangent := false, rxAb := (x.rxAb + 1) % 65536, rxSlot := 0, scrRx := laneSeeds (pairOf g) }
      else { x with rxTangent := false, rxSlot := x.rxSlot + 1 }) (leaveL0s g d)
    forAll failed (fun k e => if watched e g k then laneFault g k 0 (bump LANE_LOCK_LOSSES (laneOf g k) 1 e) else e) d1
  else d

/-- R532: a start attempt on a host pair. -/
def startPair (pair : Nat) (d : Dev) : Dev :=
  let busy := match d.power.set with
    | some x => x.state != 0 && (pairDomains pair).any x.mask.contains
    | none => false
  if bitOf (attr d DEVICE_START_PAIRS 0) pair && pairOn d pair && domainOn d (188 + pair / 2) && !busy && !pairIn d pair 5 && !pairIn d pair 6
      && !(groupRuns d pair && groupRuns d (8 + pair)) && !pairTraining d pair then
    startTraining pair (.start false) false [0, 1, 2, 3, 4] d
  else d

/-! ### The hub (R278 to R281, R376) -/

/-- R281: the ports with a flow on an inner TX group. -/
def portsOnInner (d : Dev) (g : Nat) : List Nat := (((usedFlows d).filter fun f => innerTx d f == g).map (flowPort d)).eraseDups

/-- R281: a lane's framing marked SLOW and its logical lane asked onto LS, with rank 2. -/
def slowLane (g k missed : Nat) (d : Dev) : Dev :=
  let l := laneOf g k
  let d1 := markSlow (elementKey clsLane l k) clsLane l (min 0x7FFF missed) d
  match carriedBy (attr d GROUP_LANE_MAP g) k with
  | some j => requestLs g j 2 d1
  | none => d1

/-- R281: the engine of a port marked SLOW, and the spare asked for with rank 2, where the port is not on it. -/
def slowEngine (p detail : Nat) (d : Dev) : Dev :=
  let d1 := markSlow (engineKey d p) clsPort p detail d
  if engineOf d p = 4 then d1 else requestSpare p 2 d1

/-- R281: what a window's slow sources come to, for the sources not yet seen to: an inner group most of whose ports are slow, then each
remaining port's engine, then the host groups. -/
def slowWindow (last : List (Nat × Nat)) (d : Dev) : Dev :=
  let slow := (d.sources.filter fun x => decide (250 < x.2.missed)).map (·.1)
  let n := fun s => (source d s).missed
  let laneFor := fun g => ((last.find? fun x => x.1 == g).map (·.2)).getD 0
  let bad := ([16, 17, 18, 19, 24, 25, 26, 27].filter fun g =>
    let ps := portsOnInner d g
    decide (ps.length < 2 * (ps.filter slow.contains).length))
  let covered := bad.flatMap (portsOnInner d)
  let d1 := bad.foldl (fun e g => slowLane g (laneFor g) (((portsOnInner d g).map n).foldl max 0) e) d
  let d2 := (slow.filter fun s => decide (s < 128) && !covered.contains s).foldl
    (fun e p => slowEngine p (min 0x7FFF (n p)) e) d1
  let d3 := (slow.filter fun s => decide (128 ≤ s)).foldl (fun e s => slowLane (s - 120) (laneFor (s - 120)) (n s) e) d2
  forAll (d3.sources.map (·.1)) (fun s => modSource s fun x => { x with missed := 0 }) d3

/-- R376: what the two copies of the hub's control did in a round. -/
def hubCompare (again bad : Nat) (d : Dev) : Dev :=
  let d1 := if again + bad = 0 then d else countTransient clsDevice 0 7 d
  bump DEVICE_HUB_DISAGREE 0 (again + bad) (modFaults (fun x => { x with hubBad := x.hubBad + bad, hubSlots := x.hubSlots + 136 }) d1)

/-- R376: the end of a millisecond of comparisons. -/
def hubControlWindow (d : Dev) : Dev :=
  let x := d.faults
  let d1 := modFaults (fun y => { y with hubBad := 0, hubSlots := 0 }) d
  if x.hubSlots < 100 * x.hubBad then unmasked clsDevice 0 0xFF 7 unmHubControl d1 else d1

/-! ### Rows -/

/-- R241: the LANE_TRAIN row. -/
def execLaneTrain (r : Req) (s : State) : Out := issueOut 0x50 bodyLaneTrain r s

/-- R257: the LANE_LOOP row. -/
def execLaneLoop (r : Req) (s : State) : Out := issueOut 0x51 bodyLaneLoop r s

/-- R255: the PATTERN_RUN row. -/
def execPatternRun (r : Req) (s : State) : Out := issueOut 0x52 bodyPatternRun r s

/-- R258: the LANE_IDLE row. -/
def execLaneIdle (r : Req) (s : State) : Out := issueOut 0x53 bodyLaneIdle r s

/-- R234: the ROW_SLOT row of a group. -/
def execRowSlot (g : Fin 32) (s : State) : Out := onDev (rowSlot g) s

/-- R229: the ALIGNMENT_SLOT row of a group. -/
def execAlignmentSlot (g : Fin 32) (x : AlignmentFound) (s : State) : Out := onDev (alignSlot g x.words x.measures) s

/-- R234: the REPLAY_TIMER row of a group. -/
def execReplayTimer (g : Fin 32) (s : State) : Out := onDev (replayTimer g) s

/-- R236: the QUICK_RETRAIN_TIMEOUT row of a pair. -/
def execQuickRetrainTimeout (pair : Fin 16) (s : State) : Out := onDev (onExpiry tkQuickRetrain pair (quickRetrainTimeout pair)) s

/-- R246: the LANE_LOCK_LOSS row of a lane. -/
def execLaneLockLoss (l : Fin 256) (s : State) : Out :=
  onDev (fun d => if watched d (l / 8) (l % 8) then laneFault (l / 8) (l % 8) 0 (bump LANE_LOCK_LOSSES l 1 d) else d) s

/-- R246: the LANE_ERROR_WINDOW row of a lane. -/
def execLaneErrorWindow (l : Fin 256) (s : State) : Out :=
  onDev (fun d => if armed d tkCorrRun l ∧ due d tkCorrRun l = false then d else errorWindow (l / 8) (l % 8) (arm tkCorrRun l nsPerMs d)) s

/-- R248: the LANE_SUBST row of a group: the change of the transmitter or of the receiver whose slot has come. -/
def execLaneSubst (g : Fin 32) (s : State) : Out := onDev (fun d => rxChangeDue g (txChangeDue g d)) s

/-- R250: the SPARE_PATTERN_CLEAN row of a lane. -/
def execSparePatternClean (l : Fin 256) (s : State) : Out :=
  onDev (onExpiry tkSpareClean l fun d => if (lane d l).retrain = 2 then becomeSpare l d else d) s

/-- R253: the LC_LOSS row of a group. -/
def execLcLoss (g : Fin 32) (s : State) : Out := onDev (lcLoss g) s

/-- R244: the TRAINING_FRAME row of a lane. -/
def execTrainingFrame (l : Fin 256) (control status request : BitVec 16) (s : State) : Out :=
  onDev (trainingFrame (l / 8) (l % 8) control.toNat status.toNat request.toNat) s

/-- R242: the LANE_TRAIN_PHASE_END row of a pair. -/
def execLaneTrainPhaseEnd (pair : Fin 16) (ms : List LaneMeasure) (s : State) : Out := onDev (trainPhaseEnd pair ms) s

/-- R242: the LANE_TRAIN_PHASE_TIMEOUT row of a pair. -/
def execLaneTrainPhaseTimeout (pair : Fin 16) (failTx failRx : List Nat) (s : State) : Out :=
  onDev (onExpiry tkLanePhase pair (trainPhaseTimeout pair failTx failRx)) s

/-- R255: the PATTERN_RUN_END row of a lane; the far end reports its own results for a host TX lane (R256). -/
def execPatternRunEnd (l : Fin 256) (found : PatternFound) (s : State) : Out :=
  onDev (onExpiry tkPattern l fun d =>
    let add := fun (r : PatternRun) =>
      if groupReceives (l / 8) then
        { r with bits := r.bits + found.bits, bitErrors := r.bitErrors + found.errors, corrected := r.corrected + found.corrected, uncorrectable := r.uncorrectable + found.uncorrectable, miscorrected := r.miscorrected + found.miscorrected }
      else r
    endPattern l stOk 0 (modLane l (fun x => { x with pattern := x.pattern.map add }) d)) s

/-- R259: the L0S_DWELL row of a group. -/
def execL0sDwell (g : Fin 32) (s : State) : Out :=
  onDev (fun d => if due d tkL0s g ∧ mayIdle d g = true then modLink g (fun x => { x with idleRows := 4, idleCode := 1 }) (disarm tkL0s g d) else d) s

/-- R259: the L0S_EXIT row of a group. -/
def execL0sExit (g : Fin 32) (s : State) : Out :=
  onDev (fun d => if (link d g).idleRows = 0 ∧ (rowOwed d g || owesFeedback d g) = true then exitL0s g d else d) s

/-- R259: the LANE_TANGENT_BURST row of a group. -/
def execLaneTangentBurst (g : Fin 32) (failed : List Nat) (s : State) : Out := onDev (tangentBurst g failed) s

/-- R260: the L2_ENTRY_TIMEOUT row of a pair. -/
def execL2EntryTimeout (pair : Fin 16) (s : State) : Out := onDev (onExpiry tkL2 pair (endL2Entry pair stTimeout)) s

/-- R260: the FAR_LC_RESTART row of a pair. -/
def execFarLcRestart (pair : Fin 16) (s : State) : Out :=
  onDev (fun d =>
    if pairIn d pair 5 && pairOn d pair && (training d pair).isNone then startTraining pair .farExit true [0, 1, 2, 3, 4] d else d) s

/-- R532: the START_PAIR_RETRY row of a host pair. -/
def execStartPairRetry (pair : Fin 8) (s : State) : Out := onDev (onExpiry tkStartPair pair (startPair pair)) s

/-- R278, R376: the HUB_ROUND row. -/
def execHubRound (missed : List (Fin 136)) (again : Nat) (bad : List (Fin 136)) (s : State) : Out :=
  onDev (fun d =>
    if multipleDue d tkHub 40 then hubRound ((missed ++ bad).map (·.val)) (hubCompare again bad.length (armMultiple tkHub 0 40 d)) else d) s

/-- R281: the SLOW_WINDOW row. -/
def execSlowWindow (last : List (Nat × Nat)) (s : State) : Out :=
  onDev (fun d => if multipleDue d tkSlow nsPerMs then slowWindow last (armMultiple tkSlow 0 nsPerMs d) else d) s

/-- R376: the HUB_CONTROL_WINDOW row. -/
def execHubControlWindow (s : State) : Out :=
  onDev (fun d => if armed d tkHubControl 0 ∧ due d tkHubControl 0 = false then d else hubControlWindow (arm tkHubControl 0 nsPerMs d)) s

end Sys2Proof.Machine
end

