-- ==== Sys2Proof/Machine/Faults.lean ====
section
/-! DEFINITION. Machine/Faults.lean: failure you never see, beside engines and lanes: wavefront margins (R23), ADC slices (R374), stalled
sources (R375), memories (R377 to R379), the Vertex cores (R380 to R383), brownouts (R390 to R392), the fault log (R393 to R396) and
REPAIR (R397). -/

namespace Sys2Proof.Machine

/-! ### Wavefront margins (R23) -/

/-- The margin attribute of each engine of a facet. -/
def marginAttr (e : Nat) : Attr :=
  match e with
  | 0 => FACET_MARGIN_0 | 1 => FACET_MARGIN_1 | 2 => FACET_MARGIN_2 | 3 => FACET_MARGIN_3 | _ => FACET_MARGIN_4

/-- The lowest margin of a die in a sample: its region code and margin. -/
def lowestMargin (regions : List (Nat × Nat × Nat)) (die : Nat) : Option (Nat × Nat) :=
  match (regions.filter fun x => x.1 == die).map (·.2) with
  | [] => none
  | x :: r => some (r.foldl (fun b y => if y.2 < b.2 then y else b) x)

/-- R23, R32: one die's sample: the floor, and MARGIN_LOW where it falls below the threshold for the first time since it was more than 0.02
above it. -/
def dieMargin (regions : List (Nat × Nat × Nat)) (die : Nat) (d : Dev) : Dev :=
  match lowestMargin regions die with
  | none => setAttr DIE_FLOOR_REGION die 0xFFFF (setAttr DIE_MARGIN_FLOOR die 0 d)
  | some (code, m) =>
    let d1 := setAttr DIE_FLOOR_REGION die code (setAttr DIE_MARGIN_FLOOR die m d)
    let warn := attr d DIE_MARGIN_WARN die
    let low := d.faults.marginLow.contains die
    if m < warn ∧ low = false then raise clsDie die evMarginLow m (modFaults (fun x => { x with marginLow := x.marginLow ++ [die] }) d1)
    else if low ∧ 100 * warn + 512 < 100 * m then modFaults (fun x => { x with marginLow := x.marginLow.filter (· != die) }) d1
    else d1

/-- R33: the regions of a die: the engines of facets F0 to F15 on D0 and of F16 to F31 on D1, the hub and the Vertex on DH, a scan
engine and framing logic on every die. -/
def marginRegionOk (die code : Nat) : Bool :=
  if code < 80 then die == 0 else if code < 160 then die == 1
  else if code = 0x100 ∨ code = 0x101 then die == 2
  else decide (die < 3) && (code == 0x102 || code == 0x103)

/-- R23, R32: a sample of every running region; an entry that names no region of its die (R33) tells nothing. -/
def marginSample (sample : List (Nat × Nat × Nat)) (d : Dev) : Dev :=
  let regions := sample.filter fun x => marginRegionOk x.1 x.2.1
  let d1 := forAll (List.range 160) (fun i =>
    setAttr (marginAttr (i % 5)) (i / 5) (((regions.find? fun x => x.2.1 == i && decide (x.1 < 2)).map (·.2.2)).getD 0)) d
  forAll [0, 1, 2] (dieMargin regions) d1

/-! ### ADC slices (R374) -/

/-- R374: the state of a slice: 0 as built (0 to 63 active, 64 to 67 spare), 1 under recalibration, 2 FAILED, 3 made active, 4 made spare. -/
def sliceState (d : Dev) (p k : Nat) : Nat := bankGet 0 d.faults.slices (128 * p + k)

/-- A slice's state written. -/
def setSlice (p k st : Nat) (d : Dev) : Dev := modFaults (fun x => { x with slices := bankPut 0 x.slices (128 * p + k) st }) d

/-- Whether a slice is in use. -/
def sliceActive (d : Dev) (p k : Nat) : Bool := let st := sliceState d p k; st == 3 || (st == 0 && decide (k < 64))

/-- Whether a slice is a ready spare. -/
def sliceSpare (d : Dev) (p k : Nat) : Bool := let st := sliceState d p k; st == 4 || (st == 0 && decide (64 ≤ k))

/-- R401: PORT.ADC_SPARES and PORT.ADC_FAILED. -/
def refreshSlices (p : Nat) (d : Dev) : Dev :=
  setAttr PORT_ADC_FAILED p ((List.range 68).filter fun k => sliceState d p k == 2).length
    (setAttr PORT_ADC_SPARES p (min 4 ((List.range 68).filter (sliceSpare d p)).length) d)

/-- R374: a slice faulted: a spare takes its place, and it is recalibrated out of service. -/
def sliceFault (p k : Nat) (d : Dev) : Dev :=
  if sliceActive d p k = false ∧ sliceSpare d p k = false then d
  else
    let d1 := noteFault (elementKey clsPort p k) (setSlice p k 1 d)
    if sliceActive d p k then
      match (List.range 68).find? (sliceSpare d1 p) with
      | some j => refreshSlices p (setSlice p j 3 d1)
      | none => refreshSlices p (unmasked clsPort p k 2 unmAdcSpares d1)
    else refreshSlices p d1

/-- A slice that works again: a spare, or in use where a place has stayed empty. -/
def sliceBack (p k : Nat) (d : Dev) : Dev :=
  refreshSlices p (setSlice p k (if ((List.range 68).filter (sliceActive d p)).length < 64 then 3 else 4) d)

/-- R374: the recalibration of a faulted slice ends. -/
def sliceVerdict (p k : Nat) (pass : Bool) (d : Dev) : Dev :=
  if sliceState d p k ≠ 1 then d
  else if pass && fewFaults d (elementKey clsPort p k) then faultCleared clsPort p k 2 (sliceBack p k d)
  else permanentFault clsPort p k 2 (refreshSlices p (setSlice p k 2 d))

/-! ### Stalled sources (R375) -/

/-- R375: a stalled source that the move did not help, or that cannot be moved: the port keeps its state. -/
def stallUnmasked (p _e : Nat) (d : Dev) : Dev := unmasked clsPort p 0xFF 8 unmSourceStall d

/-- R375: a port source has stalled: its engine is faulted as by STALL, once for the stall; a move back to the port's own engine is at once,
one to the spare starts its 64 rounds in `takeOver`. -/
def sourceStall (p : Nat) (d : Dev) : Dev :=
  if 64 ≤ (source d p).stalled ∧ (source d p).handled = false then
    let e := engineOf d p
    let d1 := engineFaultWith stallUnmasked (facetOf p) e (modSource p (fun x => { x with handled := true }) d)
    if engineOf d1 p ≠ e then arm tkSourceStall p 2560 d1 else d1
  else d

/-! ### Memories (R377 to R379) -/

/-- The key of a memory bank. -/
def bankKey (die bank : Nat) : Nat := 256 * die + bank

/-- R400: the fewest spare words left in any bank of a die. -/
def sparesMin (d : Dev) (die : Nat) : Nat :=
  ((List.range 256).map fun b => 64 - bankGet 0 d.faults.sparesUsed (bankKey die b)).foldl min 64

/-- R378: a word that erred in the same symbol in three passes is remapped, where its bank has a spare word. -/
def remapWord (die bank word : Nat) (d : Dev) : Dev :=
  let key := bankKey die bank
  let used := bankGet 0 d.faults.sparesUsed key
  if 64 ≤ used then unmasked clsDie die bank 5 unmSpareWords d
  else
    let d1 := modFaults (fun x => { x with sparesUsed := bankPut 0 x.sparesUsed key (used + 1), remapped := x.remapped ++ [word], mramBanks := if die = 2 ∧ word < 0x800000 ∧ x.mramBanks.contains key = false then key :: x.mramBanks else x.mramBanks, suspects := x.suspects.filter fun t => t.1 != word }) d
    let d2 := setAttr DIE_SPARE_WORDS_MIN die (sparesMin d1 die) (bump DIE_MEM_REMAPPED die 1 d1)
    raise clsDie die evWordRemap (63 - used) (queueLog clsDie die bank 5 logPermanent 0 0 1 d2)

/-- R378: passes in a row in which a word erred in one symbol. -/
def suspectPasses (d : Dev) (word : Nat) : Option (Nat × Nat) := (d.faults.suspects.find? fun t => t.1 == word).map (·.2)

/-- R377, R378: a word corrected. -/
def correctedWord (die word symbol : Nat) (d : Dev) : Dev :=
  let n := match suspectPasses d word with | some (s, k) => if s = symbol then min 3 (k + 1) else 1 | none => 1
  countCorrected die 1 (modFaults (fun x => { x with suspects := (x.suspects.filter fun t => t.1 != word) ++ [(word, symbol, n)] }) d)

/-- R279, R379: the first frame of a host TX group's store discarded whole. -/
def loseHostFrame (g : Nat) (d : Dev) : Dev :=
  match (link d g).store with
  | [] => d
  | u :: _ =>
    let d1 := if u.counted then bump FLOW_DROP_STORE u.flow 1 d else d
    refreshFill g (modLink g (fun x => { x with store := dropTails [u.flow] x.store }) d1)

/-- R279, R379: the first frame of a port's store discarded whole. -/
def losePortFrame (p : Nat) (d : Dev) : Dev :=
  match egressOf d p with
  | [] => d
  | x :: r =>
    let d1 := if x.whole then d else modFlow x.flow (fun y => { y with discardRx := true }) d
    dropFromHost FLOW_DROP_STORE x.flow x.tsKind x.tsTag (setEgress p r d1)

/-- R380, R383: the cores of the active pair and the spare; 3 none. -/
def activeCores (d : Dev) : Nat × Nat := (attr d DEVICE_VERTEX_CORES 0 % 4, attr d DEVICE_VERTEX_CORES 0 / 4 % 4)

/-- R380: the spare core. -/
def spareCore (d : Dev) : Nat := attr d DEVICE_VERTEX_CORES 0 / 16 % 4

/-- R399: DEVICE.VERTEX_CORES. -/
def setCores (a b spare : Nat) (d : Dev) : Dev := setAttr DEVICE_VERTEX_CORES 0 (a + 4 * b + 16 * spare) d

/-- R383: the Vertex halts; only the log keeps it. Before READY the start stops there (R536). -/
def haltVertex (d : Dev) : Dev :=
  unmasked clsDevice 0 0xFF 6 unmVertexHalt { d with vertex := .halted, phase := if d.phase = .ready then .ready else .stopped }

/-- R382, R383: the active cores disagree: a reload; trials where they disagree again before the commit, or three times in 10 ms; a halt
where no spare core is left to try. -/
def vertexDisagree (d : Dev) : Dev :=
  if d.phase = .held ∨ d.vertex = .halted ∨ d.vertex = .trial then d
  else
    let recent := (d.faults.rollbacks.filter fun t => decide (d.elapsed < t + 10 * nsPerMs)) ++ [d.elapsed]
    let d1 := modFaults (fun x => { x with rollbacks := recent, disagreeAt := d.elapsed, disagreeTime := d.devTime }) d
    if d.vertex = .reloading ∨ 3 ≤ recent.length then
      if spareCore d = 3 then haltVertex d1 else { d1 with vertex := .trial }
    else { d1 with vertex := .reloading }

/-- R379: what follows a word that cannot be corrected. -/
def loseWord (die bank : Nat) (area : MemArea) (d : Dev) : Dev :=
  let counted := bump DIE_MEM_UNCORRECTABLE die 1 d
  match area with
  | .engine f e => engineFault f e counted
  | .vertexWork => vertexDisagree counted
  | .checkpoint both => if both then haltVertex counted else counted
  | .hubTables => counted
  | .logRecord => counted
  | .recastTx p s =>
    if (port d p).recast.store.any (fun c => c.seq == s) then
      storeLoss p s true (modRecast p (fun x => { x with copies := x.copies.filter (· != s), store := x.store.filter fun c => c.seq != s }) d)
    else counted
  | .recastRx p s => loseReorder p s d
  | .hostStore g => memoryLost die clsDie die bank (loseHostFrame g d)
  | .portStore p => memoryLost die clsDie die bank (losePortFrame p d)
  | .slot => memoryLost die clsDie die bank d
  | .retention => counted
  | .other => memoryLost die clsDie die bank d

/-- R377, R496: the end of a die's scrub pass. -/
def scrubPassEnd (die : Nat) (d : Dev) : Dev :=
  let start := bankGet 0 d.faults.scrubStart die
  let took := if start = 0 then 0 else d.elapsed + 1 - start
  let d1 := modFaults (fun x => { x with scrubStart := bankPut 0 x.scrubStart die (d.elapsed + 1) }) d
  let d2 := bump DIE_SCRUB_PASSES die 1 (if start = 0 then d1 else setAttr DIE_SCRUB_LAST die (took / nsPerMs) d1)
  if 10 * nsPerS < took then
    if d.faults.behind.contains die then d2
    else raise clsDevice 0 evBgOverrun 1 (modFaults (fun x => { x with behind := x.behind ++ [die] }) d2)
  else modFaults (fun x => { x with behind := x.behind.filter (· != die) }) d2

/-- R377, R378: a scrub step, which stops in a brownout (R391). -/
def scrubStep (die bank word : Nat) (found : ScrubFind) (last : Bool) (d : Dev) : Dev :=
  if d.brownout.isSome then d
  else
    let d0 := if bankGet 0 d.faults.scrubStart die = 0 then modFaults (fun x => { x with scrubStart := bankPut 0 x.scrubStart die (d.elapsed + 1) }) d else d
    let three := match suspectPasses d word with | some (_, k) => decide (3 ≤ k) | none => false
    let d1 :=
      match found with
      | .clean => if three then remapWord die bank word d0 else modFaults (fun x => { x with suspects := x.suspects.filter fun t => t.1 != word }) d0
      | .corrected s => if three then remapWord die bank word (correctedWord die word s d0) else correctedWord die word s d0
      | .uncorrectable a => loseWord die bank a (modFaults (fun x => if x.badWords.contains word then x else { x with badWords := x.badWords ++ [word] }) d0)
    if last then scrubPassEnd die d1 else d1

/-! ### The Vertex (R382, R383) -/

/-- R382: a rollback is over: counted, its duration kept and raised with the instant of the disagreement. -/
def rollbackDone (d : Dev) : Dev :=
  let us := (d.elapsed - d.faults.disagreeAt) / nsPerUs
  let d1 := countTransient clsDevice 0 6 (bump DEVICE_ROLLBACKS 0 1 d)
  let d2 := setAttr DEVICE_ROLLBACK_MAX 0 (max (attr d DEVICE_ROLLBACK_MAX 0) (min 0xFFFF us)) d1
  let now := d2.devTime
  { raise clsDevice 0 evRollback (min 0xFFFF us) { d2 with devTime := d.faults.disagreeTime } with devTime := now }

/-- R382: the reload completes, and the held inputs are executed again. -/
def reloadDone (d : Dev) : Dev := if d.vertex = .reloading then rollbackDone { d with vertex := .running } else d

/-- R383: the core left out is FAILED, and the pair that agreed is active. -/
def failCore (kept out : Nat) (d : Dev) : Dev :=
  permanentFault clsDevice 0 out 6 (setCores kept (spareCore d) 3 (modFaults (fun x => { x with failedCores := x.failedCores ++ [out] }) d))

/-- R383: the trials end. -/
def trialEnd (first second : Bool) (d : Dev) : Dev :=
  if d.vertex ≠ .trial then d
  else
    let (a, b) := activeCores d
    if first = true ∧ second = true then rollbackDone { d with vertex := .running }
    else if first then failCore a b (rollbackDone { d with vertex := .running })
    else if second then failCore b a (rollbackDone { d with vertex := .running })
    else haltVertex d

/-! ### Brownout (R390 to R392) -/

/-- R391: a rail falls below its operating minimum. -/
def supplyLow (rail : Nat) (d : Dev) : Dev :=
  let d1 := modFaults (fun x => if x.rails.contains rail then x else { x with rails := x.rails ++ [rail] }) d
  if d.brownout.isSome ∨ d.phase = .held then d1 else { d1 with brownout := some (rail, d.elapsed) }

/-- R392: the brownout is over. -/
def brownoutOver (rail start : Nat) (d : Dev) : Dev :=
  let us := (d.elapsed - start) / nsPerUs
  let short := rail * 4096 + min 0xFFF us
  let last := d.faults.brownoutEnd
  let d1 := modFaults (fun x => { x with brownoutEnd := d.elapsed + 1 }) { d with brownout := none }
  let d2 := setAttr DEVICE_BROWNOUT_LAST 0 (rail * 2 ^ 28 + min (2 ^ 28 - 1) us) (bump DEVICE_BROWNOUTS 0 1 d1)
  let d3 := raise clsDevice 0 evBrownout short (queueLog clsDevice 0 0xFF 9 logBrownout 0 short 1 d2)
  let d4 := if d.phase = .ready then d3 else setAttr DEVICE_START_FLAGS 0 (withBit (attr d3 DEVICE_START_FLAGS 0) 8 true) d3
  if 50000 ≤ d.elapsed - start ∨ (last ≠ 0 ∧ start + 1 < last + 10 * nsPerMs) then unmasked clsDevice 0 0xFF 9 unmBrownoutLong d4 else d4

/-- R392: a rail is back; the last one ends the brownout. -/
def supplyRestored (rail : Nat) (d : Dev) : Dev :=
  let d1 := modFaults (fun x => { x with rails := x.rails.filter (· != rail) }) d
  match d.brownout with
  | some (r, t) => if d1.faults.rails = [] then brownoutOver r t d1 else d1
  | none => d1

/-! ### The fault log (R393 to R396) -/

/-- R393: the region of the log. -/
abbrev logBase : Nat := 0x600000

/-- R393: the address of a place of the ring. -/
def logAddr (n : Nat) : Nat := logBase + 64 * n

/-- R394: the CHECK of a record at an address. -/
def logCheck (addr : Nat) (bytes : List Byte) : Nat := crc32c (toLE addr 4 ++ bytes.take 60)

/-- R394: a record's bytes with a place's FLAGS and CHECK. -/
def sealRecord (n : Nat) (pinned : Bool) (body : List Byte) : List Byte :=
  let bs := body.take 56 ++ toLE (bitNat pinned) 4
  bs ++ toLE (logCheck (logAddr n) bs) 4

/-- R394: bytes 0 to 55 of a record. -/
def recordBody (d : Dev) (seq : Nat) (r : LogRec) : List Byte :=
  toLE seq 4 ++ toLE (r.time % 2 ^ 48) 6 ++ toLE (attr d DEVICE_BOOTS 0) 2 ++ [byteOf (attr d LATTICE_INDEX 0), byteOf r.cls] ++ toLE r.inst 2
    ++ [byteOf r.element, byteOf r.fclass, byteOf r.kind, byteOf r.status] ++ toLE r.cause 2 ++ toLE r.count 2 ++ fitBytes r.detail 32

/-- R395: whether a kind of record is pinned. -/
def pins (kind : Nat) : Bool := kind == logPermanent || kind == logUnmasked || kind == logReset

/-- R395: the place of the next record: a free one, or that of the oldest record not pinned. -/
def nextPlace (l : List LogPlace) : Nat :=
  if l.length < 32768 then l.length else (((l.find? fun x => !x.pinned).map (·.place)).getD ((l.head?.map (·.place)).getD 0))

/-- R395: the oldest pinned record, where pinned records already fill 8,192 places. -/
def losesPin (l : List LogPlace) : Option LogPlace :=
  let ps := l.filter (·.pinned)
  if 8192 ≤ ps.length then ps.head? else none

/-- R399: DEVICE.LOG_NEWEST, LOG_HELD and LOG_WRAPS after a record. -/
def logAttrs (seq held wraps : Nat) (d : Dev) : Dev :=
  setAttr DEVICE_LOG_WRAPS 0 wraps (setAttr DEVICE_LOG_HELD 0 held (setAttr DEVICE_LOG_NEWEST 0 seq d))

/-- R393 to R395: the log writer writes the oldest waiting record; not in a brownout, nor while the log is being erased. -/
def writeRecord (s : State) : State :=
  let d := s.dev
  let x := d.faults
  match x.queue with
  | [] => s
  | r :: rest =>
    if d.brownout.isSome ∨ x.erase.isSome then s
    else
      let pin := pins r.kind
      let place := nextPlace x.places
      let free := if pin then losesPin x.places else none
      let kept := (x.places.filter fun p => p.place != place).map fun p => if free = some p then { p with pinned := false } else p
      let mem1 := match free with
        | some p => if p.place = place then s.mem else memWrite s.mem (logAddr p.place) (sealRecord p.place false (memRead s.mem (logAddr p.place) 64))
        | none => s.mem
      let places := kept ++ [⟨x.nextSeq, place, pin⟩]
      let wraps := attr d DEVICE_LOG_WRAPS 0 + bitNat (decide (32768 ≤ x.places.length) && decide (place < ((x.places.getLast?).map (·.place)).getD 0))
      let addr := logAddr place
      let clear := fun (a : Nat) => decide (a < addr) || decide (addr + 64 ≤ a)
      let d1 := modFaults (fun y => { y with queue := rest, places := places, nextSeq := x.nextSeq + 1, badWords := y.badWords.filter clear }) d
      let d2 := noteWrite addr 64 (match free with | some p => noteWrite (logAddr p.place) 64 d1 | none => d1)
      { s with dev := logAttrs x.nextSeq places.length wraps d2, mem := memWrite mem1 addr (sealRecord place pin (recordBody d x.nextSeq r)) }

/-- R396: a record as READ returns it: DAMAGED where its CHECK fails or a word of it is lost. -/
def readRecord (mem : List Host.Cell) (d : Dev) (p : LogPlace) : List Byte :=
  let a := logAddr p.place
  let bs := memRead mem a 64
  let bad := d.faults.badWords.any (fun w => decide (a ≤ w) && decide (w < a + 64)) || logCheck a bs != leAt bs 60 4
  if bad then bs.set 56 (byteOf (byteAt bs 56 ||| 2)) else bs

/-- R396: the result of READ. -/
def readLog (mem : List Host.Cell) (d : Dev) (count start : Nat) : List Byte :=
  let l := d.faults.places
  let gap := decide (start < d.faults.nextSeq) && !(l.any fun p => p.seq == start)
  let rs := (if gap then l else l.filter fun p => decide (start ≤ p.seq)).take count
  [byteOf rs.length, byteOf (bitNat gap), 0#8, 0#8] ++ rs.flatMap (readRecord mem d)

/-- R396: the result of INFO. -/
def logInfo (d : Dev) : List Byte :=
  let l := d.faults.places
  toLE ((l.head?.map (·.seq)).getD 0) 4 ++ toLE ((l.getLast?.map (·.seq)).getD 0) 4 ++ toLE l.length 2 ++ toLE (l.filter (·.pinned)).length 2
    ++ toLE (attr d DEVICE_LOG_WRAPS 0) 4 ++ toLE (attr d DEVICE_BOOTS 0) 2

/-- R396: FAULT_LOG. -/
def bodyFaultLog : Body := fun mem c d =>
  let ps := c.params
  let act := byteAt ps 0
  let count := byteAt ps 1
  need (decide (act ≤ 2) && reservedZero ps 2 2 && (if act = 1 then decide (1 ≤ count) && decide (count ≤ 15) else count == 0 && leAt ps 4 4 == 0)) stOutOfRange <|
    if act = 0 then okResult (logInfo d) d
    else if act = 1 then okResult (readLog mem d count (leAt ps 4 4)) d
    else
      need (lcOpen d) stLifecycle <| need d.faults.erase.isNone stBusy <|
        .accept [] (modFaults (fun x => { x with erase := some (callRef c) }) (addJob c d))

/-- R396: every record is erased; LOG_SEQ goes on. -/
def eraseEnd (s : State) : State :=
  match s.dev.faults.erase with
  | none => s
  | some j =>
    let keep := fun (a : Nat) => decide (a < logBase) || decide (logBase + 0x200000 ≤ a)
    let d1 := modFaults (fun x => { x with erase := none, places := [], badWords := x.badWords.filter keep }) s.dev
    { s with mem := memErase s.mem logBase 0x200000, dev := complete j clsDevice 0 evFaultLogDone stOk [] (setAttr DEVICE_LOG_HELD 0 0 (noteWrite logBase 0x200000 d1)) }

/-- R393: the SUMMARY records of an hour. -/
def summaryHour (d : Dev) : Dev :=
  d.faults.sums.foldl (fun e s => queueLog s.cls s.inst 0xFF s.fclass logSummary 0 0 s.count e) (modFaults (fun x => { x with sums := [] }) d)

/-! ### REPAIR (R397) -/

/-- R397: the fields of REPAIR in range. -/
def repairFieldsOk (ps : List Byte) : Bool :=
  let e := byteAt ps 1
  let i := leAt ps 2 2
  match byteAt ps 0 with
  | 1 => decide (e ≤ 2) && i == 0
  | 4 => decide (e ≤ 4) && decide (i ≤ 31)
  | 5 => decide (e ≤ 67) && decide (i ≤ 127)
  | 7 => decide (e ≤ 5) && decide (i ≤ 31)
  | _ => false

/-- R397: whether an element is FAILED. -/
def elementFailed (d : Dev) (cls inst e : Nat) : Bool :=
  if cls = 1 then d.faults.failedCores.contains e
  else if cls = 4 then engineState d inst e == 2
  else if cls = 5 then sliceState d inst e == 2
  else laneState d inst e == 6

/-- R397: REPAIR. -/
def bodyRepair : Body := fun _ c d =>
  let ps := c.params
  let cls := byteAt ps 0
  let e := byteAt ps 1
  let i := leAt ps 2 2
  need (repairFieldsOk ps) stOutOfRange <|
  need (elementFailed d cls i e && (cls != 7 || (attr d GROUP_STATE i != 5 && attr d GROUP_STATE i != 6))) stPrecondition <|
  need (repairOn d cls i).isNone stBusy <|
    let d1 := modFaults (fun x => { x with repairs := x.repairs ++ [⟨callRef c, cls, i, e⟩] }) (addJob c d)
    .accept [] (if cls = 7 then nextBackground (pairOf i) d1 else d1)

/-- R397: an element that passed returns to service. -/
def repaired (r : Repair) (d : Dev) : Dev :=
  if r.cls = 1 then
    let (a, b) := activeCores d
    unfail (elementKey clsDevice 0 r.element) (setCores a b r.element (modFaults (fun x => { x with failedCores := x.failedCores.filter (· != r.element) }) d))
  else if r.cls = 4 then engineBack r.inst r.element (unfail (elementKey clsFacet r.inst r.element) d)
  else if r.cls = 5 then sliceBack r.inst r.element (unfail (elementKey clsPort r.inst r.element) d)
  else
    let l := laneOf r.inst r.element
    becomeSpare l (setAttr LANE_STATE l (if groupRuns d r.inst then 3 else 0) (unfail (elementKey clsLane l r.element) d))

/-- R397: the test of a repair ends; a lane's ends with its second of spare pattern. -/
def repairTestEnd (cls inst : Nat) (pass : Bool) (d : Dev) : Dev :=
  match repairOn d cls inst with
  | none => d
  | some r =>
    if cls = 7 then
      let l := laneOf inst r.element
      if due d tkRepair l ∧ (lane d l).retrain = 3 then endRepair r stOk (repaired r (disarm tkRepair l d)) else d
    else if pass then endRepair r stOk (repaired r d)
    else endRepair r stDegraded d

/-! ### Rows -/

/-- R23: the MARGIN_SAMPLE row. -/
def execMarginSample (regions : List (Nat × Nat × Nat)) (s : State) : Out := onDev (marginSample regions) s

/-- R374: the ADC_SLICE_FAULT row. -/
def execAdcSliceFault (p : Fin 128) (slice : Fin 68) (s : State) : Out := onDev (sliceFault p slice) s

/-- R374: the ADC_SLICE_RECAL_VERDICT row. -/
def execAdcSliceRecalVerdict (p : Fin 128) (slice : Fin 68) (pass : Bool) (s : State) : Out := onDev (sliceVerdict p slice pass) s

/-- R375: the PORT_SOURCE_STALL row. -/
def execPortSourceStall (p : Fin 128) (s : State) : Out := onDev (sourceStall p) s

/-- R375: the SOURCE_STALL_RECHECK row. -/
def execSourceStallRecheck (p : Fin 128) (s : State) : Out :=
  onDev (onExpiry tkSourceStall p fun d => if 64 ≤ (source d p).stalled then stallUnmasked p 0 d else d) s

/-- R382: the VERTEX_DISAGREE row. -/
def execVertexDisagree (s : State) : Out := onDev vertexDisagree s

/-- R393: the LOG_RECORD_WRITE row. -/
def execLogRecordWrite (s : State) : Out := .next (writeRecord s)

/-- R393: the SUMMARY_HOUR row. -/
def execSummaryHour (s : State) : Out :=
  onDev (fun d => if armed d tkSummary 0 ∧ due d tkSummary 0 = false then d else summaryHour (arm tkSummary 0 (3600 * nsPerS) d)) s

/-- R396: the FAULT_LOG row. -/
def execFaultLog (r : Req) (s : State) : Out := issueOut 0xB0 bodyFaultLog r s

/-- R397: the REPAIR row. -/
def execRepair (r : Req) (s : State) : Out := issueOut 0xB1 bodyRepair r s

/-- R397: the REPAIR_TEST_END row. -/
def execRepairTestEnd (cls inst : Nat) (pass : Bool) (s : State) : Out := onDev (repairTestEnd cls inst pass) s

/-- R396: the FAULT_LOG_ERASE_END row; in a brownout the erase waits (R391). -/
def execFaultLogEraseEnd (s : State) : Out := .next (if s.dev.brownout.isSome then s else eraseEnd s)

/-- R391: the SUPPLY_LOW row. -/
def execSupplyLow (rail : Fin 6) (s : State) : Out := onDev (supplyLow rail) s

end Sys2Proof.Machine
end

