-- ==== Sys2Proof/Machine/Cal.lean ====
section
/-! DEFINITION. Machine/Cal.lean: calibration: references and tracking (R440 to R448), CAL_RUN and CAL_REPORT (R449 to R452), and the
store (R453 to R458). -/

namespace Sys2Proof.Machine

/-! ### Tracking (R442 to R448) -/

/-- R443: items with a cover. -/
def calCovered (i : Nat) : Bool := let k := calKind i; k == 0 || k == 1 || k == 3 || k == 5 || k == 7 || k == 8 || k == 9

/-- R444: an item without cover can be measured in the present state of its port or pair. -/
def calMeasurable (d : Dev) (i : Nat) : Bool :=
  let k := calKind i
  if k = 2 ∨ k = 4 then let st := stateOf d (i % 256); st != psNegotiate && st != psDormant && st != psLegacy
  else if k = 6 then attr d GROUP_STATE (i % 256) != 5
  else true

/-- R445: whether a correction of an item is applied at once. -/
def calAtOnce (d : Dev) (i : Nat) : Bool :=
  let k := calKind i
  if k ≤ 4 then let st := stateOf d (i % 256); st != psTrain && st != psCarry && st != psQuiet && st != psLegacy
  else if k = 6 ∨ k = 7 then let st := attr d GROUP_STATE (i % 256); st != 2 && st != 3
  else decide (k ≠ 9) || d.phase != .ready

/-- R445: the interval between steps of a pending correction, ns. -/
def calStepNs (d : Dev) (i : Nat) : Nat :=
  let k := calKind i
  if k ≤ 4 then 256 * attr d PRISM_SYMBOL_PERIOD (prismOf (i % 256)) else if k = 9 then nsPerMs else 48276

/-- R448: an item at its limit. -/
def calLimit (d : Dev) (i : Nat) : Bool := decide (attr d CAL_RANGE_LEFT i < 10) || (calSparesReset i != 0 && calSpares d i == 0)

/-- R448: CAL_LIMIT, once. -/
def checkLimit (i : Nat) (d : Dev) : Dev :=
  if calLimit d i && !(calItem d i).limited then
    raise clsCal i evCalLimit (256 * attr d CAL_RANGE_LEFT i + calSpares d i) (modItem i (fun x => { x with limited := true })
      (if d.phase = .calibrate then startFlag 4 d else d))
  else d

/-- R446: a run of an item is counted. -/
def countRun (i : Nat) (d : Dev) : Dev :=
  checkLimit i (endMeasure i (setAttr CAL_LAST_RUN i d.devTime (bump CAL_RUN_COUNT i 1
    (modItem i (fun x => { x with fromStore := false, atDefault := false, overdue := false, ranAt := d.elapsed }) d))))

/-- R443: an element that cannot meet its criterion: a slice is handled by R374, another counts against CAL.SPARES. -/
def leaveOut (i element : Nat) (d : Dev) : Dev :=
  if calKind i = 0 then sliceFault (i % 256) element d else setAttr CAL_SPARES i (attr d CAL_SPARES i - 1) d

/-- R445: a correction of `n` LSBs of an item in service. -/
def correct (i : Nat) (n : Int) (d : Dev) : Dev :=
  if calAtOnce d i then setAttrInt CAL_PENDING i 0 (modItem i (fun x => { x with trim := x.trim + n }) d)
  else arm tkCalRate i (calStepNs d i) (setAttrInt CAL_PENDING i n d)

/-- R209, R210: the resources that a tracking measurement of an item claims in DOWN and LISTEN, where it claims any: the port, and
whether the transmitter is one of them. -/
def trackingClaim (d : Dev) (i : Nat) : Option (Nat × Bool) :=
  match calClaims i with
  | some (p, tx) => if stateOf d p = psDown ∨ stateOf d p = psListen then some (p, tx) else none
  | none => none

/-- R210: no claimant of rank 1 or 2 holds what a tracking measurement of an item claims. -/
def claimFree (d : Dev) (i : Nat) : Bool :=
  match trackingClaim d i with
  | some (p, tx) => !claimHeld (captureHolder d p) && !(tx && claimHeld (txHolder d p))
  | none => true

/-- R209, R462: what a measurement of an item claims is taken; a slice of the capture section stops. -/
def takeClaim (i : Nat) (d : Dev) : Dev :=
  match trackingClaim d i with
  | some (p, tx) => let d1 := setCapture p holdCal (stopSlice (0x100 + p) d); if tx then setTx p holdCal d1 else d1
  | none => d

/-- R441, R442, R462: tracking may take up a measurement of an item. -/
def calTracks (d : Dev) (i : Nat) : Bool :=
  calInstance i && attr d DOMAIN_STATE 192 == 0 && ((calDomains i).all fun k => attr d DOMAIN_STATE k == 0) && !calHeld d i
    && calMeasurable d i && claimFree d i && !sliceRegion d 0x500 && d.brownout.isNone
    && !(d.cal.runs.any fun r => r.left.any fun o => 256 * r.kind + o == i)

/-- R443, R444: a measurement of an element ends and its result is taken up; until the item's last one the measurement of the item goes
on, with its STALE (R442) and its claims (R209). -/
def takeMeasurement (i element : Nat) (deviation : Int) (range : Nat) (usable last : Bool) (d : Dev) : Dev :=
  let d1 := setAttr CAL_RANGE_LEFT i range (setAttrInt CAL_DEVIATION i deviation d)
  let d2 :=
    if calCovered i then
      if usable then modItem i (fun x => { x with out := some element }) d1 else leaveOut i element d1
    else correct i (-deviation) d1
  if last then countRun i d2 else checkLimit i (takeClaim i (setAttr CAL_STALE i 1 d2))

/-- R528: step 6 is over once every item to be measured has been. -/
def afterCalibrate (d : Dev) : Dev :=
  if d.phase ≠ .calibrate ∨ attr d CAL_RUN_COUNT 0x0A00 < 16 ∨ owedItems d [0, 1, 2, 3, 4, 5, 6, 7, 8, 9] ≠ [] then d
  else
    let missing := [0, 1, 2].any fun r => !refPresent d r
    let d1 := if missing then startFlag 4 (startFlag 3 d) else d
    if refPresent d 2 then trainInner { d1 with phase := .train } else beginSelfTest { d1 with startOwed := true, phase := .train }

/-- R528: in step 6 a part is measured only once the references have been; the other rows of tracking start at READY. -/
def calPhaseOk (d : Dev) : Bool := d.phase == .ready || (d.phase == .calibrate && decide (16 ≤ attr d CAL_RUN_COUNT 0x0A00))

/-- R443: a corrected element goes back into service at its boundary, or does not meet the criterion. -/
def swapElement (i element replaced : Nat) (within : Bool) (d : Dev) : Dev :=
  if (calItem d i).out ≠ some element ∨ calHeld d i = true ∨ d.brownout.isSome = true then d
  else if within = false then leaveOut i element (modItem i (fun x => { x with out := none }) d)
  else
    let d1 := modItem i (fun x => { x with out := none, resting := some replaced }) d
    if calKind i = 0 then
      let p := i % 256
      if sliceSpare d1 p element && sliceActive d1 p replaced then refreshSlices p (setSlice p element 3 (setSlice p replaced 4 d1)) else d1
    else d1

/-- R445: one LSB of a pending correction; none in a brownout (R391). -/
def correctionStep (i : Nat) (d : Dev) : Dev :=
  let n := attrInt d CAL_PENDING i
  if n = 0 ∨ calHeld d i = true ∨ d.brownout.isSome = true ∨ attr d DOMAIN_STATE 192 ≠ 0 ∨ ((calDomains i).any fun k => attr d DOMAIN_STATE k != 0) = true then d
  else
    let step : Int := if 0 < n then 1 else -1
    let d1 := setAttrInt CAL_PENDING i (n - step) (modItem i (fun x => { x with trim := x.trim + step }) d)
    if n = step then disarm tkCalRate i d1 else arm tkCalRate i (calStepNs d i) d1

/-- R447: CAL_OVERDUE, once until the next run. -/
def overdueItem (i : Nat) (d : Dev) : Dev :=
  let x := calItem d i
  let late := d.elapsed - x.ranAt
  if calInstance i && !x.overdue && decide (4 * attr d CAL_TRACK_PERIOD 0x0A00 * nsPerMs ≤ late + 1) && calMeasurable d i && !calHeld d i
      && (calDomains i).all (fun k => attr d DOMAIN_STATE k == 0) && isReady d then
    raise clsCal i evCalOverdue (min 0xFFFF (late / nsPerMs)) (modItem i (fun y => { y with overdue := true }) d)
  else d

/-! ### References (R440, R441) -/

/-- R440: a measurement inside its window. -/
def refInside (r : Nat) (v : Int) : Bool :=
  if r = 0 then decide (11760 ≤ v) && decide (v ≤ 12240) else if r = 1 then decide (19600 ≤ v) && decide (v ≤ 20400)
  else decide (-200000 ≤ v) && decide (v ≤ 200000)

/-- R441, R451: a reference is lost: runs of items traced to it end, and elements out for measurement wait. -/
def loseReference (r : Nat) (d : Dev) : Dev :=
  let v := attr d CAL_REF_STATUS 0x0A00
  abortCalRuns (fun x _ => (tracedTo x.kind).contains r) endReference
    (raise clsCal 0x0A00 evRefLost r (setAttr CAL_REF_STATUS 0x0A00 (withBit v r false) d))

/-- R441, R536: a reference is present again. -/
def restoreReference (r : Nat) (d : Dev) : Dev :=
  let v := attr d CAL_REF_STATUS 0x0A00
  let d1 := setAttr CAL_REF_STATUS 0x0A00 (withBit v r true) d
  let d2 := if refLost d r then raise clsCal 0x0A00 evRefRestored r d1 else d1
  if r = 2 ∧ d.startOwed = true ∧ d.phase = .ready then trainInner { d2 with startOwed := false, resuming := true } else d2

/-- R440: one measurement of a reference. -/
def measureReference (r : Nat) (v : Int) (d : Dev) : Dev :=
  let c := d.cal
  if refInside r v then
    let n := min 16 (c.inside.getD r 0 + 1)
    let d1 := modCal (fun x => { x with inside := x.inside.set r n }) d
    let d2 := if n = 16 ∧ refPresent d r = false then restoreReference r d1 else d1
    modCal (fun x => { x with outside := if n = 16 ∨ x.outside.getD r 0 < 4 then x.outside.set r 0 else x.outside }) d2
  else
    let n := min 4 (c.outside.getD r 0 + 1)
    let d1 := modCal (fun x => { x with inside := x.inside.set r 0, outside := x.outside.set r n }) d
    if n = 4 ∧ refLost d r = false then loseReference r d1 else d1

/-- R440: the three references measured. -/
def measureReferences (vref rext : Nat) (refclk : Int) (d : Dev) : Dev :=
  if (d.phase ≠ .ready ∧ d.phase ≠ .calibrate) ∨ attr d DOMAIN_STATE 192 ≠ 0 ∨ sliceRegion d 0x500 = true ∨ d.brownout.isSome = true then d
  else
    let d1 := setAttr CAL_VREF_MEASURED 0x0A00 (saturateU 16 vref) (setAttr CAL_REXT_MEASURED 0x0A00 (saturateU 16 rext)
      (setAttrInt CAL_REFCLK_OFFSET 0x0A00 refclk d))
    afterCalibrate (countRun 0x0A00 (measureReference 2 refclk (measureReference 1 rext (measureReference 0 vref d1))))

/-! ### CAL_RUN (R449 to R451) and CAL_REPORT (R452) -/

/-- R450: why an item cannot be run: 0 where it can. -/
def calObstacle (d : Dev) (energy : List (Fin 128)) (kind o : Nat) (check : Bool) : Nat :=
  let i := 256 * kind + o
  let on := (calDomains i).all (domainOn d)
  if check then if on then (if refsPresent d i then 0 else 4) else 1
  else if kind ≤ 4 then
    if stateOf d o ≠ psDown ∨ on = false then 1 else if energy.any fun p => p.val == o then 2 else if refsPresent d i then 0 else 4
  else if kind = 5 then
    if on = false ∨ ((portsOfPrism o).any fun p => stateOf d p != psDown && stateOf d p != psDormant) = true then 1
    else if refsPresent d i then 0 else 4
  else if kind = 6 ∨ kind = 7 ∨ kind = 8 then
    let pair := if kind = 8 then o else pairOf o
    if on = false ∨ attr d GROUP_STATE (pairTx pair) ≠ 0 ∨ attr d GROUP_STATE (pairRx pair) ≠ 0 then 3 else if refsPresent d i then 0 else 4
  else if refsPresent d i then 0 else 4

/-- R449: a claim held at rank 1 or 2 that a run of an item meets, with the result of R210. -/
def calConflict (d : Dev) (kind o : Nat) : Option (List Byte) :=
  if 4 < kind ∨ (stateOf d o ≠ psDown ∧ stateOf d o ≠ psListen) then none
  else if 1 ≤ kind ∧ claimHeld (txHolder d o) = true then some (claimConflict d o 0 (txHolder d o))
  else if claimHeld (captureHolder d o) then some (claimConflict d o 1 (captureHolder d o))
  else none

/-- R442, R209: the measurement of the next owner of a run begins. -/
def beginOwner (r : CalRun) (d : Dev) : Dev :=
  match r.left with
  | [] => d
  | o :: _ =>
    let i := 256 * r.kind + o
    takeClaim i (setAttr CAL_STALE i 1 d)

/-- R449: CAL_RUN. -/
def bodyCalRun (energy : List (Fin 128)) : Body := fun _ c d =>
  let ps := c.params
  let kind := byteAt ps 0
  let check := byteAt ps 1 == 1
  let owner := leAt ps 2 2
  let os := if owner = 0xFFFF then kindOwners kind else [owner]
  need (decide (kind ≤ 10) && decide (byteAt ps 1 ≤ 1) && reservedZero ps 4 4
      && (if kind = 10 then owner == 0 else owner == 0xFFFF || (kindOwners kind).contains owner)) stOutOfRange <|
  need (kind != 9 || check || attr d DEVICE_LC_STATE 0 == 0 || attr d DEVICE_LC_STATE 0 == 2) stLifecycle <|
  need (domainOn d 192) stPrecondition <|
    match os.find? fun o => calObstacle d energy kind o check != 0 with
    | some o => .refuse stPrecondition (toLE o 2 ++ [byteOf (calObstacle d energy kind o check), 0#8])
    | none =>
      match os.findSome? (calConflict d kind) with
      | some r => .refuse stConflict r
      | none =>
        need (!(d.cal.runs.any fun r => r.kind == kind && r.left.any os.contains)) stConflict <|
        need (decide (d.cal.runs.length < 2)) stBusy <|
          if sliceRegion d 0x500 then .defer
          else
            let r : CalRun := ⟨callRef c, kind, check, 256 * kind + os.headD 0, os, [], [], false⟩
            .accept [] (beginOwner r (modCal (fun x => { x with runs := x.runs ++ [r] }) (addJob c d)))

/-- R451: the measurement of an owner of a run ends; the next one begins, or the run is over. In a brownout no measurement ends (R391). -/
def ownerEnd (i : Nat) (deviation : Int) (range lost : Nat) (sliceFailed : Bool) (d : Dev) : Dev :=
  match d.cal.runs.find? fun r => r.left.head? == some (i % 256) && r.kind == calKind i with
  | none => d
  | some r =>
    if d.brownout.isSome then d else
    let d1 := setAttrInt CAL_DEVIATION i deviation d
    let d2 :=
      if r.check then endMeasure i d1
      else
        countRun i (setAttrInt CAL_PENDING i 0 (setAttr CAL_RANGE_LEFT i range (setAttr CAL_SPARES i (attr d CAL_SPARES i - lost)
          (modItem i (fun x => { x with trim := x.trim - deviation }) d1))))
    let bad := sliceFailed || calLimit d2 i
    let worse := bad || calHeld d2 i
    let r' := { r with left := r.left.tail, finished := r.finished ++ [i % 256], degraded := r.degraded || bad, worst := if worse then r.worst ++ [i % 256] else r.worst }
    let d3 := modCal (fun x => { x with runs := x.runs.map fun y => if y.job = r.job then r' else y }) d2
    if r'.left.isEmpty then finishCalRun r' (if r'.degraded then stDegraded else stOk) 0 d3 else beginOwner r' d3

/-- R452: CAL_REPORT. -/
def bodyCalReport : Body := fun _ c d =>
  let kind := byteAt c.params 0
  let n := byteAt c.params 1
  let first := leAt c.params 2 2
  need (decide (kind ≤ 10) && decide (1 ≤ n) && decide (n ≤ 40) && (List.range n).all fun k => (kindOwners kind).contains (first + k)) stOutOfRange <|
    okResult ([byteOf n, 0#8, 0#8, 0#8] ++ (List.range n).flatMap fun k => calRecord d (256 * kind + first + k)) d

/-! ### The store (R453 to R458) -/

/-- R453: the MRAM offset of a slot: 0 CAL_A, 1 CAL_B, 2 CFG_A, 3 CFG_B. -/
def slotBase (n : Nat) : Nat := 0x200000 + 0x100000 * n

/-- R379: whether a range of device addresses holds a word that cannot be corrected. -/
def badRange (d : Dev) (a n : Nat) : Bool := d.faults.badWords.any fun w => decide (a ≤ w + 15) && decide (w < a + n)

/-- R454: a slot's GENERATION where the slot is valid; a slot that a store is writing is not (R455). -/
def slotGeneration (mem : List Host.Cell) (d : Dev) (n : Nat) : Option Nat :=
  if d.cal.store.any (fun x => x.slot == n) then none else
  let b := slotBase n
  let h := memRead mem b 64
  let len := leAt h 12 4
  if leAt h 0 4 ≠ 0x4C4B5A49 ∨ byteAt h 4 ≠ n / 2 ∨ byteAt h 5 ≠ 1 ∨ leAt h 8 4 = 0 ∨ leAt h 8 4 = 0xFFFFFFFF ∨ 0x100000 < 64 + len then none
  else if badRange d b (64 + len) then none
  else if leAt h 60 4 = crc32c (toLE b 4 ++ h.take 60 ++ memRead mem (b + 64) len) then some (leAt h 8 4)
  else none

/-- R456: the slot of a region (0 calibration, 1 configuration) with the highest valid generation, and that generation. -/
def newestSlot (mem : List Host.Cell) (d : Dev) (region : Nat) : Option (Nat × Nat) :=
  match slotGeneration mem d (2 * region), slotGeneration mem d (2 * region + 1) with
  | some a, some b => if a < b then some (2 * region + 1, b) else some (2 * region, a)
  | some a, none => some (2 * region, a)
  | none, some b => some (2 * region + 1, b)
  | none, none => none

/-- R456, R461: STORE_VALID and the generations in use. -/
def refreshStores (mem : List Host.Cell) (d : Dev) : Dev :=
  let valid := (List.range 4).foldl (fun v n => withBit v n (slotGeneration mem d n).isSome) 0
  let gen := fun r => match newestSlot mem d r with | some x => x.2 | none => 0
  setAttr CAL_STORE_VALID 0x0A00 valid (setAttr CAL_CAL_GEN 0x0A00 (gen 0) (setAttr CAL_CFG_GEN 0x0A00 (gen 1) d))

/-- A list with an entry put in its place by a key. -/
def insertBy (key : Nat) (x : List Byte) : List (Nat × List Byte) → List (Nat × List Byte)
  | [] => [(key, x)]
  | y :: r => if key < y.1 then (key, x) :: y :: r else y :: insertBy key x r

/-- R458: one configuration entry, with its place in the order of class, instance and ID. -/
def configEntry (a : Attr) (i : Nat) (value : List Byte) : Nat × List Byte :=
  ((a.cls * 65536 + i) * 65536 + a.id, [byteOf a.cls, 0#8] ++ toLE i 2 ++ toLE a.id 2 ++ toLE value.length 2 ++ value)

/-- R458: the attribute of a code, where it is RW. -/
def rwAttr (code : Nat) : Option Attr := catalogue.find? fun a => a.code == code && a.acc == .rw

/-- R458: the configuration body: an entry for every RW attribute that differs from its Reset value. -/
def configBody (d : Dev) : List Byte :=
  let vs := d.attrs.filterMap fun x => (rwAttr (x.1 % 2 ^ 24)).map fun a => configEntry a (x.1 / 2 ^ 24) (toLE x.2 (a.width / 8))
  let bs := d.blocks.filterMap fun x => (rwAttr (x.1 % 2 ^ 24)).map fun a => configEntry a (x.1 / 2 ^ 24) x.2
  ((vs ++ bs).foldl (fun l e => insertBy e.1 e.2 l) []).flatMap (·.2)

/-- R454: a slot's contents: header and body. -/
def slotImage (d : Dev) (n gen : Nat) (body : List Byte) : List Byte :=
  let h := toLE 0x4C4B5A49 4 ++ [byteOf (n / 2), 1#8, 0#8, 0#8] ++ toLE gen 4 ++ toLE body.length 4 ++ toLE (d.devTime % 2 ^ 48) 6
    ++ toLE (attr d DEVICE_BOOTS 0) 2 ++ toLE 0 36
  h ++ toLE (crc32c (toLE (slotBase n) 4 ++ h ++ body)) 4 ++ body

/-- R457: CAL_STORE. The body of a calibration slot is one record of 256 bytes per item, in a form the manual does not give: a free
value. -/
def bodyCalStore : Body := fun mem c d =>
  let region := byteAt c.params 0
  need (decide (region ≤ 2) && reservedZero c.params 1 3) stOutOfRange <|
  need (attr d DEVICE_LC_STATE 0 != 3) stLifecycle <|
  need (domainOn d 192 && (region != 0 || [0, 1, 2].all (refPresent d))) stPrecondition <|
  need d.cal.store.isNone stBusy <|
    if sliceRegion d 0x500 then .defer
    else
      let half := min region 1
      let (slot, gen) := match newestSlot mem d half with
        | some (n, g) => (if n % 2 = 0 then 2 * half + 1 else 2 * half, g + 1)
        | none => (2 * half, 1)
      let body := if region = 0 then toLE (freeVal d) (256 * 724) else if region = 1 then configBody d else []
      let x : CalStore := ⟨callRef c, region, slot, gen, slotImage d slot gen body⟩
      .accept [] (refreshStores mem (modCal (fun y => { y with store := some x }) (addJob c (if region = 0 then usedFree d else d))))

/-- R455, R457: a store ends. -/
def storeEnd (good : Bool) (s : State) : State :=
  match s.dev.cal.store with
  | none => s
  | some x =>
    let b := slotBase x.slot
    let n := if good then x.bytes.length else 64
    let mem := memWrite s.mem b (if good then x.bytes else List.replicate 64 0#8)
    let clear := fun (a : Nat) => decide (a + 16 ≤ b) || decide (b + n ≤ a)
    let d1 := modFaults (fun y => { y with badWords := y.badWords.filter clear }) (modCal (fun y => { y with store := none }) s.dev)
    let d2 := refreshStores mem (noteWrite b n d1)
    let d3 := if good then bump CAL_STORES 0x0A00 1 d2 else d2
    let result := [byteOf x.region, byteOf (x.slot % 2), 0#8, 0#8] ++ toLE x.gen 4 ++ toLE (x.bytes.length - 64) 4
    { s with mem := mem, dev := complete x.job clsCal 0x0A00 evCalStoreDone (if good then stOk else stAborted) result d3 }

/-! ### Rows -/

/-- R449: the CAL_RUN row. -/
def execCalRun (r : Req) (energy : List (Fin 128)) (s : State) : Out := issueOut 0x70 (bodyCalRun energy) r s
/-- R457: the CAL_STORE row. -/
def execCalStore (r : Req) (s : State) : Out := issueOut 0x71 bodyCalStore r s
/-- R452: the CAL_REPORT row. -/
def execCalReport (r : Req) (s : State) : Out := issueOut 0x72 bodyCalReport r s
/-- R440: the REFERENCE_MEASUREMENT row. -/
def execReferenceMeasurement (vref rext : Nat) (refclk : Int) (s : State) : Out := onDev (measureReferences vref rext refclk) s
/-- R443: the CAL_MEASUREMENT_END row. -/
def execCalMeasurementEnd (item element : Nat) (deviation : Int) (range : Fin 101) (usable last : Bool) (s : State) : Out :=
  onDev (fun d => if calTracks d item && calPhaseOk d && decide (item ≠ 0x0A00) then afterInnerRun (afterCalibrate (takeMeasurement item element deviation range usable last d)) else d) s
where
  /-- R536: an item left undone for want of REFCLK may be the last step to run. -/
  afterInnerRun (d : Dev) : Dev := if d.resuming then afterInner d else d
/-- R443: the CAL_ELEMENT_SWAP row. -/
def execCalElementSwap (item element replaced : Nat) (within : Bool) (s : State) : Out := onDev (swapElement item element replaced within) s
/-- R445: the CAL_CORRECTION_STEP row. -/
def execCalCorrectionStep (item : Nat) (s : State) : Out :=
  onDev (fun d => if armed d tkCalRate item && !due d tkCalRate item then d else correctionStep item d) s
/-- R447: the CAL_OVERDUE_TIMER row. -/
def execCalOverdueTimer (item : Nat) (s : State) : Out := onDev (overdueItem item) s
/-- R451: the CAL_RUN_OWNER_END row. -/
def execCalRunOwnerEnd (item : Nat) (deviation : Int) (range : Fin 101) (lost : Nat) (sliceFailed : Bool) (s : State) : Out :=
  onDev (ownerEnd item deviation range lost sliceFailed) s
/-- R377: the SCRUB_STEP row; a calibration or configuration slot that has become unusable leaves the other one in use (R456). -/
def execScrubStep (die : Fin 3) (bank : Fin 256) (word : Nat) (found : ScrubFind) (last : Bool) (s : State) : Out :=
  let d := scrubStep die bank word found last s.dev
  .next { s with dev := if found = .uncorrectable .slot ∧ isReady d = true then refreshStores s.mem d else d }
/-- R457: the CAL_STORE_END row. -/
def execCalStoreEnd (good : Bool) (s : State) : Out := .next (if s.dev.brownout.isSome then s else storeEnd good s)
/-- R451: the CAL_PARTNER_ENERGY row. -/
def execCalPartnerEnergy (p : Fin 128) (s : State) : Out := onDev (abortFullRuns (portItem p) endPartnerEnergy) s

end Sys2Proof.Machine
end

