-- ==== Sys2Proof/Machine/Check.lean ====
section
/-! DEFINITION. Machine/Check.lean: check units and scans of the device address space (R481 to R491). -/

namespace Sys2Proof.Machine

/-! ### The address space (R483) -/

/-- R483: whether a range lies wholly inside one row of the address map, touching no unmapped address. -/
def rangeMapped (a n : Nat) : Bool :=
  let inside := fun base size => decide (base ≤ a) && decide (a + n ≤ base + size)
  inside 0 0x800000 || inside 0x10000000 0x1800000 || inside 0x20000000 0x600000 || inside 0x21000000 0x600000 || inside 0x40000000 0x80000
    || (decide (0x30000000 ≤ a) && decide (a < 0x30000000 + 0x10000 * 195)
        && inside (0x30000000 + 0x10000 * ((a - 0x30000000) / 0x10000)) (min 0x10000 (Config.bankBytes ((a - 0x30000000) / 0x10000))))

/-- R483: the domains that hold a mapped range, the axis domain left out. -/
def rangeDomains (a n : Nat) : List Nat :=
  let span := fun base unit first => (List.range ((a + n - 1 - base) / unit + 1 - (a - base) / unit)).map fun k => first + (a - base) / unit + k
  if a < 0x800000 ∨ 0x40000000 ≤ a then []
  else if a < 0x20000000 then span 0x10000000 0x600000 188
  else if a < 0x21000000 then span 0x20000000 (4 * 0x18000) 128
  else if a < 0x30000000 then span 0x21000000 (4 * 0x18000) 144
  else [(a - 0x30000000) / 0x10000]

/-- R487: the domains of a scan's ranges. -/
def scanDomains (ps : List Byte) : List Nat :=
  rangeDomains (scanStart ps) (scanLength ps) ++ (if byteAt ps 1 = 3 then rangeDomains (scanPartner ps) (scanLength ps) else [])

/-! ### CHECK_SCAN (R487) -/

/-- R487: the parameters beside START, LENGTH and PARTNER. -/
def scanMode (ps : List Byte) : Nat := byteAt ps 1
def scanFold (ps : List Byte) : Nat := byteAt ps 2
def fieldAt (ps : List Byte) : Nat := leAt ps 16 4
def scanExpected (ps : List Byte) : Nat := leAt ps 24 8

/-- R481: the parameters of a unit. -/
def unitParams (d : Dev) (u : Nat) : CrcParams :=
  let f := attr d CHECK_FLAGS u
  ⟨attr d CHECK_WIDTH u, attr d CHECK_POLY u, attr d CHECK_INIT u, bitOf f 0, bitOf f 1, bitOf f 2⟩

/-- R482: unit parameters that may be used together. -/
def unitOk (p : CrcParams) : Bool := p.poly % 2 == 1 && decide (p.poly < 2 ^ p.width) && decide (p.init < 2 ^ p.width)

/-- R487: bytes of the check field. -/
def fieldBytes (d : Dev) (u : Nat) : Nat := ceilDiv (attr d CHECK_WIDTH u) 8

/-- R487: the fields of CHECK_SCAN in range. -/
def scanFieldsOk (d : Dev) (ps : List Byte) : Bool :=
  let u := byteAt ps 0
  let mode := scanMode ps
  let fold := scanFold ps
  let start := scanStart ps
  let len := scanLength ps
  let partner := scanPartner ps
  let inField := mode == 2 || mode == 3
  decide (u ≤ 3) && decide (mode ≤ 3) && decide (fold ≤ 4) && reservedZero ps 3 1
    && start % 16 == 0 && len % 16 == 0 && decide (16 ≤ len) && decide (len ≤ 16777216) && unitOk (unitParams d u) && rangeMapped start len
    && (fold == 3 || fold == 4 || leAt ps 12 4 == 0)
    && (if inField then decide (fieldAt ps + fieldBytes d u ≤ len) else fieldAt ps == 0)
    && (if mode = 3 then partner % 16 == 0 && rangeMapped partner len && (decide (start + len ≤ partner) || decide (partner + len ≤ start))
          && fold != 1 && fold != 2
        else partner == 0)
    && (if mode = 1 then decide (scanExpected ps < 2 ^ attr d CHECK_WIDTH u) else scanExpected ps == 0)

/-- R487: CHECK_SCAN. -/
def bodyCheckScan : Body := fun _ c d =>
  let ps := c.params
  let die := scanDie (scanStart ps)
  need (scanFieldsOk d ps) stOutOfRange <|
  need ((scanDomains ps).all (domainOn d)) stPrecondition <|
  need (!(d.scans.any fun r => r.unit == byteAt ps 0 || scanDie (scanStart r.params) == die)) stBusy <|
    if sliceRegion d (0x400 + die) then .defer
    else .accept [] { addJob c d with scans := d.scans ++ [⟨callRef c, byteAt ps 0, ps, false⟩] }

/-- R491: CHECK_RESULT. -/
def bodyCheckResult : Body := fun _ c d =>
  let u := byteAt c.params 0
  need (decide (u ≤ 3) && reservedZero c.params 1 3) stOutOfRange <|
    okResult ((block d CHECK_RESULT u).set 0 (byteOf u)) d

/-! ### The scan (R485 to R490) -/

/-- R486: a range as the engine reads it: words that cannot be corrected are 16 zero bytes. -/
def readRange (s : State) (a n : Nat) (data : List Byte) : List (List Byte) :=
  let raw := if a < 0x800000 then memRead s.mem a n else fitBytes data n
  (List.range (n / 16)).map fun i => if badRange s.dev (a + 16 * i) 16 then List.replicate 16 0#8 else (raw.drop (16 * i)).take 16

/-- R485: the bytes placed before word `i` of a range. -/
def foldBytes (ps : List Byte) (base i : Nat) : List Byte :=
  match scanFold ps with
  | 1 => if i = 0 then toLE base 4 else []
  | 2 => toLE (base + 16 * i) 4
  | 3 => if i = 0 then toLE (leAt ps 12 4) 4 else []
  | 4 => toLE ((leAt ps 12 4 + i) % 2 ^ 32) 4
  | _ => []

/-- The bytes of word `i` outside the check field. -/
def outsideField (at_ n i : Nat) (w : List Byte) : List Byte :=
  (List.range w.length).filterMap fun k => if at_ ≤ 16 * i + k ∧ 16 * i + k < at_ + n then none else w[k]?

/-- R485: the stream of a range; `n` bytes of check field at `at_` are left out. -/
def scanStream (ps : List Byte) (base at_ n : Nat) : Nat → List (List Byte) → List Byte
  | _, [] => []
  | i, w :: r => foldBytes ps base i ++ outsideField at_ n i w ++ scanStream ps base at_ n (i + 1) r

/-- R490: the record of a scan. -/
def scanRecord (d : Dev) (ps : List Byte) (outcome flags value stored partner corrected : Nat) : List Byte :=
  [byteOf (byteAt ps 0), byteOf (scanMode ps), byteOf outcome, byteOf flags] ++ toLE (scanStart ps) 4 ++ toLE (scanLength ps) 4 ++ toLE value 8
    ++ toLE stored 8 ++ toLE partner 8 ++ toLE corrected 4 ++ toLE (d.devTime % 2 ^ 48) 6 ++ toLE 0 2

/-- R490: a scan is over: its record, CHECK_DONE and its engine free again. -/
def finishScanRun (r : CheckRun) (status : Nat) (rec_ : List Byte) (d : Dev) : Dev :=
  complete r.job clsCheck r.unit evCheckDone status rec_
    (setBlock CHECK_RESULT r.unit rec_ { d with scans := d.scans.filter fun x => !(x.job == r.job) })

/-- R490: scans that read a domain being prepared end with ABORTED. -/
def abortScans (domain : Nat) (d : Dev) : Dev :=
  (d.scans.filter fun r => (scanDomains r.params).contains domain).foldl
    (fun e r => finishScanRun r stAborted (scanRecord e r.params 0 0 0 0 0 0) e) d

/-- R488, R489: OUTCOME, and whether the check field is to be repaired. -/
def scanOutcome (mode value expected : Nat) (bad bad2 : Bool) (s1 c2 s2 : Nat) (sameData : Bool) : Nat :=
  if mode = 3 then
    if value = s1 ∧ bad = false then 2 else if c2 ≠ s2 ∨ bad2 = true then 7 else if sameData then 6 else 5
  else if bad then 4
  else if mode = 0 then 1
  else if mode = 1 then (if value = expected then 2 else 3)
  else if value = s1 then 2 else 3

/-- R484, R488, R489: a scan ends; the words it corrected count by R377. -/
def scanEnd (unit : Nat) (data partner : List Byte) (corrected : Nat) (written readBack : Bool) (s : State) : State :=
  match s.dev.scans.find? fun r => r.unit == unit with
  | none => s
  | some r =>
    let d := s.dev
    let ps := r.params
    let mode := scanMode ps
    let p := unitParams d unit
    let n := if mode = 2 ∨ mode = 3 then fieldBytes d unit else 0
    let at_ := fieldAt ps
    let a := scanStart ps
    let b := scanPartner ps
    let len := scanLength ps
    let w1 := readRange s a len data
    let w2 := if mode = 3 then readRange s b len partner else []
    let field := fun (ws : List (List Byte)) => ofLE ((ws.flatten.drop at_).take n)
    let c1 := crcOf p (scanStream ps a at_ n 0 w1)
    let c2 := if mode = 3 then crcOf p (scanStream ps b at_ n 0 w2) else 0
    let s1 := if mode = 1 then scanExpected ps else field w1
    let s2 := field w2
    let bad := badRange d a len
    let bad2 := mode == 3 && badRange d b len
    let same := !bad && !bad2 && ((outsideAll at_ n 0 w1) == (outsideAll at_ n 0 w2))
    let outcome := scanOutcome mode c1 (scanExpected ps) bad bad2 s1 c2 s2 same
    let changed := r.changed || (written && decide (0x800000 ≤ a))
    let repair := outcome == 6 && !changed
    let repaired := repair && readBack
    let flags := bitNat changed + 2 * bitNat (bad || bad2) + 4 * bitNat repaired + 8 * bitNat (outcome == 2 && mode == 3 && (c2 != s2 || bad2)) + 16 * bitNat (decide (0 < corrected))
    let rec_ := scanRecord d ps outcome flags c1 s1 c2 corrected
    let d1 := bump CHECK_SCANS unit 1 (countCorrected (scanDie a) corrected (if repaired then bump CHECK_REPAIRS unit 1 d else d))
    let d2 := if repair then noteWrite (a + at_) n d1 else d1
    { s with dev := finishScanRun r stOk rec_ d2, mem := if repair && decide (a < 0x800000) then memWrite s.mem (a + at_) (toLE s2 n) else s.mem }
where
  /-- Every byte outside the check field. -/
  outsideAll (at_ n : Nat) : Nat → List (List Byte) → List Byte
    | _, [] => []
    | i, w :: r => outsideField at_ n i w ++ outsideAll at_ n (i + 1) r

/-! ### Rows -/

/-- R487: the CHECK_SCAN row. -/
def execCheckScan (r : Req) (s : State) : Out := issueOut 0x88 bodyCheckScan r s
/-- R491: the CHECK_RESULT row. -/
def execCheckResult (r : Req) (s : State) : Out := issueOut 0x89 bodyCheckResult r s
/-- R488: the CHECK_SCAN_END row; during a brownout the end of a scan waits (R391, R489). -/
def execCheckScanEnd (unit : Fin 4) (data partner : List Byte) (corrected : Nat) (written readBack : Bool) (s : State) : Out :=
  .next (if s.dev.brownout.isSome then s else scanEnd unit data partner corrected written readBack s)

end Sys2Proof.Machine
end

