-- ==== Sys2Proof/Machine/Svc.lean ====
section
/-! DEFINITION. Machine/Svc.lean: receptions, acknowledgements, timers and commands of the service channel (R180 to R198). -/

namespace Sys2Proof.Machine

/-! ### Training messages received (R152, R419) -/

/-- R152, R419: a complete training message. -/
def trainingMessage (p : Nat) (msg : List Byte) (d : Dev) : Dev :=
  match byteAt msg 0 with
  | 0x01 => echoReadyA p d
  | 0x02 => echoReadyB p d
  | 0x03 => advanceReceived p (leAt msg 1 4) d
  | 0x04 => lockedReceived p d
  | 0x05 => if byteAt msg 1 ≤ 2 ∧ byteAt msg 2 ≤ 2 then probeDone p (byteAt msg 1) (byteAt msg 2) d else d
  | 0x06 => tablesReceived p msg d
  | 0x07 => tablesOk p d
  | 0x08 => if stateOf d p = psTrain ∧ attr d PORT_TRAIN_PHASE p = 4 then phaseFail p 7 d else d
  | 0x09 => recastGo p (byteAt msg 1) d
  | 0x0A => recastOk p d
  | 0x0B => swapReqReceived p msg d
  | 0x0C => swapReply p (byteAt msg 1) d
  | 0x0D => if byteAt msg 2 ≤ 3 then swapAt p (byteAt msg 1) (byteAt msg 2) d else d
  | 0x0E => retrainReceived p d
  | 0x0F => linkStop p d
  | 0x10 => quietRequest p (byteAt msg 1) d
  | 0x11 => quietReply p (byteAt msg 1) d
  | 0x12 => quietAt p (byteAt msg 1) d
  | _ => d

/-! ### Acknowledgements (R185, R186) -/

/-- What an acknowledged training message does: the end of CHANNEL_PROBE (R154), of a graceful stop (R138). -/
def trainingAcked (p : Nat) (msg : List Byte) (d : Dev) : Dev :=
  match byteAt msg 0 with
  | 0x05 => probeAcked p d
  | 0x0F => if (port d p).stopSent then changeState p psDown causeHostStop d else d
  | _ => d

/-- The list with its first element that meets a test changed or, where the change answers none, taken out. -/
def updateFirst {α : Type} (t : α → Bool) (f : α → Option α) : List α → List α
  | [] => []
  | x :: r => if t x then (match f x with | some y => y :: r | none => r) else x :: updateFirst t f r

/-- R185: the fragment to a node is acknowledged: SEQ flips, and a message whose last fragment it was is done. -/
def fragmentAcked (p n : Nat) (d : Dev) : Dev :=
  match (peer (svc d p) n).out with
  | none => d
  | some f =>
    let d1 := disarm tkResend (8 * p + n) (modPeer p n (fun x => { x with out := none, txSeq := !x.txSeq }) d)
    let step := fun (m : SvcMsg) => if f.last then none else some { m with acked := m.acked + f.bytes.length }
    if f.tclass = 0 then
      let m := (svc d p).training.headD { node := 0, tclass := 0, id := 0, bytes := [], acked := 0, job := none }
      let d2 := modSvc p (fun x => { x with training := updateFirst (fun _ => true) step x.training }) d1
      if f.last then trainingAcked p m.bytes d2 else d2
    else
      let done := (svc d p).queue.find? fun m => m.node == n
      let d2 := refreshSvc p (modSvc p (fun x => { x with queue := updateFirst (fun m => m.node == n) step x.queue }) d1)
      match done with
      | some m => if f.last then svcDone p m stOk d2 else d2
      | none => d2

/-- R185: the ACK field of a header. -/
def takeAck (p n ack : Nat) (d : Dev) : Dev :=
  let x := peer (svc d p) n
  match x.out with
  | some f => if decide (1 ≤ f.tries) && ((ack == 2 && !x.txSeq) || (ack == 3 && x.txSeq)) then fragmentAcked p n d else d
  | none => d

/-- R153, R186: the third sending of a fragment went unacknowledged. DESIGN CHOICE (assumption 113): in CARRY an unacknowledged SWAP_REQ,
SWAP_REPLY or SWAP_AT is dropped; the swap then ends by its time limit. -/
def fragmentFailed (p n : Nat) (f : SvcFragment) (d : Dev) : Dev :=
  let d1 := modPeer p n (fun x => { x with out := none }) d
  if f.tclass = 0 then
    let code := match (svc d p).training with | m :: _ => byteAt m.bytes 0 | [] => 0
    let d2 := modSvc p (fun x => { x with training := x.training.drop 1 }) d1
    if code = 0x0F ∧ (port d p).stopSent then changeState p psDown causeHostStop d2
    else if stateOf d p = psTrain then partnerLost p causePartnerLost d2
    else if 0x10 ≤ code ∧ code ≤ 0x12 then failQuiet p 2 d2
    else d2
  else
    match (svc d p).queue.find? fun m => m.node == n with
    | some m => svcDone p m stTimeout (refreshSvc p (modSvc p (fun x => { x with queue := updateFirst (fun y => y.node == n) (fun _ => none) x.queue }) d1))
    | none => d1

/-- R186: 400 us after a sending. In QUIET and DORMANT the fragment is held for the return to CARRY. -/
def fragmentResend (p n : Nat) (d : Dev) : Dev :=
  match (peer (svc d p) n).out with
  | none => d
  | some f =>
    if 3 ≤ f.tries then svcKick p (fragmentFailed p n f d)
    else if svcRole d p = 3 then modPeer p n (fun x => { x with out := some { f with due := true } }) d
    else svcKick p (bump SVC_RESENDS p 1 (modPeer p n (fun x => { x with out := some { f with due := true } }) d))

/-! ### Receptions (R192 to R195) -/

/-- Whether the port's service channel listens. -/
def svcListens (d : Dev) (p : Nat) : Bool := svcRole d p != 0 && !(svc d p).blanked

/-- R192, R193: a preamble, with its correlation in 1/1000, its power in dBm and its SNR in 0.5 dB units. DESIGN CHOICE (assumption 113): a
further weaker detection replaces the one pending, and a capture leaves the pending one. -/
def preamble (p corr : Nat) (power : Int) (snr : Nat) (d : Dev) : Dev :=
  let new : SvcReception := { power := power, snr := snr, header := none }
  if svcListens d p = false ∨ corr < 600 then d
  else
    match (svc d p).rx with
    | none => disarm tkGrantLapse p (modSvc p (fun x => { x with rx := some new }) d)
    | some r =>
      if r.power + 6 ≤ power then bump SVC_CAPTURES p 1 (modSvc p (fun x => { x with rx := some new }) d)
      else modSvc p (fun x => { x with pendingRx := some { new with recovered := true } }) d

/-- The end of a reception: the channel is free for the next burst. -/
def receptionOver (p : Nat) (d : Dev) : Dev :=
  svcKick p (disarm tkGrantLapse p (modSvc p (fun x => { x with rx := none, pendingRx := none, granted := none, heardAt := d.elapsed + 1 }) d))

/-- R176, R179: a burst from the other side: a node's where Izrath is the controller, the controller's where it is node 0. -/
def fromPeer (d : Dev) (p : Nat) (h : Head) : Bool := h.ctrl == actsAsPartner d p

/-- R179: a burst whose fields and payload concern Izrath: a node's, or one that the controller addresses to node 0. -/
def forUs (d : Dev) (p : Nat) (h : Head) : Bool := fromPeer d p h && (!actsAsPartner d p || h.addr == 0)

/-- R136, R182, R191, R431: what a valid burst does: a node's marks it present; the partner's, node 0's or as node 0 the controller's, is a
moment of R136. -/
def nodeHeard (p snr : Nat) (h : Head) (d : Dev) : Dev :=
  let d1 :=
    if h.ctrl = false then setPresent p h.addr true (setBlockByte SVC_NODE_SNR p h.addr snr d)
    else if actsAsPartner d p then setBlockByte SVC_NODE_SNR p 0 snr d
    else d
  if fromPeer d p h = false ∨ (h.ctrl = false ∧ h.addr ≠ 0) then d1
  else if stateOf d p = psDormant ∧ h.ty ≠ 3 then partnerLost p causePartnerReset d1
  else negotiateOn p causePartnerBurst d1

/-- R198: a grant under a poll brought no reply: it is repeated after 50 us, or the poll ends. DESIGN CHOICE (assumption 113): a reply whose header
fails counts as no reply. -/
def pollUnanswered (p n : Nat) (d : Dev) : Dev :=
  match (svc d p).polls.find? fun q => q.node == n with
  | none => d
  | some q =>
    if q.lapses + 1 ≤ attr d SVC_POLL_RETRIES p ∧ q.grants < 16 then
      arm tkPollRetry (8 * p + n) (50 * nsPerUs)
        (modSvc p (fun x => { x with polls := x.polls.map fun y => if y.node = n then { y with lapses := y.lapses + 1, retryWait := true } else y }) d)
    else if q.answered then endPoll p q stOk d
    else setPresent p n false (endPoll p q stTimeout d)

/-- What the node last granted did not answer. -/
def grantUnanswered (p : Nat) (d : Dev) : Dev :=
  match (svc d p).granted with
  | some n => pollUnanswered p n (modPeer p n (fun x => { x with holds := false }) (modSvc p (fun x => { x with granted := none }) d))
  | none => d

/-- R177, R194: the end of a header. -/
def headerEnd (p v : Nat) (d : Dev) : Dev :=
  match (svc d p).rx with
  | none => d
  | some r =>
    if r.header.isSome then d
    else if headValid v then
      let h := readHead v
      let d1 := bump SVC_BURSTS_RX p 1 (modSvc p (fun x => { x with rx := some { r with header := some v }, pendingRx := none, heardAt := d.elapsed + 1 }) d)
      let d2 := if r.recovered then bump SVC_RECOVERED p 1 d1 else d1
      nodeHeard p r.snr h d2
    else
      let d1 := bump SVC_HEADER_FAILS p 1 d
      match (svc d p).pendingRx with
      | some q => modSvc p (fun x => { x with rx := some q, pendingRx := none }) d1
      | none => receptionOver p (grantUnanswered p d1)

/-- The header of the reception under way, where it is of a type. -/
def headOf (d : Dev) (p ty : Nat) : Option Head :=
  match (svc d p).rx with
  | some r => match r.header with | some v => if (readHead v).ty = ty then some (readHead v) else none | none => none
  | none => none

/-- R180: a grant to node 0, where Izrath acts as it; R181 counts from it. -/
def takeGrant (p : Nat) (h : Head) (d : Dev) : Dev :=
  if svcRole d p = 2 ∧ h.ctrl then
    arm tkHello p (3 * nsPerMs) (if h.grant ∧ h.addr = 0 then modSvc p (fun x => { x with mayReply := true }) d else d)
  else d

/-- R198: a node's reply to its poll; `more` is whether it holds further fragments, or one that was not accepted. -/
def pollReply (p n : Nat) (more : Bool) (d : Dev) : Dev :=
  match (svc d p).polls.find? fun q => q.node == n with
  | none => d
  | some q =>
    if more ∧ q.grants < 16 then
      modSvc p (fun x => { x with polls := x.polls.map fun y => if y.node = n then { y with answered := true } else y }) d
    else endPoll p q stOk d

/-- R183, R185: an acknowledgement becomes due. -/
def oweAck (p n : Nat) (seq : Bool) (d : Dev) : Dev :=
  let (k, d1) := nextArrival p d
  modPeer p n (fun x => { x with ackOwed := some seq, ackSince := k, holds := false }) d1

/-- R182, R183: a grant becomes due: for MORE, or for a fragment that was not accepted. DESIGN CHOICE (assumption 113): a fragment is outstanding at
a node from a DATA burst that Izrath did not accept until one it accepts, a HELLO, or a grant that lapses. -/
def oweGrant (p n : Nat) (holds : Bool) (d : Dev) : Dev :=
  let (k, d1) := nextArrival p d
  modPeer p n (fun x => { x with more := x.more || !holds, holds := x.holds || holds, moreSince := k }) d1

/-- The fields that every burst for Izrath carries: ACK, MORE, GRANT. -/
def burstFields (p : Nat) (h : Head) (d : Dev) : Dev :=
  let n := h.addr
  if forUs d p h then
    let d1 := takeAck p n h.ack (modPeer p n (fun x => { x with more := false }) d)
    takeGrant p h (if h.more then oweGrant p n false d1 else d1)
  else takeGrant p h d

/-- The end of a burst. -/
def burstOver (p : Nat) (h : Head) (d : Dev) : Dev :=
  receptionOver p (if h.ctrl then d else pollReply p h.addr (h.more || (peer (svc d p) h.addr).holds) d)

/-! ### Fragments received (R185 to R187) -/

/-- R187: whether the receive queue of four complete messages is full. -/
def receiveFull (d : Dev) (p : Nat) : Bool := decide (4 ≤ (svc d p).received.length)

/-- R187: a complete host message. -/
def messageComplete (p n cls : Nat) (bytes : List Byte) (d : Dev) : Dev :=
  let m : SvcReceived := ⟨n, cls, d.devTime % 2 ^ 48, bytes, d.msgOrder⟩
  let d1 := refreshSvc p (modSvc p (fun x => { x with received := x.received ++ [m] }) { d with msgOrder := d.msgOrder + 1 })
  if (svc d p).received.isEmpty then raise clsSvc p evSvcRx 0 d1 else d1

/-- R185: a fragment accepted: it is owed an acknowledgement, and joins its message. DESIGN CHOICE (assumption 113): a further fragment of a
message whose first part is not held is acknowledged and dropped. -/
def acceptFragment (p n : Nat) (h : Head) (bytes : List Byte) (d : Dev) : Dev :=
  let cls := h.tclass
  let old := if h.first then [] else (((peer (svc d p) n).partials.find? fun y => y.1 == cls).map (·.2)).getD []
  let known := h.first || (peer (svc d p) n).partials.any fun y => y.1 == cls
  let d1 := oweAck p n h.seq (modPeer p n (fun x => { x with rxLast := some h.seq, partials := x.partials.filter fun y => y.1 != cls }) d)
  if known = false then d1
  else if h.last then
    let d2 := disarm tkPartial (8 * p + n) d1
    if cls = 0 then trainingMessage p (old ++ bytes) d2 else messageComplete p n cls (old ++ bytes) d2
  else
    let d2 := modPeer p n (fun x => { x with partials := x.partials ++ [(cls, old ++ bytes)] }) d1
    if cls = 0 then d2 else arm tkPartial (8 * p + n) (10 * nsPerMs) d2

/-- R178, R185, R187: a DATA burst received whole: the payload and its CRC. DEDUCED (assumption 39): where the queue has filled since the
first fragment, the last one is refused as a first one is. -/
def dataFragment (p : Nat) (h : Head) (payload : List Byte) (d : Dev) : Dev :=
  let n := h.addr
  let bytes := payload.take (h.len + 1)
  let x := peer (svc d p) n
  if forUs d p h = false then d
  else if payload.length ≠ h.len + 5 ∨ crc32c bytes ≠ ofLE (payload.drop (h.len + 1)) then oweGrant p n true (bump SVC_PAYLOAD_FAILS p 1 d)
  else if x.rxLast.getD true = h.seq then oweAck p n h.seq d
  else if h.tclass ≠ 0 ∧ (h.first ∨ h.last) ∧ receiveFull d p then
    let d1 := oweGrant p n true (bump SVC_RX_REFUSED p 1 d)
    if (svc d p).fullRaised then d1 else raise clsSvc p evSvcRxFull 0 (modSvc p (fun y => { y with fullRaised := true }) d1)
  else acceptFragment p n h bytes d

/-- R188: HELLO from a node. -/
def helloFrom (p n : Nat) (d : Dev) : Dev :=
  disarm tkPartial (8 * p + n) (modPeer p n (fun x => { x with partials := [], more := false, ackOwed := none }) (resetSeq p n d))

/-! ### Commands (R196 to R198) -/

/-- R196: SVC_SEND. DESIGN CHOICE (assumption 113): on a chord port where Izrath is node 0 a message for nodes 1 to 4 is accepted and waits. -/
def bodySvcSend : Body := fun _ c d =>
  let ps := c.params
  let p := byteAt ps 0
  let n := byteAt ps 1
  let msg := ps.drop 4
  let st := stateOf d p
  let allowed := if n = 0 then (st == psTrain || st == psCarry) && bitOf (attr d PORT_PARTNER_ABILITY p) 33
    else st == psListen || st == psNegotiate || st == psTrain || st == psCarry
  need (decide (p ≤ 127) && decide (n ≤ 4) && reservedZero ps 2 2 && !msg.isEmpty && decide (msg.length ≤ 1000)) stOutOfRange <|
  need allowed stPrecondition <|
  need (decide ((svc d p).queue.length < 4)) stNoResource <|
    let (k, d0) := nextArrival p d
    let m : SvcMsg := ⟨n, hostClass n, d.msgId, msg, 0, some (callRef c), k⟩
    let d1 := addJob c { d0 with msgId := (d.msgId + 1) % 65536 }
    .accept (toLE d.msgId 2) (svcKick p (refreshSvc p (modSvc p (fun x => { x with queue := x.queue ++ [m] }) d1)))

/-- R197: the port whose message is taken. -/
def recvPort (d : Dev) (p : Nat) : Option Nat :=
  if p ≠ 0xFF then (if (svc d p).received.isEmpty then none else some p)
  else
    (d.ports.filterMap fun e => match e.2.svc.received with | [] => none | m :: _ => some (e.1, m.order)).foldl
      (fun (b : Option (Nat × Nat)) e => match b with | none => some e | some x => if e.2 < x.2 then some e else b) none |>.map (·.1)

/-- R197: SVC_RECV. -/
def bodySvcRecv : Body := fun _ c d =>
  let p := byteAt c.params 0
  need ((decide (p ≤ 127) || p == 0xFF) && reservedZero c.params 1 3) stOutOfRange <|
    match recvPort d p with
    | none => okResult [] d
    | some q =>
      match (svc d q).received with
      | [] => okResult [] d
      | m :: r =>
        let d1 := refreshSvc q (modSvc q (fun x => { x with received := r, fullRaised := false }) d)
        okResult ([byteOf q, byteOf m.node, byteOf m.tclass, byteOf (bitNat (!r.isEmpty))] ++ toLE m.bytes.length 2 ++ toLE m.time 6 ++ m.bytes) d1

/-- R198: SEGMENT_POLL. DESIGN CHOICE (assumption 113): on a chord port where Izrath is node 0, and grants nobody, the poll is accepted and
waits. -/
def bodySegmentPoll : Body := fun _ c d =>
  let p := byteAt c.params 0
  let n := byteAt c.params 1
  let st := stateOf d p
  need (decide (p ≤ 127) && decide (1 ≤ n) && decide (n ≤ 4) && reservedZero c.params 2 2) stOutOfRange <|
  need (st == psListen || st == psNegotiate || st == psTrain || st == psCarry) stPrecondition <|
  need (!((svc d p).polls.any fun q => q.node == n)) stBusy <|
    let (k, d1) := nextArrival p d
    .accept [] (svcKick p (modSvc p (fun x => { x with polls := x.polls ++ [⟨n, callRef c, 0, 0, false, false, k⟩] }) (addJob c d1)))

/-! ### Time limits -/

/-- R180, R198: a grant lapses. -/
def grantLapse (p : Nat) (d : Dev) : Dev := svcKick p (grantUnanswered p d)

/-- R182: a periodic grant of node 0 falls due, and the next after `ns`. -/
def periodicGrant (kind p ns : Nat) (d : Dev) : Dev :=
  if armed d kind p && !due d kind p then d
  else arm kind p ns (svcKick p (modSvc p (fun x => { x with grantDue := true }) d))

/-! ### Rows -/

/-- R196: the SVC_SEND row. -/
def execSvcSend (r : Req) (s : State) : Out := issueOut 0xA0 bodySvcSend r s
/-- R197: the SVC_RECV row. -/
def execSvcRecv (r : Req) (s : State) : Out := issueOut 0xA1 bodySvcRecv r s
/-- R198: the SEGMENT_POLL row. -/
def execSegmentPoll (r : Req) (s : State) : Out := issueOut 0xA2 bodySegmentPoll r s

/-- R192: the SVC_PREAMBLE_DETECTED row: the normalised correlation in 1/1000, the power in dBm and the SNR. -/
def execSvcPreambleDetected (p : Fin 128) (x : PreamblePeak) (snr : Fin 256) (s : State) : Out := onDev (preamble p x.corr x.power snr) s

/-- R177: the SVC_HEADER_END row: the 36 header bits as decoded. -/
def execSvcHeaderEnd (p : Fin 128) (header : BitVec 36) (s : State) : Out := onDev (headerEnd p header.toNat) s

/-- R180: the SVC_EMPTY_BURST row. -/
def execSvcEmptyBurst (p : Fin 128) (s : State) : Out :=
  onDev (fun d => match headOf d p 0 with | some h => burstOver p h (burstFields p h d) | none => d) s

/-- R185: the SVC_DATA_FRAGMENT row: the payload with its CRC as decoded. -/
def execSvcDataFragment (p : Fin 128) (payload : List Byte) (s : State) : Out :=
  onDev (fun d => match headOf d p 1 with | some h => burstOver p h (dataFragment p h payload (burstFields p h d)) | none => d) s

/-- R188: the SVC_HELLO row. -/
def execSvcHello (p : Fin 128) (s : State) : Out :=
  onDev (fun d => match headOf d p 2 with | some h => burstOver p h ((if fromPeer d p h then helloFrom p h.addr else id) (burstFields p h d)) | none => d) s

/-- R180: the SVC_GRANT_LAPSE row. -/
def execSvcGrantLapse (p : Fin 128) (s : State) : Out := onDev (onExpiry tkGrantLapse p (grantLapse p)) s

/-- R182: the SVC_BEACON row. -/
def execSvcBeacon (p : Fin 128) (s : State) : Out :=
  onDev (fun d => if stateOf d p = psListen ∧ svcRole d p = 1 then periodicGrant tkBeacon p nsPerMs d else d) s

/-- R182: the SVC_POLL_GRANT row. -/
def execSvcPollGrant (p : Fin 128) (s : State) : Out :=
  onDev (fun d =>
    if svcRole d p ≠ 1 then d
    else if stateOf d p = psTrain then periodicGrant tkPollGrant p (100 * nsPerUs) d
    else if stateOf d p = psCarry then periodicGrant tkPollGrant p (attr d SVC_POLL_INTERVAL p * nsPerUs) d
    else d) s

/-- R181: the SVC_UNSOLICITED_HELLO row: the repeat falls due after 1 ms at the earliest. -/
def execSvcUnsolicitedHello (p : Fin 128) (s : State) : Out :=
  onDev (fun d =>
    if svcRole d p ≠ 2 ∨ channelFree d p = false ∨ heardNothing d p = false ∨ stateOf d p = psNegotiate ∨ (armed d tkHello p && !due d tkHello p) then d
    else arm tkHello p nsPerMs (sendHello p d)) s

/-- R186: the SVC_FRAGMENT_RESEND row. -/
def execSvcFragmentResend (p : Fin 128) (n : Fin 5) (s : State) : Out :=
  onDev (onExpiry tkResend (8 * p.val + n.val) (fragmentResend p n)) s

/-- R186: the SVC_PARTIAL_DISCARD row. -/
def execSvcPartialDiscard (p : Fin 128) (n : Fin 5) (s : State) : Out :=
  onDev (onExpiry tkPartial (8 * p.val + n.val) (modPeer p n fun x => { x with partials := x.partials.filter fun y => y.1 == 0 })) s

/-- R195: the SVC_BLANKING_END row. -/
def execSvcBlankingEnd (p : Fin 128) (s : State) : Out :=
  onDev (onExpiry tkBlank p fun d => svcKick p (modSvc p (fun x => { x with blanked := false }) d)) s

/-- R189: the WAKE_SEQUENCE_NEXT row. -/
def execWakeSequenceNext (p : Fin 128) (s : State) : Out :=
  onDev (onExpiry tkWakeNext p fun d =>
    if (svc d p).wakeLeft = 0 then d
    else
      let d1 := modSvc p (fun x => { x with wakeLeft := x.wakeLeft - 1 }) (sendWake p d)
      if (svc d1 p).wakeLeft = 0 then d1 else arm tkWakeNext p (50 * nsPerUs) d1) s

/-- R198: the SEGMENT_POLL_RETRY row. -/
def execSegmentPollRetry (p : Fin 128) (n : Fin 5) (s : State) : Out :=
  onDev (onExpiry tkPollRetry (8 * p.val + n.val) fun d =>
    svcKick p (modSvc p (fun x => { x with polls := x.polls.map fun y => if y.node = n.val then { y with retryWait := false } else y }) d)) s

end Sys2Proof.Machine
end

