-- ==== Sys2Proof/Machine/Power.lean ====
section
/-! DEFINITION. Machine/Power.lean: power domains: POWER_SET (R402 to R410), pads (R411, R412), retention seals (R413, R414), and wake sets
(R415 to R418). -/

namespace Sys2Proof.Machine

/-- What power keeps, changed. -/
def modPower (f : Power → Power) (d : Dev) : Dev := { d with power := f d.power }

/-! ### Domains (R402 to R406) -/

/-- R402: the parents of a domain. -/
def parentsOf (k : Nat) : List Nat :=
  if k < 128 then [160 + prismOf k] else if k < 160 then [160 + (k - 128) / 4] else if k < 168 then []
  else if k < 184 then [188 + (k - 168) % 8 / 2] else []

/-- R411: a domain with pads at its edge, the axis domain left out. -/
def hasPads (k : Nat) : Bool := decide (k < 128) || (decide (168 ≤ k) && decide (k < 184))

/-- R402: the pairs of an inner-link end, or the pair of a host group domain. -/
def domainPairs (k : Nat) : List Nat :=
  if 168 ≤ k ∧ k < 184 then [(k - 168) % 8] else if 184 ≤ k ∧ k < 188 then (List.range 4).map (8 + 4 * ((k - 184) / 2) + ·) else []

/-- R402: the groups of a domain. -/
def domainGroups (k : Nat) : List Nat :=
  if 168 ≤ k ∧ k < 176 then [k - 168] else if 176 ≤ k ∧ k < 184 then [8 + (k - 176)]
  else if k = 184 then (List.range 8).map (16 + ·) else if k = 186 then (List.range 8).map (24 + ·) else []

/-- The state of a domain: 0 ON, 1 RETENTION, 2 OFF. -/
def domainState (d : Dev) (k : Nat) : Nat := attr d DOMAIN_STATE k

/-- R405: a command on a pair: its opcode. -/
def pairCommand (d : Dev) (pair : Nat) : Option Nat :=
  let gs := [pairTx pair, pairRx pair]
  match (link d (pairTx pair)).train.map LaneTraining.why with
  | some (TrainWhy.command _) => some 0x50
  | some (TrainWhy.idleExit _) => some 0x53
  | some (TrainWhy.repair _ _) => some 0xB1
  | _ =>
    if gs.any fun g => (List.range 5).any fun k => (lane d (8 * g + k)).pattern.isSome then some 0x52
    else if d.faults.repairs.any fun r => r.cls == 7 && gs.contains r.inst then some 0xB1
    else none

/-- R405: the first port of a list that is in neither DOWN nor, for RETENTION, DORMANT. -/
def activePort (d : Dev) (st : Nat) (ps : List Nat) : Option Nat :=
  ps.find? fun p => !(stateOf d p == psDown || (st == 1 && stateOf d p == psDormant))

/-- R405, R409: why a drained domain may not take a state: the lowest reason code that applies, and its detail. -/
def judgeDomain (d : Dev) (k st : Nat) : Option (Nat × Nat) :=
  if k < 128 then
    if activePort d st [k] = some k then some (1, k)
    else if txHolder d k = holdScan then some (2, holdScan) else none
  else if k < 160 then
    let ps := portsOfFacet (k - 128)
    match activePort d st ps with
    | some p => some (1, p)
    | none =>
      if ps.any fun p => (port d p).scan.any fun x => x.step == .analysing then some (2, holdScan)
      else if d.faults.repairs.any fun r => r.cls == 4 && r.inst == k - 128 then some (3, 0xB1) else none
  else if k < 168 then
    let ps := portsOfPrism (k - 160)
    match activePort d st ps with
    | some p => some (1, p)
    | none =>
      match ps.find? fun p => captureHolder d p == holdScan || captureHolder d p == holdSnapshot with
      | some p => some (2, captureHolder d p)
      | none => none
  else if k < 188 then
    match (domainPairs k).findSome? (pairCommand d) with
    | some op => some (3, op)
    | none =>
      let rest := fun g => let st := attr d GROUP_STATE g; st == 5 || (decide (k < 184) && st == 0)
      if (domainPairs k).all fun p => rest (pairTx p) && rest (pairRx p) then none else some (4, 0)
  else if k < 192 then
    match (usedFlows d).find? fun f => (flowPorts d f).any fun p => p / 32 == k - 188 with
    | some f => some (5, f)
    | none =>
      if k = 188 then ((List.range 8).find? fun r => blockByte d DEVICE_SNAP_STATE 0 r != 0).map fun r => (6, r) else none
  else if k = 192 then
    if d.cal.runs ≠ [] then some (3, 0x70) else if d.cal.store.isSome then some (3, 0x71) else none
  else if k = 193 ∧ d.bist.run.isSome then some (3, 0x80)
  else none

/-- R406: the ranges of RO attributes that belong to a domain and restart from their Reset value on its return from OFF: class, lowest
and highest ID, instances. -/
def domainAttrs (k : Nat) : List (Nat × Nat × Nat × List Nat) :=
  if k < 128 then [(clsPort, 0x0100, 0x01FF, [k]), (clsCal, 1, 8, (List.range 5).map (256 * · + k))]
  else if k < 160 then [(clsPort, 0x0200, 0x03FF, portsOfFacet (k - 128)), (clsPort, 0x0500, 0x050F, portsOfFacet (k - 128))]
  else if k < 168 then [(clsPrism, 0, 0xFFFF, [k - 160]), (clsSvc, 0, 0xFFFF, portsOfPrism (k - 160)), (clsCal, 1, 8, [0x500 + (k - 160)])]
  else if k < 188 then
    let gs := domainGroups k
    [(clsGroup, 0, 0xFFFF, gs), (clsLane, 2, 0xFFFF, gs.flatMap fun g => (List.range 6).map (8 * g + ·)),
     (clsCal, 1, 8, gs.flatMap fun g => [0x600 + g, 0x700 + g])]
  else if k = 192 then [(clsCal, 0x10, 0xFFFF, [0x0A00])]
  else if k = 193 then [(clsBist, 0x10, 0xFFFF, [0x600])]
  else []

/-- R406: the RO attributes of a domain back at their Reset values; symbol period and clock follow the prefix and stay. -/
def restartAttrs (k : Nat) (d : Dev) : Dev :=
  (domainAttrs k).foldl (fun e r =>
    let (cls, lo, hi, is) := r
    (catalogue.filter fun a => a.cls == cls && decide (lo ≤ a.id) && decide (a.id ≤ hi) && a.acc == .ro && a.code != PRISM_SYMBOL_PERIOD.code
        && a.code != PORT_CHORD.code).foldl
      (fun e a => forAll is (fun i x => if isBlock a then setBlock a i (blockReset a i) x else resetAttr a i x) e) e) d

/-- R439, R402: the calibration items of a domain. -/
def domainItems (k : Nat) : List Nat := (itemsOf [0, 1, 2, 3, 4, 5, 6, 7, 8]).filter fun i => (calDomains i).contains k

/-- R456: the items of a domain that comes from OFF are loaded from the store, or start from nominal trims. -/
def loadItems (k : Nat) (d : Dev) : Dev :=
  let stored := attr d CAL_CAL_GEN 0x0A00 != 0
  forAll (domainItems k)
    (fun i => modItem i fun _ => { fromStore := stored, atDefault := !stored, ranAt := d.elapsed }) d

/-- R39: a prism's symbol clock restarts at the accepted prefix. -/
def restartClock (m : Nat) (d : Dev) : Dev :=
  setAttr PRISM_SYMBOL_PERIOD m (periodOf (attr d PRISM_PREFIX m)) (modPrism m (fun x => { x with prefixPending := false, slot := 0 }) d)

/-- R414: ports in DORMANT whose stored state is lost. -/
def dormantLost (ps : List Nat) (d : Dev) : Dev :=
  forAll (ps.filter fun p => stateOf d p == psDormant) (fun p => changeState p psListen causeRetentionLost) d

/-- R242, R414: QUICK training coefficients of a domain's pairs are lost. -/
def loseCoefficients (k : Nat) (d : Dev) : Dev := forAll (domainPairs k) (fun p => modLink (pairTx p) fun x => { x with fromDown := true }) d

/-- R403: what a domain's logic held is lost in OFF: the receivers of a facet's ports, the service channel of a prism's. -/
def loseLogic (k : Nat) (d : Dev) : Dev :=
  if 128 ≤ k ∧ k < 160 then forAll (portsOfFacet (k - 128)) (fun p => modRx p fun x => { maskNow := x.maskNow, next := x.next }) d
  else if 160 ≤ k ∧ k < 168 then forAll (portsOfPrism (k - 160)) (fun p e => modSvc p (fun _ => {}) (modRx p (fun x => { x with next := [] }) e)) d
  else d

/-- R414: a retention bank that fails its seal: rebuilt or cleared, and what follows. -/
def retentionLost (k : Nat) (d : Dev) : Dev :=
  let stored := attr d CAL_CAL_GEN 0x0A00 != 0
  let cleared := if k < 128 ∨ k = 192 then !stored else decide (k < 188) || k == 193
  let d1 := raise clsDomain k evRetentionLost (bitNat cleared) (bump DOMAIN_RETENTION_LOSSES k 1 d)
  if k < 128 then forAll (domainItems k) (fun i => modItem i fun x => { x with fromStore := stored, atDefault := !stored, trim := 0 }) d1
  else if k < 160 then dormantLost (portsOfFacet (k - 128)) d1
  else if k < 168 then
    dormantLost (portsOfPrism (k - 160)) (forAll (portsOfPrism (k - 160)) (fun p => setBlock PORT_NEXT_SLOTS p (blockReset PORT_NEXT_SLOTS p)) d1)
  else if k < 188 then loseCoefficients k d1
  else if k = 193 then modBist (fun b => { b with passed := [], tries := [] }) (setAttr BIST_CURSOR 0x600 0 (setAttr BIST_CYCLE_LEFT 0x600 461 d1))
  else d1

/-- R402 to R414: a domain changes its state, with the source of R415 for which it does. -/
def changeDomain (k new source set port : Nat) (sealGood : Bool) (d : Dev) : Dev :=
  let old := domainState d k
  let d1 := raise clsDomain k evDomainState (old * 4096 + new * 256 + source) (setAttr DOMAIN_STATE k new d)
  if new = 0 then
    let d2 := setAttr DOMAIN_LAST_WAKE k source (setAttr DOMAIN_LAST_WAKE_TIME k d.devTime (setAttr DOMAIN_LAST_WAKE_SET k set (setAttr DOMAIN_LAST_WAKE_PORT k port d1)))
    let d3 := if 160 ≤ k ∧ k < 168 then restartClock (k - 160) d2 else d2
    if old = 1 then
      let d4 := setAttr DOMAIN_PADS_LATCHED k 0 d3
      if sealGood then d4 else retentionLost k d4
    else loseCoefficients k (loadItems k (loseLogic k (restartAttrs k d3)))
  else if old = 0 then
    let d2 := bump DOMAIN_EXITS k 1 (if hasPads k then setAttr DOMAIN_PADS_LATCHED k 1 d1 else d1)
    forAll (domainItems k)
      (fun i e => setAttr CAL_STALE i 0 (modItem i (fun x => { x with out := none }) e)) d2
  else d1

/-! ### POWER_SET (R407 to R410) -/

/-- R408: the order of commits: parents first for ON, children first otherwise. -/
def commitOrder (st : Nat) (ks : List Nat) : List Nat :=
  let kids := ks.filter fun k => !(parentsOf k).isEmpty
  let rest := ks.filter fun k => (parentsOf k).isEmpty
  if st = 0 then rest ++ kids else kids ++ rest

/-- R409: the result of POWER_SET. -/
def powerResult (st reason domain detail refusing : Nat) : List Byte :=
  [byteOf st, byteOf reason] ++ toLE domain 2 ++ toLE detail 2 ++ [byteOf refusing, 0#8]

/-- R409: the result that names the lowest of some refusals. -/
def refusalResult (st : Nat) (rs : List (Nat × Nat × Nat)) : List Byte :=
  match (List.range 195).findSome? fun k => rs.find? fun r => r.1 == k with
  | some r => powerResult st r.2.1 r.1 r.2.2 rs.length
  | none => powerResult st 0 0xFFFF 0 0

/-- R404: the state a domain would have after the command. -/
def stateAfter (d : Dev) (mask : List Nat) (st k : Nat) : Nat := if mask.contains k then st else domainState d k

/-- R407, R409: the lowest domain for which the command's end would be illegal, with its detail. -/
def powerBreach (d : Dev) (mask : List Nat) (st : Nat) : Option (Nat × Nat) :=
  (List.range 195).findSome? fun k =>
    if st = 1 ∧ mask.contains k ∧ domainState d k = 2 then some (k, 0xFFFF)
    else ((parentsOf k).find? fun p => decide (stateAfter d mask st k < stateAfter d mask st p)).map fun p => (k, p)

/-- R405, R408, R490: the drain of a domain: rank-3 claims released, a slice aborted, scans and a BIST_RUN ended. -/
def drainDomain (k : Nat) (d : Dev) : Dev :=
  let d1 := if k < 128 then releaseCal k d else if 160 ≤ k ∧ k < 168 then forAll (portsOfPrism (k - 160)) releaseCal d else d
  let d2 := match d1.bist.slice with
    | some x => if k = 193 ∨ (regionDomains x.region).contains k then stopSlice x.region d1 else d1
    | none => d1
  abortScans k (if k = 193 then abortBistRun d2 else d2)

/-- R532: start training of a host pair is abandoned. -/
def abandonStart (pair : Nat) (d : Dev) : Dev :=
  if inStart d pair then
    forAll [pairTx pair, pairRx pair] (fun g e => setAttr GROUP_STATE g 0 (forAll [0, 1, 2, 3, 4] (fun k x => if attr x LANE_STATE (8 * g + k) = 1 then setAttr LANE_STATE (8 * g + k) 0 x else x) e))
      (dropTraining pair d)
  else disarm tkStartPair pair d

/-- R532: the host pairs whose start training a POWER_SET suspends. -/
def suspendedPairs (d : Dev) (mask : List Nat) (st : Nat) : List Nat :=
  if st = 0 then []
  else (List.range 8).filter fun g => (inStart d g || armed d tkStartPair g) && [168 + g, 176 + g, 188 + g / 2].any mask.contains

/-- A wake set's parameters, as armed. -/
def wakeParams (d : Dev) (n : Nat) : List Byte := block d DEVICE_WAKE_SET n

/-- Whether a wake set is armed. -/
def wakeArmed (d : Dev) (n : Nat) : Bool := bitOf (attr d DEVICE_WAKE_ARMED 0) n

/-- R417: a firing is over: WAKE, WAKE_OUT, and a partner-initiated DORMANT exit. -/
def finishFiring (x : Firing) (d : Dev) : Dev :=
  let d1 := raise clsDevice 0 evWake (256 * x.set + x.source) (modPower (fun y => { y with firing := none }) d)
  let d2 := if bitOf (byteAt (wakeParams d x.set) 3) 3 then arm tkWakeOut 0 nsPerMs (modPower (fun y => { y with wakeOut := true }) d1) else d1
  if x.source = 4 ∧ stateOf d2 x.port = psDormant ∧ pathOn d2 x.port = true then exitDormant x.port false d2 else d2

/-- R417: a set fires: it disarms where it is one-shot, and its domains start toward ON. -/
def startFiring (n source port : Nat) (d : Dev) : Dev :=
  let ps := wakeParams d n
  let left := commitOrder 0 ((maskList ps 24 195).filter fun k => domainState d k != 0)
  let d1 := if bitOf (byteAt ps 3) 2 then disarm tkWakeTimer n (setAttr DEVICE_WAKE_ARMED 0 (withBit (attr d DEVICE_WAKE_ARMED 0) n false) d) else d
  let x : Firing := ⟨n, source, port, left⟩
  if left.isEmpty then finishFiring x d1 else modPower (fun y => { y with firing := some x }) d1

/-- R417: an armed set meets its source; a firing that meets a POWER_SET, or another firing, waits, a one-shot set's but once. -/
def fireSet (n source port : Nat) (d : Dev) : Dev :=
  if d.power.set.isSome || d.power.firing.isSome then
    if bitOf (byteAt (wakeParams d n) 3) 2 ∧ d.power.waiting.any (fun w => w.1 == n) = true then d
    else modPower (fun y => { y with waiting := y.waiting ++ [(n, source, port)] }) d
  else startFiring n source port d

/-- R418: what the sentinel reports on a port that no armed set names for it. -/
def unarmedWake (p source : Nat) (page : Bool) (d : Dev) : Dev :=
  if stateOf d p ≠ psDormant then d
  else if d.power.set.isSome ∧ (pathDomains p).any (fun k => d.power.set.any fun x => x.mask.contains k) = true then
    modPower (fun y => { y with held := y.held ++ [(p, source, page)] }) d
  else if pathOn d p then
    if source = 4 then exitDormant p false d else if page then partnerLost p causePartnerReset d else d
  else raise clsPort p evWakeHeld source (setAttr PORT_WAKE_PENDING p 1 d)

/-- R410, R417: what waited for POWER_DONE or for a firing: firings in order, then reports of sentinels; at most `n` firings. -/
def releaseWakes : Nat → Dev → Dev
  | 0, d => d
  | n + 1, d =>
    if d.power.set.isSome || d.power.firing.isSome then d
    else
      match d.power.waiting with
      | (k, source, p) :: r => releaseWakes n (startFiring k source p (modPower (fun y => { y with waiting := r }) d))
      | [] =>
        let hs := d.power.held
        hs.foldl (fun e h => unarmedWake h.1 h.2.1 h.2.2 e) (modPower (fun y => { y with held := [] }) d)

/-- R408, R409: a POWER_SET is over. -/
def finishPower (x : PowerSet) (status : Nat) (result : List Byte) (d : Dev) : Dev :=
  let d1 := complete x.job clsDevice 0 evPowerDone status result (modPower (fun y => { y with set := none }) d)
  let d2 := if status = stOk then d1 else forAll x.paused (fun g => arm tkStartPair g (100 * nsPerMs)) d1
  releaseWakes 64 d2

/-- R408: every named domain has answered: commit, or back to ON. -/
def decidePower (x : PowerSet) (d : Dev) : Dev :=
  let d1 := disarm tkPrepare 0 d
  if x.refusals.isEmpty then
    let left := commitOrder x.state (x.mask.filter fun k => domainState d1 k != x.state)
    let y := { x with committing := true, left := left }
    if left.isEmpty then finishPower y stOk (powerResult x.state 0 0xFFFF 0 0) d1 else modPower (fun z => { z with set := some y }) d1
  else
    finishPower x (if x.refusals.all fun r => r.2.1 == 9 then stTimeout else stRefused) (refusalResult x.state x.refusals)
      (forAll (x.refusals.map (·.1)) (fun k => bump DOMAIN_REFUSALS k 1) d1)

/-- R408: domains answer, in order; one that goes to a lower state judges R405, every other one agrees. -/
def answerDomains (ks : List Nat) (timeout : Bool) (d : Dev) : Dev :=
  match d.power.set with
  | none => d
  | some x =>
    if x.committing then d
    else
      let now := ks.filter x.waiting.contains
      let refused := now.filterMap fun k =>
        if timeout then some (k, 9, 0)
        else if domainState d k < x.state then (judgeDomain d k x.state).map fun r => (k, r.1, r.2)
        else none
      let y := { x with waiting := x.waiting.filter fun k => !now.contains k, refusals := x.refusals ++ refused }
      if y.waiting.isEmpty then decidePower y d else modPower (fun z => { z with set := some y }) d

/-- R407: POWER_SET. -/
def bodyPowerSet : Body := fun _ c d =>
  let ps := c.params
  let st := byteAt ps 0
  let time := leAt ps 2 2
  let mask := maskList ps 4 195
  need (decide (st ≤ 2) && reservedZero ps 1 1 && decide (time ≤ 1000) && !mask.isEmpty && decide (byteAt ps 28 < 8) && reservedZero ps 29 3) stOutOfRange <|
    let own := if c.master < 2 then [] else [168 + 4 * (c.master - 2), 176 + 4 * (c.master - 2)]
    let refused := mask.filterMap fun k => if k = 194 then some (k, 7, 0) else if own.contains k then some (k, 8, 0) else none
    if st ≠ 0 ∧ refused ≠ [] then .refuse stRefused (refusalResult st refused)
    else
      match powerBreach d mask st with
      | some (k, detail) => .refuse stPrecondition (powerResult st 0 k detail 0)
      | none =>
        need (d.power.set.isNone && d.power.firing.isNone) stBusy <|
          let drains := mask.filter fun k => st != 0 && domainState d k == 0
          let paused := suspendedPairs d mask st
          let x : PowerSet := ⟨callRef c, st, mask, mask, [], false, [], paused⟩
          let d1 := forAll paused abandonStart (forAll drains drainDomain (modPower (fun y => { y with set := some x }) (addJob c d)))
          .accept [] (answerDomains (mask.filter fun k => !drains.contains k) false (arm tkPrepare 0 ((if time = 0 then 10 else time) * nsPerMs) d1))

/-- R404, R408: a domain whose turn in a commit or a firing has come: no change would put it above a parent, or a parent below it. -/
def mayChange (k new : Nat) (left : List Nat) : Bool :=
  left.contains k && (if new = 0 then (parentsOf k).all fun p => !left.contains p else left.all fun j => !(parentsOf j).contains k)

/-- R410: a domain completes its change, for a POWER_SET or for a firing. -/
def commitDone (k : Nat) (sealGood : Bool) (d : Dev) : Dev :=
  if d.brownout.isSome then d
  else
    match d.power.set, d.power.firing with
    | some x, _ =>
      if x.committing = false ∨ mayChange k x.state x.left = false then d
      else
        let y := { x with left := x.left.filter (· != k) }
        let d1 := changeDomain k x.state 1 0xFF 0xFF sealGood (modPower (fun z => { z with set := some y }) d)
        if y.left.isEmpty then finishPower y stOk (powerResult x.state 0 0xFFFF 0 0) d1 else d1
    | none, some x =>
      if mayChange k 0 x.left = false then d
      else
        let y := { x with left := x.left.filter (· != k) }
        let named := if x.source = 3 ∨ x.source = 4 then x.port else 0xFF
        let d1 := changeDomain k 0 x.source x.set named sealGood (modPower (fun z => { z with firing := some y }) d)
        if y.left.isEmpty then releaseWakes 64 (finishFiring y d1) else d1
    | none, none => d

/-! ### Pads (R412) -/

/-- R412: PAD_RELEASE. -/
def bodyPadRelease : Body := fun _ c d =>
  let mask := maskList c.params 0 195
  need (!mask.isEmpty && decide (byteAt c.params 24 < 8) && reservedZero c.params 25 3) stOutOfRange <|
  need (mask.all fun k => domainState d k == 0 && !(d.power.set.any fun x => x.mask.contains k)) stPrecondition <|
    let l := mask.filter fun k => attrOn d DOMAIN_PADS_LATCHED k
    okResult (maskBytes l 25) (forAll l (fun k => setAttr DOMAIN_PADS_LATCHED k 0) d)

/-! ### Wake sets (R415 to R417, R563) -/

/-- R416: the sources of a set. -/
def wakeSource (ps : List Byte) (b : Nat) : Bool := bitOf (byteAt ps 1) b

/-- R563: the sets, other than one, that hold a GPIO pin as wake source. -/
def gpioHolders (d : Dev) (n pin : Nat) : List Nat :=
  (List.range 8).filter fun m => m != n && wakeArmed d m && wakeSource (wakeParams d m) 4 && byteAt (wakeParams d m) 2 == pin

/-- R563: the holder of a GPIO pin with which a set's arming conflicts. -/
def gpioConflict (d : Dev) (n pin : Nat) (rising : Bool) : Option Nat :=
  match (gpioHolders d n pin).find? fun m => bitOf (byteAt (wakeParams d m) 3) 1 != rising with
  | some _ => (gpioHolders d n pin).head?
  | none => if pin = 3 ∧ d.strobe = true then some 0xFF else none

/-- R416: WAKE_ARM. -/
def bodyWakeArm : Body := fun _ c d =>
  let ps := c.params
  let n := byteAt ps 0
  let time := leAt ps 4 4
  let mask := maskList ps 24 195
  need (decide (n ≤ 7) && decide (byteAt ps 1 < 32) && decide (byteAt ps 2 < 4) && decide (byteAt ps 3 < 16) && decide (time ≤ 86400000)
      && (wakeSource ps 3 == decide (time ≠ 0)) && !((wakeSource ps 1 || wakeSource ps 2) && (maskPorts ps 8).isEmpty)
      && !mask.contains 194 && (mask.all fun k => (parentsOf k).all mask.contains) && decide (byteAt ps 48 < 8) && reservedZero ps 49 3) stOutOfRange <|
    match if wakeSource ps 4 then gpioConflict d n (byteAt ps 2) (bitOf (byteAt ps 3) 1) else none with
    | some h => .refuse stConflict [byteOf (byteAt ps 2), byteOf h]
    | none =>
      let on := byteAt ps 1 != 0
      let d1 := setAttr DEVICE_WAKE_ARMED 0 (withBit (attr d DEVICE_WAKE_ARMED 0) n on) (setBlock DEVICE_WAKE_SET n ps d)
      okDev (if time = 0 then disarm tkWakeTimer n d1 else arm tkWakeTimer n (time * nsPerMs) d1)

/-- R415: the armed sets that a source fires. -/
def firingSets (d : Dev) (test : List Byte → Bool) : List Nat := (List.range 8).filter fun n => wakeArmed d n && test (wakeParams d n)

/-- R415, R417: every armed set that a source fires. -/
def fireAll (source port : Nat) (test : List Byte → Bool) (d : Dev) : Dev :=
  if isReady d then forAll (firingSets d test) (fun n => fireSet n source port) d else d

/-- An input pin's level in DEVICE.PIN_STATE. -/
def setPin (bit : Nat) (level : Bool) (d : Dev) : Dev := setAttr DEVICE_PIN_STATE 0 (withBit (attr d DEVICE_PIN_STATE 0) bit level) d

/-- R415: an edge on WAKE_IN. -/
def wakeInEdge (rising : Bool) (d : Dev) : Dev :=
  fireAll 2 0xFF (fun ps => wakeSource ps 0 && bitOf (byteAt ps 3) 0 == rising) (setPin 0 rising d)

/-- R415: an edge on a GPIO pin. -/
def gpioEdge (pin : Nat) (rising : Bool) (d : Dev) : Dev :=
  fireAll 6 0xFF (fun ps => wakeSource ps 4 && byteAt ps 2 == pin && bitOf (byteAt ps 3) 1 == rising) (setPin (2 + pin) rising d)

/-- R415, R418, R431: energy that a port's sentinel sees. -/
def lineEnergy (p : Nat) (page : Bool) (d : Dev) : Dev :=
  if isReady d = false ∨ (stateOf d p ≠ psDown ∧ stateOf d p ≠ psDormant) then d
  else
    let test := fun ps => wakeSource ps 1 && maskBit ps 8 p
    if firingSets d test = [] then unarmedWake p 3 page d
    else
      let d1 := fireAll 3 p test d
      if page ∧ stateOf d p = psDormant ∧ pathOn d p = true then partnerLost p causePartnerReset d1 else d1

/-- R189, R195, R417, R418: a WAKE burst received, which ends its reception and a wake sequence under way; its header names node 0. -/
def wakeBurst (p : Nat) (burst : Dev) : Dev :=
  let d := match headOf burst p 3 with | some _ => receptionOver p burst | none => burst
  let st := stateOf d p
  if isReady d = false ∨ (svc d p).blanked then d
  else
    let d1 := bump SVC_WAKE_RX p 1 d
    let ended := modSvc p (fun x => { x with wakeLeft := 0 }) (disarm tkWakeNext p d1)
    if st = psQuiet then
      if (svc d p).wakeLeft ≠ 0 then ended else if pathOn d p then sendWake p d1 else d1
    else if st = psDormant then
      if (quiet d p).decidedAt ≠ 0 then disarm tkWakeUnanswered p (modQuiet p (fun x => { x with answered := true }) ended)
      else
        let test := fun ps => wakeSource ps 2 && maskBit ps 8 p
        if firingSets d test = [] then unarmedWake p 4 false d1 else fireAll 4 p test d1
    else if (svc d p).wakeLeft ≠ 0 then ended
    else d1

/-! ### Rows -/

/-- R407: the POWER_SET row. -/
def execPowerSet (r : Req) (s : State) : Out := issueOut 0x60 bodyPowerSet r s
/-- R412: the PAD_RELEASE row. -/
def execPadRelease (r : Req) (s : State) : Out := issueOut 0x61 bodyPadRelease r s
/-- R416: the WAKE_ARM row. -/
def execWakeArm (r : Req) (s : State) : Out := issueOut 0x62 bodyWakeArm r s
/-- R408: the POWER_PREPARE_ANSWER row. -/
def execPowerPrepareAnswer (domain : Fin 195) (s : State) : Out := onDev (answerDomains [domain] false) s
/-- R408: the POWER_PREPARE_TIMEOUT row. -/
def execPowerPrepareTimeout (s : State) : Out := onDev (onExpiry tkPrepare 0 (answerDomains (List.range 195) true)) s
/-- R410: the DOMAIN_COMMIT_DONE row. -/
def execDomainCommitDone (domain : Fin 195) (sealGood : Bool) (s : State) : Out := onDev (commitDone domain sealGood) s
/-- R415: the WAKE_IN_EDGE row. -/
def execWakeInEdge (rising : Bool) (s : State) : Out := onDev (wakeInEdge rising) s
/-- R415: the GPIO_EDGE row. -/
def execGpioEdge (pin : Fin 4) (rising : Bool) (s : State) : Out := onDev (gpioEdge pin rising) s
/-- R415: the LINE_ENERGY_WAKE row. -/
def execLineEnergyWake (p : Fin 128) (page : Bool) (s : State) : Out := onDev (lineEnergy p page) s
/-- R189: the SVC_WAKE_BURST row. -/
def execSvcWakeBurst (p : Fin 128) (s : State) : Out := onDev (wakeBurst p) s
/-- R417: the WAKE_SET_TIMER row. -/
def execWakeSetTimer (n : Fin 8) (s : State) : Out :=
  onDev (onExpiry tkWakeTimer n fun d => if wakeArmed d n then fireSet n 5 0xFF d else d) s
/-- R417: the WAKE_OUT_PULSE_END row. -/
def execWakeOutPulseEnd (s : State) : Out := onDev (onExpiry tkWakeOut 0 (modPower fun x => { x with wakeOut := false })) s

end Sys2Proof.Machine
end

