-- ==== Sys2Proof/Machine/Bist.lean ====
section
/-! DEFINITION. Machine/Bist.lean: self-test slices and their verdicts (R463 to R470), their scheduling (R471 to R473), BIST_RUN and
BIST_RESULT (R477, R478). -/

namespace Sys2Proof.Machine

/-! ### Covers (R462 to R464) -/

/-- R463, R464: the cover of a region asked for with rank 3, unless its work is on the cover already. -/
def askCover (r : Nat) (d : Dev) : Dev :=
  if r < 0xA0 then
    let p := 4 * (r / 5) + r % 5
    if r % 5 = 4 ∨ attr d FACET_SPARE_PORT (r / 5) = p then d else requestSpare p 3 d
  else if 0x100 ≤ r ∧ r < 0x180 then
    let p := r - 0x100
    if captureHolder d p = 0 ∨ captureHolder d p = holdCal then setCapture p holdTest d else d
  else if 0x300 ≤ r ∧ r < 0x400 then
    let g := (r - 0x300) / 8
    match carriedBy (attr d GROUP_LANE_MAP g) ((r - 0x300) % 8) with
    | some j => if groupRuns d g then requestLs g j 3 d else d
    | none => d
  else d

/-- R463: the work goes back from a cover taken with rank 3. -/
def endCover (r : Nat) (d : Dev) : Dev :=
  if r < 0xA0 then
    let f := r / 5
    let p := 4 * f + r % 5
    if attr d FACET_SPARE_STATE f = 3 ∧ attr d FACET_SPARE_PORT f = p ∨ pendingTakeover d f = some (3, p) then giveBackSpare f d else d
  else if 0x100 ≤ r ∧ r < 0x180 then
    let p := r - 0x100
    if captureHolder d p = holdTest then setCapture p 0 d else d
  else if 0x300 ≤ r ∧ r < 0x400 then
    let g := (r - 0x300) / 8
    match (link d g).cover with
    | some (3, _) => returnLs g d
    | _ => d
  else d

/-- R463: a slice begins while Izrath serves traffic. -/
def startSlice (r why : Nat) (again rebuilt : Bool) (d : Dev) : Dev :=
  strobeLevel true (beginSlice r why again rebuilt (if why = 4 then d else askCover r d))

/-- R469, R462: regions whose work is on a cover while they are tested. -/
def hasCover (r : Nat) : Bool :=
  if r < 0xA0 then r % 5 != 4 else if r < 0x200 then true else if 0x210 ≤ r ∧ r < 0x300 then true
  else if 0x300 ≤ r ∧ r < 0x400 then r % 8 != 4 else r == 0x510 || r == 0x511

/-! ### Failing regions (R470) -/

/-- R470: a FAULT that leaves its element in service. -/
def faultKept (cls inst element fclass : Nat) (d : Dev) : Dev := raise cls inst evFault (256 * fclass + element) d

/-- R470: a region's copy or section FAILED, with its PERMANENT record (R393). -/
def failCopy (r cls inst element fclass : Nat) (d : Dev) : Dev :=
  queueLog cls inst element fclass logPermanent 0 0 1 (modBist (fun b => { b with failed := b.failed ++ [r] }) d)

/-- R470: what becomes of the element of a region whose repeat failed too. -/
def failRegion (r : Nat) (d : Dev) : Dev :=
  if r < 0xA0 then engineFault (r / 5) (r % 5) d
  else if 0x100 ≤ r ∧ r < 0x180 then unmasked clsPort (r - 0x100) 0xFF 5 unmMemory (failCopy r clsPort (r - 0x100) 0xFF 5 d)
  else if 0x200 ≤ r ∧ r < 0x203 then
    let k := r - 0x200
    let (a, b) := activeCores d
    let c := spareCore d
    let d1 := permanentFault clsDevice 0 k 6 (modFaults (fun x => { x with failedCores := x.failedCores ++ [k] }) d)
    if c = k then setCores a b 3 d1 else if c = 3 then haltVertex d1 else if a = k then setCores c b 3 d1 else setCores a c 3 d1
  else if 0x210 ≤ r ∧ r < 0x213 then failCopy r clsDevice 0 (r - 0x210) 7 d
  else if 0x300 ≤ r ∧ r < 0x400 then laneFault ((r - 0x300) / 8) ((r - 0x300) % 8) 3 d
  else if 0x400 ≤ r ∧ r < 0x403 then unmasked clsDie (r - 0x400) 0xFF 5 unmMemory (faultKept clsDie (r - 0x400) 0xFF 5 d)
  else if r = 0x510 ∨ r = 0x511 then
    let d1 := failCopy r clsDevice 0 0xFF 5 (faultKept clsDevice 0 0xFF 5 d)
    if d1.bist.failed.contains 0x510 ∧ d1.bist.failed.contains 0x511 then unmasked clsDevice 0 0xFF 5 unmMemory d1 else d1
  else unmasked clsDevice 0 0xFF 5 unmMemory (faultKept clsDevice 0 0xFF 5 d)

/-! ### BIST_RUN (R477) -/

/-- The BIST_RUN in progress changed. -/
def modRun (f : BistRun → BistRun) (d : Dev) : Dev := modBist (fun b => { b with run := b.run.map f }) d

/-- R464, R477: a run goes on with the regions still to visit: those excluded are recorded as SKIPPED, the first other one is sliced. -/
def runFrom : List Nat → Dev → Dev
  | [], d =>
    match d.bist.run with
    | some x => finishBistRun (if x.failed = 0 ∧ x.skipped = 0 then stOk else stDegraded) d
    | none => d
  | r :: rest, d =>
    match skipReason d r false with
    | 0 => startSlice r 1 false false (modRun (fun x => { x with left := rest }) d)
    | n + 1 => runFrom rest (modRun (fun x => { x with skipped := x.skipped + 1 }) (recordSkip r (n + 1) d))

/-- R470, R471, R473: what follows a slice: the next region of the power-up test, or the BIST_RUN that waits. -/
def afterSlice (x : Slice) (d : Dev) : Dev :=
  if x.why = 4 then (if d.phase = .selfTest then selfTestFrom (regions.filter fun r => decide (x.region < r)) d else d)
  else
    match d.bist.run with
    | some y => runFrom y.left d
    | none => d

/-- R478: the slice under way leaves its region. -/
def leaveSlice (x : Slice) (d : Dev) : Dev := endCover x.region (strobeLevel false d)

/-- The slice under way belongs to a RAW run. -/
def isRaw (d : Dev) (x : Slice) : Bool := x.why == 1 && (match d.bist.run with | some y => y.mode == 2 | none => false)

/-- R466, R475: an aborted slice is recorded as ABORTED. -/
def sliceAborted (x : Slice) (d : Dev) : Dev :=
  let d1 := leaveSlice x (recordResult x.region brAborted (modBist (fun b => { b with slice := none }) d))
  if isRaw d1 x then abortBistRun d1
  else afterSlice x (if x.why = 1 then modRun (fun y => { y with skipped := y.skipped + 1 }) d1 else d1)

/-- R472: a region that has passed. -/
def cyclePass (r : Nat) (d : Dev) : Dev :=
  if d.bist.cycling ∧ d.bist.passed.contains r = false then
    setAttr BIST_CYCLE_LEFT 0x600 (attr d BIST_CYCLE_LEFT 0x600 - 1) (modBist (fun b => { b with passed := b.passed ++ [r] }) d)
  else d

/-- R281: a SLOW mark cleared by a pass; the work returns from the cover that the mark gave it. -/
def passClears (r margin : Nat) (d : Dev) : Dev :=
  let key := regionKey r
  if margin < 282 ∨ isSlow d key = false then d
  else if r < 0xA0 then
    let f := r / 5
    let p := 4 * f + r % 5
    let d1 := clearSlow key clsPort d
    if r % 5 < 4 ∧ attr d1 FACET_SPARE_STATE f = 2 ∧ attr d1 FACET_SPARE_PORT f = p then giveBackSpare f d1 else d1
  else if 0x300 ≤ r ∧ r < 0x400 then
    let g := (r - 0x300) / 8
    let d1 := clearSlow key clsLane d
    match (link d1 g).cover with
    | some (2, _) => returnLs g d1
    | _ => d1
  else clearSlow key clsBist d

/-- R466: the verdict of a slice. -/
def sliceResult (r : Nat) (signature : BitVec 64) (applied independent : BitVec 32) : Nat :=
  let n := Config.patternCount r
  if applied ≠ n ∨ independent ≠ n then brCount else if signature = Config.goldenSignature r then brPass else brSignature

/-- R470: a region that has failed for good in this visit. -/
def sliceFailed (x : Slice) (result : Nat) (d : Dev) : Dev :=
  let d1 := raise clsBist x.region evBistFail result (if x.why = 4 then startFlag 6 d else d)
  let d2 := leaveSlice x (failRegion x.region d1)
  afterSlice x (if x.why = 1 then modRun (fun y => { y with failed := y.failed + 1 }) d2 else d2)

/-- R477: a RAW run is over: no verdict, but its signature and counts. -/
def rawEnd (x : Slice) (signature : BitVec 64) (applied independent : BitVec 32) (d : Dev) : Dev :=
  match d.bist.run with
  | some y =>
    let d1 := leaveSlice x (recordResult x.region brRaw d)
    complete y.job clsBist 0x600 evBistDone stOk (toLE signature.toNat 8 ++ toLE applied.toNat 4 ++ toLE independent.toNat 4)
      (modBist (fun b => { b with run := none }) { d1 with strobe := false })
  | none => d

/-- R466 to R470: the slice under way ends. -/
def sliceEnd (signature : BitVec 64) (applied independent : BitVec 32) (restoreGood : Bool) (margin : Nat) (d : Dev) : Dev :=
  match d.bist.slice with
  | none => d
  | some x =>
    if d.brownout.isSome then d
    else if x.aborted then sliceAborted x d
    else
      let r := x.region
      let d1 := setAttr BIST_MARGIN r margin (modBist (fun b => { b with slice := none }) d)
      let result := sliceResult r signature applied independent
      if restoreGood = false then
        let d2 := bump BIST_SAVE_FAULTS 0x600 1 (recordResult r brRestore d1)
        if hasCover r ∧ x.rebuilt = false then startSlice r x.why x.again true d2 else sliceFailed x brRestore d2
      else if isRaw d x then rawEnd x signature applied independent d1
      else if result = brPass then
        let d2 := cyclePass r (bump BIST_PASSES r 1 (recordResult r brPass d1))
        let d3 := passClears r margin (leaveSlice x d2)
        afterSlice x (if x.why = 1 then modRun (fun y => { y with passed := y.passed + 1 }) d3 else d3)
      else
        let d2 := bump BIST_FAILS r 1 (recordResult r result d1)
        if x.again then sliceFailed x result d2 else startSlice r x.why true x.rebuilt d2

/-- R463: the slice under way is stopped, and its restore completes. -/
def sliceAbort (d : Dev) : Dev :=
  match d.bist.slice with
  | some x => if d.brownout.isSome then modBist (fun b => { b with slice := some { x with aborted := true } }) d else sliceAborted x d
  | none => d

/-- R477: whether a region is one of R462. -/
def isRegion (r : Nat) : Bool := regions.contains r

/-- R477, R478: `n` consecutive defined regions from `r`. -/
def regionsFrom (r n : Nat) : List Nat := (regions.filter fun x => decide (r ≤ x)).take n

/-- R477: the fields of BIST_RUN in range. -/
def bistFieldsOk (ps : List Byte) : Bool :=
  let mode := byteAt ps 0
  let first := leAt ps 2 2
  let n := leAt ps 4 2
  let seed := leAt ps 8 8
  let patterns := leAt ps 16 4
  decide (mode ≤ 2) && isRegion first
    && (if mode = 1 then first == 0 && n == 0 else decide (1 ≤ n) && decide (n ≤ 461) && (regionsFrom first n).length == n)
    && (if mode = 2 then n == 1 && seed != 0 && decide (1 ≤ patterns) && decide (patterns ≤ 16777216) else seed == 0 && patterns == 0)

/-- R477: BIST_RUN. -/
def bodyBistRun : Body := fun _ c d =>
  let ps := c.params
  let mode := byteAt ps 0
  let first := leAt ps 2 2
  let lc := attr d DEVICE_LC_STATE 0
  need (reservedZero ps 1 1 && reservedZero ps 6 2) stOutOfRange <|
  need (lc != 3 && (lc != 1 || mode != 2)) stLifecycle <|
  need (bistFieldsOk ps) stOutOfRange <|
  need (domainOn d 193 && (mode != 2 || skipReason d first false == 0)) stPrecondition <|
  need d.bist.run.isNone stBusy <|
    if sliceRegion d 0x600 then .defer
    else
      let left := if mode = 1 then regions else regionsFrom first (leAt ps 4 2)
      let held := !(gpioHolders d 8 3).isEmpty
      let d1 := { addJob c d with strobe := decide (mode = 2) && !held }
      let d2 := modBist (fun b => { b with run := some ⟨callRef c, mode, left, 0, 0, 0, leAt ps 8 8, leAt ps 16 4⟩ }) d1
      .accept [] (if d.bist.slice.isNone then runFrom left d2 else d2)

/-- R478: one record. -/
def bistRecord (d : Dev) (r : Nat) : List Byte :=
  toLE r 2 ++ [byteOf (attr d BIST_RESULT r), byteOf (bankGet 0 d.bist.reasons r)] ++ toLE (attr d BIST_LAST_TIME r) 6 ++ toLE (attr d BIST_MARGIN r) 2
    ++ toLE (attr d BIST_PASSES r) 4 ++ toLE (attr d BIST_FAILS r) 4 ++ toLE (attr d BIST_SKIPS r) 4

/-- R478: BIST_RESULT. -/
def bodyBistResult : Body := fun _ c d =>
  let first := leAt c.params 0 2
  let n := leAt c.params 2 2
  need (attr d DEVICE_LC_STATE 0 != 3) stLifecycle <|
  need (decide (1 ≤ n) && decide (n ≤ 40) && isRegion first && (regionsFrom first n).length == n) stOutOfRange <|
    okResult ([byteOf n, 0#8, 0#8, 0#8] ++ (regionsFrom first n).flatMap (bistRecord d)) d

/-! ### Scheduling (R472, R473) -/

/-- R472: the cycle ends: BIST_OVERDUE for each region that has not passed, and BIST_CYCLE. -/
def endCycle (d : Dev) : Dev :=
  if d.bist.cycling = false then d
  else
    let open_ := regions.filter fun r => !d.bist.passed.contains r
    let d1 := forAll open_ (fun r e => raise clsBist r evBistOverdue (attr e BIST_RESULT r) e) (modBist (fun b => { b with cycling := false }) d)
    bump BIST_CYCLES 0x600 1 (raise clsBist 0x600 evBistCycle open_.length d1)

/-- R472: a PERIODIC cycle starts. -/
def startCycle (d : Dev) : Dev :=
  if attr d BIST_PERIODIC 0x600 = 1 ∧ attr d DEVICE_LC_STATE 0 ≠ 3 ∧ d.phase = .ready then
    setAttr BIST_CURSOR 0x600 0 (setAttr BIST_CYCLE_LEFT 0x600 461 (modBist (fun b => { b with cycling := true, passed := [], tries := [] }) d))
  else d

/-- R473: a SLOW region to slice: not tried in the last 60 s, and not excluded. -/
def slowRegion (d : Dev) : Option Nat :=
  regions.find? fun r =>
    isSlow d (regionKey r) && (let t := bankGet 0 d.bist.slowTried r; t == 0 || decide (t + 60 * nsPerS ≤ d.elapsed + 1)) && skipReason d r false == 0

/-- R472: the region to retry: not passed, skipped, aborted or deferred, and tried fewest times, at most twice before. -/
def retryRegion (d : Dev) : Option Nat :=
  let open_ := regions.filter fun r =>
    !d.bist.passed.contains r && (let x := attr d BIST_RESULT r; x != brSignature && x != brCount && x != brRestore)
  [0, 1, 2].findSome? fun n => open_.find? fun r => bankGet 0 d.bist.tries r == n

/-- R464, R472: a region visited by the cycle: sliced or recorded as SKIPPED. -/
def visitRegion (r : Nat) (d : Dev) : Dev :=
  match skipReason d r false with
  | 0 => startSlice r 3 false false d
  | n + 1 => recordSkip r (n + 1) d

/-- R472: the cursor moves to the next region. -/
def nextCursor (r : Nat) (d : Dev) : Dev := setAttr BIST_CURSOR 0x600 ((regions.find? fun x => decide (r < x)).getD 0xFFFF) d

/-- R472: the cycle's part of a slot. -/
def cycleSlot (d : Dev) : Dev :=
  let c := attr d BIST_CURSOR 0x600
  if d.bist.cycling = false then d
  else if c ≠ 0xFFFF then visitRegion c (nextCursor c d)
  else
    match retryRegion d with
    | some r => visitRegion r (modBist (fun b => { b with tries := bankPut 0 b.tries r (bankGet 0 b.tries r + 1) }) d)
    | none => d

/-- R472, R473: a periodic slot. -/
def bistSlot (d : Dev) : Dev :=
  if multipleDue d tkBistSlot (attr d BIST_SLOT_PERIOD 0x600 * nsPerMs) = false then d
  else
    let d1 := armMultiple tkBistSlot 0 (attr d BIST_SLOT_PERIOD 0x600 * nsPerMs) d
    if attr d BIST_PERIODIC 0x600 = 0 ∨ attr d DEVICE_LC_STATE 0 = 3 ∨ attr d DOMAIN_STATE 193 ≠ 0 ∨ d.phase ≠ .ready ∨ d.brownout.isSome = true
        ∨ d.bist.slice.isSome = true ∨ d.bist.run.isSome = true then d1
    else
      match slowRegion d1 with
      | some r => startSlice r 2 false false (modBist (fun b => { b with slowTried := bankPut 0 b.slowTried r (d.elapsed + 1) }) d1)
      | none => cycleSlot d1

/-! ### Rows -/

/-- R477: the BIST_RUN row. -/
def execBistRun (r : Req) (s : State) : Out := issueOut 0x80 bodyBistRun r s

/-- R478: the BIST_RESULT row. -/
def execBistResult (r : Req) (s : State) : Out := issueOut 0x81 bodyBistResult r s

/-- R472: the BIST_CYCLE_START row. -/
def execBistCycleStart (s : State) : Out :=
  onDev (fun d => if multipleDue d tkCycle (3600 * nsPerS) = false then d else startCycle (endCycle (armMultiple tkCycle 0 (3600 * nsPerS) d))) s

/-- R472: the BIST_SLOT row. -/
def execBistSlot (s : State) : Out := onDev bistSlot s

/-- R466: the BIST_SLICE_END row. -/
def execBistSliceEnd (signature : BitVec 64) (applied independent : BitVec 32) (restoreGood : Bool) (margin : BitVec 16) (s : State) : Out :=
  onDev (sliceEnd signature applied independent restoreGood margin.toNat) s

/-- R463: the BIST_SLICE_ABORT row. -/
def execBistSliceAbort (s : State) : Out := onDev sliceAbort s

end Sys2Proof.Machine
end

