-- ==== Sys2Proof/Machine/Background.lean ====
section
/-! DEFINITION. Machine/Background.lean: wear rotation (R497), aging (R498) and telemetry (R499). -/

namespace Sys2Proof.Machine

/-! ### Wear rotation (R497) -/

/-- R497: one more move made. -/
def countMove (d : Dev) : Dev := bump DEVICE_WEAR_ROTATIONS 0 1 d

/-- R497: the facet's spare covers engine `e` for wear, where it is free for it. -/
def wearFacet (part f : Nat) (d : Dev) : Dev :=
  let d1 := if attr d FACET_SPARE_STATE f = 4 ∨ (match pendingTakeover d f with | some t => t.1 == 4 | none => false) = true then giveBackSpare f d else d
  let e := part - 1
  if part < 5 ∧ engineState d1 f e = 0 ∧ sliceRegion d1 (5 * f + e) = false ∧ sliceRegion d1 (5 * f + 4) = false ∧ spareRank d1 f = 9 then
    countMove (requestSpare (4 * f + e) 4 d1)
  else d1

/-- R497: LS of a group that Izrath transmits carries logical lane `j` for wear, or the spare pattern in the last part. -/
def wearGroup (part g : Nat) (d : Dev) : Dev :=
  let x := link d g
  let j := part - 1
  let free := x.subReq.isNone && x.subAnn.isNone && x.rxAnn.isNone && groupRuns d g && !x.lcLost
    && (idleLanes (attr d GROUP_LANE_MAP g)).any fun k => laneReady d g k && !sliceRegion d (0x300 + laneOf g k)
  if groupSends g = false ∨ free = false then d
  else
    match x.cover with
    | some (4, i) => if part < 5 ∧ i ≠ j then countMove (announceChange g part 4 d) else if part = 5 then returnLs g d else d
    | some _ => d
    | none => if part < 5 ∧ attr d GROUP_SPARE_STATE g = 0 then countMove (announceChange g part 4 d) else d

/-- R497: the spare core replaces the active core that has served longest. -/
def wearVertex (d : Dev) : Dev :=
  let (a, b) := activeCores d
  let c := spareCore d
  if c = 3 ∨ d.vertex ≠ .running ∨ (repairOn d clsDevice 0).isSome then d
  else
    let d1 := stopSlice (0x200 + c) { d with wear := { d.wear with oldest := 1 - d.wear.oldest } }
    countMove (if d.wear.oldest = 0 then setCores c b a d1 else setCores a c b d1)

/-- R497: the stand-in copy of hub control changes. -/
def wearHub (d : Dev) : Dev :=
  if d.bist.failed.any fun r => decide (0x210 ≤ r) && decide (r < 0x213) then d
  else countMove (modBist (fun b => { b with standIn := (b.standIn + 1) % 3 }) d)

/-- R496: a rotation that starts more than two periods after the one before it. -/
def wearLate (d : Dev) : Dev :=
  let late := d.wear.startedAt ≠ 0 ∧ 2 * attr d DEVICE_WEAR_PERIOD 0 * 3600 * nsPerS < d.elapsed + 1 - d.wear.startedAt
  if late ∧ d.faults.behind.contains 5 = false then
    raise clsDevice 0 evBgOverrun 5 (modFaults (fun x => { x with behind := x.behind ++ [5] }) d)
  else if late then d
  else modFaults (fun x => { x with behind := x.behind.filter (· != 5) }) d

/-- R497: a part starts. -/
def wearPart (d : Dev) : Dev :=
  if armed d tkWear 0 ∧ due d tkWear 0 = false ∨ attr d DEVICE_WEAR_ENABLE 0 = 0 ∨ d.phase ≠ .ready ∨ d.brownout.isSome = true then d
  else
    let part := d.wear.part % 5 + 1
    let d1 := arm tkWear 0 (attr d DEVICE_WEAR_PERIOD 0 * 720 * nsPerS) { d with wear := { d.wear with part := part } }
    let d2 :=
      if part = 1 then
        let e := wearLate d1
        wearHub (wearVertex { e with wear := { e.wear with startedAt := e.elapsed + 1 } })
      else d1
    forAll (List.range 32) (wearGroup part) (forAll (List.range 32) (wearFacet part) d2)

/-! ### Aging (R498) -/

/-- The entry of a list that lies farthest from 0. -/
def farthest (l : List Int) : Int := l.foldl (fun b x => if b.natAbs < x.natAbs then x else b) 0

/-- R498: the hourly comparison on a die. -/
def agingCheck (die : Nat) (changes : List Int) (d : Dev) : Dev :=
  if armed d tkAging die ∧ due d tkAging die = false ∨ d.phase ≠ .ready ∨ d.brownout.isSome = true then d
  else
    let v := farthest changes
    let d1 := setAttrInt DIE_AGING die v (arm tkAging die (3600 * nsPerS) d)
    if v ≤ -10 ∧ d.aged.contains die = false then raise clsDie die evAgingWarn (attr d1 DIE_AGING die) { d1 with aged := die :: d.aged } else d1

/-! ### Telemetry (R499) -/

/-- The highest entry of a list that is not empty. -/
def hottest : List Int → Option Int
  | [] => none
  | x :: r => some (r.foldl max x)

/-- R387, R499: a junction above 125 degrees C. -/
def junctionLimit : Int := 1250

/-- R499: the sample of one die. -/
def dieTemp (die : Nat) (sensors : List Int) (d : Dev) : Dev :=
  match hottest sensors with
  | none => d
  | some t =>
    let warn := attrInt d DEVICE_TEMP_WARN 0
    let d1 := setAttrInt DIE_TEMP_MAX die (max (attrInt d DIE_TEMP_MAX die) t) (setAttrInt DIE_TEMP die t d)
    let d2 :=
      if warn < t ∧ d.hot.contains die = false then raise clsDie die evTempHigh (unsignedOf 16 (t / 10)) { d1 with hot := die :: d.hot }
      else if t ≤ warn - 50 then { d1 with hot := d.hot.filter (· != die) }
      else d1
    if junctionLimit < t ∧ d.tooHot.contains die = false then unmasked clsDie die 0xFF 10 unmTemperature { d2 with tooHot := die :: d.tooHot }
    else if t ≤ junctionLimit then { d2 with tooHot := d.tooHot.filter (· != die) }
    else d2

/-- R496: the share of the millisecond now ending, and the highest of the last second. -/
def noteShare (share : Nat) (d : Dev) : Dev :=
  let l := (share :: d.shares).take 1000
  setAttr DEVICE_BG_SHARE_PEAK 0 (l.foldl max 0) { d with shares := l }

/-- R499: a sample. -/
def telemetry (junctions : List (List Int)) (rails : List (BitVec 16)) (share : Nat) (d : Dev) : Dev :=
  if armed d tkTelemetry 0 ∧ due d tkTelemetry 0 = false ∨ d.phase ≠ .ready ∨ d.brownout.isSome = true then d
  else
    let d1 := noteShare share (arm tkTelemetry 0 nsPerMs d)
    let d2 := setBlock DEVICE_RAIL_MV 0 ((List.range 6).flatMap fun k => toLE (rails.getD k 0).toNat 2) d1
    forAll [0, 1, 2] (fun die => dieTemp die (junctions.getD die [])) d2

/-! ### Rows -/

/-- R497: the WEAR_ROTATION_PART row. -/
def execWearRotationPart (s : State) : Out := onDev wearPart s

/-- R498: the AGING_CHECK row. -/
def execAgingCheck (die : Fin 3) (changes : List Int) (s : State) : Out := onDev (agingCheck die changes) s

/-- R499: the TELEMETRY_SAMPLE row. -/
def execTelemetrySample (junctions : List (List Int)) (rails : List (BitVec 16)) (share : BitVec 16) (s : State) : Out :=
  onDev (telemetry junctions rails share.toNat) s

end Sys2Proof.Machine
end

