-- ==== Sys2Proof/Machine/Sha.lean ====
section
/-! DEFINITION. Machine/Sha.lean: SHA-256, by which R504 makes a token and R506 signs an image. The manual names the function and does
not give it (assumption 60). Its constants are computed here from what they stand for: roots of the first primes. -/

namespace Sys2Proof.Machine

/-! ### Constants -/

/-- The largest number of at most `n` bits above `r` whose power `k` does not pass `x`. -/
def rootBits (k x : Nat) : Nat → Nat → Nat
  | 0, r => r
  | n + 1, r => if (r + 2 ^ n) ^ k ≤ x then rootBits k x n (r + 2 ^ n) else rootBits k x n r

/-- The first 32 bits of the fraction of the `k`-th root of a number below 343. -/
def rootFraction (k p : Nat) : BitVec 32 := BitVec.ofNat 32 (rootBits k (p * 2 ^ (32 * k)) 35 0)

/-- The first 64 primes. -/
def shaPrimes : List Nat := (List.range 312).filter fun p => decide (2 ≤ p) && (List.range 18).all fun q => decide (q < 2) || decide (p ≤ q) || p % q != 0

/-! ### A block -/

/-- A word turned right by three amounts, the copies added without carry. -/
def shaSpin (x : BitVec 32) (i j k : Nat) : BitVec 32 := x.rotateRight i ^^^ x.rotateRight j ^^^ x.rotateRight k

/-- As `shaSpin`, the last copy shifted instead. -/
def shaSmear (x : BitVec 32) (i j k : Nat) : BitVec 32 := x.rotateRight i ^^^ x.rotateRight j ^^^ x >>> k

/-- The hash value: eight words. -/
structure ShaSum where
  a : BitVec 32
  b : BitVec 32
  c : BitVec 32
  d : BitVec 32
  e : BitVec 32
  f : BitVec 32
  g : BitVec 32
  h : BitVec 32
  deriving DecidableEq, Repr

/-- One step on the working words, with what the schedule adds to it. -/
def ShaSum.turn (x : ShaSum) (add : BitVec 32) : ShaSum :=
  let t := add + x.h + shaSpin x.e 6 11 25 + (x.g ^^^ (x.e &&& (x.f ^^^ x.g)))
  ⟨t + shaSpin x.a 2 13 22 + ((x.a &&& x.b) ||| (x.c &&& (x.a ||| x.b))), x.a, x.b, x.c, x.d + t, x.e, x.f, x.g⟩

/-- The next sixteen words of the schedule, from the sixteen in use. -/
def shaSlide (w : List (BitVec 32)) : List (BitVec 32) :=
  w.drop 1 ++ [shaSmear (w.getD 14 0) 17 19 10 + w.getD 9 0 + shaSmear (w.getD 1 0) 7 18 3 + w.getD 0 0]

/-- The steps of a block, one for each constant left. -/
def shaTurns : List Nat → List (BitVec 32) → ShaSum → ShaSum
  | [], _, x => x
  | p :: r, w, x => shaTurns r (shaSlide w) (x.turn (rootFraction 3 p + w.getD 0 0))

/-- One block of 64 bytes taken into the hash value. -/
def ShaSum.absorb (x : ShaSum) (bs : List Byte) : ShaSum :=
  let y := shaTurns shaPrimes ((List.range 16).map fun i => BitVec.ofNat 32 (ofLE ((bs.drop (4 * i)).take 4).reverse)) x
  ⟨x.a + y.a, x.b + y.b, x.c + y.c, x.d + y.d, x.e + y.e, x.f + y.f, x.g + y.g, x.h + y.h⟩

/-! ### A message -/

/-- The hash value before the first block. -/
def shaStart : ShaSum :=
  let r := rootFraction 2
  ⟨r 2, r 3, r 5, r 7, r 11, r 13, r 17, r 19⟩

/-- `n` blocks taken into the hash value. -/
def shaBlocks : Nat → List Byte → ShaSum → ShaSum
  | 0, _, x => x
  | n + 1, bs, x => shaBlocks n (bs.drop 64) (x.absorb (bs.take 64))

/-- SHA-256 of a message: 32 bytes. Its blocks are the message, a bit 1, zeros and the message's length in bits. -/
def sha256 (bs : List Byte) : List Byte :=
  let n := (bs.length + 72) / 64
  let padded := fitBytes (bs ++ [0x80#8]) (64 * n - 8) ++ toBE (8 * bs.length) 8
  let x := shaBlocks n padded shaStart
  [x.a, x.b, x.c, x.d, x.e, x.f, x.g, x.h].flatMap fun w => toBE w.toNat 4

end Sys2Proof.Machine
end

