-- ==== Sys2Proof/Machine/Life.lean ====
section
/-! DEFINITION. Machine/Life.lean: the life cycle (R503 to R505) and firmware patches (R506 to R508). -/

namespace Sys2Proof.Machine

/-! ### Tokens and nonces (R504) -/

/-- Life cycle changed. -/
def modLife (f : Life → Life) (d : Dev) : Dev := { d with life := f d.life }

/-- R504: a new random NONCE. -/
def drawNonce (d : Dev) : Dev := setAttr DEVICE_LC_NONCE 0 (freeVal d) (usedFree d)

/-- R504: the key for a target. -/
def tokenKey (target : Nat) : List Byte := fitBytes (if target = 2 then Config.spalothKey else Config.integratorKey) 32

/-- R504: the token that authorises an advance now. -/
def tokenFor (d : Dev) (target : Nat) : List Byte :=
  (sha256 (tokenKey target ++ uidBytes ++ [byteOf target] ++ toLE (attr d DEVICE_LC_NONCE 0) 4)).take 8

/-! ### LC_ADVANCE (R505) -/

/-- R505: LC_ADVANCE. -/
def bodyLcAdvance : Body := fun _ c d =>
  let target := byteAt c.params 0
  need (decide (1 ≤ target) && decide (target ≤ 3) && reservedZero c.params 1 3) stOutOfRange <|
  need (decide (attr d DEVICE_LC_STATE 0 < target)) stLifecycle <|
  need (decide (attr d DEVICE_LC_FAILS 0 < 3)) stRefused <|
    let d1 := drawNonce d
    if (c.params.drop 4).take 8 ≠ tokenFor d target then .ended stRefused [] (bump DEVICE_LC_FAILS 0 1 d1) .keep
    else if d.life.advance.isSome ∨ d.life.commit.isSome then .ended stBusy [] d1 .keep
    else .accept [] (modLife (fun x => { x with advance := some (callRef c, target) }) (addJob c d1))

/-- R476, R505: all self-test stops: the slice under way, a BIST_RUN and the cycle; engines still under test are FAILED. -/
def stopSelfTest (d : Dev) : Dev :=
  let d1 := abortBistRun (modBist (fun b => { b with cycling := false }) d)
  let d2 := match d1.bist.slice with | some x => stopSlice x.region d1 | none => d1
  forAll (List.range 160) (fun i e => if engineState e (i / 5) (i % 5) = 1 then failEngine (i / 5) (i % 5) e else e) d2

/-- R505: the fuses are blown, and the new state applies. -/
def fuseDone (d : Dev) : Dev :=
  match d.life.advance with
  | none => d
  | some (j, target) =>
    let d1 := setAttr DEVICE_LC_STATE 0 target d
    if target = 3 then stopSelfTest (modLife (fun x => { x with erasePending := true, erasing := true }) d1)
    else
      let d2 := if target = 1 then setAttr BIST_POWER_UP 0x600 1 d1 else d1
      complete j clsDevice 0 evLcDone stOk [byteOf target] (modLife (fun x => { x with advance := none }) d2)

/-- R505: bytes that DECOMMISSIONED erases: the patch region and the calibration and configuration region. -/
abbrev lcErased : Nat := 0x600000

/-- R505: what the erase leaves: an empty region, no staged patch, no stored slot. -/
def eraseStores (s : State) : State :=
  let mem := memErase s.mem 0 lcErased
  let d1 := modFaults (fun x => { x with badWords := x.badWords.filter fun w => decide (lcErased ≤ w) }) (noteWrite 0 lcErased s.dev)
  let d2 := refreshStores mem (setAttr DEVICE_FW_STAGE_STATE 0 0 (modLife (fun x => { x with erasePending := false, erasing := false }) d1))
  { s with mem := mem, dev := d2 }

/-- R505: the erase is complete. -/
def lcEraseEnd (s : State) : State :=
  if s.dev.life.erasing = false ∨ s.dev.brownout.isSome = true then s
  else
    let s1 := eraseStores s
    match s1.dev.life.advance with
    | some (j, target) =>
      { s1 with dev := complete j clsDevice 0 evLcDone stOk [byteOf target] (modLife (fun x => { x with advance := none }) s1.dev) }
    | none => s1

/-! ### Patch slots (R506) -/

/-- R506: the MRAM offset of a slot: 0 A, 1 B. -/
def patchBase (slot : Nat) : Nat := 0x100000 * slot

/-- R507: the slot that FW_ACTIVE does not name; A where the ROM runs. -/
def stageSlot (d : Dev) : Nat := if attr d DEVICE_FW_ACTIVE 0 = 1 then 1 else 0

/-- R506: whether LENGTH keeps its rule. -/
def patchLengthOk (n : Nat) : Bool := n % 16 == 0 && decide (16 ≤ n) && decide (n ≤ 1048320)

/-- R506: the CHECK of a slot, from its header and body. -/
def patchCheck (slot : Nat) (h body : List Byte) : Nat := crc32c (toLE (patchBase slot) 4 ++ h.take 252 ++ body)

/-- R506, R525: a slot's GENERATION and VERSION where it is valid. -/
def patchValid (mem : List Host.Cell) (d : Dev) (slot : Nat) : Option (Nat × Nat) :=
  let b := patchBase slot
  let h := memRead mem b 256
  let n := leAt h 16 4
  if leAt h 0 4 ≠ 0x50465A49 ∨ byteAt h 4 ≠ 1 ∨ patchLengthOk n = false then none
  else if badRange d b (256 + n) then none
  else if leAt h 252 4 = patchCheck slot h (memRead mem (b + 256) n) then some (leAt h 192 4, leAt h 8 4)
  else none

/-! ### FW_STAGE (R507) -/

/-- R507: the stage zeroes its slot's header. -/
def zeroHeader (d : Dev) : MemOp := .erase (patchBase (stageSlot d)) 256

/-- R507: a write by the stage: CHANGED in scans of it, and words written are words made good. -/
def noteStage (off n : Nat) (d : Dev) : Dev :=
  let a := patchBase (stageSlot d) + off
  modFaults (fun x => { x with badWords := x.badWords.filter fun w => decide (w + 16 ≤ a) || decide (a + n ≤ w) }) (noteWrite a n d)

/-- R507: FW_STAGE; `lost` where a word written fails its read-back and cannot be remapped: what such a write leaves is a free value. -/
def bodyFwStage (lost : Bool) : Body := fun _ c d =>
  let ps := c.params
  let act := byteAt ps 0
  let off := leAt ps 4 4
  let data := ps.drop 8
  let n := data.length
  need (decide (act ≤ 2) && reservedZero ps 1 3) stOutOfRange <|
  need (if act = 1 then decide (1 ≤ n) && decide (n ≤ 1016) else n == 0) stBadLength <|
  need (attr d DEVICE_LC_STATE 0 != 3) stLifecycle <|
  need (d.life.commit.isNone) stBusy <|
    if act = 0 then
      .done [] (setAttr DEVICE_FW_STAGE_BYTES 0 0 (setAttr DEVICE_FW_STAGE_STATE 0 1 (noteStage 0 256 d))) (zeroHeader d)
    else if act = 2 then .done [] (setAttr DEVICE_FW_STAGE_STATE 0 0 (noteStage 0 256 d)) (zeroHeader d)
    else
      need (decide (off + n ≤ 1048576) && (decide (256 ≤ off) || decide (off + n ≤ 192))) stOutOfRange <|
      need (attr d DEVICE_FW_STAGE_STATE 0 == 1) stPrecondition <|
        let a := patchBase (stageSlot d) + off
        if lost then .ended stAborted [] (usedFree (noteStage off n d)) (.write a (toLE (freeVal d) n))
        else .done [] (bump DEVICE_FW_STAGE_BYTES 0 n (noteStage off n d)) (.write a data)

/-! ### FW_COMMIT (R508) -/

/-- R508: FW_COMMIT. -/
def bodyFwCommit : Body := fun _ c d =>
  need (reservedZero c.params 0 4) stOutOfRange <|
  need (attr d DEVICE_LC_STATE 0 != 3) stLifecycle <|
  need (attr d DEVICE_FW_STAGE_STATE 0 == 1) stPrecondition <|
  need d.life.advance.isNone stBusy <|
    .accept [] (modLife (fun x => { x with commit := some (callRef c) }) (setAttr DEVICE_FW_STAGE_STATE 0 2 (addJob c d)))

/-- R508: the cause for which a staged image is refused; 0 none. -/
def imageFault (mem : List Host.Cell) (d : Dev) (written : Bool) : Nat :=
  let b := patchBase (stageSlot d)
  let h := memRead mem b 256
  let n := leAt h 16 4
  if leAt h 0 4 ≠ 0x50465A49 ∨ byteAt h 4 ≠ 1 then 1
  else if patchLengthOk n = false then 2
  else if Config.romVersion < leAt h 12 4 then 3
  else if badRange d b (256 + n) ∨ Config.signatureGood (sha256 (h.take 128 ++ memRead mem (b + 256) n)) ((h.drop 128).take 64) = false then 4
  else if written then 0 else 5

/-- R508: the generation of a new image. -/
def nextGeneration (d : Dev) : Nat := if attr d DEVICE_FW_ACTIVE 0 = 0 then 1 else d.life.fwGen + 1

/-- R508: the header with GENERATION and CHECK. -/
def sealedHeader (mem : List Host.Cell) (d : Dev) : List Byte :=
  let b := patchBase (stageSlot d)
  let h := memRead mem b 256
  let h1 := h.take 192 ++ toLE (nextGeneration d) 4 ++ (h.drop 196).take 56
  h1 ++ toLE (patchCheck (stageSlot d) h1 (memRead mem (b + 256) (leAt h 16 4))) 4

/-- R508: the verification ends. -/
def verifyEnd (written : Bool) (s : State) : State :=
  match s.dev.life.commit with
  | none => s
  | some j =>
    let d := s.dev
    let cause := imageFault s.mem d written
    let b := patchBase (stageSlot d)
    let d1 := noteStage 0 256 (setAttr DEVICE_FW_STAGE_STATE 0 0 (modLife (fun x => { x with commit := none }) d))
    if cause = 0 then
      let version := leAt (memRead s.mem b 256) 8 4
      { s with mem := memWrite s.mem b (sealedHeader s.mem d), dev := complete j clsDevice 0 evFwDone stOk ([byteOf (stageSlot d)] ++ toLE (nextGeneration d) 4 ++ toLE version 4) d1 }
    else { s with mem := memErase s.mem b 256, dev := complete j clsDevice 0 evFwDone stRefused [byteOf cause] d1 }

/-! ### Rows -/

/-- R507: the FW_STAGE row. -/
def execFwStage (r : Req) (lost : Bool) (s : State) : Out := issueOut 0xC0 (bodyFwStage lost) r s

/-- R508: the FW_COMMIT row. -/
def execFwCommit (r : Req) (s : State) : Out := issueOut 0xC1 bodyFwCommit r s

/-- R505: the LC_ADVANCE row. -/
def execLcAdvance (r : Req) (s : State) : Out := issueOut 0xC4 bodyLcAdvance r s

/-- R505: the LC_FUSE_DONE row. -/
def execLcFuseDone (s : State) : Out := onDev fuseDone s

/-- R505: the LC_ERASE_END row. -/
def execLcEraseEnd (s : State) : Out := .next (lcEraseEnd s)

/-- R508: the FW_VERIFY_END row; in a brownout no MRAM write starts (R391), and the end waits. -/
def execFwVerifyEnd (written : Bool) (s : State) : Out := .next (if s.dev.brownout.isSome then s else verifyEnd written s)

end Sys2Proof.Machine
end

