-- ==== Sys2Proof/Machine/Ownership.lean ====
section
/-! DEFINITION. Machine/Ownership.lean: masters, ownership, event queues and fences (R339 to R365). -/

namespace Sys2Proof.Machine

/-- R340: no owner. -/
abbrev noOwner : Nat := 0xFF

/-- Causes of OWNER_CHANGE (R354). -/
inductive OwnerCause where
  | claim | preempt | handover | released | expired
  deriving DecidableEq, Repr

/-- The code of an OWNER_CHANGE cause. -/
def ownerCauseCode : OwnerCause → Nat
  | .claim => 0 | .preempt => 1 | .handover => 2 | .released => 3 | .expired => 4

/-- R347: a pending handover ends. -/
def endHandover (status : Nat) (d : Dev) : Dev :=
  match d.handover with
  | some j =>
    complete j clsDevice 0 evYieldDone status []
      (disarm tkHandover 0 (setAttr DEVICE_HANDOVER_TARGET 0 0xFF { d with handover := none }))
  | none => d

/-- R354: DETAIL of OWNER_CHANGE. -/
def ownerDetail (old new prio : Nat) (c : OwnerCause) : Nat :=
  old % 16 * 4096 + new % 16 * 256 + ownerCauseCode c * 16 + prio % 16

/-- R348: ownership passes: the epoch, OWNER_CHANGE, and with it the end of a pending handover by R347. -/
def setOwner (new prio lease : Nat) (c : OwnerCause) (d : Dev) : Dev :=
  let old := attr d DEVICE_OWNER 0
  let took := decide (new = attr d DEVICE_HANDOVER_TARGET 0) && decide (new ≠ noOwner)
  let d1 := setAttr DEVICE_LEASE 0 lease (setAttr DEVICE_OWNER_PRIORITY 0 prio (setAttr DEVICE_OWNER 0 new d))
  let d2 := if new = noOwner then disarm tkLease 0 d1 else restartLease d1
  let d3 := raiseAll clsDevice 0 evOwnerChange (ownerDetail old new prio c) (bump DEVICE_OWNER_EPOCH 0 1 d2)
  endHandover (if took then stOk else stAborted) d3

/-- R340: whether a master at a priority is ranked above the owner. -/
def outranks (d : Dev) (m prio : Nat) : Bool :=
  decide (attr d DEVICE_OWNER_PRIORITY 0 < prio)
    || (decide (prio = attr d DEVICE_OWNER_PRIORITY 0) && decide (m < attr d DEVICE_OWNER 0))

/-- R341: the result of CLAIM. -/
def claimResult (d : Dev) : List Byte :=
  [byteOf (attr d DEVICE_OWNER 0), byteOf (attr d DEVICE_OWNER_PRIORITY 0)] ++ toLE (attr d DEVICE_OWNER_EPOCH 0) 4

/-- R341: a lease as given, 0 meaning 500 ms. -/
def leaseOf (v : Nat) : Nat := if v = 0 then 500 else v

/-- R341: the fields of CLAIM and ACCEPT in range. -/
def claimOk (ps : List Byte) : Bool :=
  reservedZero ps 1 1 && decide (byteAt ps 0 ≤ 7) && decide (10 ≤ leaseOf (leAt ps 2 4)) && decide (leaseOf (leAt ps 2 4) ≤ 60000)

/-- R341: CLAIM. -/
def bodyClaim : Body := fun _ c d =>
  let prio := byteAt c.params 0
  let lease := leaseOf (leAt c.params 2 4)
  need (claimOk c.params) stOutOfRange <|
    if attr d DEVICE_OWNER 0 = noOwner then
      let d' := setOwner c.master prio lease .claim d
      okResult (claimResult d') d'
    else if attr d DEVICE_OWNER 0 = c.master then
      let d' := restartLease (setAttr DEVICE_LEASE 0 lease (setAttr DEVICE_OWNER_PRIORITY 0 prio d))
      okResult (claimResult d') d'
    else if outranks d c.master prio then
      let d' := setOwner c.master prio lease .preempt d
      okResult (claimResult d') d'
    else .refuse stConflict (claimResult d)

/-- R343: RENEW. -/
def bodyRenew : Body := fun _ c d =>
  let v := leAt c.params 0 4
  need (v == 0 || (decide (10 ≤ v) && decide (v ≤ 60000))) stOutOfRange <|
    let d' := restartLease (if v = 0 then d else setAttr DEVICE_LEASE 0 v d)
    okResult (toLE (attr d' DEVICE_LEASE 0) 4) d'

/-- R345: YIELD. -/
def bodyYield : Body := fun _ c d =>
  let target := byteAt c.params 0
  let w := leAt c.params 2 2
  let window := if w = 0 then 100 else w
  need (reservedZero c.params 1 1 && decide (target ≠ attr d DEVICE_OWNER 0) && (decide (target ≤ 3) || target == 0xFF)
      && decide (10 ≤ window) && decide (window ≤ 10000)) stOutOfRange <|
    if target = 0xFF then okDev (setOwner noOwner 0xFF 0 .released d)
    else
      need d.handover.isNone stBusy <|
        let d1 := arm tkHandover 0 (window * nsPerMs)
          (setAttr DEVICE_HANDOVER_TARGET 0 target { addJob c d with handover := some (callRef c) })
        .accept [] (raiseTo [target] clsDevice 0 evHandoverOffer (c.master * 16384 + window) d1)

/-- R346: ACCEPT. -/
def bodyAccept : Body := fun _ c d =>
  need (claimOk c.params) stOutOfRange <|
    need (d.handover.isSome && decide (attr d DEVICE_HANDOVER_TARGET 0 = c.master)) stPrecondition <|
      let d' := setOwner c.master (byteAt c.params 0) (leaseOf (leAt c.params 2 4)) .handover d
      okResult (claimResult d') d'

/-- R352: the 16 bytes of a record. -/
def eventBytes (r : EventRec) : List Byte :=
  toLE r.seq 4 ++ toLE r.time 6 ++ [byteOf r.cls] ++ toLE r.inst 2 ++ [byteOf r.type] ++ toLE r.detail 2

/-- R357: EVENTS_READ's fields in range. -/
def eventsReadOk (ps : List Byte) : Bool :=
  decide (byteAt ps 1 < 16) && decide (1 ≤ byteAt ps 0) && decide (byteAt ps 0 ≤ 63)
    && (bitOf (byteAt ps 1) 0 || leAt ps 2 2 == 0)

/-- R357: EVENTS_READ. -/
def bodyEventsRead : Body := fun _ c d =>
  let m := c.master
  let fl := byteAt c.params 1
  need (eventsReadOk c.params) stOutOfRange <|
    let d1 := if bitOf fl 0 then setAttr EVENTQ_FILTER m (leAt c.params 2 2) d else d
    let d2 := if bitOf fl 1 then setAttr EVENTQ_IRQ_EN m (bitNat (bitOf fl 2)) d1 else d1
    let x := master d2 m
    let out := x.events.take (byteAt c.params 0)
    let rest := if bitOf fl 3 then x.events else x.events.drop (byteAt c.params 0)
    let d3 := setMaster m { x with events := rest } d2
    let d4 := if rest.isEmpty then disarm tkSignal m d3 else arm tkSignal m (10 * nsPerMs) d3
    okResult ([byteOf out.length, byteOf (attr d LATTICE_INDEX 0)] ++ toLE rest.length 2 ++ out.flatMap eventBytes) d4

/-- R360: FENCE. -/
def bodyFence : Body := fun _ c d =>
  let t := leAt c.params 2 2
  need (reservedZero c.params 1 1 && decide (byteAt c.params 0 ≤ 1) && decide (t ≤ 60000)) stOutOfRange <|
    let job : Job := ⟨callRef c, c.op, c.params, c.order, false, byteAt c.params 0 == 1, false⟩
    let d1 := { d with jobs := d.jobs ++ [job] }
    .accept [] (if t = 0 then d1 else arm tkFence (256 * c.master + c.tag) (t * nsPerMs) d1)

/-- R362, R363: whether every command that a fence waits for has completed. The rules raise a command's events before
its completion, so those are then queued ahead. -/
def fenceReady (d : Dev) (f : Job) : Bool :=
  (d.jobs.all fun j => decide (f.order ≤ j.order) || !(f.device || j.ref.master == f.ref.master))
    && (d.held.all fun h => decide (f.order ≤ h.call.order) || !(f.device || h.call.master == f.ref.master))

/-- R363: the marker of a device-scope fence on the other queues, with the EVENT_SEQ of its FENCE_DONE. -/
def fenceMark (f : Job) (seq : Nat) (d : Dev) : Dev :=
  let r : EventRec := ⟨seq, d.devTime % 2 ^ 48, clsEventq, f.ref.master, evFenceMark, f.ref.tag * 256 + f.ref.master⟩
  forAll ((List.range 4).filter fun m => m != f.ref.master) (fun m => enqueue m r) d

/-- R362, R363: a fence completes with its conditions met. -/
def finishFence (f : Job) (d : Dev) : Dev :=
  let seq := attr d DEVICE_EVENT_SEQ_NEXT 0
  let d1 := completeBase f.ref clsEventq f.ref.master evFenceDone stOk [] d
  let d2 := if f.device ∧ d.vertex ≠ .halted then fenceMark f seq d1 else d1
  flushFences f.ref.master 16 d2

/-- The outstanding fence of an issuer and tag. -/
def findFence (d : Dev) (j : JobRef) : Option Job :=
  match findJob d j with
  | some f => if f.opcode = 0x28 then some f else none
  | none => none

/-- R364: a fence's TIMEOUT passes: it completes, or waits for an earlier fence of its master. -/
def expireFence (j : JobRef) (d : Dev) : Dev :=
  match findFence d j with
  | none => d
  | some f =>
    if d.jobs.any (fun x => x.opcode == 0x28 && x.ref.master == j.master && decide (x.order < f.order)) then
      { d with jobs := d.jobs.map fun x => if x.ref == j then { x with timedOut := true } else x }
    else completeFence j stTimeout d

/-- R344: the lease ends: no owner. -/
def expireLease (d : Dev) : Dev :=
  if attr d DEVICE_OWNER 0 = noOwner then d else setOwner noOwner 0xFF 0 .expired d

/-! ### The rows -/

/-- R341: the CLAIM row. -/
def execClaim (r : Req) (s : State) : Out := issueOut 0x20 bodyClaim r s

/-- R343: the RENEW row. -/
def execRenew (r : Req) (s : State) : Out := issueOut 0x21 bodyRenew r s

/-- R345: the YIELD row. -/
def execYield (r : Req) (s : State) : Out := issueOut 0x22 bodyYield r s

/-- R346: the ACCEPT row. -/
def execAccept (r : Req) (s : State) : Out := issueOut 0x23 bodyAccept r s

/-- R357: the EVENTS_READ row. -/
def execEventsRead (r : Req) (s : State) : Out := issueOut 0x24 bodyEventsRead r s

/-- R360: the FENCE row. -/
def execFence (r : Req) (s : State) : Out := issueOut 0x28 bodyFence r s

/-- R344: the LEASE_EXPIRY row. -/
def execLeaseExpiry (s : State) : Out := onDev (onExpiry tkLease 0 expireLease) s

/-- R347: the HANDOVER_WINDOW_EXPIRY row. -/
def execHandoverWindowExpiry (s : State) : Out := onDev (onExpiry tkHandover 0 (endHandover stTimeout)) s

/-- R359: the EVENT_SIGNAL_REPEAT row of a master. -/
def execEventSignalRepeat (m : Fin 4) (s : State) : Out :=
  onDev (onExpiry tkSignal m fun d =>
    if (master d m).events.isEmpty then d else arm tkSignal m (10 * nsPerMs) (signal m d)) s

/-- R362, R363: the FENCE_CONDITIONS_MET row of a fence. -/
def execFenceConditionsMet (m : Fin 4) (tag : Byte) (s : State) : Out :=
  onDev (fun d =>
    match findFence d ⟨m, tag.toNat⟩ with
    | some f => if fenceReady d f then finishFence f d else d
    | none => d) s

/-- R364: the FENCE_TIMEOUT row of a fence. -/
def execFenceTimeout (m : Fin 4) (tag : Byte) (s : State) : Out :=
  onDev (onExpiry tkFence (256 * m.val + tag.toNat) (expireFence ⟨m, tag.toNat⟩)) s

end Sys2Proof.Machine
end

