-- ==== Sys2Proof/Machine/Time.lean ====
section
/-! DEFINITION. Machine/Time.lean: the time master (R30), device time (R31, R509 to R512), its pins (R513), and the passing of time. -/

namespace Sys2Proof.Machine

/-- What the time base keeps, changed. -/
def modTime (f : TimeBase → TimeBase) (d : Dev) : Dev := { d with time := f d.time }

/-! ### Steps and slews (R510, R511) -/

/-- R509: SEC of 48 bits and NS. -/
abbrev timeSpan : Nat := 2 ^ 48 * nsPerS

/-- R511: what runs on multiples of device time continues from the next one; where a step has passed one, a pulse and a BIST cycle fall
due once. -/
def rebase (kind period before : Nat) (once : Bool) (d : Dev) : Dev :=
  if period = 0 ∨ armed d kind 0 = false then d
  else if once = true ∧ before / period < d.devTime / period then arm kind 0 0 d
  else armMultiple kind 0 period d

/-- R510: a step, which raises TIME_STEP. -/
def stepTime (by_ : Int) (d : Dev) : Dev :=
  let now := ((Int.ofNat d.devTime + by_) % Int.ofNat timeSpan).toNat
  let d1 := bump TIME_STEPS 0 1 (setAttrInt TIME_LAST_STEP 0 by_ { d with devTime := now })
  let d2 := rebase tkSlow nsPerMs d.devTime false <| rebase tkCycle (3600 * nsPerS) d.devTime true (rebase tkBistSlot (attr d BIST_SLOT_PERIOD 0x600 * nsPerMs) d.devTime false
    (rebase tkPulseOut (attr d TIME_PULSE_OUT_PERIOD 0 * nsPerMs) d.devTime true d1))
  raise clsTime 0 evTimeStep (unsignedOf 16 (max (-32768) (min 32767 (by_.tdiv 1000)))) d2

/-- TIME.SLEW while an offset is being slewed: 100 ppm. -/
def setSlew (left : Int) (d : Dev) : Dev :=
  setAttrInt TIME_SLEW 0 (if left = 0 then 0 else if left < 0 then -100000 else 100000) (modTime (fun t => { t with slewLeft := left }) d)

/-- R510: device time is to move by `off` ns: slewed where that is 1 us or less, else stepped by multiples of 40 ns with the rest slewed;
`left` is what an earlier slew still has to do. -/
def moveTime (left off : Int) (d : Dev) : Dev :=
  if off.natAbs ≤ 1000 then setSlew (off + left) d
  else
    let by_ := off.tdiv 40 * 40
    setSlew (off - by_ + left) (stepTime by_ d)

/-- R510: device time is off by `off` ns from what it should be: an earlier slew is superseded. -/
def applyOffset (off : Int) (d : Dev) : Dev := moveTime 0 off d

/-- One nanosecond of elapsed time; while slewing, one of device time more or less in every 10,000 (R510). -/
def tickTime (d : Dev) : Dev :=
  let t := d.time
  if t.slewLeft = 0 then { d with elapsed := d.elapsed + 1, devTime := (d.devTime + 1) % timeSpan }
  else if t.slewTick + 1 < 10000 then
    { d with elapsed := d.elapsed + 1, devTime := (d.devTime + 1) % timeSpan, time := { t with slewTick := t.slewTick + 1 } }
  else if t.slewLeft < 0 then setSlew (t.slewLeft + 1) { d with elapsed := d.elapsed + 1, time := { t with slewTick := 0 } }
  else setSlew (t.slewLeft - 1) { d with elapsed := d.elapsed + 1, devTime := (d.devTime + 2) % timeSpan, time := { t with slewTick := 0 } }

/-! ### The time master (R30, R31) -/

/-- R165: whether a chord of this member carries. -/
def anyChord (d : Dev) : Bool := (List.range 32).any fun c => let st := blockByte d LATTICE_CHORD_STATE 0 c; st == 2 || st == 3

/-- R30: whether this member is the time master. -/
def isTimeMaster (d : Dev) : Bool := attr d LATTICE_TIME_MASTER 0 == attr d LATTICE_INDEX 0

/-- R30: the lowest of a list of indices. -/
def lowestOf : List Nat → Option Nat
  | [] => none
  | x :: r => some (r.foldl min x)

/-- R30: an election. -/
def elect (others : List (Nat × Bool)) (d : Dev) : Dev :=
  let me := attr d LATTICE_INDEX 0
  let all := (me, attrOn d LATTICE_PULSE_VALID 0) :: (if anyChord d then others else [])
  let winner := match lowestOf ((all.filter (·.2)).map (·.1)) with
    | some i => i
    | none => (lowestOf (all.map (·.1))).getD me
  let members := all.foldl (fun v x => withBit v x.1 true) 0
  let d1 := bump LATTICE_ELECTION_COUNT 0 1 (setAttr LATTICE_MEMBERS 0 members d)
  if attr d LATTICE_TIME_MASTER 0 = winner then d1 else raise clsLattice 0 evTimeMasterChange winner (setAttr LATTICE_TIME_MASTER 0 winner d1)

/-- R31, R512: a follower corrects its time to its upstream chord partner's. -/
def followChord (offset : Int) (valid : Bool) (d : Dev) : Dev :=
  if isTimeMaster d = true ∨ anyChord d = false then d
  else
    let d1 := if valid then setAttr TIME_VALID 0 1 d else d
    applyOffset offset d1

/-! ### TIMEPULSE_IN (R30, R509, R512) -/

/-- The programmed interval of TIMEPULSE_IN. -/
def pulsePeriod (d : Dev) : Nat := attr d TIME_PULSE_IN_PERIOD 0 * nsPerMs

/-- R30: the interval now ending is within 100 ppm of the programmed one. -/
def intervalGood (d : Dev) : Bool :=
  let p := pulsePeriod d
  d.time.pulseAt != 0 && decide ((Int.ofNat (d.elapsed + 1 - d.time.pulseAt) - Int.ofNat p).natAbs * 10000 ≤ p)

/-- R509: the offset to the nearest multiple of the programmed interval. -/
def pulseOffset (d : Dev) : Int :=
  let p := pulsePeriod d
  if p = 0 then 0 else if 2 * (d.devTime % p) ≤ p then -Int.ofNat (d.devTime % p) else Int.ofNat (p - d.devTime % p)

/-- R512: an AT_PULSE takes the edge. -/
def takePulse (x : JobRef × Nat) (d : Dev) : Dev :=
  let d1 := setAttr TIME_VALID 0 1 (applyOffset (Int.ofNat (x.2 * nsPerS) - Int.ofNat d.devTime) d)
  complete x.1 clsTime 0 evTimeDone stOk [] (disarm tkAtPulse (256 * x.1.master + x.1.tag) d1)

/-- R30, R509: a pulse: its interval, PULSE_VALID, and where this member is the time master, the edge disciplines time. -/
def pulseIn (d : Dev) : Dev :=
  let good := if intervalGood d then min 3 (d.time.pulseGood + 1) else 0
  let valid := decide (3 ≤ good)
  let d1 := modTime (fun t => { t with pulseAt := d.elapsed + 1, pulseGood := good }) d
  let d2 := setAttr LATTICE_PULSE_VALID 0 (bitNat valid) (arm tkPulseIn 0 (pulsePeriod d * 3 / 2) d1)
  if valid = true ∧ isTimeMaster d2 = true then
    match d2.time.atPulse with
    | [] => applyOffset (pulseOffset d2) d2
    | l => l.foldl (fun e x => takePulse x e) (modTime (fun t => { t with atPulse := [] }) d2)
  else d2

/-- R509: an edge on TIMEPULSE_IN; only the selected one is a pulse. -/
def pulseEdge (rising : Bool) (d : Dev) : Dev :=
  let d1 := setPin 1 rising d
  if d.phase = .held then d1 else if rising = decide (attr d TIME_PULSE_IN_EDGE 0 = 0) then pulseIn d1 else d1

/-- R30: the pulse is lost. -/
def pulseLost (d : Dev) : Dev := setAttr LATTICE_PULSE_VALID 0 0 (modTime (fun t => { t with pulseGood := 0 }) d)

/-! ### TIME_SET (R512) -/

/-- R512: TIME_SET. -/
def bodyTimeSet : Body := fun _ c d =>
  let ps := c.params
  let mode := byteAt ps 0
  let sec := leAt ps 4 6
  let ns := leAt ps 10 4
  let off := signedOf 64 (leAt ps 14 8)
  need (decide (mode ≤ 2) && reservedZero ps 1 3 && (if mode = 0 then decide (ns < nsPerS) else ns == 0)
    && (if mode = 1 then decide (off.natAbs ≤ 1000000000000000) else off == 0)) stOutOfRange <|
  need (isTimeMaster d && (mode != 2 || attrOn d LATTICE_PULSE_VALID 0)) stPrecondition <|
    if mode = 2 then
      let r := callRef c
      .accept [] (arm tkAtPulse (256 * r.master + r.tag) (2 * pulsePeriod d) (modTime (fun t => { t with atPulse := t.atPulse ++ [(r, sec)] }) (addJob c d)))
    else
      let d1 := setAttr TIME_VALID 0 1 d
      okDev (if mode = 0 then applyOffset (Int.ofNat (sec * nsPerS + ns) - Int.ofNat d.devTime) d1 else moveTime d.time.slewLeft off d1)

/-- R512: no edge came for an AT_PULSE. -/
def atPulseTimeout (r : JobRef) (d : Dev) : Dev :=
  if d.time.atPulse.any fun x => x.1 == r then
    complete r clsTime 0 evTimeDone stTimeout [] (modTime (fun t => { t with atPulse := t.atPulse.filter fun x => !(x.1 == r) }) d)
  else d

/-! ### TIMEPULSE_OUT (R513) -/

/-- R513: TIMEPULSE_OUT rises. -/
def pulseOutRise (d : Dev) : Dev :=
  let p := attr d TIME_PULSE_OUT_PERIOD 0 * nsPerMs
  if p = 0 ∨ d.phase ≠ .ready ∨ multipleDue d tkPulseOut p = false then d
  else arm tkPulseWidth 0 (attr d TIME_PULSE_OUT_WIDTH 0 * nsPerUs) (armMultiple tkPulseOut 0 p (modTime (fun t => { t with pulseOut := true }) d))

/-! ### Rows -/

/-- R512: the TIME_SET row. -/
def execTimeSet (r : Req) (s : State) : Out := issueOut 0xC8 bodyTimeSet r s

/-- R30: the TIME_MASTER_ELECTION row. -/
def execTimeMasterElection (others : List (Fin 8 × Bool)) (s : State) : Out := onDev (elect (others.map fun x => (x.1.val, x.2))) s

/-- R509: the TIMEPULSE_IN_EDGE row. -/
def execTimepulseInEdge (rising : Bool) (s : State) : Out := onDev (pulseEdge rising) s

/-- R30: the TIMEPULSE_IN_LOST row. -/
def execTimepulseInLost (s : State) : Out := onDev (onExpiry tkPulseIn 0 pulseLost) s

/-- R31: the CHORD_TIME_SYNC row. -/
def execChordTimeSync (offset : Int) (valid : Bool) (s : State) : Out := onDev (followChord offset valid) s

/-- R512: the AT_PULSE_TIMEOUT row. -/
def execAtPulseTimeout (master : Fin 4) (tag : Byte) (s : State) : Out :=
  onDev (onExpiry tkAtPulse (256 * master + tag.toNat) (atPulseTimeout ⟨master, tag.toNat⟩)) s

/-- R513: the TIMEPULSE_OUT_PULSE row. -/
def execTimepulseOutPulse (s : State) : Out := onDev pulseOutRise s

/-- R513: the TIMEPULSE_OUT_WIDTH_END row. -/
def execTimepulseOutWidthEnd (s : State) : Out := onDev (onExpiry tkPulseWidth 0 (modTime fun t => { t with pulseOut := false })) s

end Sys2Proof.Machine
end

