-- ==== Sys2Proof/Machine/Vertex.lean ====
section
/-! DEFINITION. Machine/Vertex.lean: the opcode table (R313) and the path of a request packet through the Vertex (R306 to
R312). -/

namespace Sys2Proof.Machine

/-- R313: the command each assigned opcode names; every other opcode is BAD_OPCODE (R5). -/
def bodyOf (op : Nat) : Option Body :=
  match op with
  | 0x00 => some bodyNop
  | 0x01 => some bodyIdent
  | 0x10 => some bodyGet
  | 0x11 => some bodySet
  | 0x12 => some bodyGetBlock
  | 0x13 => some bodySetBlock
  | 0x20 => some bodyClaim
  | 0x21 => some bodyRenew
  | 0x22 => some bodyYield
  | 0x23 => some bodyAccept
  | 0x24 => some bodyEventsRead
  | 0x28 => some bodyFence
  | 0x30 => some bodyPortStart
  | 0x31 => some bodyPortStop
  | 0x32 => some bodyPortQuiet
  | 0x33 => some bodyPortWake
  | 0x34 => some bodyLoadingSwap
  | 0x35 => some bodyChordBind
  | 0x36 => some bodyPortRetrain
  | 0x40 => some bodyFlowOpen
  | 0x41 => some bodyFlowClose
  | 0x42 => some bodyFlowMap
  | 0x50 => some bodyLaneTrain
  | 0x51 => some bodyLaneLoop
  | 0x52 => some bodyPatternRun
  | 0x53 => some bodyLaneIdle
  | 0x60 => some bodyPowerSet
  | 0x61 => some bodyPadRelease
  | 0x62 => some bodyWakeArm
  | 0x70 => some (bodyCalRun [])
  | 0x71 => some bodyCalStore
  | 0x72 => some bodyCalReport
  | 0x80 => some bodyBistRun
  | 0x81 => some bodyBistResult
  | 0x88 => some bodyCheckScan
  | 0x89 => some bodyCheckResult
  | 0x90 => some bodyCableScan
  | 0x91 => some bodySnapshot
  | 0x92 => some bodyCountersRead
  | 0xA0 => some bodySvcSend
  | 0xA1 => some bodySvcRecv
  | 0xA2 => some bodySegmentPoll
  | 0xB0 => some bodyFaultLog
  | 0xB1 => some bodyRepair
  | 0xC0 => some (bodyFwStage false)
  | 0xC1 => some bodyFwCommit
  | 0xC4 => some bodyLcAdvance
  | 0xC8 => some bodyTimeSet
  | _ => none

/-! ### Requests that arrive as packets (R299 to R309) -/

/-- A reply to a request that did not advance the sequence (R304): it carries the number the next packet must have. -/
def replyUnsequenced (m op status tag : Nat) (d : Dev) : Dev :=
  placeReply m (buildReply op status m tag (attr d DEVICE_CMD_SEQ_NEXT m) []) d

/-- R309 steps 1 and 2: the status of the first of the two checks that fails. -/
def delimitCheck (raw : List Byte) : Option Nat :=
  if raw.length < 8 then some stBadLength
  else if headerGood raw = false then some stBadCheck
  else if 1024 < packetLength raw ∨ raw.length ≠ 12 + packetLength raw then some stBadLength
  else none

/-- R338: a refusal at steps 1 to 4 is counted by its kind. -/
def countRefusal (m status : Nat) (d : Dev) : Dev :=
  if status = stBadCheck then bump DEVICE_CMD_BAD_CHECK m 1 d
  else if status = stBadLength then bump DEVICE_CMD_BAD_LENGTH m 1 d
  else if status = stSequence then bump DEVICE_CMD_SEQUENCE m 1 d
  else d

/-- A request refused at steps 1 to 4. -/
def refuseRaw (m status : Nat) (raw : List Byte) (d : Dev) : Dev :=
  replyUnsequenced m (byteAt raw 0) status (byteAt raw 3) (countRefusal m status d)

/-- Whether a packet's PCRC matches a sequence number (R303). -/
def pcrcMatches (m seq : Nat) (raw : List Byte) : Bool :=
  packetPcrc raw == pcrc seq m (byteAt raw 3) (packetParams raw)

/-- R309 from step 5 on, for a packet. -/
def takePacket (m seq : Nat) (raw : List Byte) (s : State) : State :=
  takeCall (byteAt raw 1) (bodyOf (byteAt raw 0)) ⟨m, byteAt raw 3, byteAt raw 0, packetParams raw, 0, raw, seq⟩ s

/-- R308: a packet whose PCRC matches the number before the expected one. -/
def takeDuplicate (m : Nat) (raw : List Byte) (d : Dev) : Dev :=
  match (master d m).stored with
  | none => refuseRaw m stBadCheck raw d
  | some (req, rep) =>
    if req = raw then
      let d1 := bump DEVICE_CMD_DUPLICATES m 1 d
      if rep = [] ∨ (2 ≤ m ∧ (master d m).replies.any (fun r => r.bytes == rep)) then d1 else placeReply m rep d1
    else refuseRaw m stSequence raw d

/-- R309: the Vertex takes a packet: steps 1 and 2, then step 4 by R306 to R308, then the rest. -/
def takeRaw (m : Nat) (raw : List Byte) (s : State) : State :=
  let expected := attr s.dev DEVICE_CMD_SEQ_NEXT m
  match delimitCheck raw with
  | some st => { s with dev := refuseRaw m st raw s.dev }
  | none =>
    if byteAt raw 1 % 2 = 1 then
      if pcrcMatches m 0 raw = false then { s with dev := refuseRaw m stBadCheck raw s.dev }
      else if byteAt raw 0 ≠ 0 then { s with dev := refuseRaw m stOutOfRange raw s.dev }
      else takePacket m 0 raw s
    else if pcrcMatches m expected raw then takePacket m expected raw s
    else if pcrcMatches m ((expected + 65535) % 65536) raw then { s with dev := takeDuplicate m raw s.dev }
    else { s with dev := refuseRaw m stBadCheck raw s.dev }

/-- Whether the Vertex serves a waiting request of a master now. -/
def canServe (d : Dev) (m : Nat) : Bool :=
  isReady d && d.vertex == .running && d.brownout.isNone && transportUp d m
    && (decide (2 ≤ m) || decide ((master d m).replies.length < 2)) && (d.held.all fun h => h.call.master != m)

/-- The list without its first element that meets a test. -/
def eraseFirst {α : Type} (p : α → Bool) : List α → List α
  | [] => []
  | x :: r => if p x then r else x :: eraseFirst p r

/-- R312: waiting requests taken in order of arrival, as far as the Vertex can; at most `n`. -/
def pump : Nat → State → State
  | 0, s => s
  | n + 1, s =>
    match s.dev.waiting.find? fun w => canServe s.dev w.1 with
    | none => s
    | some (m, raw) =>
      let d := { s.dev with waiting := eraseFirst (fun w => w.1 == m) s.dev.waiting }
      pump n (takeRaw m raw { s with dev := d })

/-- Every waiting request: two places for each of four masters. -/
def pumpAll (s : State) : State := pump 8 s

/-- A complete packet handed over by a transport (R331, R336): it waits, and the Vertex takes what it can. A command
channel with two requests unanswered answers BUSY (R309 step 3). -/
def submit (m : Nat) (raw : List Byte) (s : State) : State :=
  let d := s.dev
  let raw := withMaster m raw
  if isReady d = false ∨ d.vertex = .halted ∨ transportUp d m = false then s
  else if 2 ≤ m ∧ 2 ≤ unanswered d m then
    { s with dev := refuseRaw m ((delimitCheck raw).getD stBusy) raw d }
  else pumpAll { s with dev := { d with waiting := d.waiting ++ [(m, raw)] } }

end Sys2Proof.Machine
end

