-- ==== Sys2Proof/Machine/Mailbox.lean ====
section
/-! DEFINITION. Machine/Mailbox.lean: the I3C ports and their mailboxes (R325 to R334) and the in-band command channels
(R335 to R337). -/

namespace Sys2Proof.Machine

/-! ### Mailbox registers -/

/-- R330: MBX_STATUS. -/
def mbxStatus (d : Dev) (m : Nat) : Nat :=
  let x := master d m
  128 * bitNat (reqFull d m) + 64 * bitNat (!x.replies.isEmpty) + 32 * bitNat (!x.events.isEmpty) + 16 * bitNat x.errTimeout
    + 8 * bitNat x.errFraming + 4 * bitNat x.errDiscard + 2 * bitNat x.dynAddr.isNone
    + bitNat (isReady d && d.vertex != .halted)

/-- R330: the bytes of registers 0x00 to 0x0C. -/
def mbxRegisters (d : Dev) (m : Nat) : List Byte :=
  let x := master d m
  let rl := match x.replies with
    | r :: _ => r.bytes.length
    | [] => 0
  [0xF1#8, 0x01#8, byteOf (mbxStatus d m), 0x00#8] ++ toLE (x.partialReq.getD []).length 2 ++ toLE rl 2
    ++ toLE x.events.length 2 ++ [byteOf x.ibiLast, byteOf m, byteOf (currentAddr x + 128 * bitNat x.dynAddr.isSome)]

/-- R331: whether a private write header is acknowledged. -/
def writeAcked (d : Dev) (m : Nat) : Bool := isReady d && d.vertex != .halted && !reqFull d m

/-- A transfer begins on a port: a requested IBI is sent first (assumption 8), and a stalled port has its START. -/
def startTransfer (m : Nat) (ack : Bool) (d : Dev) : Dev :=
  modMaster m (fun x =>
    { x with ibi := none, ibiLast := x.ibi.getD x.ibiLast, waitStart := false, busAck := ack, busOut := [] }) d

/-- A private write: `f` where its header is acknowledged. -/
def privateWrite (m : Nat) (f : State → State) (s : State) : State :=
  let ack := writeAcked s.dev m
  let s1 := { s with dev := startTransfer m ack s.dev }
  if ack then f s1 else s1

/-- Where a request being assembled ends (R331): its bytes, and whether bytes beyond its end were written. -/
def requestEnd (m : Nat) (acc : List Byte) : Option (List Byte × Bool) :=
  let raw := withMaster m acc
  if acc.length < 8 then none
  else if headerGood raw = false ∨ 1024 < packetLength raw then some (acc, false)
  else if 12 + packetLength raw ≤ acc.length then
    some (acc.take (12 + packetLength raw), decide (12 + packetLength raw < acc.length))
  else none

/-- R325: a word that fails its parity or CRC, in HDR-DDR. -/
def badWord (d : Dev) (m : Nat) (bad : Bool) : Bool := bad && (master d m).hdr

/-- R325: a request discarded for a bad HDR-DDR word. -/
def discardBad (m : Nat) (d : Dev) : Dev :=
  disarm tkRequest m (modMaster m (fun x => { x with partialReq := none, errFraming := true, protoErr := true }) d)

/-- R331: bytes appended to the request being assembled; a request that ends is handed to the Vertex. -/
def feed (m : Nat) (acc bytes : List Byte) (s : State) : State :=
  let all := acc ++ bytes
  match requestEnd m all with
  | some (raw, extra) =>
    let d := disarm tkRequest m (modMaster m (fun x => { x with partialReq := none, errFraming := x.errFraming || extra }) s.dev)
    submit m raw { s with dev := d }
  | none =>
    let d := modMaster m (fun x => { x with partialReq := some all }) s.dev
    { s with dev := if acc.isEmpty && !bytes.isEmpty then arm tkRequest m (10 * nsPerMs) d else d }

/-- R332: the head reply leaves the queue. -/
def dropReply (m : Nat) (d : Dev) : Dev := modMaster m (fun x => { x with replies := x.replies.drop 1 }) d

/-- R332: a reply read in full leaves at the next REQ_START. -/
def dropRead (m : Nat) (d : Dev) : Dev :=
  modMaster m (fun x => { x with replies := x.replies.dropWhile fun r => r.readFull }) d

/-- R332: `count` bytes of the head reply from `off`; the reading ends at the reply's end or at the GETMRL value. -/
def readReply (m : Nat) (fromStart : Bool) (count : Nat) (d : Dev) : Dev :=
  modMaster m (fun x =>
    match x.replies with
    | [] => { x with busOut := [0x00#8] }
    | r :: rest =>
      let off := if fromStart then 0 else r.read
      let out := (r.bytes.drop off).take (min count x.mrl)
      let pos := off + out.length
      { x with busOut := out, replies := { r with read := pos, readFull := r.readFull || decide (r.bytes.length ≤ pos) } :: rest }) d

/-- A private read: not before READY, since its offset is written first (R331). -/
def privateRead (m : Nat) (fromStart : Bool) (count : Nat) (d : Dev) : Dev :=
  let ack := isReady d && d.vertex != .halted
  let d1 := startTransfer m ack d
  if ack then readReply m fromStart count d1 else d1

/-- R332: an unread reply that has waited DEVICE.REPLY_HOLD. -/
def overdueReply (d : Dev) (m : Nat) (r : Reply) : Bool :=
  !r.readFull && decide (r.since + attr d DEVICE_REPLY_HOLD m * nsPerMs ≤ d.elapsed)

/-- R328: the target reset of one port. -/
def targetReset (m : Nat) (d : Dev) : Dev :=
  let d1 := modMaster m (fun x => { x with partialReq := none, replies := [], stored := none }) d
  let d2 := { d1 with
    waiting := d1.waiting.filter fun w => w.1 != m
    held := d1.held.map fun h => if h.call.master == m then { h with void := true } else h }
  disarm tkRequest m (setAttr DEVICE_CMD_SEQ_NEXT m 0 d2)

/-! ### Common command codes (R326, R327) -/

/-- A common command code on a port that is out of reset; a port in HDR-DDR does not see it before the exit pattern (R325). -/
def onCcc (m : Nat) (f : Master → Master) (s : State) : Out :=
  onDev (fun d => if d.phase = .held ∨ (master d m).hdr = true then d else modMaster m (fun x => f { x with busAck := true, busOut := [], waitStart := false }) d) s

/-- A direct code: answered with NACK by a port that has no dynamic address. -/
def onDirect (m : Nat) (f : Master → Master) (s : State) : Out :=
  onCcc m (fun x => if x.dynAddr.isSome then f x else { x with busAck := false }) s

/-- R326: the provisional ID of a port. -/
def provisionalId (m : Nat) : Nat :=
  mipiMfg * 2 ^ 33 + 2 ^ 32 + crc32c uidBytes / 2 * 2 + m % 2

/-- R327: GETSTATUS: bits [3:0] 1 while an IBI is pending, bit 5 a protocol error. -/
def statusWord (x : Master) : Nat := (if x.ibi.isSome then 1 else 0) + 32 * bitNat x.protoErr

/-! ### The mailbox rows -/

/-- R331: the REQ_START row: a private write at offset 0x40. `bad`: a DDR word failed its parity or CRC (R325). -/
def execReqStart (port : Fin 2) (bytes : List Byte) (bad : Bool) (s : State) : Out :=
  .next <| pumpAll <| privateWrite port (fun t =>
    let d := dropRead port t.dev
    let had := (master d port).partialReq.isSome
    let d1 := disarm tkRequest port (modMaster port (fun x => { x with partialReq := some [], errFraming := x.errFraming || had }) d)
    if badWord d1 port bad then { t with dev := discardBad port d1 } else feed port [] bytes { t with dev := d1 }) s

/-- R331: the REQ_CONT row: a private write at offset 0x41. -/
def execReqCont (port : Fin 2) (bytes : List Byte) (bad : Bool) (s : State) : Out :=
  .next <| privateWrite port (fun t =>
    match (master t.dev port).partialReq with
    | none => { t with dev := modMaster port (fun x => { x with errFraming := true }) t.dev }
    | some acc => if badWord t.dev port bad then { t with dev := discardBad port t.dev } else feed port acc bytes t) s

/-- R332: the REPLY_READ row. -/
def execReplyRead (port : Fin 2) (count : Nat) (s : State) : Out := onDev (privateRead port true count) s

/-- R332: the REPLY_CONT_READ row. -/
def execReplyContRead (port : Fin 2) (count : Nat) (s : State) : Out := onDev (privateRead port false count) s

/-- R330: the CLEAR_ERR row. -/
def execClearErr (port : Fin 2) (s : State) : Out :=
  .next <| privateWrite port (fun t =>
    { t with dev := modMaster port (fun x => { x with errTimeout := false, errFraming := false, errDiscard := false }) t.dev }) s

/-- R330: the REPLY_DONE row. -/
def execReplyDone (port : Fin 2) (s : State) : Out :=
  .next <| pumpAll <| privateWrite port (fun t => { t with dev := dropReply port t.dev }) s

/-- R330: the REQ_ABORT row. -/
def execReqAbort (port : Fin 2) (s : State) : Out :=
  .next <| privateWrite port (fun t =>
    { t with dev := disarm tkRequest port (modMaster port (fun x => { x with partialReq := none }) t.dev) }) s

/-- R334: the MBX_REQUEST_TIMEOUT row. -/
def execMbxRequestTimeout (port : Fin 2) (s : State) : Out :=
  onDev (onExpiry tkRequest port fun d =>
    bump DEVICE_CMD_XFER_TIMEOUTS port 1 (modMaster port (fun x => { x with partialReq := none, errTimeout := true }) d)) s

/-- R332: the REPLY_HOLD_EXPIRY row. -/
def execReplyHoldExpiry (port : Fin 2) (s : State) : Out :=
  let d := s.dev
  .next <|
    if (master d port).replies.any (overdueReply d port) then
      let f := fun x : Master => { x with replies := eraseFirst (overdueReply d port) x.replies, errDiscard := true }
      pumpAll { s with dev := modMaster port f d }
    else s

/-- R334: the I3C_SCL_STALL row: the port waits for a START; the partial request waits for its own limit. -/
def execI3cSclStall (port : Fin 2) (s : State) : Out :=
  onDev (modMaster port fun x => if x.dynAddr.isSome then { x with waitStart := true } else x) s

/-- R334: the I2C_SCL_LOW_TIMEOUT row. -/
def execI2cSclLowTimeout (port : Fin 2) (s : State) : Out :=
  onDev (modMaster port fun x => if x.dynAddr.isNone then { x with waitStart := true } else x) s

/-- R328: the TARGET_RESET row: an action set by RSTACT stands for one pattern, 0x02 as 0x01; of an action above 2 the manual states no
effect (assumption 19). -/
def execTargetReset (port : Fin 2) (s : State) : Out :=
  onDev (fun d => if d.phase = .held then d else
    modMaster port (fun x => { x with rstact := 0 }) (if (master d port).rstact ≤ 2 then targetReset port d else d)) s

/-- R325: the HDR_EXIT row. -/
def execHdrExit (port : Fin 2) (s : State) : Out :=
  onDev (fun d => if d.phase = .held then d else modMaster port (fun x => { x with hdr := false }) d) s

/-- R327: the ENEC row; bit 0 of the event byte is ENINT, the others are ignored. -/
def execEnec (port : Fin 2) (events : Byte) (s : State) : Out :=
  onCcc port (fun x => { x with enint := x.enint || events.toNat.testBit 0 }) s

/-- R327: the DISEC row. -/
def execDisec (port : Fin 2) (events : Byte) (s : State) : Out :=
  onCcc port (fun x => if events.toNat.testBit 0 then { x with enint := false, ibi := none } else x) s

/-- R327: the RSTDAA row. -/
def execRstdaa (port : Fin 2) (s : State) : Out := onCcc port (fun x => { x with dynAddr := none, hdr := false, ibi := none }) s

/-- R327: the ENTDAA row: the port answers with its provisional ID, BCR and DCR and takes the address assigned. -/
def execEntdaa (port : Fin 2) (addr : Fin 128) (s : State) : Out :=
  onCcc port (fun x =>
    if x.dynAddr.isSome then x
    else { x with dynAddr := some addr, busOut := toBE (provisionalId port) 6 ++ [0x26#8, 0x00#8] }) s

/-- R327: the SETMWL row: any value from 16 is stored. -/
def execSetmwl (port : Fin 2) (v : BitVec 16) (s : State) : Out :=
  onCcc port (fun x => if 16 ≤ v.toNat then { x with mwl := v.toNat } else x) s

/-- R327: the GETMWL row. -/
def execGetmwl (port : Fin 2) (s : State) : Out := onDirect port (fun x => { x with busOut := toBE x.mwl 2 }) s

/-- R327: the SETMRL row. -/
def execSetmrl (port : Fin 2) (v : BitVec 16) (s : State) : Out :=
  onCcc port (fun x => if 16 ≤ v.toNat then { x with mrl := v.toNat } else x) s

/-- R327: the GETMRL row: the IBI payload size reported is 1. -/
def execGetmrl (port : Fin 2) (s : State) : Out := onDirect port (fun x => { x with busOut := toBE x.mrl 2 ++ [0x01#8] }) s

/-- R327: the ENTHDR0 row. -/
def execEnthdr0 (port : Fin 2) (s : State) : Out := onCcc port (fun x => if x.dynAddr.isSome then { x with hdr := true } else x) s

/-- R327, R328: the RSTACT row: it defines the action of the next target reset pattern. -/
def execRstact (port : Fin 2) (action : Byte) (s : State) : Out := onCcc port (fun x => { x with rstact := action.toNat }) s

/-- R327: the SETDASA row. -/
def execSetdasa (port : Fin 2) (addr : Fin 128) (s : State) : Out :=
  onCcc port (fun x => if x.dynAddr.isSome then { x with busAck := false } else { x with dynAddr := some addr }) s

/-- R327: the SETNEWDA row. -/
def execSetnewda (port : Fin 2) (addr : Fin 128) (s : State) : Out := onDirect port (fun x => { x with dynAddr := some addr }) s

/-- R326: the GETPID row. -/
def execGetpid (port : Fin 2) (s : State) : Out := onDirect port (fun x => { x with busOut := toBE (provisionalId port) 6 }) s

/-- R326: the GETBCR row. -/
def execGetbcr (port : Fin 2) (s : State) : Out := onDirect port (fun x => { x with busOut := [0x26#8] }) s

/-- R326: the GETDCR row. -/
def execGetdcr (port : Fin 2) (s : State) : Out := onDirect port (fun x => { x with busOut := [0x00#8] }) s

/-- R327: the GETSTATUS row. -/
def execGetstatus (port : Fin 2) (s : State) : Out :=
  onDirect port (fun x => { x with busOut := toBE (statusWord x) 2, protoErr := false }) s

/-- R327: the GETMXDS row: maxWr 0x00, maxRd 0x20. -/
def execGetmxds (port : Fin 2) (s : State) : Out := onDirect port (fun x => { x with busOut := [0x00#8, 0x20#8] }) s

/-- R327: the GETCAPS row: HDR-DDR only (assumption 9). -/
def execGetcaps (port : Fin 2) (s : State) : Out := onDirect port (fun x => { x with busOut := [0x01#8, 0x00#8] }) s

/-! ### The in-band command channels (R335, R336) -/

/-- R335: the most packet bytes a row carries at the width of its pair's receive group. -/
def channelLimit (d : Dev) (m : Nat) : Nat := if attr d GROUP_WIDTH (8 + 4 * (m - 2)) = 3 then 466 else 626

/-- R336: a partial packet discarded and counted. -/
def discardPartial (m : Nat) (d : Dev) : Dev :=
  disarm tkPacket m (bump DEVICE_CMD_XFER_TIMEOUTS m 1 (modMaster m (fun x => { x with partialReq := none }) d))

/-- R336: one fragment: START, END and LEN from the channel header, and the bytes after it. -/
def takeFragment (m : Nat) (start fin : Bool) (bytes : List Byte) (s : State) : State :=
  let s1 := if start && (master s.dev m).partialReq.isSome then { s with dev := discardPartial m s.dev } else s
  let acc := if start then some bytes else ((master s1.dev m).partialReq.map (· ++ bytes))
  match acc with
  | none => s1
  | some all =>
    if fin then submit m all { s1 with dev := disarm tkPacket m (modMaster m (fun x => { x with partialReq := none }) s1.dev) }
    else
      let d := modMaster m (fun x => { x with partialReq := some all }) s1.dev
      { s1 with dev := if start then arm tkPacket m (1 * nsPerMs) d else d }

/-- R336: the payload of an accepted COMMAND row on RX G0 (channel 0, M2) or RX G4 (channel 1, M3). A LEN that breaks its limit
discards the partial packet. -/
def commandPayload (ch : Nat) (payload : List Byte) (s : State) : State :=
  let m := 2 + ch
  let h := ofBE (payload.take 4)
  let len := fieldOf h 25 16
  if transportUp s.dev m = false then s
  else if len = 0 ∨ channelLimit s.dev m < len ∨ payload.length < 4 + len then
    (if (master s.dev m).partialReq.isSome then { s with dev := discardPartial m s.dev } else s)
  else takeFragment m (bitOf h 31) (bitOf h 30) ((payload.drop 4).take len) s

/-- R336: the COMMAND_ROW_RECEIVED row. -/
def execCommandRowReceived (ch : Fin 2) (payload : List Byte) (s : State) : Out := .next (commandPayload ch payload s)

/-- R336: the COMMAND_PACKET_TIMEOUT row. -/
def execCommandPacketTimeout (ch : Fin 2) (s : State) : Out :=
  onDev (fun d => if due d tkPacket (2 + ch.val) then discardPartial (2 + ch.val) d else d) s

/-- R233: the ROW_RECEIVED row of a group; a COMMAND row accepted in its turn goes to its channel (R335). -/
def execRowReceived (g : Fin 32) (words : List (List Nat)) (ls : List Nat) (s : State) : Out :=
  let (p, d) := rowReceived g (words ++ [ls]) s.dev
  .next <|
    match p with
    | some payload => commandPayload (if g.val = 8 then 0 else 1) payload { s with dev := d }
    | none => { s with dev := d }

end Sys2Proof.Machine
end

