-- ==== Sys2Proof/Machine/Resume.lean ====
section
/-! DEFINITION. Machine/Resume.lean: the Vertex going on after a reload, a trial or a brownout (R382, R383, R392), and deferred commands
taken up (R475). -/

namespace Sys2Proof.Machine

/-! ### Deferred commands (R474, R475) -/

/-- R316, R474: the source and type of the completion event of a command that can be deferred. -/
def deferredEvent (op : Nat) (ps : List Byte) : Nat × Nat × Nat :=
  match op with
  | 0x50 => (clsGroup, pairTx (byteAt ps 0), evGroupTrained)
  | 0x52 => (clsLane, leAt ps 0 2, evPatternDone)
  | 0x70 => (clsCal, 256 * byteAt ps 0 + (if leAt ps 2 2 = 0xFFFF then 0 else leAt ps 2 2), evCalDone)
  | 0x71 => (clsCal, 0x0A00, evCalStoreDone)
  | 0x88 => (clsCheck, byteAt ps 0, evCheckDone)
  | _ => (clsBist, 0x600, evBistDone)

/-- R475: a deferred command ends as it is taken up. -/
def endDeferred (job : Job) (status : Nat) (result : List Byte) (d : Dev) : Dev :=
  let (cls, inst, ev) := deferredEvent job.opcode job.params
  complete job.ref cls inst ev status result d

/-- R475: a deferred command meets step 10 of R309 again: it starts, ends, or still waits for its region. -/
def takeUp (r : JobRef) (s : State) : State :=
  let d := s.dev
  match d.jobs.find? fun x => x.ref == r && x.deferred with
  | none => s
  | some job =>
    if isReady d = false ∨ d.vertex ≠ .running ∨ d.brownout.isSome = true then s
    else
      match bodyOf job.opcode with
      | none => s
      | some body =>
        let free := { d with jobs := d.jobs.filter fun x => !(x.ref == r) }
        match body s.mem ⟨r.master, r.tag, job.opcode, job.params, job.order, [], 0⟩ free with
        | .accept _ e => { s with dev := e }
        | .refuse st result => { s with dev := endDeferred job st result d }
        | .done result _ _ => { s with dev := endDeferred job stOk result d }
        | .ended st result _ _ => { s with dev := endDeferred job st result d }
        | .defer => s
        | .hold _ => s

/-! ### Rows -/

/-- R382: the VERTEX_RELOAD_DONE row: the held inputs are executed. -/
def execVertexReloadDone (s : State) : Out := .next (pumpAll { s with dev := reloadDone s.dev })

/-- R383: the CORE_TRIAL_END row. -/
def execCoreTrialEnd (first second : Bool) (s : State) : Out := .next (pumpAll { s with dev := trialEnd first second s.dev })

/-- R392: the SUPPLY_RESTORED row: the Vertex goes on. -/
def execSupplyRestored (rail : Fin 6) (s : State) : Out := .next (pumpAll { s with dev := supplyRestored rail s.dev })

/-- R475: the DEFERRED_TAKE_UP row. -/
def execDeferredTakeUp (master : Fin 4) (tag : Byte) (s : State) : Out := .next (takeUp ⟨master, tag.toNat⟩ s)

end Sys2Proof.Machine
end

