-- ==== Sys2Proof/Machine/Start.lean ====
section
/-! DEFINITION. Machine/Start.lean: reset (R518 to R522) and the start sequence up to start calibration (R523 to R527). -/

namespace Sys2Proof.Machine

/-! ### Reset (R518, R519) -/

/-- R378, R393, R503, R519: the attributes that a reset leaves: what the fuses and the fault log hold. -/
def keptAttrs (d : Dev) (e : Dev) : Dev :=
  [DEVICE_LC_STATE, DEVICE_BOOTS, DEVICE_LOG_NEWEST, DEVICE_LOG_HELD, DEVICE_LOG_WRAPS, DEVICE_PIN_STATE].foldl (fun x a => setAttr a 0 (attr d a 0) x) e

/-- R378, R379, R393: what fault masking keeps over a reset: the log, and what is written in MRAM. -/
def keptFaults (x : Faults) : Faults :=
  { places := x.places, nextSeq := x.nextSeq, remapped := x.remapped.filter (fun w => decide (w < 0x800000)), mramBanks := x.mramBanks,
    sparesUsed := x.sparesUsed.filter (fun s => x.mramBanks.contains s.1), badWords := x.badWords.filter (fun w => decide (w < 0x800000)) }

/-- R518, R519: the block held in reset. -/
def heldDev (d : Dev) : Dev :=
  let fresh : Dev := { freeCount := d.freeCount, phase := .held, faults := keptFaults d.faults, life := { erasePending := d.life.erasePending }, sawCoreOff := d.sawCoreOff, sawResetN := d.sawResetN, sawRail := d.sawRail, railsDown := d.railsDown, resetLow := d.resetLow }
  let e := keptAttrs d fresh
  forAll [0, 1, 2] (fun die x => setAttr DIE_SPARE_WORDS_MIN die (sparesMin x die) x) e

/-- R455: a store cut off leaves its slot invalid. -/
def cutStore (s : State) : List Host.Cell :=
  match s.dev.cal.store with
  | some x => memErase s.mem (slotBase x.slot) 64
  | none => s.mem

/-- R518, R519: Izrath goes into reset; `latch` is what the latches of R522 see. -/
def enterReset (latch : Dev → Dev) (s : State) : State := { s with mem := cutStore s, dev := heldDev (latch s.dev) }

/-- R522: RESET_N seen low. -/
def latchResetN (d : Dev) : Dev := { d with sawResetN := true, resetLow := true }

/-- R522: a rail seen below its reset threshold: below 0.4 V the latches themselves are lost. -/
def latchRail (rail : Nat) (coreOff : Bool) (d : Dev) : Dev :=
  let d1 := { d with railsDown := if d.railsDown.contains rail then d.railsDown else d.railsDown ++ [rail] }
  if coreOff then { d1 with sawCoreOff := true, sawResetN := false, sawRail := none }
  else if d.sawRail.isNone then { d1 with sawRail := some rail } else d1

/-- R522: the cause of a start. -/
def resetCause (d : Dev) : Nat :=
  if d.sawCoreOff then 1
  else match d.sawRail with
    | some r => 4096 * r + 3
    | none => 2

/-! ### Steps 4 and 5 (R526, R527) -/

/-- R458: one entry of a configuration body: class, instance, ID, value bytes. -/
structure ConfigEntry where
  cls : Nat
  inst : Nat
  id : Nat
  value : List Byte
  deriving DecidableEq, Repr

/-- R458: the entries of a body; at most `n`. -/
def configEntries : Nat → List Byte → List ConfigEntry
  | 0, _ => []
  | n + 1, bs =>
    if bs.length < 8 then []
    else
      let len := leAt bs 6 2
      ⟨byteAt bs 0, leAt bs 2 2, leAt bs 4 2, (bs.drop 8).take len⟩ :: configEntries n (bs.drop (8 + len))

/-- R58: the staged tables, whose check waits for the end of the step. -/
def isStaged (a : Attr) : Bool :=
  [PORT_STAGE_LOADING_TX, PORT_STAGE_GAIN_TX, PORT_STAGE_LOADING_RX, PORT_STAGE_GAIN_RX].any fun x => x.code == a.code

/-- R526: an entry applied, or none where it fails its check. -/
def applyEntry (x : ConfigEntry) (d : Dev) : Option Dev :=
  match addressed ⟨x.cls, x.inst, x.id⟩ with
  | none => none
  | some a =>
    if isBlock a then
      if x.value.length ≠ a.size ∨ (isStaged a = false ∧ blockCheck d a x.inst 0 x.value ≠ none) ∨ a.acc = .ro then none
      else some (writeBytes a x.inst 0 x.value d)
    else
      let v := leAt x.value 0 (a.width / 8)
      if x.value.length ≠ a.width / 8 ∨ valueCheck d a x.inst v ≠ none then none else some (writeValue a x.inst v d)

/-- R526: entries applied in order; with how many were skipped and those applied. -/
def applyEntries : List ConfigEntry → List ConfigEntry → Nat → Dev → Dev × Nat × List ConfigEntry
  | [], done, skipped, d => (d, skipped, done)
  | x :: r, done, skipped, d =>
    match applyEntry x d with
    | some e => applyEntries r (x :: done) skipped e
    | none => applyEntries r done (skipped + 1) d

/-- R526: the entries among those applied that belong to a staged pair. -/
def stagedEntries (done : List ConfigEntry) (p : Nat) (la ga : Attr) : Nat :=
  (done.filter fun x => x.cls == clsPort && x.inst == p && (x.id == la.id || x.id == ga.id)).length

/-- R526, R58: a staged pair checked; one that fails is cleared, and its entries count as skipped. -/
def checkStaged (done : List ConfigEntry) (p : Nat) (la ga : Attr) (x : Dev × Nat × Nat) : Dev × Nat × Nat :=
  let (d, applied, skipped) := x
  let n := stagedEntries done p la ga
  if n = 0 ∨ stageOkAt d p (block d la p) (block d ga p) = true then x
  else (setBlock la p [] (setBlock ga p [] d), applied - n, skipped + n)

/-- R526: the configuration applied and counted. -/
def applyConfig (body : List Byte) (d : Dev) : Dev :=
  let (d1, skipped, done) := applyEntries (configEntries body.length body) [] 0 d
  let check := fun x p => checkStaged done p PORT_STAGE_LOADING_RX PORT_STAGE_GAIN_RX (checkStaged done p PORT_STAGE_LOADING_TX PORT_STAGE_GAIN_TX x)
  let (d2, applied, bad) := allPorts.foldl check (d1, done.length, skipped)
  let d3 := setAttr DEVICE_CONFIG_APPLIED 0 applied (setAttr DEVICE_CONFIG_SKIPPED 0 bad d2)
  if bad = 0 then d3 else raise clsDevice 0 evConfigSkipped (min 0xFFFF bad) (startFlag 9 d3)

/-- R526: step 4: the slots of R456 taken. -/
def loadConfig (mem : List Host.Cell) (d : Dev) : Dev :=
  let d1 := refreshStores mem d
  let slot := fun r => if attr d DEVICE_LC_STATE 0 = 3 then none else newestSlot mem d1 r
  let d2 :=
    match slot 1 with
    | some (n, _) =>
      let b := slotBase n
      applyConfig (memRead mem (b + 64) (leAt (memRead mem b 64) 12 4)) (startFlag 1 d1)
    | none => d1
  let stored := (slot 0).isSome
  let d3 := if stored then startFlag 0 d2 else d2
  forAll (itemsOf [0, 1, 2, 3, 4, 5, 6, 7, 8, 9]) (fun i => modItem i fun x => { x with fromStore := stored, atDefault := !stored }) d3

/-- R527: whether a domain is ON from step 5 on: by its BOOT_STATE or for a child of it. -/
def startsOn (d : Dev) (k : Nat) : Bool :=
  attr d DOMAIN_BOOT_STATE k == 0 || (List.range 195).any fun c => (parentsOf c).contains k && attr d DOMAIN_BOOT_STATE c == 0

/-- R527: a domain taken to its start state, its pads latched until READY. -/
def startDomain (on : List Nat) (k : Nat) (d : Dev) : Dev :=
  let d1 := if hasPads k then setAttr DOMAIN_PADS_LATCHED k 1 d else d
  if on.contains k ∨ k = 192 ∨ k = 193 then
    let d2 := setAttr DOMAIN_LAST_WAKE k 7 (setAttr DOMAIN_LAST_WAKE_TIME k d.devTime (setAttr DOMAIN_STATE k 0 d1))
    if 160 ≤ k ∧ k < 168 then restartClock (k - 160) d2 else d2
  else setAttr DOMAIN_STATE k 2 d1

/-- R406, R529: inner pairs with an end that is not ON are in L2. -/
def restInner (d : Dev) : Dev :=
  forAll ((List.range 8).map (8 + ·)) (fun p e => if (innerPairs d).contains p then e else setAttr GROUP_STATE (pairTx p) 5 (setAttr GROUP_STATE (pairRx p) 5 e)) d

/-- R526 to R528: steps 4 and 5, and the start calibration begins with no reference measured. -/
def startSteps (s : State) : State :=
  let d1 := loadConfig s.mem s.dev
  let on := (List.range 195).filter (startsOn d1)
  let d2 := restInner (forAll (List.range 195) (startDomain on) d1)
  { s with dev := setAttr CAL_REF_STATUS 0x0A00 0 { d2 with phase := .calibrate } }

/-! ### Step 3 (R525) -/

/-- R525: why a candidate fails before it is started; 0 where it does not. -/
def patchFault (mem : List Host.Cell) (d : Dev) (slot : Nat) : Nat :=
  let h := memRead mem (patchBase slot) 256
  if (patchValid mem d slot).isNone then 1
  else if Config.romVersion < leAt h 12 4 then 2
  else if Config.signatureGood (sha256 (h.take 128 ++ memRead mem (patchBase slot + 256) (leAt h 16 4))) ((h.drop 128).take 64) = false then 3
  else 0

/-- R525: a candidate rejected. -/
def rejectPatch (slot reason : Nat) (d : Dev) : Dev :=
  raise clsDevice 0 evBootReject (256 * (slot + 1) + reason)
    (startFlag 2 (setAttr DEVICE_BOOT_REJECTS 0 (attr d DEVICE_BOOT_REJECTS 0 + reason * 16 ^ slot) d))

/-- R525: the candidates not yet rejected, by falling GENERATION. -/
def candidates (mem : List Host.Cell) (d : Dev) : List Nat :=
  let head := fun slot => memRead mem (patchBase slot) 256
  let live := [0, 1].filter fun slot => leAt (head slot) 0 4 == 0x50465A49 && attr d DEVICE_BOOT_REJECTS 0 / 16 ^ slot % 16 == 0
  if leAt (head 0) 192 4 < leAt (head 1) 192 4 then live.reverse else live

/-- R525: the next candidate is started, or step 3 ends with the ROM firmware; at most `n` candidates. -/
def nextPatch : Nat → State → State
  | 0, s => startSteps s
  | n + 1, s =>
    match candidates s.mem s.dev with
    | [] => startSteps s
    | slot :: _ =>
      match patchFault s.mem s.dev slot with
      | 0 => { s with dev := arm tkPatchStart 0 (20 * nsPerMs) { s.dev with phase := .patch slot } }
      | r + 1 => nextPatch n { s with dev := rejectPatch slot (r + 1) s.dev }

/-- R525: a started patch has reported its initialisation: it runs. -/
def patchRuns (slot : Nat) (s : State) : State :=
  let h := memRead s.mem (patchBase slot) 256
  let d1 := setAttr DEVICE_FW_VERSION 0 (leAt h 8 4) (setAttr DEVICE_FW_ACTIVE 0 (slot + 1) (disarm tkPatchStart 0 s.dev))
  startSteps { s with dev := modLife (fun x => { x with fwGen := leAt h 192 4 }) d1 }

/-! ### The release of reset (R518, R523) -/

/-- R25, R326, R509, R524, R533: step 1: cause, boots, pins, addresses and a fresh NONCE; time starts. -/
def releaseDev (pins : Nat) (d : Dev) : Dev :=
  let d1 := setAttr DEVICE_RESET_CAUSE 0 (resetCause d) (bump DEVICE_BOOTS 0 1 d)
  let i := fieldOf pins 8 6
  let d2 := setAttr LATTICE_TIME_MASTER 0 i (setAttr LATTICE_MEMBERS 0 (2 ^ i) (setAttr LATTICE_INDEX 0 i (setAttr DEVICE_PIN_STATE 0 pins d1)))
  let d3 := setMaster 1 { staticAddr := 0x5E + bitNat (bitOf pins 10), enint := true } (setMaster 0 { staticAddr := 0x5C + bitNat (bitOf pins 9), enint := true } d2)
  drawNonce { d3 with elapsed := 0, devTime := 0, sawCoreOff := false, sawResetN := false, sawRail := none, railsDown := [], resetLow := false }

/-- R518, R523: the release of reset: steps 1 to 3, and where no patch is to be started 4 and 5. -/
def release (pins : Nat) (romGood : Bool) (s : State) : State :=
  let d := s.dev
  if d.phase ≠ .held ∨ (d.resetLow = false ∧ d.railsDown = []) then s
  else if romGood = false then { s with dev := { d with resetLow := false, railsDown := [] } }
  else
    let s1 := { s with dev := { releaseDev pins d with phase := .stopped } }
    let s2 := if d.life.erasePending then (let e := eraseStores s1; { e with dev := startFlag 7 e.dev }) else s1
    if attr d DEVICE_LC_STATE 0 = 3 then startSteps s2 else nextPatch 2 s2

/-! ### Rows -/

/-- R518: the RAIL_RESET row. -/
def execRailReset (rail : Fin 6) (coreOff : Bool) (s : State) : Out := .next (enterReset (latchRail rail coreOff) s)

/-- R519: the RESET_N_LOW row. -/
def execResetNLow (s : State) : Out := .next (enterReset latchResetN s)

/-- R518: the RESET_RELEASE row. -/
def execResetRelease (pins : BitVec 11) (romGood : Bool) (s : State) : Out := .next (release pins.toNat romGood s)

/-- R525: the PATCH_START_TIMEOUT row. -/
def execPatchStartTimeout (s : State) : Out :=
  .next (match s.dev.phase with
    | .patch slot => if due s.dev tkPatchStart 0 then nextPatch 2 { s with dev := rejectPatch slot 4 (disarm tkPatchStart 0 s.dev) } else s
    | _ => s)

/-- R525: the PATCH_INIT_DONE row. -/
def execPatchInitDone (s : State) : Out :=
  .next (match s.dev.phase with
    | .patch slot => if s.dev.vertex = .running ∧ s.dev.brownout.isNone then patchRuns slot s else s
    | _ => s)

end Sys2Proof.Machine
end

