-- ==== Sys2Proof/Machine/Dispatch.lean ====
section
/-! DEFINITION. Machine/Dispatch.lean: the meaning of each command, one arm each. -/

namespace Sys2Proof.Machine

/-- What a command does to the state. -/
def exec (i : Instr) (s : State) : Host.Outcome State Fault Refusal :=
  match i with
  | .nop r => Sys2Proof.Machine.execNop r s
  | .ident r => Sys2Proof.Machine.execIdent r s
  | .get r => Sys2Proof.Machine.execGet r s
  | .set r => Sys2Proof.Machine.execSet r s
  | .getBlock r => Sys2Proof.Machine.execGetBlock r s
  | .setBlock r => Sys2Proof.Machine.execSetBlock r s
  | .prismPrefixSet h m v => Sys2Proof.Machine.execPrismPrefixSet h m v s
  | .txPsdSet h p v => Sys2Proof.Machine.execTxPsdSet h p v s
  | .rateCapSet h p v => Sys2Proof.Machine.execRateCapSet h p v s
  | .toneMaskSet h p offset data => Sys2Proof.Machine.execToneMaskSet h p offset data s
  | .stageTableWrite h p table offset data => Sys2Proof.Machine.execStageTableWrite h p table offset data s
  | .snrHistIntervalSet h p v => Sys2Proof.Machine.execSnrHistIntervalSet h p v s
  | .snapReadyWrite h v => Sys2Proof.Machine.execSnapReadyWrite h v s
  | .recastTimerSet h p deadline v => Sys2Proof.Machine.execRecastTimerSet h p deadline v s
  | .checkParamSet h unit field v => Sys2Proof.Machine.execCheckParamSet h unit field v s
  | .claim r => Sys2Proof.Machine.execClaim r s
  | .renew r => Sys2Proof.Machine.execRenew r s
  | .yield r => Sys2Proof.Machine.execYield r s
  | .accept r => Sys2Proof.Machine.execAccept r s
  | .eventsRead r => Sys2Proof.Machine.execEventsRead r s
  | .fence r => Sys2Proof.Machine.execFence r s
  | .portStart r => Sys2Proof.Machine.execPortStart r s
  | .portStop r => Sys2Proof.Machine.execPortStop r s
  | .portQuiet r => Sys2Proof.Machine.execPortQuiet r s
  | .portWake r => Sys2Proof.Machine.execPortWake r s
  | .loadingSwap r => Sys2Proof.Machine.execLoadingSwap r s
  | .chordBind r => Sys2Proof.Machine.execChordBind r s
  | .portRetrain r => Sys2Proof.Machine.execPortRetrain r s
  | .flowOpen r => Sys2Proof.Machine.execFlowOpen r s
  | .flowClose r => Sys2Proof.Machine.execFlowClose r s
  | .flowMap r => Sys2Proof.Machine.execFlowMap r s
  | .laneTrain r => Sys2Proof.Machine.execLaneTrain r s
  | .laneLoop r => Sys2Proof.Machine.execLaneLoop r s
  | .patternRun r => Sys2Proof.Machine.execPatternRun r s
  | .laneIdle r => Sys2Proof.Machine.execLaneIdle r s
  | .powerSet r => Sys2Proof.Machine.execPowerSet r s
  | .padRelease r => Sys2Proof.Machine.execPadRelease r s
  | .wakeArm r => Sys2Proof.Machine.execWakeArm r s
  | .calRun r energy => Sys2Proof.Machine.execCalRun r energy s
  | .calStore r => Sys2Proof.Machine.execCalStore r s
  | .calReport r => Sys2Proof.Machine.execCalReport r s
  | .bistRun r => Sys2Proof.Machine.execBistRun r s
  | .bistResult r => Sys2Proof.Machine.execBistResult r s
  | .checkScan r => Sys2Proof.Machine.execCheckScan r s
  | .checkResult r => Sys2Proof.Machine.execCheckResult r s
  | .cableScan r => Sys2Proof.Machine.execCableScan r s
  | .snapshot r => Sys2Proof.Machine.execSnapshot r s
  | .countersRead r => Sys2Proof.Machine.execCountersRead r s
  | .svcSend r => Sys2Proof.Machine.execSvcSend r s
  | .svcRecv r => Sys2Proof.Machine.execSvcRecv r s
  | .segmentPoll r => Sys2Proof.Machine.execSegmentPoll r s
  | .faultLog r => Sys2Proof.Machine.execFaultLog r s
  | .repair r => Sys2Proof.Machine.execRepair r s
  | .fwStage r lost => Sys2Proof.Machine.execFwStage r lost s
  | .fwCommit r => Sys2Proof.Machine.execFwCommit r s
  | .lcAdvance r => Sys2Proof.Machine.execLcAdvance r s
  | .timeSet r => Sys2Proof.Machine.execTimeSet r s
  | .reqStart port bytes bad => Sys2Proof.Machine.execReqStart port bytes bad s
  | .reqCont port bytes bad => Sys2Proof.Machine.execReqCont port bytes bad s
  | .replyRead port count => Sys2Proof.Machine.execReplyRead port count s
  | .replyContRead port count => Sys2Proof.Machine.execReplyContRead port count s
  | .clearErr port => Sys2Proof.Machine.execClearErr port s
  | .replyDone port => Sys2Proof.Machine.execReplyDone port s
  | .reqAbort port => Sys2Proof.Machine.execReqAbort port s
  | .mbxRequestTimeout port => Sys2Proof.Machine.execMbxRequestTimeout port s
  | .replyHoldExpiry port => Sys2Proof.Machine.execReplyHoldExpiry port s
  | .i3cSclStall port => Sys2Proof.Machine.execI3cSclStall port s
  | .i2cSclLowTimeout port => Sys2Proof.Machine.execI2cSclLowTimeout port s
  | .targetReset port => Sys2Proof.Machine.execTargetReset port s
  | .hdrExit port => Sys2Proof.Machine.execHdrExit port s
  | .enec port events => Sys2Proof.Machine.execEnec port events s
  | .disec port events => Sys2Proof.Machine.execDisec port events s
  | .rstdaa port => Sys2Proof.Machine.execRstdaa port s
  | .entdaa port addr => Sys2Proof.Machine.execEntdaa port addr s
  | .setmwl port v => Sys2Proof.Machine.execSetmwl port v s
  | .getmwl port => Sys2Proof.Machine.execGetmwl port s
  | .setmrl port v => Sys2Proof.Machine.execSetmrl port v s
  | .getmrl port => Sys2Proof.Machine.execGetmrl port s
  | .enthdr0 port => Sys2Proof.Machine.execEnthdr0 port s
  | .rstact port action => Sys2Proof.Machine.execRstact port action s
  | .setdasa port addr => Sys2Proof.Machine.execSetdasa port addr s
  | .setnewda port addr => Sys2Proof.Machine.execSetnewda port addr s
  | .getpid port => Sys2Proof.Machine.execGetpid port s
  | .getbcr port => Sys2Proof.Machine.execGetbcr port s
  | .getdcr port => Sys2Proof.Machine.execGetdcr port s
  | .getstatus port => Sys2Proof.Machine.execGetstatus port s
  | .getmxds port => Sys2Proof.Machine.execGetmxds port s
  | .getcaps port => Sys2Proof.Machine.execGetcaps port s
  | .commandRowReceived ch payload => Sys2Proof.Machine.execCommandRowReceived ch payload s
  | .commandPacketTimeout ch => Sys2Proof.Machine.execCommandPacketTimeout ch s
  | .superframeBoundary m clock ms => Sys2Proof.Machine.execSuperframeBoundary m clock ms s
  | .symbolBoundary x => Sys2Proof.Machine.execSymbolBoundary x s
  | .markerDetection p mk => Sys2Proof.Machine.execMarkerDetection p mk s
  | .pilotPowerLoss p => Sys2Proof.Machine.execPilotPowerLoss p s
  | .holdoverTimeout p => Sys2Proof.Machine.execHoldoverTimeout p s
  | .paceRestore p => Sys2Proof.Machine.execPaceRestore p s
  | .ingressRestore p b => Sys2Proof.Machine.execIngressRestore p b s
  | .prismClockSlewEnd m => Sys2Proof.Machine.execPrismClockSlewEnd m s
  | .tsfComputed p f => Sys2Proof.Machine.execTsfComputed p f s
  | .tsfShadowInstall p f x => Sys2Proof.Machine.execTsfShadowInstall p f x s
  | .nextSurveyVisitEnd p surveyed active => Sys2Proof.Machine.execNextSurveyVisitEnd p surveyed active s
  | .admissionRampEnd m => Sys2Proof.Machine.execAdmissionRampEnd m s
  | .nextCoeffHoldExpiry p => Sys2Proof.Machine.execNextCoeffHoldExpiry p s
  | .nextDormantRelaxEnd p => Sys2Proof.Machine.execNextDormantRelaxEnd p s
  | .marginSample regions => Sys2Proof.Machine.execMarginSample regions s
  | .spareTakeover f => Sys2Proof.Machine.execSpareTakeover f s
  | .innerGroupFlowMove f => Sys2Proof.Machine.execInnerGroupFlowMove f s
  | .timeMasterElection others => Sys2Proof.Machine.execTimeMasterElection others s
  | .timepulseInEdge rising => Sys2Proof.Machine.execTimepulseInEdge rising s
  | .timepulseInLost => Sys2Proof.Machine.execTimepulseInLost s
  | .chordTimeSync offset valid => Sys2Proof.Machine.execChordTimeSync offset valid s
  | .containerReceived p word alt times lost => Sys2Proof.Machine.execContainerReceived p word alt times lost s
  | .containerSend p lost => Sys2Proof.Machine.execContainerSend p lost s
  | .renakTimer p seq => Sys2Proof.Machine.execRenakTimer p seq s
  | .holeDeadline p seq => Sys2Proof.Machine.execHoleDeadline p seq s
  | .recastDrained p => Sys2Proof.Machine.execRecastDrained p s
  | .drainWaitTimeout p => Sys2Proof.Machine.execDrainWaitTimeout p s
  | .listenDwellEnd p => Sys2Proof.Machine.execListenDwellEnd p s
  | .pageEnergy p => Sys2Proof.Machine.execPageEnergy p s
  | .negotiateResolution p word legacy => Sys2Proof.Machine.execNegotiateResolution p word legacy s
  | .negotiateTimeout p => Sys2Proof.Machine.execNegotiateTimeout p s
  | .noPartnerTimer p => Sys2Proof.Machine.execNoPartnerTimer p s
  | .clause97LinkFail p => Sys2Proof.Machine.execClause97LinkFail p s
  | .echoDriftRetrain p => Sys2Proof.Machine.execEchoDriftRetrain p s
  | .echoFitHalfAEnd p erle windows partner => Sys2Proof.Machine.execEchoFitHalfAEnd p erle windows partner s
  | .channelProbeDone p snrs => Sys2Proof.Machine.execChannelProbeDone p snrs s
  | .trainPhaseTimeout p x => Sys2Proof.Machine.execTrainPhaseTimeout p x s
  | .echoReadyA p => Sys2Proof.Machine.execEchoReadyA p s
  | .echoReadyB p => Sys2Proof.Machine.execEchoReadyB p s
  | .advance p ps fine => Sys2Proof.Machine.execAdvance p ps fine s
  | .locked p => Sys2Proof.Machine.execLocked p s
  | .probeDone p cls depth => Sys2Proof.Machine.execProbeDone p cls depth s
  | .tables p msg => Sys2Proof.Machine.execTables p msg s
  | .tablesOk p => Sys2Proof.Machine.execTablesOk p s
  | .tablesBad p rule => Sys2Proof.Machine.execTablesBad p rule s
  | .recastGo p sf => Sys2Proof.Machine.execRecastGo p sf s
  | .recastOk p => Sys2Proof.Machine.execRecastOk p s
  | .swapReq p msg => Sys2Proof.Machine.execSwapReq p msg s
  | .swapReply p code => Sys2Proof.Machine.execSwapReply p code s
  | .swapAt p sf dirs => Sys2Proof.Machine.execSwapAt p sf dirs s
  | .retrain p => Sys2Proof.Machine.execRetrain p s
  | .linkStop p => Sys2Proof.Machine.execLinkStop p s
  | .quietReq p mode => Sys2Proof.Machine.execQuietReq p mode s
  | .quietReply p code => Sys2Proof.Machine.execQuietReply p code s
  | .quietAt p sf => Sys2Proof.Machine.execQuietAt p sf s
  | .swapTimeLimit p => Sys2Proof.Machine.execSwapTimeLimit p s
  | .chordFlowMove p => Sys2Proof.Machine.execChordFlowMove p s
  | .svcPreambleDetected p x snr => Sys2Proof.Machine.execSvcPreambleDetected p x snr s
  | .svcHeaderEnd p header => Sys2Proof.Machine.execSvcHeaderEnd p header s
  | .svcEmptyBurst p => Sys2Proof.Machine.execSvcEmptyBurst p s
  | .svcDataFragment p payload => Sys2Proof.Machine.execSvcDataFragment p payload s
  | .svcHello p => Sys2Proof.Machine.execSvcHello p s
  | .svcWakeBurst p => Sys2Proof.Machine.execSvcWakeBurst p s
  | .svcGrantLapse p => Sys2Proof.Machine.execSvcGrantLapse p s
  | .svcBeacon p => Sys2Proof.Machine.execSvcBeacon p s
  | .svcPollGrant p => Sys2Proof.Machine.execSvcPollGrant p s
  | .svcUnsolicitedHello p => Sys2Proof.Machine.execSvcUnsolicitedHello p s
  | .svcFragmentResend p n => Sys2Proof.Machine.execSvcFragmentResend p n s
  | .svcPartialDiscard p n => Sys2Proof.Machine.execSvcPartialDiscard p n s
  | .svcBlankingEnd p => Sys2Proof.Machine.execSvcBlankingEnd p s
  | .wakeSequenceNext p => Sys2Proof.Machine.execWakeSequenceNext p s
  | .segmentPollRetry p n => Sys2Proof.Machine.execSegmentPollRetry p n s
  | .snrHistoryIntervalEnd p => Sys2Proof.Machine.execSnrHistoryIntervalEnd p s
  | .countersSample m => Sys2Proof.Machine.execCountersSample m s
  | .snapshotTrigger r time sf data => Sys2Proof.Machine.execSnapshotTrigger r time sf data s
  | .snapshotArmTimeout r => Sys2Proof.Machine.execSnapshotArmTimeout r s
  | .cableScanListenEnd p noise => Sys2Proof.Machine.execCableScanListenEnd p noise s
  | .cableScanStartTx p => Sys2Proof.Machine.execCableScanStartTx p s
  | .cableScanCorrelationEnd p => Sys2Proof.Machine.execCableScanCorrelationEnd p s
  | .cableScanAnalysisDone p same opposite => Sys2Proof.Machine.execCableScanAnalysisDone p same opposite s
  | .cableScanPartnerEnergy p => Sys2Proof.Machine.execCableScanPartnerEnergy p s
  | .diagnosticPreempt p capture => Sys2Proof.Machine.execDiagnosticPreempt p capture s
  | .rowReceived g words ls => Sys2Proof.Machine.execRowReceived g words ls s
  | .rowSlot g => Sys2Proof.Machine.execRowSlot g s
  | .alignmentSlot g x => Sys2Proof.Machine.execAlignmentSlot g x s
  | .replayTimer g => Sys2Proof.Machine.execReplayTimer g s
  | .quickRetrainTimeout pair => Sys2Proof.Machine.execQuickRetrainTimeout pair s
  | .laneLockLoss l => Sys2Proof.Machine.execLaneLockLoss l s
  | .laneErrorWindow l => Sys2Proof.Machine.execLaneErrorWindow l s
  | .laneSubst g => Sys2Proof.Machine.execLaneSubst g s
  | .sparePatternClean l => Sys2Proof.Machine.execSparePatternClean l s
  | .lcLoss g => Sys2Proof.Machine.execLcLoss g s
  | .trainingFrame l control status request => Sys2Proof.Machine.execTrainingFrame l control status request s
  | .laneTrainPhaseEnd pair ms => Sys2Proof.Machine.execLaneTrainPhaseEnd pair ms s
  | .laneTrainPhaseTimeout pair failTx failRx => Sys2Proof.Machine.execLaneTrainPhaseTimeout pair failTx failRx s
  | .patternRunEnd l found => Sys2Proof.Machine.execPatternRunEnd l found s
  | .l0sDwell g => Sys2Proof.Machine.execL0sDwell g s
  | .l0sExit g => Sys2Proof.Machine.execL0sExit g s
  | .laneTangentBurst g failed => Sys2Proof.Machine.execLaneTangentBurst g failed s
  | .l2EntryTimeout pair => Sys2Proof.Machine.execL2EntryTimeout pair s
  | .farLcRestart pair => Sys2Proof.Machine.execFarLcRestart pair s
  | .startPairRetry pair => Sys2Proof.Machine.execStartPairRetry pair s
  | .hubRound missed again bad => Sys2Proof.Machine.execHubRound missed again bad s
  | .slowWindow last => Sys2Proof.Machine.execSlowWindow last s
  | .failoverReturn f => Sys2Proof.Machine.execFailoverReturn f s
  | .flowDrainComplete f => Sys2Proof.Machine.execFlowDrainComplete f s
  | .flowDrainTimeout f => Sys2Proof.Machine.execFlowDrainTimeout f s
  | .leaseExpiry => Sys2Proof.Machine.execLeaseExpiry s
  | .handoverWindowExpiry => Sys2Proof.Machine.execHandoverWindowExpiry s
  | .eventSignalRepeat m => Sys2Proof.Machine.execEventSignalRepeat m s
  | .fenceConditionsMet m tag => Sys2Proof.Machine.execFenceConditionsMet m tag s
  | .fenceTimeout m tag => Sys2Proof.Machine.execFenceTimeout m tag s
  | .engineFault f e cause => Sys2Proof.Machine.execEngineFault f e cause s
  | .engineFaultVerdict f e pass => Sys2Proof.Machine.execEngineFaultVerdict f e pass s
  | .adcSliceFault p slice => Sys2Proof.Machine.execAdcSliceFault p slice s
  | .adcSliceRecalVerdict p slice pass => Sys2Proof.Machine.execAdcSliceRecalVerdict p slice pass s
  | .portSourceStall p => Sys2Proof.Machine.execPortSourceStall p s
  | .sourceStallRecheck p => Sys2Proof.Machine.execSourceStallRecheck p s
  | .hubControlWindow => Sys2Proof.Machine.execHubControlWindow s
  | .scrubStep die bank word found last => Sys2Proof.Machine.execScrubStep die bank word found last s
  | .vertexDisagree => Sys2Proof.Machine.execVertexDisagree s
  | .vertexReloadDone => Sys2Proof.Machine.execVertexReloadDone s
  | .coreTrialEnd first second => Sys2Proof.Machine.execCoreTrialEnd first second s
  | .supplyLow rail => Sys2Proof.Machine.execSupplyLow rail s
  | .supplyRestored rail => Sys2Proof.Machine.execSupplyRestored rail s
  | .railReset rail coreOff => Sys2Proof.Machine.execRailReset rail coreOff s
  | .logRecordWrite => Sys2Proof.Machine.execLogRecordWrite s
  | .summaryHour => Sys2Proof.Machine.execSummaryHour s
  | .repairTestEnd cls inst pass => Sys2Proof.Machine.execRepairTestEnd cls inst pass s
  | .faultLogEraseEnd => Sys2Proof.Machine.execFaultLogEraseEnd s
  | .powerPrepareAnswer domain => Sys2Proof.Machine.execPowerPrepareAnswer domain s
  | .powerPrepareTimeout => Sys2Proof.Machine.execPowerPrepareTimeout s
  | .domainCommitDone domain sealGood => Sys2Proof.Machine.execDomainCommitDone domain sealGood s
  | .wakeInEdge rising => Sys2Proof.Machine.execWakeInEdge rising s
  | .gpioEdge pin rising => Sys2Proof.Machine.execGpioEdge pin rising s
  | .lineEnergyWake p page => Sys2Proof.Machine.execLineEnergyWake p page s
  | .wakeSetTimer n => Sys2Proof.Machine.execWakeSetTimer n s
  | .wakeOutPulseEnd => Sys2Proof.Machine.execWakeOutPulseEnd s
  | .quietEntryTimeout p => Sys2Proof.Machine.execQuietEntryTimeout p s
  | .quietRefresh p marker corr offset => Sys2Proof.Machine.execQuietRefresh p marker corr offset s
  | .tangentBurstDetected p => Sys2Proof.Machine.execTangentBurstDetected p s
  | .relockDetected p offset => Sys2Proof.Machine.execRelockDetected p offset s
  | .wakeUnanswered p => Sys2Proof.Machine.execWakeUnanswered p s
  | .referenceMeasurement vref rext refclk => Sys2Proof.Machine.execReferenceMeasurement vref rext refclk s
  | .calMeasurementEnd item element deviation range usable last => Sys2Proof.Machine.execCalMeasurementEnd item element deviation range usable last s
  | .calElementSwap item element replaced within => Sys2Proof.Machine.execCalElementSwap item element replaced within s
  | .calCorrectionStep item => Sys2Proof.Machine.execCalCorrectionStep item s
  | .calOverdueTimer item => Sys2Proof.Machine.execCalOverdueTimer item s
  | .calRunOwnerEnd item deviation range lost sliceFailed => Sys2Proof.Machine.execCalRunOwnerEnd item deviation range lost sliceFailed s
  | .calStoreEnd good => Sys2Proof.Machine.execCalStoreEnd good s
  | .bistCycleStart => Sys2Proof.Machine.execBistCycleStart s
  | .bistSlot => Sys2Proof.Machine.execBistSlot s
  | .bistSliceEnd signature applied independent restoreGood margin => Sys2Proof.Machine.execBistSliceEnd signature applied independent restoreGood margin s
  | .bistSliceAbort => Sys2Proof.Machine.execBistSliceAbort s
  | .deferredTakeUp master tag => Sys2Proof.Machine.execDeferredTakeUp master tag s
  | .checkScanEnd unit data partner corrected written readBack => Sys2Proof.Machine.execCheckScanEnd unit data partner corrected written readBack s
  | .wearRotationPart => Sys2Proof.Machine.execWearRotationPart s
  | .agingCheck die changes => Sys2Proof.Machine.execAgingCheck die changes s
  | .telemetrySample junctions rails share => Sys2Proof.Machine.execTelemetrySample junctions rails share s
  | .lcFuseDone => Sys2Proof.Machine.execLcFuseDone s
  | .lcEraseEnd => Sys2Proof.Machine.execLcEraseEnd s
  | .fwVerifyEnd written => Sys2Proof.Machine.execFwVerifyEnd written s
  | .atPulseTimeout master tag => Sys2Proof.Machine.execAtPulseTimeout master tag s
  | .timepulseOutPulse => Sys2Proof.Machine.execTimepulseOutPulse s
  | .timepulseOutWidthEnd => Sys2Proof.Machine.execTimepulseOutWidthEnd s
  | .resetNLow => Sys2Proof.Machine.execResetNLow s
  | .resetRelease pins romGood => Sys2Proof.Machine.execResetRelease pins romGood s
  | .patchStartTimeout => Sys2Proof.Machine.execPatchStartTimeout s
  | .legacyFrameReceived p bytes time corrected lost => Sys2Proof.Machine.execLegacyFrameReceived p bytes time corrected lost s
  | .calPartnerEnergy p => Sys2Proof.Machine.execCalPartnerEnergy p s
  | .patchInitDone => Sys2Proof.Machine.execPatchInitDone s

end Sys2Proof.Machine
end

