-- ==== Sys2Proof/WellFormed.lean ====
section
/-! DEFINITION. WellFormed.lean: commands whose operands the hardware or its surroundings can produce. Most ranges stand in the operand
types; what remains is checked here. -/

namespace Sys2Proof

/-- R299, R309: parameters that a request can carry. -/
def reqOk (r : Req) : Bool := decide (r.params.length ≤ 1024)

/-- R323: 1 to 1,012 data bytes inside a block. -/
def dataOk (size : Nat) (off : BitVec 32) (data : List Byte) : Bool :=
  decide (1 ≤ data.length) && decide (data.length ≤ 1012) && decide (off.toNat + data.length ≤ size)

/-- R34: a tone number. -/
def toneOk (k : Nat) : Bool := decide (k < 512)

/-- R202: error powers of tones. -/
def measureOk (m : SfMeasure) : Bool := m.errs.all (toneOk ·.1)

/-- R75, R79: a coefficient that a port has. -/
def adaptItemOk : AdaptItem → Bool
  | .head t => toneOk t
  | .eq t => toneOk t
  | .next _ t => toneOk t
  | .tail k => decide (k < 2048)

/-- What a port can receive in a symbol. -/
def receivedOk (tones : List (Nat × Cx)) (steps : List AdaptStep) : Bool := tones.all (toneOk ·.1) && steps.all (adaptItemOk ·.item)

/-- R77: a filter of 256 taps. -/
def tapsOk (taps : List Int) : Bool := taps.length == 256

/-- R101: a container codeword of ten-bit symbols, or none. -/
def containerWordOk (w : List Nat) : Bool := (w.length == 136 || w.isEmpty) && w.all fun x => decide (x < 1024)

/-- R225: a lane of a group, LS among them. -/
def laneOk (k : Nat) : Bool := decide (k < 5)

/-- R227: a lane codeword of ten-bit symbols, or none. -/
def laneWordOk (w : List Nat) : Bool := (w.length == 132 || w.isEmpty) && w.all fun x => decide (x < 1024)

/-- R233: one codeword for each of L0 to L3 and LS. -/
def laneWordsOk (ws : List (List Nat)) : Bool := ws.length == 5 && ws.all laneWordOk

/-- R439: a calibrated item: its kind and its owner. -/
def itemOk (i : Nat) : Bool :=
  let o := i % 256
  match i / 256 with
  | 0 | 1 | 2 | 3 | 4 => decide (o < 128)
  | 5 => decide (o < 8)
  | 6 => decide (8 ≤ o) && decide (o < 32)
  | 7 => decide (o < 32)
  | 8 => decide (o < 16)
  | 9 => decide (o < 3)
  | 10 => decide (o = 0)
  | _ => false

/-- A command whose operands can occur. -/
def wellFormed : Instr → Bool
  | .nop r => reqOk r
  | .ident r => reqOk r
  | .get r => reqOk r
  | .set r => reqOk r
  | .getBlock r => reqOk r
  | .setBlock r => reqOk r
  | .prismPrefixSet _ _ _ => true
  | .txPsdSet _ _ _ => true
  | .rateCapSet _ _ _ => true
  | .toneMaskSet _ _ off data => dataOk 64 off data
  | .stageTableWrite _ _ _ off data => dataOk 512 off data
  | .snrHistIntervalSet _ _ _ => true
  | .snapReadyWrite _ _ => true
  | .recastTimerSet _ _ _ _ => true
  | .checkParamSet _ _ _ _ => true
  | .claim r => reqOk r
  | .renew r => reqOk r
  | .yield r => reqOk r
  | .accept r => reqOk r
  | .eventsRead r => reqOk r
  | .fence r => reqOk r
  | .portStart r => reqOk r
  | .portStop r => reqOk r
  | .portQuiet r => reqOk r
  | .portWake r => reqOk r
  | .loadingSwap r => reqOk r
  | .chordBind r => reqOk r
  | .portRetrain r => reqOk r
  | .flowOpen r => reqOk r
  | .flowClose r => reqOk r
  | .flowMap r => reqOk r
  | .laneTrain r => reqOk r
  | .laneLoop r => reqOk r
  | .patternRun r => reqOk r
  | .laneIdle r => reqOk r
  | .powerSet r => reqOk r
  | .padRelease r => reqOk r
  | .wakeArm r => reqOk r
  | .calRun r _ => reqOk r
  | .calStore r => reqOk r
  | .calReport r => reqOk r
  | .bistRun r => reqOk r
  | .bistResult r => reqOk r
  | .checkScan r => reqOk r
  | .checkResult r => reqOk r
  | .cableScan r => reqOk r
  | .snapshot r => reqOk r
  | .countersRead r => reqOk r
  | .svcSend r => reqOk r
  | .svcRecv r => reqOk r
  | .segmentPoll r => reqOk r
  | .faultLog r => reqOk r
  | .repair r => reqOk r
  | .fwStage r _ => reqOk r
  | .fwCommit r => reqOk r
  | .lcAdvance r => reqOk r
  | .timeSet r => reqOk r
  | .reqStart _ _ _ => true
  | .reqCont _ _ _ => true
  | .replyRead _ _ => true
  | .replyContRead _ _ => true
  | .clearErr _ => true
  | .replyDone _ => true
  | .reqAbort _ => true
  | .mbxRequestTimeout _ => true
  | .replyHoldExpiry _ => true
  | .i3cSclStall _ => true
  | .i2cSclLowTimeout _ => true
  | .targetReset _ => true
  | .hdrExit _ => true
  | .enec _ _ => true
  | .disec _ _ => true
  | .rstdaa _ => true
  | .entdaa _ _ => true
  | .setmwl _ _ => true
  | .getmwl _ => true
  | .setmrl _ _ => true
  | .getmrl _ => true
  | .enthdr0 _ => true
  | .rstact _ _ => true
  | .setdasa _ _ => true
  | .setnewda _ _ => true
  | .getpid _ => true
  | .getbcr _ => true
  | .getdcr _ => true
  | .getstatus _ => true
  | .getmxds _ => true
  | .getcaps _ => true
  | .commandRowReceived _ payload => decide (payload.length ≤ 500)
  | .commandPacketTimeout _ => true
  | .superframeBoundary _ _ ms => ms.all measureOk
  | .symbolBoundary x => x.received.all fun y => receivedOk y.tones y.steps
  | .markerDetection _ mk => decide (mk.corr ≤ 1000) && mk.errs.all (toneOk ·.1) && mk.snrs.all (toneOk ·.1) && receivedOk mk.tones mk.steps
  | .pilotPowerLoss _ => true
  | .holdoverTimeout _ => true
  | .paceRestore _ => true
  | .ingressRestore _ _ => true
  | .prismClockSlewEnd _ => true
  | .tsfComputed _ f => tapsOk f.taps
  | .tsfShadowInstall _ f x => tapsOk f.taps && x.correction.all (toneOk ·.1)
  | .nextSurveyVisitEnd _ _ _ => true
  | .admissionRampEnd _ => true
  | .nextCoeffHoldExpiry _ => true
  | .nextDormantRelaxEnd _ => true
  | .marginSample regions => regions.all fun x => decide (x.1 < 3)
  | .spareTakeover _ => true
  | .innerGroupFlowMove _ => true
  | .timeMasterElection _ => true
  | .timepulseInEdge _ => true
  | .timepulseInLost => true
  | .chordTimeSync _ _ => true
  | .containerReceived _ word alt _ lost => containerWordOk word && containerWordOk alt && lost.all fun q => decide (q < 16384)
  | .containerSend _ lost => lost.all fun q => decide (q < 16384)
  | .renakTimer _ _ => true
  | .holeDeadline _ _ => true
  | .recastDrained _ => true
  | .drainWaitTimeout _ => true
  | .listenDwellEnd _ => true
  | .pageEnergy _ => true
  | .negotiateResolution _ _ _ => true
  | .negotiateTimeout _ => true
  | .noPartnerTimer _ => true
  | .clause97LinkFail _ => true
  | .echoDriftRetrain _ => true
  | .echoFitHalfAEnd _ _ _ _ => true
  | .channelProbeDone _ snrs => snrs.all (toneOk ·.1)
  | .trainPhaseTimeout _ _ => true
  | .echoReadyA _ => true
  | .echoReadyB _ => true
  | .advance _ _ _ => true
  | .locked _ => true
  | .probeDone _ _ _ => true
  | .tables _ _ => true
  | .tablesOk _ => true
  | .tablesBad _ _ => true
  | .recastGo _ _ => true
  | .recastOk _ => true
  | .swapReq _ _ => true
  | .swapReply _ _ => true
  | .swapAt _ _ _ => true
  | .retrain _ => true
  | .linkStop _ => true
  | .quietReq _ _ => true
  | .quietReply _ _ => true
  | .quietAt _ _ => true
  | .swapTimeLimit _ => true
  | .chordFlowMove _ => true
  | .svcPreambleDetected _ x _ => decide (x.corr ≤ 1000)
  | .svcHeaderEnd _ _ => true
  | .svcEmptyBurst _ => true
  | .svcDataFragment _ payload => decide (payload.length ≤ 255)
  | .svcHello _ => true
  | .svcWakeBurst _ => true
  | .svcGrantLapse _ => true
  | .svcBeacon _ => true
  | .svcPollGrant _ => true
  | .svcUnsolicitedHello _ => true
  | .svcFragmentResend _ _ => true
  | .svcPartialDiscard _ _ => true
  | .svcBlankingEnd _ => true
  | .wakeSequenceNext _ => true
  | .segmentPollRetry _ _ => true
  | .snrHistoryIntervalEnd _ => true
  | .countersSample _ => true
  | .snapshotTrigger _ _ _ data => decide (data.length ≤ 65536)
  | .snapshotArmTimeout _ => true
  | .cableScanListenEnd _ _ => true
  | .cableScanStartTx _ => true
  | .cableScanCorrelationEnd _ => true
  | .cableScanAnalysisDone _ same opposite => (same ++ opposite).all fun x => decide (x.2 ≤ 0)
  | .cableScanPartnerEnergy _ => true
  | .diagnosticPreempt _ _ => true
  | .rowReceived _ words ls => words.length == 4 && words.all laneWordOk && laneWordOk ls
  | .rowSlot _ => true
  | .alignmentSlot _ x => laneWordsOk x.words && x.measures.all fun m => decide (m.dfe.length ≤ 8)
  | .replayTimer _ => true
  | .quickRetrainTimeout _ => true
  | .laneLockLoss _ => true
  | .laneErrorWindow _ => true
  | .laneSubst _ => true
  | .sparePatternClean _ => true
  | .lcLoss _ => true
  | .trainingFrame _ _ _ _ => true
  | .laneTrainPhaseEnd _ _ => true
  | .laneTrainPhaseTimeout _ failTx failRx => failTx.all laneOk && failRx.all laneOk
  | .patternRunEnd _ _ => true
  | .l0sDwell _ => true
  | .l0sExit _ => true
  | .laneTangentBurst _ failed => failed.all laneOk
  | .l2EntryTimeout _ => true
  | .farLcRestart _ => true
  | .startPairRetry _ => true
  | .hubRound _ _ _ => true
  | .slowWindow last => last.all fun x => decide (x.1 < 32) && laneOk x.2
  | .failoverReturn _ => true
  | .flowDrainComplete _ => true
  | .flowDrainTimeout _ => true
  | .leaseExpiry => true
  | .handoverWindowExpiry => true
  | .eventSignalRepeat _ => true
  | .fenceConditionsMet _ _ => true
  | .fenceTimeout _ _ => true
  | .engineFault _ _ _ => true
  | .engineFaultVerdict _ _ _ => true
  | .adcSliceFault _ _ => true
  | .adcSliceRecalVerdict _ _ _ => true
  | .portSourceStall _ => true
  | .sourceStallRecheck _ => true
  | .hubControlWindow => true
  | .scrubStep _ _ _ _ _ => true
  | .vertexDisagree => true
  | .vertexReloadDone => true
  | .coreTrialEnd _ _ => true
  | .supplyLow _ => true
  | .supplyRestored _ => true
  | .railReset _ _ => true
  | .logRecordWrite => true
  | .summaryHour => true
  | .repairTestEnd cls inst _ => (cls == 1 && inst == 0) || (cls == 4 && decide (inst < 32)) || (cls == 5 && decide (inst < 128)) || (cls == 7 && decide (inst < 32))
  | .faultLogEraseEnd => true
  | .powerPrepareAnswer _ => true
  | .powerPrepareTimeout => true
  | .domainCommitDone _ _ => true
  | .wakeInEdge _ => true
  | .gpioEdge _ _ => true
  | .lineEnergyWake _ _ => true
  | .wakeSetTimer _ => true
  | .wakeOutPulseEnd => true
  | .quietEntryTimeout _ => true
  | .quietRefresh _ marker corr _ => decide (marker ≤ 1000) && decide (corr ≤ 1000)
  | .tangentBurstDetected _ => true
  | .relockDetected _ _ => true
  | .wakeUnanswered _ => true
  | .referenceMeasurement _ _ _ => true
  | .calMeasurementEnd item _ _ _ _ _ => itemOk item
  | .calElementSwap item _ _ _ => itemOk item
  | .calCorrectionStep item => itemOk item
  | .calOverdueTimer item => itemOk item
  | .calRunOwnerEnd item _ _ _ _ => itemOk item
  | .calStoreEnd _ => true
  | .bistCycleStart => true
  | .bistSlot => true
  | .bistSliceEnd _ _ _ _ _ => true
  | .bistSliceAbort => true
  | .deferredTakeUp _ _ => true
  | .checkScanEnd _ _ _ _ _ _ => true
  | .wearRotationPart => true
  | .agingCheck _ _ => true
  | .telemetrySample junctions rails _ => junctions.length == 3 && rails.length == 6
  | .lcFuseDone => true
  | .lcEraseEnd => true
  | .fwVerifyEnd _ => true
  | .atPulseTimeout _ _ => true
  | .timepulseOutPulse => true
  | .timepulseOutWidthEnd => true
  | .resetNLow => true
  | .resetRelease _ _ => true
  | .patchStartTimeout => true
  | .legacyFrameReceived _ bytes _ _ _ => decide (bytes.length ≤ 16384)
  | .calPartnerEnergy _ => true
  | .patchInitDone => true

end Sys2Proof
end

