-- ==== Sys2Proof/Safety.lean ====
section
/-! DEFINITION. Safety.lean: what counts as a safe run: every step completes, and the addressed memory stays in its canonical form. -/

namespace Sys2Proof

open Machine

/-- A step that answers a next state. -/
def Completes (s : State) : Prop := ∃ t, step s = .next t

/-- `n` steps from a state all complete, with the memory canonical throughout. -/
def SafeRun : Nat → State → Prop
  | 0, s => memWf s.mem = true
  | n + 1, s => memWf s.mem = true ∧ ∃ t, step s = .next t ∧ SafeRun n t

/-- Every waiting command has operands that can occur. -/
def QueueOk (s : State) : Prop := ∀ c ∈ s.pending, wellFormed c = true

end Sys2Proof
end

