-- ==== Sys2Proof/Certificates/Slice0/Obligations.lean ====
section
/-! DEFINITION. Certificates/Slice0/Obligations.lean: the statements about the model. A command's result stands as its completion: exec answers a
next state under hypotheses on the state and the operands alone. -/

/-! ### What the statements speak of -/

namespace Sys2Proof.Claims

open Machine

/-- R309 to R313, R317: a request that the Vertex takes at once, whose FLAGS are 0, which its master may issue, whose tag is free, and
for which a place among the sixteen long-running commands of the master is left. -/
abbrev Takes (op : Nat) (r : Req) (s : State) : Prop :=
  canTake s.dev r.master.val = true ∧ r.flags = 0#8
    ∧ (attr s.dev DEVICE_OWNER 0 = r.master.val ∨ nonOwnerMay op r.params = true)
    ∧ findJob s.dev ⟨r.master.val, r.tag.toNat⟩ = none ∧ outstanding s.dev r.master.val < 16

/-- R304, R308, R310: the reply of a request with the expected sequence number stands as the stored reply of its master. -/
abbrev Replied (op status : Nat) (r : Req) (result : List Byte) (s t : State) : Prop :=
  (master t.dev r.master.val).stored =
    some (buildRequest op 0 r.master.val r.tag.toNat (attr s.dev DEVICE_CMD_SEQ_NEXT r.master.val) r.params,
      buildReply op status r.master.val r.tag.toNat (attr s.dev DEVICE_CMD_SEQ_NEXT r.master.val) result)

/-- R306, R342: the block once the sequence of a request has advanced, before its own effect. -/
abbrev Advanced (op : Nat) (r : Req) (s : State) : Dev :=
  { advance r.master.val (attr s.dev DEVICE_CMD_SEQ_NEXT r.master.val)
      (buildRequest op 0 r.master.val r.tag.toNat (attr s.dev DEVICE_CMD_SEQ_NEXT r.master.val) r.params) s.dev with
    nextOrder := s.dev.nextOrder + 1 }

/-- The attributes that replies, events and their queues count in (R306, R338, R349, R367). -/
abbrev counting (b : Attr) : Prop :=
  b.code = DEVICE_CMD_SEQ_NEXT.code ∨ b.code = DEVICE_CMD_EXECUTED.code ∨ b.code = DEVICE_EVENT_SEQ_NEXT.code ∨ b.code = EVENTQ_QUEUED.code
    ∨ b.code = EVENTQ_LOST.code

/-- Every attribute is as before but those listed, by code and instance, and those that count replies and events. -/
def KeepsAttrs (changed : List (Nat × Nat)) (s t : State) : Prop :=
  ∀ (b : Attr) (j : Nat), b.code < 2 ^ 24 → ¬counting b → (b.code, j) ∉ changed → attr t.dev b j = attr s.dev b j

/-- Only attributes, masters, limits and the order count of commands differ: every port, prism, group, lane, flow, domain, block, record
and outstanding command is as before, and so is all of memory. -/
def KeepsUnits (s t : State) : Prop :=
  ∃ as xs ts n, t = { s with dev := { s.dev with attrs := as, masters := xs, timers := ts, nextOrder := n } }

/-- The attributes of a port that follow its loading tables and its rate cap (R59, R67). -/
abbrev rateAttrs (p : Nat) : List (Nat × Nat) :=
  [(PORT_BITS_TX.code, p), (PORT_BITS_RX.code, p), (PORT_NET_RATE_TX.code, p), (PORT_NET_RATE_RX.code, p), (PORT_OVER_CAP.code, p)]

/-- Only the state of one master differs. -/
def OnlyMaster (m : Nat) (s t : State) : Prop := t = { s with dev := setMaster m (master t.dev m) s.dev }

/-- A master's port once a bus transfer addressed to it has begun with an acknowledged header (R325, R333). -/
abbrev heard (x : Master) : Master := { x with ibi := none, ibiLast := x.ibi.getD x.ibiLast, waitStart := false, busAck := true, busOut := [] }

/-- A master's port after a common command code that returned no byte (R327). -/
abbrev told (x : Master) : Master := { x with waitStart := false, busAck := true, busOut := [] }

/-- The commands that can store to the addressed memory, or make the Vertex take waiting packets, which can. -/
def mayStore : Instr → Bool
  | .fwStage _ _ | .reqStart _ _ _ | .reqCont _ _ _ | .replyDone _ | .replyHoldExpiry _ | .commandRowReceived _ _ | .rowReceived _ _ _
  | .vertexReloadDone | .coreTrialEnd _ _ | .supplyRestored _ | .railReset _ _ | .resetNLow | .resetRelease _ _ | .logRecordWrite
  | .faultLogEraseEnd | .calStoreEnd _ | .checkScanEnd _ _ _ _ _ _ | .lcEraseEnd | .fwVerifyEnd _ => true
  | _ => false

/-- The time limit that an expiry row waits for. -/
def limitOf : Instr → Option (Nat × Nat)
  | .leaseExpiry => some (tkLease, 0)
  | .handoverWindowExpiry => some (tkHandover, 0)
  | .eventSignalRepeat m => some (tkSignal, m)
  | .fenceTimeout m tag => some (tkFence, 256 * m.val + tag.toNat)
  | .mbxRequestTimeout port => some (tkRequest, port)
  | .listenDwellEnd p => some (tkDwell, p)
  | .negotiateTimeout p => some (tkNegotiate, p)
  | .noPartnerTimer p => some (tkNoPartner, p)
  | .trainPhaseTimeout p _ => some (tkPhase, p)
  | .swapTimeLimit p => some (tkSwap, p)
  | .snapshotArmTimeout r => some (tkSnapArm, r)
  | .cableScanListenEnd p _ => some (tkScanListen, p)
  | .nextSurveyVisitEnd p _ _ => some (tkSurvey, p)
  | .nextCoeffHoldExpiry p => some (tkCoeffHold, p)
  | .quickRetrainTimeout pair => some (tkQuickRetrain, pair)
  | .sparePatternClean l => some (tkSpareClean, l)
  | .laneTrainPhaseTimeout pair _ _ => some (tkLanePhase, pair)
  | .patternRunEnd l _ => some (tkPattern, l)
  | .l2EntryTimeout pair => some (tkL2, pair)
  | .startPairRetry pair => some (tkStartPair, pair)
  | .sourceStallRecheck p => some (tkSourceStall, p)
  | .failoverReturn f => some (tkFailover, f)
  | .flowDrainTimeout f => some (tkDrain, f)
  | .chordFlowMove p => some (tkChordMove, p)
  | .powerPrepareTimeout => some (tkPrepare, 0)
  | .wakeSetTimer n => some (tkWakeTimer, n)
  | .wakeOutPulseEnd => some (tkWakeOut, 0)
  | .drainWaitTimeout p => some (tkDrainWait, p)
  | .quietEntryTimeout p => some (tkQuietEntry, p)
  | .wakeUnanswered p => some (tkWakeUnanswered, p)
  | .svcGrantLapse p => some (tkGrantLapse, p)
  | .svcFragmentResend p n => some (tkResend, 8 * p.val + n.val)
  | .svcPartialDiscard p n => some (tkPartial, 8 * p.val + n.val)
  | .svcBlankingEnd p => some (tkBlank, p)
  | .wakeSequenceNext p => some (tkWakeNext, p)
  | .segmentPollRetry p n => some (tkPollRetry, 8 * p.val + n.val)
  | .timepulseInLost => some (tkPulseIn, 0)
  | .atPulseTimeout m tag => some (tkAtPulse, 256 * m.val + tag.toNat)
  | .timepulseOutWidthEnd => some (tkPulseWidth, 0)
  | .patchStartTimeout => some (tkPatchStart, 0)
  | _ => none

/-- R304, R309: a packet refused before the sequence advances: its reply, which carries the number that the next packet must have, is placed
where the transport is up; the sequence, the stored request and reply, every unit and all of memory stay. -/
def TurnedAway (m status : Nat) (raw : List Byte) (s t : State) : Prop :=
  (master t.dev m).stored = (master s.dev m).stored ∧ attr t.dev DEVICE_CMD_SEQ_NEXT m = attr s.dev DEVICE_CMD_SEQ_NEXT m
    ∧ (transportUp s.dev m = true → (master t.dev m).replies.map (·.bytes)
        = (master s.dev m).replies.map (·.bytes) ++ [buildReply (byteAt raw 0) status m (byteAt raw 3) (attr s.dev DEVICE_CMD_SEQ_NEXT m) []])
    ∧ KeepsUnits s t

end Sys2Proof.Claims

open Sys2Proof Sys2Proof.Machine Sys2Proof.Claims

/-- One step with a command at the front of the queue runs that command on the state with the queue's rest. -/
def Obligations.step_runs_front : Prop :=
  ∀ (c : Instr) (rest : List Instr) (s : State), step { s with pending := c :: rest } = exec c { s with pending := rest }

/-- R511, R342 and the other limits: no limit ends before its time: a row that stands for the end of a limit does nothing while the limit is not
running or its instant has not come. The model's choice (assumption 2): with an empty queue a step is one nanosecond, in which the limits stand
and only time goes on. -/
def Obligations.limits_end_in_time : Prop :=
  (∀ (c : Instr) (s : State) (k i : Nat), limitOf c = some (k, i) → due s.dev k i = false → exec c s = .next s)
    ∧ (∀ s : State, s.pending = [] →
      (s.dev.phase = .held → step s = .next s)
      ∧ (s.dev.phase ≠ .held →
        ∃ t, step s = .next t ∧ t.pending = [] ∧ t.mem = s.mem ∧ t.dev.elapsed = s.dev.elapsed + 1 ∧ t.dev.timers = s.dev.timers
          ∧ t.dev.masters = s.dev.masters ∧ t.dev.jobs = s.dev.jobs
          ∧ (∀ k i, due s.dev k i = true → due t.dev k i = true)
          ∧ (∀ k i, armed s.dev k i = true → due t.dev k i = false → 2 ≤ timeLeft s.dev k i)
          ∧ (s.dev.time.slewLeft = 0 → t.dev.attrs = s.dev.attrs ∧ t.dev.devTime = (s.dev.devTime + 1) % timeSpan)))

/-- R7, R340, R305, R349, R531: what reset leaves: the state at READY has no owner, no event, no waiting packet and no outstanding command, every
port DOWN, every domain ON, the values of the Reset columns, and a canonical memory. -/
def Obligations.reset_state : Prop :=
  State.reset.pending = [] ∧ State.reset.dev.phase = .ready ∧ State.reset.dev.jobs = [] ∧ State.reset.dev.waiting = []
    ∧ memWf State.reset.mem = true
    ∧ attr State.reset.dev DEVICE_OWNER 0 = noOwner ∧ attr State.reset.dev DEVICE_OWNER_PRIORITY 0 = 0xFF
    ∧ (∀ m, m < 4 → attr State.reset.dev DEVICE_CMD_SEQ_NEXT m = 0 ∧ (master State.reset.dev m).events = [] ∧ (master State.reset.dev m).stored = none
        ∧ attr State.reset.dev EVENTQ_FILTER m = 0xFFFF ∧ attr State.reset.dev EVENTQ_IRQ_EN m = 0)
    ∧ (∀ p, p < 128 → attr State.reset.dev PORT_STATE p = psDown ∧ attrInt State.reset.dev PORT_TX_PSD p = -940 ∧ attr State.reset.dev PORT_RATE_CAP p = 40000
        ∧ attr State.reset.dev PORT_CHORD p = 0xFF)
    ∧ (∀ k, k < 195 → domainState State.reset.dev k = 0)
    ∧ (∀ g, g < 32 → attr State.reset.dev GROUP_STATE g = 0 ∧ attr State.reset.dev GROUP_LANE_MAP g = 0x3210)
    ∧ (∀ f, f < 1024 → attr State.reset.dev FLOW_MAP f = 0xFFFFFFFF)
    ∧ attr State.reset.dev BIST_SLOT_PERIOD 0x600 = 5000 ∧ attr State.reset.dev DEVICE_WEAR_PERIOD 0 = 20 ∧ attr State.reset.dev DEVICE_VERTEX_CORES 0 = 0x24

/-- R483: the addressed memory keeps its canonical form over every step, whatever the command. -/
def Obligations.memory_stays_canonical : Prop :=
  ∀ s t : State, memWf s.mem = true → step s = .next t → memWf t.mem = true

/-- Every command answers with a next state, keeps the queue of commands, and keeps every byte of memory unless it is one of those that can
store. -/
def Obligations.commands_answer_and_keep_memory : Prop :=
  ∀ (c : Instr) (s : State), ∃ t, exec c s = .next t ∧ t.pending = s.pending ∧ (mayStore c = false → t.mem = s.mem)

/-- R299 to R303: a request reads back as the fields it was built from, with its length, and passes the checks of its header and of its
parameters for its own sequence number. -/
def Obligations.request_reads_back : Prop :=
  ∀ (op flags m tag seq : Nat) (ps : List Byte), op < 256 → flags < 256 → m < 4 → tag < 256 → ps.length ≤ 1024 →
    (buildRequest op flags m tag seq ps).length = 12 + ps.length
      ∧ byteAt (buildRequest op flags m tag seq ps) 0 = op ∧ byteAt (buildRequest op flags m tag seq ps) 1 = flags
      ∧ byteAt (buildRequest op flags m tag seq ps) 2 = m ∧ byteAt (buildRequest op flags m tag seq ps) 3 = tag
      ∧ packetLength (buildRequest op flags m tag seq ps) = ps.length ∧ packetParams (buildRequest op flags m tag seq ps) = ps
      ∧ delimitCheck (buildRequest op flags m tag seq ps) = none ∧ pcrcMatches m seq (buildRequest op flags m tag seq ps) = true
      ∧ (∀ n, pcrcMatches m n (buildRequest op flags m tag seq ps) = true → pcrc n m tag ps = pcrc seq m tag ps)

/-- R301: the two seeds keep replies out of request paths: a reply with any tag but 0xFF, for which the two seeds are one, fails the header check
of a request. -/
def Obligations.reply_is_no_request : Prop :=
  ∀ (op status m tag seq : Nat) (result : List Byte), tag < 255 → headerGood (buildReply op status m tag seq result) = false

/-- R299 to R313: a request packet of an assigned opcode, with the number its master is expected to use, does what the row of that opcode does.
-/
def Obligations.packet_runs_its_row : Prop :=
  ∀ (op : Nat) (body : Body) (r : Req) (s : State), op < 256 → bodyOf op = some body → r.flags = 0#8 → r.params.length ≤ 1024 →
    canTake s.dev r.master = true →
    takeRaw r.master (buildRequest op 0 r.master r.tag.toNat (attr s.dev DEVICE_CMD_SEQ_NEXT r.master) r.params) s = issue op body r s

/-- R314: NOP with no parameters answers OK with no result and does nothing beyond the sequence and the lease; with SEQ_SYNC the expected number
becomes 1; with parameters the length is wrong, with no effect. Completes here, each on the conditions of its clause: nop. -/
def Obligations.nop_answers_ok : Prop :=
  ∀ (r : Req) (s : State), canTake s.dev r.master = true → findJob s.dev ⟨r.master.val, r.tag.toNat⟩ = none → r.params.length ≤ 1024 →
    r.flags = 0#8 ∨ r.flags = 1#8 →
    ∃ t, exec (.nop r) s = .next t ∧ KeepsAttrs [] s t ∧ KeepsUnits s t
      ∧ attr t.dev DEVICE_CMD_SEQ_NEXT r.master = (if r.flags = 1#8 then 1 else (attr s.dev DEVICE_CMD_SEQ_NEXT r.master + 1) % 65536)
      ∧ attr t.dev DEVICE_CMD_EXECUTED r.master = (attr s.dev DEVICE_CMD_EXECUTED r.master + 1) % 2 ^ 32
      ∧ (r.flags = 0#8 → Replied 0 (if r.params = [] then stOk else stBadLength) r [] s t)
      ∧ (attr s.dev DEVICE_OWNER 0 = r.master.val → armed t.dev tkLease 0 = true)

/-- R307: a request with SEQ_SYNC is checked with number 0: it is turned away as BAD_CHECK where that fails and as OUT_OF_RANGE where it passes
with an opcode other than NOP; a NOP that passes sets the expected number to 1 and becomes the stored request. No outstanding command is
affected. -/
def Obligations.resynchronisation : Prop :=
  ∀ (m : Fin 4) (raw : List Byte) (s : State), delimitCheck raw = none → byteAt raw 1 % 2 = 1 →
    (takeRaw m raw s).dev.jobs = s.dev.jobs
    ∧ (pcrcMatches m 0 raw = false → TurnedAway m stBadCheck raw s (takeRaw m raw s))
    ∧ (pcrcMatches m 0 raw = true → byteAt raw 0 ≠ 0 → TurnedAway m stOutOfRange raw s (takeRaw m raw s))
    ∧ (pcrcMatches m 0 raw = true → byteAt raw 0 = 0 →
        attr (takeRaw m raw s).dev DEVICE_CMD_SEQ_NEXT m = 1 ∧ ∃ rep, (master (takeRaw m raw s).dev m).stored = some (raw, rep) ∧ byteAt rep 0 = 0)

/-- R308, R309: a packet cut short, too long or with a bad header is turned away; one that matches the number before the expected one is answered
from the stored reply where it is the stored request, as SEQUENCE where it is not, and as BAD_CHECK where none is stored; one that matches
neither number is BAD_CHECK. None of them executes anything. -/
def Obligations.duplicates_and_bad_packets : Prop :=
  ∀ (m : Fin 4) (raw : List Byte) (s : State),
    (∀ st, delimitCheck raw = some st → TurnedAway m st raw s (takeRaw m raw s)
      ∧ attr (takeRaw m raw s).dev DEVICE_CMD_EXECUTED m = attr s.dev DEVICE_CMD_EXECUTED m)
    ∧ (delimitCheck raw = none → byteAt raw 1 % 2 = 0 → pcrcMatches m (attr s.dev DEVICE_CMD_SEQ_NEXT m) raw = false →
      (pcrcMatches m ((attr s.dev DEVICE_CMD_SEQ_NEXT m + 65535) % 65536) raw = false ∨ (master s.dev m).stored = none →
        TurnedAway m stBadCheck raw s (takeRaw m raw s)
          ∧ attr (takeRaw m raw s).dev DEVICE_CMD_BAD_CHECK m = (attr s.dev DEVICE_CMD_BAD_CHECK m + 1) % 2 ^ 32)
      ∧ (∀ req rep, pcrcMatches m ((attr s.dev DEVICE_CMD_SEQ_NEXT m + 65535) % 65536) raw = true → (master s.dev m).stored = some (req, rep) →
        (req ≠ raw → TurnedAway m stSequence raw s (takeRaw m raw s)
          ∧ attr (takeRaw m raw s).dev DEVICE_CMD_SEQUENCE m = (attr s.dev DEVICE_CMD_SEQUENCE m + 1) % 2 ^ 32)
        ∧ (req = raw → rep ≠ [] → (∀ x ∈ (master s.dev m).replies, x.bytes ≠ rep) → transportUp s.dev m = true →
          KeepsUnits s (takeRaw m raw s) ∧ KeepsAttrs [(DEVICE_CMD_DUPLICATES.code, m.val)] s (takeRaw m raw s)
            ∧ attr (takeRaw m raw s).dev DEVICE_CMD_SEQ_NEXT m = attr s.dev DEVICE_CMD_SEQ_NEXT m
            ∧ attr (takeRaw m raw s).dev DEVICE_CMD_DUPLICATES m = (attr s.dev DEVICE_CMD_DUPLICATES m + 1) % 2 ^ 32
            ∧ (master (takeRaw m raw s).dev m).replies.map (·.bytes) = (master s.dev m).replies.map (·.bytes) ++ [rep])))

/-- R316, R317, R318, R349, R350, R352, R356: an event takes the next EVENT_SEQ and goes to the end of each queue whose filter takes it; a queue
that holds 255 takes an OVERFLOW record in its place and counts the loss; a completion goes to its issuer, leaves its record and frees the tag.
-/
def Obligations.events_and_completions : Prop :=
  ∀ d : Dev, d.vertex ≠ .halted →
    (∀ cls inst type detail,
      attr (raise cls inst type detail d) DEVICE_EVENT_SEQ_NEXT 0 = (attr d DEVICE_EVENT_SEQ_NEXT 0 + 1) % 2 ^ 32
      ∧ (∀ m : Fin 4, bitOf (attr d EVENTQ_FILTER m) (category type) = true → (master d m).events.length < 255 →
          (master (raise cls inst type detail d) m).events
            = (master d m).events ++ [⟨attr d DEVICE_EVENT_SEQ_NEXT 0, d.devTime % 2 ^ 48, cls, inst, type, detail % 65536⟩])
      ∧ (∀ m : Fin 4, bitOf (attr d EVENTQ_FILTER m) (category type) = false → (master (raise cls inst type detail d) m).events = (master d m).events)
      ∧ (∀ (m : Fin 4) (x : EventRec), bitOf (attr d EVENTQ_FILTER m) (category type) = true → (master d m).events.length = 255 →
          (master d m).events.getLast? = some x → x.type ≠ evOverflow →
          (master (raise cls inst type detail d) m).events
            = (master d m).events ++ [⟨attr d DEVICE_EVENT_SEQ_NEXT 0, d.devTime % 2 ^ 48, clsEventq, m, evOverflow, 1⟩]
          ∧ attr (raise cls inst type detail d) EVENTQ_LOST m = (attr d EVENTQ_LOST m + 1) % 2 ^ EVENTQ_LOST.width)
      ∧ (∀ (m : Fin 4) (x : EventRec), bitOf (attr d EVENTQ_FILTER m) (category type) = true → (master d m).events.length = 256 →
          (master d m).events.getLast? = some x → x.type = evOverflow →
          (master (raise cls inst type detail d) m).events = (master d m).events.dropLast ++ [{ x with detail := min 0xFFFF (x.detail + 1) }]))
    ∧ (∀ (m : Fin 4) tag cls inst type status result job, tag < 256 → status < 256 → result.length ≤ 1024 → findJob d ⟨m, tag⟩ = some job →
      findJob (complete ⟨m, tag⟩ cls inst type status result d) ⟨m, tag⟩ = none
        ∧ block (complete ⟨m, tag⟩ cls inst type status result d) DEVICE_COMPLETION (256 * m + tag)
          = fitBytes (completionRecord d job.opcode status ⟨m, tag⟩ result) DEVICE_COMPLETION.size
        ∧ (∀ j : JobRef, j ≠ ⟨m, tag⟩ → findJob (complete ⟨m, tag⟩ cls inst type status result d) j = findJob d j)
        ∧ ((master d m).events.length < 255 → (master (complete ⟨m, tag⟩ cls inst type status result d) m).events
            = (master d m).events ++ [⟨attr d DEVICE_EVENT_SEQ_NEXT 0, d.devTime % 2 ^ 48, cls, inst, 128 + type, (tag + 256 * status) % 65536⟩])
        ∧ (∀ k : Fin 4, k ≠ m → (master (complete ⟨m, tag⟩ cls inst type status result d) k).events = (master d k).events))

/-- R306, R314, R320, R322, R502: NOP, IDENT, GET and GET_BLOCK answer with OK and their result, advance the sequence, count the command, and
change no other attribute, no block, no unit and no memory. GET and GET_BLOCK read the block after the sequence has advanced. Completes here,
each on the conditions of its clause: nop, ident, get, getBlock. -/
def Obligations.reads_complete : Prop :=
  ∀ (r : Req) (s : State),
    (Takes 0x00 r s → r.params = [] → ∃ t, exec (.nop r) s = .next t ∧ Replied 0x00 stOk r [] s t
      ∧ attr t.dev DEVICE_CMD_SEQ_NEXT r.master = (attr s.dev DEVICE_CMD_SEQ_NEXT r.master + 1) % 65536
      ∧ KeepsAttrs [] s t ∧ KeepsUnits s t)
    ∧ (Takes 0x01 r s → r.params = [] → ∃ t, exec (.ident r) s = .next t ∧ Replied 0x01 stOk r (identRecord s.dev) s t
      ∧ attr t.dev DEVICE_CMD_SEQ_NEXT r.master = (attr s.dev DEVICE_CMD_SEQ_NEXT r.master + 1) % 65536
      ∧ KeepsAttrs [] s t ∧ KeepsUnits s t)
    ∧ (∀ a : Attr, Takes 0x10 r s → r.params.length = 6 → byteAt r.params 1 = 0 → addressed (addrAt r.params) = some a → isBlock a = false →
        ∃ t, exec (.get r) s = .next t
          ∧ Replied 0x10 stOk r (byteOf (typeCode a) :: toLE (readValue (Advanced 0x10 r s) a (addrAt r.params).inst) (a.width / 8)) s t
          ∧ attr t.dev DEVICE_CMD_SEQ_NEXT r.master = (attr s.dev DEVICE_CMD_SEQ_NEXT r.master + 1) % 65536
          ∧ KeepsAttrs [] s t ∧ KeepsUnits s t)
    ∧ (∀ a : Attr, Takes 0x12 r s → r.params.length = 12 → byteAt r.params 1 = 0 → addressed (addrAt r.params) = some a → isBlock a = true →
        1 ≤ leAt r.params 6 2 → leAt r.params 6 2 ≤ 1020 → leAt r.params 8 4 + leAt r.params 6 2 ≤ a.size →
        ∃ t, exec (.getBlock r) s = .next t
          ∧ Replied 0x12 stOk r (toLE a.size 4 ++ ((readBlock s.dev a (addrAt r.params).inst).drop (leAt r.params 8 4)).take (leAt r.params 6 2)) s t
          ∧ attr t.dev DEVICE_CMD_SEQ_NEXT r.master = (attr s.dev DEVICE_CMD_SEQ_NEXT r.master + 1) % 65536
          ∧ KeepsAttrs [] s t ∧ KeepsUnits s t)

/-- R321: a SET whose address names a value attribute other than DEVICE.SNAP_READY, with the attribute's length and reserved bytes 0, a value
that the access column, its range and its state condition allow: the attribute holds the value, every block and all of memory stay, and so do all
ports but the one whose own state it is. Completes here, each on the conditions of its clause: set. -/
def Obligations.set_writes_value : Prop :=
  ∀ (r : Req) (s : State) (a : Attr),
    Takes 0x11 r s → r.params.length = 8 + a.width / 8 → byteAt r.params 1 = 0 → leAt r.params 6 2 = 0 → addressed (addrAt r.params) = some a →
    isBlock a = false → a.code ≠ DEVICE_SNAP_READY.code →
    valueCheck s.dev a (addrAt r.params).inst (leAt r.params 8 (a.width / 8)) = none →
    ∃ t, exec (.set r) s = .next t ∧ Replied 0x11 stOk r [] s t
      ∧ attr t.dev a (addrAt r.params).inst = leAt r.params 8 (a.width / 8)
      ∧ t.mem = s.mem ∧ t.dev.jobs = s.dev.jobs
      ∧ (∀ b j, a.code ≠ PORT_SNR_HIST_INTERVAL.code → block t.dev b j = block s.dev b j)
      ∧ KeepsAttrs ((a.code, (addrAt r.params).inst) ::
          (if a.code = PORT_RATE_CAP.code then rateAttrs (addrAt r.params).inst
           else if a.code = PORT_SNR_HIST_INTERVAL.code then [(PORT_SNR_HIST_HEAD.code, (addrAt r.params).inst)]
           else if a.code = TIME_PULSE_IN_PERIOD.code then [(LATTICE_PULSE_VALID.code, 0)] else [])) s t

/-- R323: a SET_BLOCK whose address names a writable block, whose bytes lie in it and leave it as its rule allows: the bytes stand from OFFSET
on, and every attribute, every other block and all of memory stay. Completes here, each on the conditions of its clause: setBlock. -/
def Obligations.set_block_writes_bytes : Prop :=
  ∀ (r : Req) (s : State) (a : Attr),
    Takes 0x13 r s → 13 ≤ r.params.length → r.params.length ≤ 1024 → byteAt r.params 1 = 0 → leAt r.params 6 2 = 0 →
    addressed (addrAt r.params) = some a → isBlock a = true →
    blockCheck s.dev a (addrAt r.params).inst (leAt r.params 8 4) (r.params.drop 12) = none →
    ∃ t, exec (.setBlock r) s = .next t ∧ Replied 0x13 stOk r [] s t
      ∧ block t.dev a (addrAt r.params).inst = fitBytes (spliceBytes (block s.dev a (addrAt r.params).inst) (leAt r.params 8 4) (r.params.drop 12)) a.size
      ∧ (∀ b j, b.code < 2 ^ 24 → (b.code, j) ≠ (a.code, (addrAt r.params).inst) → block t.dev b j = block s.dev b j)
      ∧ KeepsAttrs [] s t ∧ t.mem = s.mem

/-- R39, R61, R67, R201, R125, R482, R214: the SETs that have rows of their own write what those rules say: PRISM.PREFIX while no port of the
prism is engaged or bound, PORT.TX_PSD, RATE_CAP, SNR_HIST_INTERVAL (which also begins the history again), RECAST_RETRY and RECAST_DEADLINE, the
parameters of a check unit that does not scan; and a SNAP_READY of 0 writes nothing. R58, R62: a staged table or a tone mask that its rule allows
stands from OFFSET on; no attribute and no memory changes. Completes here, each on the conditions of its clause: prismPrefixSet, txPsdSet,
rateCapSet, snrHistIntervalSet, recastTimerSet, checkParamSet, snapReadyWrite, stageTableWrite, toneMaskSet. -/
def Obligations.named_sets_write : Prop :=
  (∀ (h : SetHead) (s : State),
      (∀ (m : Fin 8) (v : Byte), Takes 0x11 (setRequest h PRISM_PREFIX m v.toNat) s → v.toNat ≤ 2 →
          (∀ p ∈ portsOfPrism m, engaged s.dev p = false ∧ attr s.dev PORT_CHORD p = 0xFF) →
          ∃ t, exec (.prismPrefixSet h m v) s = .next t ∧ attr t.dev PRISM_PREFIX m = v.toNat ∧ (prism t.dev m).prefixPending = true
            ∧ KeepsAttrs [(PRISM_PREFIX.code, m)] s t ∧ t.mem = s.mem)
      ∧ (∀ (p : Fin 128) (v : BitVec 16), Takes 0x11 (setRequest h PORT_TX_PSD p v.toNat) s → -1000 ≤ v.toInt → v.toInt ≤ -920 → v.toInt % 5 = 0 →
          ∃ t, exec (.txPsdSet h p v) s = .next t ∧ attr t.dev PORT_TX_PSD p = v.toNat ∧ KeepsAttrs [(PORT_TX_PSD.code, p)] s t ∧ KeepsUnits s t)
      ∧ (∀ (p : Fin 128) (v : BitVec 16), Takes 0x11 (setRequest h PORT_RATE_CAP p v.toNat) s → 1800 ≤ v.toNat → v.toNat ≤ 40000 →
          ∃ t, exec (.rateCapSet h p v) s = .next t ∧ attr t.dev PORT_RATE_CAP p = v.toNat
            ∧ (attr t.dev PORT_OVER_CAP p = 1 ↔
                v.toNat < netRate (bitsInEffect (block s.dev PORT_LOADING_TX p) (attr s.dev PORT_RETIRED_TX p)) (attr s.dev PRISM_SYMBOL_PERIOD (prismOf p))
                ∨ v.toNat < netRate (bitsInEffect (block s.dev PORT_LOADING_RX p) (attr s.dev PORT_RETIRED_RX p)) (attr s.dev PRISM_SYMBOL_PERIOD (prismOf p)))
            ∧ KeepsAttrs ((PORT_RATE_CAP.code, p.val) :: rateAttrs p) s t ∧ KeepsUnits s t)
      ∧ (∀ (p : Fin 128) (v : BitVec 16), Takes 0x11 (setRequest h PORT_SNR_HIST_INTERVAL p v.toNat) s → 10 ≤ v.toNat → v.toNat ≤ 60000 →
          ∃ t, exec (.snrHistIntervalSet h p v) s = .next t ∧ attr t.dev PORT_SNR_HIST_INTERVAL p = v.toNat ∧ attr t.dev PORT_SNR_HIST_HEAD p = 0xFF
            ∧ block t.dev PORT_SNR_HISTORY p = List.replicate PORT_SNR_HISTORY.size 0#8
            ∧ KeepsAttrs [(PORT_SNR_HIST_INTERVAL.code, p.val), (PORT_SNR_HIST_HEAD.code, p.val)] s t ∧ t.mem = s.mem)
      ∧ (∀ (p : Fin 128) (v : BitVec 32), Takes 0x11 (setRequest h PORT_RECAST_RETRY p v.toNat) s → v.toNat = 0 ∨ 200 ≤ v.toNat ∧ v.toNat ≤ 100000 →
          ∃ t, exec (.recastTimerSet h p false v) s = .next t ∧ attr t.dev PORT_RECAST_RETRY p = v.toNat ∧ KeepsAttrs [(PORT_RECAST_RETRY.code, p.val)] s t ∧ KeepsUnits s t)
      ∧ (∀ (p : Fin 128) (v : BitVec 32), Takes 0x11 (setRequest h PORT_RECAST_DEADLINE p v.toNat) s →
          v.toNat = 0 ∨ 400 ≤ v.toNat ∧ v.toNat ≤ 200000 ∧ retryInUse s.dev p ≤ v.toNat →
          ∃ t, exec (.recastTimerSet h p true v) s = .next t ∧ attr t.dev PORT_RECAST_DEADLINE p = v.toNat
            ∧ KeepsAttrs [(PORT_RECAST_DEADLINE.code, p.val)] s t ∧ KeepsUnits s t)
      ∧ (∀ (u f : Fin 4) (v : BitVec 64), Takes 0x11 (setRequest h (checkField f) u v.toNat) s → checkStateOf s.dev u ≠ 1 →
          valueOk s.dev (checkField f) u (v.toNat % 2 ^ (checkField f).width) = true →
          ∃ t, exec (.checkParamSet h u f v) s = .next t ∧ attr t.dev (checkField f) u = v.toNat % 2 ^ (checkField f).width
            ∧ KeepsAttrs [((checkField f).code, u)] s t ∧ KeepsUnits s t)
      ∧ (∀ (v : Byte), Takes 0x11 (setRequest h DEVICE_SNAP_READY 0 v.toNat) s →
          ∃ t, exec (.snapReadyWrite h v) s = .next t
            ∧ (∀ n : Fin 8, bitOf (attr t.dev DEVICE_SNAP_READY 0) n = (bitOf (attr s.dev DEVICE_SNAP_READY 0) n && !bitOf v.toNat n))
            ∧ ((∀ n, snapshotOf s.dev n = none) → KeepsAttrs [(DEVICE_SNAP_READY.code, 0)] s t) ∧ t.mem = s.mem))
  ∧ (∀ (h : SetHead) (p : Fin 128) (offset : BitVec 32) (data : List Byte) (s : State), data ≠ [] → data.length ≤ 1012 →
      (∀ table : Fin 4, Takes 0x13 (setBlockRequest h (stageTable table) p offset.toNat data) s →
          offset.toNat + data.length ≤ (stageTable table).size →
          blockOk s.dev (stageTable table) p (spliceBytes (block s.dev (stageTable table) p) offset.toNat data) = true →
          ∃ t, exec (.stageTableWrite h p table offset data) s = .next t
            ∧ block t.dev (stageTable table) p = fitBytes (spliceBytes (block s.dev (stageTable table) p) offset.toNat data) (stageTable table).size
            ∧ KeepsAttrs [] s t ∧ t.mem = s.mem)
      ∧ (Takes 0x13 (setBlockRequest h PORT_TONE_MASK p offset.toNat data) s → offset.toNat + data.length ≤ 64 → engaged s.dev p = false →
          toneMaskOk (spliceBytes (block s.dev PORT_TONE_MASK p) offset.toNat data) = true →
          ∃ t, exec (.toneMaskSet h p offset data) s = .next t
            ∧ block t.dev PORT_TONE_MASK p = fitBytes (spliceBytes (block s.dev PORT_TONE_MASK p) offset.toNat data) 64
            ∧ KeepsAttrs [] s t ∧ t.mem = s.mem))

/-- R341: CLAIM of a free device, of its own by the owner, and by a master that outranks the owner, with fields in range: the claimer owns the
device at its priority and lease, whose limit restarts, and a change of owner raises the epoch. R341, R340: CLAIM by a master that does not
outrank another owner answers CONFLICT with the owner, its priority and the epoch, and leaves ownership as it is. R343, R345, R346, R344, R347:
RENEW sets a lease in range (0 keeps it); YIELD to FF leaves no owner; YIELD to a master offers it the device and waits; ACCEPT by that master
takes it; an expired lease leaves no owner and an expired window ends the offer with TIMEOUT. Completes here, each on the conditions of its
clause: claim, renew, yield, accept, leaseExpiry, handoverWindowExpiry. -/
def Obligations.ownership_taken_and_passed : Prop :=
  (∀ (r : Req) (s : State), Takes 0x20 r s → r.params.length = 6 → claimOk r.params = true →
      attr s.dev DEVICE_OWNER 0 = noOwner ∨ attr s.dev DEVICE_OWNER 0 = r.master.val
        ∨ outranks s.dev r.master.val (byteAt r.params 0) = true →
      ∃ t, exec (.claim r) s = .next t
        ∧ attr t.dev DEVICE_OWNER 0 = r.master.val ∧ attr t.dev DEVICE_OWNER_PRIORITY 0 = byteAt r.params 0
        ∧ attr t.dev DEVICE_LEASE 0 = leaseOf (leAt r.params 2 4)
        ∧ attr t.dev DEVICE_OWNER_EPOCH 0
            = (if attr s.dev DEVICE_OWNER 0 = r.master.val then attr s.dev DEVICE_OWNER_EPOCH 0 else (attr s.dev DEVICE_OWNER_EPOCH 0 + 1) % 2 ^ 32)
        ∧ Replied 0x20 stOk r (claimResult t.dev) s t
        ∧ KeepsAttrs [(DEVICE_OWNER.code, 0), (DEVICE_OWNER_PRIORITY.code, 0), (DEVICE_LEASE.code, 0), (DEVICE_OWNER_EPOCH.code, 0), (DEVICE_HANDOVER_TARGET.code, 0)] s t
        ∧ t.mem = s.mem
        ∧ (s.dev.handover = none → KeepsAttrs [(DEVICE_OWNER.code, 0), (DEVICE_OWNER_PRIORITY.code, 0), (DEVICE_LEASE.code, 0), (DEVICE_OWNER_EPOCH.code, 0)] s t
            ∧ KeepsUnits s t))
  ∧ (∀ (r : Req) (s : State), Takes 0x20 r s → r.params.length = 6 → claimOk r.params = true →
      attr s.dev DEVICE_OWNER 0 ≠ noOwner → attr s.dev DEVICE_OWNER 0 ≠ r.master.val → outranks s.dev r.master.val (byteAt r.params 0) = false →
      ∃ t, exec (.claim r) s = .next t ∧ Replied 0x20 stConflict r (claimResult s.dev) s t ∧ KeepsAttrs [] s t ∧ KeepsUnits s t)
  ∧ (∀ (s : State),
      (∀ r, Takes 0x21 r s → r.params.length = 4 → leAt r.params 0 4 = 0 ∨ 10 ≤ leAt r.params 0 4 ∧ leAt r.params 0 4 ≤ 60000 →
          ∃ t, exec (.renew r) s = .next t
            ∧ attr t.dev DEVICE_LEASE 0 = (if leAt r.params 0 4 = 0 then attr s.dev DEVICE_LEASE 0 else leAt r.params 0 4)
            ∧ Replied 0x21 stOk r (toLE (attr t.dev DEVICE_LEASE 0) 4) s t ∧ armed t.dev tkLease 0 = true
            ∧ KeepsAttrs [(DEVICE_LEASE.code, 0)] s t ∧ KeepsUnits s t)
      ∧ (∀ r, Takes 0x22 r s → r.params.length = 4 → byteAt r.params 0 = 0xFF → byteAt r.params 1 = 0 →
          leAt r.params 2 2 = 0 ∨ 10 ≤ leAt r.params 2 2 ∧ leAt r.params 2 2 ≤ 10000 →
          ∃ t, exec (.yield r) s = .next t ∧ Replied 0x22 stOk r [] s t ∧ attr t.dev DEVICE_OWNER 0 = noOwner
            ∧ attr t.dev DEVICE_OWNER_PRIORITY 0 = 0xFF ∧ attr t.dev DEVICE_LEASE 0 = 0
            ∧ attr t.dev DEVICE_OWNER_EPOCH 0 = (attr s.dev DEVICE_OWNER_EPOCH 0 + 1) % 2 ^ 32
            ∧ KeepsAttrs [(DEVICE_OWNER.code, 0), (DEVICE_OWNER_PRIORITY.code, 0), (DEVICE_LEASE.code, 0), (DEVICE_OWNER_EPOCH.code, 0), (DEVICE_HANDOVER_TARGET.code, 0)] s t
            ∧ t.mem = s.mem)
      ∧ (∀ r, Takes 0x22 r s → r.params.length = 4 → byteAt r.params 0 ≤ 3 → byteAt r.params 0 ≠ attr s.dev DEVICE_OWNER 0 → byteAt r.params 1 = 0 →
          leAt r.params 2 2 = 0 ∨ 10 ≤ leAt r.params 2 2 ∧ leAt r.params 2 2 ≤ 10000 → s.dev.handover = none →
          ∃ t, exec (.yield r) s = .next t ∧ Replied 0x22 stAccepted r [] s t ∧ attr t.dev DEVICE_HANDOVER_TARGET 0 = byteAt r.params 0
            ∧ t.dev.handover = some ⟨r.master.val, r.tag.toNat⟩ ∧ armed t.dev tkHandover 0 = true
            ∧ attr t.dev DEVICE_OWNER 0 = attr s.dev DEVICE_OWNER 0
            ∧ (findJob t.dev ⟨r.master.val, r.tag.toNat⟩).map (·.opcode) = some 0x22
            ∧ KeepsAttrs [(DEVICE_HANDOVER_TARGET.code, 0)] s t ∧ t.mem = s.mem)
      ∧ (∀ r, Takes 0x23 r s → r.params.length = 6 → claimOk r.params = true → s.dev.handover.isSome = true →
          attr s.dev DEVICE_HANDOVER_TARGET 0 = r.master.val →
          ∃ t, exec (.accept r) s = .next t ∧ attr t.dev DEVICE_OWNER 0 = r.master.val ∧ attr t.dev DEVICE_OWNER_PRIORITY 0 = byteAt r.params 0
            ∧ attr t.dev DEVICE_LEASE 0 = leaseOf (leAt r.params 2 4) ∧ t.dev.handover = none ∧ Replied 0x23 stOk r (claimResult t.dev) s t
            ∧ attr t.dev DEVICE_OWNER_EPOCH 0 = (attr s.dev DEVICE_OWNER_EPOCH 0 + 1) % 2 ^ 32 ∧ attr t.dev DEVICE_HANDOVER_TARGET 0 = 0xFF
            ∧ KeepsAttrs [(DEVICE_OWNER.code, 0), (DEVICE_OWNER_PRIORITY.code, 0), (DEVICE_LEASE.code, 0), (DEVICE_OWNER_EPOCH.code, 0), (DEVICE_HANDOVER_TARGET.code, 0)] s t
            ∧ t.mem = s.mem)
      ∧ (due s.dev tkLease 0 = true → attr s.dev DEVICE_OWNER 0 ≠ noOwner →
          ∃ t, exec .leaseExpiry s = .next t ∧ attr t.dev DEVICE_OWNER 0 = noOwner ∧ attr t.dev DEVICE_OWNER_PRIORITY 0 = 0xFF
            ∧ attr t.dev DEVICE_LEASE 0 = 0 ∧ attr t.dev DEVICE_OWNER_EPOCH 0 = (attr s.dev DEVICE_OWNER_EPOCH 0 + 1) % 2 ^ 32
            ∧ KeepsAttrs [(DEVICE_OWNER.code, 0), (DEVICE_OWNER_PRIORITY.code, 0), (DEVICE_LEASE.code, 0), (DEVICE_OWNER_EPOCH.code, 0), (DEVICE_HANDOVER_TARGET.code, 0)] s t
            ∧ t.mem = s.mem)
      ∧ (∀ j, due s.dev tkHandover 0 = true → s.dev.handover = some j → (findJob s.dev j).isSome = true →
          ∃ t, exec .handoverWindowExpiry s = .next t ∧ t.dev.handover = none ∧ attr t.dev DEVICE_HANDOVER_TARGET 0 = 0xFF ∧ findJob t.dev j = none
            ∧ KeepsAttrs [(DEVICE_HANDOVER_TARGET.code, 0)] s t ∧ t.mem = s.mem))

/-- R357, R359, R360, R362, R364: EVENTS_READ returns and removes the oldest events of its own master; the signal of a queue that is not empty is
repeated; FENCE waits among the outstanding commands, completes where every earlier command it covers has, and ends with TIMEOUT. Completes here,
each on the conditions of its clause: eventsRead, eventSignalRepeat, fence, fenceConditionsMet, fenceTimeout. -/
def Obligations.events_and_fences : Prop :=
  ∀ (s : State),
    (∀ r, Takes 0x24 r s → r.params.length = 4 → eventsReadOk r.params = true →
        ∃ t, exec (.eventsRead r) s = .next t
          ∧ (master t.dev r.master).events
              = (if bitOf (byteAt r.params 1) 3 then (master s.dev r.master).events else (master s.dev r.master).events.drop (byteAt r.params 0))
          ∧ Replied 0x24 stOk r
              ([byteOf ((master s.dev r.master).events.take (byteAt r.params 0)).length, byteOf (attr s.dev LATTICE_INDEX 0)]
                ++ toLE (master t.dev r.master).events.length 2
                ++ ((master s.dev r.master).events.take (byteAt r.params 0)).flatMap eventBytes) s t
          ∧ attr t.dev EVENTQ_FILTER r.master = (if bitOf (byteAt r.params 1) 0 then leAt r.params 2 2 else attr s.dev EVENTQ_FILTER r.master)
          ∧ attr t.dev EVENTQ_IRQ_EN r.master
              = (if bitOf (byteAt r.params 1) 1 then bitNat (bitOf (byteAt r.params 1) 2) else attr s.dev EVENTQ_IRQ_EN r.master)
          ∧ KeepsAttrs [(EVENTQ_FILTER.code, r.master), (EVENTQ_IRQ_EN.code, r.master)] s t ∧ KeepsUnits s t)
    ∧ (∀ m : Fin 4, due s.dev tkSignal m = true → (master s.dev m).events ≠ [] →
        ∃ t, exec (.eventSignalRepeat m) s = .next t ∧ armed t.dev tkSignal m = true
          ∧ (2 ≤ m.val → s.dev.phase = .ready → (master t.dev m).notice = some (ibiByte (master s.dev m)))
          ∧ (m.val < 2 → s.dev.phase = .ready → (master s.dev m).enint = true → (master s.dev m).dynAddr.isSome = true →
              (master t.dev m).ibi = some (ibiByte (master s.dev m)))
          ∧ KeepsAttrs [] s t ∧ KeepsUnits s t)
    ∧ (∀ r, Takes 0x28 r s → r.params.length = 4 → byteAt r.params 0 ≤ 1 → byteAt r.params 1 = 0 → leAt r.params 2 2 ≤ 60000 →
        ∃ t, exec (.fence r) s = .next t ∧ Replied 0x28 stAccepted r [] s t
          ∧ t.dev.jobs = s.dev.jobs ++ [⟨⟨r.master, r.tag.toNat⟩, 0x28, r.params, s.dev.nextOrder, false, byteAt r.params 0 == 1, false⟩]
          ∧ (armed t.dev tkFence (256 * r.master + r.tag.toNat) = true ↔ leAt r.params 2 2 ≠ 0 ∨ armed s.dev tkFence (256 * r.master + r.tag.toNat) = true)
          ∧ KeepsAttrs [] s t ∧ t.mem = s.mem)
    ∧ (∀ (m : Fin 4) (tag : Byte) (f : Job), findFence s.dev ⟨m, tag.toNat⟩ = some f → fenceReady s.dev f = true →
        ∃ t, exec (.fenceConditionsMet m tag) s = .next t ∧ findJob t.dev f.ref = none ∧ KeepsAttrs [] s t ∧ t.mem = s.mem)
    ∧ (∀ (m : Fin 4) (tag : Byte) (f : Job), due s.dev tkFence (256 * m.val + tag.toNat) = true → findFence s.dev ⟨m, tag.toNat⟩ = some f →
        (∀ x ∈ s.dev.jobs, x.opcode = 0x28 → x.ref.master = m.val → f.order ≤ x.order) →
        ∃ t, exec (.fenceTimeout m tag) s = .next t ∧ findJob t.dev f.ref = none ∧ KeepsAttrs [] s t ∧ t.mem = s.mem)
    ∧ (∀ (m : Fin 4) (tag : Byte) (f : Job), due s.dev tkFence (256 * m.val + tag.toNat) = true → findFence s.dev ⟨m, tag.toNat⟩ = some f →
        (∃ x ∈ s.dev.jobs, x.opcode = 0x28 ∧ x.ref.master = m.val ∧ x.order < f.order) →
        ∃ t, exec (.fenceTimeout m tag) s = .next t ∧ KeepsAttrs [] s t ∧ t.mem = s.mem
          ∧ t.dev.jobs = s.dev.jobs.map fun x => if x.ref == ⟨m, tag.toNat⟩ then { x with timedOut := true } else x)

/-- R325, R327, R328: the common command codes that write: each changes only its own port, as its rule says; an address is taken only by a port
that has none (ENTDAA, SETDASA) or has one (SETNEWDA, ENTHDR0), and lengths below 16 are not stored. Completes here, each on the conditions of
its clause: enec, disec, rstdaa, entdaa, setmwl, setmrl, enthdr0, rstact, setdasa, setnewda. -/
def Obligations.common_command_codes_write : Prop :=
  ∀ (p : Fin 2) (s : State), s.dev.phase ≠ .held → (master s.dev p).hdr = false →
    (∀ ev : Byte, ∃ t, exec (.enec p ev) s = .next t ∧ OnlyMaster p s t
        ∧ master t.dev p = { told (master s.dev p) with enint := (master s.dev p).enint || bitOf ev.toNat 0 })
    ∧ (∀ ev : Byte, ∃ t, exec (.disec p ev) s = .next t ∧ OnlyMaster p s t
        ∧ master t.dev p = (if bitOf ev.toNat 0 then { told (master s.dev p) with enint := false, ibi := none } else told (master s.dev p)))
    ∧ (∃ t, exec (.rstdaa p) s = .next t ∧ OnlyMaster p s t ∧ master t.dev p = { told (master s.dev p) with dynAddr := none, hdr := false, ibi := none })
    ∧ (∀ a : Fin 128, (master s.dev p).dynAddr = none → ∃ t, exec (.entdaa p a) s = .next t ∧ OnlyMaster p s t
        ∧ master t.dev p = { told (master s.dev p) with dynAddr := some a.val, busOut := toBE (provisionalId p) 6 ++ [0x26#8, 0x00#8] })
    ∧ (∀ v : BitVec 16, ∃ t, exec (.setmwl p v) s = .next t ∧ OnlyMaster p s t
        ∧ master t.dev p = { told (master s.dev p) with mwl := if 16 ≤ v.toNat then v.toNat else (master s.dev p).mwl })
    ∧ (∀ v : BitVec 16, ∃ t, exec (.setmrl p v) s = .next t ∧ OnlyMaster p s t
        ∧ master t.dev p = { told (master s.dev p) with mrl := if 16 ≤ v.toNat then v.toNat else (master s.dev p).mrl })
    ∧ (∃ t, exec (.enthdr0 p) s = .next t ∧ OnlyMaster p s t
        ∧ master t.dev p = { told (master s.dev p) with hdr := (master s.dev p).dynAddr.isSome })
    ∧ (∀ a : Byte, ∃ t, exec (.rstact p a) s = .next t ∧ OnlyMaster p s t ∧ master t.dev p = { told (master s.dev p) with rstact := a.toNat })
    ∧ (∀ a : Fin 128, (master s.dev p).dynAddr = none → ∃ t, exec (.setdasa p a) s = .next t ∧ OnlyMaster p s t
        ∧ master t.dev p = { told (master s.dev p) with dynAddr := some a.val })
    ∧ (∀ a : Fin 128, (master s.dev p).dynAddr ≠ none → ∃ t, exec (.setnewda p a) s = .next t ∧ OnlyMaster p s t
        ∧ master t.dev p = { told (master s.dev p) with dynAddr := some a.val })

/-- R326, R327: the common command codes that read return their bytes to a port that has a dynamic address, and change nothing else, but that
GETSTATUS clears the protocol error. The two bytes of GETCAPS and the byte order of GETMWL and GETMRL are the model's choice (assumptions 9 and
22). R327: a port that already has a dynamic address keeps it under ENTDAA and does not acknowledge SETDASA; a port that has none does not
acknowledge a direct code and returns nothing. R325: a port in HDR-DDR sees no code until the exit pattern, which ends that mode. Completes here,
each on the conditions of its clause: getmwl, getmrl, getpid, getbcr, getdcr, getstatus, getmxds, getcaps, hdrExit, entdaa, setdasa. -/
def Obligations.common_command_codes_read : Prop :=
  (∀ (p : Fin 2) (s : State), s.dev.phase ≠ .held → (master s.dev p).hdr = false → (master s.dev p).dynAddr ≠ none →
      (∃ t, exec (.getmwl p) s = .next t ∧ OnlyMaster p s t ∧ master t.dev p = { told (master s.dev p) with busOut := toBE (master s.dev p).mwl 2 })
      ∧ (∃ t, exec (.getmrl p) s = .next t ∧ OnlyMaster p s t
          ∧ master t.dev p = { told (master s.dev p) with busOut := toBE (master s.dev p).mrl 2 ++ [0x01#8] })
      ∧ (∃ t, exec (.getpid p) s = .next t ∧ OnlyMaster p s t ∧ master t.dev p = { told (master s.dev p) with busOut := toBE (provisionalId p) 6 })
      ∧ (∃ t, exec (.getbcr p) s = .next t ∧ OnlyMaster p s t ∧ master t.dev p = { told (master s.dev p) with busOut := [0x26#8] })
      ∧ (∃ t, exec (.getdcr p) s = .next t ∧ OnlyMaster p s t ∧ master t.dev p = { told (master s.dev p) with busOut := [0x00#8] })
      ∧ (∃ t, exec (.getstatus p) s = .next t ∧ OnlyMaster p s t
          ∧ master t.dev p = { told (master s.dev p) with busOut := toBE (statusWord (told (master s.dev p))) 2, protoErr := false })
      ∧ (∃ t, exec (.getmxds p) s = .next t ∧ OnlyMaster p s t ∧ master t.dev p = { told (master s.dev p) with busOut := [0x00#8, 0x20#8] })
      ∧ (∃ t, exec (.getcaps p) s = .next t ∧ OnlyMaster p s t ∧ master t.dev p = { told (master s.dev p) with busOut := [0x01#8, 0x00#8] }))
  ∧ (∀ (p : Fin 2) (s : State), s.dev.phase ≠ .held →
      (∃ t, exec (.hdrExit p) s = .next t ∧ OnlyMaster p s t ∧ master t.dev p = { master s.dev p with hdr := false })
      ∧ ((master s.dev p).hdr = true → ∀ c, c = .rstdaa p ∨ c = .enthdr0 p ∨ c = .getpid p ∨ c = .getstatus p ∨ (∃ v, c = .enec p v) ∨ (∃ v, c = .disec p v)
          ∨ (∃ v, c = .setmwl p v) ∨ (∃ v, c = .setmrl p v) ∨ (∃ a, c = .rstact p a) ∨ (∃ a, c = .entdaa p a) ∨ (∃ a, c = .setdasa p a) ∨ (∃ a, c = .setnewda p a) →
          exec c s = .next s)
      ∧ ((master s.dev p).hdr = false → (master s.dev p).dynAddr ≠ none → ∀ a : Fin 128,
        (∃ t, exec (.entdaa p a) s = .next t ∧ OnlyMaster p s t ∧ master t.dev p = told (master s.dev p))
        ∧ (∃ t, exec (.setdasa p a) s = .next t ∧ OnlyMaster p s t ∧ master t.dev p = { told (master s.dev p) with busAck := false }))
      ∧ ((master s.dev p).hdr = false → (master s.dev p).dynAddr = none →
          ∀ c, c = .getmwl p ∨ c = .getmrl p ∨ c = .getpid p ∨ c = .getbcr p ∨ c = .getdcr p ∨ c = .getstatus p ∨ c = .getmxds p ∨ c = .getcaps p
              ∨ (∃ a, c = .setnewda p a) →
            ∃ t, exec c s = .next t ∧ OnlyMaster p s t ∧ master t.dev p = { told (master s.dev p) with busAck := false }))

/-- R330 to R332: writes of REQ_START, REQ_CONT and MBX_CONTROL whose header is acknowledged, while no request waits for the Vertex: bytes that
do not yet end a request are kept, an ended request is handed over, a bad HDR-DDR word discards it, and each control bit acts on its own port
alone. R332: a read of the reply at offset 0x60 starts at its first byte, one at 0x61 goes on where the last read ended; both end at the reply's
end or the read length, and mark the reply as read in full at its end. An empty queue reads one zero byte. Completes here, each on the conditions
of its clause: reqStart, reqCont, clearErr, replyDone, reqAbort, replyRead, replyContRead. -/
def Obligations.mailbox_transfers : Prop :=
  (∀ (p : Fin 2) (s : State), writeAcked s.dev p = true → s.dev.waiting = [] →
      (∀ bytes, requestEnd p bytes = none → ∃ t, exec (.reqStart p bytes false) s = .next t
          ∧ master t.dev p = { heard (master s.dev p) with
              partialReq := some bytes, errFraming := (master s.dev p).errFraming || (master s.dev p).partialReq.isSome,
              replies := (master s.dev p).replies.dropWhile fun r => r.readFull }
          ∧ armed t.dev tkRequest p = !bytes.isEmpty ∧ KeepsAttrs [] s t ∧ KeepsUnits s t)
      ∧ (∀ bytes, (master s.dev p).hdr = true → ∃ t, exec (.reqStart p bytes true) s = .next t ∧ (master t.dev p).partialReq = none ∧ (master t.dev p).errFraming = true
          ∧ armed t.dev tkRequest p = false ∧ KeepsAttrs [] s t ∧ KeepsUnits s t)
      ∧ (∀ acc bytes, (master s.dev p).partialReq = some acc → requestEnd p (acc ++ bytes) = none → acc ≠ [] →
          ∃ t, exec (.reqCont p bytes false) s = .next t ∧ OnlyMaster p s t
            ∧ master t.dev p = { heard (master s.dev p) with partialReq := some (acc ++ bytes) })
      ∧ (∀ acc bytes raw extra, (master s.dev p).partialReq = some acc → requestEnd p (acc ++ bytes) = some (raw, extra) →
          exec (.reqCont p bytes false) s = .next (submit p raw { s with
            dev := disarm tkRequest p (setMaster p { heard (master s.dev p) with partialReq := none, errFraming := (master s.dev p).errFraming || extra } s.dev) }))
      ∧ (∀ bytes, (master s.dev p).partialReq = none → ∃ t, exec (.reqCont p bytes false) s = .next t ∧ OnlyMaster p s t
          ∧ master t.dev p = { heard (master s.dev p) with errFraming := true })
      ∧ (∃ t, exec (.clearErr p) s = .next t ∧ OnlyMaster p s t
          ∧ master t.dev p = { heard (master s.dev p) with errTimeout := false, errFraming := false, errDiscard := false })
      ∧ (∃ t, exec (.replyDone p) s = .next t ∧ OnlyMaster p s t
          ∧ master t.dev p = { heard (master s.dev p) with replies := (master s.dev p).replies.drop 1 })
      ∧ (∃ t, exec (.reqAbort p) s = .next t ∧ master t.dev p = { heard (master s.dev p) with partialReq := none }
          ∧ armed t.dev tkRequest p = false ∧ KeepsAttrs [] s t ∧ KeepsUnits s t))
  ∧ (∀ (p : Fin 2) (n : Nat) (s : State), isReady s.dev = true → s.dev.vertex ≠ .halted →
      (∀ r rest, (master s.dev p).replies = r :: rest →
        (∃ t, exec (.replyRead p n) s = .next t ∧ OnlyMaster p s t
          ∧ master t.dev p = { heard (master s.dev p) with
              busOut := r.bytes.take (min n (master s.dev p).mrl),
              replies := { r with read := min (min n (master s.dev p).mrl) r.bytes.length,
                                  readFull := r.readFull || decide (r.bytes.length ≤ min n (master s.dev p).mrl) } :: rest })
        ∧ (∃ t, exec (.replyContRead p n) s = .next t ∧ OnlyMaster p s t
          ∧ (master t.dev p).busOut = (r.bytes.drop r.read).take (min n (master s.dev p).mrl)))
      ∧ ((master s.dev p).replies = [] → ∃ t, exec (.replyRead p n) s = .next t ∧ OnlyMaster p s t
          ∧ master t.dev p = { heard (master s.dev p) with busOut := [0x00#8] }))

/-- R328, R332, R334, R336: limits and resets of a transport: a request unfinished after its limit is dropped and counted, an unread reply leaves
after REPLY_HOLD, a stalled bus waits for a START, a target reset clears the port's requests, replies and sequence, and an unfinished packet of a
command channel is dropped and counted. An action of RSTACT above 2 resets nothing: the model's choice (assumption 19), and so is that 2 resets
as 1 does. Completes here, each on the conditions of its clause: mbxRequestTimeout, replyHoldExpiry, i3cSclStall, i2cSclLowTimeout, targetReset,
commandRowReceived, commandPacketTimeout. -/
def Obligations.transport_limits : Prop :=
  ∀ (s : State),
    (∀ p : Fin 2, due s.dev tkRequest p = true → ∃ t, exec (.mbxRequestTimeout p) s = .next t
        ∧ master t.dev p = { master s.dev p with partialReq := none, errTimeout := true }
        ∧ attr t.dev DEVICE_CMD_XFER_TIMEOUTS p = (attr s.dev DEVICE_CMD_XFER_TIMEOUTS p + 1) % 2 ^ 32
        ∧ KeepsAttrs [(DEVICE_CMD_XFER_TIMEOUTS.code, p)] s t ∧ KeepsUnits s t)
    ∧ (∀ p : Fin 2, s.dev.waiting = [] → (master s.dev p).replies.any (overdueReply s.dev p) = true →
        ∃ t, exec (.replyHoldExpiry p) s = .next t ∧ OnlyMaster p s t
          ∧ master t.dev p = { master s.dev p with replies := eraseFirst (overdueReply s.dev p) (master s.dev p).replies, errDiscard := true })
    ∧ (∀ p : Fin 2, (master s.dev p).dynAddr ≠ none → ∃ t, exec (.i3cSclStall p) s = .next t ∧ OnlyMaster p s t
        ∧ master t.dev p = { master s.dev p with waitStart := true })
    ∧ (∀ p : Fin 2, (master s.dev p).dynAddr = none → ∃ t, exec (.i2cSclLowTimeout p) s = .next t ∧ OnlyMaster p s t
        ∧ master t.dev p = { master s.dev p with waitStart := true })
    ∧ (∀ p : Fin 2, s.dev.phase ≠ .held → 3 ≤ (master s.dev p).rstact → ∃ t, exec (.targetReset p) s = .next t ∧ OnlyMaster p s t
        ∧ master t.dev p = { master s.dev p with rstact := 0 })
    ∧ (∀ p : Fin 2, s.dev.phase ≠ .held → (master s.dev p).rstact ≤ 2 → ∃ t, exec (.targetReset p) s = .next t
        ∧ master t.dev p = { master s.dev p with partialReq := none, replies := [], stored := none, rstact := 0 }
        ∧ attr t.dev DEVICE_CMD_SEQ_NEXT p = 0 ∧ waitingOf t.dev p = [] ∧ t.dev.jobs = s.dev.jobs
        ∧ KeepsAttrs [(DEVICE_CMD_SEQ_NEXT.code, p)] s t ∧ t.mem = s.mem)
    ∧ (∀ (ch : Fin 2) (payload : List Byte), transportUp s.dev (2 + ch.val) = true → 1 ≤ fieldOf (ofBE (payload.take 4)) 25 16 →
        fieldOf (ofBE (payload.take 4)) 25 16 ≤ channelLimit s.dev (2 + ch.val) → 4 + fieldOf (ofBE (payload.take 4)) 25 16 ≤ payload.length →
        bitOf (ofBE (payload.take 4)) 31 = true → bitOf (ofBE (payload.take 4)) 30 = false → (master s.dev (2 + ch.val)).partialReq = none →
        ∃ t, exec (.commandRowReceived ch payload) s = .next t
          ∧ (master t.dev (2 + ch.val)).partialReq = some ((payload.drop 4).take (fieldOf (ofBE (payload.take 4)) 25 16))
          ∧ armed t.dev tkPacket (2 + ch.val) = true ∧ KeepsAttrs [] s t ∧ KeepsUnits s t)
    ∧ (∀ (ch : Fin 2) (payload acc : List Byte), transportUp s.dev (2 + ch.val) = true → 1 ≤ fieldOf (ofBE (payload.take 4)) 25 16 →
        fieldOf (ofBE (payload.take 4)) 25 16 ≤ channelLimit s.dev (2 + ch.val) → 4 + fieldOf (ofBE (payload.take 4)) 25 16 ≤ payload.length →
        bitOf (ofBE (payload.take 4)) 31 = false → bitOf (ofBE (payload.take 4)) 30 = true → (master s.dev (2 + ch.val)).partialReq = some acc →
        exec (.commandRowReceived ch payload) s = .next (submit (2 + ch.val) (acc ++ (payload.drop 4).take (fieldOf (ofBE (payload.take 4)) 25 16))
          { s with dev := disarm tkPacket (2 + ch.val) (setMaster (2 + ch.val) { master s.dev (2 + ch.val) with partialReq := none } s.dev) }))
    ∧ (∀ ch : Fin 2, due s.dev tkPacket (2 + ch.val) = true → ∃ t, exec (.commandPacketTimeout ch) s = .next t
        ∧ master t.dev (2 + ch.val) = { master s.dev (2 + ch.val) with partialReq := none }
        ∧ attr t.dev DEVICE_CMD_XFER_TIMEOUTS (2 + ch.val) = (attr s.dev DEVICE_CMD_XFER_TIMEOUTS (2 + ch.val) + 1) % 2 ^ 32
        ∧ KeepsAttrs [(DEVICE_CMD_XFER_TIMEOUTS.code, 2 + ch.val)] s t ∧ KeepsUnits s t)

/-- R12, R39 to R42, R52: a superframe boundary of a prism with a symbol clock ends the superframe of its sixteen ports, takes what they
measured, advances the count, applies an accepted prefix, moves the clock and starts the superframe of every port at slot 0; a symbol slot up to
256 advances the slot, every port sends, and what its ports receive goes through their cancellers. A prism without a clock does neither.
Completes here, each on the conditions of its clause: superframeBoundary, symbolBoundary. -/
def Obligations.prism_grid_advances : Prop :=
  ∀ (m : Fin 8) (s : State),
    (prismClocked s.dev m = true → ∀ (clock : Int) (ms : List SfMeasure),
      let here := ms.filter fun x => prismOf x.port.val == m
      let ended := here.foldl (fun e x => takeMeasure x e) (forAll (portsOfPrism m) endSuperframe s.dev)
      let moved := slewClock m clock (applyPrefix m (bump PRISM_SF_COUNT m 1 ended))
      let opened := modPrism m (fun x => { x with slot := 0, boundaryAt := s.dev.elapsed + 1, rampSf := if attr moved PRISM_ADMISSION_PORT m = 0xFF then 0 else x.rampSf + 1 })
        (snapshotBoundary m moved)
      ∃ t, exec (.superframeBoundary m clock ms) s = .next t ∧ t.mem = s.mem ∧ t.pending = s.pending
        ∧ t.dev = forAll (portsOfPrism m) (fun p e => startSuperframe (sfCount opened p)
            (here.map fun x => (x.port.val, x.engine, attr s.dev PORT_BITS_RX x.port.val)) p e) opened)
    ∧ (prismClocked s.dev m = true → (prism s.dev m).slot < 256 → ∀ rs : List PortReceived,
      let d1 := forAll ((List.range 4).map (4 * m.val + ·)) takeOver s.dev
      let d2 := forAll (portsOfPrism m) (slotOf ((prism s.dev m).slot + 1)) (modPrism m (fun x => { x with slot := (prism s.dev m).slot + 1 }) d1)
      let d3 := (rs.filter fun x => prismOf x.port.val == m).foldl (fun e x => receiveSymbol x.port.val ((prism s.dev m).slot + 1) x.tones x.steps e) d2
      ∃ t, exec (.symbolBoundary ⟨m, rs⟩) s = .next t ∧ t.mem = s.mem ∧ t.pending = s.pending
        ∧ t.dev = forAll ((portsOfPrism m).filter fun p => stateOf d3 p == psCarry && !inHoldover d3 p) (fun p e => bump PORT_DATA_SYMBOLS_RX p 1 e) d3)
    ∧ (prismClocked s.dev m = false → (∀ rs, exec (.symbolBoundary ⟨m, rs⟩) s = .next s) ∧ ∀ clock ms, exec (.superframeBoundary m clock ms) s = .next s)

/-- R86, R87: in CARRY the second missed marker in a row starts hold-over, and the second detected marker in a row ends it with a count of
MICROBREAKS; the loss of pilots starts hold-over; 16 superframes of hold-over lose the partner and lead to LISTEN, or to DOWN where a graceful
stop is under way (the model's choice, assumption 109). R93, R96, R74, R77, R81, R85, R201: the periodic work of a receiver. A block retired for
pace is announced for restoration once the projected margin has held; a block retired for ingress once it has been quiet; a slew at its target
ends; a shadow filter waits for the boundary that installs it; the survey goes on; a dropped aggressor leaves its slots; an interval of the SNR
history enters the ring. Completes here, each on the conditions of its clause: markerDetection, pilotPowerLoss, holdoverTimeout, paceRestore,
ingressRestore, prismClockSlewEnd, tsfComputed, tsfShadowInstall, nextSurveyVisitEnd, admissionRampEnd, nextCoeffHoldExpiry, nextDormantRelaxEnd,
snrHistoryIntervalEnd. -/
def Obligations.receiver_upkeep : Prop :=
  (∀ (p : Fin 128) (s : State), attr s.dev PORT_STATE p = psCarry →
      (∀ mk : MarkerFound, mk.corr < 500 ∨ mk.form = 3 → 1 ≤ (rx s.dev p).missed → inHoldover s.dev p = false → quietDue s.dev p = false →
          ∃ t, exec (.markerDetection p mk) s = .next t ∧ attr t.dev PORT_RX_STATE p = 3 ∧ (rx t.dev p).holdSf = 0
            ∧ KeepsAttrs [(PORT_RX_STATE.code, p)] s t ∧ t.mem = s.mem)
      ∧ (∀ mk : MarkerFound, 500 ≤ mk.corr → mk.form ≠ 3 → swapMarkerDue (takeCount p mk.count.toNat s.dev) p = false → 1 ≤ (rx s.dev p).detected → inHoldover s.dev p = true →
          ∃ t, exec (.markerDetection p mk) s = .next t ∧ attr t.dev PORT_RX_STATE p = 2
            ∧ attr t.dev PORT_MICROBREAKS p = (attr s.dev PORT_MICROBREAKS p + 1) % 2 ^ 32 ∧ (rx t.dev p).holdSf = 0
            ∧ KeepsAttrs [(PORT_RX_STATE.code, p), (PORT_MICROBREAKS.code, p)] s t ∧ t.mem = s.mem)
      ∧ (quietDue s.dev p = false → inHoldover s.dev p = false →
          ∃ t, exec (.pilotPowerLoss p) s = .next t ∧ attr t.dev PORT_RX_STATE p = 3 ∧ (rx t.dev p).holdSf = 0
            ∧ KeepsAttrs [(PORT_RX_STATE.code, p)] s t ∧ t.mem = s.mem)
      ∧ (inHoldover s.dev p = true → 16 ≤ (rx s.dev p).holdSf → (port s.dev p).stop = none →
          ∃ t, exec (.holdoverTimeout p) s = .next t ∧ attr t.dev PORT_STATE p = psListen
            ∧ attr t.dev PORT_PARTNER_LOSSES p = (attr s.dev PORT_PARTNER_LOSSES p + 1) % 2 ^ 32 ∧ attr t.dev PORT_LAST_FAIL p = 2 ∧ t.mem = s.mem)
      ∧ (inHoldover s.dev p = true → 16 ≤ (rx s.dev p).holdSf → (port s.dev p).stop ≠ none →
          ∃ t, exec (.holdoverTimeout p) s = .next t ∧ attr t.dev PORT_STATE p = psDown ∧ t.mem = s.mem))
  ∧ (∀ (p : Fin 128) (s : State),
      (∀ b, paceRestorable s.dev p = some b → bitOf (rxCause s.dev p b) 1 = false →
          exec (.paceRestore p) s = .next { s with dev := issueNotice p (wantChange p ⟨b, rxCause s.dev p b, true, 0⟩ s.dev) })
      ∧ (∀ b : Fin 32, bitOf (rxCause s.dev p b) 1 = true → bitOf (rxCause s.dev p b) 0 = false → ingressOver s.dev p b = true →
          (∀ c ∈ (rx s.dev p).wanted ++ (rx s.dev p).announced, c.restore = false) →
          exec (.ingressRestore p b) s = .next { s with dev := issueNotice p (wantChange p ⟨b, rxCause s.dev p b, true, 0⟩ s.dev) })
      ∧ (∀ m : Fin 8, attrInt s.dev PRISM_CLOCK_OFFSET m = (prism s.dev m).reference →
          ∃ t, exec (.prismClockSlewEnd m) s = .next t ∧ attr t.dev PRISM_CLOCK_SLEWING m = 0 ∧ armed t.dev tkSlew m = false
            ∧ KeepsAttrs [(PRISM_CLOCK_SLEWING.code, m)] s t ∧ KeepsUnits s t)
      ∧ (∀ taps residual, attr s.dev PORT_STATE p = psTrain → attr s.dev PORT_TRAIN_PHASE p = 3 →
          ∃ t, exec (.tsfComputed p ⟨taps, residual⟩) s = .next t ∧ (rx t.dev p).tsf = taps ∧ attr t.dev PORT_TSF_RESIDUAL p = saturateS 16 residual ∧ attr t.dev PORT_TSF_UPDATES p = 0
            ∧ KeepsAttrs [(PORT_TSF_RESIDUAL.code, p), (PORT_TSF_UPDATES.code, p)] s t ∧ t.mem = s.mem)
      ∧ (∀ taps correction gain residual, attr s.dev PORT_STATE p = psCarry → inHoldover s.dev p = false → (rx s.dev p).shadowAt = 0 →
          ∃ t, exec (.tsfShadowInstall p ⟨taps, residual⟩ ⟨correction, gain⟩) s = .next t
            ∧ (rx t.dev p).shadow = (if 5 ≤ gain then some ⟨taps, correction, residual⟩ else (rx s.dev p).shadow) ∧ (rx t.dev p).shadowAt = s.dev.elapsed + 1
            ∧ KeepsAttrs [] s t ∧ t.mem = s.mem)
      ∧ (∀ f, (rx s.dev p).shadow = some f → attr s.dev PORT_STATE p = psCarry → inHoldover s.dev p = false →
          attr (installShadow p s.dev) PORT_TSF_RESIDUAL p = saturateS 16 f.residual
            ∧ attr (installShadow p s.dev) PORT_TSF_UPDATES p = (attr s.dev PORT_TSF_UPDATES p + 1) % 2 ^ PORT_TSF_UPDATES.width
            ∧ (rx (installShadow p s.dev) p).tsf = f.taps ∧ (rx (installShadow p s.dev) p).shadow = none)
      ∧ (∀ surveyed active, due s.dev tkSurvey p = true →
          exec (.nextSurveyVisitEnd p surveyed active) s = .next { s with dev := endSurvey p surveyed active (disarm tkSurvey p s.dev) })
      ∧ (∀ m : Fin 8, attr s.dev PRISM_ADMISSION_PORT m < 128 → 16 ≤ (prism s.dev m).rampSf → scanAt s.dev (attr s.dev PRISM_ADMISSION_PORT m) .ramp = false →
          exec (.admissionRampEnd m) s = .next { s with
            dev := releaseRamp m (modTrain (attr s.dev PRISM_ADMISSION_PORT m) (fun x => { x with rampDone := true }) s.dev) })
      ∧ (due s.dev tkCoeffHold p = true →
          ∃ t, exec (.nextCoeffHoldExpiry p) s = .next t ∧ t.dev = freeAggressor p (disarm tkCoeffHold p s.dev) ∧ t.mem = s.mem
            ∧ KeepsAttrs [] s t)
      ∧ ((rx s.dev p).relax = some 0 → ∃ t, exec (.nextDormantRelaxEnd p) s = .next t ∧ (rx t.dev p).relax = none ∧ KeepsAttrs [] s t ∧ t.mem = s.mem)
      ∧ (due s.dev tkSnrInterval p = true → ∃ t, exec (.snrHistoryIntervalEnd p) s = .next t
            ∧ attr t.dev PORT_SNR_HIST_HEAD p = (attr s.dev PORT_SNR_HIST_HEAD p + 1) % 256 % 64
            ∧ (rx t.dev p).histLow = List.replicate 32 0xFF ∧ (rx t.dev p).histSeen = false ∧ armed t.dev tkSnrInterval p = true
            ∧ KeepsAttrs [(PORT_SNR_HIST_HEAD.code, p)] s t ∧ t.mem = s.mem))

/-- R207: COUNTERS_READ of a unit without a symbol clock answers at once; on a port of a clocked prism the reply waits for the next boundary of
that prism, which answers every such request. Completes here, each on the conditions of its clause: countersRead, countersSample. -/
def Obligations.counters_are_sampled : Prop :=
  ∀ (s : State),
    (∀ r as, Takes 0x92 r s → r.params.length = 8 → countersOf (addrAt r.params).cls (addrAt r.params).id (byteAt r.params 1) = some as →
        1 ≤ byteAt r.params 1 → byteAt r.params 1 ≤ 64 → (∀ a ∈ as, instanceOk a (addrAt r.params).inst = true) → leAt r.params 6 2 = 0 →
        (¬((addrAt r.params).cls = clsPort ∧ attr s.dev DOMAIN_STATE (160 + prismOf (addrAt r.params).inst) = 0) →
          ∃ t, exec (.countersRead r) s = .next t ∧ KeepsAttrs [] s t ∧ KeepsUnits s t
            ∧ Replied 0x92 stOk r (countersResult (Advanced 0x92 r s) (addrAt r.params).cls (addrAt r.params).inst as) s t)
        ∧ ((addrAt r.params).cls = clsPort → attr s.dev DOMAIN_STATE (160 + prismOf (addrAt r.params).inst) = 0 →
          ∃ t h, exec (.countersRead r) s = .next t ∧ t.dev.held = s.dev.held ++ [h] ∧ h.prism = prismOf (addrAt r.params).inst ∧ h.void = false
            ∧ h.call.master = r.master.val ∧ h.call.tag = r.tag.toNat ∧ h.call.params = r.params ∧ KeepsAttrs [] s t ∧ t.mem = s.mem))
    ∧ (∀ (m : Fin 8) (h : HeldRead) (as : List Attr), s.dev.held = [h] → h.prism = m.val → h.void = false →
        countersOf (byteAt h.call.params 0) (leAt h.call.params 4 2) (byteAt h.call.params 1) = some as →
        exec (.countersSample m) s = .next { s with
          dev := answer h.call stOk (countersResult { s.dev with held := [] } (byteAt h.call.params 0) (leAt h.call.params 2 2) as) { s.dev with held := [] } })

/-- R10, R372, R373: the spare takes over the port decided for it, with the rank of the request and the engine map of the facet; an engine judged
faulted leaves service, is counted and awaits its verdict; a failed verdict marks it FAILED. Completes here, each on the conditions of its
clause: spareTakeover, engineFault, engineFaultVerdict. -/
def Obligations.spare_and_engines : Prop :=
  ∀ (f : Fin 32) (s : State),
    (∀ rank p, pendingTakeover s.dev f = some (rank, p) → rank < 256 → facetOf p = f.val →
        ∃ t, exec (.spareTakeover f) s = .next t ∧ attr t.dev FACET_SPARE_STATE f = rank ∧ attr t.dev FACET_SPARE_PORT f = p
          ∧ pendingTakeover t.dev f = none
          ∧ KeepsAttrs [(FACET_SPARE_STATE.code, f), (FACET_SPARE_PORT.code, f), (FACET_ENGINE_MAP.code, f)] s t ∧ t.mem = s.mem)
    ∧ (∀ (cause : Fin 4), engineState s.dev f 4 = 0 → attr s.dev FACET_SPARE_PORT f = 0xFF → attr s.dev DEVICE_LC_STATE 0 ≠ lcDecommissioned →
        ∃ t, exec (.engineFault f 4 cause) s = .next t ∧ engineState t.dev f 4 = 1 ∧ attr t.dev FACET_SPARE_STATE f = 5
          ∧ attr t.dev FACET_ENGINE_FAULTS f = (attr s.dev FACET_ENGINE_FAULTS f + 1) % 2 ^ FACET_ENGINE_FAULTS.width
          ∧ armed t.dev tkVerdict (5 * f.val + 4) = true ∧ t.mem = s.mem)
    ∧ (∀ (e : Fin 4) (cause : Fin 4), engineState s.dev f e = 0 → attr s.dev FACET_SPARE_PORT f = 0xFF → pendingTakeover s.dev f = none →
        attr s.dev FACET_SPARE_STATE f = 0 → engineState s.dev f 4 = 0 → attr s.dev DEVICE_LC_STATE 0 ≠ lcDecommissioned →
        ∃ t, exec (.engineFault f ⟨e.val, by omega⟩ cause) s = .next t ∧ engineState t.dev f e = 1
          ∧ pendingTakeover t.dev f = some (1, 4 * f.val + e.val)
          ∧ attr t.dev FACET_ENGINE_FAULTS f = (attr s.dev FACET_ENGINE_FAULTS f + 1) % 2 ^ FACET_ENGINE_FAULTS.width
          ∧ armed t.dev tkVerdict (5 * f.val + e.val) = true ∧ t.mem = s.mem)
    ∧ (∀ (e : Fin 5), engineState s.dev f e = 1 →
        ∃ t, exec (.engineFaultVerdict f e false) s = .next t ∧ engineState t.dev f e = 2 ∧ bitOf (attr t.dev FACET_ENGINE_FAILED f) e = true
          ∧ armed t.dev tkVerdict (5 * f.val + e.val) = false ∧ t.mem = s.mem)
    ∧ (∀ (e : Fin 4), engineState s.dev f e = 1 → fewFaults s.dev (elementKey clsFacet f e) = true →
        ∃ t, exec (.engineFaultVerdict f ⟨e.val, by omega⟩ true) s = .next t ∧ engineState t.dev f e = 0 ∧ armed t.dev tkVerdict (5 * f.val + e.val) = false
          ∧ t.mem = s.mem)

/-- R90, R109, R117, R118: a container received while no arbitration is open and no exit is under way. One that R109 rejects is counted and its
sequence number asked for; one with a new sequence number up to 512 ahead becomes the highest, is counted, and every number skipped becomes a
hole or was one. Completes here, each on the conditions of its clause: containerReceived. -/
def Obligations.containers_received : Prop :=
  ∀ (p : Fin 128) (s : State) (word alt times : List Nat), attr s.dev PORT_STATE p = psCarry → inHoldover s.dev p = false →
    (rx s.dev p).arb = none → (quiet s.dev p).decidedAt = 0 →
    (readContainer word = none →
      ∃ t, exec (.containerReceived p word alt times []) s = .next t
        ∧ attr t.dev PORT_CONT_REJECTED p = (attr s.dev PORT_CONT_REJECTED p + 1) % 2 ^ 32
        ∧ (recast t.dev p).rejects = (recast s.dev p).rejects + 1
        ∧ (attr s.dev PORT_RX_HIGHEST p + (recast s.dev p).rejects + 1) % 16384 ∈ (recast t.dev p).naks
        ∧ KeepsAttrs [(PORT_CONT_REJECTED.code, p)] s t ∧ t.mem = s.mem)
    ∧ (∀ c, readContainer word = some c → hdrKind c.1 ≠ 2 → 1 ≤ sdiff (hdrSeq c.1) (attr s.dev PORT_RX_HIGHEST p) →
        sdiff (hdrSeq c.1) (attr s.dev PORT_RX_HIGHEST p) ≤ 512 →
        ∃ t, exec (.containerReceived p word alt times []) s = .next t ∧ attr t.dev PORT_RX_HIGHEST p = hdrSeq c.1
          ∧ attr t.dev PORT_CONT_ACCEPTED p = (attr s.dev PORT_CONT_ACCEPTED p + 1) % 2 ^ 32 ∧ (recast t.dev p).rejects = 0 ∧ t.mem = s.mem)

/-- R110, R118, R121, R127: one interleave block is sent where the port sends containers; a hole whose retry has passed is asked for again; a
hole whose deadline has passed is finally dropped and counted; the end of the wait of R127 lets a graceful stop or an entry go on. Completes
here, each on the conditions of its clause: containerSend, renakTimer, holeDeadline, recastDrained, drainWaitTimeout. -/
def Obligations.recast_goes_on : Prop :=
  ∀ (p : Fin 128) (s : State),
    (∀ lost, sendsContainers s.dev p = true → exec (.containerSend p lost) s = .next { s with dev := sendBlock p lost s.dev })
    ∧ (∀ (q : Fin 16384) (h : Hole), h ∈ (recast s.dev p).holes → h.seq = q.val → h.nakAt ≤ s.dev.elapsed →
        ∃ t, exec (.renakTimer p q) s = .next t ∧ q.val ∈ (recast t.dev p).naks
          ∧ (recast t.dev p).holes = (recast s.dev p).holes.map (fun x => if x.seq = q.val then { x with nakAt := s.dev.elapsed + retryInUse s.dev p } else x)
          ∧ KeepsAttrs [] s t ∧ t.mem = s.mem)
    ∧ (∀ (q : Fin 16384) (h : Hole), h ∈ (recast s.dev p).holes → h.seq = q.val → h.dropAt ≤ s.dev.elapsed →
        ∃ t, exec (.holeDeadline p q) s = .next t ∧ (∀ x ∈ (recast t.dev p).holes, x.seq ≠ q.val)
          ∧ attr t.dev PORT_RECAST_DROPPED p = (attr s.dev PORT_RECAST_DROPPED p + 1) % 2 ^ 32 ∧ t.mem = s.mem)
    ∧ (∀ j, recastQuiet s.dev p = true → (port s.dev p).stop = some j → (port s.dev p).stopSent = false →
        exec (.recastDrained p) s = .next { s with dev := sendGracefulStop p s.dev })
    ∧ (∀ e, recastQuiet s.dev p = true → (port s.dev p).stop = none → (quiet s.dev p).entry = some e → e.step = .draining → e.fromHost = true →
        exec (.recastDrained p) s = .next { s with dev := sendQuietAt p s.dev })
    ∧ (due s.dev tkDrainWait p = true →
        exec (.drainWaitTimeout p) s = .next { s with dev := drainOver p (dropAllHoles p (disarm tkDrainWait p s.dev)) })

/-- R134, R138, R141: the port commands. PORT_START takes every named port that is in DOWN to LISTEN and names those; an immediate PORT_STOP
takes every named port to DOWN, a graceful one waits for the ports in CARRY; PORT_RETRAIN takes ports in CARRY to TRAIN. R158, R162, R420, R432:
LOADING_SWAP begins a swap of the directions named; CHORD_BIND binds ports in DOWN to a free chord and unbinds them; PORT_QUIET and PORT_WAKE are
accepted and begin on every port named. Completes here, each on the conditions of its clause: portStart, portStop, portRetrain, loadingSwap,
chordBind, portQuiet, portWake. -/
def Obligations.port_commands : Prop :=
  (∀ (r : Req) (s : State), maskPorts r.params 0 ≠ [] →
      (Takes 0x30 r s → r.params.length = 16 → (∀ p ∈ maskPorts r.params 0, pathOn s.dev p = true) → s.dev.startOwed = false →
        ∃ t, exec (.portStart r) s = .next t
          ∧ Replied 0x30 stOk r (maskBytes ((maskPorts r.params 0).filter fun p => stateOf s.dev p == psDown) 16) s t
          ∧ (∀ p, p < 128 → attr t.dev PORT_STATE p
              = (if p ∈ maskPorts r.params 0 ∧ attr s.dev PORT_STATE p = psDown then psListen else attr s.dev PORT_STATE p)) ∧ t.mem = s.mem)
      ∧ (Takes 0x31 r s → r.params.length = 20 → byteAt r.params 16 = 1 → leAt r.params 17 3 = 0 →
        ∃ t, exec (.portStop r) s = .next t ∧ Replied 0x31 stOk r [] s t
          ∧ (∀ p, p < 128 → attr t.dev PORT_STATE p = (if p ∈ maskPorts r.params 0 then psDown else attr s.dev PORT_STATE p)) ∧ t.mem = s.mem)
      ∧ (Takes 0x31 r s → r.params.length = 20 → byteAt r.params 16 = 0 → leAt r.params 17 3 = 0 →
        (∀ p ∈ maskPorts r.params 0, attr s.dev PORT_STATE p = psCarry) →
        ∃ t, exec (.portStop r) s = .next t ∧ Replied 0x31 stAccepted r [] s t
          ∧ (∀ p ∈ maskPorts r.params 0, (port t.dev p).stop = some ⟨r.master, r.tag.toNat⟩ ∧ attr t.dev PORT_STATE p = psCarry) ∧ t.mem = s.mem)
      ∧ (Takes 0x36 r s → r.params.length = 16 → (∀ p ∈ maskPorts r.params 0, attr s.dev PORT_STATE p = psCarry ∧ pathOn s.dev p = true ∧ (port s.dev p).stop = none) →
        ∃ t, exec (.portRetrain r) s = .next t ∧ Replied 0x36 stOk r [] s t
          ∧ (∀ p ∈ maskPorts r.params 0, attr t.dev PORT_STATE p = psTrain
              ∧ attr t.dev PORT_TRAIN_COUNT p = (attr s.dev PORT_TRAIN_COUNT p + 1) % 2 ^ 32) ∧ t.mem = s.mem))
  ∧ (∀ (r : Req) (s : State),
      (Takes 0x34 r s → r.params.length = 4 → byteAt r.params 0 ≤ 127 → 1 ≤ byteAt r.params 1 → byteAt r.params 1 ≤ 3 → byteAt r.params 2 = 1 →
        byteAt r.params 3 = 0 → attr s.dev PORT_STATE (byteAt r.params 0) = psCarry → swapOf s.dev (byteAt r.params 0) = none →
        (quiet s.dev (byteAt r.params 0)).entry = none → (byteAt r.params 1 = 1 ∨ (buildFor s.dev (byteAt r.params 0)).isSome = true) →
        ∃ t x, exec (.loadingSwap r) s = .next t ∧ Replied 0x34 stAccepted r [] s t ∧ swapOf t.dev (byteAt r.params 0) = some x
          ∧ x.job = some ⟨r.master, r.tag.toNat⟩ ∧ x.dirs = byteAt r.params 1 ∧ x.fresh = true ∧ x.changed = 0 ∧ x.partner = false
          ∧ armed t.dev tkSwap (byteAt r.params 0) = true ∧ (findJob t.dev ⟨r.master, r.tag.toNat⟩).map (·.opcode) = some 0x34 ∧ t.mem = s.mem)
      ∧ (Takes 0x35 r s → r.params.length = 20 → byteAt r.params 0 ≤ 31 → byteAt r.params 1 = 0 → byteAt r.params 2 ≤ 7 → byteAt r.params 3 = 0 →
        byteAt r.params 2 ≠ attr s.dev LATTICE_INDEX 0 → 2 ≤ (maskPorts r.params 4).length → (maskPorts r.params 4).length ≤ 4 →
        (∀ p ∈ maskPorts r.params 4, prismOf p = prismOf ((maskPorts r.params 4).headD 0) ∧ attr s.dev PORT_CHORD p = 0xFF ∧ attr s.dev PORT_STATE p = psDown) →
        chordBound s.dev (byteAt r.params 0) = false →
        (byteAt r.params 2 < attr s.dev LATTICE_INDEX 0 → hasUpstream s.dev (prismOf ((maskPorts r.params 4).headD 0)) = false) →
        ∃ t, exec (.chordBind r) s = .next t ∧ Replied 0x35 stOk r [] s t
          ∧ bankGet none t.dev.chords (byteAt r.params 0) = some (maskPorts r.params 4, byteAt r.params 2)
          ∧ (∀ p ∈ maskPorts r.params 4, attr t.dev PORT_CHORD p = byteAt r.params 0) ∧ t.mem = s.mem)
      ∧ (Takes 0x35 r s → r.params.length = 20 → byteAt r.params 0 ≤ 31 → byteAt r.params 1 = 1 → byteAt r.params 2 ≤ 7 → byteAt r.params 3 = 0 →
        chordBound s.dev (byteAt r.params 0) = true → (∀ p ∈ chordPorts s.dev (byteAt r.params 0), attr s.dev PORT_STATE p = psDown) →
        ∃ t, exec (.chordBind r) s = .next t ∧ Replied 0x35 stOk r [] s t ∧ chordBound t.dev (byteAt r.params 0) = false
          ∧ (∀ p ∈ chordPorts s.dev (byteAt r.params 0), attr t.dev PORT_CHORD p = 0xFF) ∧ t.mem = s.mem)
      ∧ (Takes 0x32 r s → r.params.length = 20 → maskPorts r.params 0 ≠ [] → byteAt r.params 16 ≤ 1 → leAt r.params 17 3 = 0 →
        (∀ p ∈ maskPorts r.params 0, attr s.dev PORT_STATE p = psCarry ∧ captureFailed s.dev p = false
          ∧ bitOf (attr s.dev PORT_PARTNER_ABILITY p) (35 - byteAt r.params 16) = true) →
        ∃ t, exec (.portQuiet r) s = .next t ∧ Replied 0x32 stAccepted r [] s t
          ∧ (∀ p ∈ maskPorts r.params 0, (quiet t.dev p).entry.isSome = true)
          ∧ (findJob t.dev ⟨r.master, r.tag.toNat⟩).map (·.opcode) = some 0x32 ∧ t.mem = s.mem)
      ∧ (Takes 0x33 r s → r.params.length = 16 → maskPorts r.params 0 ≠ [] →
        (∀ p ∈ maskPorts r.params 0, attr s.dev PORT_STATE p = psQuiet ∧ pathOn s.dev p = true) →
        ∃ t, exec (.portWake r) s = .next t ∧ Replied 0x33 stAccepted r [] s t
          ∧ (∀ p ∈ maskPorts r.params 0, attr t.dev PORT_STATE p = psCarry) ∧ t.mem = s.mem)
      ∧ (Takes 0x33 r s → r.params.length = 16 → maskPorts r.params 0 ≠ [] →
        (∀ p ∈ maskPorts r.params 0, attr s.dev PORT_STATE p = psDormant ∧ pathOn s.dev p = true ∧ (quiet s.dev p).decidedAt = 0) →
        ∃ t, exec (.portWake r) s = .next t ∧ Replied 0x33 stAccepted r [] s t
          ∧ (∀ p ∈ maskPorts r.params 0, attr t.dev PORT_STATE p = psDormant ∧ attr t.dev PORT_QUIET_STATE p = 5) ∧ t.mem = s.mem))

/-- R136, R137, R144, R132, R150, R431: LISTEN and NEGOTIATE. The dwell, and page energy, take a port in LISTEN to NEGOTIATE; a negotiation
resolves to Rilas, to 1000BASE-T1, or to nothing; its timeout leads back to LISTEN; page energy at a port in DORMANT and a Clause 97 link failure
lose the partner. Completes here, each on the conditions of its clause: listenDwellEnd, pageEnergy, negotiateResolution, negotiateTimeout,
noPartnerTimer, clause97LinkFail, legacyFrameReceived. -/
def Obligations.negotiation : Prop :=
  ∀ (p : Fin 128) (s : State),
    (attr s.dev PORT_STATE p = psListen → (train s.dev p).held = false → (port s.dev p).scan = none → due s.dev tkDwell p = true →
      ∃ t, exec (.listenDwellEnd p) s = .next t ∧ attr t.dev PORT_STATE p = psNegotiate ∧ armed t.dev tkNegotiate p = true ∧ t.mem = s.mem)
    ∧ (attr s.dev PORT_STATE p = psListen → (train s.dev p).held = false → (train s.dev p).afterFail = false →
      ∃ t, exec (.pageEnergy p) s = .next t ∧ attr t.dev PORT_STATE p = psNegotiate ∧ armed t.dev tkNegotiate p = true ∧ t.mem = s.mem)
    ∧ (attr s.dev PORT_STATE p = psDormant → pathOn s.dev p = true → (port s.dev p).stop = none →
      ∃ t, exec (.pageEnergy p) s = .next t ∧ attr t.dev PORT_STATE p = psListen
        ∧ attr t.dev PORT_PARTNER_LOSSES p = (attr s.dev PORT_PARTNER_LOSSES p + 1) % 2 ^ 32 ∧ t.mem = s.mem)
    ∧ (attr s.dev PORT_STATE p = psNegotiate →
      (∀ (w : BitVec 64) legacy, offersRilas s.dev p = true → fieldOf w.toNat 63 60 = 1 → rolesFit s.dev p w.toNat = true →
          prefixFits s.dev p w.toNat = true →
          (attr s.dev PORT_CHORD p = 0xFF ∨ (fieldOf w.toNat 47 45 ≠ attr s.dev LATTICE_INDEX 0 ∧ chordFits s.dev p w.toNat = true)) →
          ∃ t, exec (.negotiateResolution p (some w) legacy) s = .next t ∧ attr t.dev PORT_STATE p = psTrain ∧ attr t.dev PORT_TRAIN_PHASE p = 1
            ∧ attr t.dev PORT_NEG_RESULT p = 1 ∧ attr t.dev PORT_PARTNER_ABILITY p = w.toNat ∧ t.mem = s.mem)
      ∧ (∀ master, attr s.dev PORT_NEG_MODE p ≠ 1 →
          ∃ t, exec (.negotiateResolution p none (some master)) s = .next t ∧ attr t.dev PORT_STATE p = psLegacy
            ∧ (port t.dev p).legacy = some ⟨master, attrOn s.dev PORT_LEGACY_LPI p⟩ ∧ attr t.dev PORT_NEG_RESULT p = 2
            ∧ attr t.dev PORT_PARTNER_ABILITY p = 0 ∧ t.mem = s.mem)
      ∧ (∃ t, exec (.negotiateResolution p none none) s = .next t ∧ attr t.dev PORT_STATE p = psListen ∧ attr t.dev PORT_NEG_RESULT p = 3
          ∧ attr t.dev PORT_LAST_FAIL p = 0x0A ∧ attr t.dev PORT_TRAIN_FAILS p = (attr s.dev PORT_TRAIN_FAILS p + 1) % 2 ^ 32
          ∧ armed t.dev tkDwell p = true ∧ t.mem = s.mem)
      ∧ (due s.dev tkNegotiate p = true →
          ∃ t, exec (.negotiateTimeout p) s = .next t ∧ attr t.dev PORT_STATE p = psListen ∧ armed t.dev tkNegotiate p = false ∧ t.mem = s.mem))
    ∧ (due s.dev tkNoPartner p = true →
      exec (.noPartnerTimer p) s = .next { s with
        dev := raise clsPort p evNoPartner 0 (modTrain p (fun x => { x with noPartnerRaised := true }) (disarm tkNoPartner p s.dev)) })
    ∧ (attr s.dev PORT_STATE p = psLegacy →
      ((port s.dev p).stop = none → ∃ t, exec (.clause97LinkFail p) s = .next t ∧ attr t.dev PORT_STATE p = psListen ∧ attr t.dev PORT_LAST_FAIL p = 0x060B
        ∧ attr t.dev PORT_PARTNER_LOSSES p = (attr s.dev PORT_PARTNER_LOSSES p + 1) % 2 ^ 32 ∧ t.mem = s.mem)
      ∧ (∀ bytes time corrected lost, fcsGood bytes = false →
          exec (.legacyFrameReceived p bytes time corrected lost) s = .next { s with
            dev := lineDrop p (legacyClass bytes) 1 (bump PORT_LEGACY_FCS_DROPS p 1
              (bump PORT_LEGACY_UNCORRECTABLE p lost (bump PORT_LEGACY_CORRECTED p corrected s.dev))) })
      ∧ ∀ bytes time corrected lost, fcsGood bytes = true →
          exec (.legacyFrameReceived p bytes time corrected lost) s = .next { s with
            dev := frameFromLine p (legacyClass bytes) bytes (some time) (bump PORT_LEGACY_UNCORRECTABLE p lost (bump PORT_LEGACY_CORRECTED p corrected s.dev)) })

/-- R154, R152: ECHO_FIT, TIMING_LOCK and CHANNEL_PROBE. Half A ends at 60 dB of ERLE with ECHO_READY_A and half B, at the partner's side with
ECHO_READY_B and TIMING_LOCK; the messages of the controller's side lead the partner's side from phase to phase; a phase's timeout repeats the
phase once and then fails the training; half A goes on at its timeout with an ERLE of 45 dB or more (R75, R155). R154, R155, R132: LOADING_AGREE
and RECAST_START. Tables that break no rule go into use and are answered; the phase ends when both directions are agreed; tables turned away
repeat the phase; RECAST_GO names the superframe, and RECAST_OK with containers under way in both directions leads to CARRY. Completes here, each
on the conditions of its clause: echoFitHalfAEnd, echoReadyA, echoReadyB, advance, locked, channelProbeDone, probeDone, trainPhaseTimeout,
tables, tablesOk, tablesBad, recastGo, recastOk. -/
def Obligations.training_phases : Prop :=
  (∀ (p : Fin 128) (s : State), attr s.dev PORT_STATE p = psTrain →
      (∀ erle windows, mayEndEcho s.dev p erle = true → erle < 2 ^ 16 → (train s.dev p).controller = true →
        ∃ t, exec (.echoFitHalfAEnd p erle windows false) s = .next t ∧ attr t.dev PORT_ERLE p = erle ∧ (train t.dev p).halfB = true
          ∧ armed t.dev tkPhase p = true ∧ t.mem = s.mem)
      ∧ (∀ erle windows, mayEndEcho s.dev p erle = true → erle < 2 ^ 16 → (train s.dev p).controller = false →
        ∃ t, exec (.echoFitHalfAEnd p erle windows false) s = .next t ∧ attr t.dev PORT_ERLE p = erle ∧ attr t.dev PORT_TRAIN_PHASE p = 2
          ∧ attr t.dev PORT_RX_STATE p = 1 ∧ t.mem = s.mem)
      ∧ (attr s.dev PORT_TRAIN_PHASE p = 1 → (train s.dev p).controller = false → (train s.dev p).halfB = false →
        ∃ t, exec (.echoReadyA p) s = .next t ∧ (train t.dev p).halfB = true ∧ attr t.dev PORT_TRAIN_PHASE p = 1 ∧ t.mem = s.mem)
      ∧ (attr s.dev PORT_TRAIN_PHASE p = 1 → (train s.dev p).controller = true → (train s.dev p).halfB = true →
        ∃ t, exec (.echoReadyB p) s = .next t ∧ attr t.dev PORT_TRAIN_PHASE p = 2 ∧ attr t.dev PORT_RX_STATE p = 1 ∧ t.mem = s.mem)
      ∧ (attr s.dev PORT_TRAIN_PHASE p = 2 → (train s.dev p).controller = false →
        (∀ (ps : BitVec 32) fine, ∃ t, exec (.advance p ps fine) s = .next t ∧ attr t.dev PORT_RT_DELAY p = ps.toNat
          ∧ KeepsAttrs [(PORT_RT_DELAY.code, p)] s t ∧ KeepsUnits s t)
        ∧ ∃ t, exec (.locked p) s = .next t ∧ attr t.dev PORT_TRAIN_PHASE p = 3 ∧ attr t.dev PORT_RX_STATE p = 2 ∧ t.mem = s.mem)
      ∧ (attr s.dev PORT_TRAIN_PHASE p = 3 →
        (∀ snrs, exec (.channelProbeDone p snrs) s = .next { s with dev := probed p snrs s.dev })
        ∧ ((train s.dev p).controller = false → ∀ cls depth : Fin 3,
          ∃ t, exec (.probeDone p cls depth) s = .next t ∧ attr t.dev PORT_TRAIN_PHASE p = 4 ∧ attr t.dev PORT_CLASS_NOW p = cls
            ∧ attr t.dev PORT_INTERLEAVE_NOW p = depth ∧ (train t.dev p).proposed = (buildFor s.dev p).map (·.1) ∧ t.mem = s.mem))
      ∧ (∀ erle windows, due s.dev tkPhase p = true → attr s.dev PORT_TRAIN_PHASE p = 1 → (train s.dev p).controller = true → (train s.dev p).halfB = false →
        (450 ≤ erle → erle < 2 ^ 16 → ∃ t, exec (.trainPhaseTimeout p ⟨erle, windows⟩) s = .next t ∧ attr t.dev PORT_ERLE p = erle ∧ (train t.dev p).halfB = true
            ∧ block t.dev PORT_ECHO_WINDOWS p = (List.range 8).flatMap (fun k => toLE (windows.getD k 0xFFFF) 2) ∧ armed t.dev tkPhase p = true ∧ t.mem = s.mem)
        ∧ (erle < 450 → (train s.dev p).repeated = false → ∃ t, exec (.trainPhaseTimeout p ⟨erle, windows⟩) s = .next t ∧ (train t.dev p).repeated = true
            ∧ attr t.dev PORT_TRAIN_PHASE p = 1 ∧ armed t.dev tkPhase p = true ∧ t.mem = s.mem))
      ∧ (∀ erle windows, due s.dev tkPhase p = true → 2 ≤ attr s.dev PORT_TRAIN_PHASE p → attr s.dev PORT_TRAIN_PHASE p ≤ 5 →
        ((train s.dev p).repeated = false →
          ∃ t, exec (.trainPhaseTimeout p ⟨erle, windows⟩) s = .next t ∧ attr t.dev PORT_STATE p = psTrain ∧ attr t.dev PORT_TRAIN_PHASE p = attr s.dev PORT_TRAIN_PHASE p
            ∧ (train t.dev p).repeated = true ∧ armed t.dev tkPhase p = true ∧ t.mem = s.mem)
        ∧ ((train s.dev p).repeated = true →
          ∃ t, exec (.trainPhaseTimeout p ⟨erle, windows⟩) s = .next t ∧ attr t.dev PORT_STATE p = psListen
            ∧ attr t.dev PORT_LAST_FAIL p = attr s.dev PORT_TRAIN_PHASE p * 256 + 1
            ∧ attr t.dev PORT_TRAIN_FAILS p = (attr s.dev PORT_TRAIN_FAILS p + 1) % 2 ^ 32 ∧ t.mem = s.mem)))
  ∧ (∀ (p : Fin 128) (s : State), attr s.dev PORT_STATE p = psTrain →
      (attr s.dev PORT_TRAIN_PHASE p = 4 →
        (∀ msg, msg.length = 769 → emptyLoad (messageTables msg).1 = false → brokenAt s.dev p (messageTables msg).1 (messageTables msg).2 = 0 →
          ∃ t, exec (.tables p msg) s = .next t ∧ block t.dev PORT_LOADING_TX p = (messageTables msg).1 ∧ block t.dev PORT_GAIN_TX p = (messageTables msg).2
            ∧ attr t.dev PORT_TRAIN_PHASE p = (if (train s.dev p).rxAgreed = true then 5 else 4) ∧ t.mem = s.mem)
        ∧ ((train s.dev p).txAgreed = true → ∃ t, exec (.tablesOk p) s = .next t ∧ attr t.dev PORT_TRAIN_PHASE p = 5 ∧ t.mem = s.mem)
        ∧ ((train s.dev p).txAgreed = false → ∃ t, exec (.tablesOk p) s = .next t ∧ attr t.dev PORT_TRAIN_PHASE p = 4 ∧ (train t.dev p).rxAgreed = true ∧ t.mem = s.mem)
        ∧ (∀ rule, (train s.dev p).repeated = false → ∃ t, exec (.tablesBad p rule) s = .next t ∧ attr t.dev PORT_TRAIN_PHASE p = 4
            ∧ (train t.dev p).repeated = true ∧ (train t.dev p).rxAgreed = false ∧ (train t.dev p).txAgreed = false ∧ t.mem = s.mem))
      ∧ (attr s.dev PORT_TRAIN_PHASE p = 5 →
        (∀ sf, (train s.dev p).controller = false →
          ∃ t, exec (.recastGo p sf) s = .next t ∧ (train t.dev p).startSf = some sf.toNat ∧ KeepsAttrs [] s t ∧ t.mem = s.mem)
        ∧ ((train s.dev p).controller = true → (train s.dev p).started = true → (train s.dev p).accepted = true →
          ∃ t, exec (.recastOk p) s = .next t ∧ attr t.dev PORT_STATE p = psCarry ∧ attr t.dev PORT_TRAIN_PHASE p = 0 ∧ attr t.dev PORT_RX_STATE p = 2 ∧ t.mem = s.mem)
        ∧ ((train s.dev p).controller = true → ((train s.dev p).started && (train s.dev p).accepted) = false →
          ∃ t, exec (.recastOk p) s = .next t ∧ attr t.dev PORT_STATE p = psTrain ∧ (train t.dev p).recastOk = true ∧ KeepsAttrs [] s t ∧ t.mem = s.mem)))

/-- R159, R160, R161: the messages of a loading swap and its limit of 20 ms. Completes here, each on the conditions of its clause: swapReq,
swapReply, swapAt, swapTimeLimit. -/
def Obligations.swap_messages : Prop :=
  ∀ (p : Fin 128) (s : State),
    (∀ msg, attr s.dev PORT_STATE p = psCarry → msg.length = 769 → swapOf s.dev p = none → (quiet s.dev p).entry = none →
        brokenAt s.dev p (messageTables msg).1 (messageTables msg).2 = 0 →
        ∃ t x, exec (.swapReq p msg) s = .next t ∧ swapOf t.dev p = some x ∧ x.partner = true ∧ x.dirs = 1 ∧ x.tx = some (messageTables msg)
          ∧ armed t.dev tkSwap p = true ∧ attr t.dev PORT_SWAP_STATE p = 2
          ∧ KeepsAttrs [(PORT_SWAP_STATE.code, p), (PORT_SWAP_SF.code, p), (SVC_BURSTS_TX.code, p)] s t ∧ t.mem = s.mem)
    ∧ (∀ x b r, swapOf s.dev p = some x → x.asked = b :: r → x.sf = none → x.agreed ||| 2 ^ b ≠ x.dirs →
        ∃ t, exec (.swapReply p 0#8) s = .next t ∧ swapOf t.dev p = some { x with asked := r, agreed := x.agreed ||| 2 ^ b }
          ∧ attr t.dev PORT_SWAP_STATE p = 1 ∧ KeepsAttrs [(PORT_SWAP_STATE.code, p), (PORT_SWAP_SF.code, p)] s t ∧ t.mem = s.mem)
    ∧ (∀ x b r code, swapOf s.dev p = some x → x.asked = b :: r → code ≠ 0#8 → x.marked = 0 →
        ∃ t, exec (.swapReply p code) s = .next t ∧ swapOf t.dev p = none ∧ attr t.dev PORT_SWAP_STATE p = 0 ∧ armed t.dev tkSwap p = false ∧ t.mem = s.mem)
    ∧ (∀ (x : Swap) sf dirs, swapOf s.dev p = some x → x.partner = true → x.agreed = x.dirs → dirs.toNat ≤ 3 →
        ∃ t, exec (.swapAt p sf dirs) s = .next t ∧ attr t.dev PORT_SWAP_STATE p = 3 ∧ attr t.dev PORT_SWAP_SF p = sf.toNat
          ∧ swapOf t.dev p = some { x with sf := some sf.toNat, attempts := x.attempts + 1, atTime := some s.dev.elapsed, atDirs := mirrorDirs dirs.toNat, marked := 0 }
          ∧ KeepsAttrs [(PORT_SWAP_STATE.code, p), (PORT_SWAP_SF.code, p)] s t ∧ t.mem = s.mem)
    ∧ (∀ x, due s.dev tkSwap p = true → swapOf s.dev p = some x → x.marked = 0 →
        ∃ t, exec (.swapTimeLimit p) s = .next t ∧ swapOf t.dev p = none ∧ attr t.dev PORT_SWAP_STATE p = 0 ∧ t.mem = s.mem)

/-- R132, R139, R140: training begins again, or the link is stopped, at the partner's word or at echo drift; a port that a graceful stop is to
silence goes to DOWN instead (the model's choice, assumption 109). Completes here, each on the conditions of its clause: retrain,
echoDriftRetrain, linkStop. -/
def Obligations.carry_ends : Prop :=
  ∀ (p : Fin 128) (s : State),
    (attr s.dev PORT_STATE p = psCarry → (port s.dev p).stop = none → ∃ t, exec (.retrain p) s = .next t ∧ attr t.dev PORT_STATE p = psTrain ∧ attr t.dev PORT_TRAIN_PHASE p = 1
        ∧ attr t.dev PORT_TRAIN_COUNT p = (attr s.dev PORT_TRAIN_COUNT p + 1) % 2 ^ 32 ∧ t.mem = s.mem)
    ∧ (attr s.dev PORT_STATE p = psCarry → attrOn s.dev PORT_AUTO_RETRAIN p = true → 1024 ≤ (rx s.dev p).echoRun → (port s.dev p).stop = none →
      ∃ t, exec (.echoDriftRetrain p) s = .next t ∧ attr t.dev PORT_STATE p = psTrain ∧ attr t.dev PORT_TRAIN_PHASE p = 1
        ∧ attr t.dev PORT_TRAIN_COUNT p = (attr s.dev PORT_TRAIN_COUNT p + 1) % 2 ^ 32 ∧ t.mem = s.mem)
    ∧ (attr s.dev PORT_STATE p = psTrain ∨ attr s.dev PORT_STATE p = psCarry ∨ attr s.dev PORT_STATE p = psQuiet → (port s.dev p).stop = none →
      ∃ t, exec (.linkStop p) s = .next t ∧ attr t.dev PORT_STATE p = psListen ∧ attr t.dev PORT_QUIET_STATE p = 0 ∧ attr t.dev PORT_RX_STATE p = 0
        ∧ block t.dev PORT_LOADING_TX p = List.replicate 256 0#8 ∧ t.mem = s.mem)
    ∧ (∀ c, c = .retrain p ∨ c = .linkStop p → attr s.dev PORT_STATE p = psCarry → (port s.dev p).stop ≠ none →
      ∃ t, exec c s = .next t ∧ attr t.dev PORT_STATE p = psDown ∧ (port t.dev p).stop = none ∧ t.mem = s.mem)

/-- R419, R421: the messages of an entry into QUIET or DORMANT and its limit of 20 ms. R423, R424, R426, R428, R431: in QUIET a good refresh is
taken, a missed one is counted, and the third in a row loses the partner; the partner's tangent burst leads to CARRY. An exit from DORMANT goes
on at relock, and 1 ms without an answer loses the partner. Completes here, each on the conditions of its clause: quietReq, quietReply, quietAt,
quietEntryTimeout, quietRefresh, tangentBurstDetected, relockDetected, wakeUnanswered. -/
def Obligations.quiet_links : Prop :=
  (∀ (p : Fin 128) (s : State),
      (∀ mode, attr s.dev PORT_STATE p = psCarry → swapOf s.dev p = none → (quiet s.dev p).entry = none → (port s.dev p).stop = none → mode.toNat ≤ 1 →
          captureFailed s.dev p = false →
          ∃ t, exec (.quietReq p mode) s = .next t ∧ (quiet t.dev p).entry = some ⟨mode.toNat == 1, .draining, false⟩ ∧ attr t.dev PORT_QUIET_STATE p = 2
            ∧ (recast t.dev p).noNewData = true ∧ armed t.dev tkQuietEntry p = true ∧ KeepsAttrs [(PORT_QUIET_STATE.code, p), (SVC_BURSTS_TX.code, p)] s t ∧ t.mem = s.mem)
      ∧ (∀ e, (quiet s.dev p).entry = some e → e.step = .asked →
          (∃ t, exec (.quietReply p 0#8) s = .next t ∧ (quiet t.dev p).entry = some { e with step := .draining } ∧ attr t.dev PORT_QUIET_STATE p = 2
            ∧ (recast t.dev p).noNewData = true ∧ armed t.dev tkDrainWait p = true ∧ KeepsAttrs [(PORT_QUIET_STATE.code, p)] s t ∧ t.mem = s.mem)
          ∧ ∀ code, code ≠ 0#8 → ∃ t, exec (.quietReply p code) s = .next t ∧ (quiet t.dev p).entry = none ∧ attr t.dev PORT_QUIET_STATE p = 0
            ∧ (recast t.dev p).noNewData = false ∧ t.mem = s.mem)
      ∧ (∀ e sf, (quiet s.dev p).entry = some e → e.fromHost = false →
          ∃ t, exec (.quietAt p sf) s = .next t ∧ (quiet t.dev p).entry = some { e with step := .scheduled sf.toNat } ∧ KeepsAttrs [] s t ∧ t.mem = s.mem)
      ∧ (due s.dev tkQuietEntry p = true → (quiet s.dev p).entry.isSome = true →
          ∃ t, exec (.quietEntryTimeout p) s = .next t ∧ (quiet t.dev p).entry = none ∧ attr t.dev PORT_QUIET_STATE p = 0 ∧ t.mem = s.mem))
  ∧ (∀ (p : Fin 128) (s : State),
      (attr s.dev PORT_STATE p = psQuiet →
        (∀ marker corr offset, (quiet s.dev p).sfSince % refreshEvery s.dev p = 0 → 500 ≤ marker → 500 ≤ corr → offset.natAbs ≤ 128 →
          ∃ t, exec (.quietRefresh p marker corr offset) s = .next t ∧ attrInt t.dev PORT_RX_OFFSET p = offset ∧ (quiet t.dev p).missed = 0
            ∧ KeepsAttrs [(PORT_RX_OFFSET.code, p)] s t ∧ t.mem = s.mem)
        ∧ (∀ marker corr offset, (quiet s.dev p).sfSince % refreshEvery s.dev p = 0 → marker < 500 ∨ corr < 500 ∨ 128 < offset.natAbs →
          (quiet s.dev p).missed < 2 →
          ∃ t, exec (.quietRefresh p marker corr offset) s = .next t ∧ (quiet t.dev p).missed = (quiet s.dev p).missed + 1
            ∧ attr t.dev PORT_REFRESHES_MISSED p = (attr s.dev PORT_REFRESHES_MISSED p + 1) % 2 ^ 32
            ∧ KeepsAttrs [(PORT_REFRESHES_MISSED.code, p)] s t ∧ t.mem = s.mem)
        ∧ (∀ marker corr offset, (quiet s.dev p).sfSince % refreshEvery s.dev p = 0 → marker < 500 ∨ corr < 500 ∨ 128 < offset.natAbs →
          2 ≤ (quiet s.dev p).missed → (port s.dev p).stop = none →
          ∃ t, exec (.quietRefresh p marker corr offset) s = .next t ∧ attr t.dev PORT_STATE p = psListen
            ∧ attr t.dev PORT_PARTNER_LOSSES p = (attr s.dev PORT_PARTNER_LOSSES p + 1) % 2 ^ 32 ∧ t.mem = s.mem)
        ∧ ∃ t, exec (.tangentBurstDetected p) s = .next t ∧ attr t.dev PORT_STATE p = psCarry ∧ attr t.dev PORT_QUIET_STATE p = 0
          ∧ (quiet t.dev p).burstSent = true ∧ t.mem = s.mem)
      ∧ (attr s.dev PORT_STATE p = psDormant →
        (∀ offset, (quiet s.dev p).decidedAt ≠ 0 → (quiet s.dev p).burstSent = false → offset.natAbs ≤ 128 →
          ∃ t, exec (.relockDetected p offset) s = .next t ∧ (quiet t.dev p).answered = true ∧ (quiet t.dev p).burstSent = true
            ∧ armed t.dev tkWakeUnanswered p = false ∧ attr t.dev PORT_CLAIMS p % 256 = 2 ∧ KeepsAttrs [(PORT_CLAIMS.code, p)] s t ∧ t.mem = s.mem)
        ∧ (due s.dev tkWakeUnanswered p = true → (quiet s.dev p).answered = false → (port s.dev p).stop = none →
          ∃ t, exec (.wakeUnanswered p) s = .next t ∧ attr t.dev PORT_STATE p = psListen
            ∧ attr t.dev PORT_PARTNER_LOSSES p = (attr s.dev PORT_PARTNER_LOSSES p + 1) % 2 ^ 32 ∧ t.mem = s.mem)))

/-- R192, R193, R177, R180, R185, R188, R191: receptions of the service channel. A preamble opens a reception, a far stronger one captures it; a
valid header counts a burst and marks present the node that sent it, an invalid one counts a failure; the end of a burst takes its fields, its
fragment or its HELLO, and frees the channel. R180, R181, R182, R186, R189, R195, R198: the time limits of the service channel. Completes here,
each on the conditions of its clause: svcPreambleDetected, svcHeaderEnd, svcEmptyBurst, svcDataFragment, svcHello, svcGrantLapse, svcBeacon,
svcPollGrant, svcUnsolicitedHello, svcFragmentResend, svcPartialDiscard, svcBlankingEnd, wakeSequenceNext, segmentPollRetry. -/
def Obligations.svc_receives : Prop :=
  (∀ (p : Fin 128) (s : State),
      (∀ corr power (snr : Fin 256), 600 ≤ corr → svcListens s.dev p = true → (svc s.dev p).rx = none →
          ∃ t, exec (.svcPreambleDetected p ⟨corr, power⟩ snr) s = .next t ∧ (svc t.dev p).rx = some { power := power, snr := snr.val, header := none }
            ∧ armed t.dev tkGrantLapse p = false ∧ KeepsAttrs [] s t ∧ t.mem = s.mem)
      ∧ (∀ corr power (snr : Fin 256), corr < 600 → exec (.svcPreambleDetected p ⟨corr, power⟩ snr) s = .next s)
      ∧ (∀ corr power (snr : Fin 256) (r : SvcReception), 600 ≤ corr → svcListens s.dev p = true → (svc s.dev p).rx = some r → r.power + 6 ≤ power →
          ∃ t, exec (.svcPreambleDetected p ⟨corr, power⟩ snr) s = .next t ∧ (svc t.dev p).rx = some { power := power, snr := snr.val, header := none }
            ∧ attr t.dev SVC_CAPTURES p = (attr s.dev SVC_CAPTURES p + 1) % 2 ^ 32 ∧ KeepsAttrs [(SVC_CAPTURES.code, p)] s t ∧ t.mem = s.mem)
      ∧ (∀ (v : BitVec 36) (r : SvcReception), (svc s.dev p).rx = some r → r.header = none → headValid v.toNat = true →
          ∃ t, exec (.svcHeaderEnd p v) s = .next t ∧ attr t.dev SVC_BURSTS_RX p = (attr s.dev SVC_BURSTS_RX p + 1) % 2 ^ 32
            ∧ ((readHead v.toNat).ctrl = false → bitOf (attr t.dev SVC_NODE_PRESENT p) (readHead v.toNat).addr = true) ∧ t.mem = s.mem)
      ∧ (∀ (v : BitVec 36) (r : SvcReception), (svc s.dev p).rx = some r → r.header = none → headValid v.toNat = false → (svc s.dev p).pendingRx = none →
          ∃ t, exec (.svcHeaderEnd p v) s = .next t ∧ attr t.dev SVC_HEADER_FAILS p = (attr s.dev SVC_HEADER_FAILS p + 1) % 2 ^ 32
            ∧ (svc t.dev p).rx = none ∧ t.mem = s.mem)
      ∧ (∀ h, headOf s.dev p 0 = some h → exec (.svcEmptyBurst p) s = .next { s with dev := burstOver p h (burstFields p h s.dev) })
      ∧ (∀ h payload, headOf s.dev p 1 = some h →
          exec (.svcDataFragment p payload) s = .next { s with dev := burstOver p h (dataFragment p h payload (burstFields p h s.dev)) })
      ∧ (∀ h, headOf s.dev p 2 = some h → exec (.svcHello p) s = .next { s with dev := burstOver p h ((if fromPeer s.dev p h then helloFrom p h.addr else id) (burstFields p h s.dev)) }))
  ∧ (∀ (p : Fin 128) (s : State),
      (due s.dev tkGrantLapse p = true → exec (.svcGrantLapse p) s = .next { s with dev := grantLapse p (disarm tkGrantLapse p s.dev) })
      ∧ (attr s.dev PORT_STATE p = psListen → svcRole s.dev p = 1 → armed s.dev tkBeacon p = false ∨ due s.dev tkBeacon p = true →
          exec (.svcBeacon p) s = .next { s with dev := arm tkBeacon p 1000000 (svcKick p (modSvc p (fun x => { x with grantDue := true }) s.dev)) })
      ∧ (attr s.dev PORT_STATE p = psTrain → svcRole s.dev p = 1 → armed s.dev tkPollGrant p = false ∨ due s.dev tkPollGrant p = true →
          exec (.svcPollGrant p) s = .next { s with dev := arm tkPollGrant p 100000 (svcKick p (modSvc p (fun x => { x with grantDue := true }) s.dev)) })
      ∧ (attr s.dev PORT_STATE p = psCarry → svcRole s.dev p = 1 → armed s.dev tkPollGrant p = false ∨ due s.dev tkPollGrant p = true →
          exec (.svcPollGrant p) s = .next { s with
            dev := arm tkPollGrant p (attr s.dev SVC_POLL_INTERVAL p * 1000) (svcKick p (modSvc p (fun x => { x with grantDue := true }) s.dev)) })
      ∧ (svcRole s.dev p = 2 → channelFree s.dev p = true → heardNothing s.dev p = true → attr s.dev PORT_STATE p ≠ psNegotiate → armed s.dev tkHello p = false ∨ due s.dev tkHello p = true →
          ∃ t, exec (.svcUnsolicitedHello p) s = .next t ∧ attr t.dev SVC_BURSTS_TX p = (attr s.dev SVC_BURSTS_TX p + 1) % 2 ^ 32
            ∧ (svc t.dev p).lastBurst = some ⟨headBits { ctrl := false, ty := 2 }, []⟩ ∧ (svc t.dev p).blanked = true
            ∧ KeepsAttrs [(SVC_BURSTS_TX.code, p)] s t ∧ t.mem = s.mem)
      ∧ (∀ (n : Fin 5) f, due s.dev tkResend (8 * p.val + n.val) = true → (peer (svc s.dev p) n).out = some f → svcRole s.dev p ≠ 3 → f.tries < 3 →
          ∃ t, exec (.svcFragmentResend p n) s = .next t ∧ attr t.dev SVC_RESENDS p = (attr s.dev SVC_RESENDS p + 1) % 2 ^ 32
            ∧ KeepsAttrs [(SVC_RESENDS.code, p), (SVC_BURSTS_TX.code, p)] s t ∧ t.mem = s.mem)
      ∧ (∀ n : Fin 5, due s.dev tkPartial (8 * p.val + n.val) = true →
          ∃ t, exec (.svcPartialDiscard p n) s = .next t ∧ (∀ y ∈ (peer (svc t.dev p) n).partials, y.1 = 0) ∧ KeepsAttrs [] s t ∧ t.mem = s.mem)
      ∧ (due s.dev tkBlank p = true →
          exec (.svcBlankingEnd p) s = .next { s with dev := svcKick p (modSvc p (fun x => { x with blanked := false }) (disarm tkBlank p s.dev)) })
      ∧ (∀ n, due s.dev tkWakeNext p = true → (svc s.dev p).wakeLeft = n + 1 →
          ∃ t, exec (.wakeSequenceNext p) s = .next t ∧ (svc t.dev p).wakeLeft = n
            ∧ attr t.dev SVC_BURSTS_TX p = (attr s.dev SVC_BURSTS_TX p + 1) % 2 ^ 32 ∧ armed t.dev tkWakeNext p = decide (n ≠ 0)
            ∧ KeepsAttrs [(SVC_BURSTS_TX.code, p)] s t ∧ t.mem = s.mem)
      ∧ (∀ n : Fin 5, due s.dev tkPollRetry (8 * p.val + n.val) = true →
          exec (.segmentPollRetry p n) s = .next { s with
            dev := svcKick p (modSvc p (fun x => { x with polls := x.polls.map fun y => if y.node = n.val then { y with retryWait := false } else y })
              (disarm tkPollRetry (8 * p.val + n.val) s.dev)) }))

/-- R196, R197, R198: the commands of the service channel. SVC_SEND queues a message and answers its identifier, SVC_RECV answers the oldest
message received or none, SEGMENT_POLL begins to poll a node. Completes here, each on the conditions of its clause: svcSend, svcRecv,
segmentPoll. -/
def Obligations.svc_commands : Prop :=
  ∀ (r : Req) (s : State),
    (Takes 0xA0 r s → 5 ≤ r.params.length → r.params.length ≤ 1004 → byteAt r.params 0 ≤ 127 → leAt r.params 2 2 = 0 →
      (byteAt r.params 1 = 0 ∧ (attr s.dev PORT_STATE (byteAt r.params 0) = psTrain ∨ attr s.dev PORT_STATE (byteAt r.params 0) = psCarry)
          ∧ bitOf (attr s.dev PORT_PARTNER_ABILITY (byteAt r.params 0)) 33 = true)
        ∨ (1 ≤ byteAt r.params 1 ∧ byteAt r.params 1 ≤ 4 ∧ attr s.dev PORT_STATE (byteAt r.params 0) ∈ [psListen, psNegotiate, psTrain, psCarry]) →
      (svc s.dev (byteAt r.params 0)).queue.length < 4 →
      ∃ t, exec (.svcSend r) s = .next t ∧ Replied 0xA0 stAccepted r (toLE s.dev.msgId 2) s t
        ∧ (∃ m ∈ (svc t.dev (byteAt r.params 0)).queue, m.node = byteAt r.params 1 ∧ m.bytes = r.params.drop 4 ∧ m.id = s.dev.msgId)
        ∧ attr t.dev SVC_TX_QUEUE (byteAt r.params 0) = (svc s.dev (byteAt r.params 0)).queue.length + 1
        ∧ (findJob t.dev ⟨r.master, r.tag.toNat⟩).map (·.opcode) = some 0xA0 ∧ t.mem = s.mem)
    ∧ (Takes 0xA1 r s → r.params.length = 4 → leAt r.params 1 3 = 0 →
      (byteAt r.params 0 ≤ 127 ∨ byteAt r.params 0 = 0xFF → recvPort s.dev (byteAt r.params 0) = none →
        ∃ t, exec (.svcRecv r) s = .next t ∧ Replied 0xA1 stOk r [] s t ∧ KeepsAttrs [] s t ∧ KeepsUnits s t)
      ∧ (∀ m ms, byteAt r.params 0 ≤ 127 → (svc s.dev (byteAt r.params 0)).received = m :: ms → ms.length < 256 →
        ∃ t, exec (.svcRecv r) s = .next t ∧ (svc t.dev (byteAt r.params 0)).received = ms ∧ attr t.dev SVC_RX_QUEUE (byteAt r.params 0) = ms.length
          ∧ Replied 0xA1 stOk r ([byteOf (byteAt r.params 0), byteOf m.node, byteOf m.tclass, byteOf (bitNat (!ms.isEmpty))] ++ toLE m.bytes.length 2
              ++ toLE m.time 6 ++ m.bytes) s t ∧ t.mem = s.mem))
    ∧ (Takes 0xA2 r s → r.params.length = 4 → byteAt r.params 0 ≤ 127 → 1 ≤ byteAt r.params 1 → byteAt r.params 1 ≤ 4 → leAt r.params 2 2 = 0 →
      attr s.dev PORT_STATE (byteAt r.params 0) ∈ [psListen, psNegotiate, psTrain, psCarry] →
      (∀ q ∈ (svc s.dev (byteAt r.params 0)).polls, q.node ≠ byteAt r.params 1) →
      ∃ t, exec (.segmentPoll r) s = .next t ∧ Replied 0xA2 stAccepted r [] s t
        ∧ (∃ q ∈ (svc t.dev (byteAt r.params 0)).polls, q.node = byteAt r.params 1 ∧ q.job = ⟨r.master, r.tag.toNat⟩) ∧ t.mem = s.mem)

/-- R210, R212, R213, R214, R215: SNAPSHOT arms the lowest free record, and with it the capture buffer; a trigger fills the record, a STATE
record at the boundary that follows it; the end of the wait gives record and buffer back. Completes here, each on the conditions of its clause:
snapshot, snapshotTrigger, snapshotArmTimeout. -/
def Obligations.snapshots : Prop :=
  ∀ (s : State),
    (∀ (r : Req) (k : Nat), Takes 0x91 r s → r.params.length = 8 → byteAt r.params 0 ≤ 127 → byteAt r.params 1 ≤ 2 → byteAt r.params 2 ≤ 3 →
      leAt r.params 6 2 = 0 →
      (byteAt r.params 1 = 0 ∧ byteAt r.params 3 = 0
        ∨ (byteAt r.params 1 ≠ 0 ∧ 1 ≤ byteAt r.params 3 ∧ byteAt r.params 3 ≤ (if byteAt r.params 1 = 1 then 8 else 6)
            ∧ captureFailed s.dev (byteAt r.params 0) = false ∧ claimHeld (captureHolder s.dev (byteAt r.params 0)) = false)) →
      (byteAt r.params 2 = 0 ∧ leAt r.params 4 2 = 0 ∨ (byteAt r.params 2 ≠ 0 ∧ 1 ≤ leAt r.params 4 2 ∧ leAt r.params 4 2 ≤ 60000)) →
      snapshotAllowed (byteAt r.params 1) (byteAt r.params 2) (attr s.dev PORT_STATE (byteAt r.params 0)) = true → domainOn s.dev 188 = true →
      k < 8 → blockByte s.dev DEVICE_SNAP_STATE 0 k = 0 → (∀ j < k, blockByte s.dev DEVICE_SNAP_STATE 0 j ≠ 0) →
      ∃ t x, exec (.snapshot r) s = .next t ∧ Replied 0x91 stAccepted r [byteOf k] s t ∧ blockByte t.dev DEVICE_SNAP_STATE 0 k = 1
        ∧ snapshotOf t.dev k = some x ∧ x.port = byteAt r.params 0 ∧ x.kind = byteAt r.params 1 ∧ x.trigger = byteAt r.params 2 ∧ x.symbols = byteAt r.params 3
        ∧ (byteAt r.params 1 ≠ 0 → captureHolder t.dev (byteAt r.params 0) = 4) ∧ t.mem = s.mem)
    ∧ (∀ (k : Fin 8) x time sf data, snapshotOf s.dev k = some x → x.fired = true →
      (x.kind = 0 → x.due = true ∧ atBoundary s.dev (prismOf x.port) = true) →
      ∃ t, exec (.snapshotTrigger k time sf data) s = .next t ∧ snapshotOf t.dev k = none ∧ blockByte t.dev DEVICE_SNAP_STATE 0 k = 2
        ∧ bitOf (attr t.dev DEVICE_SNAP_READY 0) k = true ∧ t.mem = s.mem)
    ∧ (∀ (k : Fin 8) x, snapshotOf s.dev k = some x → x.fired = false → due s.dev tkSnapArm k = true →
      ∃ t, exec (.snapshotArmTimeout k) s = .next t ∧ snapshotOf t.dev k = none ∧ blockByte t.dev DEVICE_SNAP_STATE 0 k = 0
        ∧ bitOf (attr t.dev DEVICE_SNAP_READY 0) k = false ∧ t.mem = s.mem)

/-- R211, R217, R218, R219, R222: a cable scan listens, waits for its ramp, transmits, analyses and reports; energy of the partner, and a
claimant of rank 1, end it. Completes here, each on the conditions of its clause: cableScan, cableScanListenEnd, cableScanStartTx,
cableScanCorrelationEnd, cableScanAnalysisDone, cableScanPartnerEnergy, diagnosticPreempt. -/
def Obligations.cable_scans : Prop :=
  ∀ (p : Fin 128) (s : State),
    (∀ r : Req, Takes 0x90 r s → r.params.length = 4 → byteAt r.params 0 = p → byteAt r.params 1 = 0 ∨ (4 ≤ byteAt r.params 1 ∧ byteAt r.params 1 ≤ 64) →
      leAt r.params 2 2 = 0 → attr s.dev PORT_STATE p = psDown ∨ attr s.dev PORT_STATE p = psListen → pathOn s.dev p = true →
      captureFailed s.dev p = false → claimHeld (txHolder s.dev p) = false → claimHeld (captureHolder s.dev p) = false →
      ∃ t x, exec (.cableScan r) s = .next t ∧ Replied 0x90 stAccepted r [] s t ∧ (port t.dev p).scan = some x ∧ x.step = .listening
        ∧ x.length = (if byteAt r.params 1 = 0 then 16 else byteAt r.params 1) ∧ x.job = ⟨r.master, r.tag.toNat⟩ ∧ attr t.dev PORT_CLAIMS p = 0x0303
        ∧ armed t.dev tkScanListen p = true ∧ t.mem = s.mem)
    ∧ (∀ (x : Scan) noise, due s.dev tkScanListen p = true → (port s.dev p).scan = some x →
      ∃ t, exec (.cableScanListenEnd p noise) s = .next t ∧ (port t.dev p).scan = some { x with noise := noise, step := .waitRamp }
        ∧ (prism t.dev (prismOf p)).rampQueue = (prism s.dev (prismOf p)).rampQueue ++ [p.val] ∧ KeepsAttrs [] s t ∧ t.mem = s.mem)
    ∧ (∀ x, (port s.dev p).scan = some x → scanTurn s.dev p = true →
      ∃ t, exec (.cableScanStartTx p) s = .next t ∧ (port t.dev p).scan = some { x with step := .ramp }
        ∧ attr t.dev PRISM_ADMISSION_PORT (prismOf p) = p ∧ KeepsAttrs [(PRISM_ADMISSION_PORT.code, prismOf p)] s t ∧ t.mem = s.mem)
    ∧ (∀ x, due s.dev tkScan p = true → (port s.dev p).scan = some x → x.step = .correlating →
      ∃ t, exec (.cableScanCorrelationEnd p) s = .next t ∧ (port t.dev p).scan = some { x with step := .analysing } ∧ txHolder t.dev p = 0
        ∧ captureHolder t.dev p = captureHolder s.dev p ∧ KeepsAttrs [(PORT_CLAIMS.code, p)] s t ∧ t.mem = s.mem)
    ∧ (∀ x same opposite, (port s.dev p).scan = some x → x.step = .analysing →
      ∃ t, exec (.cableScanAnalysisDone p same opposite) s = .next t ∧ (port t.dev p).scan = none
        ∧ attr t.dev PORT_SCAN_COUNT p = (attr s.dev PORT_SCAN_COUNT p + 1) % 2 ^ PORT_SCAN_COUNT.width ∧ t.mem = s.mem)
    ∧ (∀ x, (port s.dev p).scan = some x → x.step ≠ .analysing →
      ∃ t, exec (.cableScanPartnerEnergy p) s = .next t ∧ (port t.dev p).scan = none ∧ t.mem = s.mem)
    ∧ (∀ x, (port s.dev p).scan = some x → ∀ capture, ∃ t, exec (.diagnosticPreempt p capture) s = .next t ∧ (port t.dev p).scan = none ∧ t.mem = s.mem)

/-- R30, R31, R509, R510, R512: TIME_SET steps or slews device time; an election makes the lowest index with a valid pulse the time master; three
good intervals of TIMEPULSE_IN in a row make the pulse valid, a bad one or none ends that; a follower takes its partner's time. That an ADJUST
adds to a slew under way is the model's choice (assumption 120). Completes here, each on the conditions of its clause: timeSet,
timeMasterElection, timepulseInEdge, timepulseInLost, chordTimeSync, atPulseTimeout, timepulseOutPulse, timepulseOutWidthEnd. -/
def Obligations.device_time : Prop :=
  ∀ (s : State),
    (∀ (r : Req) (move : Int), Takes 0xC8 r s → r.params.length = 22 → leAt r.params 1 3 = 0 → isTimeMaster s.dev = true →
      (byteAt r.params 0 = 0 ∧ leAt r.params 10 4 < 1000000000 ∧ leAt r.params 14 8 = 0
          ∧ move = Int.ofNat (leAt r.params 4 6 * 1000000000 + leAt r.params 10 4) - Int.ofNat s.dev.devTime)
        ∨ (byteAt r.params 0 = 1 ∧ leAt r.params 10 4 = 0 ∧ move = signedOf 64 (leAt r.params 14 8) ∧ move.natAbs ≤ 1000000000000000) →
      ∃ t, exec (.timeSet r) s = .next t ∧ Replied 0xC8 stOk r [] s t ∧ attr t.dev TIME_VALID 0 = 1 ∧ t.mem = s.mem
        ∧ t.dev.time.slewLeft = (if move.natAbs ≤ 1000 then move else move - move.tdiv 40 * 40) + (if byteAt r.params 0 = 1 then s.dev.time.slewLeft else 0)
        ∧ t.dev.devTime = (if move.natAbs ≤ 1000 then s.dev.devTime else ((Int.ofNat s.dev.devTime + move.tdiv 40 * 40) % Int.ofNat timeSpan).toNat)
        ∧ attr t.dev TIME_STEPS 0 = (attr s.dev TIME_STEPS 0 + if move.natAbs ≤ 1000 then 0 else 1) % 2 ^ TIME_STEPS.width)
    ∧ (∀ r : Req, Takes 0xC8 r s → r.params.length = 22 → leAt r.params 1 3 = 0 → isTimeMaster s.dev = true → byteAt r.params 0 = 2 →
      leAt r.params 10 4 = 0 → leAt r.params 14 8 = 0 → attrOn s.dev LATTICE_PULSE_VALID 0 = true →
      ∃ t, exec (.timeSet r) s = .next t ∧ Replied 0xC8 stAccepted r [] s t
        ∧ t.dev.time.atPulse = s.dev.time.atPulse ++ [(⟨r.master, r.tag.toNat⟩, leAt r.params 4 6)] ∧ t.dev.devTime = s.dev.devTime ∧ t.mem = s.mem)
    ∧ (∀ (others : List (Fin 8 × Bool)) (w : Nat), anyChord s.dev = true →
      (w = attr s.dev LATTICE_INDEX 0 ∧ attrOn s.dev LATTICE_PULSE_VALID 0 = true ∨ ∃ x ∈ others, x.1.val = w ∧ x.2 = true) →
      (attrOn s.dev LATTICE_PULSE_VALID 0 = true → w ≤ attr s.dev LATTICE_INDEX 0) → (∀ x ∈ others, x.2 = true → w ≤ x.1.val) →
      ∃ t, exec (.timeMasterElection others) s = .next t ∧ attr t.dev LATTICE_TIME_MASTER 0 = w
        ∧ attr t.dev LATTICE_ELECTION_COUNT 0 = (attr s.dev LATTICE_ELECTION_COUNT 0 + 1) % 2 ^ LATTICE_ELECTION_COUNT.width ∧ t.mem = s.mem)
    ∧ (∀ rising, s.dev.phase ≠ .held → (rising = true ↔ attr s.dev TIME_PULSE_IN_EDGE 0 = 0) →
      ∃ t, exec (.timepulseInEdge rising) s = .next t
        ∧ t.dev.time.pulseGood = (if intervalGood s.dev = true then min 3 (s.dev.time.pulseGood + 1) else 0)
        ∧ attr t.dev LATTICE_PULSE_VALID 0 = bitNat (intervalGood s.dev && decide (2 ≤ s.dev.time.pulseGood)) ∧ t.mem = s.mem)
    ∧ (due s.dev tkPulseIn 0 = true →
      ∃ t, exec .timepulseInLost s = .next t ∧ attr t.dev LATTICE_PULSE_VALID 0 = 0 ∧ t.dev.time.pulseGood = 0
        ∧ KeepsAttrs [(LATTICE_PULSE_VALID.code, 0)] s t ∧ t.mem = s.mem)
    ∧ (∀ offset, isTimeMaster s.dev = false → anyChord s.dev = true → offset.natAbs ≤ 1000 →
      ∃ t, exec (.chordTimeSync offset true) s = .next t ∧ attr t.dev TIME_VALID 0 = 1 ∧ t.dev.time.slewLeft = offset ∧ t.dev.devTime = s.dev.devTime
        ∧ KeepsAttrs [(TIME_VALID.code, 0), (TIME_SLEW.code, 0)] s t ∧ t.mem = s.mem)
    ∧ (∀ (m : Fin 4) (tag : Byte), due s.dev tkAtPulse (256 * m.val + tag.toNat) = true →
      ∃ t, exec (.atPulseTimeout m tag) s = .next t ∧ t.dev.time.atPulse = s.dev.time.atPulse.filter (fun x => !(x.1 == ⟨m, tag.toNat⟩)) ∧ t.mem = s.mem)
    ∧ (s.dev.phase = .ready → attr s.dev TIME_PULSE_OUT_PERIOD 0 ≠ 0 → multipleDue s.dev tkPulseOut (attr s.dev TIME_PULSE_OUT_PERIOD 0 * 1000000) = true →
      ∃ t, exec .timepulseOutPulse s = .next t ∧ t.dev.time.pulseOut = true ∧ armed t.dev tkPulseWidth 0 = true ∧ armed t.dev tkPulseOut 0 = true
        ∧ KeepsAttrs [] s t ∧ t.mem = s.mem)
    ∧ (due s.dev tkPulseWidth 0 = true →
      ∃ t, exec .timepulseOutWidthEnd s = .next t ∧ t.dev.time.pulseOut = false ∧ KeepsAttrs [] s t ∧ t.mem = s.mem)

/-- R291, R292, R293: the commands on flows. FLOW_OPEN takes a free context for a target that fits, on the inner pair chosen for it; FLOW_MAP
writes the map of an open one; FLOW_CLOSE frees the context at once or lets it drain. R293, R288, R15, R166: drains end when nothing of the flow
is held, or after 10 ms; a FAILOVER flow returns to A after a second; a flow whose inner pair no longer carries moves to another (the pair is the
model's choice, assumption 119); the flows of a chord leave a member that is not in CARRY once another is. Completes here, each on the conditions
of its clause: flowOpen, flowMap, flowClose, flowDrainComplete, flowDrainTimeout, failoverReturn, innerGroupFlowMove, chordFlowMove. -/
def Obligations.flows : Prop :=
  (∀ (r : Req) (s : State) (f : Nat), f < 1024 →
      (∀ q qs die, Takes 0x40 r s → r.params.length = 20 →
        (leAt r.params 0 2 = f ∨ (leAt r.params 0 2 = 0xFFFF ∧ ∀ g < f, attr s.dev FLOW_STATE g ≠ 0)) → attr s.dev FLOW_STATE f = 0 →
        (byteAt r.params 2 = 0 ∧ byteAt r.params 3 ≤ 127 ∧ byteAt r.params 4 ≤ 8 ∧ die = dieOf (byteAt r.params 3)
          ∨ (byteAt r.params 2 = 1 ∧ byteAt r.params 3 ≤ 31 ∧ 9 ≤ byteAt r.params 4 ∧ byteAt r.params 4 ≤ 12 ∧ chordBound s.dev (byteAt r.params 3) = true
              ∧ die = dieOf ((chordPorts s.dev (byteAt r.params 3)).headD 0))) →
        mapFieldsOk r.params = true → groupsClosed s.dev r.params = false →
        flowOfTarget s.dev (byteAt r.params 2) (byteAt r.params 3) (byteAt r.params 4) = none →
        hostShort s.dev [] (wantedCharges s.dev r.params 0xFF die) r.params = none → fittingPairs s.dev r.params die = q :: qs →
        ∃ t, exec (.flowOpen r) s = .next t ∧ attr t.dev FLOW_STATE f = 1 ∧ attr t.dev FLOW_KIND f = byteAt r.params 2
          ∧ attr t.dev FLOW_TARGET f = byteAt r.params 3 ∧ attr t.dev FLOW_CLASS f = byteAt r.params 4 ∧ attr t.dev FLOW_MAP f = leAt r.params 5 4
          ∧ attr t.dev FLOW_FLAGS f = byteAt r.params 9 ∧ attr t.dev FLOW_INNER f = choosePair s.dev die (q :: qs) % 256
          ∧ Replied 0x40 stOk r (toLE f 2 ++ [byteOf (choosePair s.dev die (q :: qs)), byteOf (attr t.dev FLOW_MEMBER f)]) s t ∧ t.mem = s.mem)
      ∧ (Takes 0x42 r s → r.params.length = 20 → leAt r.params 0 2 = f → leAt r.params 2 3 = 0 → mapFieldsOk r.params = true →
        groupsClosed s.dev r.params = false → attr s.dev FLOW_STATE f = 1 →
        hostShort s.dev (flowCharges s.dev f) (wantedCharges s.dev r.params (attr s.dev FLOW_INNER f) (flowDie s.dev f)) r.params = none →
        innerShort s.dev (flowCharges s.dev f) (wantedCharges s.dev r.params (attr s.dev FLOW_INNER f) (flowDie s.dev f)) (flowDie s.dev f)
          (attr s.dev FLOW_INNER f) false = none →
        ∃ t, exec (.flowMap r) s = .next t ∧ Replied 0x42 stOk r [] s t ∧ attr t.dev FLOW_STATE f = 1 ∧ attr t.dev FLOW_MAP f = leAt r.params 5 4
          ∧ attr t.dev FLOW_FLAGS f = byteAt r.params 9 ∧ attr t.dev FLOW_FRAME_HINT f = leAt r.params 10 2
          ∧ attr t.dev FLOW_RATE_TO_HOST f = leAt r.params 12 4 ∧ attr t.dev FLOW_RATE_FROM_HOST f = leAt r.params 16 4 ∧ t.mem = s.mem)
      ∧ (Takes 0x41 r s → r.params.length = 4 → leAt r.params 0 2 = f → byteAt r.params 3 = 0 → attr s.dev FLOW_STATE f = 1 →
        (byteAt r.params 2 = 0 → ∃ t, exec (.flowClose r) s = .next t ∧ Replied 0x41 stAccepted r [] s t ∧ attr t.dev FLOW_STATE f = 2
          ∧ armed t.dev tkDrain f = true ∧ (flow t.dev f).drain = some ⟨r.master, r.tag.toNat⟩ ∧ KeepsAttrs [(FLOW_STATE.code, f)] s t ∧ t.mem = s.mem)
        ∧ (byteAt r.params 2 = 1 → ∃ t, exec (.flowClose r) s = .next t ∧ Replied 0x41 stOk r [] s t ∧ attr t.dev FLOW_STATE f = 0
          ∧ attr t.dev FLOW_FRAMES_TO_HOST f = 0 ∧ t.mem = s.mem)))
  ∧ (∀ (s : State),
      (∀ f : Fin 1024, attr s.dev FLOW_STATE f = 2 →
        (flowHolds s.dev f = false → ∃ t, exec (.flowDrainComplete f) s = .next t ∧ attr t.dev FLOW_STATE f = 0 ∧ t.mem = s.mem)
        ∧ (due s.dev tkDrain f = true → ∃ t, exec (.flowDrainTimeout f) s = .next t ∧ attr t.dev FLOW_STATE f = 0 ∧ t.mem = s.mem))
      ∧ (∀ f : Fin 1024, due s.dev tkFailover f = true → attr s.dev FLOW_STATE f ≠ 0 → flowMap s.dev f 2 = 2 →
        attr s.dev FLOW_ACTIVE_HOST f ≠ flowMap s.dev f 0 → groupUp s.dev (flowMap s.dev f 0) = true →
        ∃ t, exec (.failoverReturn f) s = .next t ∧ attr t.dev FLOW_ACTIVE_HOST f = flowMap s.dev f 0
          ∧ (flow t.dev f).hostEra = (flow s.dev f).hostEra + 1 ∧ armed t.dev tkFailover f = false ∧ t.mem = s.mem)
      ∧ (∀ (f : Fin 1024) q qs, attr s.dev FLOW_STATE f ≠ 0 → innerBroken s.dev f = true →
        ((List.range 4).filter fun x => groupCarries s.dev (16 + 8 * flowDie s.dev f + x) && groupCarries s.dev (20 + 8 * flowDie s.dev f + x)) = q :: qs →
        ∃ t, exec (.innerGroupFlowMove f) s = .next t ∧ attr t.dev FLOW_INNER f = choosePair s.dev (flowDie s.dev f) (q :: qs) % 256
          ∧ (flow t.dev f).innerEra = (flow s.dev f).innerEra + 1 ∧ t.mem = s.mem)
      ∧ (∀ p : Fin 128, due s.dev tkChordMove p = true → attr s.dev PORT_STATE p ≠ psCarry →
        exec (.chordFlowMove p) s = .next { s with
          dev :=
            if (chordPorts s.dev (attr s.dev PORT_CHORD p)).any fun q => attr s.dev PORT_STATE q == psCarry then
              forAll (memberFlows s.dev p) moveMember (disarm tkChordMove p s.dev)
            else s.dev }))

/-- R278, R280, R281, R376: at each multiple of 40 ns of device time the hub's rounds count what the two copies of its control did differently; a
window in which no source missed more than 250 slots in a millisecond only starts the counts again; a window of comparisons within one in a
hundred starts them again, one beyond it is reported. Completes here, each on the conditions of its clause: hubRound, slowWindow,
hubControlWindow. -/
def Obligations.hub_rounds : Prop :=
  ∀ (s : State),
    (∀ missed again (bad : List (Fin 136)), multipleDue s.dev tkHub 40 = true →
      exec (.hubRound missed again bad) s = .next { s with
        dev :=
          hubRound ((missed ++ bad).map (·.val)) (hubCompare again bad.length (armMultiple tkHub 0 40 s.dev)) })
    ∧ (∀ last, multipleDue s.dev tkSlow nsPerMs = true → (∀ x ∈ s.dev.sources, x.2.missed ≤ 250) →
      exec (.slowWindow last) s = .next { s with
        dev :=
          forAll (s.dev.sources.map (·.1)) (fun k => modSource k fun x => { x with missed := 0 }) (armMultiple tkSlow 0 nsPerMs s.dev) })
    ∧ (armed s.dev tkHubControl 0 = false ∨ due s.dev tkHubControl 0 = true →
      (100 * s.dev.faults.hubBad ≤ s.dev.faults.hubSlots →
        exec .hubControlWindow s = .next { s with dev := modFaults (fun y => { y with hubBad := 0, hubSlots := 0 }) (arm tkHubControl 0 nsPerMs s.dev) })
      ∧ (s.dev.faults.hubSlots < 100 * s.dev.faults.hubBad →
        exec .hubControlWindow s = .next { s with
          dev :=
            unmasked clsDevice 0 0xFF 7 unmHubControl (modFaults (fun y => { y with hubBad := 0, hubSlots := 0 }) (arm tkHubControl 0 nsPerMs s.dev)) }))

/-- R241, R255, R257, R258, R260: the commands on Drigal pairs. LANE_TRAIN begins a training in its first phase; LANE_LOOP loops the pair or
clears a loop; PATTERN_RUN begins a run on a lane; LANE_IDLE sets the idle mode, and takes a pair that carries no rows to L2. R255, R256:
PATTERN_RUN begins a run on a lane and the end of its time ends it. Completes here, each on the conditions of its clause: laneTrain, laneLoop,
laneIdle, patternRun, patternRunEnd. -/
def Obligations.pair_commands : Prop :=
  (∀ (r : Req) (s : State) (pair : Nat), pair ≤ 15 → byteAt r.params 0 = pair →
      (Takes 0x50 r s → r.params.length = 4 → byteAt r.params 1 ≤ 1 → byteAt r.params 2 < 32 → byteAt r.params 3 = 0 →
        pair < 8 ∨ lcOpen s.dev = true ∨ namedLanes (byteAt r.params 2) = [4] →
        (namesCarrying s.dev pair (namedLanes (byteAt r.params 2)) && pairMapped s.dev pair) = false → pairIn s.dev pair 6 = false → pairIn s.dev pair 5 = false →
        pairOn s.dev pair = true → s.dev.startOwed = false → pairTraining s.dev pair = false →
        laneSliced s.dev pair (namedLanes (byteAt r.params 2)) = false →
        ∃ t, exec (.laneTrain r) s = .next t ∧ Replied 0x50 stAccepted r [] s t
          ∧ training t.dev pair = some ⟨.command ⟨r.master, r.tag.toNat⟩, byteAt r.params 1 == 1, namedLanes (byteAt r.params 2), 1, false, [], [], 0, 0⟩
          ∧ armed t.dev tkLanePhase pair = true ∧ t.mem = s.mem)
      ∧ (Takes 0x51 r s → r.params.length = 4 → 1 ≤ byteAt r.params 1 → byteAt r.params 1 ≤ 3 → leAt r.params 2 2 = 0 → pairMapped s.dev pair = false →
        pairIn s.dev pair 5 = false → ownChannel r.master.val pair = false → pair < 8 ∨ lcOpen s.dev = true →
        ∃ t, exec (.laneLoop r) s = .next t ∧ Replied 0x51 stOk r [] s t ∧ attr t.dev GROUP_STATE (pairTx pair) = 6 ∧ attr t.dev GROUP_STATE (pairRx pair) = 6
          ∧ (link t.dev (pairTx pair)).loop = byteAt r.params 1 ∧ training t.dev pair = none ∧ t.mem = s.mem)
      ∧ (Takes 0x51 r s → r.params.length = 4 → byteAt r.params 1 = 0 → leAt r.params 2 2 = 0 → pairMapped s.dev pair = false →
        pairIn s.dev pair 5 = false → ownChannel r.master.val pair = false → pair < 8 ∨ lcOpen s.dev = true →
        ∃ t, exec (.laneLoop r) s = .next t ∧ Replied 0x51 stOk r [] s t ∧ attr t.dev GROUP_STATE (pairTx pair) = 0 ∧ attr t.dev GROUP_STATE (pairRx pair) = 0
          ∧ (link t.dev (pairTx pair)).loop = 0 ∧ training t.dev pair = none ∧ t.mem = s.mem)
      ∧ (∀ mode, mode ≤ 1 → Takes 0x53 r s → r.params.length = 4 → byteAt r.params 1 = mode → leAt r.params 2 2 = 0 → pairOn s.dev pair = true →
        pairIn s.dev pair 5 = false →
        ∃ t, exec (.laneIdle r) s = .next t ∧ Replied 0x53 stOk r [] s t ∧ attr t.dev GROUP_IDLE_MODE (pairTx pair) = mode
          ∧ attr t.dev GROUP_IDLE_MODE (pairRx pair) = mode ∧ t.mem = s.mem)
      ∧ (Takes 0x53 r s → r.params.length = 4 → byteAt r.params 1 = 2 → leAt r.params 2 2 = 0 → pairOn s.dev pair = true → pairMapped s.dev pair = false →
        pairIn s.dev pair 6 = false → pairTraining s.dev pair = false → (link s.dev (pairTx pair)).l2 = none → ownChannel r.master.val pair = false →
        groupRuns s.dev (pairTx pair) = false →
        ∃ t, exec (.laneIdle r) s = .next t ∧ Replied 0x53 stAccepted r [] s t ∧ attr t.dev GROUP_STATE (pairTx pair) = 5 ∧ attr t.dev GROUP_STATE (pairRx pair) = 5
          ∧ attr t.dev GROUP_IDLE_MODE (pairTx pair) = 2 ∧ t.mem = s.mem))
  ∧ (∀ (l : Fin 256) (s : State),
      (∀ r : Req, Takes 0x52 r s → r.params.length = 12 → leAt r.params 0 2 = l → patternFieldsOk r.params = true →
        l.val < 128 ∨ lcOpen s.dev = true ∨ l.val % 8 = 4 → patternPlace s.dev l (byteAt r.params 2) = true → sliceRegion s.dev (0x300 + l.val) = false →
        ∃ t, exec (.patternRun r) s = .next t ∧ Replied 0x52 stAccepted r [] s t
          ∧ (lane t.dev l).pattern = some ⟨⟨r.master, r.tag.toNat⟩, byteAt r.params 2, byteAt r.params 3, byteAt r.params 4, leAt r.params 6 2, 0, 0, 0, 0, 0, 0, 0⟩
          ∧ attr t.dev LANE_STATE l = 3 ∧ armed t.dev tkPattern l = true ∧ KeepsAttrs [(LANE_STATE.code, l)] s t ∧ t.mem = s.mem)
      ∧ (∀ x found, due s.dev tkPattern l = true → (lane s.dev l).pattern = some x →
        ∃ t, exec (.patternRunEnd l found) s = .next t ∧ (lane t.dev l).pattern = none
          ∧ attr t.dev LANE_STATE l = (if groupRuns s.dev (l / 8) = false ∧ attr s.dev LANE_STATE l = 3 then (if attr s.dev GROUP_STATE (l / 8) = 6 then 7 else 0) else attr s.dev LANE_STATE l) ∧ t.mem = s.mem))

/-- R242, R244, R236, R260, R532: a training goes from phase to phase once its lanes have met the phase's end; a QUICK phase that runs out is
repeated as FULL; requests of a training frame move the taps of the reverse direction; 1 ms after a retrain that did not succeed the pair goes
DOWN; the far end's LC restart and a start attempt begin a training. R246, R250, R253, R264: events of single lanes: a lost lock counts against
the lane, a millisecond within both limits starts the counts again, ten seconds of clean spare pattern make a retrained lane the spare, and a
lost LC is a fault of LC. Completes here, each on the conditions of its clause: laneTrainPhaseEnd, laneTrainPhaseTimeout, trainingFrame,
quickRetrainTimeout, farLcRestart, startPairRetry, laneLockLoss, laneErrorWindow, sparePatternClean, lcLoss, laneSubst. -/
def Obligations.lane_training : Prop :=
  (∀ (s : State),
      (∀ (pair : Fin 16) x ms, training s.dev pair = some x → x.phase < 4 → noCoefficients s.dev pair x = false →
        ((trainGroups pair x.why).any fun g => !groupMet s.dev x ms g) = false →
        ∃ t, exec (.laneTrainPhaseEnd pair ms) s = .next t ∧ training t.dev pair = some { x with phase := x.phase + 1, repeated := false }
          ∧ armed t.dev tkLanePhase pair = true ∧ t.mem = s.mem)
      ∧ (∀ (pair : Fin 16) x, training s.dev pair = some x → x.phase = 4 → ((trainGroups pair x.why).any fun g => !groupMet s.dev x [] g) = false →
        exec (.laneTrainPhaseEnd pair []) s = .next { s with dev := finishTraining pair x s.dev })
      ∧ (∀ (pair : Fin 16) x failTx failRx, due s.dev tkLanePhase pair = true → training s.dev pair = some x → (x.quick && !x.repeated) = true →
        ∃ t, exec (.laneTrainPhaseTimeout pair failTx failRx) s = .next t ∧ training t.dev pair = some { x with repeated := true }
          ∧ armed t.dev tkLanePhase pair = true ∧ t.mem = s.mem)
      ∧ (∀ (l : Fin 256) (control status request : BitVec 16), groupReceives (l / 8) = true → inEqualise s.dev (l / 8) (l % 8) = true →
        groupSends (reverseOf (l / 8)) = true →
        ∃ t, exec (.trainingFrame l control status request) s = .next t
          ∧ (attr t.dev LANE_TX_PRE (laneOf (reverseOf (l / 8)) (l % 8)), attr t.dev LANE_TX_POST (laneOf (reverseOf (l / 8)) (l % 8)))
              = (applyRequest (attr s.dev LANE_TX_PRE (laneOf (reverseOf (l / 8)) (l % 8))) (attr s.dev LANE_TX_POST (laneOf (reverseOf (l / 8)) (l % 8)))
                  control.toNat (lane s.dev (laneOf (reverseOf (l / 8)) (l % 8))).lastControl (lane s.dev (laneOf (reverseOf (l / 8)) (l % 8))).status).1
          ∧ (lane t.dev (laneOf (reverseOf (l / 8)) (l % 8))).lastControl = control.toNat
          ∧ t.mem = s.mem)
      ∧ (∀ pair : Fin 16, due s.dev tkQuickRetrain pair = true → attr s.dev GROUP_STATE (pairTx pair) = 1 ∨ attr s.dev GROUP_STATE (pairRx pair) = 1 →
        ∃ t, exec (.quickRetrainTimeout pair) s = .next t ∧ attr t.dev GROUP_STATE (pairTx pair) = 0 ∧ attr t.dev GROUP_STATE (pairRx pair) = 0 ∧ t.mem = s.mem)
      ∧ (∀ pair : Fin 16, pairIn s.dev pair 5 = true → pairOn s.dev pair = true → training s.dev pair = none →
        ∃ t, exec (.farLcRestart pair) s = .next t ∧ training t.dev pair = some ⟨.farExit, true, [0, 1, 2, 3, 4], 1, false, [], [], 0, 0⟩ ∧ t.mem = s.mem)
      ∧ (∀ pair : Fin 8, due s.dev tkStartPair pair = true → exec (.startPairRetry pair) s = .next { s with dev := startPair pair (disarm tkStartPair pair s.dev) }))
  ∧ (∀ (s : State),
      (∀ l : Fin 256, watched s.dev (l / 8) (l % 8) = true →
        ∃ t, exec (.laneLockLoss l) s = .next t ∧ attr t.dev LANE_LOCK_LOSSES l = (attr s.dev LANE_LOCK_LOSSES l + 1) % 2 ^ LANE_LOCK_LOSSES.width
          ∧ attr t.dev LANE_FAULT_COUNT l = (attr s.dev LANE_FAULT_COUNT l + 1) % 2 ^ LANE_FAULT_COUNT.width ∧ t.mem = s.mem)
      ∧ (∀ l : Fin 256, armed s.dev tkCorrRun l = false ∨ due s.dev tkCorrRun l = true → (lane s.dev l).uncorr ≤ attr s.dev LANE_FAULT_UNCORR l →
        (lane s.dev l).corr ≤ attr s.dev LANE_FAULT_CORR l →
        ∃ t, exec (.laneErrorWindow l) s = .next t ∧ (lane t.dev l).uncorr = 0 ∧ (lane t.dev l).corr = 0 ∧ (lane t.dev l).corrRun = 0
          ∧ armed t.dev tkCorrRun l = true ∧ KeepsAttrs [] s t ∧ t.mem = s.mem)
      ∧ (∀ l : Fin 256, due s.dev tkSpareClean l = true → (lane s.dev l).retrain = 2 → groupRuns s.dev (l / 8) = true →
        ∃ t, exec (.sparePatternClean l) s = .next t ∧ (lane t.dev l).retrain = 0 ∧ attr t.dev GROUP_SPARE_STATE (l / 8) = 0 ∧ (∀ i, (link t.dev (l / 8)).cover ≠ some (1, i))
          ∧ KeepsAttrs [(GROUP_SPARE_STATE.code, l / 8)] s t ∧ t.mem = s.mem)
      ∧ (∀ g : Fin 32, groupReceives g = true → groupRuns s.dev g = true → (link s.dev g).lcLost = false →
        ∃ t, exec (.lcLoss g) s = .next t ∧ (link t.dev g).lcLost = true ∧ attr t.dev LANE_STATE (laneOf g 5) = 5
          ∧ attr t.dev LANE_FAULT_COUNT (laneOf g 5) = (attr s.dev LANE_FAULT_COUNT (laneOf g 5) + 1) % 2 ^ LANE_FAULT_COUNT.width ∧ t.mem = s.mem)
      ∧ (∀ (g : Fin 32) c, groupSends g = true → (link s.dev g).subAnn = some c → c.slot = txSlot s.dev g →
        exec (.laneSubst g) s = .next { s with dev := rxChangeDue g (applyTxChange g c s.dev) })
      ∧ (∀ (g : Fin 32) c, groupReceives g = true → (link (txChangeDue g s.dev) g).rxAnn = some c → c.slot = rxSlot (txChangeDue g s.dev) g →
        exec (.laneSubst g) s = .next { s with
          dev := coverFaulted g (applyMapChange g c.code c.rank (modLink g (fun y => { y with rxAnn := none }) (txChangeDue g s.dev))) })
      ∧ (∀ (g : Fin 32) r, groupReceives g = true → (link (txChangeDue g s.dev) g).rxAnn = none → (link (txChangeDue g s.dev) g).subReq = some r →
        r.rank = 1 → r.asked = true → r.applied = false → r.slot = rxSlot (txChangeDue g s.dev) g →
        exec (.laneSubst g) s = .next { s with
          dev := applyMapChange g r.code 1 (modLink g (fun y => { y with subReq := some { r with applied := true } }) (txChangeDue g s.dev)) }))

/-- R229, R230, R233, R234, R259, R260: row and alignment slots. A row slot is counted by the transmitter; the alignment slot after 1,024 of them
starts the next period; the oldest row unacknowledged too long is sent again; an armed transmitter enters L0s after its dwell and leaves it with
a tangent burst. Completes here, each on the conditions of its clause: rowSlot, alignmentSlot, rowReceived, replayTimer, l0sDwell, l0sExit,
laneTangentBurst, l2EntryTimeout. -/
def Obligations.rows_and_idle : Prop :=
  ∀ (g : Fin 32) (s : State),
    (groupSends g = true → groupRuns s.dev g = true → (link s.dev g).slot < 1024 →
      (∀ c, (link s.dev g).subAnn = some c → c.slot ≠ txSlot s.dev g) →
      ∃ t, exec (.rowSlot g) s = .next t ∧ (link t.dev g).slot = (link s.dev g).slot + 1 ∧ t.mem = s.mem)
    ∧ (∀ words ms, groupSends g = true → groupRuns s.dev g = true → (link s.dev g).slot = 1024 →
      ∃ t, exec (.alignmentSlot g ⟨words, ms⟩) s = .next t ∧ (link t.dev g).slot = 0 ∧ (link t.dev g).ab = ((link s.dev g).ab + 1) % 65536
        ∧ (link t.dev g).scrTx = laneSeeds (pairOf g) ∧ t.mem = s.mem)
    ∧ (∀ words ms, groupReceives g = true → groupRuns s.dev g = true → (link s.dev g).rxSlot = 1024 →
      ∃ t, exec (.alignmentSlot g ⟨words, ms⟩) s = .next t ∧ (link t.dev g).rxSlot = 0 ∧ (link t.dev g).scrRx = laneSeeds (pairOf g) ∧ t.mem = s.mem)
    ∧ (groupReceives g = true → attr s.dev GROUP_STATE g = 4 → (link s.dev g).rxSlot < 1024 → (link s.dev g).rxAnn = none → (link s.dev g).subReq = none →
      ∀ words, (∀ w ∈ words, w = []) → ∃ t, exec (.rowReceived g words []) s = .next t ∧ (link t.dev g).rxSlot = (link s.dev g).rxSlot + 1 ∧ KeepsAttrs [] s t ∧ t.mem = s.mem)
    ∧ (∀ words ls d, rowReceived g (words ++ [ls]) s.dev = (none, d) → exec (.rowReceived g words ls) s = .next { s with dev := d })
    ∧ (∀ r rs, (link s.dev g).replay = r :: rs → groupRuns s.dev g = true → (link s.dev g).resend = none →
      r.sentAt + attr s.dev GROUP_REPLAY_TIMER g ≤ s.dev.elapsed →
      ∃ t, exec (.replayTimer g) s = .next t ∧ (link t.dev g).resend = some r.seq
        ∧ attr t.dev GROUP_REPLAYS g = (attr s.dev GROUP_REPLAYS g + 1) % 2 ^ GROUP_REPLAYS.width ∧ KeepsAttrs [(GROUP_REPLAYS.code, g)] s t ∧ t.mem = s.mem)
    ∧ (due s.dev tkL0s g = true → mayIdle s.dev g = true →
      ∃ t, exec (.l0sDwell g) s = .next t ∧ (link t.dev g).idleRows = 4 ∧ (link t.dev g).idleCode = 1 ∧ armed t.dev tkL0s g = false
        ∧ KeepsAttrs [] s t ∧ t.mem = s.mem)
    ∧ (groupSends g = true → attr s.dev GROUP_STATE g = 4 → (link s.dev g).idleRows = 0 → (rowOwed s.dev g || owesFeedback s.dev g) = true →
      ∃ t, exec (.l0sExit g) s = .next t ∧ (link t.dev g).tangent = true ∧ attr t.dev GROUP_STATE g = (if attr s.dev GROUP_WIDTH g = 3 then 3 else 2) ∧ t.mem = s.mem)
    ∧ (groupReceives g = true → attr s.dev GROUP_STATE g = 4 →
      ∃ t, exec (.laneTangentBurst g []) s = .next t ∧ attr t.dev GROUP_STATE g = (if attr s.dev GROUP_WIDTH g = 3 then 3 else 2)
        ∧ (link t.dev g).rxSlot = (if (link s.dev g).rxSlot = 1024 then 0 else (link s.dev g).rxSlot + 1) ∧ t.mem = s.mem)
    ∧ (∀ (pair : Fin 16) j, due s.dev tkL2 pair = true → (link s.dev (pairTx pair)).l2 = some j →
      ∃ t, exec (.l2EntryTimeout pair) s = .next t ∧ (link t.dev (pairTx pair)).l2 = none
        ∧ attr t.dev GROUP_STATE (pairTx pair) = attr s.dev GROUP_STATE (pairTx pair) ∧ t.mem = s.mem)

/-- R23, R374, R375, R377, R378, R379: what detectors find. A margin sample writes the floor of every die, from the regions that R33 gives it; a
faulted ADC slice is replaced and recalibrated, and its verdict returns it or fails it; a source stalled for 64 rounds faults its engine; a scrub
step counts what it corrects and the passes it ends. Completes here, each on the conditions of its clause: marginSample, adcSliceFault,
adcSliceRecalVerdict, portSourceStall, sourceStallRecheck, scrubStep. -/
def Obligations.detectors : Prop :=
  ∀ (s : State),
    (∀ regions die, die < 3 → ∃ t, exec (.marginSample regions) s = .next t
        ∧ (∀ code m, lowestMargin (regions.filter fun x => marginRegionOk x.1 x.2.1) die = some (code, m) → attr t.dev DIE_MARGIN_FLOOR die = m % 2 ^ 16 ∧ attr t.dev DIE_FLOOR_REGION die = code % 2 ^ 16)
        ∧ (lowestMargin (regions.filter fun x => marginRegionOk x.1 x.2.1) die = none → attr t.dev DIE_MARGIN_FLOOR die = 0 ∧ attr t.dev DIE_FLOOR_REGION die = 0xFFFF) ∧ t.mem = s.mem)
    ∧ (∀ (p : Fin 128) (k : Fin 68) j, sliceActive s.dev p k = true → (List.range 68).find? (sliceSpare s.dev p) = some j →
        ∃ t, exec (.adcSliceFault p k) s = .next t ∧ sliceState t.dev p k = 1 ∧ sliceState t.dev p j = 3
          ∧ KeepsAttrs [(PORT_ADC_SPARES.code, p), (PORT_ADC_FAILED.code, p)] s t ∧ t.mem = s.mem)
    ∧ (∀ (p : Fin 128) (k : Fin 68), sliceState s.dev p k = 1 →
        (fewFaults s.dev (elementKey clsPort p k) = true → ∃ t, exec (.adcSliceRecalVerdict p k true) s = .next t
          ∧ sliceState t.dev p k = (if ((List.range 68).filter (sliceActive s.dev p)).length < 64 then 3 else 4) ∧ t.mem = s.mem)
        ∧ (∃ t, exec (.adcSliceRecalVerdict p k false) s = .next t ∧ sliceState t.dev p k = 2
          ∧ attr t.dev DEVICE_FAILED_ELEMENTS 0 = (attr s.dev DEVICE_FAILED_ELEMENTS 0 + 1) % 2 ^ DEVICE_FAILED_ELEMENTS.width ∧ t.mem = s.mem))
    ∧ (∀ p : Fin 128, 64 ≤ (source s.dev p).stalled → (source s.dev p).handled = false →
        exec (.portSourceStall p) s = .next { s with
          dev :=
            let d := engineFaultWith stallUnmasked (facetOf p) (engineOf s.dev p) (modSource p (fun x => { x with handled := true }) s.dev)
            if engineOf d p ≠ engineOf s.dev p then arm tkSourceStall p 2560 d else d })
    ∧ (∀ p : Fin 128, due s.dev tkSourceStall p = true → 64 ≤ (source s.dev p).stalled →
        exec (.sourceStallRecheck p) s = .next { s with dev := unmasked clsPort p 0xFF 8 unmSourceStall (disarm tkSourceStall p s.dev) })
    ∧ (∀ (die : Fin 3) (bank : Fin 256) word, s.dev.brownout = none → suspectPasses s.dev word = none →
        (∀ symbol, ∃ t, exec (.scrubStep die bank word (.corrected symbol) false) s = .next t
          ∧ attr t.dev DIE_MEM_CORRECTED die = (attr s.dev DIE_MEM_CORRECTED die + 1) % 2 ^ DIE_MEM_CORRECTED.width
          ∧ suspectPasses t.dev word = some (symbol, 1) ∧ KeepsAttrs [(DIE_MEM_CORRECTED.code, die.val)] s t ∧ t.mem = s.mem)
        ∧ (∃ t, exec (.scrubStep die bank word .clean true) s = .next t
          ∧ attr t.dev DIE_SCRUB_PASSES die = (attr s.dev DIE_SCRUB_PASSES die + 1) % 2 ^ DIE_SCRUB_PASSES.width ∧ t.mem = s.mem)
        ∧ (∃ t, exec (.scrubStep die bank word (.uncorrectable .retention) false) s = .next t
          ∧ attr t.dev DIE_MEM_UNCORRECTABLE die = (attr s.dev DIE_MEM_UNCORRECTABLE die + 1) % 2 ^ DIE_MEM_UNCORRECTABLE.width
          ∧ word ∈ t.dev.faults.badWords ∧ t.mem = s.mem))

/-- R382, R383, R391, R392: the Vertex and its supplies. A disagreement reloads the cores, the third in 10 ms tries them; the end of the reload
is one more rollback; a core that fails its trial leaves the pair; a rail below its minimum begins a brownout, and the last rail back ends it.
Completes here, each on the conditions of its clause: vertexDisagree, vertexReloadDone, coreTrialEnd, supplyLow, supplyRestored. -/
def Obligations.vertex_and_supplies : Prop :=
  ∀ (s : State),
    (s.dev.phase ≠ .held → s.dev.vertex = .running →
      ((s.dev.faults.rollbacks.filter fun t => decide (s.dev.elapsed < t + 10000000)).length < 2 →
        ∃ t, exec .vertexDisagree s = .next t ∧ t.dev.vertex = .reloading ∧ t.dev.faults.disagreeAt = s.dev.elapsed ∧ KeepsAttrs [] s t ∧ t.mem = s.mem)
      ∧ (2 ≤ (s.dev.faults.rollbacks.filter fun t => decide (s.dev.elapsed < t + 10000000)).length → spareCore s.dev ≠ 3 →
        ∃ t, exec .vertexDisagree s = .next t ∧ t.dev.vertex = .trial ∧ KeepsAttrs [] s t ∧ t.mem = s.mem)
      ∧ (2 ≤ (s.dev.faults.rollbacks.filter fun t => decide (s.dev.elapsed < t + 10000000)).length → spareCore s.dev = 3 →
        ∃ t, exec .vertexDisagree s = .next t ∧ t.dev.vertex = .halted ∧ t.mem = s.mem))
    ∧ (s.dev.vertex = .reloading → s.dev.waiting = [] →
      ∃ t, exec .vertexReloadDone s = .next t ∧ t.dev.vertex = .running ∧ t.mem = s.mem
        ∧ attr t.dev DEVICE_ROLLBACKS 0 = (attr s.dev DEVICE_ROLLBACKS 0 + 1) % 2 ^ DEVICE_ROLLBACKS.width)
    ∧ (s.dev.vertex = .trial → s.dev.waiting = [] →
      (∃ t, exec (.coreTrialEnd true true) s = .next t ∧ t.dev.vertex = .running ∧ activeCores t.dev = activeCores s.dev ∧ t.mem = s.mem)
      ∧ (∃ t, exec (.coreTrialEnd true false) s = .next t ∧ t.dev.vertex = .running ∧ activeCores t.dev = ((activeCores s.dev).1, spareCore s.dev)
          ∧ spareCore t.dev = 3 ∧ (activeCores s.dev).2 ∈ t.dev.faults.failedCores ∧ t.mem = s.mem)
      ∧ (∃ t, exec (.coreTrialEnd false true) s = .next t ∧ t.dev.vertex = .running ∧ activeCores t.dev = ((activeCores s.dev).2, spareCore s.dev)
          ∧ spareCore t.dev = 3 ∧ (activeCores s.dev).1 ∈ t.dev.faults.failedCores ∧ t.mem = s.mem)
      ∧ ∃ t, exec (.coreTrialEnd false false) s = .next t ∧ t.dev.vertex = .halted ∧ t.mem = s.mem)
    ∧ (∀ rail : Fin 6, s.dev.brownout = none → s.dev.phase ≠ .held →
      ∃ t, exec (.supplyLow rail) s = .next t ∧ t.dev.brownout = some (rail.val, s.dev.elapsed) ∧ rail.val ∈ t.dev.faults.rails ∧ KeepsAttrs [] s t ∧ t.mem = s.mem)
    ∧ (∀ (rail : Fin 6) r0 t0, s.dev.brownout = some (r0, t0) → s.dev.faults.rails = [rail.val] → s.dev.waiting = [] →
      ∃ t, exec (.supplyRestored rail) s = .next t ∧ t.dev.brownout = none ∧ t.dev.faults.rails = [] ∧ t.mem = s.mem
        ∧ attr t.dev DEVICE_BROWNOUTS 0 = (attr s.dev DEVICE_BROWNOUTS 0 + 1) % 2 ^ DEVICE_BROWNOUTS.width)

/-- R393, R394, R395, R396: the log writer puts the oldest waiting record in its place, sealed, and changes no other byte but the FLAGS and CHECK
of a record that it frees; an erase empties the log; a brownout stops both; FAULT_LOG reads it or begins an erase. Completes here, each on the
conditions of its clause: logRecordWrite, faultLogEraseEnd, summaryHour, faultLog. -/
def Obligations.fault_log : Prop :=
  ∀ (s : State),
    (∀ r rest, s.dev.faults.queue = r :: rest → s.dev.brownout = none → s.dev.faults.erase = none →
      ∃ t, exec .logRecordWrite s = .next t ∧ t.dev.faults.queue = rest ∧ t.dev.faults.nextSeq = s.dev.faults.nextSeq + 1
        ∧ attr t.dev DEVICE_LOG_NEWEST 0 = s.dev.faults.nextSeq % 2 ^ 32
        ∧ memRead t.mem (logAddr (nextPlace s.dev.faults.places)) 64
            = sealRecord (nextPlace s.dev.faults.places) (pins r.kind) (recordBody s.dev s.dev.faults.nextSeq r)
        ∧ ∀ a, a < logAddr (nextPlace s.dev.faults.places) ∨ logAddr (nextPlace s.dev.faults.places) + 64 ≤ a →
            (∀ p, losesPin s.dev.faults.places = some p → a < logAddr p.place ∨ logAddr p.place + 64 ≤ a) → memGet t.mem a = memGet s.mem a)
    ∧ (s.dev.faults.queue = [] → exec .logRecordWrite s = .next s)
    ∧ (s.dev.brownout.isSome = true → exec .faultLogEraseEnd s = .next s ∧ exec .logRecordWrite s = .next s)
    ∧ (∀ j, s.dev.faults.erase = some j → s.dev.brownout = none →
      ∃ t, exec .faultLogEraseEnd s = .next t ∧ t.dev.faults.places = [] ∧ t.dev.faults.erase = none ∧ attr t.dev DEVICE_LOG_HELD 0 = 0
        ∧ (∀ a, 0x600000 ≤ a → a < 0x800000 → memGet t.mem a = 0#8) ∧ ∀ a, a < 0x600000 ∨ 0x800000 ≤ a → memGet t.mem a = memGet s.mem a)
    ∧ (armed s.dev tkSummary 0 = false ∨ due s.dev tkSummary 0 = true →
      ∃ t, exec .summaryHour s = .next t ∧ t.dev.faults.sums = [] ∧ (t.dev.faults.queue.length = s.dev.faults.queue.length + s.dev.faults.sums.length)
        ∧ armed t.dev tkSummary 0 = true ∧ KeepsAttrs [] s t ∧ t.mem = s.mem)
    ∧ (∀ r : Req, Takes 0xB0 r s → r.params.length = 8 → leAt r.params 2 2 = 0 →
      (byteAt r.params 0 = 0 → byteAt r.params 1 = 0 → leAt r.params 4 4 = 0 →
        ∃ t, exec (.faultLog r) s = .next t ∧ Replied 0xB0 stOk r (logInfo s.dev) s t ∧ KeepsAttrs [] s t ∧ KeepsUnits s t)
      ∧ (byteAt r.params 0 = 1 → 1 ≤ byteAt r.params 1 → byteAt r.params 1 ≤ 15 →
        ∃ t, exec (.faultLog r) s = .next t ∧ Replied 0xB0 stOk r (readLog s.mem s.dev (byteAt r.params 1) (leAt r.params 4 4)) s t
          ∧ KeepsAttrs [] s t ∧ KeepsUnits s t)
      ∧ (byteAt r.params 0 = 2 → byteAt r.params 1 = 0 → leAt r.params 4 4 = 0 → lcOpen s.dev = true → s.dev.faults.erase = none →
        ∃ t, exec (.faultLog r) s = .next t ∧ Replied 0xB0 stAccepted r [] s t ∧ t.dev.faults.erase = some ⟨r.master, r.tag.toNat⟩ ∧ t.mem = s.mem))

/-- R397: REPAIR begins the test of an element marked FAILED; a test that passes returns an engine, a slice or a core to service, one that fails
leaves it FAILED; both end the repair. Completes here, each on the conditions of its clause: repair, repairTestEnd. -/
def Obligations.repairs : Prop :=
  ∀ (s : State),
    (∀ r : Req, Takes 0xB1 r s → r.params.length = 4 → repairFieldsOk r.params = true → byteAt r.params 0 ≠ 7 →
      elementFailed s.dev (byteAt r.params 0) (leAt r.params 2 2) (byteAt r.params 1) = true → repairOn s.dev (byteAt r.params 0) (leAt r.params 2 2) = none →
      ∃ t, exec (.repair r) s = .next t ∧ Replied 0xB1 stAccepted r [] s t
        ∧ t.dev.faults.repairs = s.dev.faults.repairs ++ [⟨⟨r.master, r.tag.toNat⟩, byteAt r.params 0, leAt r.params 2 2, byteAt r.params 1⟩] ∧ t.mem = s.mem)
    ∧ (∀ r : Req, Takes 0xB1 r s → r.params.length = 4 → repairFieldsOk r.params = true → byteAt r.params 0 = 7 →
      laneState s.dev (leAt r.params 2 2) (byteAt r.params 1) = 6 → attr s.dev GROUP_STATE (leAt r.params 2 2) ≠ 5 → attr s.dev GROUP_STATE (leAt r.params 2 2) ≠ 6 →
      repairOn s.dev 7 (leAt r.params 2 2) = none →
      ∃ t, exec (.repair r) s = .next t ∧ Replied 0xB1 stAccepted r [] s t ∧ (repairOn t.dev 7 (leAt r.params 2 2)).isSome = true ∧ t.mem = s.mem)
    ∧ (∀ cls inst r, cls ≠ 7 → repairOn s.dev cls inst = some r →
      (∃ t, exec (.repairTestEnd cls inst false) s = .next t ∧ r ∉ t.dev.faults.repairs ∧ t.dev.faults.failedCores = s.dev.faults.failedCores
          ∧ t.dev.faults.engines = s.dev.faults.engines ∧ t.dev.faults.slices = s.dev.faults.slices ∧ t.mem = s.mem)
      ∧ (∃ t, exec (.repairTestEnd cls inst true) s = .next t ∧ r ∉ t.dev.faults.repairs ∧ (cls = 1 → r.element ∉ t.dev.faults.failedCores) ∧ t.mem = s.mem))

/-- R405, R407, R408, R410: POWER_SET prepares the named domains, which drain and answer; when all agree they commit one by one; a refusal, or an
answer that never comes, ends the command. A command that leaves no named domain to change is over at once. Completes here, each on the
conditions of its clause: powerSet, powerPrepareAnswer, powerPrepareTimeout, domainCommitDone. -/
def Obligations.power_set_phases : Prop :=
  ∀ (s : State),
    (∀ r : Req, Takes 0x60 r s → r.params.length = 32 → byteAt r.params 1 = 0 → leAt r.params 2 2 ≤ 1000 → maskList r.params 4 195 ≠ [] →
      byteAt r.params 28 < 8 → leAt r.params 29 3 = 0 → s.dev.power.set = none → s.dev.power.firing = none →
      (1 ≤ byteAt r.params 0 → byteAt r.params 0 ≤ 2 → 194 ∉ maskList r.params 4 195 →
        (2 ≤ r.master.val → ∀ k ∈ maskList r.params 4 195, k ≠ 168 + 4 * (r.master.val - 2) ∧ k ≠ 176 + 4 * (r.master.val - 2)) →
        (∀ k ∈ maskList r.params 4 195, domainState s.dev k = 0) → powerBreach s.dev (maskList r.params 4 195) (byteAt r.params 0) = none →
        ∃ t x, exec (.powerSet r) s = .next t ∧ Replied 0x60 stAccepted r [] s t ∧ t.dev.power.set = some x ∧ x.job = ⟨r.master, r.tag.toNat⟩
          ∧ x.state = byteAt r.params 0 ∧ x.mask = maskList r.params 4 195 ∧ x.waiting = maskList r.params 4 195 ∧ x.committing = false ∧ x.refusals = []
          ∧ armed t.dev tkPrepare 0 = true ∧ t.mem = s.mem)
      ∧ (byteAt r.params 0 = 0 → powerBreach s.dev (maskList r.params 4 195) 0 = none → (∃ k ∈ maskList r.params 4 195, domainState s.dev k ≠ 0) →
        ∃ t x, exec (.powerSet r) s = .next t ∧ Replied 0x60 stAccepted r [] s t ∧ t.dev.power.set = some x ∧ x.state = 0 ∧ x.committing = true
          ∧ x.left = commitOrder 0 ((maskList r.params 4 195).filter fun k => domainState s.dev k != 0) ∧ t.mem = s.mem)
      ∧ (byteAt r.params 0 = 0 → (∀ k ∈ maskList r.params 4 195, domainState s.dev k = 0) → powerBreach s.dev (maskList r.params 4 195) 0 = none →
        ∃ t, exec (.powerSet r) s = .next t ∧ Replied 0x60 stAccepted r [] s t ∧ t.dev.power.set = none
          ∧ (∀ k, k < 195 → domainState t.dev k = domainState s.dev k) ∧ t.mem = s.mem))
    ∧ (∀ (k : Fin 195) x, s.dev.power.set = some x → x.committing = false → x.waiting = [k.val] → x.refusals = [] → domainState s.dev k < x.state →
      (judgeDomain s.dev k x.state = none → commitOrder x.state (x.mask.filter fun j => domainState s.dev j != x.state) ≠ [] →
        ∃ t, exec (.powerPrepareAnswer k) s = .next t ∧ armed t.dev tkPrepare 0 = false ∧ KeepsAttrs [] s t ∧ t.mem = s.mem
          ∧ t.dev.power.set = some { x with waiting := [], committing := true, left := commitOrder x.state (x.mask.filter fun j => domainState s.dev j != x.state) })
      ∧ (∀ why, judgeDomain s.dev k x.state = some why →
        ∃ t, exec (.powerPrepareAnswer k) s = .next t ∧ t.dev.power.set = none ∧ domainState t.dev k = domainState s.dev k
          ∧ attr t.dev DOMAIN_REFUSALS k = (attr s.dev DOMAIN_REFUSALS k + 1) % 2 ^ DOMAIN_REFUSALS.width ∧ t.mem = s.mem))
    ∧ (∀ x, due s.dev tkPrepare 0 = true → s.dev.power.set = some x → x.committing = false → x.waiting ≠ [] → (∀ k ∈ x.waiting, k < 195) →
      ∃ t, exec .powerPrepareTimeout s = .next t ∧ t.dev.power.set = none ∧ t.mem = s.mem)
    ∧ (∀ (k : Fin 195) x good, s.dev.brownout = none → s.dev.power.set = some x → x.committing = true → x.state ≤ 2 → mayChange k x.state x.left = true →
      ∃ t, exec (.domainCommitDone k good) s = .next t ∧ attr t.dev DOMAIN_STATE k = x.state ∧ t.mem = s.mem
        ∧ t.dev.power.set = (if x.left.filter (· != k.val) = [] then none else some { x with left := x.left.filter (· != k.val) }))

/-- R411, R412, R415, R416, R417, R418, R189: pads are released where their domain is ON; a wake set is armed with its parameters; edges, line
energy, WAKE bursts and timers reach the armed sets, or the sentinel's own rules where no set is armed for them; a WAKE burst received ends a
wake sequence under way. Completes here, each on the conditions of its clause: padRelease, wakeArm, wakeInEdge, gpioEdge, lineEnergyWake,
svcWakeBurst, wakeSetTimer, wakeOutPulseEnd. -/
def Obligations.wakes : Prop :=
  ∀ (s : State),
    (∀ r : Req, Takes 0x61 r s → r.params.length = 28 → maskList r.params 0 195 ≠ [] → byteAt r.params 24 < 8 → leAt r.params 25 3 = 0 →
      s.dev.power.set = none → (∀ k ∈ maskList r.params 0 195, domainState s.dev k = 0) →
      ∃ t, exec (.padRelease r) s = .next t ∧ (∀ k ∈ maskList r.params 0 195, attr t.dev DOMAIN_PADS_LATCHED k = 0)
        ∧ Replied 0x61 stOk r (maskBytes ((maskList r.params 0 195).filter fun k => attrOn s.dev DOMAIN_PADS_LATCHED k) 25) s t
        ∧ KeepsAttrs ((maskList r.params 0 195).map fun k => (DOMAIN_PADS_LATCHED.code, k)) s t ∧ t.mem = s.mem)
    ∧ (∀ (r : Req) (n : Nat), Takes 0x62 r s → r.params.length = 52 → byteAt r.params 0 = n → n ≤ 7 → byteAt r.params 1 < 32 →
      byteAt r.params 2 < 4 → byteAt r.params 3 < 16 → leAt r.params 4 4 ≤ 86400000 → (wakeSource r.params 3 = true ↔ leAt r.params 4 4 ≠ 0) →
      (wakeSource r.params 1 = true ∨ wakeSource r.params 2 = true → maskPorts r.params 8 ≠ []) → 194 ∉ maskList r.params 24 195 →
      (∀ k ∈ maskList r.params 24 195, ∀ j ∈ parentsOf k, j ∈ maskList r.params 24 195) → byteAt r.params 48 < 8 → leAt r.params 49 3 = 0 →
      (wakeSource r.params 4 = true → gpioConflict s.dev n (byteAt r.params 2) (bitOf (byteAt r.params 3) 1) = none) →
      ∃ t, exec (.wakeArm r) s = .next t ∧ Replied 0x62 stOk r [] s t ∧ wakeArmed t.dev n = decide (byteAt r.params 1 ≠ 0) ∧ wakeParams t.dev n = r.params
        ∧ armed t.dev tkWakeTimer n = decide (leAt r.params 4 4 ≠ 0) ∧ KeepsAttrs [(DEVICE_WAKE_ARMED.code, 0)] s t ∧ t.mem = s.mem)
    ∧ (∀ rising, ∃ t, exec (.wakeInEdge rising) s = .next t ∧ bitOf (attr t.dev DEVICE_PIN_STATE 0) 0 = rising ∧ t.mem = s.mem)
    ∧ (∀ (pin : Fin 4) rising, ∃ t, exec (.gpioEdge pin rising) s = .next t ∧ bitOf (attr t.dev DEVICE_PIN_STATE 0) (2 + pin.val) = rising ∧ t.mem = s.mem)
    ∧ (∀ p : Fin 128, isReady s.dev = true → attr s.dev PORT_STATE p = psDormant → s.dev.power.set = none →
      firingSets s.dev (fun ps => wakeSource ps 1 && maskBit ps 8 p) = [] →
      (pathOn s.dev p = true → ∃ t, exec (.lineEnergyWake p true) s = .next t ∧ attr t.dev PORT_STATE p = psListen ∧ t.mem = s.mem)
      ∧ (pathOn s.dev p = false → ∀ page, ∃ t, exec (.lineEnergyWake p page) s = .next t ∧ attr t.dev PORT_WAKE_PENDING p = 1
          ∧ attr t.dev PORT_STATE p = psDormant ∧ t.mem = s.mem))
    ∧ (∀ (p : Fin 128) e, isReady s.dev = true → e = (match headOf s.dev p 3 with | some _ => receptionOver p s.dev | none => s.dev) →
      attr e PORT_STATE p = psQuiet → isReady e = true → (svc e p).blanked = false → (svc e p).wakeLeft = 0 → pathOn e p = true →
      exec (.svcWakeBurst p) s = .next { s with dev := sendWake p (bump SVC_WAKE_RX p 1 e) })
    ∧ (∀ p : Fin 128, isReady s.dev = true → headOf s.dev p 3 = none → (svc s.dev p).blanked = false →
      attr s.dev PORT_STATE p = psCarry ∨ attr s.dev PORT_STATE p = psQuiet → (svc s.dev p).wakeLeft ≠ 0 →
      ∃ t, exec (.svcWakeBurst p) s = .next t ∧ (svc t.dev p).wakeLeft = 0 ∧ armed t.dev tkWakeNext p = false
        ∧ attr t.dev SVC_WAKE_RX p = (attr s.dev SVC_WAKE_RX p + 1) % 2 ^ 32 ∧ KeepsAttrs [(SVC_WAKE_RX.code, p)] s t ∧ t.mem = s.mem)
    ∧ (∀ p : Fin 128, isReady s.dev = true → headOf s.dev p 3 = none → (svc s.dev p).blanked = false →
      attr s.dev PORT_STATE p = psQuiet → (svc s.dev p).wakeLeft = 0 → pathOn s.dev p = true →
      ∃ t, exec (.svcWakeBurst p) s = .next t ∧ attr t.dev SVC_WAKE_RX p = (attr s.dev SVC_WAKE_RX p + 1) % 2 ^ 32
        ∧ attr t.dev SVC_BURSTS_TX p = (attr s.dev SVC_BURSTS_TX p + 1) % 2 ^ 32 ∧ KeepsAttrs [(SVC_WAKE_RX.code, p), (SVC_BURSTS_TX.code, p)] s t ∧ t.mem = s.mem)
    ∧ (∀ n : Fin 8, due s.dev tkWakeTimer n = true → wakeArmed s.dev n = true → s.dev.power.set ≠ none →
      ∃ t, exec (.wakeSetTimer n) s = .next t ∧ t.dev.power.waiting =
          (if bitOf (byteAt (wakeParams s.dev n) 3) 2 ∧ (s.dev.power.waiting.any fun w => w.1 == n.val) = true then s.dev.power.waiting
            else s.dev.power.waiting ++ [(n.val, 5, 0xFF)])
        ∧ KeepsAttrs [] s t ∧ t.mem = s.mem)
    ∧ (due s.dev tkWakeOut 0 = true → ∃ t, exec .wakeOutPulseEnd s = .next t ∧ t.dev.power.wakeOut = false ∧ KeepsAttrs [] s t ∧ t.mem = s.mem)

/-- R449, R451, R452, R457: CAL_RUN begins with its first owner, CAL_STORE takes the older slot, and CAL_REPORT answers records. Completes here,
each on the conditions of its clause: calRun, calStore, calReport. -/
def Obligations.cal_commands : Prop :=
  ∀ (r : Req) (s : State),
    (∀ energy os, Takes 0x70 r s → r.params.length = 8 → byteAt r.params 0 ≤ 10 → byteAt r.params 1 ≤ 1 → leAt r.params 4 4 = 0 →
      (os = [leAt r.params 2 2] ∧ leAt r.params 2 2 ∈ kindOwners (byteAt r.params 0)
        ∨ (os = kindOwners (byteAt r.params 0) ∧ leAt r.params 2 2 = 0xFFFF ∧ byteAt r.params 0 ≠ 10)) →
      byteAt r.params 0 ≠ 9 ∨ byteAt r.params 1 = 1 ∨ attr s.dev DEVICE_LC_STATE 0 = 0 ∨ attr s.dev DEVICE_LC_STATE 0 = 2 → domainOn s.dev 192 = true →
      (∀ o ∈ os, calObstacle s.dev energy (byteAt r.params 0) o (byteAt r.params 1 == 1) = 0 ∧ calConflict s.dev (byteAt r.params 0) o = none) →
      (∀ x ∈ s.dev.cal.runs, x.kind = byteAt r.params 0 → ∀ o ∈ x.left, o ∉ os) → s.dev.cal.runs.length < 2 → sliceRegion s.dev 0x500 = false →
      ∃ t, exec (.calRun r energy) s = .next t ∧ Replied 0x70 stAccepted r [] s t ∧ t.mem = s.mem
        ∧ t.dev.cal.runs = s.dev.cal.runs ++ [⟨⟨r.master, r.tag.toNat⟩, byteAt r.params 0, byteAt r.params 1 == 1, 256 * byteAt r.params 0 + os.headD 0, os, [], [], false⟩])
    ∧ (Takes 0x71 r s → r.params.length = 4 → byteAt r.params 0 ≤ 2 → leAt r.params 1 3 = 0 → attr s.dev DEVICE_LC_STATE 0 ≠ 3 → domainOn s.dev 192 = true →
      (byteAt r.params 0 = 0 → ∀ k < 3, refPresent s.dev k = true) → s.dev.cal.store = none → sliceRegion s.dev 0x500 = false →
      ∃ t x, exec (.calStore r) s = .next t ∧ Replied 0x71 stAccepted r [] s t ∧ t.dev.cal.store = some x ∧ x.region = byteAt r.params 0
        ∧ (∀ n g, newestSlot s.mem s.dev (min (byteAt r.params 0) 1) = some (n, g) → x.gen = g + 1 ∧ x.slot ≠ n)
        ∧ (newestSlot s.mem s.dev (min (byteAt r.params 0) 1) = none → x.gen = 1)
        ∧ KeepsAttrs [(CAL_STORE_VALID.code, 0x0A00), (CAL_CAL_GEN.code, 0x0A00), (CAL_CFG_GEN.code, 0x0A00)] s t ∧ t.mem = s.mem)
    ∧ (Takes 0x72 r s → r.params.length = 4 → byteAt r.params 0 ≤ 10 → 1 ≤ byteAt r.params 1 → byteAt r.params 1 ≤ 40 →
      (∀ k < byteAt r.params 1, leAt r.params 2 2 + k ∈ kindOwners (byteAt r.params 0)) →
      ∃ t, exec (.calReport r) s = .next t ∧ KeepsAttrs [] s t ∧ KeepsUnits s t
        ∧ Replied 0x72 stOk r ([byteOf (byteAt r.params 1), 0#8, 0#8, 0#8]
            ++ (List.range (byteAt r.params 1)).flatMap fun k => calRecord s.dev (256 * byteAt r.params 0 + leAt r.params 2 2 + k)) s t)

/-- R440, R443, R444, R445, R446, R447: tracking. The references are measured and counted; a measurement leaves its deviation and range, and its
last element counts a run; a corrected element goes back for another; a pending correction moves one LSB at a time. Completes here, each on the
conditions of its clause: referenceMeasurement, calMeasurementEnd, calElementSwap, calCorrectionStep, calOverdueTimer. -/
def Obligations.cal_tracking : Prop :=
  ∀ (s : State),
    (∀ vref rext refclk, s.dev.phase = .ready → attr s.dev DOMAIN_STATE 192 = 0 → sliceRegion s.dev 0x500 = false → s.dev.brownout = none →
      ∃ t, exec (.referenceMeasurement vref rext refclk) s = .next t ∧ attr t.dev CAL_VREF_MEASURED 0x0A00 = saturateU 16 vref
        ∧ attr t.dev CAL_REXT_MEASURED 0x0A00 = saturateU 16 rext
        ∧ attr t.dev CAL_RUN_COUNT 0x0A00 = (attr s.dev CAL_RUN_COUNT 0x0A00 + 1) % 2 ^ CAL_RUN_COUNT.width ∧ t.mem = s.mem)
    ∧ (∀ item element deviation (range : Fin 101) usable last, s.dev.phase = .ready → s.dev.resuming = false → calTracks s.dev item = true → item ≠ 0x0A00 →
      -32768 ≤ deviation → deviation ≤ 32767 →
      ∃ t, exec (.calMeasurementEnd item element deviation range usable last) s = .next t ∧ attrInt t.dev CAL_DEVIATION item = deviation
        ∧ attr t.dev CAL_RANGE_LEFT item = range.val ∧ attr t.dev CAL_STALE item = bitNat (!last)
        ∧ attr t.dev CAL_RUN_COUNT item = (attr s.dev CAL_RUN_COUNT item + bitNat last) % 2 ^ CAL_RUN_COUNT.width ∧ t.mem = s.mem)
    ∧ (∀ item element replaced, (calItem s.dev item).out = some element → calHeld s.dev item = false → s.dev.brownout = none →
      ∃ t, exec (.calElementSwap item element replaced true) s = .next t ∧ (calItem t.dev item).out = none ∧ (calItem t.dev item).resting = some replaced ∧ t.mem = s.mem)
    ∧ (∀ item, armed s.dev tkCalRate item = false ∨ due s.dev tkCalRate item = true → attrInt s.dev CAL_PENDING item ≠ 0 → calHeld s.dev item = false →
      s.dev.brownout = none →
      attr s.dev DOMAIN_STATE 192 = 0 → (∀ k ∈ calDomains item, attr s.dev DOMAIN_STATE k = 0) →
      ∃ t, exec (.calCorrectionStep item) s = .next t
        ∧ attrInt t.dev CAL_PENDING item = attrInt s.dev CAL_PENDING item - (if 0 < attrInt s.dev CAL_PENDING item then 1 else -1)
        ∧ (calItem t.dev item).trim = (calItem s.dev item).trim + (if 0 < attrInt s.dev CAL_PENDING item then 1 else -1)
        ∧ KeepsAttrs [(CAL_PENDING.code, item)] s t ∧ t.mem = s.mem)
    ∧ (∀ item, calInstance item = true → (calItem s.dev item).overdue = false →
      4 * attr s.dev CAL_TRACK_PERIOD 0x0A00 * 1000000 ≤ s.dev.elapsed - (calItem s.dev item).ranAt + 1 → calMeasurable s.dev item = true →
      calHeld s.dev item = false → (∀ k ∈ calDomains item, attr s.dev DOMAIN_STATE k = 0) → isReady s.dev = true →
      ∃ t, exec (.calOverdueTimer item) s = .next t ∧ (calItem t.dev item).overdue = true ∧ KeepsAttrs [] s t ∧ t.mem = s.mem)

/-- R451, R455, R457: the owners of a run are measured in turn and the last one ends it; the partner's energy ends the FULL runs of its port; the
end of a store writes its slot whole, or zeroes its header, and no other byte. Completes here, each on the conditions of its clause:
calRunOwnerEnd, calPartnerEnergy, calStoreEnd. -/
def Obligations.cal_runs_and_stores : Prop :=
  ∀ (s : State),
    (∀ item deviation (range : Fin 101) lost failed r o rest, s.dev.cal.runs = [r] → r.kind = calKind item → r.left = o :: rest → o = item % 256 →
      s.dev.brownout = none →
      ∃ t, exec (.calRunOwnerEnd item deviation range lost failed) s = .next t ∧ t.mem = s.mem
        ∧ (rest = [] → t.dev.cal.runs = [])
        ∧ (rest ≠ [] → ∃ r', t.dev.cal.runs = [r'] ∧ r'.left = rest ∧ r'.finished = r.finished ++ [o] ∧ r'.job = r.job)
        ∧ (r.check = false → attr t.dev CAL_RANGE_LEFT item = range.val
            ∧ attr t.dev CAL_RUN_COUNT item = (attr s.dev CAL_RUN_COUNT item + 1) % 2 ^ CAL_RUN_COUNT.width))
    ∧ (∀ (p : Fin 128) r o rest, s.dev.cal.runs = [r] → r.check = false → r.left = o :: rest → portItem p (256 * r.kind + o) = true →
      ∃ t, exec (.calPartnerEnergy p) s = .next t ∧ t.dev.cal.runs = [] ∧ t.mem = s.mem)
    ∧ (∀ x, s.dev.brownout = none → s.dev.cal.store = some x →
      (∃ t, exec (.calStoreEnd true) s = .next t ∧ t.dev.cal.store = none ∧ memRead t.mem (slotBase x.slot) x.bytes.length = x.bytes
          ∧ attr t.dev CAL_STORES 0x0A00 = (attr s.dev CAL_STORES 0x0A00 + 1) % 2 ^ CAL_STORES.width
          ∧ ∀ a, a < slotBase x.slot ∨ slotBase x.slot + x.bytes.length ≤ a → memGet t.mem a = memGet s.mem a)
      ∧ (∃ t, exec (.calStoreEnd false) s = .next t ∧ t.dev.cal.store = none ∧ memRead t.mem (slotBase x.slot) 64 = List.replicate 64 0#8
          ∧ attr t.dev CAL_STORES 0x0A00 = attr s.dev CAL_STORES 0x0A00
          ∧ ∀ a, a < slotBase x.slot ∨ slotBase x.slot + 64 ≤ a → memGet t.mem a = memGet s.mem a))

/-- R477, R478, R464, R472, R473: BIST_RUN takes its first region at once, or goes on after the slice under way; BIST_RESULT answers records; a
cycle starts at the hour; a slot slices the region at the cursor and moves it. Completes here, each on the conditions of its clause: bistRun,
bistResult, bistCycleStart, bistSlot. -/
def Obligations.self_test_commands : Prop :=
  ∀ (s : State),
    (∀ r : Req, Takes 0x80 r s → r.params.length = 20 → attr s.dev DEVICE_LC_STATE 0 ≠ 3 → attr s.dev DEVICE_LC_STATE 0 ≠ 1 ∨ byteAt r.params 0 ≠ 2 →
      bistFieldsOk r.params = true → reservedZero r.params 1 1 = true → reservedZero r.params 6 2 = true → domainOn s.dev 193 = true → (byteAt r.params 0 = 2 → skipReason s.dev (leAt r.params 2 2) false = 0) →
      s.dev.bist.run = none →
      (∀ x, s.dev.bist.slice = some x → x.region ≠ 0x600 →
        ∃ t y, exec (.bistRun r) s = .next t ∧ Replied 0x80 stAccepted r [] s t ∧ t.dev.bist.slice = some x ∧ t.dev.bist.run = some y
          ∧ y.left = (if byteAt r.params 0 = 1 then regions else regionsFrom (leAt r.params 2 2) (leAt r.params 4 2)) ∧ KeepsAttrs [] s t ∧ t.mem = s.mem)
      ∧ (∀ x rest, s.dev.bist.slice = none → (if byteAt r.params 0 = 1 then regions else regionsFrom (leAt r.params 2 2) (leAt r.params 4 2)) = x :: rest →
        skipReason s.dev x false = 0 →
        ∃ t y z, exec (.bistRun r) s = .next t ∧ Replied 0x80 stAccepted r [] s t ∧ t.dev.bist.slice = some z ∧ z.region = x ∧ z.why = 1
          ∧ z.again = false ∧ z.aborted = false ∧ t.dev.bist.run = some y ∧ y.job = ⟨r.master, r.tag.toNat⟩ ∧ y.left = rest ∧ t.mem = s.mem))
    ∧ (∀ r : Req, Takes 0x81 r s → r.params.length = 4 → attr s.dev DEVICE_LC_STATE 0 ≠ 3 → 1 ≤ leAt r.params 2 2 → leAt r.params 2 2 ≤ 40 →
      isRegion (leAt r.params 0 2) = true → (regionsFrom (leAt r.params 0 2) (leAt r.params 2 2)).length = leAt r.params 2 2 →
      ∃ t, exec (.bistResult r) s = .next t ∧ KeepsAttrs [] s t ∧ KeepsUnits s t
        ∧ Replied 0x81 stOk r ([byteOf (leAt r.params 2 2), 0#8, 0#8, 0#8]
            ++ (regionsFrom (leAt r.params 0 2) (leAt r.params 2 2)).flatMap (bistRecord s.dev)) s t)
    ∧ (multipleDue s.dev tkCycle (3600 * nsPerS) = true → attr s.dev BIST_PERIODIC 0x600 = 1 → attr s.dev DEVICE_LC_STATE 0 ≠ 3 → s.dev.phase = .ready →
      ∃ t, exec .bistCycleStart s = .next t ∧ t.dev.bist.cycling = true ∧ t.dev.bist.passed = [] ∧ attr t.dev BIST_CURSOR 0x600 = 0
        ∧ attr t.dev BIST_CYCLE_LEFT 0x600 = 461
        ∧ attr t.dev BIST_CYCLES 0x600 = (attr s.dev BIST_CYCLES 0x600 + bitNat s.dev.bist.cycling) % 2 ^ BIST_CYCLES.width ∧ t.mem = s.mem)
    ∧ (∀ c, multipleDue s.dev tkBistSlot (attr s.dev BIST_SLOT_PERIOD 0x600 * nsPerMs) = true → attr s.dev BIST_PERIODIC 0x600 = 1 →
      attr s.dev DEVICE_LC_STATE 0 ≠ 3 → attr s.dev DOMAIN_STATE 193 = 0 → s.dev.phase = .ready → s.dev.brownout = none → s.dev.bist.slice = none →
      s.dev.bist.run = none → slowRegion s.dev = none → s.dev.bist.cycling = true → attr s.dev BIST_CURSOR 0x600 = c → c ∈ regions →
      (skipReason s.dev c false = 0 →
        ∃ t z, exec .bistSlot s = .next t ∧ t.dev.bist.slice = some z ∧ z.region = c ∧ z.why = 3 ∧ z.again = false ∧ z.aborted = false
          ∧ attr t.dev BIST_CURSOR 0x600 = (regions.find? fun x => decide (c < x)).getD 0xFFFF ∧ t.mem = s.mem)
      ∧ (∀ n, skipReason s.dev c false = n + 1 →
        ∃ t, exec .bistSlot s = .next t ∧ t.dev.bist.slice = none ∧ attr t.dev BIST_RESULT c = brSkipped ∧ bankGet 0 t.dev.bist.reasons c = n + 1
          ∧ attr t.dev BIST_SKIPS c = (attr s.dev BIST_SKIPS c + 1) % 2 ^ BIST_SKIPS.width
          ∧ attr t.dev BIST_CURSOR 0x600 = (regions.find? fun x => decide (c < x)).getD 0xFFFF
          ∧ KeepsAttrs [(BIST_RESULT.code, c), (BIST_SKIPS.code, c), (BIST_CURSOR.code, 0x600)] s t ∧ t.mem = s.mem))

/-- R463, R466, R470, R472, R475, R478: a slice that passes is recorded and counted; one that fails for the first time is repeated, and a lost
restore of a region with a cover too; an aborted slice is recorded as ABORTED. The verdict compares counts first, then the signature. Completes
here, each on the conditions of its clause: bistSliceEnd, bistSliceAbort. -/
def Obligations.self_test_slices : Prop :=
  ∀ (s : State) (x : Slice), s.dev.bist.slice = some x → s.dev.brownout = none →
    (∀ signature applied independent (margin : BitVec 16), x.aborted = false → isRaw s.dev x = false → x.why ≠ 4 → s.dev.bist.run = none → x.region ∈ regions →
      (applied = Config.patternCount x.region → independent = Config.patternCount x.region → signature = Config.goldenSignature x.region →
        ∃ t, exec (.bistSliceEnd signature applied independent true margin) s = .next t ∧ t.dev.bist.slice = none
          ∧ attr t.dev BIST_RESULT x.region = brPass ∧ attr t.dev BIST_LAST_TIME x.region = s.dev.devTime % 2 ^ BIST_LAST_TIME.width ∧ attr t.dev BIST_MARGIN x.region = margin.toNat
          ∧ attr t.dev BIST_PASSES x.region = (attr s.dev BIST_PASSES x.region + 1) % 2 ^ BIST_PASSES.width
          ∧ (s.dev.bist.cycling = true → x.region ∈ t.dev.bist.passed) ∧ t.mem = s.mem)
      ∧ (∀ v, v ≠ brPass → sliceResult x.region signature applied independent = v → x.again = false →
        ∃ t z, exec (.bistSliceEnd signature applied independent true margin) s = .next t ∧ t.dev.bist.slice = some z ∧ z.region = x.region
          ∧ z.why = x.why ∧ z.again = true ∧ z.aborted = false ∧ attr t.dev BIST_RESULT x.region = v
          ∧ (v = brCount ↔ applied ≠ Config.patternCount x.region ∨ independent ≠ Config.patternCount x.region)
          ∧ attr t.dev BIST_FAILS x.region = (attr s.dev BIST_FAILS x.region + 1) % 2 ^ BIST_FAILS.width ∧ t.mem = s.mem)
      ∧ (x.rebuilt = false → hasCover x.region = true →
        ∃ t z, exec (.bistSliceEnd signature applied independent false margin) s = .next t ∧ t.dev.bist.slice = some z ∧ z.region = x.region
          ∧ z.rebuilt = true ∧ z.again = x.again ∧ attr t.dev BIST_RESULT x.region = brRestore
          ∧ attr t.dev BIST_SAVE_FAULTS 0x600 = (attr s.dev BIST_SAVE_FAULTS 0x600 + 1) % 2 ^ BIST_SAVE_FAULTS.width
          ∧ attr t.dev BIST_FAILS x.region = attr s.dev BIST_FAILS x.region ∧ t.mem = s.mem))
    ∧ (x.why = 2 ∨ x.why = 3 → s.dev.bist.run = none →
        ∃ t, exec .bistSliceAbort s = .next t ∧ t.dev.bist.slice = none ∧ attr t.dev BIST_RESULT x.region = brAborted
          ∧ attr t.dev BIST_PASSES x.region = attr s.dev BIST_PASSES x.region ∧ attr t.dev BIST_FAILS x.region = attr s.dev BIST_FAILS x.region
          ∧ t.dev.bist.passed = s.dev.bist.passed ∧ t.mem = s.mem)

/-- R485 to R491, R475: CHECK_SCAN starts on a free unit and die; the end of a scan leaves its record and writes no memory in the modes with no
partner; CHECK_RESULT reads the record; a command deferred for a slice starts when it is taken up. Completes here, each on the conditions of its
clause: checkScan, checkResult, checkScanEnd, deferredTakeUp. -/
def Obligations.scans_and_deferral : Prop :=
  ∀ (s : State),
    (∀ r : Req, Takes 0x88 r s → r.params.length = 32 → scanFieldsOk s.dev r.params = true → (∀ k ∈ scanDomains r.params, domainOn s.dev k = true) →
      (∀ x ∈ s.dev.scans, x.unit ≠ byteAt r.params 0 ∧ scanDie (scanStart x.params) ≠ scanDie (scanStart r.params)) →
      (sliceRegion s.dev (0x400 + scanDie (scanStart r.params)) = false →
        ∃ t, exec (.checkScan r) s = .next t ∧ Replied 0x88 stAccepted r [] s t
          ∧ t.dev.scans = s.dev.scans ++ [⟨⟨r.master, r.tag.toNat⟩, byteAt r.params 0, r.params, false⟩] ∧ KeepsAttrs [] s t ∧ t.mem = s.mem)
      ∧ (sliceRegion s.dev (0x400 + scanDie (scanStart r.params)) = true →
        ∃ t, exec (.checkScan r) s = .next t ∧ Replied 0x88 stDeferred r [] s t ∧ t.dev.scans = s.dev.scans
          ∧ (findJob t.dev ⟨r.master, r.tag.toNat⟩).map (·.deferred) = some true ∧ KeepsAttrs [] s t ∧ t.mem = s.mem))
    ∧ (∀ r : Req, Takes 0x89 r s → r.params.length = 4 → byteAt r.params 0 ≤ 3 → leAt r.params 1 3 = 0 →
      ∃ t, exec (.checkResult r) s = .next t ∧ KeepsAttrs [] s t ∧ KeepsUnits s t
        ∧ Replied 0x89 stOk r ((block s.dev CHECK_RESULT (byteAt r.params 0)).set 0 (byteOf (byteAt r.params 0))) s t)
    ∧ (∀ (u : Fin 4) data partner corrected written readBack x, s.dev.brownout = none → s.dev.scans.find? (fun r => r.unit == u.val) = some x →
      scanMode x.params ≤ 2 →
      ∃ t, exec (.checkScanEnd u data partner corrected written readBack) s = .next t ∧ t.mem = s.mem
        ∧ t.dev.scans = s.dev.scans.filter (fun y => !(y.job == x.job))
        ∧ attr t.dev CHECK_SCANS u = (attr s.dev CHECK_SCANS u + 1) % 2 ^ CHECK_SCANS.width
        ∧ KeepsAttrs [(CHECK_SCANS.code, u.val), (DIE_MEM_CORRECTED.code, scanDie (scanStart x.params))] s t
        ∧ (scanMode x.params ≤ 1 →
            leAt (block t.dev CHECK_RESULT u) 12 8
              = crcOf (unitParams s.dev u) (scanStream x.params (scanStart x.params) (fieldAt x.params) 0 0
                  (readRange s (scanStart x.params) (scanLength x.params) data)) % 2 ^ 64
            ∧ byteAt (block t.dev CHECK_RESULT u) 2
              = (if badRange s.dev (scanStart x.params) (scanLength x.params) = true then 4
                 else if scanMode x.params = 0 then 1
                 else if crcOf (unitParams s.dev u) (scanStream x.params (scanStart x.params) (fieldAt x.params) 0 0
                  (readRange s (scanStart x.params) (scanLength x.params) data)) = scanExpected x.params then 2 else 3)))
    ∧ (∀ (m : Fin 4) (tag : Byte) job body x e, s.dev.jobs.find? (fun y => y.ref == ⟨m, tag.toNat⟩ && y.deferred) = some job → isReady s.dev = true →
      s.dev.vertex = .running → s.dev.brownout = none → bodyOf job.opcode = some body →
      body s.mem ⟨m, tag.toNat, job.opcode, job.params, job.order, [], 0⟩ { s.dev with jobs := s.dev.jobs.filter fun y => !(y.ref == ⟨m, tag.toNat⟩) } = .accept x e →
      exec (.deferredTakeUp m tag) s = .next { s with dev := e })

/-- R495 to R499: a part of the wear rotation starts the next; the aging comparison and the sample leave the values measured, and no other
attribute of their die. Completes here, each on the conditions of its clause: wearRotationPart, agingCheck, telemetrySample. -/
def Obligations.background_work : Prop :=
  ∀ (s : State), s.dev.phase = .ready → s.dev.brownout = none →
    (armed s.dev tkWear 0 = false ∨ due s.dev tkWear 0 = true → attr s.dev DEVICE_WEAR_ENABLE 0 ≠ 0 →
      ∃ t, exec .wearRotationPart s = .next t ∧ t.dev.wear.part = s.dev.wear.part % 5 + 1 ∧ armed t.dev tkWear 0 = true ∧ t.mem = s.mem)
    ∧ (∀ (die : Fin 3) changes, armed s.dev tkAging die = false ∨ due s.dev tkAging die = true → (∀ c ∈ changes, -32768 ≤ c ∧ c ≤ 32767) →
      ∃ t, exec (.agingCheck die changes) s = .next t ∧ (changes = [] → attrInt t.dev DIE_AGING die = 0)
        ∧ (changes ≠ [] → attrInt t.dev DIE_AGING die ∈ changes ∧ ∀ c ∈ changes, c.natAbs ≤ (attrInt t.dev DIE_AGING die).natAbs)
        ∧ KeepsAttrs [(DIE_AGING.code, die.val)] s t ∧ t.mem = s.mem)
    ∧ (∀ junctions (rails : List (BitVec 16)) share, armed s.dev tkTelemetry 0 = false ∨ due s.dev tkTelemetry 0 = true → rails.length = 6 →
      (∀ die < 3, ∀ x ∈ junctions.getD die [], -32768 ≤ x ∧ x ≤ junctionLimit) →
      (∀ die < 3, attr s.dev DIE_TEMP_MAX die < 2 ^ 16) →
      ∃ t, exec (.telemetrySample junctions rails share) s = .next t ∧ t.mem = s.mem
        ∧ (∀ k < 6, leAt (block t.dev DEVICE_RAIL_MV 0) (2 * k) 2 = (rails.getD k 0).toNat)
        ∧ (∀ die < 3, junctions.getD die [] ≠ [] → attrInt t.dev DIE_TEMP die ∈ junctions.getD die []
            ∧ (∀ x ∈ junctions.getD die [], x ≤ attrInt t.dev DIE_TEMP die)
            ∧ attrInt t.dev DIE_TEMP_MAX die = max (attrInt s.dev DIE_TEMP_MAX die) (attrInt t.dev DIE_TEMP die))
        ∧ (∀ die < 3, junctions.getD die [] = [] → attr t.dev DIE_TEMP die = attr s.dev DIE_TEMP die ∧ attr t.dev DIE_TEMP_MAX die = attr s.dev DIE_TEMP_MAX die))

/-- R503, R504, R505: a wrong token is counted and refused, the right one starts the advance; the fuses blown, the new state applies; the erase
of DECOMMISSIONED leaves no byte of the first six MiB and no other change of memory. Completes here, each on the conditions of its clause:
lcAdvance, lcFuseDone, lcEraseEnd. -/
def Obligations.life_cycle_advance : Prop :=
  ∀ (s : State),
    (∀ r : Req, Takes 0xC4 r s → r.params.length = 12 → attr s.dev DEVICE_LC_STATE 0 < byteAt r.params 0 → byteAt r.params 0 ≤ 3 → leAt r.params 1 3 = 0 →
      attr s.dev DEVICE_LC_FAILS 0 < 3 →
      ((r.params.drop 4).take 8 ≠ tokenFor s.dev (byteAt r.params 0) →
        ∃ t, exec (.lcAdvance r) s = .next t ∧ Replied 0xC4 stRefused r [] s t ∧ attr t.dev DEVICE_LC_FAILS 0 = attr s.dev DEVICE_LC_FAILS 0 + 1
          ∧ attr t.dev DEVICE_LC_NONCE 0 = Config.freeNat s.dev.freeCount % 2 ^ 32 ∧ t.dev.life = s.dev.life
          ∧ KeepsAttrs [(DEVICE_LC_FAILS.code, 0), (DEVICE_LC_NONCE.code, 0)] s t ∧ t.mem = s.mem)
      ∧ ((r.params.drop 4).take 8 = tokenFor s.dev (byteAt r.params 0) → s.dev.life.advance = none → s.dev.life.commit = none →
        ∃ t, exec (.lcAdvance r) s = .next t ∧ Replied 0xC4 stAccepted r [] s t ∧ t.dev.life.advance = some (⟨r.master, r.tag.toNat⟩, byteAt r.params 0)
          ∧ attr t.dev DEVICE_LC_NONCE 0 = Config.freeNat s.dev.freeCount % 2 ^ 32 ∧ KeepsAttrs [(DEVICE_LC_NONCE.code, 0)] s t ∧ t.mem = s.mem))
    ∧ (∀ j target, s.dev.life.advance = some (j, target) → target ≤ 3 →
      ∃ t, exec .lcFuseDone s = .next t ∧ attr t.dev DEVICE_LC_STATE 0 = target ∧ t.mem = s.mem
        ∧ (target < 3 → t.dev.life.advance = none ∧ KeepsAttrs [(DEVICE_LC_STATE.code, 0), (BIST_POWER_UP.code, 0x600)] s t)
        ∧ (target = 3 → t.dev.life.erasing = true ∧ t.dev.bist.run = none ∧ t.dev.bist.cycling = false))
    ∧ (s.dev.life.erasing = true → s.dev.brownout = none →
      ∃ t, exec .lcEraseEnd s = .next t ∧ t.dev.life.erasing = false ∧ t.dev.life.erasePending = false ∧ t.dev.life.advance = none
        ∧ attr t.dev DEVICE_FW_STAGE_STATE 0 = 0 ∧ (∀ a < 0x600000, memGet t.mem a = 0#8) ∧ (∀ a, 0x600000 ≤ a → memGet t.mem a = memGet s.mem a))

/-- R506, R507, R508: BEGIN and ABORT of the stage zero its header; DATA stores its bytes and no other; FW_COMMIT goes to the verification, whose
end seals the header or zeroes it. Completes here, each on the conditions of its clause: fwStage, fwCommit, fwVerifyEnd. -/
def Obligations.firmware_stage : Prop :=
  ∀ (s : State),
    (∀ r : Req, Takes 0xC0 r s → leAt r.params 1 3 = 0 → attr s.dev DEVICE_LC_STATE 0 ≠ 3 → s.dev.life.commit = none →
      (∀ lost, r.params.length = 8 → byteAt r.params 0 = 0 ∨ byteAt r.params 0 = 2 →
        ∃ t, exec (.fwStage r lost) s = .next t ∧ Replied 0xC0 stOk r [] s t
          ∧ attr t.dev DEVICE_FW_STAGE_STATE 0 = (if byteAt r.params 0 = 0 then 1 else 0)
          ∧ (byteAt r.params 0 = 0 → attr t.dev DEVICE_FW_STAGE_BYTES 0 = 0)
          ∧ (∀ a, patchBase (stageSlot s.dev) ≤ a → a < patchBase (stageSlot s.dev) + 256 → memGet t.mem a = 0#8)
          ∧ (∀ a, a < patchBase (stageSlot s.dev) ∨ patchBase (stageSlot s.dev) + 256 ≤ a → memGet t.mem a = memGet s.mem a)
          ∧ KeepsAttrs [(DEVICE_FW_STAGE_STATE.code, 0), (DEVICE_FW_STAGE_BYTES.code, 0)] s t)
      ∧ (byteAt r.params 0 = 1 → 9 ≤ r.params.length → r.params.length ≤ 1024 → leAt r.params 4 4 + (r.params.length - 8) ≤ 1048576 →
        256 ≤ leAt r.params 4 4 ∨ leAt r.params 4 4 + (r.params.length - 8) ≤ 192 → attr s.dev DEVICE_FW_STAGE_STATE 0 = 1 →
        ∃ t, exec (.fwStage r false) s = .next t ∧ Replied 0xC0 stOk r [] s t
          ∧ attr t.dev DEVICE_FW_STAGE_BYTES 0 = (attr s.dev DEVICE_FW_STAGE_BYTES 0 + (r.params.length - 8)) % 2 ^ DEVICE_FW_STAGE_BYTES.width
          ∧ memRead t.mem (patchBase (stageSlot s.dev) + leAt r.params 4 4) (r.params.length - 8) = r.params.drop 8
          ∧ (∀ a, a < patchBase (stageSlot s.dev) + leAt r.params 4 4 ∨ patchBase (stageSlot s.dev) + leAt r.params 4 4 + (r.params.length - 8) ≤ a →
              memGet t.mem a = memGet s.mem a)
          ∧ KeepsAttrs [(DEVICE_FW_STAGE_BYTES.code, 0)] s t))
    ∧ (∀ r : Req, Takes 0xC1 r s → r.params = [0#8, 0#8, 0#8, 0#8] → attr s.dev DEVICE_LC_STATE 0 ≠ 3 → attr s.dev DEVICE_FW_STAGE_STATE 0 = 1 →
      s.dev.life.advance = none →
      ∃ t, exec (.fwCommit r) s = .next t ∧ Replied 0xC1 stAccepted r [] s t ∧ attr t.dev DEVICE_FW_STAGE_STATE 0 = 2
        ∧ t.dev.life.commit = some ⟨r.master, r.tag.toNat⟩ ∧ KeepsAttrs [(DEVICE_FW_STAGE_STATE.code, 0)] s t ∧ t.mem = s.mem)
    ∧ (∀ written j, s.dev.life.commit = some j → s.dev.brownout = none →
      ∃ t, exec (.fwVerifyEnd written) s = .next t ∧ t.dev.life.commit = none ∧ attr t.dev DEVICE_FW_STAGE_STATE 0 = 0
        ∧ (imageFault s.mem s.dev written ≠ 0 →
            ∀ a, patchBase (stageSlot s.dev) ≤ a → a < patchBase (stageSlot s.dev) + 256 → memGet t.mem a = 0#8)
        ∧ (imageFault s.mem s.dev written = 0 → patchValid t.mem t.dev (stageSlot s.dev)
            = some (nextGeneration s.dev % 2 ^ 32, leAt (memRead s.mem (patchBase (stageSlot s.dev)) 256) 8 4))
        ∧ (∀ a, a < patchBase (stageSlot s.dev) ∨ patchBase (stageSlot s.dev) + 256 ≤ a → memGet t.mem a = memGet s.mem a)
        ∧ KeepsAttrs [(DEVICE_FW_STAGE_STATE.code, 0)] s t)

/-- R518, R519, R522, R523, R524: a rail or RESET_N holds the block in reset; memory keeps all but a store cut off; the release counts the boot,
names its cause and takes the index from the pins. R525: a candidate that has not reported in 20 ms is rejected with reason 4, and the next one
is tried; one that reports runs. Completes here, each on the conditions of its clause: railReset, resetNLow, resetRelease, patchStartTimeout,
patchInitDone. -/
def Obligations.reset_and_patch_start : Prop :=
  (∀ (s : State),
      (∀ (rail : Fin 6) coreOff, exec (.railReset rail coreOff) s = .next { s with dev := heldDev (latchRail rail coreOff s.dev), mem := cutStore s })
      ∧ exec .resetNLow s = .next { s with dev := heldDev (latchResetN s.dev), mem := cutStore s }
      ∧ (∀ d : Dev, (heldDev d).phase = .held ∧ (heldDev d).jobs = [] ∧ attr (heldDev d) DEVICE_LC_STATE 0 = attr d DEVICE_LC_STATE 0 % 2 ^ DEVICE_LC_STATE.width
          ∧ attr (heldDev d) DEVICE_BOOTS 0 = attr d DEVICE_BOOTS 0 % 2 ^ DEVICE_BOOTS.width ∧ (heldDev d).faults.places = d.faults.places)
      ∧ (s.dev.cal.store = none → cutStore s = s.mem)
      ∧ (∀ (pins : BitVec 11), s.dev.phase = .held → s.dev.resetLow = true ∨ s.dev.railsDown ≠ [] →
        (∃ t, exec (.resetRelease pins false) s = .next t ∧ t = { s with dev := { s.dev with resetLow := false, railsDown := [] } })
        ∧ (s.dev.life.erasePending = false →
          ∃ t, exec (.resetRelease pins true) s = .next t ∧ t.mem = s.mem ∧ t.dev.elapsed = 0 ∧ t.dev.devTime = 0 ∧ t.dev.phase ≠ .held
            ∧ attr t.dev DEVICE_BOOTS 0 = (attr s.dev DEVICE_BOOTS 0 + 1) % 2 ^ DEVICE_BOOTS.width
            ∧ attr t.dev DEVICE_RESET_CAUSE 0 = resetCause s.dev % 2 ^ DEVICE_RESET_CAUSE.width
            ∧ attr t.dev LATTICE_INDEX 0 = fieldOf pins.toNat 8 6 ∧ attr t.dev LATTICE_TIME_MASTER 0 = fieldOf pins.toNat 8 6
            ∧ (master t.dev 0).staticAddr = 0x5C + bitNat (bitOf pins.toNat 9) ∧ (master t.dev 1).staticAddr = 0x5E + bitNat (bitOf pins.toNat 10)
            ∧ t.dev.sawCoreOff = false ∧ t.dev.sawResetN = false ∧ t.dev.sawRail = none)))
  ∧ (∀ (s : State) (slot : Nat), s.dev.phase = .patch slot →
      (due s.dev tkPatchStart 0 = true →
        exec .patchStartTimeout s = .next (nextPatch 2 { s with dev := rejectPatch slot 4 (disarm tkPatchStart 0 s.dev) })
        ∧ (attr s.dev DEVICE_BOOT_REJECTS 0 = 0 → slot < 2 → attr (rejectPatch slot 4 (disarm tkPatchStart 0 s.dev)) DEVICE_BOOT_REJECTS 0 = 4 * 16 ^ slot))
      ∧ (due s.dev tkPatchStart 0 = false → exec .patchStartTimeout s = .next s)
      ∧ (s.dev.vertex = .running → s.dev.brownout = none →
        ∃ t, exec .patchInitDone s = .next t ∧ t = patchRuns slot s ∧ t.mem = s.mem ∧ t.dev.phase = .calibrate
          ∧ attr t.dev DEVICE_FW_ACTIVE 0 = (slot + 1) % 2 ^ DEVICE_FW_ACTIVE.width
          ∧ attr t.dev DEVICE_FW_VERSION 0 = leAt (memRead s.mem (patchBase slot) 256) 8 4))
end

