-- ==== Sys2Proof/Laws/Bank.lean ====
section
/-! SUPPORT. Laws/Bank.lean: reading, writing and the canonical form of sparse tables. -/

namespace Sys2Proof.Machine

variable {α : Type}

theorem bankGet_erase_same (d : α) (m : List (Nat × α)) (k : Nat) : bankGet d (bankErase m k) k = d := by
  induction m with
  | nil => rfl
  | cons e r ih =>
    by_cases h : e.1 = k
    · simpa [bankErase, List.filter, h] using ih
    · simp only [bankErase, List.filter_cons, bne_iff_ne, ne_eq, h, not_false_eq_true, if_true]
      obtain ⟨j, v⟩ := e
      simp only [bankGet, if_neg h]
      exact ih

theorem bankGet_erase_ne (d : α) (m : List (Nat × α)) {k j : Nat} (h : j ≠ k) : bankGet d (bankErase m k) j = bankGet d m j := by
  induction m with
  | nil => rfl
  | cons e r ih =>
    obtain ⟨i, v⟩ := e
    by_cases hi : i = k
    · have : bankErase ((i, v) :: r) k = bankErase r k := by simp [bankErase, hi]
      rw [this, ih, bankGet, if_neg (by omega)]
    · have : bankErase ((i, v) :: r) k = (i, v) :: bankErase r k := by simp [bankErase, hi]
      rw [this, bankGet, bankGet, ih]

theorem bankErase_keys {m : List (Nat × α)} {k : Nat} : ∀ e ∈ bankErase m k, e.1 ≠ k := by
  intro e he
  simpa using (List.mem_filter.1 he).2

theorem bankGet_insert (d : α) (k : Nat) (x : α) (j : Nat) :
    ∀ m : List (Nat × α), (∀ e ∈ m, e.1 ≠ k) → bankGet d (bankInsert k x m) j = if j = k then x else bankGet d m j
  | [], _ => by simp [bankInsert, bankGet, eq_comm]
  | (i, v) :: r, hm => by
    have hi : i ≠ k := hm (i, v) (by simp)
    by_cases h : k < i
    · simp [bankInsert, h, bankGet, eq_comm]
    · have ih := bankGet_insert d k x j r (fun e he => hm e (by simp [he]))
      simp only [bankInsert, if_neg h, bankGet, ih]
      by_cases hij : i = j
      · simp [hij, show j ≠ k by omega]
      · simp [hij]

variable [DecidableEq α]

/-- A read after a write to the same place gives the value written. -/
@[simp] theorem bankGet_put_same (d : α) (m : List (Nat × α)) (k : Nat) (x : α) : bankGet d (bankPut d m k x) k = x := by
  unfold bankPut
  split
  · rename_i h; rw [bankGet_erase_same, h]
  · rw [bankGet_insert d k x k _ bankErase_keys]; simp

/-- A write leaves every other place alone, whatever an unlisted place reads as. -/
theorem bankGet_put_ne' (d e : α) (m : List (Nat × α)) {k j : Nat} (x : α) (h : j ≠ k) : bankGet e (bankPut d m k x) j = bankGet e m j := by
  unfold bankPut
  split
  · exact bankGet_erase_ne e m h
  · rw [bankGet_insert e k x j _ bankErase_keys, if_neg h, bankGet_erase_ne e m h]

/-- A write leaves every other place alone. -/
theorem bankGet_put_ne (d : α) (m : List (Nat × α)) {k j : Nat} (x : α) (h : j ≠ k) : bankGet d (bankPut d m k x) j = bankGet d m j :=
  bankGet_put_ne' d d m x h

theorem bankWf_filter (d : α) (p : Nat × α → Bool) : ∀ m : List (Nat × α), bankWf d m = true → bankWf d (m.filter p) = true
  | [], _ => rfl
  | e :: r, h => by
    simp only [bankWf, Bool.and_eq_true] at h
    have ih := bankWf_filter d p r h.2
    rw [List.filter_cons]
    split
    · simp only [bankWf, Bool.and_eq_true]
      refine ⟨⟨h.1.1, ?_⟩, ih⟩
      rw [List.all_eq_true] at *
      exact fun x hx => h.1.2 x (List.mem_filter.1 hx).1
    · exact ih

theorem bankWf_insert (d : α) (k : Nat) (x : α) (hx : x ≠ d) :
    ∀ m : List (Nat × α), bankWf d m = true → (∀ e ∈ m, e.1 ≠ k) → bankWf d (bankInsert k x m) = true
  | [], _, _ => by simp [bankInsert, bankWf, hx]
  | (i, v) :: r, h, hm => by
    have hi : i ≠ k := hm (i, v) (by simp)
    simp only [bankWf, Bool.and_eq_true, List.all_eq_true, decide_eq_true_eq] at h
    by_cases hk : k < i
    · simp only [bankInsert, if_pos hk, bankWf, Bool.and_eq_true, List.all_eq_true, decide_eq_true_eq]
      refine ⟨⟨hx, ?_⟩, h⟩
      intro e he
      rcases List.mem_cons.1 he with rfl | he
      · exact hk
      · have := h.1.2 e he; omega
    · simp only [bankInsert, if_neg hk, bankWf, Bool.and_eq_true, List.all_eq_true, decide_eq_true_eq]
      refine ⟨⟨h.1.1, ?_⟩, bankWf_insert d k x hx r h.2 (fun e he => hm e (by simp [he]))⟩
      intro e he
      have : e = (k, x) ∨ e ∈ r := by
        clear h hm
        induction r with
        | nil => simpa [bankInsert] using he
        | cons y t ih =>
          obtain ⟨a, b⟩ := y
          by_cases hk' : k < a
          · simpa [bankInsert, hk'] using he
          · simp only [bankInsert, if_neg hk', List.mem_cons] at he ⊢
            rcases he with he | he
            · exact .inr (.inl he)
            · rcases ih he with h | h
              · exact .inl h
              · exact .inr (.inr h)
      rcases this with rfl | h'
      · simp; omega
      · exact h.1.2 e h'

/-- A write keeps the canonical form. -/
theorem bankWf_put (d : α) (m : List (Nat × α)) (k : Nat) (x : α) (h : bankWf d m = true) : bankWf d (bankPut d m k x) = true := by
  unfold bankPut
  split
  · exact bankWf_filter d _ m h
  · rename_i hx
    exact bankWf_insert d k x hx _ (bankWf_filter d _ m h) bankErase_keys

end Sys2Proof.Machine
end

