-- ==== Sys2Proof/Laws/State.lean ====
section
/-! SUPPORT. Laws/State.lean: what each update of the state leaves alone, field by field, and reads of attributes, blocks and units after
writes. -/

namespace Sys2Proof.Machine

@[simp] theorem setAttr_blocks (a : Attr) (i v : Nat) (d : Dev) : (setAttr a i v d).blocks = d.blocks := rfl
@[simp] theorem setAttr_elapsed (a : Attr) (i v : Nat) (d : Dev) : (setAttr a i v d).elapsed = d.elapsed := rfl
@[simp] theorem setAttr_devTime (a : Attr) (i v : Nat) (d : Dev) : (setAttr a i v d).devTime = d.devTime := rfl
@[simp] theorem setAttr_timers (a : Attr) (i v : Nat) (d : Dev) : (setAttr a i v d).timers = d.timers := rfl
@[simp] theorem setAttr_freeCount (a : Attr) (i v : Nat) (d : Dev) : (setAttr a i v d).freeCount = d.freeCount := rfl
@[simp] theorem setAttr_masters (a : Attr) (i v : Nat) (d : Dev) : (setAttr a i v d).masters = d.masters := rfl
@[simp] theorem setAttr_waiting (a : Attr) (i v : Nat) (d : Dev) : (setAttr a i v d).waiting = d.waiting := rfl
@[simp] theorem setAttr_jobs (a : Attr) (i v : Nat) (d : Dev) : (setAttr a i v d).jobs = d.jobs := rfl
@[simp] theorem setAttr_held (a : Attr) (i v : Nat) (d : Dev) : (setAttr a i v d).held = d.held := rfl
@[simp] theorem setAttr_nextOrder (a : Attr) (i v : Nat) (d : Dev) : (setAttr a i v d).nextOrder = d.nextOrder := rfl
@[simp] theorem setAttr_vertex (a : Attr) (i v : Nat) (d : Dev) : (setAttr a i v d).vertex = d.vertex := rfl
@[simp] theorem setAttr_handover (a : Attr) (i v : Nat) (d : Dev) : (setAttr a i v d).handover = d.handover := rfl
@[simp] theorem setAttr_phase (a : Attr) (i v : Nat) (d : Dev) : (setAttr a i v d).phase = d.phase := rfl
@[simp] theorem setAttr_brownout (a : Attr) (i v : Nat) (d : Dev) : (setAttr a i v d).brownout = d.brownout := rfl
@[simp] theorem setAttr_startOwed (a : Attr) (i v : Nat) (d : Dev) : (setAttr a i v d).startOwed = d.startOwed := rfl
@[simp] theorem setAttr_ports (a : Attr) (i v : Nat) (d : Dev) : (setAttr a i v d).ports = d.ports := rfl
@[simp] theorem setAttr_prisms (a : Attr) (i v : Nat) (d : Dev) : (setAttr a i v d).prisms = d.prisms := rfl
@[simp] theorem setAttr_multi (a : Attr) (i v : Nat) (d : Dev) : (setAttr a i v d).multi = d.multi := rfl
@[simp] theorem setAttr_msgId (a : Attr) (i v : Nat) (d : Dev) : (setAttr a i v d).msgId = d.msgId := rfl
@[simp] theorem setAttr_msgOrder (a : Attr) (i v : Nat) (d : Dev) : (setAttr a i v d).msgOrder = d.msgOrder := rfl
@[simp] theorem setAttr_snapshots (a : Attr) (i v : Nat) (d : Dev) : (setAttr a i v d).snapshots = d.snapshots := rfl
@[simp] theorem setAttr_chords (a : Attr) (i v : Nat) (d : Dev) : (setAttr a i v d).chords = d.chords := rfl
@[simp] theorem setAttr_links (a : Attr) (i v : Nat) (d : Dev) : (setAttr a i v d).links = d.links := rfl
@[simp] theorem setAttr_lanes (a : Attr) (i v : Nat) (d : Dev) : (setAttr a i v d).lanes = d.lanes := rfl
@[simp] theorem setAttr_flows (a : Attr) (i v : Nat) (d : Dev) : (setAttr a i v d).flows = d.flows := rfl
@[simp] theorem setAttr_sources (a : Attr) (i v : Nat) (d : Dev) : (setAttr a i v d).sources = d.sources := rfl
@[simp] theorem setAttr_accepted (a : Attr) (i v : Nat) (d : Dev) : (setAttr a i v d).accepted = d.accepted := rfl
@[simp] theorem setAttr_egress (a : Attr) (i v : Nat) (d : Dev) : (setAttr a i v d).egress = d.egress := rfl
@[simp] theorem setAttr_faults (a : Attr) (i v : Nat) (d : Dev) : (setAttr a i v d).faults = d.faults := rfl
@[simp] theorem setAttr_bist (a : Attr) (i v : Nat) (d : Dev) : (setAttr a i v d).bist = d.bist := rfl
@[simp] theorem setAttr_power (a : Attr) (i v : Nat) (d : Dev) : (setAttr a i v d).power = d.power := rfl
@[simp] theorem setAttr_clashed (a : Attr) (i v : Nat) (d : Dev) : (setAttr a i v d).clashed = d.clashed := rfl
@[simp] theorem setAttr_cal (a : Attr) (i v : Nat) (d : Dev) : (setAttr a i v d).cal = d.cal := rfl
@[simp] theorem setAttr_scans (a : Attr) (i v : Nat) (d : Dev) : (setAttr a i v d).scans = d.scans := rfl
@[simp] theorem setAttr_life (a : Attr) (i v : Nat) (d : Dev) : (setAttr a i v d).life = d.life := rfl
@[simp] theorem setAttr_time (a : Attr) (i v : Nat) (d : Dev) : (setAttr a i v d).time = d.time := rfl
@[simp] theorem setAttr_wear (a : Attr) (i v : Nat) (d : Dev) : (setAttr a i v d).wear = d.wear := rfl
@[simp] theorem setAttr_aged (a : Attr) (i v : Nat) (d : Dev) : (setAttr a i v d).aged = d.aged := rfl
@[simp] theorem setAttr_hot (a : Attr) (i v : Nat) (d : Dev) : (setAttr a i v d).hot = d.hot := rfl
@[simp] theorem setAttr_tooHot (a : Attr) (i v : Nat) (d : Dev) : (setAttr a i v d).tooHot = d.tooHot := rfl
@[simp] theorem setAttr_shares (a : Attr) (i v : Nat) (d : Dev) : (setAttr a i v d).shares = d.shares := rfl
@[simp] theorem setAttr_strobe (a : Attr) (i v : Nat) (d : Dev) : (setAttr a i v d).strobe = d.strobe := rfl
@[simp] theorem setAttr_sawCoreOff (a : Attr) (i v : Nat) (d : Dev) : (setAttr a i v d).sawCoreOff = d.sawCoreOff := rfl
@[simp] theorem setAttr_sawResetN (a : Attr) (i v : Nat) (d : Dev) : (setAttr a i v d).sawResetN = d.sawResetN := rfl
@[simp] theorem setAttr_sawRail (a : Attr) (i v : Nat) (d : Dev) : (setAttr a i v d).sawRail = d.sawRail := rfl
@[simp] theorem setAttr_railsDown (a : Attr) (i v : Nat) (d : Dev) : (setAttr a i v d).railsDown = d.railsDown := rfl
@[simp] theorem setAttr_resetLow (a : Attr) (i v : Nat) (d : Dev) : (setAttr a i v d).resetLow = d.resetLow := rfl
@[simp] theorem setAttr_resuming (a : Attr) (i v : Nat) (d : Dev) : (setAttr a i v d).resuming = d.resuming := rfl

@[simp] theorem setBlock_attrs (a : Attr) (i : Nat) (bs : List Byte) (d : Dev) : (setBlock a i bs d).attrs = d.attrs := rfl
@[simp] theorem setBlock_elapsed (a : Attr) (i : Nat) (bs : List Byte) (d : Dev) : (setBlock a i bs d).elapsed = d.elapsed := rfl
@[simp] theorem setBlock_devTime (a : Attr) (i : Nat) (bs : List Byte) (d : Dev) : (setBlock a i bs d).devTime = d.devTime := rfl
@[simp] theorem setBlock_timers (a : Attr) (i : Nat) (bs : List Byte) (d : Dev) : (setBlock a i bs d).timers = d.timers := rfl
@[simp] theorem setBlock_freeCount (a : Attr) (i : Nat) (bs : List Byte) (d : Dev) : (setBlock a i bs d).freeCount = d.freeCount := rfl
@[simp] theorem setBlock_masters (a : Attr) (i : Nat) (bs : List Byte) (d : Dev) : (setBlock a i bs d).masters = d.masters := rfl
@[simp] theorem setBlock_waiting (a : Attr) (i : Nat) (bs : List Byte) (d : Dev) : (setBlock a i bs d).waiting = d.waiting := rfl
@[simp] theorem setBlock_jobs (a : Attr) (i : Nat) (bs : List Byte) (d : Dev) : (setBlock a i bs d).jobs = d.jobs := rfl
@[simp] theorem setBlock_held (a : Attr) (i : Nat) (bs : List Byte) (d : Dev) : (setBlock a i bs d).held = d.held := rfl
@[simp] theorem setBlock_nextOrder (a : Attr) (i : Nat) (bs : List Byte) (d : Dev) : (setBlock a i bs d).nextOrder = d.nextOrder := rfl
@[simp] theorem setBlock_vertex (a : Attr) (i : Nat) (bs : List Byte) (d : Dev) : (setBlock a i bs d).vertex = d.vertex := rfl
@[simp] theorem setBlock_handover (a : Attr) (i : Nat) (bs : List Byte) (d : Dev) : (setBlock a i bs d).handover = d.handover := rfl
@[simp] theorem setBlock_phase (a : Attr) (i : Nat) (bs : List Byte) (d : Dev) : (setBlock a i bs d).phase = d.phase := rfl
@[simp] theorem setBlock_brownout (a : Attr) (i : Nat) (bs : List Byte) (d : Dev) : (setBlock a i bs d).brownout = d.brownout := rfl
@[simp] theorem setBlock_startOwed (a : Attr) (i : Nat) (bs : List Byte) (d : Dev) : (setBlock a i bs d).startOwed = d.startOwed := rfl
@[simp] theorem setBlock_ports (a : Attr) (i : Nat) (bs : List Byte) (d : Dev) : (setBlock a i bs d).ports = d.ports := rfl
@[simp] theorem setBlock_prisms (a : Attr) (i : Nat) (bs : List Byte) (d : Dev) : (setBlock a i bs d).prisms = d.prisms := rfl
@[simp] theorem setBlock_multi (a : Attr) (i : Nat) (bs : List Byte) (d : Dev) : (setBlock a i bs d).multi = d.multi := rfl
@[simp] theorem setBlock_msgId (a : Attr) (i : Nat) (bs : List Byte) (d : Dev) : (setBlock a i bs d).msgId = d.msgId := rfl
@[simp] theorem setBlock_msgOrder (a : Attr) (i : Nat) (bs : List Byte) (d : Dev) : (setBlock a i bs d).msgOrder = d.msgOrder := rfl
@[simp] theorem setBlock_snapshots (a : Attr) (i : Nat) (bs : List Byte) (d : Dev) : (setBlock a i bs d).snapshots = d.snapshots := rfl
@[simp] theorem setBlock_chords (a : Attr) (i : Nat) (bs : List Byte) (d : Dev) : (setBlock a i bs d).chords = d.chords := rfl
@[simp] theorem setBlock_links (a : Attr) (i : Nat) (bs : List Byte) (d : Dev) : (setBlock a i bs d).links = d.links := rfl
@[simp] theorem setBlock_lanes (a : Attr) (i : Nat) (bs : List Byte) (d : Dev) : (setBlock a i bs d).lanes = d.lanes := rfl
@[simp] theorem setBlock_flows (a : Attr) (i : Nat) (bs : List Byte) (d : Dev) : (setBlock a i bs d).flows = d.flows := rfl
@[simp] theorem setBlock_sources (a : Attr) (i : Nat) (bs : List Byte) (d : Dev) : (setBlock a i bs d).sources = d.sources := rfl
@[simp] theorem setBlock_accepted (a : Attr) (i : Nat) (bs : List Byte) (d : Dev) : (setBlock a i bs d).accepted = d.accepted := rfl
@[simp] theorem setBlock_egress (a : Attr) (i : Nat) (bs : List Byte) (d : Dev) : (setBlock a i bs d).egress = d.egress := rfl
@[simp] theorem setBlock_faults (a : Attr) (i : Nat) (bs : List Byte) (d : Dev) : (setBlock a i bs d).faults = d.faults := rfl
@[simp] theorem setBlock_bist (a : Attr) (i : Nat) (bs : List Byte) (d : Dev) : (setBlock a i bs d).bist = d.bist := rfl
@[simp] theorem setBlock_power (a : Attr) (i : Nat) (bs : List Byte) (d : Dev) : (setBlock a i bs d).power = d.power := rfl
@[simp] theorem setBlock_clashed (a : Attr) (i : Nat) (bs : List Byte) (d : Dev) : (setBlock a i bs d).clashed = d.clashed := rfl
@[simp] theorem setBlock_cal (a : Attr) (i : Nat) (bs : List Byte) (d : Dev) : (setBlock a i bs d).cal = d.cal := rfl
@[simp] theorem setBlock_scans (a : Attr) (i : Nat) (bs : List Byte) (d : Dev) : (setBlock a i bs d).scans = d.scans := rfl
@[simp] theorem setBlock_life (a : Attr) (i : Nat) (bs : List Byte) (d : Dev) : (setBlock a i bs d).life = d.life := rfl
@[simp] theorem setBlock_time (a : Attr) (i : Nat) (bs : List Byte) (d : Dev) : (setBlock a i bs d).time = d.time := rfl
@[simp] theorem setBlock_wear (a : Attr) (i : Nat) (bs : List Byte) (d : Dev) : (setBlock a i bs d).wear = d.wear := rfl
@[simp] theorem setBlock_aged (a : Attr) (i : Nat) (bs : List Byte) (d : Dev) : (setBlock a i bs d).aged = d.aged := rfl
@[simp] theorem setBlock_hot (a : Attr) (i : Nat) (bs : List Byte) (d : Dev) : (setBlock a i bs d).hot = d.hot := rfl
@[simp] theorem setBlock_tooHot (a : Attr) (i : Nat) (bs : List Byte) (d : Dev) : (setBlock a i bs d).tooHot = d.tooHot := rfl
@[simp] theorem setBlock_shares (a : Attr) (i : Nat) (bs : List Byte) (d : Dev) : (setBlock a i bs d).shares = d.shares := rfl
@[simp] theorem setBlock_strobe (a : Attr) (i : Nat) (bs : List Byte) (d : Dev) : (setBlock a i bs d).strobe = d.strobe := rfl
@[simp] theorem setBlock_sawCoreOff (a : Attr) (i : Nat) (bs : List Byte) (d : Dev) : (setBlock a i bs d).sawCoreOff = d.sawCoreOff := rfl
@[simp] theorem setBlock_sawResetN (a : Attr) (i : Nat) (bs : List Byte) (d : Dev) : (setBlock a i bs d).sawResetN = d.sawResetN := rfl
@[simp] theorem setBlock_sawRail (a : Attr) (i : Nat) (bs : List Byte) (d : Dev) : (setBlock a i bs d).sawRail = d.sawRail := rfl
@[simp] theorem setBlock_railsDown (a : Attr) (i : Nat) (bs : List Byte) (d : Dev) : (setBlock a i bs d).railsDown = d.railsDown := rfl
@[simp] theorem setBlock_resetLow (a : Attr) (i : Nat) (bs : List Byte) (d : Dev) : (setBlock a i bs d).resetLow = d.resetLow := rfl
@[simp] theorem setBlock_resuming (a : Attr) (i : Nat) (bs : List Byte) (d : Dev) : (setBlock a i bs d).resuming = d.resuming := rfl

@[simp] theorem setMaster_attrs (m : Nat) (x : Master) (d : Dev) : (setMaster m x d).attrs = d.attrs := rfl
@[simp] theorem setMaster_blocks (m : Nat) (x : Master) (d : Dev) : (setMaster m x d).blocks = d.blocks := rfl
@[simp] theorem setMaster_elapsed (m : Nat) (x : Master) (d : Dev) : (setMaster m x d).elapsed = d.elapsed := rfl
@[simp] theorem setMaster_devTime (m : Nat) (x : Master) (d : Dev) : (setMaster m x d).devTime = d.devTime := rfl
@[simp] theorem setMaster_timers (m : Nat) (x : Master) (d : Dev) : (setMaster m x d).timers = d.timers := rfl
@[simp] theorem setMaster_freeCount (m : Nat) (x : Master) (d : Dev) : (setMaster m x d).freeCount = d.freeCount := rfl
@[simp] theorem setMaster_waiting (m : Nat) (x : Master) (d : Dev) : (setMaster m x d).waiting = d.waiting := rfl
@[simp] theorem setMaster_jobs (m : Nat) (x : Master) (d : Dev) : (setMaster m x d).jobs = d.jobs := rfl
@[simp] theorem setMaster_held (m : Nat) (x : Master) (d : Dev) : (setMaster m x d).held = d.held := rfl
@[simp] theorem setMaster_nextOrder (m : Nat) (x : Master) (d : Dev) : (setMaster m x d).nextOrder = d.nextOrder := rfl
@[simp] theorem setMaster_vertex (m : Nat) (x : Master) (d : Dev) : (setMaster m x d).vertex = d.vertex := rfl
@[simp] theorem setMaster_handover (m : Nat) (x : Master) (d : Dev) : (setMaster m x d).handover = d.handover := rfl
@[simp] theorem setMaster_phase (m : Nat) (x : Master) (d : Dev) : (setMaster m x d).phase = d.phase := rfl
@[simp] theorem setMaster_brownout (m : Nat) (x : Master) (d : Dev) : (setMaster m x d).brownout = d.brownout := rfl
@[simp] theorem setMaster_startOwed (m : Nat) (x : Master) (d : Dev) : (setMaster m x d).startOwed = d.startOwed := rfl
@[simp] theorem setMaster_ports (m : Nat) (x : Master) (d : Dev) : (setMaster m x d).ports = d.ports := rfl
@[simp] theorem setMaster_prisms (m : Nat) (x : Master) (d : Dev) : (setMaster m x d).prisms = d.prisms := rfl
@[simp] theorem setMaster_multi (m : Nat) (x : Master) (d : Dev) : (setMaster m x d).multi = d.multi := rfl
@[simp] theorem setMaster_msgId (m : Nat) (x : Master) (d : Dev) : (setMaster m x d).msgId = d.msgId := rfl
@[simp] theorem setMaster_msgOrder (m : Nat) (x : Master) (d : Dev) : (setMaster m x d).msgOrder = d.msgOrder := rfl
@[simp] theorem setMaster_snapshots (m : Nat) (x : Master) (d : Dev) : (setMaster m x d).snapshots = d.snapshots := rfl
@[simp] theorem setMaster_chords (m : Nat) (x : Master) (d : Dev) : (setMaster m x d).chords = d.chords := rfl
@[simp] theorem setMaster_links (m : Nat) (x : Master) (d : Dev) : (setMaster m x d).links = d.links := rfl
@[simp] theorem setMaster_lanes (m : Nat) (x : Master) (d : Dev) : (setMaster m x d).lanes = d.lanes := rfl
@[simp] theorem setMaster_flows (m : Nat) (x : Master) (d : Dev) : (setMaster m x d).flows = d.flows := rfl
@[simp] theorem setMaster_sources (m : Nat) (x : Master) (d : Dev) : (setMaster m x d).sources = d.sources := rfl
@[simp] theorem setMaster_accepted (m : Nat) (x : Master) (d : Dev) : (setMaster m x d).accepted = d.accepted := rfl
@[simp] theorem setMaster_egress (m : Nat) (x : Master) (d : Dev) : (setMaster m x d).egress = d.egress := rfl
@[simp] theorem setMaster_faults (m : Nat) (x : Master) (d : Dev) : (setMaster m x d).faults = d.faults := rfl
@[simp] theorem setMaster_bist (m : Nat) (x : Master) (d : Dev) : (setMaster m x d).bist = d.bist := rfl
@[simp] theorem setMaster_power (m : Nat) (x : Master) (d : Dev) : (setMaster m x d).power = d.power := rfl
@[simp] theorem setMaster_clashed (m : Nat) (x : Master) (d : Dev) : (setMaster m x d).clashed = d.clashed := rfl
@[simp] theorem setMaster_cal (m : Nat) (x : Master) (d : Dev) : (setMaster m x d).cal = d.cal := rfl
@[simp] theorem setMaster_scans (m : Nat) (x : Master) (d : Dev) : (setMaster m x d).scans = d.scans := rfl
@[simp] theorem setMaster_life (m : Nat) (x : Master) (d : Dev) : (setMaster m x d).life = d.life := rfl
@[simp] theorem setMaster_time (m : Nat) (x : Master) (d : Dev) : (setMaster m x d).time = d.time := rfl
@[simp] theorem setMaster_wear (m : Nat) (x : Master) (d : Dev) : (setMaster m x d).wear = d.wear := rfl
@[simp] theorem setMaster_aged (m : Nat) (x : Master) (d : Dev) : (setMaster m x d).aged = d.aged := rfl
@[simp] theorem setMaster_hot (m : Nat) (x : Master) (d : Dev) : (setMaster m x d).hot = d.hot := rfl
@[simp] theorem setMaster_tooHot (m : Nat) (x : Master) (d : Dev) : (setMaster m x d).tooHot = d.tooHot := rfl
@[simp] theorem setMaster_shares (m : Nat) (x : Master) (d : Dev) : (setMaster m x d).shares = d.shares := rfl
@[simp] theorem setMaster_strobe (m : Nat) (x : Master) (d : Dev) : (setMaster m x d).strobe = d.strobe := rfl
@[simp] theorem setMaster_sawCoreOff (m : Nat) (x : Master) (d : Dev) : (setMaster m x d).sawCoreOff = d.sawCoreOff := rfl
@[simp] theorem setMaster_sawResetN (m : Nat) (x : Master) (d : Dev) : (setMaster m x d).sawResetN = d.sawResetN := rfl
@[simp] theorem setMaster_sawRail (m : Nat) (x : Master) (d : Dev) : (setMaster m x d).sawRail = d.sawRail := rfl
@[simp] theorem setMaster_railsDown (m : Nat) (x : Master) (d : Dev) : (setMaster m x d).railsDown = d.railsDown := rfl
@[simp] theorem setMaster_resetLow (m : Nat) (x : Master) (d : Dev) : (setMaster m x d).resetLow = d.resetLow := rfl
@[simp] theorem setMaster_resuming (m : Nat) (x : Master) (d : Dev) : (setMaster m x d).resuming = d.resuming := rfl

@[simp] theorem arm_attrs (k i ns : Nat) (d : Dev) : (arm k i ns d).attrs = d.attrs := rfl
@[simp] theorem arm_blocks (k i ns : Nat) (d : Dev) : (arm k i ns d).blocks = d.blocks := rfl
@[simp] theorem arm_elapsed (k i ns : Nat) (d : Dev) : (arm k i ns d).elapsed = d.elapsed := rfl
@[simp] theorem arm_devTime (k i ns : Nat) (d : Dev) : (arm k i ns d).devTime = d.devTime := rfl
@[simp] theorem arm_freeCount (k i ns : Nat) (d : Dev) : (arm k i ns d).freeCount = d.freeCount := rfl
@[simp] theorem arm_masters (k i ns : Nat) (d : Dev) : (arm k i ns d).masters = d.masters := rfl
@[simp] theorem arm_waiting (k i ns : Nat) (d : Dev) : (arm k i ns d).waiting = d.waiting := rfl
@[simp] theorem arm_jobs (k i ns : Nat) (d : Dev) : (arm k i ns d).jobs = d.jobs := rfl
@[simp] theorem arm_held (k i ns : Nat) (d : Dev) : (arm k i ns d).held = d.held := rfl
@[simp] theorem arm_nextOrder (k i ns : Nat) (d : Dev) : (arm k i ns d).nextOrder = d.nextOrder := rfl
@[simp] theorem arm_vertex (k i ns : Nat) (d : Dev) : (arm k i ns d).vertex = d.vertex := rfl
@[simp] theorem arm_handover (k i ns : Nat) (d : Dev) : (arm k i ns d).handover = d.handover := rfl
@[simp] theorem arm_phase (k i ns : Nat) (d : Dev) : (arm k i ns d).phase = d.phase := rfl
@[simp] theorem arm_brownout (k i ns : Nat) (d : Dev) : (arm k i ns d).brownout = d.brownout := rfl
@[simp] theorem arm_startOwed (k i ns : Nat) (d : Dev) : (arm k i ns d).startOwed = d.startOwed := rfl
@[simp] theorem arm_ports (k i ns : Nat) (d : Dev) : (arm k i ns d).ports = d.ports := rfl
@[simp] theorem arm_prisms (k i ns : Nat) (d : Dev) : (arm k i ns d).prisms = d.prisms := rfl
@[simp] theorem arm_multi (k i ns : Nat) (d : Dev) : (arm k i ns d).multi = d.multi := rfl
@[simp] theorem arm_msgId (k i ns : Nat) (d : Dev) : (arm k i ns d).msgId = d.msgId := rfl
@[simp] theorem arm_msgOrder (k i ns : Nat) (d : Dev) : (arm k i ns d).msgOrder = d.msgOrder := rfl
@[simp] theorem arm_snapshots (k i ns : Nat) (d : Dev) : (arm k i ns d).snapshots = d.snapshots := rfl
@[simp] theorem arm_chords (k i ns : Nat) (d : Dev) : (arm k i ns d).chords = d.chords := rfl
@[simp] theorem arm_links (k i ns : Nat) (d : Dev) : (arm k i ns d).links = d.links := rfl
@[simp] theorem arm_lanes (k i ns : Nat) (d : Dev) : (arm k i ns d).lanes = d.lanes := rfl
@[simp] theorem arm_flows (k i ns : Nat) (d : Dev) : (arm k i ns d).flows = d.flows := rfl
@[simp] theorem arm_sources (k i ns : Nat) (d : Dev) : (arm k i ns d).sources = d.sources := rfl
@[simp] theorem arm_accepted (k i ns : Nat) (d : Dev) : (arm k i ns d).accepted = d.accepted := rfl
@[simp] theorem arm_egress (k i ns : Nat) (d : Dev) : (arm k i ns d).egress = d.egress := rfl
@[simp] theorem arm_faults (k i ns : Nat) (d : Dev) : (arm k i ns d).faults = d.faults := rfl
@[simp] theorem arm_bist (k i ns : Nat) (d : Dev) : (arm k i ns d).bist = d.bist := rfl
@[simp] theorem arm_power (k i ns : Nat) (d : Dev) : (arm k i ns d).power = d.power := rfl
@[simp] theorem arm_clashed (k i ns : Nat) (d : Dev) : (arm k i ns d).clashed = d.clashed := rfl
@[simp] theorem arm_cal (k i ns : Nat) (d : Dev) : (arm k i ns d).cal = d.cal := rfl
@[simp] theorem arm_scans (k i ns : Nat) (d : Dev) : (arm k i ns d).scans = d.scans := rfl
@[simp] theorem arm_life (k i ns : Nat) (d : Dev) : (arm k i ns d).life = d.life := rfl
@[simp] theorem arm_time (k i ns : Nat) (d : Dev) : (arm k i ns d).time = d.time := rfl
@[simp] theorem arm_wear (k i ns : Nat) (d : Dev) : (arm k i ns d).wear = d.wear := rfl
@[simp] theorem arm_aged (k i ns : Nat) (d : Dev) : (arm k i ns d).aged = d.aged := rfl
@[simp] theorem arm_hot (k i ns : Nat) (d : Dev) : (arm k i ns d).hot = d.hot := rfl
@[simp] theorem arm_tooHot (k i ns : Nat) (d : Dev) : (arm k i ns d).tooHot = d.tooHot := rfl
@[simp] theorem arm_shares (k i ns : Nat) (d : Dev) : (arm k i ns d).shares = d.shares := rfl
@[simp] theorem arm_strobe (k i ns : Nat) (d : Dev) : (arm k i ns d).strobe = d.strobe := rfl
@[simp] theorem arm_sawCoreOff (k i ns : Nat) (d : Dev) : (arm k i ns d).sawCoreOff = d.sawCoreOff := rfl
@[simp] theorem arm_sawResetN (k i ns : Nat) (d : Dev) : (arm k i ns d).sawResetN = d.sawResetN := rfl
@[simp] theorem arm_sawRail (k i ns : Nat) (d : Dev) : (arm k i ns d).sawRail = d.sawRail := rfl
@[simp] theorem arm_railsDown (k i ns : Nat) (d : Dev) : (arm k i ns d).railsDown = d.railsDown := rfl
@[simp] theorem arm_resetLow (k i ns : Nat) (d : Dev) : (arm k i ns d).resetLow = d.resetLow := rfl
@[simp] theorem arm_resuming (k i ns : Nat) (d : Dev) : (arm k i ns d).resuming = d.resuming := rfl

@[simp] theorem disarm_attrs (k i : Nat) (d : Dev) : (disarm k i d).attrs = d.attrs := rfl
@[simp] theorem disarm_blocks (k i : Nat) (d : Dev) : (disarm k i d).blocks = d.blocks := rfl
@[simp] theorem disarm_elapsed (k i : Nat) (d : Dev) : (disarm k i d).elapsed = d.elapsed := rfl
@[simp] theorem disarm_devTime (k i : Nat) (d : Dev) : (disarm k i d).devTime = d.devTime := rfl
@[simp] theorem disarm_freeCount (k i : Nat) (d : Dev) : (disarm k i d).freeCount = d.freeCount := rfl
@[simp] theorem disarm_masters (k i : Nat) (d : Dev) : (disarm k i d).masters = d.masters := rfl
@[simp] theorem disarm_waiting (k i : Nat) (d : Dev) : (disarm k i d).waiting = d.waiting := rfl
@[simp] theorem disarm_jobs (k i : Nat) (d : Dev) : (disarm k i d).jobs = d.jobs := rfl
@[simp] theorem disarm_held (k i : Nat) (d : Dev) : (disarm k i d).held = d.held := rfl
@[simp] theorem disarm_nextOrder (k i : Nat) (d : Dev) : (disarm k i d).nextOrder = d.nextOrder := rfl
@[simp] theorem disarm_vertex (k i : Nat) (d : Dev) : (disarm k i d).vertex = d.vertex := rfl
@[simp] theorem disarm_handover (k i : Nat) (d : Dev) : (disarm k i d).handover = d.handover := rfl
@[simp] theorem disarm_phase (k i : Nat) (d : Dev) : (disarm k i d).phase = d.phase := rfl
@[simp] theorem disarm_brownout (k i : Nat) (d : Dev) : (disarm k i d).brownout = d.brownout := rfl
@[simp] theorem disarm_startOwed (k i : Nat) (d : Dev) : (disarm k i d).startOwed = d.startOwed := rfl
@[simp] theorem disarm_ports (k i : Nat) (d : Dev) : (disarm k i d).ports = d.ports := rfl
@[simp] theorem disarm_prisms (k i : Nat) (d : Dev) : (disarm k i d).prisms = d.prisms := rfl
@[simp] theorem disarm_multi (k i : Nat) (d : Dev) : (disarm k i d).multi = d.multi := rfl
@[simp] theorem disarm_msgId (k i : Nat) (d : Dev) : (disarm k i d).msgId = d.msgId := rfl
@[simp] theorem disarm_msgOrder (k i : Nat) (d : Dev) : (disarm k i d).msgOrder = d.msgOrder := rfl
@[simp] theorem disarm_snapshots (k i : Nat) (d : Dev) : (disarm k i d).snapshots = d.snapshots := rfl
@[simp] theorem disarm_chords (k i : Nat) (d : Dev) : (disarm k i d).chords = d.chords := rfl
@[simp] theorem disarm_links (k i : Nat) (d : Dev) : (disarm k i d).links = d.links := rfl
@[simp] theorem disarm_lanes (k i : Nat) (d : Dev) : (disarm k i d).lanes = d.lanes := rfl
@[simp] theorem disarm_flows (k i : Nat) (d : Dev) : (disarm k i d).flows = d.flows := rfl
@[simp] theorem disarm_sources (k i : Nat) (d : Dev) : (disarm k i d).sources = d.sources := rfl
@[simp] theorem disarm_accepted (k i : Nat) (d : Dev) : (disarm k i d).accepted = d.accepted := rfl
@[simp] theorem disarm_egress (k i : Nat) (d : Dev) : (disarm k i d).egress = d.egress := rfl
@[simp] theorem disarm_faults (k i : Nat) (d : Dev) : (disarm k i d).faults = d.faults := rfl
@[simp] theorem disarm_bist (k i : Nat) (d : Dev) : (disarm k i d).bist = d.bist := rfl
@[simp] theorem disarm_power (k i : Nat) (d : Dev) : (disarm k i d).power = d.power := rfl
@[simp] theorem disarm_clashed (k i : Nat) (d : Dev) : (disarm k i d).clashed = d.clashed := rfl
@[simp] theorem disarm_cal (k i : Nat) (d : Dev) : (disarm k i d).cal = d.cal := rfl
@[simp] theorem disarm_scans (k i : Nat) (d : Dev) : (disarm k i d).scans = d.scans := rfl
@[simp] theorem disarm_life (k i : Nat) (d : Dev) : (disarm k i d).life = d.life := rfl
@[simp] theorem disarm_time (k i : Nat) (d : Dev) : (disarm k i d).time = d.time := rfl
@[simp] theorem disarm_wear (k i : Nat) (d : Dev) : (disarm k i d).wear = d.wear := rfl
@[simp] theorem disarm_aged (k i : Nat) (d : Dev) : (disarm k i d).aged = d.aged := rfl
@[simp] theorem disarm_hot (k i : Nat) (d : Dev) : (disarm k i d).hot = d.hot := rfl
@[simp] theorem disarm_tooHot (k i : Nat) (d : Dev) : (disarm k i d).tooHot = d.tooHot := rfl
@[simp] theorem disarm_shares (k i : Nat) (d : Dev) : (disarm k i d).shares = d.shares := rfl
@[simp] theorem disarm_strobe (k i : Nat) (d : Dev) : (disarm k i d).strobe = d.strobe := rfl
@[simp] theorem disarm_sawCoreOff (k i : Nat) (d : Dev) : (disarm k i d).sawCoreOff = d.sawCoreOff := rfl
@[simp] theorem disarm_sawResetN (k i : Nat) (d : Dev) : (disarm k i d).sawResetN = d.sawResetN := rfl
@[simp] theorem disarm_sawRail (k i : Nat) (d : Dev) : (disarm k i d).sawRail = d.sawRail := rfl
@[simp] theorem disarm_railsDown (k i : Nat) (d : Dev) : (disarm k i d).railsDown = d.railsDown := rfl
@[simp] theorem disarm_resetLow (k i : Nat) (d : Dev) : (disarm k i d).resetLow = d.resetLow := rfl
@[simp] theorem disarm_resuming (k i : Nat) (d : Dev) : (disarm k i d).resuming = d.resuming := rfl

@[simp] theorem setPort_attrs (p : Nat) (x : Port) (d : Dev) : (setPort p x d).attrs = d.attrs := rfl
@[simp] theorem setPort_blocks (p : Nat) (x : Port) (d : Dev) : (setPort p x d).blocks = d.blocks := rfl
@[simp] theorem setPort_elapsed (p : Nat) (x : Port) (d : Dev) : (setPort p x d).elapsed = d.elapsed := rfl
@[simp] theorem setPort_devTime (p : Nat) (x : Port) (d : Dev) : (setPort p x d).devTime = d.devTime := rfl
@[simp] theorem setPort_timers (p : Nat) (x : Port) (d : Dev) : (setPort p x d).timers = d.timers := rfl
@[simp] theorem setPort_freeCount (p : Nat) (x : Port) (d : Dev) : (setPort p x d).freeCount = d.freeCount := rfl
@[simp] theorem setPort_masters (p : Nat) (x : Port) (d : Dev) : (setPort p x d).masters = d.masters := rfl
@[simp] theorem setPort_waiting (p : Nat) (x : Port) (d : Dev) : (setPort p x d).waiting = d.waiting := rfl
@[simp] theorem setPort_jobs (p : Nat) (x : Port) (d : Dev) : (setPort p x d).jobs = d.jobs := rfl
@[simp] theorem setPort_held (p : Nat) (x : Port) (d : Dev) : (setPort p x d).held = d.held := rfl
@[simp] theorem setPort_nextOrder (p : Nat) (x : Port) (d : Dev) : (setPort p x d).nextOrder = d.nextOrder := rfl
@[simp] theorem setPort_vertex (p : Nat) (x : Port) (d : Dev) : (setPort p x d).vertex = d.vertex := rfl
@[simp] theorem setPort_handover (p : Nat) (x : Port) (d : Dev) : (setPort p x d).handover = d.handover := rfl
@[simp] theorem setPort_phase (p : Nat) (x : Port) (d : Dev) : (setPort p x d).phase = d.phase := rfl
@[simp] theorem setPort_brownout (p : Nat) (x : Port) (d : Dev) : (setPort p x d).brownout = d.brownout := rfl
@[simp] theorem setPort_startOwed (p : Nat) (x : Port) (d : Dev) : (setPort p x d).startOwed = d.startOwed := rfl
@[simp] theorem setPort_prisms (p : Nat) (x : Port) (d : Dev) : (setPort p x d).prisms = d.prisms := rfl
@[simp] theorem setPort_multi (p : Nat) (x : Port) (d : Dev) : (setPort p x d).multi = d.multi := rfl
@[simp] theorem setPort_msgId (p : Nat) (x : Port) (d : Dev) : (setPort p x d).msgId = d.msgId := rfl
@[simp] theorem setPort_msgOrder (p : Nat) (x : Port) (d : Dev) : (setPort p x d).msgOrder = d.msgOrder := rfl
@[simp] theorem setPort_snapshots (p : Nat) (x : Port) (d : Dev) : (setPort p x d).snapshots = d.snapshots := rfl
@[simp] theorem setPort_chords (p : Nat) (x : Port) (d : Dev) : (setPort p x d).chords = d.chords := rfl
@[simp] theorem setPort_links (p : Nat) (x : Port) (d : Dev) : (setPort p x d).links = d.links := rfl
@[simp] theorem setPort_lanes (p : Nat) (x : Port) (d : Dev) : (setPort p x d).lanes = d.lanes := rfl
@[simp] theorem setPort_flows (p : Nat) (x : Port) (d : Dev) : (setPort p x d).flows = d.flows := rfl
@[simp] theorem setPort_sources (p : Nat) (x : Port) (d : Dev) : (setPort p x d).sources = d.sources := rfl
@[simp] theorem setPort_accepted (p : Nat) (x : Port) (d : Dev) : (setPort p x d).accepted = d.accepted := rfl
@[simp] theorem setPort_egress (p : Nat) (x : Port) (d : Dev) : (setPort p x d).egress = d.egress := rfl
@[simp] theorem setPort_faults (p : Nat) (x : Port) (d : Dev) : (setPort p x d).faults = d.faults := rfl
@[simp] theorem setPort_bist (p : Nat) (x : Port) (d : Dev) : (setPort p x d).bist = d.bist := rfl
@[simp] theorem setPort_power (p : Nat) (x : Port) (d : Dev) : (setPort p x d).power = d.power := rfl
@[simp] theorem setPort_clashed (p : Nat) (x : Port) (d : Dev) : (setPort p x d).clashed = d.clashed := rfl
@[simp] theorem setPort_cal (p : Nat) (x : Port) (d : Dev) : (setPort p x d).cal = d.cal := rfl
@[simp] theorem setPort_scans (p : Nat) (x : Port) (d : Dev) : (setPort p x d).scans = d.scans := rfl
@[simp] theorem setPort_life (p : Nat) (x : Port) (d : Dev) : (setPort p x d).life = d.life := rfl
@[simp] theorem setPort_time (p : Nat) (x : Port) (d : Dev) : (setPort p x d).time = d.time := rfl
@[simp] theorem setPort_wear (p : Nat) (x : Port) (d : Dev) : (setPort p x d).wear = d.wear := rfl
@[simp] theorem setPort_aged (p : Nat) (x : Port) (d : Dev) : (setPort p x d).aged = d.aged := rfl
@[simp] theorem setPort_hot (p : Nat) (x : Port) (d : Dev) : (setPort p x d).hot = d.hot := rfl
@[simp] theorem setPort_tooHot (p : Nat) (x : Port) (d : Dev) : (setPort p x d).tooHot = d.tooHot := rfl
@[simp] theorem setPort_shares (p : Nat) (x : Port) (d : Dev) : (setPort p x d).shares = d.shares := rfl
@[simp] theorem setPort_strobe (p : Nat) (x : Port) (d : Dev) : (setPort p x d).strobe = d.strobe := rfl
@[simp] theorem setPort_sawCoreOff (p : Nat) (x : Port) (d : Dev) : (setPort p x d).sawCoreOff = d.sawCoreOff := rfl
@[simp] theorem setPort_sawResetN (p : Nat) (x : Port) (d : Dev) : (setPort p x d).sawResetN = d.sawResetN := rfl
@[simp] theorem setPort_sawRail (p : Nat) (x : Port) (d : Dev) : (setPort p x d).sawRail = d.sawRail := rfl
@[simp] theorem setPort_railsDown (p : Nat) (x : Port) (d : Dev) : (setPort p x d).railsDown = d.railsDown := rfl
@[simp] theorem setPort_resetLow (p : Nat) (x : Port) (d : Dev) : (setPort p x d).resetLow = d.resetLow := rfl
@[simp] theorem setPort_resuming (p : Nat) (x : Port) (d : Dev) : (setPort p x d).resuming = d.resuming := rfl

@[simp] theorem modLink_attrs (g : Nat) (f : Link → Link) (d : Dev) : (modLink g f d).attrs = d.attrs := rfl
@[simp] theorem modLink_blocks (g : Nat) (f : Link → Link) (d : Dev) : (modLink g f d).blocks = d.blocks := rfl
@[simp] theorem modLink_elapsed (g : Nat) (f : Link → Link) (d : Dev) : (modLink g f d).elapsed = d.elapsed := rfl
@[simp] theorem modLink_devTime (g : Nat) (f : Link → Link) (d : Dev) : (modLink g f d).devTime = d.devTime := rfl
@[simp] theorem modLink_timers (g : Nat) (f : Link → Link) (d : Dev) : (modLink g f d).timers = d.timers := rfl
@[simp] theorem modLink_freeCount (g : Nat) (f : Link → Link) (d : Dev) : (modLink g f d).freeCount = d.freeCount := rfl
@[simp] theorem modLink_masters (g : Nat) (f : Link → Link) (d : Dev) : (modLink g f d).masters = d.masters := rfl
@[simp] theorem modLink_waiting (g : Nat) (f : Link → Link) (d : Dev) : (modLink g f d).waiting = d.waiting := rfl
@[simp] theorem modLink_jobs (g : Nat) (f : Link → Link) (d : Dev) : (modLink g f d).jobs = d.jobs := rfl
@[simp] theorem modLink_held (g : Nat) (f : Link → Link) (d : Dev) : (modLink g f d).held = d.held := rfl
@[simp] theorem modLink_nextOrder (g : Nat) (f : Link → Link) (d : Dev) : (modLink g f d).nextOrder = d.nextOrder := rfl
@[simp] theorem modLink_vertex (g : Nat) (f : Link → Link) (d : Dev) : (modLink g f d).vertex = d.vertex := rfl
@[simp] theorem modLink_handover (g : Nat) (f : Link → Link) (d : Dev) : (modLink g f d).handover = d.handover := rfl
@[simp] theorem modLink_phase (g : Nat) (f : Link → Link) (d : Dev) : (modLink g f d).phase = d.phase := rfl
@[simp] theorem modLink_brownout (g : Nat) (f : Link → Link) (d : Dev) : (modLink g f d).brownout = d.brownout := rfl
@[simp] theorem modLink_startOwed (g : Nat) (f : Link → Link) (d : Dev) : (modLink g f d).startOwed = d.startOwed := rfl
@[simp] theorem modLink_ports (g : Nat) (f : Link → Link) (d : Dev) : (modLink g f d).ports = d.ports := rfl
@[simp] theorem modLink_prisms (g : Nat) (f : Link → Link) (d : Dev) : (modLink g f d).prisms = d.prisms := rfl
@[simp] theorem modLink_multi (g : Nat) (f : Link → Link) (d : Dev) : (modLink g f d).multi = d.multi := rfl
@[simp] theorem modLink_msgId (g : Nat) (f : Link → Link) (d : Dev) : (modLink g f d).msgId = d.msgId := rfl
@[simp] theorem modLink_msgOrder (g : Nat) (f : Link → Link) (d : Dev) : (modLink g f d).msgOrder = d.msgOrder := rfl
@[simp] theorem modLink_snapshots (g : Nat) (f : Link → Link) (d : Dev) : (modLink g f d).snapshots = d.snapshots := rfl
@[simp] theorem modLink_chords (g : Nat) (f : Link → Link) (d : Dev) : (modLink g f d).chords = d.chords := rfl
@[simp] theorem modLink_lanes (g : Nat) (f : Link → Link) (d : Dev) : (modLink g f d).lanes = d.lanes := rfl
@[simp] theorem modLink_flows (g : Nat) (f : Link → Link) (d : Dev) : (modLink g f d).flows = d.flows := rfl
@[simp] theorem modLink_sources (g : Nat) (f : Link → Link) (d : Dev) : (modLink g f d).sources = d.sources := rfl
@[simp] theorem modLink_accepted (g : Nat) (f : Link → Link) (d : Dev) : (modLink g f d).accepted = d.accepted := rfl
@[simp] theorem modLink_egress (g : Nat) (f : Link → Link) (d : Dev) : (modLink g f d).egress = d.egress := rfl
@[simp] theorem modLink_faults (g : Nat) (f : Link → Link) (d : Dev) : (modLink g f d).faults = d.faults := rfl
@[simp] theorem modLink_bist (g : Nat) (f : Link → Link) (d : Dev) : (modLink g f d).bist = d.bist := rfl
@[simp] theorem modLink_power (g : Nat) (f : Link → Link) (d : Dev) : (modLink g f d).power = d.power := rfl
@[simp] theorem modLink_clashed (g : Nat) (f : Link → Link) (d : Dev) : (modLink g f d).clashed = d.clashed := rfl
@[simp] theorem modLink_cal (g : Nat) (f : Link → Link) (d : Dev) : (modLink g f d).cal = d.cal := rfl
@[simp] theorem modLink_scans (g : Nat) (f : Link → Link) (d : Dev) : (modLink g f d).scans = d.scans := rfl
@[simp] theorem modLink_life (g : Nat) (f : Link → Link) (d : Dev) : (modLink g f d).life = d.life := rfl
@[simp] theorem modLink_time (g : Nat) (f : Link → Link) (d : Dev) : (modLink g f d).time = d.time := rfl
@[simp] theorem modLink_wear (g : Nat) (f : Link → Link) (d : Dev) : (modLink g f d).wear = d.wear := rfl
@[simp] theorem modLink_aged (g : Nat) (f : Link → Link) (d : Dev) : (modLink g f d).aged = d.aged := rfl
@[simp] theorem modLink_hot (g : Nat) (f : Link → Link) (d : Dev) : (modLink g f d).hot = d.hot := rfl
@[simp] theorem modLink_tooHot (g : Nat) (f : Link → Link) (d : Dev) : (modLink g f d).tooHot = d.tooHot := rfl
@[simp] theorem modLink_shares (g : Nat) (f : Link → Link) (d : Dev) : (modLink g f d).shares = d.shares := rfl
@[simp] theorem modLink_strobe (g : Nat) (f : Link → Link) (d : Dev) : (modLink g f d).strobe = d.strobe := rfl
@[simp] theorem modLink_sawCoreOff (g : Nat) (f : Link → Link) (d : Dev) : (modLink g f d).sawCoreOff = d.sawCoreOff := rfl
@[simp] theorem modLink_sawResetN (g : Nat) (f : Link → Link) (d : Dev) : (modLink g f d).sawResetN = d.sawResetN := rfl
@[simp] theorem modLink_sawRail (g : Nat) (f : Link → Link) (d : Dev) : (modLink g f d).sawRail = d.sawRail := rfl
@[simp] theorem modLink_railsDown (g : Nat) (f : Link → Link) (d : Dev) : (modLink g f d).railsDown = d.railsDown := rfl
@[simp] theorem modLink_resetLow (g : Nat) (f : Link → Link) (d : Dev) : (modLink g f d).resetLow = d.resetLow := rfl
@[simp] theorem modLink_resuming (g : Nat) (f : Link → Link) (d : Dev) : (modLink g f d).resuming = d.resuming := rfl

@[simp] theorem modLane_attrs (l : Nat) (f : LaneRun → LaneRun) (d : Dev) : (modLane l f d).attrs = d.attrs := rfl
@[simp] theorem modLane_blocks (l : Nat) (f : LaneRun → LaneRun) (d : Dev) : (modLane l f d).blocks = d.blocks := rfl
@[simp] theorem modLane_elapsed (l : Nat) (f : LaneRun → LaneRun) (d : Dev) : (modLane l f d).elapsed = d.elapsed := rfl
@[simp] theorem modLane_devTime (l : Nat) (f : LaneRun → LaneRun) (d : Dev) : (modLane l f d).devTime = d.devTime := rfl
@[simp] theorem modLane_timers (l : Nat) (f : LaneRun → LaneRun) (d : Dev) : (modLane l f d).timers = d.timers := rfl
@[simp] theorem modLane_freeCount (l : Nat) (f : LaneRun → LaneRun) (d : Dev) : (modLane l f d).freeCount = d.freeCount := rfl
@[simp] theorem modLane_masters (l : Nat) (f : LaneRun → LaneRun) (d : Dev) : (modLane l f d).masters = d.masters := rfl
@[simp] theorem modLane_waiting (l : Nat) (f : LaneRun → LaneRun) (d : Dev) : (modLane l f d).waiting = d.waiting := rfl
@[simp] theorem modLane_jobs (l : Nat) (f : LaneRun → LaneRun) (d : Dev) : (modLane l f d).jobs = d.jobs := rfl
@[simp] theorem modLane_held (l : Nat) (f : LaneRun → LaneRun) (d : Dev) : (modLane l f d).held = d.held := rfl
@[simp] theorem modLane_nextOrder (l : Nat) (f : LaneRun → LaneRun) (d : Dev) : (modLane l f d).nextOrder = d.nextOrder := rfl
@[simp] theorem modLane_vertex (l : Nat) (f : LaneRun → LaneRun) (d : Dev) : (modLane l f d).vertex = d.vertex := rfl
@[simp] theorem modLane_handover (l : Nat) (f : LaneRun → LaneRun) (d : Dev) : (modLane l f d).handover = d.handover := rfl
@[simp] theorem modLane_phase (l : Nat) (f : LaneRun → LaneRun) (d : Dev) : (modLane l f d).phase = d.phase := rfl
@[simp] theorem modLane_brownout (l : Nat) (f : LaneRun → LaneRun) (d : Dev) : (modLane l f d).brownout = d.brownout := rfl
@[simp] theorem modLane_startOwed (l : Nat) (f : LaneRun → LaneRun) (d : Dev) : (modLane l f d).startOwed = d.startOwed := rfl
@[simp] theorem modLane_ports (l : Nat) (f : LaneRun → LaneRun) (d : Dev) : (modLane l f d).ports = d.ports := rfl
@[simp] theorem modLane_prisms (l : Nat) (f : LaneRun → LaneRun) (d : Dev) : (modLane l f d).prisms = d.prisms := rfl
@[simp] theorem modLane_multi (l : Nat) (f : LaneRun → LaneRun) (d : Dev) : (modLane l f d).multi = d.multi := rfl
@[simp] theorem modLane_msgId (l : Nat) (f : LaneRun → LaneRun) (d : Dev) : (modLane l f d).msgId = d.msgId := rfl
@[simp] theorem modLane_msgOrder (l : Nat) (f : LaneRun → LaneRun) (d : Dev) : (modLane l f d).msgOrder = d.msgOrder := rfl
@[simp] theorem modLane_snapshots (l : Nat) (f : LaneRun → LaneRun) (d : Dev) : (modLane l f d).snapshots = d.snapshots := rfl
@[simp] theorem modLane_chords (l : Nat) (f : LaneRun → LaneRun) (d : Dev) : (modLane l f d).chords = d.chords := rfl
@[simp] theorem modLane_links (l : Nat) (f : LaneRun → LaneRun) (d : Dev) : (modLane l f d).links = d.links := rfl
@[simp] theorem modLane_flows (l : Nat) (f : LaneRun → LaneRun) (d : Dev) : (modLane l f d).flows = d.flows := rfl
@[simp] theorem modLane_sources (l : Nat) (f : LaneRun → LaneRun) (d : Dev) : (modLane l f d).sources = d.sources := rfl
@[simp] theorem modLane_accepted (l : Nat) (f : LaneRun → LaneRun) (d : Dev) : (modLane l f d).accepted = d.accepted := rfl
@[simp] theorem modLane_egress (l : Nat) (f : LaneRun → LaneRun) (d : Dev) : (modLane l f d).egress = d.egress := rfl
@[simp] theorem modLane_faults (l : Nat) (f : LaneRun → LaneRun) (d : Dev) : (modLane l f d).faults = d.faults := rfl
@[simp] theorem modLane_bist (l : Nat) (f : LaneRun → LaneRun) (d : Dev) : (modLane l f d).bist = d.bist := rfl
@[simp] theorem modLane_power (l : Nat) (f : LaneRun → LaneRun) (d : Dev) : (modLane l f d).power = d.power := rfl
@[simp] theorem modLane_clashed (l : Nat) (f : LaneRun → LaneRun) (d : Dev) : (modLane l f d).clashed = d.clashed := rfl
@[simp] theorem modLane_cal (l : Nat) (f : LaneRun → LaneRun) (d : Dev) : (modLane l f d).cal = d.cal := rfl
@[simp] theorem modLane_scans (l : Nat) (f : LaneRun → LaneRun) (d : Dev) : (modLane l f d).scans = d.scans := rfl
@[simp] theorem modLane_life (l : Nat) (f : LaneRun → LaneRun) (d : Dev) : (modLane l f d).life = d.life := rfl
@[simp] theorem modLane_time (l : Nat) (f : LaneRun → LaneRun) (d : Dev) : (modLane l f d).time = d.time := rfl
@[simp] theorem modLane_wear (l : Nat) (f : LaneRun → LaneRun) (d : Dev) : (modLane l f d).wear = d.wear := rfl
@[simp] theorem modLane_aged (l : Nat) (f : LaneRun → LaneRun) (d : Dev) : (modLane l f d).aged = d.aged := rfl
@[simp] theorem modLane_hot (l : Nat) (f : LaneRun → LaneRun) (d : Dev) : (modLane l f d).hot = d.hot := rfl
@[simp] theorem modLane_tooHot (l : Nat) (f : LaneRun → LaneRun) (d : Dev) : (modLane l f d).tooHot = d.tooHot := rfl
@[simp] theorem modLane_shares (l : Nat) (f : LaneRun → LaneRun) (d : Dev) : (modLane l f d).shares = d.shares := rfl
@[simp] theorem modLane_strobe (l : Nat) (f : LaneRun → LaneRun) (d : Dev) : (modLane l f d).strobe = d.strobe := rfl
@[simp] theorem modLane_sawCoreOff (l : Nat) (f : LaneRun → LaneRun) (d : Dev) : (modLane l f d).sawCoreOff = d.sawCoreOff := rfl
@[simp] theorem modLane_sawResetN (l : Nat) (f : LaneRun → LaneRun) (d : Dev) : (modLane l f d).sawResetN = d.sawResetN := rfl
@[simp] theorem modLane_sawRail (l : Nat) (f : LaneRun → LaneRun) (d : Dev) : (modLane l f d).sawRail = d.sawRail := rfl
@[simp] theorem modLane_railsDown (l : Nat) (f : LaneRun → LaneRun) (d : Dev) : (modLane l f d).railsDown = d.railsDown := rfl
@[simp] theorem modLane_resetLow (l : Nat) (f : LaneRun → LaneRun) (d : Dev) : (modLane l f d).resetLow = d.resetLow := rfl
@[simp] theorem modLane_resuming (l : Nat) (f : LaneRun → LaneRun) (d : Dev) : (modLane l f d).resuming = d.resuming := rfl

@[simp] theorem modFlow_attrs (n : Nat) (f : FlowRun → FlowRun) (d : Dev) : (modFlow n f d).attrs = d.attrs := rfl
@[simp] theorem modFlow_blocks (n : Nat) (f : FlowRun → FlowRun) (d : Dev) : (modFlow n f d).blocks = d.blocks := rfl
@[simp] theorem modFlow_elapsed (n : Nat) (f : FlowRun → FlowRun) (d : Dev) : (modFlow n f d).elapsed = d.elapsed := rfl
@[simp] theorem modFlow_devTime (n : Nat) (f : FlowRun → FlowRun) (d : Dev) : (modFlow n f d).devTime = d.devTime := rfl
@[simp] theorem modFlow_timers (n : Nat) (f : FlowRun → FlowRun) (d : Dev) : (modFlow n f d).timers = d.timers := rfl
@[simp] theorem modFlow_freeCount (n : Nat) (f : FlowRun → FlowRun) (d : Dev) : (modFlow n f d).freeCount = d.freeCount := rfl
@[simp] theorem modFlow_masters (n : Nat) (f : FlowRun → FlowRun) (d : Dev) : (modFlow n f d).masters = d.masters := rfl
@[simp] theorem modFlow_waiting (n : Nat) (f : FlowRun → FlowRun) (d : Dev) : (modFlow n f d).waiting = d.waiting := rfl
@[simp] theorem modFlow_jobs (n : Nat) (f : FlowRun → FlowRun) (d : Dev) : (modFlow n f d).jobs = d.jobs := rfl
@[simp] theorem modFlow_held (n : Nat) (f : FlowRun → FlowRun) (d : Dev) : (modFlow n f d).held = d.held := rfl
@[simp] theorem modFlow_nextOrder (n : Nat) (f : FlowRun → FlowRun) (d : Dev) : (modFlow n f d).nextOrder = d.nextOrder := rfl
@[simp] theorem modFlow_vertex (n : Nat) (f : FlowRun → FlowRun) (d : Dev) : (modFlow n f d).vertex = d.vertex := rfl
@[simp] theorem modFlow_handover (n : Nat) (f : FlowRun → FlowRun) (d : Dev) : (modFlow n f d).handover = d.handover := rfl
@[simp] theorem modFlow_phase (n : Nat) (f : FlowRun → FlowRun) (d : Dev) : (modFlow n f d).phase = d.phase := rfl
@[simp] theorem modFlow_brownout (n : Nat) (f : FlowRun → FlowRun) (d : Dev) : (modFlow n f d).brownout = d.brownout := rfl
@[simp] theorem modFlow_startOwed (n : Nat) (f : FlowRun → FlowRun) (d : Dev) : (modFlow n f d).startOwed = d.startOwed := rfl
@[simp] theorem modFlow_ports (n : Nat) (f : FlowRun → FlowRun) (d : Dev) : (modFlow n f d).ports = d.ports := rfl
@[simp] theorem modFlow_prisms (n : Nat) (f : FlowRun → FlowRun) (d : Dev) : (modFlow n f d).prisms = d.prisms := rfl
@[simp] theorem modFlow_multi (n : Nat) (f : FlowRun → FlowRun) (d : Dev) : (modFlow n f d).multi = d.multi := rfl
@[simp] theorem modFlow_msgId (n : Nat) (f : FlowRun → FlowRun) (d : Dev) : (modFlow n f d).msgId = d.msgId := rfl
@[simp] theorem modFlow_msgOrder (n : Nat) (f : FlowRun → FlowRun) (d : Dev) : (modFlow n f d).msgOrder = d.msgOrder := rfl
@[simp] theorem modFlow_snapshots (n : Nat) (f : FlowRun → FlowRun) (d : Dev) : (modFlow n f d).snapshots = d.snapshots := rfl
@[simp] theorem modFlow_chords (n : Nat) (f : FlowRun → FlowRun) (d : Dev) : (modFlow n f d).chords = d.chords := rfl
@[simp] theorem modFlow_links (n : Nat) (f : FlowRun → FlowRun) (d : Dev) : (modFlow n f d).links = d.links := rfl
@[simp] theorem modFlow_lanes (n : Nat) (f : FlowRun → FlowRun) (d : Dev) : (modFlow n f d).lanes = d.lanes := rfl
@[simp] theorem modFlow_sources (n : Nat) (f : FlowRun → FlowRun) (d : Dev) : (modFlow n f d).sources = d.sources := rfl
@[simp] theorem modFlow_accepted (n : Nat) (f : FlowRun → FlowRun) (d : Dev) : (modFlow n f d).accepted = d.accepted := rfl
@[simp] theorem modFlow_egress (n : Nat) (f : FlowRun → FlowRun) (d : Dev) : (modFlow n f d).egress = d.egress := rfl
@[simp] theorem modFlow_faults (n : Nat) (f : FlowRun → FlowRun) (d : Dev) : (modFlow n f d).faults = d.faults := rfl
@[simp] theorem modFlow_bist (n : Nat) (f : FlowRun → FlowRun) (d : Dev) : (modFlow n f d).bist = d.bist := rfl
@[simp] theorem modFlow_power (n : Nat) (f : FlowRun → FlowRun) (d : Dev) : (modFlow n f d).power = d.power := rfl
@[simp] theorem modFlow_clashed (n : Nat) (f : FlowRun → FlowRun) (d : Dev) : (modFlow n f d).clashed = d.clashed := rfl
@[simp] theorem modFlow_cal (n : Nat) (f : FlowRun → FlowRun) (d : Dev) : (modFlow n f d).cal = d.cal := rfl
@[simp] theorem modFlow_scans (n : Nat) (f : FlowRun → FlowRun) (d : Dev) : (modFlow n f d).scans = d.scans := rfl
@[simp] theorem modFlow_life (n : Nat) (f : FlowRun → FlowRun) (d : Dev) : (modFlow n f d).life = d.life := rfl
@[simp] theorem modFlow_time (n : Nat) (f : FlowRun → FlowRun) (d : Dev) : (modFlow n f d).time = d.time := rfl
@[simp] theorem modFlow_wear (n : Nat) (f : FlowRun → FlowRun) (d : Dev) : (modFlow n f d).wear = d.wear := rfl
@[simp] theorem modFlow_aged (n : Nat) (f : FlowRun → FlowRun) (d : Dev) : (modFlow n f d).aged = d.aged := rfl
@[simp] theorem modFlow_hot (n : Nat) (f : FlowRun → FlowRun) (d : Dev) : (modFlow n f d).hot = d.hot := rfl
@[simp] theorem modFlow_tooHot (n : Nat) (f : FlowRun → FlowRun) (d : Dev) : (modFlow n f d).tooHot = d.tooHot := rfl
@[simp] theorem modFlow_shares (n : Nat) (f : FlowRun → FlowRun) (d : Dev) : (modFlow n f d).shares = d.shares := rfl
@[simp] theorem modFlow_strobe (n : Nat) (f : FlowRun → FlowRun) (d : Dev) : (modFlow n f d).strobe = d.strobe := rfl
@[simp] theorem modFlow_sawCoreOff (n : Nat) (f : FlowRun → FlowRun) (d : Dev) : (modFlow n f d).sawCoreOff = d.sawCoreOff := rfl
@[simp] theorem modFlow_sawResetN (n : Nat) (f : FlowRun → FlowRun) (d : Dev) : (modFlow n f d).sawResetN = d.sawResetN := rfl
@[simp] theorem modFlow_sawRail (n : Nat) (f : FlowRun → FlowRun) (d : Dev) : (modFlow n f d).sawRail = d.sawRail := rfl
@[simp] theorem modFlow_railsDown (n : Nat) (f : FlowRun → FlowRun) (d : Dev) : (modFlow n f d).railsDown = d.railsDown := rfl
@[simp] theorem modFlow_resetLow (n : Nat) (f : FlowRun → FlowRun) (d : Dev) : (modFlow n f d).resetLow = d.resetLow := rfl
@[simp] theorem modFlow_resuming (n : Nat) (f : FlowRun → FlowRun) (d : Dev) : (modFlow n f d).resuming = d.resuming := rfl

/-! ### Attributes -/

theorem attrKey_inj {a b : Attr} {i j : Nat} (ha : a.code < 2 ^ 24) (hb : b.code < 2 ^ 24) (h : attrKey a i = attrKey b j) :
    i = j ∧ a.code = b.code := by
  unfold attrKey at h; omega

/-- The value written, cut to the attribute's width. -/
@[simp] theorem attr_setAttr (a : Attr) (i v : Nat) (d : Dev) : attr (setAttr a i v d) a i = v % 2 ^ a.width := by
  simp [attr, setAttr]

/-- Another attribute is left alone. -/
theorem attr_setAttr_ne {a b : Attr} (i v j : Nat) (d : Dev) (h : b.code ≠ a.code) (ha : a.code < 2 ^ 24) (hb : b.code < 2 ^ 24) :
    attr (setAttr a i v d) b j = attr d b j := by
  unfold attr setAttr
  exact bankGet_put_ne' (a.reset i) (b.reset j) d.attrs _ fun e => h (attrKey_inj hb ha e).2

/-- Another instance is left alone. -/
theorem attr_setAttr_inst (a : Attr) {i j : Nat} (v : Nat) (d : Dev) (h : j ≠ i) : attr (setAttr a i v d) a j = attr d a j := by
  unfold attr setAttr
  refine bankGet_put_ne' (a.reset i) (a.reset j) d.attrs _ fun e => h ?_
  unfold attrKey at e; omega

/-- An attribute is read from the table of attributes alone. -/
theorem attr_congr {d e : Dev} (h : e.attrs = d.attrs) (a : Attr) (i : Nat) : attr e a i = attr d a i := by simp [attr, h]

/-! ### Units -/

@[simp] theorem master_setMaster (m : Nat) (x : Master) (d : Dev) : master (setMaster m x d) m = x := by simp [master, setMaster]

theorem master_setMaster_ne {m n : Nat} (x : Master) (d : Dev) (h : n ≠ m) : master (setMaster m x d) n = master d n := bankGet_put_ne _ _ _ h

@[simp] theorem port_setPort (p : Nat) (x : Port) (d : Dev) : port (setPort p x d) p = x := by simp [port, setPort]

theorem port_setPort_ne {p q : Nat} (x : Port) (d : Dev) (h : q ≠ p) : port (setPort p x d) q = port d q := bankGet_put_ne _ _ _ h

@[simp] theorem link_modLink (g : Nat) (f : Link → Link) (d : Dev) : link (modLink g f d) g = f (link d g) := by simp [link, modLink]

theorem link_modLink_ne {g h : Nat} (f : Link → Link) (d : Dev) (n : h ≠ g) : link (modLink g f d) h = link d h := bankGet_put_ne _ _ _ n

@[simp] theorem lane_modLane (l : Nat) (f : LaneRun → LaneRun) (d : Dev) : lane (modLane l f d) l = f (lane d l) := by simp [lane, modLane]

theorem lane_modLane_ne {l k : Nat} (f : LaneRun → LaneRun) (d : Dev) (n : k ≠ l) : lane (modLane l f d) k = lane d k := bankGet_put_ne _ _ _ n

@[simp] theorem flow_modFlow (n : Nat) (f : FlowRun → FlowRun) (d : Dev) : flow (modFlow n f d) n = f (flow d n) := by simp [flow, modFlow]

/-! ### Time limits -/

theorem timerKey_inj {k l i j : Nat} (hi : i < 2 ^ 24) (hj : j < 2 ^ 24) (h : timerKey k i = timerKey l j) : k = l ∧ i = j := by
  unfold timerKey at h; omega

@[simp] theorem armed_arm (k i ns : Nat) (d : Dev) : armed (arm k i ns d) k i = true := by simp [armed, arm]

@[simp] theorem armed_disarm (k i : Nat) (d : Dev) : armed (disarm k i d) k i = false := by simp [armed, disarm]

@[simp] theorem due_disarm (k i : Nat) (d : Dev) : due (disarm k i d) k i = false := by simp [due]

end Sys2Proof.Machine
end

