-- ==== Sys2Proof/Laws/Updates.lean ====
section
/-! SUPPORT. Laws/Updates.lean: what each update of a prism, of a hub source, of a part of a port, or of a unit of its own leaves alone,
field by field, and what it makes of its own part. -/

namespace Sys2Proof.Machine


@[simp] theorem modPrism_attrs (m : Nat) (f : Prism → Prism) (d : Dev) : (modPrism m f d).attrs = d.attrs := rfl
@[simp] theorem modPrism_blocks (m : Nat) (f : Prism → Prism) (d : Dev) : (modPrism m f d).blocks = d.blocks := rfl
@[simp] theorem modPrism_elapsed (m : Nat) (f : Prism → Prism) (d : Dev) : (modPrism m f d).elapsed = d.elapsed := rfl
@[simp] theorem modPrism_devTime (m : Nat) (f : Prism → Prism) (d : Dev) : (modPrism m f d).devTime = d.devTime := rfl
@[simp] theorem modPrism_timers (m : Nat) (f : Prism → Prism) (d : Dev) : (modPrism m f d).timers = d.timers := rfl
@[simp] theorem modPrism_freeCount (m : Nat) (f : Prism → Prism) (d : Dev) : (modPrism m f d).freeCount = d.freeCount := rfl
@[simp] theorem modPrism_masters (m : Nat) (f : Prism → Prism) (d : Dev) : (modPrism m f d).masters = d.masters := rfl
@[simp] theorem modPrism_waiting (m : Nat) (f : Prism → Prism) (d : Dev) : (modPrism m f d).waiting = d.waiting := rfl
@[simp] theorem modPrism_jobs (m : Nat) (f : Prism → Prism) (d : Dev) : (modPrism m f d).jobs = d.jobs := rfl
@[simp] theorem modPrism_held (m : Nat) (f : Prism → Prism) (d : Dev) : (modPrism m f d).held = d.held := rfl
@[simp] theorem modPrism_nextOrder (m : Nat) (f : Prism → Prism) (d : Dev) : (modPrism m f d).nextOrder = d.nextOrder := rfl
@[simp] theorem modPrism_vertex (m : Nat) (f : Prism → Prism) (d : Dev) : (modPrism m f d).vertex = d.vertex := rfl
@[simp] theorem modPrism_handover (m : Nat) (f : Prism → Prism) (d : Dev) : (modPrism m f d).handover = d.handover := rfl
@[simp] theorem modPrism_phase (m : Nat) (f : Prism → Prism) (d : Dev) : (modPrism m f d).phase = d.phase := rfl
@[simp] theorem modPrism_brownout (m : Nat) (f : Prism → Prism) (d : Dev) : (modPrism m f d).brownout = d.brownout := rfl
@[simp] theorem modPrism_startOwed (m : Nat) (f : Prism → Prism) (d : Dev) : (modPrism m f d).startOwed = d.startOwed := rfl
@[simp] theorem modPrism_ports (m : Nat) (f : Prism → Prism) (d : Dev) : (modPrism m f d).ports = d.ports := rfl
@[simp] theorem modPrism_multi (m : Nat) (f : Prism → Prism) (d : Dev) : (modPrism m f d).multi = d.multi := rfl
@[simp] theorem modPrism_msgId (m : Nat) (f : Prism → Prism) (d : Dev) : (modPrism m f d).msgId = d.msgId := rfl
@[simp] theorem modPrism_msgOrder (m : Nat) (f : Prism → Prism) (d : Dev) : (modPrism m f d).msgOrder = d.msgOrder := rfl
@[simp] theorem modPrism_snapshots (m : Nat) (f : Prism → Prism) (d : Dev) : (modPrism m f d).snapshots = d.snapshots := rfl
@[simp] theorem modPrism_chords (m : Nat) (f : Prism → Prism) (d : Dev) : (modPrism m f d).chords = d.chords := rfl
@[simp] theorem modPrism_links (m : Nat) (f : Prism → Prism) (d : Dev) : (modPrism m f d).links = d.links := rfl
@[simp] theorem modPrism_lanes (m : Nat) (f : Prism → Prism) (d : Dev) : (modPrism m f d).lanes = d.lanes := rfl
@[simp] theorem modPrism_flows (m : Nat) (f : Prism → Prism) (d : Dev) : (modPrism m f d).flows = d.flows := rfl
@[simp] theorem modPrism_sources (m : Nat) (f : Prism → Prism) (d : Dev) : (modPrism m f d).sources = d.sources := rfl
@[simp] theorem modPrism_accepted (m : Nat) (f : Prism → Prism) (d : Dev) : (modPrism m f d).accepted = d.accepted := rfl
@[simp] theorem modPrism_egress (m : Nat) (f : Prism → Prism) (d : Dev) : (modPrism m f d).egress = d.egress := rfl
@[simp] theorem modPrism_faults (m : Nat) (f : Prism → Prism) (d : Dev) : (modPrism m f d).faults = d.faults := rfl
@[simp] theorem modPrism_bist (m : Nat) (f : Prism → Prism) (d : Dev) : (modPrism m f d).bist = d.bist := rfl
@[simp] theorem modPrism_power (m : Nat) (f : Prism → Prism) (d : Dev) : (modPrism m f d).power = d.power := rfl
@[simp] theorem modPrism_clashed (m : Nat) (f : Prism → Prism) (d : Dev) : (modPrism m f d).clashed = d.clashed := rfl
@[simp] theorem modPrism_cal (m : Nat) (f : Prism → Prism) (d : Dev) : (modPrism m f d).cal = d.cal := rfl
@[simp] theorem modPrism_scans (m : Nat) (f : Prism → Prism) (d : Dev) : (modPrism m f d).scans = d.scans := rfl
@[simp] theorem modPrism_life (m : Nat) (f : Prism → Prism) (d : Dev) : (modPrism m f d).life = d.life := rfl
@[simp] theorem modPrism_time (m : Nat) (f : Prism → Prism) (d : Dev) : (modPrism m f d).time = d.time := rfl
@[simp] theorem modPrism_wear (m : Nat) (f : Prism → Prism) (d : Dev) : (modPrism m f d).wear = d.wear := rfl
@[simp] theorem modPrism_aged (m : Nat) (f : Prism → Prism) (d : Dev) : (modPrism m f d).aged = d.aged := rfl
@[simp] theorem modPrism_hot (m : Nat) (f : Prism → Prism) (d : Dev) : (modPrism m f d).hot = d.hot := rfl
@[simp] theorem modPrism_tooHot (m : Nat) (f : Prism → Prism) (d : Dev) : (modPrism m f d).tooHot = d.tooHot := rfl
@[simp] theorem modPrism_shares (m : Nat) (f : Prism → Prism) (d : Dev) : (modPrism m f d).shares = d.shares := rfl
@[simp] theorem modPrism_strobe (m : Nat) (f : Prism → Prism) (d : Dev) : (modPrism m f d).strobe = d.strobe := rfl
@[simp] theorem modPrism_sawCoreOff (m : Nat) (f : Prism → Prism) (d : Dev) : (modPrism m f d).sawCoreOff = d.sawCoreOff := rfl
@[simp] theorem modPrism_sawResetN (m : Nat) (f : Prism → Prism) (d : Dev) : (modPrism m f d).sawResetN = d.sawResetN := rfl
@[simp] theorem modPrism_sawRail (m : Nat) (f : Prism → Prism) (d : Dev) : (modPrism m f d).sawRail = d.sawRail := rfl
@[simp] theorem modPrism_railsDown (m : Nat) (f : Prism → Prism) (d : Dev) : (modPrism m f d).railsDown = d.railsDown := rfl
@[simp] theorem modPrism_resetLow (m : Nat) (f : Prism → Prism) (d : Dev) : (modPrism m f d).resetLow = d.resetLow := rfl
@[simp] theorem modPrism_resuming (m : Nat) (f : Prism → Prism) (d : Dev) : (modPrism m f d).resuming = d.resuming := rfl

@[simp] theorem modSource_attrs (n : Nat) (f : HubSource → HubSource) (d : Dev) : (modSource n f d).attrs = d.attrs := rfl
@[simp] theorem modSource_blocks (n : Nat) (f : HubSource → HubSource) (d : Dev) : (modSource n f d).blocks = d.blocks := rfl
@[simp] theorem modSource_elapsed (n : Nat) (f : HubSource → HubSource) (d : Dev) : (modSource n f d).elapsed = d.elapsed := rfl
@[simp] theorem modSource_devTime (n : Nat) (f : HubSource → HubSource) (d : Dev) : (modSource n f d).devTime = d.devTime := rfl
@[simp] theorem modSource_timers (n : Nat) (f : HubSource → HubSource) (d : Dev) : (modSource n f d).timers = d.timers := rfl
@[simp] theorem modSource_freeCount (n : Nat) (f : HubSource → HubSource) (d : Dev) : (modSource n f d).freeCount = d.freeCount := rfl
@[simp] theorem modSource_masters (n : Nat) (f : HubSource → HubSource) (d : Dev) : (modSource n f d).masters = d.masters := rfl
@[simp] theorem modSource_waiting (n : Nat) (f : HubSource → HubSource) (d : Dev) : (modSource n f d).waiting = d.waiting := rfl
@[simp] theorem modSource_jobs (n : Nat) (f : HubSource → HubSource) (d : Dev) : (modSource n f d).jobs = d.jobs := rfl
@[simp] theorem modSource_held (n : Nat) (f : HubSource → HubSource) (d : Dev) : (modSource n f d).held = d.held := rfl
@[simp] theorem modSource_nextOrder (n : Nat) (f : HubSource → HubSource) (d : Dev) : (modSource n f d).nextOrder = d.nextOrder := rfl
@[simp] theorem modSource_vertex (n : Nat) (f : HubSource → HubSource) (d : Dev) : (modSource n f d).vertex = d.vertex := rfl
@[simp] theorem modSource_handover (n : Nat) (f : HubSource → HubSource) (d : Dev) : (modSource n f d).handover = d.handover := rfl
@[simp] theorem modSource_phase (n : Nat) (f : HubSource → HubSource) (d : Dev) : (modSource n f d).phase = d.phase := rfl
@[simp] theorem modSource_brownout (n : Nat) (f : HubSource → HubSource) (d : Dev) : (modSource n f d).brownout = d.brownout := rfl
@[simp] theorem modSource_startOwed (n : Nat) (f : HubSource → HubSource) (d : Dev) : (modSource n f d).startOwed = d.startOwed := rfl
@[simp] theorem modSource_ports (n : Nat) (f : HubSource → HubSource) (d : Dev) : (modSource n f d).ports = d.ports := rfl
@[simp] theorem modSource_prisms (n : Nat) (f : HubSource → HubSource) (d : Dev) : (modSource n f d).prisms = d.prisms := rfl
@[simp] theorem modSource_multi (n : Nat) (f : HubSource → HubSource) (d : Dev) : (modSource n f d).multi = d.multi := rfl
@[simp] theorem modSource_msgId (n : Nat) (f : HubSource → HubSource) (d : Dev) : (modSource n f d).msgId = d.msgId := rfl
@[simp] theorem modSource_msgOrder (n : Nat) (f : HubSource → HubSource) (d : Dev) : (modSource n f d).msgOrder = d.msgOrder := rfl
@[simp] theorem modSource_snapshots (n : Nat) (f : HubSource → HubSource) (d : Dev) : (modSource n f d).snapshots = d.snapshots := rfl
@[simp] theorem modSource_chords (n : Nat) (f : HubSource → HubSource) (d : Dev) : (modSource n f d).chords = d.chords := rfl
@[simp] theorem modSource_links (n : Nat) (f : HubSource → HubSource) (d : Dev) : (modSource n f d).links = d.links := rfl
@[simp] theorem modSource_lanes (n : Nat) (f : HubSource → HubSource) (d : Dev) : (modSource n f d).lanes = d.lanes := rfl
@[simp] theorem modSource_flows (n : Nat) (f : HubSource → HubSource) (d : Dev) : (modSource n f d).flows = d.flows := rfl
@[simp] theorem modSource_accepted (n : Nat) (f : HubSource → HubSource) (d : Dev) : (modSource n f d).accepted = d.accepted := rfl
@[simp] theorem modSource_egress (n : Nat) (f : HubSource → HubSource) (d : Dev) : (modSource n f d).egress = d.egress := rfl
@[simp] theorem modSource_faults (n : Nat) (f : HubSource → HubSource) (d : Dev) : (modSource n f d).faults = d.faults := rfl
@[simp] theorem modSource_bist (n : Nat) (f : HubSource → HubSource) (d : Dev) : (modSource n f d).bist = d.bist := rfl
@[simp] theorem modSource_power (n : Nat) (f : HubSource → HubSource) (d : Dev) : (modSource n f d).power = d.power := rfl
@[simp] theorem modSource_clashed (n : Nat) (f : HubSource → HubSource) (d : Dev) : (modSource n f d).clashed = d.clashed := rfl
@[simp] theorem modSource_cal (n : Nat) (f : HubSource → HubSource) (d : Dev) : (modSource n f d).cal = d.cal := rfl
@[simp] theorem modSource_scans (n : Nat) (f : HubSource → HubSource) (d : Dev) : (modSource n f d).scans = d.scans := rfl
@[simp] theorem modSource_life (n : Nat) (f : HubSource → HubSource) (d : Dev) : (modSource n f d).life = d.life := rfl
@[simp] theorem modSource_time (n : Nat) (f : HubSource → HubSource) (d : Dev) : (modSource n f d).time = d.time := rfl
@[simp] theorem modSource_wear (n : Nat) (f : HubSource → HubSource) (d : Dev) : (modSource n f d).wear = d.wear := rfl
@[simp] theorem modSource_aged (n : Nat) (f : HubSource → HubSource) (d : Dev) : (modSource n f d).aged = d.aged := rfl
@[simp] theorem modSource_hot (n : Nat) (f : HubSource → HubSource) (d : Dev) : (modSource n f d).hot = d.hot := rfl
@[simp] theorem modSource_tooHot (n : Nat) (f : HubSource → HubSource) (d : Dev) : (modSource n f d).tooHot = d.tooHot := rfl
@[simp] theorem modSource_shares (n : Nat) (f : HubSource → HubSource) (d : Dev) : (modSource n f d).shares = d.shares := rfl
@[simp] theorem modSource_strobe (n : Nat) (f : HubSource → HubSource) (d : Dev) : (modSource n f d).strobe = d.strobe := rfl
@[simp] theorem modSource_sawCoreOff (n : Nat) (f : HubSource → HubSource) (d : Dev) : (modSource n f d).sawCoreOff = d.sawCoreOff := rfl
@[simp] theorem modSource_sawResetN (n : Nat) (f : HubSource → HubSource) (d : Dev) : (modSource n f d).sawResetN = d.sawResetN := rfl
@[simp] theorem modSource_sawRail (n : Nat) (f : HubSource → HubSource) (d : Dev) : (modSource n f d).sawRail = d.sawRail := rfl
@[simp] theorem modSource_railsDown (n : Nat) (f : HubSource → HubSource) (d : Dev) : (modSource n f d).railsDown = d.railsDown := rfl
@[simp] theorem modSource_resetLow (n : Nat) (f : HubSource → HubSource) (d : Dev) : (modSource n f d).resetLow = d.resetLow := rfl
@[simp] theorem modSource_resuming (n : Nat) (f : HubSource → HubSource) (d : Dev) : (modSource n f d).resuming = d.resuming := rfl

@[simp] theorem modFaults_attrs (f : Faults → Faults) (d : Dev) : (modFaults f d).attrs = d.attrs := rfl
@[simp] theorem modFaults_blocks (f : Faults → Faults) (d : Dev) : (modFaults f d).blocks = d.blocks := rfl
@[simp] theorem modFaults_elapsed (f : Faults → Faults) (d : Dev) : (modFaults f d).elapsed = d.elapsed := rfl
@[simp] theorem modFaults_devTime (f : Faults → Faults) (d : Dev) : (modFaults f d).devTime = d.devTime := rfl
@[simp] theorem modFaults_timers (f : Faults → Faults) (d : Dev) : (modFaults f d).timers = d.timers := rfl
@[simp] theorem modFaults_freeCount (f : Faults → Faults) (d : Dev) : (modFaults f d).freeCount = d.freeCount := rfl
@[simp] theorem modFaults_masters (f : Faults → Faults) (d : Dev) : (modFaults f d).masters = d.masters := rfl
@[simp] theorem modFaults_waiting (f : Faults → Faults) (d : Dev) : (modFaults f d).waiting = d.waiting := rfl
@[simp] theorem modFaults_jobs (f : Faults → Faults) (d : Dev) : (modFaults f d).jobs = d.jobs := rfl
@[simp] theorem modFaults_held (f : Faults → Faults) (d : Dev) : (modFaults f d).held = d.held := rfl
@[simp] theorem modFaults_nextOrder (f : Faults → Faults) (d : Dev) : (modFaults f d).nextOrder = d.nextOrder := rfl
@[simp] theorem modFaults_vertex (f : Faults → Faults) (d : Dev) : (modFaults f d).vertex = d.vertex := rfl
@[simp] theorem modFaults_handover (f : Faults → Faults) (d : Dev) : (modFaults f d).handover = d.handover := rfl
@[simp] theorem modFaults_phase (f : Faults → Faults) (d : Dev) : (modFaults f d).phase = d.phase := rfl
@[simp] theorem modFaults_brownout (f : Faults → Faults) (d : Dev) : (modFaults f d).brownout = d.brownout := rfl
@[simp] theorem modFaults_startOwed (f : Faults → Faults) (d : Dev) : (modFaults f d).startOwed = d.startOwed := rfl
@[simp] theorem modFaults_ports (f : Faults → Faults) (d : Dev) : (modFaults f d).ports = d.ports := rfl
@[simp] theorem modFaults_prisms (f : Faults → Faults) (d : Dev) : (modFaults f d).prisms = d.prisms := rfl
@[simp] theorem modFaults_multi (f : Faults → Faults) (d : Dev) : (modFaults f d).multi = d.multi := rfl
@[simp] theorem modFaults_msgId (f : Faults → Faults) (d : Dev) : (modFaults f d).msgId = d.msgId := rfl
@[simp] theorem modFaults_msgOrder (f : Faults → Faults) (d : Dev) : (modFaults f d).msgOrder = d.msgOrder := rfl
@[simp] theorem modFaults_snapshots (f : Faults → Faults) (d : Dev) : (modFaults f d).snapshots = d.snapshots := rfl
@[simp] theorem modFaults_chords (f : Faults → Faults) (d : Dev) : (modFaults f d).chords = d.chords := rfl
@[simp] theorem modFaults_links (f : Faults → Faults) (d : Dev) : (modFaults f d).links = d.links := rfl
@[simp] theorem modFaults_lanes (f : Faults → Faults) (d : Dev) : (modFaults f d).lanes = d.lanes := rfl
@[simp] theorem modFaults_flows (f : Faults → Faults) (d : Dev) : (modFaults f d).flows = d.flows := rfl
@[simp] theorem modFaults_sources (f : Faults → Faults) (d : Dev) : (modFaults f d).sources = d.sources := rfl
@[simp] theorem modFaults_accepted (f : Faults → Faults) (d : Dev) : (modFaults f d).accepted = d.accepted := rfl
@[simp] theorem modFaults_egress (f : Faults → Faults) (d : Dev) : (modFaults f d).egress = d.egress := rfl
@[simp] theorem modFaults_bist (f : Faults → Faults) (d : Dev) : (modFaults f d).bist = d.bist := rfl
@[simp] theorem modFaults_power (f : Faults → Faults) (d : Dev) : (modFaults f d).power = d.power := rfl
@[simp] theorem modFaults_clashed (f : Faults → Faults) (d : Dev) : (modFaults f d).clashed = d.clashed := rfl
@[simp] theorem modFaults_cal (f : Faults → Faults) (d : Dev) : (modFaults f d).cal = d.cal := rfl
@[simp] theorem modFaults_scans (f : Faults → Faults) (d : Dev) : (modFaults f d).scans = d.scans := rfl
@[simp] theorem modFaults_life (f : Faults → Faults) (d : Dev) : (modFaults f d).life = d.life := rfl
@[simp] theorem modFaults_time (f : Faults → Faults) (d : Dev) : (modFaults f d).time = d.time := rfl
@[simp] theorem modFaults_wear (f : Faults → Faults) (d : Dev) : (modFaults f d).wear = d.wear := rfl
@[simp] theorem modFaults_aged (f : Faults → Faults) (d : Dev) : (modFaults f d).aged = d.aged := rfl
@[simp] theorem modFaults_hot (f : Faults → Faults) (d : Dev) : (modFaults f d).hot = d.hot := rfl
@[simp] theorem modFaults_tooHot (f : Faults → Faults) (d : Dev) : (modFaults f d).tooHot = d.tooHot := rfl
@[simp] theorem modFaults_shares (f : Faults → Faults) (d : Dev) : (modFaults f d).shares = d.shares := rfl
@[simp] theorem modFaults_strobe (f : Faults → Faults) (d : Dev) : (modFaults f d).strobe = d.strobe := rfl
@[simp] theorem modFaults_sawCoreOff (f : Faults → Faults) (d : Dev) : (modFaults f d).sawCoreOff = d.sawCoreOff := rfl
@[simp] theorem modFaults_sawResetN (f : Faults → Faults) (d : Dev) : (modFaults f d).sawResetN = d.sawResetN := rfl
@[simp] theorem modFaults_sawRail (f : Faults → Faults) (d : Dev) : (modFaults f d).sawRail = d.sawRail := rfl
@[simp] theorem modFaults_railsDown (f : Faults → Faults) (d : Dev) : (modFaults f d).railsDown = d.railsDown := rfl
@[simp] theorem modFaults_resetLow (f : Faults → Faults) (d : Dev) : (modFaults f d).resetLow = d.resetLow := rfl
@[simp] theorem modFaults_resuming (f : Faults → Faults) (d : Dev) : (modFaults f d).resuming = d.resuming := rfl
@[simp] theorem modFaults_faults (f : Faults → Faults) (d : Dev) : (modFaults f d).faults = f d.faults := rfl

@[simp] theorem modBist_attrs (f : Bist → Bist) (d : Dev) : (modBist f d).attrs = d.attrs := rfl
@[simp] theorem modBist_blocks (f : Bist → Bist) (d : Dev) : (modBist f d).blocks = d.blocks := rfl
@[simp] theorem modBist_elapsed (f : Bist → Bist) (d : Dev) : (modBist f d).elapsed = d.elapsed := rfl
@[simp] theorem modBist_devTime (f : Bist → Bist) (d : Dev) : (modBist f d).devTime = d.devTime := rfl
@[simp] theorem modBist_timers (f : Bist → Bist) (d : Dev) : (modBist f d).timers = d.timers := rfl
@[simp] theorem modBist_freeCount (f : Bist → Bist) (d : Dev) : (modBist f d).freeCount = d.freeCount := rfl
@[simp] theorem modBist_masters (f : Bist → Bist) (d : Dev) : (modBist f d).masters = d.masters := rfl
@[simp] theorem modBist_waiting (f : Bist → Bist) (d : Dev) : (modBist f d).waiting = d.waiting := rfl
@[simp] theorem modBist_jobs (f : Bist → Bist) (d : Dev) : (modBist f d).jobs = d.jobs := rfl
@[simp] theorem modBist_held (f : Bist → Bist) (d : Dev) : (modBist f d).held = d.held := rfl
@[simp] theorem modBist_nextOrder (f : Bist → Bist) (d : Dev) : (modBist f d).nextOrder = d.nextOrder := rfl
@[simp] theorem modBist_vertex (f : Bist → Bist) (d : Dev) : (modBist f d).vertex = d.vertex := rfl
@[simp] theorem modBist_handover (f : Bist → Bist) (d : Dev) : (modBist f d).handover = d.handover := rfl
@[simp] theorem modBist_phase (f : Bist → Bist) (d : Dev) : (modBist f d).phase = d.phase := rfl
@[simp] theorem modBist_brownout (f : Bist → Bist) (d : Dev) : (modBist f d).brownout = d.brownout := rfl
@[simp] theorem modBist_startOwed (f : Bist → Bist) (d : Dev) : (modBist f d).startOwed = d.startOwed := rfl
@[simp] theorem modBist_ports (f : Bist → Bist) (d : Dev) : (modBist f d).ports = d.ports := rfl
@[simp] theorem modBist_prisms (f : Bist → Bist) (d : Dev) : (modBist f d).prisms = d.prisms := rfl
@[simp] theorem modBist_multi (f : Bist → Bist) (d : Dev) : (modBist f d).multi = d.multi := rfl
@[simp] theorem modBist_msgId (f : Bist → Bist) (d : Dev) : (modBist f d).msgId = d.msgId := rfl
@[simp] theorem modBist_msgOrder (f : Bist → Bist) (d : Dev) : (modBist f d).msgOrder = d.msgOrder := rfl
@[simp] theorem modBist_snapshots (f : Bist → Bist) (d : Dev) : (modBist f d).snapshots = d.snapshots := rfl
@[simp] theorem modBist_chords (f : Bist → Bist) (d : Dev) : (modBist f d).chords = d.chords := rfl
@[simp] theorem modBist_links (f : Bist → Bist) (d : Dev) : (modBist f d).links = d.links := rfl
@[simp] theorem modBist_lanes (f : Bist → Bist) (d : Dev) : (modBist f d).lanes = d.lanes := rfl
@[simp] theorem modBist_flows (f : Bist → Bist) (d : Dev) : (modBist f d).flows = d.flows := rfl
@[simp] theorem modBist_sources (f : Bist → Bist) (d : Dev) : (modBist f d).sources = d.sources := rfl
@[simp] theorem modBist_accepted (f : Bist → Bist) (d : Dev) : (modBist f d).accepted = d.accepted := rfl
@[simp] theorem modBist_egress (f : Bist → Bist) (d : Dev) : (modBist f d).egress = d.egress := rfl
@[simp] theorem modBist_faults (f : Bist → Bist) (d : Dev) : (modBist f d).faults = d.faults := rfl
@[simp] theorem modBist_power (f : Bist → Bist) (d : Dev) : (modBist f d).power = d.power := rfl
@[simp] theorem modBist_clashed (f : Bist → Bist) (d : Dev) : (modBist f d).clashed = d.clashed := rfl
@[simp] theorem modBist_cal (f : Bist → Bist) (d : Dev) : (modBist f d).cal = d.cal := rfl
@[simp] theorem modBist_scans (f : Bist → Bist) (d : Dev) : (modBist f d).scans = d.scans := rfl
@[simp] theorem modBist_life (f : Bist → Bist) (d : Dev) : (modBist f d).life = d.life := rfl
@[simp] theorem modBist_time (f : Bist → Bist) (d : Dev) : (modBist f d).time = d.time := rfl
@[simp] theorem modBist_wear (f : Bist → Bist) (d : Dev) : (modBist f d).wear = d.wear := rfl
@[simp] theorem modBist_aged (f : Bist → Bist) (d : Dev) : (modBist f d).aged = d.aged := rfl
@[simp] theorem modBist_hot (f : Bist → Bist) (d : Dev) : (modBist f d).hot = d.hot := rfl
@[simp] theorem modBist_tooHot (f : Bist → Bist) (d : Dev) : (modBist f d).tooHot = d.tooHot := rfl
@[simp] theorem modBist_shares (f : Bist → Bist) (d : Dev) : (modBist f d).shares = d.shares := rfl
@[simp] theorem modBist_strobe (f : Bist → Bist) (d : Dev) : (modBist f d).strobe = d.strobe := rfl
@[simp] theorem modBist_sawCoreOff (f : Bist → Bist) (d : Dev) : (modBist f d).sawCoreOff = d.sawCoreOff := rfl
@[simp] theorem modBist_sawResetN (f : Bist → Bist) (d : Dev) : (modBist f d).sawResetN = d.sawResetN := rfl
@[simp] theorem modBist_sawRail (f : Bist → Bist) (d : Dev) : (modBist f d).sawRail = d.sawRail := rfl
@[simp] theorem modBist_railsDown (f : Bist → Bist) (d : Dev) : (modBist f d).railsDown = d.railsDown := rfl
@[simp] theorem modBist_resetLow (f : Bist → Bist) (d : Dev) : (modBist f d).resetLow = d.resetLow := rfl
@[simp] theorem modBist_resuming (f : Bist → Bist) (d : Dev) : (modBist f d).resuming = d.resuming := rfl
@[simp] theorem modBist_bist (f : Bist → Bist) (d : Dev) : (modBist f d).bist = f d.bist := rfl

@[simp] theorem modCal_attrs (f : Cal → Cal) (d : Dev) : (modCal f d).attrs = d.attrs := rfl
@[simp] theorem modCal_blocks (f : Cal → Cal) (d : Dev) : (modCal f d).blocks = d.blocks := rfl
@[simp] theorem modCal_elapsed (f : Cal → Cal) (d : Dev) : (modCal f d).elapsed = d.elapsed := rfl
@[simp] theorem modCal_devTime (f : Cal → Cal) (d : Dev) : (modCal f d).devTime = d.devTime := rfl
@[simp] theorem modCal_timers (f : Cal → Cal) (d : Dev) : (modCal f d).timers = d.timers := rfl
@[simp] theorem modCal_freeCount (f : Cal → Cal) (d : Dev) : (modCal f d).freeCount = d.freeCount := rfl
@[simp] theorem modCal_masters (f : Cal → Cal) (d : Dev) : (modCal f d).masters = d.masters := rfl
@[simp] theorem modCal_waiting (f : Cal → Cal) (d : Dev) : (modCal f d).waiting = d.waiting := rfl
@[simp] theorem modCal_jobs (f : Cal → Cal) (d : Dev) : (modCal f d).jobs = d.jobs := rfl
@[simp] theorem modCal_held (f : Cal → Cal) (d : Dev) : (modCal f d).held = d.held := rfl
@[simp] theorem modCal_nextOrder (f : Cal → Cal) (d : Dev) : (modCal f d).nextOrder = d.nextOrder := rfl
@[simp] theorem modCal_vertex (f : Cal → Cal) (d : Dev) : (modCal f d).vertex = d.vertex := rfl
@[simp] theorem modCal_handover (f : Cal → Cal) (d : Dev) : (modCal f d).handover = d.handover := rfl
@[simp] theorem modCal_phase (f : Cal → Cal) (d : Dev) : (modCal f d).phase = d.phase := rfl
@[simp] theorem modCal_brownout (f : Cal → Cal) (d : Dev) : (modCal f d).brownout = d.brownout := rfl
@[simp] theorem modCal_startOwed (f : Cal → Cal) (d : Dev) : (modCal f d).startOwed = d.startOwed := rfl
@[simp] theorem modCal_ports (f : Cal → Cal) (d : Dev) : (modCal f d).ports = d.ports := rfl
@[simp] theorem modCal_prisms (f : Cal → Cal) (d : Dev) : (modCal f d).prisms = d.prisms := rfl
@[simp] theorem modCal_multi (f : Cal → Cal) (d : Dev) : (modCal f d).multi = d.multi := rfl
@[simp] theorem modCal_msgId (f : Cal → Cal) (d : Dev) : (modCal f d).msgId = d.msgId := rfl
@[simp] theorem modCal_msgOrder (f : Cal → Cal) (d : Dev) : (modCal f d).msgOrder = d.msgOrder := rfl
@[simp] theorem modCal_snapshots (f : Cal → Cal) (d : Dev) : (modCal f d).snapshots = d.snapshots := rfl
@[simp] theorem modCal_chords (f : Cal → Cal) (d : Dev) : (modCal f d).chords = d.chords := rfl
@[simp] theorem modCal_links (f : Cal → Cal) (d : Dev) : (modCal f d).links = d.links := rfl
@[simp] theorem modCal_lanes (f : Cal → Cal) (d : Dev) : (modCal f d).lanes = d.lanes := rfl
@[simp] theorem modCal_flows (f : Cal → Cal) (d : Dev) : (modCal f d).flows = d.flows := rfl
@[simp] theorem modCal_sources (f : Cal → Cal) (d : Dev) : (modCal f d).sources = d.sources := rfl
@[simp] theorem modCal_accepted (f : Cal → Cal) (d : Dev) : (modCal f d).accepted = d.accepted := rfl
@[simp] theorem modCal_egress (f : Cal → Cal) (d : Dev) : (modCal f d).egress = d.egress := rfl
@[simp] theorem modCal_faults (f : Cal → Cal) (d : Dev) : (modCal f d).faults = d.faults := rfl
@[simp] theorem modCal_bist (f : Cal → Cal) (d : Dev) : (modCal f d).bist = d.bist := rfl
@[simp] theorem modCal_power (f : Cal → Cal) (d : Dev) : (modCal f d).power = d.power := rfl
@[simp] theorem modCal_clashed (f : Cal → Cal) (d : Dev) : (modCal f d).clashed = d.clashed := rfl
@[simp] theorem modCal_scans (f : Cal → Cal) (d : Dev) : (modCal f d).scans = d.scans := rfl
@[simp] theorem modCal_life (f : Cal → Cal) (d : Dev) : (modCal f d).life = d.life := rfl
@[simp] theorem modCal_time (f : Cal → Cal) (d : Dev) : (modCal f d).time = d.time := rfl
@[simp] theorem modCal_wear (f : Cal → Cal) (d : Dev) : (modCal f d).wear = d.wear := rfl
@[simp] theorem modCal_aged (f : Cal → Cal) (d : Dev) : (modCal f d).aged = d.aged := rfl
@[simp] theorem modCal_hot (f : Cal → Cal) (d : Dev) : (modCal f d).hot = d.hot := rfl
@[simp] theorem modCal_tooHot (f : Cal → Cal) (d : Dev) : (modCal f d).tooHot = d.tooHot := rfl
@[simp] theorem modCal_shares (f : Cal → Cal) (d : Dev) : (modCal f d).shares = d.shares := rfl
@[simp] theorem modCal_strobe (f : Cal → Cal) (d : Dev) : (modCal f d).strobe = d.strobe := rfl
@[simp] theorem modCal_sawCoreOff (f : Cal → Cal) (d : Dev) : (modCal f d).sawCoreOff = d.sawCoreOff := rfl
@[simp] theorem modCal_sawResetN (f : Cal → Cal) (d : Dev) : (modCal f d).sawResetN = d.sawResetN := rfl
@[simp] theorem modCal_sawRail (f : Cal → Cal) (d : Dev) : (modCal f d).sawRail = d.sawRail := rfl
@[simp] theorem modCal_railsDown (f : Cal → Cal) (d : Dev) : (modCal f d).railsDown = d.railsDown := rfl
@[simp] theorem modCal_resetLow (f : Cal → Cal) (d : Dev) : (modCal f d).resetLow = d.resetLow := rfl
@[simp] theorem modCal_resuming (f : Cal → Cal) (d : Dev) : (modCal f d).resuming = d.resuming := rfl
@[simp] theorem modCal_cal (f : Cal → Cal) (d : Dev) : (modCal f d).cal = f d.cal := rfl

@[simp] theorem modPower_attrs (f : Power → Power) (d : Dev) : (modPower f d).attrs = d.attrs := rfl
@[simp] theorem modPower_blocks (f : Power → Power) (d : Dev) : (modPower f d).blocks = d.blocks := rfl
@[simp] theorem modPower_elapsed (f : Power → Power) (d : Dev) : (modPower f d).elapsed = d.elapsed := rfl
@[simp] theorem modPower_devTime (f : Power → Power) (d : Dev) : (modPower f d).devTime = d.devTime := rfl
@[simp] theorem modPower_timers (f : Power → Power) (d : Dev) : (modPower f d).timers = d.timers := rfl
@[simp] theorem modPower_freeCount (f : Power → Power) (d : Dev) : (modPower f d).freeCount = d.freeCount := rfl
@[simp] theorem modPower_masters (f : Power → Power) (d : Dev) : (modPower f d).masters = d.masters := rfl
@[simp] theorem modPower_waiting (f : Power → Power) (d : Dev) : (modPower f d).waiting = d.waiting := rfl
@[simp] theorem modPower_jobs (f : Power → Power) (d : Dev) : (modPower f d).jobs = d.jobs := rfl
@[simp] theorem modPower_held (f : Power → Power) (d : Dev) : (modPower f d).held = d.held := rfl
@[simp] theorem modPower_nextOrder (f : Power → Power) (d : Dev) : (modPower f d).nextOrder = d.nextOrder := rfl
@[simp] theorem modPower_vertex (f : Power → Power) (d : Dev) : (modPower f d).vertex = d.vertex := rfl
@[simp] theorem modPower_handover (f : Power → Power) (d : Dev) : (modPower f d).handover = d.handover := rfl
@[simp] theorem modPower_phase (f : Power → Power) (d : Dev) : (modPower f d).phase = d.phase := rfl
@[simp] theorem modPower_brownout (f : Power → Power) (d : Dev) : (modPower f d).brownout = d.brownout := rfl
@[simp] theorem modPower_startOwed (f : Power → Power) (d : Dev) : (modPower f d).startOwed = d.startOwed := rfl
@[simp] theorem modPower_ports (f : Power → Power) (d : Dev) : (modPower f d).ports = d.ports := rfl
@[simp] theorem modPower_prisms (f : Power → Power) (d : Dev) : (modPower f d).prisms = d.prisms := rfl
@[simp] theorem modPower_multi (f : Power → Power) (d : Dev) : (modPower f d).multi = d.multi := rfl
@[simp] theorem modPower_msgId (f : Power → Power) (d : Dev) : (modPower f d).msgId = d.msgId := rfl
@[simp] theorem modPower_msgOrder (f : Power → Power) (d : Dev) : (modPower f d).msgOrder = d.msgOrder := rfl
@[simp] theorem modPower_snapshots (f : Power → Power) (d : Dev) : (modPower f d).snapshots = d.snapshots := rfl
@[simp] theorem modPower_chords (f : Power → Power) (d : Dev) : (modPower f d).chords = d.chords := rfl
@[simp] theorem modPower_links (f : Power → Power) (d : Dev) : (modPower f d).links = d.links := rfl
@[simp] theorem modPower_lanes (f : Power → Power) (d : Dev) : (modPower f d).lanes = d.lanes := rfl
@[simp] theorem modPower_flows (f : Power → Power) (d : Dev) : (modPower f d).flows = d.flows := rfl
@[simp] theorem modPower_sources (f : Power → Power) (d : Dev) : (modPower f d).sources = d.sources := rfl
@[simp] theorem modPower_accepted (f : Power → Power) (d : Dev) : (modPower f d).accepted = d.accepted := rfl
@[simp] theorem modPower_egress (f : Power → Power) (d : Dev) : (modPower f d).egress = d.egress := rfl
@[simp] theorem modPower_faults (f : Power → Power) (d : Dev) : (modPower f d).faults = d.faults := rfl
@[simp] theorem modPower_bist (f : Power → Power) (d : Dev) : (modPower f d).bist = d.bist := rfl
@[simp] theorem modPower_clashed (f : Power → Power) (d : Dev) : (modPower f d).clashed = d.clashed := rfl
@[simp] theorem modPower_cal (f : Power → Power) (d : Dev) : (modPower f d).cal = d.cal := rfl
@[simp] theorem modPower_scans (f : Power → Power) (d : Dev) : (modPower f d).scans = d.scans := rfl
@[simp] theorem modPower_life (f : Power → Power) (d : Dev) : (modPower f d).life = d.life := rfl
@[simp] theorem modPower_time (f : Power → Power) (d : Dev) : (modPower f d).time = d.time := rfl
@[simp] theorem modPower_wear (f : Power → Power) (d : Dev) : (modPower f d).wear = d.wear := rfl
@[simp] theorem modPower_aged (f : Power → Power) (d : Dev) : (modPower f d).aged = d.aged := rfl
@[simp] theorem modPower_hot (f : Power → Power) (d : Dev) : (modPower f d).hot = d.hot := rfl
@[simp] theorem modPower_tooHot (f : Power → Power) (d : Dev) : (modPower f d).tooHot = d.tooHot := rfl
@[simp] theorem modPower_shares (f : Power → Power) (d : Dev) : (modPower f d).shares = d.shares := rfl
@[simp] theorem modPower_strobe (f : Power → Power) (d : Dev) : (modPower f d).strobe = d.strobe := rfl
@[simp] theorem modPower_sawCoreOff (f : Power → Power) (d : Dev) : (modPower f d).sawCoreOff = d.sawCoreOff := rfl
@[simp] theorem modPower_sawResetN (f : Power → Power) (d : Dev) : (modPower f d).sawResetN = d.sawResetN := rfl
@[simp] theorem modPower_sawRail (f : Power → Power) (d : Dev) : (modPower f d).sawRail = d.sawRail := rfl
@[simp] theorem modPower_railsDown (f : Power → Power) (d : Dev) : (modPower f d).railsDown = d.railsDown := rfl
@[simp] theorem modPower_resetLow (f : Power → Power) (d : Dev) : (modPower f d).resetLow = d.resetLow := rfl
@[simp] theorem modPower_resuming (f : Power → Power) (d : Dev) : (modPower f d).resuming = d.resuming := rfl
@[simp] theorem modPower_power (f : Power → Power) (d : Dev) : (modPower f d).power = f d.power := rfl

@[simp] theorem modLife_attrs (f : Life → Life) (d : Dev) : (modLife f d).attrs = d.attrs := rfl
@[simp] theorem modLife_blocks (f : Life → Life) (d : Dev) : (modLife f d).blocks = d.blocks := rfl
@[simp] theorem modLife_elapsed (f : Life → Life) (d : Dev) : (modLife f d).elapsed = d.elapsed := rfl
@[simp] theorem modLife_devTime (f : Life → Life) (d : Dev) : (modLife f d).devTime = d.devTime := rfl
@[simp] theorem modLife_timers (f : Life → Life) (d : Dev) : (modLife f d).timers = d.timers := rfl
@[simp] theorem modLife_freeCount (f : Life → Life) (d : Dev) : (modLife f d).freeCount = d.freeCount := rfl
@[simp] theorem modLife_masters (f : Life → Life) (d : Dev) : (modLife f d).masters = d.masters := rfl
@[simp] theorem modLife_waiting (f : Life → Life) (d : Dev) : (modLife f d).waiting = d.waiting := rfl
@[simp] theorem modLife_jobs (f : Life → Life) (d : Dev) : (modLife f d).jobs = d.jobs := rfl
@[simp] theorem modLife_held (f : Life → Life) (d : Dev) : (modLife f d).held = d.held := rfl
@[simp] theorem modLife_nextOrder (f : Life → Life) (d : Dev) : (modLife f d).nextOrder = d.nextOrder := rfl
@[simp] theorem modLife_vertex (f : Life → Life) (d : Dev) : (modLife f d).vertex = d.vertex := rfl
@[simp] theorem modLife_handover (f : Life → Life) (d : Dev) : (modLife f d).handover = d.handover := rfl
@[simp] theorem modLife_phase (f : Life → Life) (d : Dev) : (modLife f d).phase = d.phase := rfl
@[simp] theorem modLife_brownout (f : Life → Life) (d : Dev) : (modLife f d).brownout = d.brownout := rfl
@[simp] theorem modLife_startOwed (f : Life → Life) (d : Dev) : (modLife f d).startOwed = d.startOwed := rfl
@[simp] theorem modLife_ports (f : Life → Life) (d : Dev) : (modLife f d).ports = d.ports := rfl
@[simp] theorem modLife_prisms (f : Life → Life) (d : Dev) : (modLife f d).prisms = d.prisms := rfl
@[simp] theorem modLife_multi (f : Life → Life) (d : Dev) : (modLife f d).multi = d.multi := rfl
@[simp] theorem modLife_msgId (f : Life → Life) (d : Dev) : (modLife f d).msgId = d.msgId := rfl
@[simp] theorem modLife_msgOrder (f : Life → Life) (d : Dev) : (modLife f d).msgOrder = d.msgOrder := rfl
@[simp] theorem modLife_snapshots (f : Life → Life) (d : Dev) : (modLife f d).snapshots = d.snapshots := rfl
@[simp] theorem modLife_chords (f : Life → Life) (d : Dev) : (modLife f d).chords = d.chords := rfl
@[simp] theorem modLife_links (f : Life → Life) (d : Dev) : (modLife f d).links = d.links := rfl
@[simp] theorem modLife_lanes (f : Life → Life) (d : Dev) : (modLife f d).lanes = d.lanes := rfl
@[simp] theorem modLife_flows (f : Life → Life) (d : Dev) : (modLife f d).flows = d.flows := rfl
@[simp] theorem modLife_sources (f : Life → Life) (d : Dev) : (modLife f d).sources = d.sources := rfl
@[simp] theorem modLife_accepted (f : Life → Life) (d : Dev) : (modLife f d).accepted = d.accepted := rfl
@[simp] theorem modLife_egress (f : Life → Life) (d : Dev) : (modLife f d).egress = d.egress := rfl
@[simp] theorem modLife_faults (f : Life → Life) (d : Dev) : (modLife f d).faults = d.faults := rfl
@[simp] theorem modLife_bist (f : Life → Life) (d : Dev) : (modLife f d).bist = d.bist := rfl
@[simp] theorem modLife_power (f : Life → Life) (d : Dev) : (modLife f d).power = d.power := rfl
@[simp] theorem modLife_clashed (f : Life → Life) (d : Dev) : (modLife f d).clashed = d.clashed := rfl
@[simp] theorem modLife_cal (f : Life → Life) (d : Dev) : (modLife f d).cal = d.cal := rfl
@[simp] theorem modLife_scans (f : Life → Life) (d : Dev) : (modLife f d).scans = d.scans := rfl
@[simp] theorem modLife_time (f : Life → Life) (d : Dev) : (modLife f d).time = d.time := rfl
@[simp] theorem modLife_wear (f : Life → Life) (d : Dev) : (modLife f d).wear = d.wear := rfl
@[simp] theorem modLife_aged (f : Life → Life) (d : Dev) : (modLife f d).aged = d.aged := rfl
@[simp] theorem modLife_hot (f : Life → Life) (d : Dev) : (modLife f d).hot = d.hot := rfl
@[simp] theorem modLife_tooHot (f : Life → Life) (d : Dev) : (modLife f d).tooHot = d.tooHot := rfl
@[simp] theorem modLife_shares (f : Life → Life) (d : Dev) : (modLife f d).shares = d.shares := rfl
@[simp] theorem modLife_strobe (f : Life → Life) (d : Dev) : (modLife f d).strobe = d.strobe := rfl
@[simp] theorem modLife_sawCoreOff (f : Life → Life) (d : Dev) : (modLife f d).sawCoreOff = d.sawCoreOff := rfl
@[simp] theorem modLife_sawResetN (f : Life → Life) (d : Dev) : (modLife f d).sawResetN = d.sawResetN := rfl
@[simp] theorem modLife_sawRail (f : Life → Life) (d : Dev) : (modLife f d).sawRail = d.sawRail := rfl
@[simp] theorem modLife_railsDown (f : Life → Life) (d : Dev) : (modLife f d).railsDown = d.railsDown := rfl
@[simp] theorem modLife_resetLow (f : Life → Life) (d : Dev) : (modLife f d).resetLow = d.resetLow := rfl
@[simp] theorem modLife_resuming (f : Life → Life) (d : Dev) : (modLife f d).resuming = d.resuming := rfl
@[simp] theorem modLife_life (f : Life → Life) (d : Dev) : (modLife f d).life = f d.life := rfl

@[simp] theorem modTime_attrs (f : TimeBase → TimeBase) (d : Dev) : (modTime f d).attrs = d.attrs := rfl
@[simp] theorem modTime_blocks (f : TimeBase → TimeBase) (d : Dev) : (modTime f d).blocks = d.blocks := rfl
@[simp] theorem modTime_elapsed (f : TimeBase → TimeBase) (d : Dev) : (modTime f d).elapsed = d.elapsed := rfl
@[simp] theorem modTime_devTime (f : TimeBase → TimeBase) (d : Dev) : (modTime f d).devTime = d.devTime := rfl
@[simp] theorem modTime_timers (f : TimeBase → TimeBase) (d : Dev) : (modTime f d).timers = d.timers := rfl
@[simp] theorem modTime_freeCount (f : TimeBase → TimeBase) (d : Dev) : (modTime f d).freeCount = d.freeCount := rfl
@[simp] theorem modTime_masters (f : TimeBase → TimeBase) (d : Dev) : (modTime f d).masters = d.masters := rfl
@[simp] theorem modTime_waiting (f : TimeBase → TimeBase) (d : Dev) : (modTime f d).waiting = d.waiting := rfl
@[simp] theorem modTime_jobs (f : TimeBase → TimeBase) (d : Dev) : (modTime f d).jobs = d.jobs := rfl
@[simp] theorem modTime_held (f : TimeBase → TimeBase) (d : Dev) : (modTime f d).held = d.held := rfl
@[simp] theorem modTime_nextOrder (f : TimeBase → TimeBase) (d : Dev) : (modTime f d).nextOrder = d.nextOrder := rfl
@[simp] theorem modTime_vertex (f : TimeBase → TimeBase) (d : Dev) : (modTime f d).vertex = d.vertex := rfl
@[simp] theorem modTime_handover (f : TimeBase → TimeBase) (d : Dev) : (modTime f d).handover = d.handover := rfl
@[simp] theorem modTime_phase (f : TimeBase → TimeBase) (d : Dev) : (modTime f d).phase = d.phase := rfl
@[simp] theorem modTime_brownout (f : TimeBase → TimeBase) (d : Dev) : (modTime f d).brownout = d.brownout := rfl
@[simp] theorem modTime_startOwed (f : TimeBase → TimeBase) (d : Dev) : (modTime f d).startOwed = d.startOwed := rfl
@[simp] theorem modTime_ports (f : TimeBase → TimeBase) (d : Dev) : (modTime f d).ports = d.ports := rfl
@[simp] theorem modTime_prisms (f : TimeBase → TimeBase) (d : Dev) : (modTime f d).prisms = d.prisms := rfl
@[simp] theorem modTime_multi (f : TimeBase → TimeBase) (d : Dev) : (modTime f d).multi = d.multi := rfl
@[simp] theorem modTime_msgId (f : TimeBase → TimeBase) (d : Dev) : (modTime f d).msgId = d.msgId := rfl
@[simp] theorem modTime_msgOrder (f : TimeBase → TimeBase) (d : Dev) : (modTime f d).msgOrder = d.msgOrder := rfl
@[simp] theorem modTime_snapshots (f : TimeBase → TimeBase) (d : Dev) : (modTime f d).snapshots = d.snapshots := rfl
@[simp] theorem modTime_chords (f : TimeBase → TimeBase) (d : Dev) : (modTime f d).chords = d.chords := rfl
@[simp] theorem modTime_links (f : TimeBase → TimeBase) (d : Dev) : (modTime f d).links = d.links := rfl
@[simp] theorem modTime_lanes (f : TimeBase → TimeBase) (d : Dev) : (modTime f d).lanes = d.lanes := rfl
@[simp] theorem modTime_flows (f : TimeBase → TimeBase) (d : Dev) : (modTime f d).flows = d.flows := rfl
@[simp] theorem modTime_sources (f : TimeBase → TimeBase) (d : Dev) : (modTime f d).sources = d.sources := rfl
@[simp] theorem modTime_accepted (f : TimeBase → TimeBase) (d : Dev) : (modTime f d).accepted = d.accepted := rfl
@[simp] theorem modTime_egress (f : TimeBase → TimeBase) (d : Dev) : (modTime f d).egress = d.egress := rfl
@[simp] theorem modTime_faults (f : TimeBase → TimeBase) (d : Dev) : (modTime f d).faults = d.faults := rfl
@[simp] theorem modTime_bist (f : TimeBase → TimeBase) (d : Dev) : (modTime f d).bist = d.bist := rfl
@[simp] theorem modTime_power (f : TimeBase → TimeBase) (d : Dev) : (modTime f d).power = d.power := rfl
@[simp] theorem modTime_clashed (f : TimeBase → TimeBase) (d : Dev) : (modTime f d).clashed = d.clashed := rfl
@[simp] theorem modTime_cal (f : TimeBase → TimeBase) (d : Dev) : (modTime f d).cal = d.cal := rfl
@[simp] theorem modTime_scans (f : TimeBase → TimeBase) (d : Dev) : (modTime f d).scans = d.scans := rfl
@[simp] theorem modTime_life (f : TimeBase → TimeBase) (d : Dev) : (modTime f d).life = d.life := rfl
@[simp] theorem modTime_wear (f : TimeBase → TimeBase) (d : Dev) : (modTime f d).wear = d.wear := rfl
@[simp] theorem modTime_aged (f : TimeBase → TimeBase) (d : Dev) : (modTime f d).aged = d.aged := rfl
@[simp] theorem modTime_hot (f : TimeBase → TimeBase) (d : Dev) : (modTime f d).hot = d.hot := rfl
@[simp] theorem modTime_tooHot (f : TimeBase → TimeBase) (d : Dev) : (modTime f d).tooHot = d.tooHot := rfl
@[simp] theorem modTime_shares (f : TimeBase → TimeBase) (d : Dev) : (modTime f d).shares = d.shares := rfl
@[simp] theorem modTime_strobe (f : TimeBase → TimeBase) (d : Dev) : (modTime f d).strobe = d.strobe := rfl
@[simp] theorem modTime_sawCoreOff (f : TimeBase → TimeBase) (d : Dev) : (modTime f d).sawCoreOff = d.sawCoreOff := rfl
@[simp] theorem modTime_sawResetN (f : TimeBase → TimeBase) (d : Dev) : (modTime f d).sawResetN = d.sawResetN := rfl
@[simp] theorem modTime_sawRail (f : TimeBase → TimeBase) (d : Dev) : (modTime f d).sawRail = d.sawRail := rfl
@[simp] theorem modTime_railsDown (f : TimeBase → TimeBase) (d : Dev) : (modTime f d).railsDown = d.railsDown := rfl
@[simp] theorem modTime_resetLow (f : TimeBase → TimeBase) (d : Dev) : (modTime f d).resetLow = d.resetLow := rfl
@[simp] theorem modTime_resuming (f : TimeBase → TimeBase) (d : Dev) : (modTime f d).resuming = d.resuming := rfl
@[simp] theorem modTime_time (f : TimeBase → TimeBase) (d : Dev) : (modTime f d).time = f d.time := rfl

@[simp] theorem modPort_attrs (p : Nat) (f : Port → Port) (d : Dev) : (modPort p f d).attrs = d.attrs := rfl
@[simp] theorem modPort_blocks (p : Nat) (f : Port → Port) (d : Dev) : (modPort p f d).blocks = d.blocks := rfl
@[simp] theorem modPort_elapsed (p : Nat) (f : Port → Port) (d : Dev) : (modPort p f d).elapsed = d.elapsed := rfl
@[simp] theorem modPort_devTime (p : Nat) (f : Port → Port) (d : Dev) : (modPort p f d).devTime = d.devTime := rfl
@[simp] theorem modPort_timers (p : Nat) (f : Port → Port) (d : Dev) : (modPort p f d).timers = d.timers := rfl
@[simp] theorem modPort_freeCount (p : Nat) (f : Port → Port) (d : Dev) : (modPort p f d).freeCount = d.freeCount := rfl
@[simp] theorem modPort_masters (p : Nat) (f : Port → Port) (d : Dev) : (modPort p f d).masters = d.masters := rfl
@[simp] theorem modPort_waiting (p : Nat) (f : Port → Port) (d : Dev) : (modPort p f d).waiting = d.waiting := rfl
@[simp] theorem modPort_jobs (p : Nat) (f : Port → Port) (d : Dev) : (modPort p f d).jobs = d.jobs := rfl
@[simp] theorem modPort_held (p : Nat) (f : Port → Port) (d : Dev) : (modPort p f d).held = d.held := rfl
@[simp] theorem modPort_nextOrder (p : Nat) (f : Port → Port) (d : Dev) : (modPort p f d).nextOrder = d.nextOrder := rfl
@[simp] theorem modPort_vertex (p : Nat) (f : Port → Port) (d : Dev) : (modPort p f d).vertex = d.vertex := rfl
@[simp] theorem modPort_handover (p : Nat) (f : Port → Port) (d : Dev) : (modPort p f d).handover = d.handover := rfl
@[simp] theorem modPort_phase (p : Nat) (f : Port → Port) (d : Dev) : (modPort p f d).phase = d.phase := rfl
@[simp] theorem modPort_brownout (p : Nat) (f : Port → Port) (d : Dev) : (modPort p f d).brownout = d.brownout := rfl
@[simp] theorem modPort_startOwed (p : Nat) (f : Port → Port) (d : Dev) : (modPort p f d).startOwed = d.startOwed := rfl
@[simp] theorem modPort_prisms (p : Nat) (f : Port → Port) (d : Dev) : (modPort p f d).prisms = d.prisms := rfl
@[simp] theorem modPort_multi (p : Nat) (f : Port → Port) (d : Dev) : (modPort p f d).multi = d.multi := rfl
@[simp] theorem modPort_msgId (p : Nat) (f : Port → Port) (d : Dev) : (modPort p f d).msgId = d.msgId := rfl
@[simp] theorem modPort_msgOrder (p : Nat) (f : Port → Port) (d : Dev) : (modPort p f d).msgOrder = d.msgOrder := rfl
@[simp] theorem modPort_snapshots (p : Nat) (f : Port → Port) (d : Dev) : (modPort p f d).snapshots = d.snapshots := rfl
@[simp] theorem modPort_chords (p : Nat) (f : Port → Port) (d : Dev) : (modPort p f d).chords = d.chords := rfl
@[simp] theorem modPort_links (p : Nat) (f : Port → Port) (d : Dev) : (modPort p f d).links = d.links := rfl
@[simp] theorem modPort_lanes (p : Nat) (f : Port → Port) (d : Dev) : (modPort p f d).lanes = d.lanes := rfl
@[simp] theorem modPort_flows (p : Nat) (f : Port → Port) (d : Dev) : (modPort p f d).flows = d.flows := rfl
@[simp] theorem modPort_sources (p : Nat) (f : Port → Port) (d : Dev) : (modPort p f d).sources = d.sources := rfl
@[simp] theorem modPort_accepted (p : Nat) (f : Port → Port) (d : Dev) : (modPort p f d).accepted = d.accepted := rfl
@[simp] theorem modPort_egress (p : Nat) (f : Port → Port) (d : Dev) : (modPort p f d).egress = d.egress := rfl
@[simp] theorem modPort_faults (p : Nat) (f : Port → Port) (d : Dev) : (modPort p f d).faults = d.faults := rfl
@[simp] theorem modPort_bist (p : Nat) (f : Port → Port) (d : Dev) : (modPort p f d).bist = d.bist := rfl
@[simp] theorem modPort_power (p : Nat) (f : Port → Port) (d : Dev) : (modPort p f d).power = d.power := rfl
@[simp] theorem modPort_clashed (p : Nat) (f : Port → Port) (d : Dev) : (modPort p f d).clashed = d.clashed := rfl
@[simp] theorem modPort_cal (p : Nat) (f : Port → Port) (d : Dev) : (modPort p f d).cal = d.cal := rfl
@[simp] theorem modPort_scans (p : Nat) (f : Port → Port) (d : Dev) : (modPort p f d).scans = d.scans := rfl
@[simp] theorem modPort_life (p : Nat) (f : Port → Port) (d : Dev) : (modPort p f d).life = d.life := rfl
@[simp] theorem modPort_time (p : Nat) (f : Port → Port) (d : Dev) : (modPort p f d).time = d.time := rfl
@[simp] theorem modPort_wear (p : Nat) (f : Port → Port) (d : Dev) : (modPort p f d).wear = d.wear := rfl
@[simp] theorem modPort_aged (p : Nat) (f : Port → Port) (d : Dev) : (modPort p f d).aged = d.aged := rfl
@[simp] theorem modPort_hot (p : Nat) (f : Port → Port) (d : Dev) : (modPort p f d).hot = d.hot := rfl
@[simp] theorem modPort_tooHot (p : Nat) (f : Port → Port) (d : Dev) : (modPort p f d).tooHot = d.tooHot := rfl
@[simp] theorem modPort_shares (p : Nat) (f : Port → Port) (d : Dev) : (modPort p f d).shares = d.shares := rfl
@[simp] theorem modPort_strobe (p : Nat) (f : Port → Port) (d : Dev) : (modPort p f d).strobe = d.strobe := rfl
@[simp] theorem modPort_sawCoreOff (p : Nat) (f : Port → Port) (d : Dev) : (modPort p f d).sawCoreOff = d.sawCoreOff := rfl
@[simp] theorem modPort_sawResetN (p : Nat) (f : Port → Port) (d : Dev) : (modPort p f d).sawResetN = d.sawResetN := rfl
@[simp] theorem modPort_sawRail (p : Nat) (f : Port → Port) (d : Dev) : (modPort p f d).sawRail = d.sawRail := rfl
@[simp] theorem modPort_railsDown (p : Nat) (f : Port → Port) (d : Dev) : (modPort p f d).railsDown = d.railsDown := rfl
@[simp] theorem modPort_resetLow (p : Nat) (f : Port → Port) (d : Dev) : (modPort p f d).resetLow = d.resetLow := rfl
@[simp] theorem modPort_resuming (p : Nat) (f : Port → Port) (d : Dev) : (modPort p f d).resuming = d.resuming := rfl

@[simp] theorem modRx_attrs (p : Nat) (f : PortRx → PortRx) (d : Dev) : (modRx p f d).attrs = d.attrs := rfl
@[simp] theorem modRx_blocks (p : Nat) (f : PortRx → PortRx) (d : Dev) : (modRx p f d).blocks = d.blocks := rfl
@[simp] theorem modRx_elapsed (p : Nat) (f : PortRx → PortRx) (d : Dev) : (modRx p f d).elapsed = d.elapsed := rfl
@[simp] theorem modRx_devTime (p : Nat) (f : PortRx → PortRx) (d : Dev) : (modRx p f d).devTime = d.devTime := rfl
@[simp] theorem modRx_timers (p : Nat) (f : PortRx → PortRx) (d : Dev) : (modRx p f d).timers = d.timers := rfl
@[simp] theorem modRx_freeCount (p : Nat) (f : PortRx → PortRx) (d : Dev) : (modRx p f d).freeCount = d.freeCount := rfl
@[simp] theorem modRx_masters (p : Nat) (f : PortRx → PortRx) (d : Dev) : (modRx p f d).masters = d.masters := rfl
@[simp] theorem modRx_waiting (p : Nat) (f : PortRx → PortRx) (d : Dev) : (modRx p f d).waiting = d.waiting := rfl
@[simp] theorem modRx_jobs (p : Nat) (f : PortRx → PortRx) (d : Dev) : (modRx p f d).jobs = d.jobs := rfl
@[simp] theorem modRx_held (p : Nat) (f : PortRx → PortRx) (d : Dev) : (modRx p f d).held = d.held := rfl
@[simp] theorem modRx_nextOrder (p : Nat) (f : PortRx → PortRx) (d : Dev) : (modRx p f d).nextOrder = d.nextOrder := rfl
@[simp] theorem modRx_vertex (p : Nat) (f : PortRx → PortRx) (d : Dev) : (modRx p f d).vertex = d.vertex := rfl
@[simp] theorem modRx_handover (p : Nat) (f : PortRx → PortRx) (d : Dev) : (modRx p f d).handover = d.handover := rfl
@[simp] theorem modRx_phase (p : Nat) (f : PortRx → PortRx) (d : Dev) : (modRx p f d).phase = d.phase := rfl
@[simp] theorem modRx_brownout (p : Nat) (f : PortRx → PortRx) (d : Dev) : (modRx p f d).brownout = d.brownout := rfl
@[simp] theorem modRx_startOwed (p : Nat) (f : PortRx → PortRx) (d : Dev) : (modRx p f d).startOwed = d.startOwed := rfl
@[simp] theorem modRx_prisms (p : Nat) (f : PortRx → PortRx) (d : Dev) : (modRx p f d).prisms = d.prisms := rfl
@[simp] theorem modRx_multi (p : Nat) (f : PortRx → PortRx) (d : Dev) : (modRx p f d).multi = d.multi := rfl
@[simp] theorem modRx_msgId (p : Nat) (f : PortRx → PortRx) (d : Dev) : (modRx p f d).msgId = d.msgId := rfl
@[simp] theorem modRx_msgOrder (p : Nat) (f : PortRx → PortRx) (d : Dev) : (modRx p f d).msgOrder = d.msgOrder := rfl
@[simp] theorem modRx_snapshots (p : Nat) (f : PortRx → PortRx) (d : Dev) : (modRx p f d).snapshots = d.snapshots := rfl
@[simp] theorem modRx_chords (p : Nat) (f : PortRx → PortRx) (d : Dev) : (modRx p f d).chords = d.chords := rfl
@[simp] theorem modRx_links (p : Nat) (f : PortRx → PortRx) (d : Dev) : (modRx p f d).links = d.links := rfl
@[simp] theorem modRx_lanes (p : Nat) (f : PortRx → PortRx) (d : Dev) : (modRx p f d).lanes = d.lanes := rfl
@[simp] theorem modRx_flows (p : Nat) (f : PortRx → PortRx) (d : Dev) : (modRx p f d).flows = d.flows := rfl
@[simp] theorem modRx_sources (p : Nat) (f : PortRx → PortRx) (d : Dev) : (modRx p f d).sources = d.sources := rfl
@[simp] theorem modRx_accepted (p : Nat) (f : PortRx → PortRx) (d : Dev) : (modRx p f d).accepted = d.accepted := rfl
@[simp] theorem modRx_egress (p : Nat) (f : PortRx → PortRx) (d : Dev) : (modRx p f d).egress = d.egress := rfl
@[simp] theorem modRx_faults (p : Nat) (f : PortRx → PortRx) (d : Dev) : (modRx p f d).faults = d.faults := rfl
@[simp] theorem modRx_bist (p : Nat) (f : PortRx → PortRx) (d : Dev) : (modRx p f d).bist = d.bist := rfl
@[simp] theorem modRx_power (p : Nat) (f : PortRx → PortRx) (d : Dev) : (modRx p f d).power = d.power := rfl
@[simp] theorem modRx_clashed (p : Nat) (f : PortRx → PortRx) (d : Dev) : (modRx p f d).clashed = d.clashed := rfl
@[simp] theorem modRx_cal (p : Nat) (f : PortRx → PortRx) (d : Dev) : (modRx p f d).cal = d.cal := rfl
@[simp] theorem modRx_scans (p : Nat) (f : PortRx → PortRx) (d : Dev) : (modRx p f d).scans = d.scans := rfl
@[simp] theorem modRx_life (p : Nat) (f : PortRx → PortRx) (d : Dev) : (modRx p f d).life = d.life := rfl
@[simp] theorem modRx_time (p : Nat) (f : PortRx → PortRx) (d : Dev) : (modRx p f d).time = d.time := rfl
@[simp] theorem modRx_wear (p : Nat) (f : PortRx → PortRx) (d : Dev) : (modRx p f d).wear = d.wear := rfl
@[simp] theorem modRx_aged (p : Nat) (f : PortRx → PortRx) (d : Dev) : (modRx p f d).aged = d.aged := rfl
@[simp] theorem modRx_hot (p : Nat) (f : PortRx → PortRx) (d : Dev) : (modRx p f d).hot = d.hot := rfl
@[simp] theorem modRx_tooHot (p : Nat) (f : PortRx → PortRx) (d : Dev) : (modRx p f d).tooHot = d.tooHot := rfl
@[simp] theorem modRx_shares (p : Nat) (f : PortRx → PortRx) (d : Dev) : (modRx p f d).shares = d.shares := rfl
@[simp] theorem modRx_strobe (p : Nat) (f : PortRx → PortRx) (d : Dev) : (modRx p f d).strobe = d.strobe := rfl
@[simp] theorem modRx_sawCoreOff (p : Nat) (f : PortRx → PortRx) (d : Dev) : (modRx p f d).sawCoreOff = d.sawCoreOff := rfl
@[simp] theorem modRx_sawResetN (p : Nat) (f : PortRx → PortRx) (d : Dev) : (modRx p f d).sawResetN = d.sawResetN := rfl
@[simp] theorem modRx_sawRail (p : Nat) (f : PortRx → PortRx) (d : Dev) : (modRx p f d).sawRail = d.sawRail := rfl
@[simp] theorem modRx_railsDown (p : Nat) (f : PortRx → PortRx) (d : Dev) : (modRx p f d).railsDown = d.railsDown := rfl
@[simp] theorem modRx_resetLow (p : Nat) (f : PortRx → PortRx) (d : Dev) : (modRx p f d).resetLow = d.resetLow := rfl
@[simp] theorem modRx_resuming (p : Nat) (f : PortRx → PortRx) (d : Dev) : (modRx p f d).resuming = d.resuming := rfl

@[simp] theorem modTx_attrs (p : Nat) (f : PortTx → PortTx) (d : Dev) : (modTx p f d).attrs = d.attrs := rfl
@[simp] theorem modTx_blocks (p : Nat) (f : PortTx → PortTx) (d : Dev) : (modTx p f d).blocks = d.blocks := rfl
@[simp] theorem modTx_elapsed (p : Nat) (f : PortTx → PortTx) (d : Dev) : (modTx p f d).elapsed = d.elapsed := rfl
@[simp] theorem modTx_devTime (p : Nat) (f : PortTx → PortTx) (d : Dev) : (modTx p f d).devTime = d.devTime := rfl
@[simp] theorem modTx_timers (p : Nat) (f : PortTx → PortTx) (d : Dev) : (modTx p f d).timers = d.timers := rfl
@[simp] theorem modTx_freeCount (p : Nat) (f : PortTx → PortTx) (d : Dev) : (modTx p f d).freeCount = d.freeCount := rfl
@[simp] theorem modTx_masters (p : Nat) (f : PortTx → PortTx) (d : Dev) : (modTx p f d).masters = d.masters := rfl
@[simp] theorem modTx_waiting (p : Nat) (f : PortTx → PortTx) (d : Dev) : (modTx p f d).waiting = d.waiting := rfl
@[simp] theorem modTx_jobs (p : Nat) (f : PortTx → PortTx) (d : Dev) : (modTx p f d).jobs = d.jobs := rfl
@[simp] theorem modTx_held (p : Nat) (f : PortTx → PortTx) (d : Dev) : (modTx p f d).held = d.held := rfl
@[simp] theorem modTx_nextOrder (p : Nat) (f : PortTx → PortTx) (d : Dev) : (modTx p f d).nextOrder = d.nextOrder := rfl
@[simp] theorem modTx_vertex (p : Nat) (f : PortTx → PortTx) (d : Dev) : (modTx p f d).vertex = d.vertex := rfl
@[simp] theorem modTx_handover (p : Nat) (f : PortTx → PortTx) (d : Dev) : (modTx p f d).handover = d.handover := rfl
@[simp] theorem modTx_phase (p : Nat) (f : PortTx → PortTx) (d : Dev) : (modTx p f d).phase = d.phase := rfl
@[simp] theorem modTx_brownout (p : Nat) (f : PortTx → PortTx) (d : Dev) : (modTx p f d).brownout = d.brownout := rfl
@[simp] theorem modTx_startOwed (p : Nat) (f : PortTx → PortTx) (d : Dev) : (modTx p f d).startOwed = d.startOwed := rfl
@[simp] theorem modTx_prisms (p : Nat) (f : PortTx → PortTx) (d : Dev) : (modTx p f d).prisms = d.prisms := rfl
@[simp] theorem modTx_multi (p : Nat) (f : PortTx → PortTx) (d : Dev) : (modTx p f d).multi = d.multi := rfl
@[simp] theorem modTx_msgId (p : Nat) (f : PortTx → PortTx) (d : Dev) : (modTx p f d).msgId = d.msgId := rfl
@[simp] theorem modTx_msgOrder (p : Nat) (f : PortTx → PortTx) (d : Dev) : (modTx p f d).msgOrder = d.msgOrder := rfl
@[simp] theorem modTx_snapshots (p : Nat) (f : PortTx → PortTx) (d : Dev) : (modTx p f d).snapshots = d.snapshots := rfl
@[simp] theorem modTx_chords (p : Nat) (f : PortTx → PortTx) (d : Dev) : (modTx p f d).chords = d.chords := rfl
@[simp] theorem modTx_links (p : Nat) (f : PortTx → PortTx) (d : Dev) : (modTx p f d).links = d.links := rfl
@[simp] theorem modTx_lanes (p : Nat) (f : PortTx → PortTx) (d : Dev) : (modTx p f d).lanes = d.lanes := rfl
@[simp] theorem modTx_flows (p : Nat) (f : PortTx → PortTx) (d : Dev) : (modTx p f d).flows = d.flows := rfl
@[simp] theorem modTx_sources (p : Nat) (f : PortTx → PortTx) (d : Dev) : (modTx p f d).sources = d.sources := rfl
@[simp] theorem modTx_accepted (p : Nat) (f : PortTx → PortTx) (d : Dev) : (modTx p f d).accepted = d.accepted := rfl
@[simp] theorem modTx_egress (p : Nat) (f : PortTx → PortTx) (d : Dev) : (modTx p f d).egress = d.egress := rfl
@[simp] theorem modTx_faults (p : Nat) (f : PortTx → PortTx) (d : Dev) : (modTx p f d).faults = d.faults := rfl
@[simp] theorem modTx_bist (p : Nat) (f : PortTx → PortTx) (d : Dev) : (modTx p f d).bist = d.bist := rfl
@[simp] theorem modTx_power (p : Nat) (f : PortTx → PortTx) (d : Dev) : (modTx p f d).power = d.power := rfl
@[simp] theorem modTx_clashed (p : Nat) (f : PortTx → PortTx) (d : Dev) : (modTx p f d).clashed = d.clashed := rfl
@[simp] theorem modTx_cal (p : Nat) (f : PortTx → PortTx) (d : Dev) : (modTx p f d).cal = d.cal := rfl
@[simp] theorem modTx_scans (p : Nat) (f : PortTx → PortTx) (d : Dev) : (modTx p f d).scans = d.scans := rfl
@[simp] theorem modTx_life (p : Nat) (f : PortTx → PortTx) (d : Dev) : (modTx p f d).life = d.life := rfl
@[simp] theorem modTx_time (p : Nat) (f : PortTx → PortTx) (d : Dev) : (modTx p f d).time = d.time := rfl
@[simp] theorem modTx_wear (p : Nat) (f : PortTx → PortTx) (d : Dev) : (modTx p f d).wear = d.wear := rfl
@[simp] theorem modTx_aged (p : Nat) (f : PortTx → PortTx) (d : Dev) : (modTx p f d).aged = d.aged := rfl
@[simp] theorem modTx_hot (p : Nat) (f : PortTx → PortTx) (d : Dev) : (modTx p f d).hot = d.hot := rfl
@[simp] theorem modTx_tooHot (p : Nat) (f : PortTx → PortTx) (d : Dev) : (modTx p f d).tooHot = d.tooHot := rfl
@[simp] theorem modTx_shares (p : Nat) (f : PortTx → PortTx) (d : Dev) : (modTx p f d).shares = d.shares := rfl
@[simp] theorem modTx_strobe (p : Nat) (f : PortTx → PortTx) (d : Dev) : (modTx p f d).strobe = d.strobe := rfl
@[simp] theorem modTx_sawCoreOff (p : Nat) (f : PortTx → PortTx) (d : Dev) : (modTx p f d).sawCoreOff = d.sawCoreOff := rfl
@[simp] theorem modTx_sawResetN (p : Nat) (f : PortTx → PortTx) (d : Dev) : (modTx p f d).sawResetN = d.sawResetN := rfl
@[simp] theorem modTx_sawRail (p : Nat) (f : PortTx → PortTx) (d : Dev) : (modTx p f d).sawRail = d.sawRail := rfl
@[simp] theorem modTx_railsDown (p : Nat) (f : PortTx → PortTx) (d : Dev) : (modTx p f d).railsDown = d.railsDown := rfl
@[simp] theorem modTx_resetLow (p : Nat) (f : PortTx → PortTx) (d : Dev) : (modTx p f d).resetLow = d.resetLow := rfl
@[simp] theorem modTx_resuming (p : Nat) (f : PortTx → PortTx) (d : Dev) : (modTx p f d).resuming = d.resuming := rfl

@[simp] theorem modRecast_attrs (p : Nat) (f : Recast → Recast) (d : Dev) : (modRecast p f d).attrs = d.attrs := rfl
@[simp] theorem modRecast_blocks (p : Nat) (f : Recast → Recast) (d : Dev) : (modRecast p f d).blocks = d.blocks := rfl
@[simp] theorem modRecast_elapsed (p : Nat) (f : Recast → Recast) (d : Dev) : (modRecast p f d).elapsed = d.elapsed := rfl
@[simp] theorem modRecast_devTime (p : Nat) (f : Recast → Recast) (d : Dev) : (modRecast p f d).devTime = d.devTime := rfl
@[simp] theorem modRecast_timers (p : Nat) (f : Recast → Recast) (d : Dev) : (modRecast p f d).timers = d.timers := rfl
@[simp] theorem modRecast_freeCount (p : Nat) (f : Recast → Recast) (d : Dev) : (modRecast p f d).freeCount = d.freeCount := rfl
@[simp] theorem modRecast_masters (p : Nat) (f : Recast → Recast) (d : Dev) : (modRecast p f d).masters = d.masters := rfl
@[simp] theorem modRecast_waiting (p : Nat) (f : Recast → Recast) (d : Dev) : (modRecast p f d).waiting = d.waiting := rfl
@[simp] theorem modRecast_jobs (p : Nat) (f : Recast → Recast) (d : Dev) : (modRecast p f d).jobs = d.jobs := rfl
@[simp] theorem modRecast_held (p : Nat) (f : Recast → Recast) (d : Dev) : (modRecast p f d).held = d.held := rfl
@[simp] theorem modRecast_nextOrder (p : Nat) (f : Recast → Recast) (d : Dev) : (modRecast p f d).nextOrder = d.nextOrder := rfl
@[simp] theorem modRecast_vertex (p : Nat) (f : Recast → Recast) (d : Dev) : (modRecast p f d).vertex = d.vertex := rfl
@[simp] theorem modRecast_handover (p : Nat) (f : Recast → Recast) (d : Dev) : (modRecast p f d).handover = d.handover := rfl
@[simp] theorem modRecast_phase (p : Nat) (f : Recast → Recast) (d : Dev) : (modRecast p f d).phase = d.phase := rfl
@[simp] theorem modRecast_brownout (p : Nat) (f : Recast → Recast) (d : Dev) : (modRecast p f d).brownout = d.brownout := rfl
@[simp] theorem modRecast_startOwed (p : Nat) (f : Recast → Recast) (d : Dev) : (modRecast p f d).startOwed = d.startOwed := rfl
@[simp] theorem modRecast_prisms (p : Nat) (f : Recast → Recast) (d : Dev) : (modRecast p f d).prisms = d.prisms := rfl
@[simp] theorem modRecast_multi (p : Nat) (f : Recast → Recast) (d : Dev) : (modRecast p f d).multi = d.multi := rfl
@[simp] theorem modRecast_msgId (p : Nat) (f : Recast → Recast) (d : Dev) : (modRecast p f d).msgId = d.msgId := rfl
@[simp] theorem modRecast_msgOrder (p : Nat) (f : Recast → Recast) (d : Dev) : (modRecast p f d).msgOrder = d.msgOrder := rfl
@[simp] theorem modRecast_snapshots (p : Nat) (f : Recast → Recast) (d : Dev) : (modRecast p f d).snapshots = d.snapshots := rfl
@[simp] theorem modRecast_chords (p : Nat) (f : Recast → Recast) (d : Dev) : (modRecast p f d).chords = d.chords := rfl
@[simp] theorem modRecast_links (p : Nat) (f : Recast → Recast) (d : Dev) : (modRecast p f d).links = d.links := rfl
@[simp] theorem modRecast_lanes (p : Nat) (f : Recast → Recast) (d : Dev) : (modRecast p f d).lanes = d.lanes := rfl
@[simp] theorem modRecast_flows (p : Nat) (f : Recast → Recast) (d : Dev) : (modRecast p f d).flows = d.flows := rfl
@[simp] theorem modRecast_sources (p : Nat) (f : Recast → Recast) (d : Dev) : (modRecast p f d).sources = d.sources := rfl
@[simp] theorem modRecast_accepted (p : Nat) (f : Recast → Recast) (d : Dev) : (modRecast p f d).accepted = d.accepted := rfl
@[simp] theorem modRecast_egress (p : Nat) (f : Recast → Recast) (d : Dev) : (modRecast p f d).egress = d.egress := rfl
@[simp] theorem modRecast_faults (p : Nat) (f : Recast → Recast) (d : Dev) : (modRecast p f d).faults = d.faults := rfl
@[simp] theorem modRecast_bist (p : Nat) (f : Recast → Recast) (d : Dev) : (modRecast p f d).bist = d.bist := rfl
@[simp] theorem modRecast_power (p : Nat) (f : Recast → Recast) (d : Dev) : (modRecast p f d).power = d.power := rfl
@[simp] theorem modRecast_clashed (p : Nat) (f : Recast → Recast) (d : Dev) : (modRecast p f d).clashed = d.clashed := rfl
@[simp] theorem modRecast_cal (p : Nat) (f : Recast → Recast) (d : Dev) : (modRecast p f d).cal = d.cal := rfl
@[simp] theorem modRecast_scans (p : Nat) (f : Recast → Recast) (d : Dev) : (modRecast p f d).scans = d.scans := rfl
@[simp] theorem modRecast_life (p : Nat) (f : Recast → Recast) (d : Dev) : (modRecast p f d).life = d.life := rfl
@[simp] theorem modRecast_time (p : Nat) (f : Recast → Recast) (d : Dev) : (modRecast p f d).time = d.time := rfl
@[simp] theorem modRecast_wear (p : Nat) (f : Recast → Recast) (d : Dev) : (modRecast p f d).wear = d.wear := rfl
@[simp] theorem modRecast_aged (p : Nat) (f : Recast → Recast) (d : Dev) : (modRecast p f d).aged = d.aged := rfl
@[simp] theorem modRecast_hot (p : Nat) (f : Recast → Recast) (d : Dev) : (modRecast p f d).hot = d.hot := rfl
@[simp] theorem modRecast_tooHot (p : Nat) (f : Recast → Recast) (d : Dev) : (modRecast p f d).tooHot = d.tooHot := rfl
@[simp] theorem modRecast_shares (p : Nat) (f : Recast → Recast) (d : Dev) : (modRecast p f d).shares = d.shares := rfl
@[simp] theorem modRecast_strobe (p : Nat) (f : Recast → Recast) (d : Dev) : (modRecast p f d).strobe = d.strobe := rfl
@[simp] theorem modRecast_sawCoreOff (p : Nat) (f : Recast → Recast) (d : Dev) : (modRecast p f d).sawCoreOff = d.sawCoreOff := rfl
@[simp] theorem modRecast_sawResetN (p : Nat) (f : Recast → Recast) (d : Dev) : (modRecast p f d).sawResetN = d.sawResetN := rfl
@[simp] theorem modRecast_sawRail (p : Nat) (f : Recast → Recast) (d : Dev) : (modRecast p f d).sawRail = d.sawRail := rfl
@[simp] theorem modRecast_railsDown (p : Nat) (f : Recast → Recast) (d : Dev) : (modRecast p f d).railsDown = d.railsDown := rfl
@[simp] theorem modRecast_resetLow (p : Nat) (f : Recast → Recast) (d : Dev) : (modRecast p f d).resetLow = d.resetLow := rfl
@[simp] theorem modRecast_resuming (p : Nat) (f : Recast → Recast) (d : Dev) : (modRecast p f d).resuming = d.resuming := rfl

@[simp] theorem modTrain_attrs (p : Nat) (f : Training → Training) (d : Dev) : (modTrain p f d).attrs = d.attrs := rfl
@[simp] theorem modTrain_blocks (p : Nat) (f : Training → Training) (d : Dev) : (modTrain p f d).blocks = d.blocks := rfl
@[simp] theorem modTrain_elapsed (p : Nat) (f : Training → Training) (d : Dev) : (modTrain p f d).elapsed = d.elapsed := rfl
@[simp] theorem modTrain_devTime (p : Nat) (f : Training → Training) (d : Dev) : (modTrain p f d).devTime = d.devTime := rfl
@[simp] theorem modTrain_timers (p : Nat) (f : Training → Training) (d : Dev) : (modTrain p f d).timers = d.timers := rfl
@[simp] theorem modTrain_freeCount (p : Nat) (f : Training → Training) (d : Dev) : (modTrain p f d).freeCount = d.freeCount := rfl
@[simp] theorem modTrain_masters (p : Nat) (f : Training → Training) (d : Dev) : (modTrain p f d).masters = d.masters := rfl
@[simp] theorem modTrain_waiting (p : Nat) (f : Training → Training) (d : Dev) : (modTrain p f d).waiting = d.waiting := rfl
@[simp] theorem modTrain_jobs (p : Nat) (f : Training → Training) (d : Dev) : (modTrain p f d).jobs = d.jobs := rfl
@[simp] theorem modTrain_held (p : Nat) (f : Training → Training) (d : Dev) : (modTrain p f d).held = d.held := rfl
@[simp] theorem modTrain_nextOrder (p : Nat) (f : Training → Training) (d : Dev) : (modTrain p f d).nextOrder = d.nextOrder := rfl
@[simp] theorem modTrain_vertex (p : Nat) (f : Training → Training) (d : Dev) : (modTrain p f d).vertex = d.vertex := rfl
@[simp] theorem modTrain_handover (p : Nat) (f : Training → Training) (d : Dev) : (modTrain p f d).handover = d.handover := rfl
@[simp] theorem modTrain_phase (p : Nat) (f : Training → Training) (d : Dev) : (modTrain p f d).phase = d.phase := rfl
@[simp] theorem modTrain_brownout (p : Nat) (f : Training → Training) (d : Dev) : (modTrain p f d).brownout = d.brownout := rfl
@[simp] theorem modTrain_startOwed (p : Nat) (f : Training → Training) (d : Dev) : (modTrain p f d).startOwed = d.startOwed := rfl
@[simp] theorem modTrain_prisms (p : Nat) (f : Training → Training) (d : Dev) : (modTrain p f d).prisms = d.prisms := rfl
@[simp] theorem modTrain_multi (p : Nat) (f : Training → Training) (d : Dev) : (modTrain p f d).multi = d.multi := rfl
@[simp] theorem modTrain_msgId (p : Nat) (f : Training → Training) (d : Dev) : (modTrain p f d).msgId = d.msgId := rfl
@[simp] theorem modTrain_msgOrder (p : Nat) (f : Training → Training) (d : Dev) : (modTrain p f d).msgOrder = d.msgOrder := rfl
@[simp] theorem modTrain_snapshots (p : Nat) (f : Training → Training) (d : Dev) : (modTrain p f d).snapshots = d.snapshots := rfl
@[simp] theorem modTrain_chords (p : Nat) (f : Training → Training) (d : Dev) : (modTrain p f d).chords = d.chords := rfl
@[simp] theorem modTrain_links (p : Nat) (f : Training → Training) (d : Dev) : (modTrain p f d).links = d.links := rfl
@[simp] theorem modTrain_lanes (p : Nat) (f : Training → Training) (d : Dev) : (modTrain p f d).lanes = d.lanes := rfl
@[simp] theorem modTrain_flows (p : Nat) (f : Training → Training) (d : Dev) : (modTrain p f d).flows = d.flows := rfl
@[simp] theorem modTrain_sources (p : Nat) (f : Training → Training) (d : Dev) : (modTrain p f d).sources = d.sources := rfl
@[simp] theorem modTrain_accepted (p : Nat) (f : Training → Training) (d : Dev) : (modTrain p f d).accepted = d.accepted := rfl
@[simp] theorem modTrain_egress (p : Nat) (f : Training → Training) (d : Dev) : (modTrain p f d).egress = d.egress := rfl
@[simp] theorem modTrain_faults (p : Nat) (f : Training → Training) (d : Dev) : (modTrain p f d).faults = d.faults := rfl
@[simp] theorem modTrain_bist (p : Nat) (f : Training → Training) (d : Dev) : (modTrain p f d).bist = d.bist := rfl
@[simp] theorem modTrain_power (p : Nat) (f : Training → Training) (d : Dev) : (modTrain p f d).power = d.power := rfl
@[simp] theorem modTrain_clashed (p : Nat) (f : Training → Training) (d : Dev) : (modTrain p f d).clashed = d.clashed := rfl
@[simp] theorem modTrain_cal (p : Nat) (f : Training → Training) (d : Dev) : (modTrain p f d).cal = d.cal := rfl
@[simp] theorem modTrain_scans (p : Nat) (f : Training → Training) (d : Dev) : (modTrain p f d).scans = d.scans := rfl
@[simp] theorem modTrain_life (p : Nat) (f : Training → Training) (d : Dev) : (modTrain p f d).life = d.life := rfl
@[simp] theorem modTrain_time (p : Nat) (f : Training → Training) (d : Dev) : (modTrain p f d).time = d.time := rfl
@[simp] theorem modTrain_wear (p : Nat) (f : Training → Training) (d : Dev) : (modTrain p f d).wear = d.wear := rfl
@[simp] theorem modTrain_aged (p : Nat) (f : Training → Training) (d : Dev) : (modTrain p f d).aged = d.aged := rfl
@[simp] theorem modTrain_hot (p : Nat) (f : Training → Training) (d : Dev) : (modTrain p f d).hot = d.hot := rfl
@[simp] theorem modTrain_tooHot (p : Nat) (f : Training → Training) (d : Dev) : (modTrain p f d).tooHot = d.tooHot := rfl
@[simp] theorem modTrain_shares (p : Nat) (f : Training → Training) (d : Dev) : (modTrain p f d).shares = d.shares := rfl
@[simp] theorem modTrain_strobe (p : Nat) (f : Training → Training) (d : Dev) : (modTrain p f d).strobe = d.strobe := rfl
@[simp] theorem modTrain_sawCoreOff (p : Nat) (f : Training → Training) (d : Dev) : (modTrain p f d).sawCoreOff = d.sawCoreOff := rfl
@[simp] theorem modTrain_sawResetN (p : Nat) (f : Training → Training) (d : Dev) : (modTrain p f d).sawResetN = d.sawResetN := rfl
@[simp] theorem modTrain_sawRail (p : Nat) (f : Training → Training) (d : Dev) : (modTrain p f d).sawRail = d.sawRail := rfl
@[simp] theorem modTrain_railsDown (p : Nat) (f : Training → Training) (d : Dev) : (modTrain p f d).railsDown = d.railsDown := rfl
@[simp] theorem modTrain_resetLow (p : Nat) (f : Training → Training) (d : Dev) : (modTrain p f d).resetLow = d.resetLow := rfl
@[simp] theorem modTrain_resuming (p : Nat) (f : Training → Training) (d : Dev) : (modTrain p f d).resuming = d.resuming := rfl

@[simp] theorem modSvc_attrs (p : Nat) (f : Svc → Svc) (d : Dev) : (modSvc p f d).attrs = d.attrs := rfl
@[simp] theorem modSvc_blocks (p : Nat) (f : Svc → Svc) (d : Dev) : (modSvc p f d).blocks = d.blocks := rfl
@[simp] theorem modSvc_elapsed (p : Nat) (f : Svc → Svc) (d : Dev) : (modSvc p f d).elapsed = d.elapsed := rfl
@[simp] theorem modSvc_devTime (p : Nat) (f : Svc → Svc) (d : Dev) : (modSvc p f d).devTime = d.devTime := rfl
@[simp] theorem modSvc_timers (p : Nat) (f : Svc → Svc) (d : Dev) : (modSvc p f d).timers = d.timers := rfl
@[simp] theorem modSvc_freeCount (p : Nat) (f : Svc → Svc) (d : Dev) : (modSvc p f d).freeCount = d.freeCount := rfl
@[simp] theorem modSvc_masters (p : Nat) (f : Svc → Svc) (d : Dev) : (modSvc p f d).masters = d.masters := rfl
@[simp] theorem modSvc_waiting (p : Nat) (f : Svc → Svc) (d : Dev) : (modSvc p f d).waiting = d.waiting := rfl
@[simp] theorem modSvc_jobs (p : Nat) (f : Svc → Svc) (d : Dev) : (modSvc p f d).jobs = d.jobs := rfl
@[simp] theorem modSvc_held (p : Nat) (f : Svc → Svc) (d : Dev) : (modSvc p f d).held = d.held := rfl
@[simp] theorem modSvc_nextOrder (p : Nat) (f : Svc → Svc) (d : Dev) : (modSvc p f d).nextOrder = d.nextOrder := rfl
@[simp] theorem modSvc_vertex (p : Nat) (f : Svc → Svc) (d : Dev) : (modSvc p f d).vertex = d.vertex := rfl
@[simp] theorem modSvc_handover (p : Nat) (f : Svc → Svc) (d : Dev) : (modSvc p f d).handover = d.handover := rfl
@[simp] theorem modSvc_phase (p : Nat) (f : Svc → Svc) (d : Dev) : (modSvc p f d).phase = d.phase := rfl
@[simp] theorem modSvc_brownout (p : Nat) (f : Svc → Svc) (d : Dev) : (modSvc p f d).brownout = d.brownout := rfl
@[simp] theorem modSvc_startOwed (p : Nat) (f : Svc → Svc) (d : Dev) : (modSvc p f d).startOwed = d.startOwed := rfl
@[simp] theorem modSvc_prisms (p : Nat) (f : Svc → Svc) (d : Dev) : (modSvc p f d).prisms = d.prisms := rfl
@[simp] theorem modSvc_multi (p : Nat) (f : Svc → Svc) (d : Dev) : (modSvc p f d).multi = d.multi := rfl
@[simp] theorem modSvc_msgId (p : Nat) (f : Svc → Svc) (d : Dev) : (modSvc p f d).msgId = d.msgId := rfl
@[simp] theorem modSvc_msgOrder (p : Nat) (f : Svc → Svc) (d : Dev) : (modSvc p f d).msgOrder = d.msgOrder := rfl
@[simp] theorem modSvc_snapshots (p : Nat) (f : Svc → Svc) (d : Dev) : (modSvc p f d).snapshots = d.snapshots := rfl
@[simp] theorem modSvc_chords (p : Nat) (f : Svc → Svc) (d : Dev) : (modSvc p f d).chords = d.chords := rfl
@[simp] theorem modSvc_links (p : Nat) (f : Svc → Svc) (d : Dev) : (modSvc p f d).links = d.links := rfl
@[simp] theorem modSvc_lanes (p : Nat) (f : Svc → Svc) (d : Dev) : (modSvc p f d).lanes = d.lanes := rfl
@[simp] theorem modSvc_flows (p : Nat) (f : Svc → Svc) (d : Dev) : (modSvc p f d).flows = d.flows := rfl
@[simp] theorem modSvc_sources (p : Nat) (f : Svc → Svc) (d : Dev) : (modSvc p f d).sources = d.sources := rfl
@[simp] theorem modSvc_accepted (p : Nat) (f : Svc → Svc) (d : Dev) : (modSvc p f d).accepted = d.accepted := rfl
@[simp] theorem modSvc_egress (p : Nat) (f : Svc → Svc) (d : Dev) : (modSvc p f d).egress = d.egress := rfl
@[simp] theorem modSvc_faults (p : Nat) (f : Svc → Svc) (d : Dev) : (modSvc p f d).faults = d.faults := rfl
@[simp] theorem modSvc_bist (p : Nat) (f : Svc → Svc) (d : Dev) : (modSvc p f d).bist = d.bist := rfl
@[simp] theorem modSvc_power (p : Nat) (f : Svc → Svc) (d : Dev) : (modSvc p f d).power = d.power := rfl
@[simp] theorem modSvc_clashed (p : Nat) (f : Svc → Svc) (d : Dev) : (modSvc p f d).clashed = d.clashed := rfl
@[simp] theorem modSvc_cal (p : Nat) (f : Svc → Svc) (d : Dev) : (modSvc p f d).cal = d.cal := rfl
@[simp] theorem modSvc_scans (p : Nat) (f : Svc → Svc) (d : Dev) : (modSvc p f d).scans = d.scans := rfl
@[simp] theorem modSvc_life (p : Nat) (f : Svc → Svc) (d : Dev) : (modSvc p f d).life = d.life := rfl
@[simp] theorem modSvc_time (p : Nat) (f : Svc → Svc) (d : Dev) : (modSvc p f d).time = d.time := rfl
@[simp] theorem modSvc_wear (p : Nat) (f : Svc → Svc) (d : Dev) : (modSvc p f d).wear = d.wear := rfl
@[simp] theorem modSvc_aged (p : Nat) (f : Svc → Svc) (d : Dev) : (modSvc p f d).aged = d.aged := rfl
@[simp] theorem modSvc_hot (p : Nat) (f : Svc → Svc) (d : Dev) : (modSvc p f d).hot = d.hot := rfl
@[simp] theorem modSvc_tooHot (p : Nat) (f : Svc → Svc) (d : Dev) : (modSvc p f d).tooHot = d.tooHot := rfl
@[simp] theorem modSvc_shares (p : Nat) (f : Svc → Svc) (d : Dev) : (modSvc p f d).shares = d.shares := rfl
@[simp] theorem modSvc_strobe (p : Nat) (f : Svc → Svc) (d : Dev) : (modSvc p f d).strobe = d.strobe := rfl
@[simp] theorem modSvc_sawCoreOff (p : Nat) (f : Svc → Svc) (d : Dev) : (modSvc p f d).sawCoreOff = d.sawCoreOff := rfl
@[simp] theorem modSvc_sawResetN (p : Nat) (f : Svc → Svc) (d : Dev) : (modSvc p f d).sawResetN = d.sawResetN := rfl
@[simp] theorem modSvc_sawRail (p : Nat) (f : Svc → Svc) (d : Dev) : (modSvc p f d).sawRail = d.sawRail := rfl
@[simp] theorem modSvc_railsDown (p : Nat) (f : Svc → Svc) (d : Dev) : (modSvc p f d).railsDown = d.railsDown := rfl
@[simp] theorem modSvc_resetLow (p : Nat) (f : Svc → Svc) (d : Dev) : (modSvc p f d).resetLow = d.resetLow := rfl
@[simp] theorem modSvc_resuming (p : Nat) (f : Svc → Svc) (d : Dev) : (modSvc p f d).resuming = d.resuming := rfl

@[simp] theorem modQuiet_attrs (p : Nat) (f : QuietState → QuietState) (d : Dev) : (modQuiet p f d).attrs = d.attrs := rfl
@[simp] theorem modQuiet_blocks (p : Nat) (f : QuietState → QuietState) (d : Dev) : (modQuiet p f d).blocks = d.blocks := rfl
@[simp] theorem modQuiet_elapsed (p : Nat) (f : QuietState → QuietState) (d : Dev) : (modQuiet p f d).elapsed = d.elapsed := rfl
@[simp] theorem modQuiet_devTime (p : Nat) (f : QuietState → QuietState) (d : Dev) : (modQuiet p f d).devTime = d.devTime := rfl
@[simp] theorem modQuiet_timers (p : Nat) (f : QuietState → QuietState) (d : Dev) : (modQuiet p f d).timers = d.timers := rfl
@[simp] theorem modQuiet_freeCount (p : Nat) (f : QuietState → QuietState) (d : Dev) : (modQuiet p f d).freeCount = d.freeCount := rfl
@[simp] theorem modQuiet_masters (p : Nat) (f : QuietState → QuietState) (d : Dev) : (modQuiet p f d).masters = d.masters := rfl
@[simp] theorem modQuiet_waiting (p : Nat) (f : QuietState → QuietState) (d : Dev) : (modQuiet p f d).waiting = d.waiting := rfl
@[simp] theorem modQuiet_jobs (p : Nat) (f : QuietState → QuietState) (d : Dev) : (modQuiet p f d).jobs = d.jobs := rfl
@[simp] theorem modQuiet_held (p : Nat) (f : QuietState → QuietState) (d : Dev) : (modQuiet p f d).held = d.held := rfl
@[simp] theorem modQuiet_nextOrder (p : Nat) (f : QuietState → QuietState) (d : Dev) : (modQuiet p f d).nextOrder = d.nextOrder := rfl
@[simp] theorem modQuiet_vertex (p : Nat) (f : QuietState → QuietState) (d : Dev) : (modQuiet p f d).vertex = d.vertex := rfl
@[simp] theorem modQuiet_handover (p : Nat) (f : QuietState → QuietState) (d : Dev) : (modQuiet p f d).handover = d.handover := rfl
@[simp] theorem modQuiet_phase (p : Nat) (f : QuietState → QuietState) (d : Dev) : (modQuiet p f d).phase = d.phase := rfl
@[simp] theorem modQuiet_brownout (p : Nat) (f : QuietState → QuietState) (d : Dev) : (modQuiet p f d).brownout = d.brownout := rfl
@[simp] theorem modQuiet_startOwed (p : Nat) (f : QuietState → QuietState) (d : Dev) : (modQuiet p f d).startOwed = d.startOwed := rfl
@[simp] theorem modQuiet_prisms (p : Nat) (f : QuietState → QuietState) (d : Dev) : (modQuiet p f d).prisms = d.prisms := rfl
@[simp] theorem modQuiet_multi (p : Nat) (f : QuietState → QuietState) (d : Dev) : (modQuiet p f d).multi = d.multi := rfl
@[simp] theorem modQuiet_msgId (p : Nat) (f : QuietState → QuietState) (d : Dev) : (modQuiet p f d).msgId = d.msgId := rfl
@[simp] theorem modQuiet_msgOrder (p : Nat) (f : QuietState → QuietState) (d : Dev) : (modQuiet p f d).msgOrder = d.msgOrder := rfl
@[simp] theorem modQuiet_snapshots (p : Nat) (f : QuietState → QuietState) (d : Dev) : (modQuiet p f d).snapshots = d.snapshots := rfl
@[simp] theorem modQuiet_chords (p : Nat) (f : QuietState → QuietState) (d : Dev) : (modQuiet p f d).chords = d.chords := rfl
@[simp] theorem modQuiet_links (p : Nat) (f : QuietState → QuietState) (d : Dev) : (modQuiet p f d).links = d.links := rfl
@[simp] theorem modQuiet_lanes (p : Nat) (f : QuietState → QuietState) (d : Dev) : (modQuiet p f d).lanes = d.lanes := rfl
@[simp] theorem modQuiet_flows (p : Nat) (f : QuietState → QuietState) (d : Dev) : (modQuiet p f d).flows = d.flows := rfl
@[simp] theorem modQuiet_sources (p : Nat) (f : QuietState → QuietState) (d : Dev) : (modQuiet p f d).sources = d.sources := rfl
@[simp] theorem modQuiet_accepted (p : Nat) (f : QuietState → QuietState) (d : Dev) : (modQuiet p f d).accepted = d.accepted := rfl
@[simp] theorem modQuiet_egress (p : Nat) (f : QuietState → QuietState) (d : Dev) : (modQuiet p f d).egress = d.egress := rfl
@[simp] theorem modQuiet_faults (p : Nat) (f : QuietState → QuietState) (d : Dev) : (modQuiet p f d).faults = d.faults := rfl
@[simp] theorem modQuiet_bist (p : Nat) (f : QuietState → QuietState) (d : Dev) : (modQuiet p f d).bist = d.bist := rfl
@[simp] theorem modQuiet_power (p : Nat) (f : QuietState → QuietState) (d : Dev) : (modQuiet p f d).power = d.power := rfl
@[simp] theorem modQuiet_clashed (p : Nat) (f : QuietState → QuietState) (d : Dev) : (modQuiet p f d).clashed = d.clashed := rfl
@[simp] theorem modQuiet_cal (p : Nat) (f : QuietState → QuietState) (d : Dev) : (modQuiet p f d).cal = d.cal := rfl
@[simp] theorem modQuiet_scans (p : Nat) (f : QuietState → QuietState) (d : Dev) : (modQuiet p f d).scans = d.scans := rfl
@[simp] theorem modQuiet_life (p : Nat) (f : QuietState → QuietState) (d : Dev) : (modQuiet p f d).life = d.life := rfl
@[simp] theorem modQuiet_time (p : Nat) (f : QuietState → QuietState) (d : Dev) : (modQuiet p f d).time = d.time := rfl
@[simp] theorem modQuiet_wear (p : Nat) (f : QuietState → QuietState) (d : Dev) : (modQuiet p f d).wear = d.wear := rfl
@[simp] theorem modQuiet_aged (p : Nat) (f : QuietState → QuietState) (d : Dev) : (modQuiet p f d).aged = d.aged := rfl
@[simp] theorem modQuiet_hot (p : Nat) (f : QuietState → QuietState) (d : Dev) : (modQuiet p f d).hot = d.hot := rfl
@[simp] theorem modQuiet_tooHot (p : Nat) (f : QuietState → QuietState) (d : Dev) : (modQuiet p f d).tooHot = d.tooHot := rfl
@[simp] theorem modQuiet_shares (p : Nat) (f : QuietState → QuietState) (d : Dev) : (modQuiet p f d).shares = d.shares := rfl
@[simp] theorem modQuiet_strobe (p : Nat) (f : QuietState → QuietState) (d : Dev) : (modQuiet p f d).strobe = d.strobe := rfl
@[simp] theorem modQuiet_sawCoreOff (p : Nat) (f : QuietState → QuietState) (d : Dev) : (modQuiet p f d).sawCoreOff = d.sawCoreOff := rfl
@[simp] theorem modQuiet_sawResetN (p : Nat) (f : QuietState → QuietState) (d : Dev) : (modQuiet p f d).sawResetN = d.sawResetN := rfl
@[simp] theorem modQuiet_sawRail (p : Nat) (f : QuietState → QuietState) (d : Dev) : (modQuiet p f d).sawRail = d.sawRail := rfl
@[simp] theorem modQuiet_railsDown (p : Nat) (f : QuietState → QuietState) (d : Dev) : (modQuiet p f d).railsDown = d.railsDown := rfl
@[simp] theorem modQuiet_resetLow (p : Nat) (f : QuietState → QuietState) (d : Dev) : (modQuiet p f d).resetLow = d.resetLow := rfl
@[simp] theorem modQuiet_resuming (p : Nat) (f : QuietState → QuietState) (d : Dev) : (modQuiet p f d).resuming = d.resuming := rfl

/-! ### Units -/

@[simp] theorem prism_modPrism (m : Nat) (f : Prism → Prism) (d : Dev) : prism (modPrism m f d) m = f (prism d m) := by simp [prism, modPrism]

theorem prism_modPrism_ne {m n : Nat} (f : Prism → Prism) (d : Dev) (h : n ≠ m) : prism (modPrism m f d) n = prism d n := bankGet_put_ne _ _ _ h

@[simp] theorem source_modSource (n : Nat) (f : HubSource → HubSource) (d : Dev) : source (modSource n f d) n = f (source d n) := by
  simp [source, modSource]

theorem source_modSource_ne {m n : Nat} (f : HubSource → HubSource) (d : Dev) (h : n ≠ m) : source (modSource m f d) n = source d n :=
  bankGet_put_ne _ _ _ h

@[simp] theorem port_modPort (p : Nat) (f : Port → Port) (d : Dev) : port (modPort p f d) p = f (port d p) := by simp [modPort]

theorem port_modPort_ne {p q : Nat} (f : Port → Port) (d : Dev) (h : q ≠ p) : port (modPort p f d) q = port d q := port_setPort_ne _ d h

@[simp] theorem port_modRx (p : Nat) (f : PortRx → PortRx) (d : Dev) : port (modRx p f d) p = { port d p with rx := f (port d p).rx } := by
  simp [modRx]

theorem port_modRx_ne {p q : Nat} (f : PortRx → PortRx) (d : Dev) (h : q ≠ p) : port (modRx p f d) q = port d q := port_modPort_ne _ d h

@[simp] theorem port_modTx (p : Nat) (f : PortTx → PortTx) (d : Dev) : port (modTx p f d) p = { port d p with tx := f (port d p).tx } := by
  simp [modTx]

theorem port_modTx_ne {p q : Nat} (f : PortTx → PortTx) (d : Dev) (h : q ≠ p) : port (modTx p f d) q = port d q := port_modPort_ne _ d h

@[simp] theorem port_modRecast (p : Nat) (f : Recast → Recast) (d : Dev) : port (modRecast p f d) p = { port d p with recast := f (port d p).recast } := by
  simp [modRecast]

theorem port_modRecast_ne {p q : Nat} (f : Recast → Recast) (d : Dev) (h : q ≠ p) : port (modRecast p f d) q = port d q := port_modPort_ne _ d h

@[simp] theorem port_modTrain (p : Nat) (f : Training → Training) (d : Dev) : port (modTrain p f d) p = { port d p with train := f (port d p).train } := by
  simp [modTrain]

theorem port_modTrain_ne {p q : Nat} (f : Training → Training) (d : Dev) (h : q ≠ p) : port (modTrain p f d) q = port d q := port_modPort_ne _ d h

@[simp] theorem port_modSvc (p : Nat) (f : Svc → Svc) (d : Dev) : port (modSvc p f d) p = { port d p with svc := f (port d p).svc } := by
  simp [modSvc]

theorem port_modSvc_ne {p q : Nat} (f : Svc → Svc) (d : Dev) (h : q ≠ p) : port (modSvc p f d) q = port d q := port_modPort_ne _ d h

@[simp] theorem port_modQuiet (p : Nat) (f : QuietState → QuietState) (d : Dev) : port (modQuiet p f d) p = { port d p with quiet := f (port d p).quiet } := by
  simp [modQuiet]

theorem port_modQuiet_ne {p q : Nat} (f : QuietState → QuietState) (d : Dev) (h : q ≠ p) : port (modQuiet p f d) q = port d q := port_modPort_ne _ d h

end Sys2Proof.Machine
end

