-- ==== Sys2Proof/Laws/Adapt.lean ====
section
/-! SUPPORT. Laws/Adapt.lean: what a received symbol can change (the receiver of its own port), and the limits that R97 sets to a change of a
coefficient. -/

namespace Sys2Proof.Machine

/-- R97: a bounded step is at most 2^-k of the coefficient, as squares. -/
theorem boundStep_le (k : Nat) (c : Cx) (n : Nat) (s : Cx) : cxNorm (boundStep k c n s) * 4 ^ k ≤ cxNorm c := by
  induction n generalizing s with
  | zero => simp [boundStep, cxNorm]
  | succ n ih =>
    unfold boundStep
    split
    · assumption
    · exact ih _

/-- R97: where coefficients stand still nothing is added. -/
@[simp] theorem heldStep_frozen (c s : Cx) : heldStep .frozen c s = (0, 0) := rfl

@[simp] theorem heldStep_free (c s : Cx) : heldStep .free c s = s := rfl

theorem heldStep_bounded_le (k : Nat) (c s : Cx) : cxNorm (heldStep (.bounded k) c s) * 4 ^ k ≤ cxNorm c := boundStep_le k c 64 s

/-- R423, R87: out of TRAIN, CARRY and sending in QUIET, and in hold-over, no coefficient may change. -/
theorem stepLimit_frozen {d : Dev} {p : Nat} (h : adapts d p = false) (slot : Nat) (x : AdaptItem) : stepLimit d p slot x = .frozen := by
  simp [stepLimit, h]

/-- A change of a coefficient touches the receiver of its port alone. -/
theorem applyStep_eq (p slot : Nat) (x : AdaptStep) (d : Dev) : ∃ f, applyStep p slot x d = modRx p f d := by
  unfold applyStep
  exact ⟨_, rfl⟩

/-- A received symbol touches the receiver of its port alone. -/
theorem receiveSymbol_eq (p slot : Nat) (tones : List (Nat × Cx)) (steps : List AdaptStep) (d : Dev) :
    (∃ ps, receiveSymbol p slot tones steps d = { d with ports := ps }) ∧ ∀ q, q ≠ p → port (receiveSymbol p slot tones steps d) q = port d q := by
  have fold : ∀ (l : List AdaptStep) (e : Dev),
      (∃ ps, l.foldl (fun e x => applyStep p slot x e) e = { e with ports := ps })
        ∧ ∀ q, q ≠ p → port (l.foldl (fun e x => applyStep p slot x e) e) q = port e q := by
    intro l
    induction l with
    | nil => exact fun e => ⟨⟨e.ports, rfl⟩, fun _ _ => rfl⟩
    | cons x l ih =>
      intro e
      obtain ⟨f, hf⟩ := applyStep_eq p slot x e
      obtain ⟨⟨ps, h1⟩, h2⟩ := ih (modRx p f e)
      simp only [List.foldl_cons, hf]
      exact ⟨⟨ps, h1⟩, fun q hq => (h2 q hq).trans (port_modRx_ne f e hq)⟩
  simp only [receiveSymbol]
  split
  · obtain ⟨⟨ps, h1⟩, h2⟩ := fold steps (modRx p (fun r => { r with received := demapped d p slot tones }) d)
    exact ⟨⟨ps, h1⟩, fun q hq => (h2 q hq).trans (port_modRx_ne _ d hq)⟩
  · exact ⟨⟨d.ports, rfl⟩, fun _ _ => rfl⟩

/-- R77: installing the shadow filter touches its port's receiver and its two attributes. -/
theorem installShadow_ports_ne {p q : Nat} (d : Dev) (h : q ≠ p) : port (installShadow p d) q = port d q := by
  unfold installShadow
  split
  · rfl
  · split
    · exact port_modRx_ne _ d h
    · split
      · rfl
      · simp only [port, bump, setAttrInt, setAttr_ports]
        exact port_modRx_ne _ d h

end Sys2Proof.Machine
end

