-- ==== Sys2Proof/Laws/Memory.lean ====
section
/-! SUPPORT. Laws/Memory.lean: the addressed memory: reads after writes, and the canonical form kept by every operation. -/

namespace Sys2Proof.Machine

@[simp] theorem memGet_put_same (m : List Host.Cell) (a : Nat) (b : Byte) : memGet (memPut m a b) a = b := bankGet_put_same _ _ _ _

theorem memGet_put_ne (m : List Host.Cell) {a i : Nat} (b : Byte) (h : i ≠ a) : memGet (memPut m a b) i = memGet m i := bankGet_put_ne _ _ _ h

theorem memWf_put (m : List Host.Cell) (a : Nat) (b : Byte) (h : memWf m = true) : memWf (memPut m a b) = true := bankWf_put _ _ _ _ h

/-- Bytes outside those written read as before. -/
theorem memGet_write_ne : ∀ (bs : List Byte) (m : List Host.Cell) (a i : Nat), (i < a ∨ a + bs.length ≤ i) → memGet (memWrite m a bs) i = memGet m i
  | [], _, _, _, _ => rfl
  | b :: r, m, a, i, h => by
    simp only [List.length_cons] at h
    rw [memWrite, memGet_write_ne r _ _ _ (by omega), memGet_put_ne _ _ (by omega)]

/-- A byte written reads back. -/
theorem memGet_write_at : ∀ (bs : List Byte) (m : List Host.Cell) (a k : Nat), k < bs.length → memGet (memWrite m a bs) (a + k) = bs.getD k 0#8
  | [], _, _, _, h => by simp at h
  | b :: r, m, a, 0, _ => by
    rw [memWrite, memGet_write_ne r _ _ _ (by omega)]; simp
  | b :: r, m, a, k + 1, h => by
    simp only [List.length_cons] at h
    rw [memWrite, show a + (k + 1) = a + 1 + k by omega, memGet_write_at r _ _ k (by omega)]; simp

theorem memWf_write : ∀ (bs : List Byte) (m : List Host.Cell) (a : Nat), memWf m = true → memWf (memWrite m a bs) = true
  | [], _, _, h => h
  | b :: r, m, a, h => memWf_write r _ _ (memWf_put m a b h)

theorem memWf_erase (m : List Host.Cell) (a n : Nat) (h : memWf m = true) : memWf (memErase m a n) = true := bankWf_filter _ _ m h

/-- An erased byte reads as one that nothing has written. -/
theorem memGet_erase_in (m : List Host.Cell) (a n i : Nat) (h : a ≤ i) (h' : i < a + n) : memGet (memErase m a n) i = memDefault := by
  unfold memGet memErase
  induction m with
  | nil => rfl
  | cons e r ih =>
    obtain ⟨j, v⟩ := e
    rw [List.filter_cons]
    split
    · rename_i hj
      simp only [Bool.or_eq_true, decide_eq_true_eq] at hj
      rw [bankGet, if_neg (by omega), ih]
    · exact ih

theorem memGet_erase_out (m : List Host.Cell) (a n i : Nat) (h : i < a ∨ a + n ≤ i) : memGet (memErase m a n) i = memGet m i := by
  unfold memGet memErase
  induction m with
  | nil => rfl
  | cons e r ih =>
    obtain ⟨j, v⟩ := e
    rw [List.filter_cons, bankGet]
    split
    · rw [bankGet, ih]
    · rename_i hj
      simp only [Bool.or_eq_true, decide_eq_true_eq] at hj
      rw [ih, if_neg (by omega)]

/-- Every change a command makes keeps the canonical form. -/
theorem memWf_apply : ∀ (w : MemOp) (m : List Host.Cell), memWf m = true → memWf (applyMemOp m w) = true
  | .keep, _, h => h
  | .write a bs, m, h => memWf_write bs m a h
  | .erase a n, m, h => memWf_erase m a n h
  | .both x y, m, h => memWf_apply y _ (memWf_apply x m h)

end Sys2Proof.Machine
end

