-- ==== Sys2Proof/Laws/Ops.lean ====
section
/-! SUPPORT. Laws/Ops.lean: what raising an event, completing a command and answering a request can do, said once. -/

namespace Sys2Proof.Machine

/-! ### Signalling and events -/

/-- A signal is kept with its master. -/
theorem signal_eq (m : Nat) (d : Dev) : ∃ xs, signal m d = { d with masters := xs } := by
  unfold signal
  dsimp only
  split
  · exact ⟨d.masters, rfl⟩
  · split
    · split <;> exact ⟨_, rfl⟩
    · exact ⟨_, rfl⟩

/-- An attribute that no event touches. -/
def noEventAttr (b : Attr) : Prop :=
  b.code < 2 ^ 24 ∧ b.code ≠ DEVICE_EVENT_SEQ_NEXT.code ∧ b.code ≠ EVENTQ_QUEUED.code ∧ b.code ≠ EVENTQ_LOST.code

/-- The same block but for queues, their counters and their signal timers. -/
def EventFrame (d e : Dev) : Prop :=
  (∃ as xs ts, e = { d with attrs := as, masters := xs, timers := ts }) ∧ ∀ b i, noEventAttr b → attr e b i = attr d b i

theorem EventFrame.refl (d : Dev) : EventFrame d d := ⟨⟨d.attrs, d.masters, d.timers, rfl⟩, fun _ _ _ => rfl⟩

theorem EventFrame.trans {d e f : Dev} (h : EventFrame d e) (k : EventFrame e f) : EventFrame d f := by
  obtain ⟨⟨a, x, t, rfl⟩, ha⟩ := h
  obtain ⟨⟨b, y, u, rfl⟩, hb⟩ := k
  exact ⟨⟨_, _, _, rfl⟩, fun c i hc => (hb c i hc).trans (ha c i hc)⟩

theorem eventFrame_signal (m : Nat) (d : Dev) : EventFrame d (signal m d) := by
  obtain ⟨xs, h⟩ := signal_eq m d
  rw [h]; exact ⟨⟨d.attrs, xs, d.timers, rfl⟩, fun _ _ _ => rfl⟩

theorem eventFrame_setMaster (m : Nat) (x : Master) (d : Dev) : EventFrame d (setMaster m x d) := ⟨⟨d.attrs, _, d.timers, rfl⟩, fun _ _ _ => rfl⟩

theorem eventFrame_arm (k i n : Nat) (d : Dev) : EventFrame d (arm k i n d) := ⟨⟨d.attrs, d.masters, _, rfl⟩, fun _ _ _ => rfl⟩

theorem eventFrame_disarm (k i : Nat) (d : Dev) : EventFrame d (disarm k i d) := ⟨⟨d.attrs, d.masters, _, rfl⟩, fun _ _ _ => rfl⟩

theorem eventFrame_setAttr (a : Attr) (i v : Nat) (d : Dev) (h : a.code = DEVICE_EVENT_SEQ_NEXT.code ∨ a.code = EVENTQ_QUEUED.code ∨ a.code = EVENTQ_LOST.code)
    (ha : a.code < 2 ^ 24) : EventFrame d (setAttr a i v d) := by
  refine ⟨⟨_, d.masters, d.timers, rfl⟩, fun b j hb => ?_⟩
  refine attr_setAttr_ne i v j d (fun e => ?_) ha hb.1
  obtain ⟨_, h1, h2, h3⟩ := hb
  rw [e] at h1 h2 h3
  rcases h with h | h | h
  · exact h1 h
  · exact h2 h
  · exact h3 h

theorem eventFrame_enqueue (m : Nat) (r : EventRec) (d : Dev) : EventFrame d (enqueue m r d) := by
  have hq : ∀ e, EventFrame e (bump EVENTQ_QUEUED m 1 e) := fun e => eventFrame_setAttr _ _ _ _ (.inr (.inl rfl)) (by decide)
  have hl : ∀ e, EventFrame e (bump EVENTQ_LOST m 1 e) := fun e => eventFrame_setAttr _ _ _ _ (.inr (.inr rfl)) (by decide)
  unfold enqueue
  simp only
  split
  · split
    · exact ((eventFrame_setMaster _ _ _).trans (hq _)).trans ((eventFrame_signal _ _).trans (eventFrame_arm _ _ _ _))
    · exact (eventFrame_setMaster _ _ _).trans (hq _)
  · split
    · split
      · exact (eventFrame_setMaster _ _ _).trans (hl _)
      · exact (eventFrame_setMaster _ _ _).trans ((hl _).trans ((hq _).trans (eventFrame_signal _ _)))
    · exact EventFrame.refl d

theorem eventFrame_forAll (f : Nat → Dev → Dev) (h : ∀ i e, EventFrame e (f i e)) : ∀ (l : List Nat) (d : Dev), EventFrame d (forAll l f d)
  | [], d => EventFrame.refl d
  | i :: r, d => (h i d).trans (eventFrame_forAll f h r (f i d))

theorem eventFrame_raiseTo (ms : List Nat) (cls inst type detail : Nat) (d : Dev) : EventFrame d (raiseTo ms cls inst type detail d) := by
  unfold raiseTo
  split
  · exact EventFrame.refl d
  · exact (eventFrame_setAttr _ _ _ _ (.inl rfl) (by decide)).trans (eventFrame_forAll _ (fun _ _ => eventFrame_enqueue _ _ _) _ _)

theorem eventFrame_raise (cls inst type detail : Nat) (d : Dev) : EventFrame d (raise cls inst type detail d) := eventFrame_raiseTo _ _ _ _ _ _

theorem eventFrame_raiseAll (cls inst type detail : Nat) (d : Dev) : EventFrame d (raiseAll cls inst type detail d) := eventFrame_raiseTo _ _ _ _ _ _

/-- An attribute that no event touches reads as before. -/
theorem attr_raise (cls inst type detail : Nat) (d : Dev) (b : Attr) (i : Nat) (h : noEventAttr b) :
    attr (raise cls inst type detail d) b i = attr d b i := (eventFrame_raise cls inst type detail d).2 b i h

theorem attr_raiseAll (cls inst type detail : Nat) (d : Dev) (b : Attr) (i : Nat) (h : noEventAttr b) :
    attr (raiseAll cls inst type detail d) b i = attr d b i := (eventFrame_raiseAll cls inst type detail d).2 b i h

@[simp] theorem raise_blocks (c i t x : Nat) (d : Dev) : (raise c i t x d).blocks = d.blocks := by
  obtain ⟨⟨_, _, _, h⟩, _⟩ := eventFrame_raise c i t x d; rw [h]
@[simp] theorem raiseAll_blocks (c i t x : Nat) (d : Dev) : (raiseAll c i t x d).blocks = d.blocks := by
  obtain ⟨⟨_, _, _, h⟩, _⟩ := eventFrame_raiseAll c i t x d; rw [h]
@[simp] theorem raise_elapsed (c i t x : Nat) (d : Dev) : (raise c i t x d).elapsed = d.elapsed := by
  obtain ⟨⟨_, _, _, h⟩, _⟩ := eventFrame_raise c i t x d; rw [h]
@[simp] theorem raiseAll_elapsed (c i t x : Nat) (d : Dev) : (raiseAll c i t x d).elapsed = d.elapsed := by
  obtain ⟨⟨_, _, _, h⟩, _⟩ := eventFrame_raiseAll c i t x d; rw [h]
@[simp] theorem raise_devTime (c i t x : Nat) (d : Dev) : (raise c i t x d).devTime = d.devTime := by
  obtain ⟨⟨_, _, _, h⟩, _⟩ := eventFrame_raise c i t x d; rw [h]
@[simp] theorem raiseAll_devTime (c i t x : Nat) (d : Dev) : (raiseAll c i t x d).devTime = d.devTime := by
  obtain ⟨⟨_, _, _, h⟩, _⟩ := eventFrame_raiseAll c i t x d; rw [h]
@[simp] theorem raise_freeCount (c i t x : Nat) (d : Dev) : (raise c i t x d).freeCount = d.freeCount := by
  obtain ⟨⟨_, _, _, h⟩, _⟩ := eventFrame_raise c i t x d; rw [h]
@[simp] theorem raiseAll_freeCount (c i t x : Nat) (d : Dev) : (raiseAll c i t x d).freeCount = d.freeCount := by
  obtain ⟨⟨_, _, _, h⟩, _⟩ := eventFrame_raiseAll c i t x d; rw [h]
@[simp] theorem raise_waiting (c i t x : Nat) (d : Dev) : (raise c i t x d).waiting = d.waiting := by
  obtain ⟨⟨_, _, _, h⟩, _⟩ := eventFrame_raise c i t x d; rw [h]
@[simp] theorem raiseAll_waiting (c i t x : Nat) (d : Dev) : (raiseAll c i t x d).waiting = d.waiting := by
  obtain ⟨⟨_, _, _, h⟩, _⟩ := eventFrame_raiseAll c i t x d; rw [h]
@[simp] theorem raise_jobs (c i t x : Nat) (d : Dev) : (raise c i t x d).jobs = d.jobs := by
  obtain ⟨⟨_, _, _, h⟩, _⟩ := eventFrame_raise c i t x d; rw [h]
@[simp] theorem raiseAll_jobs (c i t x : Nat) (d : Dev) : (raiseAll c i t x d).jobs = d.jobs := by
  obtain ⟨⟨_, _, _, h⟩, _⟩ := eventFrame_raiseAll c i t x d; rw [h]
@[simp] theorem raise_held (c i t x : Nat) (d : Dev) : (raise c i t x d).held = d.held := by
  obtain ⟨⟨_, _, _, h⟩, _⟩ := eventFrame_raise c i t x d; rw [h]
@[simp] theorem raiseAll_held (c i t x : Nat) (d : Dev) : (raiseAll c i t x d).held = d.held := by
  obtain ⟨⟨_, _, _, h⟩, _⟩ := eventFrame_raiseAll c i t x d; rw [h]
@[simp] theorem raise_nextOrder (c i t x : Nat) (d : Dev) : (raise c i t x d).nextOrder = d.nextOrder := by
  obtain ⟨⟨_, _, _, h⟩, _⟩ := eventFrame_raise c i t x d; rw [h]
@[simp] theorem raiseAll_nextOrder (c i t x : Nat) (d : Dev) : (raiseAll c i t x d).nextOrder = d.nextOrder := by
  obtain ⟨⟨_, _, _, h⟩, _⟩ := eventFrame_raiseAll c i t x d; rw [h]
@[simp] theorem raise_vertex (c i t x : Nat) (d : Dev) : (raise c i t x d).vertex = d.vertex := by
  obtain ⟨⟨_, _, _, h⟩, _⟩ := eventFrame_raise c i t x d; rw [h]
@[simp] theorem raiseAll_vertex (c i t x : Nat) (d : Dev) : (raiseAll c i t x d).vertex = d.vertex := by
  obtain ⟨⟨_, _, _, h⟩, _⟩ := eventFrame_raiseAll c i t x d; rw [h]
@[simp] theorem raise_handover (c i t x : Nat) (d : Dev) : (raise c i t x d).handover = d.handover := by
  obtain ⟨⟨_, _, _, h⟩, _⟩ := eventFrame_raise c i t x d; rw [h]
@[simp] theorem raiseAll_handover (c i t x : Nat) (d : Dev) : (raiseAll c i t x d).handover = d.handover := by
  obtain ⟨⟨_, _, _, h⟩, _⟩ := eventFrame_raiseAll c i t x d; rw [h]
@[simp] theorem raise_phase (c i t x : Nat) (d : Dev) : (raise c i t x d).phase = d.phase := by
  obtain ⟨⟨_, _, _, h⟩, _⟩ := eventFrame_raise c i t x d; rw [h]
@[simp] theorem raiseAll_phase (c i t x : Nat) (d : Dev) : (raiseAll c i t x d).phase = d.phase := by
  obtain ⟨⟨_, _, _, h⟩, _⟩ := eventFrame_raiseAll c i t x d; rw [h]
@[simp] theorem raise_brownout (c i t x : Nat) (d : Dev) : (raise c i t x d).brownout = d.brownout := by
  obtain ⟨⟨_, _, _, h⟩, _⟩ := eventFrame_raise c i t x d; rw [h]
@[simp] theorem raiseAll_brownout (c i t x : Nat) (d : Dev) : (raiseAll c i t x d).brownout = d.brownout := by
  obtain ⟨⟨_, _, _, h⟩, _⟩ := eventFrame_raiseAll c i t x d; rw [h]
@[simp] theorem raise_startOwed (c i t x : Nat) (d : Dev) : (raise c i t x d).startOwed = d.startOwed := by
  obtain ⟨⟨_, _, _, h⟩, _⟩ := eventFrame_raise c i t x d; rw [h]
@[simp] theorem raiseAll_startOwed (c i t x : Nat) (d : Dev) : (raiseAll c i t x d).startOwed = d.startOwed := by
  obtain ⟨⟨_, _, _, h⟩, _⟩ := eventFrame_raiseAll c i t x d; rw [h]
@[simp] theorem raise_ports (c i t x : Nat) (d : Dev) : (raise c i t x d).ports = d.ports := by
  obtain ⟨⟨_, _, _, h⟩, _⟩ := eventFrame_raise c i t x d; rw [h]
@[simp] theorem raiseAll_ports (c i t x : Nat) (d : Dev) : (raiseAll c i t x d).ports = d.ports := by
  obtain ⟨⟨_, _, _, h⟩, _⟩ := eventFrame_raiseAll c i t x d; rw [h]
@[simp] theorem raise_prisms (c i t x : Nat) (d : Dev) : (raise c i t x d).prisms = d.prisms := by
  obtain ⟨⟨_, _, _, h⟩, _⟩ := eventFrame_raise c i t x d; rw [h]
@[simp] theorem raiseAll_prisms (c i t x : Nat) (d : Dev) : (raiseAll c i t x d).prisms = d.prisms := by
  obtain ⟨⟨_, _, _, h⟩, _⟩ := eventFrame_raiseAll c i t x d; rw [h]
@[simp] theorem raise_multi (c i t x : Nat) (d : Dev) : (raise c i t x d).multi = d.multi := by
  obtain ⟨⟨_, _, _, h⟩, _⟩ := eventFrame_raise c i t x d; rw [h]
@[simp] theorem raiseAll_multi (c i t x : Nat) (d : Dev) : (raiseAll c i t x d).multi = d.multi := by
  obtain ⟨⟨_, _, _, h⟩, _⟩ := eventFrame_raiseAll c i t x d; rw [h]
@[simp] theorem raise_msgId (c i t x : Nat) (d : Dev) : (raise c i t x d).msgId = d.msgId := by
  obtain ⟨⟨_, _, _, h⟩, _⟩ := eventFrame_raise c i t x d; rw [h]
@[simp] theorem raiseAll_msgId (c i t x : Nat) (d : Dev) : (raiseAll c i t x d).msgId = d.msgId := by
  obtain ⟨⟨_, _, _, h⟩, _⟩ := eventFrame_raiseAll c i t x d; rw [h]
@[simp] theorem raise_msgOrder (c i t x : Nat) (d : Dev) : (raise c i t x d).msgOrder = d.msgOrder := by
  obtain ⟨⟨_, _, _, h⟩, _⟩ := eventFrame_raise c i t x d; rw [h]
@[simp] theorem raiseAll_msgOrder (c i t x : Nat) (d : Dev) : (raiseAll c i t x d).msgOrder = d.msgOrder := by
  obtain ⟨⟨_, _, _, h⟩, _⟩ := eventFrame_raiseAll c i t x d; rw [h]
@[simp] theorem raise_snapshots (c i t x : Nat) (d : Dev) : (raise c i t x d).snapshots = d.snapshots := by
  obtain ⟨⟨_, _, _, h⟩, _⟩ := eventFrame_raise c i t x d; rw [h]
@[simp] theorem raiseAll_snapshots (c i t x : Nat) (d : Dev) : (raiseAll c i t x d).snapshots = d.snapshots := by
  obtain ⟨⟨_, _, _, h⟩, _⟩ := eventFrame_raiseAll c i t x d; rw [h]
@[simp] theorem raise_chords (c i t x : Nat) (d : Dev) : (raise c i t x d).chords = d.chords := by
  obtain ⟨⟨_, _, _, h⟩, _⟩ := eventFrame_raise c i t x d; rw [h]
@[simp] theorem raiseAll_chords (c i t x : Nat) (d : Dev) : (raiseAll c i t x d).chords = d.chords := by
  obtain ⟨⟨_, _, _, h⟩, _⟩ := eventFrame_raiseAll c i t x d; rw [h]
@[simp] theorem raise_links (c i t x : Nat) (d : Dev) : (raise c i t x d).links = d.links := by
  obtain ⟨⟨_, _, _, h⟩, _⟩ := eventFrame_raise c i t x d; rw [h]
@[simp] theorem raiseAll_links (c i t x : Nat) (d : Dev) : (raiseAll c i t x d).links = d.links := by
  obtain ⟨⟨_, _, _, h⟩, _⟩ := eventFrame_raiseAll c i t x d; rw [h]
@[simp] theorem raise_lanes (c i t x : Nat) (d : Dev) : (raise c i t x d).lanes = d.lanes := by
  obtain ⟨⟨_, _, _, h⟩, _⟩ := eventFrame_raise c i t x d; rw [h]
@[simp] theorem raiseAll_lanes (c i t x : Nat) (d : Dev) : (raiseAll c i t x d).lanes = d.lanes := by
  obtain ⟨⟨_, _, _, h⟩, _⟩ := eventFrame_raiseAll c i t x d; rw [h]
@[simp] theorem raise_flows (c i t x : Nat) (d : Dev) : (raise c i t x d).flows = d.flows := by
  obtain ⟨⟨_, _, _, h⟩, _⟩ := eventFrame_raise c i t x d; rw [h]
@[simp] theorem raiseAll_flows (c i t x : Nat) (d : Dev) : (raiseAll c i t x d).flows = d.flows := by
  obtain ⟨⟨_, _, _, h⟩, _⟩ := eventFrame_raiseAll c i t x d; rw [h]
@[simp] theorem raise_sources (c i t x : Nat) (d : Dev) : (raise c i t x d).sources = d.sources := by
  obtain ⟨⟨_, _, _, h⟩, _⟩ := eventFrame_raise c i t x d; rw [h]
@[simp] theorem raiseAll_sources (c i t x : Nat) (d : Dev) : (raiseAll c i t x d).sources = d.sources := by
  obtain ⟨⟨_, _, _, h⟩, _⟩ := eventFrame_raiseAll c i t x d; rw [h]
@[simp] theorem raise_accepted (c i t x : Nat) (d : Dev) : (raise c i t x d).accepted = d.accepted := by
  obtain ⟨⟨_, _, _, h⟩, _⟩ := eventFrame_raise c i t x d; rw [h]
@[simp] theorem raiseAll_accepted (c i t x : Nat) (d : Dev) : (raiseAll c i t x d).accepted = d.accepted := by
  obtain ⟨⟨_, _, _, h⟩, _⟩ := eventFrame_raiseAll c i t x d; rw [h]
@[simp] theorem raise_egress (c i t x : Nat) (d : Dev) : (raise c i t x d).egress = d.egress := by
  obtain ⟨⟨_, _, _, h⟩, _⟩ := eventFrame_raise c i t x d; rw [h]
@[simp] theorem raiseAll_egress (c i t x : Nat) (d : Dev) : (raiseAll c i t x d).egress = d.egress := by
  obtain ⟨⟨_, _, _, h⟩, _⟩ := eventFrame_raiseAll c i t x d; rw [h]
@[simp] theorem raise_faults (c i t x : Nat) (d : Dev) : (raise c i t x d).faults = d.faults := by
  obtain ⟨⟨_, _, _, h⟩, _⟩ := eventFrame_raise c i t x d; rw [h]
@[simp] theorem raiseAll_faults (c i t x : Nat) (d : Dev) : (raiseAll c i t x d).faults = d.faults := by
  obtain ⟨⟨_, _, _, h⟩, _⟩ := eventFrame_raiseAll c i t x d; rw [h]
@[simp] theorem raise_bist (c i t x : Nat) (d : Dev) : (raise c i t x d).bist = d.bist := by
  obtain ⟨⟨_, _, _, h⟩, _⟩ := eventFrame_raise c i t x d; rw [h]
@[simp] theorem raiseAll_bist (c i t x : Nat) (d : Dev) : (raiseAll c i t x d).bist = d.bist := by
  obtain ⟨⟨_, _, _, h⟩, _⟩ := eventFrame_raiseAll c i t x d; rw [h]
@[simp] theorem raise_power (c i t x : Nat) (d : Dev) : (raise c i t x d).power = d.power := by
  obtain ⟨⟨_, _, _, h⟩, _⟩ := eventFrame_raise c i t x d; rw [h]
@[simp] theorem raiseAll_power (c i t x : Nat) (d : Dev) : (raiseAll c i t x d).power = d.power := by
  obtain ⟨⟨_, _, _, h⟩, _⟩ := eventFrame_raiseAll c i t x d; rw [h]
@[simp] theorem raise_clashed (c i t x : Nat) (d : Dev) : (raise c i t x d).clashed = d.clashed := by
  obtain ⟨⟨_, _, _, h⟩, _⟩ := eventFrame_raise c i t x d; rw [h]
@[simp] theorem raiseAll_clashed (c i t x : Nat) (d : Dev) : (raiseAll c i t x d).clashed = d.clashed := by
  obtain ⟨⟨_, _, _, h⟩, _⟩ := eventFrame_raiseAll c i t x d; rw [h]
@[simp] theorem raise_cal (c i t x : Nat) (d : Dev) : (raise c i t x d).cal = d.cal := by
  obtain ⟨⟨_, _, _, h⟩, _⟩ := eventFrame_raise c i t x d; rw [h]
@[simp] theorem raiseAll_cal (c i t x : Nat) (d : Dev) : (raiseAll c i t x d).cal = d.cal := by
  obtain ⟨⟨_, _, _, h⟩, _⟩ := eventFrame_raiseAll c i t x d; rw [h]
@[simp] theorem raise_scans (c i t x : Nat) (d : Dev) : (raise c i t x d).scans = d.scans := by
  obtain ⟨⟨_, _, _, h⟩, _⟩ := eventFrame_raise c i t x d; rw [h]
@[simp] theorem raiseAll_scans (c i t x : Nat) (d : Dev) : (raiseAll c i t x d).scans = d.scans := by
  obtain ⟨⟨_, _, _, h⟩, _⟩ := eventFrame_raiseAll c i t x d; rw [h]
@[simp] theorem raise_life (c i t x : Nat) (d : Dev) : (raise c i t x d).life = d.life := by
  obtain ⟨⟨_, _, _, h⟩, _⟩ := eventFrame_raise c i t x d; rw [h]
@[simp] theorem raiseAll_life (c i t x : Nat) (d : Dev) : (raiseAll c i t x d).life = d.life := by
  obtain ⟨⟨_, _, _, h⟩, _⟩ := eventFrame_raiseAll c i t x d; rw [h]
@[simp] theorem raise_time (c i t x : Nat) (d : Dev) : (raise c i t x d).time = d.time := by
  obtain ⟨⟨_, _, _, h⟩, _⟩ := eventFrame_raise c i t x d; rw [h]
@[simp] theorem raiseAll_time (c i t x : Nat) (d : Dev) : (raiseAll c i t x d).time = d.time := by
  obtain ⟨⟨_, _, _, h⟩, _⟩ := eventFrame_raiseAll c i t x d; rw [h]
@[simp] theorem raise_wear (c i t x : Nat) (d : Dev) : (raise c i t x d).wear = d.wear := by
  obtain ⟨⟨_, _, _, h⟩, _⟩ := eventFrame_raise c i t x d; rw [h]
@[simp] theorem raiseAll_wear (c i t x : Nat) (d : Dev) : (raiseAll c i t x d).wear = d.wear := by
  obtain ⟨⟨_, _, _, h⟩, _⟩ := eventFrame_raiseAll c i t x d; rw [h]
@[simp] theorem raise_aged (c i t x : Nat) (d : Dev) : (raise c i t x d).aged = d.aged := by
  obtain ⟨⟨_, _, _, h⟩, _⟩ := eventFrame_raise c i t x d; rw [h]
@[simp] theorem raiseAll_aged (c i t x : Nat) (d : Dev) : (raiseAll c i t x d).aged = d.aged := by
  obtain ⟨⟨_, _, _, h⟩, _⟩ := eventFrame_raiseAll c i t x d; rw [h]
@[simp] theorem raise_hot (c i t x : Nat) (d : Dev) : (raise c i t x d).hot = d.hot := by
  obtain ⟨⟨_, _, _, h⟩, _⟩ := eventFrame_raise c i t x d; rw [h]
@[simp] theorem raiseAll_hot (c i t x : Nat) (d : Dev) : (raiseAll c i t x d).hot = d.hot := by
  obtain ⟨⟨_, _, _, h⟩, _⟩ := eventFrame_raiseAll c i t x d; rw [h]
@[simp] theorem raise_tooHot (c i t x : Nat) (d : Dev) : (raise c i t x d).tooHot = d.tooHot := by
  obtain ⟨⟨_, _, _, h⟩, _⟩ := eventFrame_raise c i t x d; rw [h]
@[simp] theorem raiseAll_tooHot (c i t x : Nat) (d : Dev) : (raiseAll c i t x d).tooHot = d.tooHot := by
  obtain ⟨⟨_, _, _, h⟩, _⟩ := eventFrame_raiseAll c i t x d; rw [h]
@[simp] theorem raise_shares (c i t x : Nat) (d : Dev) : (raise c i t x d).shares = d.shares := by
  obtain ⟨⟨_, _, _, h⟩, _⟩ := eventFrame_raise c i t x d; rw [h]
@[simp] theorem raiseAll_shares (c i t x : Nat) (d : Dev) : (raiseAll c i t x d).shares = d.shares := by
  obtain ⟨⟨_, _, _, h⟩, _⟩ := eventFrame_raiseAll c i t x d; rw [h]
@[simp] theorem raise_strobe (c i t x : Nat) (d : Dev) : (raise c i t x d).strobe = d.strobe := by
  obtain ⟨⟨_, _, _, h⟩, _⟩ := eventFrame_raise c i t x d; rw [h]
@[simp] theorem raiseAll_strobe (c i t x : Nat) (d : Dev) : (raiseAll c i t x d).strobe = d.strobe := by
  obtain ⟨⟨_, _, _, h⟩, _⟩ := eventFrame_raiseAll c i t x d; rw [h]
@[simp] theorem raise_sawCoreOff (c i t x : Nat) (d : Dev) : (raise c i t x d).sawCoreOff = d.sawCoreOff := by
  obtain ⟨⟨_, _, _, h⟩, _⟩ := eventFrame_raise c i t x d; rw [h]
@[simp] theorem raiseAll_sawCoreOff (c i t x : Nat) (d : Dev) : (raiseAll c i t x d).sawCoreOff = d.sawCoreOff := by
  obtain ⟨⟨_, _, _, h⟩, _⟩ := eventFrame_raiseAll c i t x d; rw [h]
@[simp] theorem raise_sawResetN (c i t x : Nat) (d : Dev) : (raise c i t x d).sawResetN = d.sawResetN := by
  obtain ⟨⟨_, _, _, h⟩, _⟩ := eventFrame_raise c i t x d; rw [h]
@[simp] theorem raiseAll_sawResetN (c i t x : Nat) (d : Dev) : (raiseAll c i t x d).sawResetN = d.sawResetN := by
  obtain ⟨⟨_, _, _, h⟩, _⟩ := eventFrame_raiseAll c i t x d; rw [h]
@[simp] theorem raise_sawRail (c i t x : Nat) (d : Dev) : (raise c i t x d).sawRail = d.sawRail := by
  obtain ⟨⟨_, _, _, h⟩, _⟩ := eventFrame_raise c i t x d; rw [h]
@[simp] theorem raiseAll_sawRail (c i t x : Nat) (d : Dev) : (raiseAll c i t x d).sawRail = d.sawRail := by
  obtain ⟨⟨_, _, _, h⟩, _⟩ := eventFrame_raiseAll c i t x d; rw [h]
@[simp] theorem raise_railsDown (c i t x : Nat) (d : Dev) : (raise c i t x d).railsDown = d.railsDown := by
  obtain ⟨⟨_, _, _, h⟩, _⟩ := eventFrame_raise c i t x d; rw [h]
@[simp] theorem raiseAll_railsDown (c i t x : Nat) (d : Dev) : (raiseAll c i t x d).railsDown = d.railsDown := by
  obtain ⟨⟨_, _, _, h⟩, _⟩ := eventFrame_raiseAll c i t x d; rw [h]
@[simp] theorem raise_resetLow (c i t x : Nat) (d : Dev) : (raise c i t x d).resetLow = d.resetLow := by
  obtain ⟨⟨_, _, _, h⟩, _⟩ := eventFrame_raise c i t x d; rw [h]
@[simp] theorem raiseAll_resetLow (c i t x : Nat) (d : Dev) : (raiseAll c i t x d).resetLow = d.resetLow := by
  obtain ⟨⟨_, _, _, h⟩, _⟩ := eventFrame_raiseAll c i t x d; rw [h]
@[simp] theorem raise_resuming (c i t x : Nat) (d : Dev) : (raise c i t x d).resuming = d.resuming := by
  obtain ⟨⟨_, _, _, h⟩, _⟩ := eventFrame_raise c i t x d; rw [h]
@[simp] theorem raiseAll_resuming (c i t x : Nat) (d : Dev) : (raiseAll c i t x d).resuming = d.resuming := by
  obtain ⟨⟨_, _, _, h⟩, _⟩ := eventFrame_raiseAll c i t x d; rw [h]

/-! ### Completion -/

/-- The same block but for what a completion touches. -/
def DoneFrame (d e : Dev) : Prop :=
  (∃ as bs xs ts js, e = { d with attrs := as, blocks := bs, masters := xs, timers := ts, jobs := js }) ∧ ∀ b i, noEventAttr b → attr e b i = attr d b i

theorem EventFrame.done {d e : Dev} (h : EventFrame d e) : DoneFrame d e := by
  obtain ⟨⟨_, _, _, rfl⟩, ha⟩ := h
  exact ⟨⟨_, _, _, _, _, rfl⟩, ha⟩

theorem DoneFrame.trans {d e f : Dev} (h : DoneFrame d e) (k : DoneFrame e f) : DoneFrame d f := by
  obtain ⟨⟨a, b, x, t, j, rfl⟩, ha⟩ := h
  obtain ⟨⟨a', b', x', t', j', rfl⟩, hb⟩ := k
  exact ⟨⟨_, _, _, _, _, rfl⟩, fun c i hc => (hb c i hc).trans (ha c i hc)⟩

theorem doneFrame_complete (j : JobRef) (cls inst type status : Nat) (result : List Byte) (d : Dev) :
    DoneFrame d (complete j cls inst type status result d) := by
  unfold complete completeBase
  split
  · exact (EventFrame.refl d).done
  · refine DoneFrame.trans ?_ ((eventFrame_raiseTo _ _ _ _ _ _).trans (eventFrame_disarm _ _ _)).done
    exact ⟨⟨_, _, _, _, _, rfl⟩, fun _ _ _ => rfl⟩

theorem attr_complete (j : JobRef) (cls inst type status : Nat) (result : List Byte) (d : Dev) (b : Attr) (i : Nat) (h : noEventAttr b) :
    attr (complete j cls inst type status result d) b i = attr d b i := (doneFrame_complete j cls inst type status result d).2 b i h

/-- The completed command is no longer outstanding. -/
theorem complete_jobs {j : JobRef} {d : Dev} {job : Job} (h : findJob d j = some job) (cls inst type status : Nat) (result : List Byte) :
    (complete j cls inst type status result d).jobs = d.jobs.filter fun x => !(x.ref == j) := by
  unfold complete completeBase
  rw [h]
  obtain ⟨⟨_, _, _, he⟩, _⟩ := (eventFrame_raiseTo [j.master] cls inst (128 + type) (j.tag + 256 * status)
    { setBlock DEVICE_COMPLETION (256 * j.master + j.tag) (completionRecord d job.opcode status j result) d with
      jobs := d.jobs.filter fun x => !(x.ref == j) })
  simp only [disarm_jobs, setBlock_jobs]
  rw [he]

/-- Its record stands in DEVICE.COMPLETION. -/
theorem complete_block {j : JobRef} {d : Dev} {job : Job} (h : findJob d j = some job) (cls inst type status : Nat) (result : List Byte) :
    (complete j cls inst type status result d).blocks
      = (setBlock DEVICE_COMPLETION (256 * j.master + j.tag) (completionRecord d job.opcode status j result) d).blocks := by
  unfold complete completeBase
  rw [h]
  obtain ⟨⟨_, _, _, he⟩, _⟩ := (eventFrame_raiseTo [j.master] cls inst (128 + type) (j.tag + 256 * status)
    { setBlock DEVICE_COMPLETION (256 * j.master + j.tag) (completionRecord d job.opcode status j result) d with
      jobs := d.jobs.filter fun x => !(x.ref == j) })
  simp only [disarm_blocks, setBlock_jobs]
  rw [he]

@[simp] theorem complete_elapsed (j : JobRef) (c i t x : Nat) (r : List Byte) (d : Dev) : (complete j c i t x r d).elapsed = d.elapsed := by
  obtain ⟨⟨_, _, _, _, _, h⟩, _⟩ := doneFrame_complete j c i t x r d; rw [h]
@[simp] theorem complete_devTime (j : JobRef) (c i t x : Nat) (r : List Byte) (d : Dev) : (complete j c i t x r d).devTime = d.devTime := by
  obtain ⟨⟨_, _, _, _, _, h⟩, _⟩ := doneFrame_complete j c i t x r d; rw [h]
@[simp] theorem complete_freeCount (j : JobRef) (c i t x : Nat) (r : List Byte) (d : Dev) : (complete j c i t x r d).freeCount = d.freeCount := by
  obtain ⟨⟨_, _, _, _, _, h⟩, _⟩ := doneFrame_complete j c i t x r d; rw [h]
@[simp] theorem complete_waiting (j : JobRef) (c i t x : Nat) (r : List Byte) (d : Dev) : (complete j c i t x r d).waiting = d.waiting := by
  obtain ⟨⟨_, _, _, _, _, h⟩, _⟩ := doneFrame_complete j c i t x r d; rw [h]
@[simp] theorem complete_held (j : JobRef) (c i t x : Nat) (r : List Byte) (d : Dev) : (complete j c i t x r d).held = d.held := by
  obtain ⟨⟨_, _, _, _, _, h⟩, _⟩ := doneFrame_complete j c i t x r d; rw [h]
@[simp] theorem complete_nextOrder (j : JobRef) (c i t x : Nat) (r : List Byte) (d : Dev) : (complete j c i t x r d).nextOrder = d.nextOrder := by
  obtain ⟨⟨_, _, _, _, _, h⟩, _⟩ := doneFrame_complete j c i t x r d; rw [h]
@[simp] theorem complete_vertex (j : JobRef) (c i t x : Nat) (r : List Byte) (d : Dev) : (complete j c i t x r d).vertex = d.vertex := by
  obtain ⟨⟨_, _, _, _, _, h⟩, _⟩ := doneFrame_complete j c i t x r d; rw [h]
@[simp] theorem complete_handover (j : JobRef) (c i t x : Nat) (r : List Byte) (d : Dev) : (complete j c i t x r d).handover = d.handover := by
  obtain ⟨⟨_, _, _, _, _, h⟩, _⟩ := doneFrame_complete j c i t x r d; rw [h]
@[simp] theorem complete_phase (j : JobRef) (c i t x : Nat) (r : List Byte) (d : Dev) : (complete j c i t x r d).phase = d.phase := by
  obtain ⟨⟨_, _, _, _, _, h⟩, _⟩ := doneFrame_complete j c i t x r d; rw [h]
@[simp] theorem complete_brownout (j : JobRef) (c i t x : Nat) (r : List Byte) (d : Dev) : (complete j c i t x r d).brownout = d.brownout := by
  obtain ⟨⟨_, _, _, _, _, h⟩, _⟩ := doneFrame_complete j c i t x r d; rw [h]
@[simp] theorem complete_startOwed (j : JobRef) (c i t x : Nat) (r : List Byte) (d : Dev) : (complete j c i t x r d).startOwed = d.startOwed := by
  obtain ⟨⟨_, _, _, _, _, h⟩, _⟩ := doneFrame_complete j c i t x r d; rw [h]
@[simp] theorem complete_ports (j : JobRef) (c i t x : Nat) (r : List Byte) (d : Dev) : (complete j c i t x r d).ports = d.ports := by
  obtain ⟨⟨_, _, _, _, _, h⟩, _⟩ := doneFrame_complete j c i t x r d; rw [h]
@[simp] theorem complete_prisms (j : JobRef) (c i t x : Nat) (r : List Byte) (d : Dev) : (complete j c i t x r d).prisms = d.prisms := by
  obtain ⟨⟨_, _, _, _, _, h⟩, _⟩ := doneFrame_complete j c i t x r d; rw [h]
@[simp] theorem complete_multi (j : JobRef) (c i t x : Nat) (r : List Byte) (d : Dev) : (complete j c i t x r d).multi = d.multi := by
  obtain ⟨⟨_, _, _, _, _, h⟩, _⟩ := doneFrame_complete j c i t x r d; rw [h]
@[simp] theorem complete_msgId (j : JobRef) (c i t x : Nat) (r : List Byte) (d : Dev) : (complete j c i t x r d).msgId = d.msgId := by
  obtain ⟨⟨_, _, _, _, _, h⟩, _⟩ := doneFrame_complete j c i t x r d; rw [h]
@[simp] theorem complete_msgOrder (j : JobRef) (c i t x : Nat) (r : List Byte) (d : Dev) : (complete j c i t x r d).msgOrder = d.msgOrder := by
  obtain ⟨⟨_, _, _, _, _, h⟩, _⟩ := doneFrame_complete j c i t x r d; rw [h]
@[simp] theorem complete_snapshots (j : JobRef) (c i t x : Nat) (r : List Byte) (d : Dev) : (complete j c i t x r d).snapshots = d.snapshots := by
  obtain ⟨⟨_, _, _, _, _, h⟩, _⟩ := doneFrame_complete j c i t x r d; rw [h]
@[simp] theorem complete_chords (j : JobRef) (c i t x : Nat) (r : List Byte) (d : Dev) : (complete j c i t x r d).chords = d.chords := by
  obtain ⟨⟨_, _, _, _, _, h⟩, _⟩ := doneFrame_complete j c i t x r d; rw [h]
@[simp] theorem complete_links (j : JobRef) (c i t x : Nat) (r : List Byte) (d : Dev) : (complete j c i t x r d).links = d.links := by
  obtain ⟨⟨_, _, _, _, _, h⟩, _⟩ := doneFrame_complete j c i t x r d; rw [h]
@[simp] theorem complete_lanes (j : JobRef) (c i t x : Nat) (r : List Byte) (d : Dev) : (complete j c i t x r d).lanes = d.lanes := by
  obtain ⟨⟨_, _, _, _, _, h⟩, _⟩ := doneFrame_complete j c i t x r d; rw [h]
@[simp] theorem complete_flows (j : JobRef) (c i t x : Nat) (r : List Byte) (d : Dev) : (complete j c i t x r d).flows = d.flows := by
  obtain ⟨⟨_, _, _, _, _, h⟩, _⟩ := doneFrame_complete j c i t x r d; rw [h]
@[simp] theorem complete_sources (j : JobRef) (c i t x : Nat) (r : List Byte) (d : Dev) : (complete j c i t x r d).sources = d.sources := by
  obtain ⟨⟨_, _, _, _, _, h⟩, _⟩ := doneFrame_complete j c i t x r d; rw [h]
@[simp] theorem complete_accepted (j : JobRef) (c i t x : Nat) (r : List Byte) (d : Dev) : (complete j c i t x r d).accepted = d.accepted := by
  obtain ⟨⟨_, _, _, _, _, h⟩, _⟩ := doneFrame_complete j c i t x r d; rw [h]
@[simp] theorem complete_egress (j : JobRef) (c i t x : Nat) (r : List Byte) (d : Dev) : (complete j c i t x r d).egress = d.egress := by
  obtain ⟨⟨_, _, _, _, _, h⟩, _⟩ := doneFrame_complete j c i t x r d; rw [h]
@[simp] theorem complete_faults (j : JobRef) (c i t x : Nat) (r : List Byte) (d : Dev) : (complete j c i t x r d).faults = d.faults := by
  obtain ⟨⟨_, _, _, _, _, h⟩, _⟩ := doneFrame_complete j c i t x r d; rw [h]
@[simp] theorem complete_bist (j : JobRef) (c i t x : Nat) (r : List Byte) (d : Dev) : (complete j c i t x r d).bist = d.bist := by
  obtain ⟨⟨_, _, _, _, _, h⟩, _⟩ := doneFrame_complete j c i t x r d; rw [h]
@[simp] theorem complete_power (j : JobRef) (c i t x : Nat) (r : List Byte) (d : Dev) : (complete j c i t x r d).power = d.power := by
  obtain ⟨⟨_, _, _, _, _, h⟩, _⟩ := doneFrame_complete j c i t x r d; rw [h]
@[simp] theorem complete_clashed (j : JobRef) (c i t x : Nat) (r : List Byte) (d : Dev) : (complete j c i t x r d).clashed = d.clashed := by
  obtain ⟨⟨_, _, _, _, _, h⟩, _⟩ := doneFrame_complete j c i t x r d; rw [h]
@[simp] theorem complete_cal (j : JobRef) (c i t x : Nat) (r : List Byte) (d : Dev) : (complete j c i t x r d).cal = d.cal := by
  obtain ⟨⟨_, _, _, _, _, h⟩, _⟩ := doneFrame_complete j c i t x r d; rw [h]
@[simp] theorem complete_scans (j : JobRef) (c i t x : Nat) (r : List Byte) (d : Dev) : (complete j c i t x r d).scans = d.scans := by
  obtain ⟨⟨_, _, _, _, _, h⟩, _⟩ := doneFrame_complete j c i t x r d; rw [h]
@[simp] theorem complete_life (j : JobRef) (c i t x : Nat) (r : List Byte) (d : Dev) : (complete j c i t x r d).life = d.life := by
  obtain ⟨⟨_, _, _, _, _, h⟩, _⟩ := doneFrame_complete j c i t x r d; rw [h]
@[simp] theorem complete_time (j : JobRef) (c i t x : Nat) (r : List Byte) (d : Dev) : (complete j c i t x r d).time = d.time := by
  obtain ⟨⟨_, _, _, _, _, h⟩, _⟩ := doneFrame_complete j c i t x r d; rw [h]
@[simp] theorem complete_wear (j : JobRef) (c i t x : Nat) (r : List Byte) (d : Dev) : (complete j c i t x r d).wear = d.wear := by
  obtain ⟨⟨_, _, _, _, _, h⟩, _⟩ := doneFrame_complete j c i t x r d; rw [h]
@[simp] theorem complete_aged (j : JobRef) (c i t x : Nat) (r : List Byte) (d : Dev) : (complete j c i t x r d).aged = d.aged := by
  obtain ⟨⟨_, _, _, _, _, h⟩, _⟩ := doneFrame_complete j c i t x r d; rw [h]
@[simp] theorem complete_hot (j : JobRef) (c i t x : Nat) (r : List Byte) (d : Dev) : (complete j c i t x r d).hot = d.hot := by
  obtain ⟨⟨_, _, _, _, _, h⟩, _⟩ := doneFrame_complete j c i t x r d; rw [h]
@[simp] theorem complete_tooHot (j : JobRef) (c i t x : Nat) (r : List Byte) (d : Dev) : (complete j c i t x r d).tooHot = d.tooHot := by
  obtain ⟨⟨_, _, _, _, _, h⟩, _⟩ := doneFrame_complete j c i t x r d; rw [h]
@[simp] theorem complete_shares (j : JobRef) (c i t x : Nat) (r : List Byte) (d : Dev) : (complete j c i t x r d).shares = d.shares := by
  obtain ⟨⟨_, _, _, _, _, h⟩, _⟩ := doneFrame_complete j c i t x r d; rw [h]
@[simp] theorem complete_strobe (j : JobRef) (c i t x : Nat) (r : List Byte) (d : Dev) : (complete j c i t x r d).strobe = d.strobe := by
  obtain ⟨⟨_, _, _, _, _, h⟩, _⟩ := doneFrame_complete j c i t x r d; rw [h]
@[simp] theorem complete_sawCoreOff (j : JobRef) (c i t x : Nat) (r : List Byte) (d : Dev) : (complete j c i t x r d).sawCoreOff = d.sawCoreOff := by
  obtain ⟨⟨_, _, _, _, _, h⟩, _⟩ := doneFrame_complete j c i t x r d; rw [h]
@[simp] theorem complete_sawResetN (j : JobRef) (c i t x : Nat) (r : List Byte) (d : Dev) : (complete j c i t x r d).sawResetN = d.sawResetN := by
  obtain ⟨⟨_, _, _, _, _, h⟩, _⟩ := doneFrame_complete j c i t x r d; rw [h]
@[simp] theorem complete_sawRail (j : JobRef) (c i t x : Nat) (r : List Byte) (d : Dev) : (complete j c i t x r d).sawRail = d.sawRail := by
  obtain ⟨⟨_, _, _, _, _, h⟩, _⟩ := doneFrame_complete j c i t x r d; rw [h]
@[simp] theorem complete_railsDown (j : JobRef) (c i t x : Nat) (r : List Byte) (d : Dev) : (complete j c i t x r d).railsDown = d.railsDown := by
  obtain ⟨⟨_, _, _, _, _, h⟩, _⟩ := doneFrame_complete j c i t x r d; rw [h]
@[simp] theorem complete_resetLow (j : JobRef) (c i t x : Nat) (r : List Byte) (d : Dev) : (complete j c i t x r d).resetLow = d.resetLow := by
  obtain ⟨⟨_, _, _, _, _, h⟩, _⟩ := doneFrame_complete j c i t x r d; rw [h]
@[simp] theorem complete_resuming (j : JobRef) (c i t x : Nat) (r : List Byte) (d : Dev) : (complete j c i t x r d).resuming = d.resuming := by
  obtain ⟨⟨_, _, _, _, _, h⟩, _⟩ := doneFrame_complete j c i t x r d; rw [h]

end Sys2Proof.Machine
end

