-- ==== Sys2Proof/Laws/Issue.lean ====
section
/-! SUPPORT. Laws/Issue.lean: a request that the Vertex takes, from its front door to its reply, said once for every command. -/

namespace Sys2Proof.Machine

/-- The bytes of a request with the expected sequence number. -/
def requestBytes (op : Nat) (r : Req) (s : State) : List Byte :=
  buildRequest op r.flags.toNat r.master.val r.tag.toNat (attr s.dev DEVICE_CMD_SEQ_NEXT r.master.val) r.params

/-- The call that a command's definition sees. -/
def takenCall (op : Nat) (r : Req) (s : State) : Call :=
  ⟨r.master.val, r.tag.toNat, op, r.params, s.dev.nextOrder, requestBytes op r s, attr s.dev DEVICE_CMD_SEQ_NEXT r.master.val⟩

/-- The block after the sequence has advanced, as a command's definition sees it. -/
def takenDev (op : Nat) (r : Req) (s : State) : Dev :=
  { advance r.master.val (attr s.dev DEVICE_CMD_SEQ_NEXT r.master.val) (requestBytes op r s) s.dev with nextOrder := s.dev.nextOrder + 1 }

theorem advance_eq (m seq : Nat) (raw : List Byte) (d : Dev) :
    ∃ as xs ts, advance m seq raw d = { d with attrs := as, masters := xs, timers := ts } := by
  unfold advance restartLease
  dsimp only
  split <;> exact ⟨_, _, _, rfl⟩

theorem attr_advance (m seq : Nat) (raw : List Byte) (d : Dev) (b : Attr) (i : Nat) (hb : b.code < 2 ^ 24) (h1 : b.code ≠ DEVICE_CMD_EXECUTED.code)
    (h2 : b.code ≠ DEVICE_CMD_SEQ_NEXT.code) : attr (advance m seq raw d) b i = attr d b i := by
  have : (advance m seq raw d).attrs = (bump DEVICE_CMD_EXECUTED m 1 (setAttr DEVICE_CMD_SEQ_NEXT m ((seq + 1) % 65536) d)).attrs := by
    unfold advance restartLease
    dsimp only
    split <;> rfl
  rw [attr_congr this]
  unfold bump
  rw [attr_setAttr_ne _ _ _ _ h1 (by decide) hb, attr_setAttr_ne _ _ _ _ h2 (by decide) hb]

theorem attr_takenDev (op : Nat) (r : Req) (s : State) (b : Attr) (i : Nat) (hb : b.code < 2 ^ 24) (h1 : b.code ≠ DEVICE_CMD_EXECUTED.code)
    (h2 : b.code ≠ DEVICE_CMD_SEQ_NEXT.code) : attr (takenDev op r s) b i = attr s.dev b i := attr_advance _ _ _ _ b i hb h1 h2

@[simp] theorem takenDev_blocks (op : Nat) (r : Req) (s : State) : (takenDev op r s).blocks = s.dev.blocks := by
  unfold takenDev; obtain ⟨_, _, _, h⟩ := advance_eq r.master.val (attr s.dev DEVICE_CMD_SEQ_NEXT r.master.val) (requestBytes op r s) s.dev; rw [h]
@[simp] theorem takenDev_elapsed (op : Nat) (r : Req) (s : State) : (takenDev op r s).elapsed = s.dev.elapsed := by
  unfold takenDev; obtain ⟨_, _, _, h⟩ := advance_eq r.master.val (attr s.dev DEVICE_CMD_SEQ_NEXT r.master.val) (requestBytes op r s) s.dev; rw [h]
@[simp] theorem takenDev_devTime (op : Nat) (r : Req) (s : State) : (takenDev op r s).devTime = s.dev.devTime := by
  unfold takenDev; obtain ⟨_, _, _, h⟩ := advance_eq r.master.val (attr s.dev DEVICE_CMD_SEQ_NEXT r.master.val) (requestBytes op r s) s.dev; rw [h]
@[simp] theorem takenDev_freeCount (op : Nat) (r : Req) (s : State) : (takenDev op r s).freeCount = s.dev.freeCount := by
  unfold takenDev; obtain ⟨_, _, _, h⟩ := advance_eq r.master.val (attr s.dev DEVICE_CMD_SEQ_NEXT r.master.val) (requestBytes op r s) s.dev; rw [h]
@[simp] theorem takenDev_waiting (op : Nat) (r : Req) (s : State) : (takenDev op r s).waiting = s.dev.waiting := by
  unfold takenDev; obtain ⟨_, _, _, h⟩ := advance_eq r.master.val (attr s.dev DEVICE_CMD_SEQ_NEXT r.master.val) (requestBytes op r s) s.dev; rw [h]
@[simp] theorem takenDev_jobs (op : Nat) (r : Req) (s : State) : (takenDev op r s).jobs = s.dev.jobs := by
  unfold takenDev; obtain ⟨_, _, _, h⟩ := advance_eq r.master.val (attr s.dev DEVICE_CMD_SEQ_NEXT r.master.val) (requestBytes op r s) s.dev; rw [h]
@[simp] theorem takenDev_held (op : Nat) (r : Req) (s : State) : (takenDev op r s).held = s.dev.held := by
  unfold takenDev; obtain ⟨_, _, _, h⟩ := advance_eq r.master.val (attr s.dev DEVICE_CMD_SEQ_NEXT r.master.val) (requestBytes op r s) s.dev; rw [h]
@[simp] theorem takenDev_vertex (op : Nat) (r : Req) (s : State) : (takenDev op r s).vertex = s.dev.vertex := by
  unfold takenDev; obtain ⟨_, _, _, h⟩ := advance_eq r.master.val (attr s.dev DEVICE_CMD_SEQ_NEXT r.master.val) (requestBytes op r s) s.dev; rw [h]
@[simp] theorem takenDev_handover (op : Nat) (r : Req) (s : State) : (takenDev op r s).handover = s.dev.handover := by
  unfold takenDev; obtain ⟨_, _, _, h⟩ := advance_eq r.master.val (attr s.dev DEVICE_CMD_SEQ_NEXT r.master.val) (requestBytes op r s) s.dev; rw [h]
@[simp] theorem takenDev_phase (op : Nat) (r : Req) (s : State) : (takenDev op r s).phase = s.dev.phase := by
  unfold takenDev; obtain ⟨_, _, _, h⟩ := advance_eq r.master.val (attr s.dev DEVICE_CMD_SEQ_NEXT r.master.val) (requestBytes op r s) s.dev; rw [h]
@[simp] theorem takenDev_brownout (op : Nat) (r : Req) (s : State) : (takenDev op r s).brownout = s.dev.brownout := by
  unfold takenDev; obtain ⟨_, _, _, h⟩ := advance_eq r.master.val (attr s.dev DEVICE_CMD_SEQ_NEXT r.master.val) (requestBytes op r s) s.dev; rw [h]
@[simp] theorem takenDev_startOwed (op : Nat) (r : Req) (s : State) : (takenDev op r s).startOwed = s.dev.startOwed := by
  unfold takenDev; obtain ⟨_, _, _, h⟩ := advance_eq r.master.val (attr s.dev DEVICE_CMD_SEQ_NEXT r.master.val) (requestBytes op r s) s.dev; rw [h]
@[simp] theorem takenDev_ports (op : Nat) (r : Req) (s : State) : (takenDev op r s).ports = s.dev.ports := by
  unfold takenDev; obtain ⟨_, _, _, h⟩ := advance_eq r.master.val (attr s.dev DEVICE_CMD_SEQ_NEXT r.master.val) (requestBytes op r s) s.dev; rw [h]
@[simp] theorem takenDev_prisms (op : Nat) (r : Req) (s : State) : (takenDev op r s).prisms = s.dev.prisms := by
  unfold takenDev; obtain ⟨_, _, _, h⟩ := advance_eq r.master.val (attr s.dev DEVICE_CMD_SEQ_NEXT r.master.val) (requestBytes op r s) s.dev; rw [h]
@[simp] theorem takenDev_multi (op : Nat) (r : Req) (s : State) : (takenDev op r s).multi = s.dev.multi := by
  unfold takenDev; obtain ⟨_, _, _, h⟩ := advance_eq r.master.val (attr s.dev DEVICE_CMD_SEQ_NEXT r.master.val) (requestBytes op r s) s.dev; rw [h]
@[simp] theorem takenDev_msgId (op : Nat) (r : Req) (s : State) : (takenDev op r s).msgId = s.dev.msgId := by
  unfold takenDev; obtain ⟨_, _, _, h⟩ := advance_eq r.master.val (attr s.dev DEVICE_CMD_SEQ_NEXT r.master.val) (requestBytes op r s) s.dev; rw [h]
@[simp] theorem takenDev_msgOrder (op : Nat) (r : Req) (s : State) : (takenDev op r s).msgOrder = s.dev.msgOrder := by
  unfold takenDev; obtain ⟨_, _, _, h⟩ := advance_eq r.master.val (attr s.dev DEVICE_CMD_SEQ_NEXT r.master.val) (requestBytes op r s) s.dev; rw [h]
@[simp] theorem takenDev_snapshots (op : Nat) (r : Req) (s : State) : (takenDev op r s).snapshots = s.dev.snapshots := by
  unfold takenDev; obtain ⟨_, _, _, h⟩ := advance_eq r.master.val (attr s.dev DEVICE_CMD_SEQ_NEXT r.master.val) (requestBytes op r s) s.dev; rw [h]
@[simp] theorem takenDev_chords (op : Nat) (r : Req) (s : State) : (takenDev op r s).chords = s.dev.chords := by
  unfold takenDev; obtain ⟨_, _, _, h⟩ := advance_eq r.master.val (attr s.dev DEVICE_CMD_SEQ_NEXT r.master.val) (requestBytes op r s) s.dev; rw [h]
@[simp] theorem takenDev_links (op : Nat) (r : Req) (s : State) : (takenDev op r s).links = s.dev.links := by
  unfold takenDev; obtain ⟨_, _, _, h⟩ := advance_eq r.master.val (attr s.dev DEVICE_CMD_SEQ_NEXT r.master.val) (requestBytes op r s) s.dev; rw [h]
@[simp] theorem takenDev_lanes (op : Nat) (r : Req) (s : State) : (takenDev op r s).lanes = s.dev.lanes := by
  unfold takenDev; obtain ⟨_, _, _, h⟩ := advance_eq r.master.val (attr s.dev DEVICE_CMD_SEQ_NEXT r.master.val) (requestBytes op r s) s.dev; rw [h]
@[simp] theorem takenDev_flows (op : Nat) (r : Req) (s : State) : (takenDev op r s).flows = s.dev.flows := by
  unfold takenDev; obtain ⟨_, _, _, h⟩ := advance_eq r.master.val (attr s.dev DEVICE_CMD_SEQ_NEXT r.master.val) (requestBytes op r s) s.dev; rw [h]
@[simp] theorem takenDev_sources (op : Nat) (r : Req) (s : State) : (takenDev op r s).sources = s.dev.sources := by
  unfold takenDev; obtain ⟨_, _, _, h⟩ := advance_eq r.master.val (attr s.dev DEVICE_CMD_SEQ_NEXT r.master.val) (requestBytes op r s) s.dev; rw [h]
@[simp] theorem takenDev_accepted (op : Nat) (r : Req) (s : State) : (takenDev op r s).accepted = s.dev.accepted := by
  unfold takenDev; obtain ⟨_, _, _, h⟩ := advance_eq r.master.val (attr s.dev DEVICE_CMD_SEQ_NEXT r.master.val) (requestBytes op r s) s.dev; rw [h]
@[simp] theorem takenDev_egress (op : Nat) (r : Req) (s : State) : (takenDev op r s).egress = s.dev.egress := by
  unfold takenDev; obtain ⟨_, _, _, h⟩ := advance_eq r.master.val (attr s.dev DEVICE_CMD_SEQ_NEXT r.master.val) (requestBytes op r s) s.dev; rw [h]
@[simp] theorem takenDev_faults (op : Nat) (r : Req) (s : State) : (takenDev op r s).faults = s.dev.faults := by
  unfold takenDev; obtain ⟨_, _, _, h⟩ := advance_eq r.master.val (attr s.dev DEVICE_CMD_SEQ_NEXT r.master.val) (requestBytes op r s) s.dev; rw [h]
@[simp] theorem takenDev_bist (op : Nat) (r : Req) (s : State) : (takenDev op r s).bist = s.dev.bist := by
  unfold takenDev; obtain ⟨_, _, _, h⟩ := advance_eq r.master.val (attr s.dev DEVICE_CMD_SEQ_NEXT r.master.val) (requestBytes op r s) s.dev; rw [h]
@[simp] theorem takenDev_power (op : Nat) (r : Req) (s : State) : (takenDev op r s).power = s.dev.power := by
  unfold takenDev; obtain ⟨_, _, _, h⟩ := advance_eq r.master.val (attr s.dev DEVICE_CMD_SEQ_NEXT r.master.val) (requestBytes op r s) s.dev; rw [h]
@[simp] theorem takenDev_clashed (op : Nat) (r : Req) (s : State) : (takenDev op r s).clashed = s.dev.clashed := by
  unfold takenDev; obtain ⟨_, _, _, h⟩ := advance_eq r.master.val (attr s.dev DEVICE_CMD_SEQ_NEXT r.master.val) (requestBytes op r s) s.dev; rw [h]
@[simp] theorem takenDev_cal (op : Nat) (r : Req) (s : State) : (takenDev op r s).cal = s.dev.cal := by
  unfold takenDev; obtain ⟨_, _, _, h⟩ := advance_eq r.master.val (attr s.dev DEVICE_CMD_SEQ_NEXT r.master.val) (requestBytes op r s) s.dev; rw [h]
@[simp] theorem takenDev_scans (op : Nat) (r : Req) (s : State) : (takenDev op r s).scans = s.dev.scans := by
  unfold takenDev; obtain ⟨_, _, _, h⟩ := advance_eq r.master.val (attr s.dev DEVICE_CMD_SEQ_NEXT r.master.val) (requestBytes op r s) s.dev; rw [h]
@[simp] theorem takenDev_life (op : Nat) (r : Req) (s : State) : (takenDev op r s).life = s.dev.life := by
  unfold takenDev; obtain ⟨_, _, _, h⟩ := advance_eq r.master.val (attr s.dev DEVICE_CMD_SEQ_NEXT r.master.val) (requestBytes op r s) s.dev; rw [h]
@[simp] theorem takenDev_time (op : Nat) (r : Req) (s : State) : (takenDev op r s).time = s.dev.time := by
  unfold takenDev; obtain ⟨_, _, _, h⟩ := advance_eq r.master.val (attr s.dev DEVICE_CMD_SEQ_NEXT r.master.val) (requestBytes op r s) s.dev; rw [h]
@[simp] theorem takenDev_wear (op : Nat) (r : Req) (s : State) : (takenDev op r s).wear = s.dev.wear := by
  unfold takenDev; obtain ⟨_, _, _, h⟩ := advance_eq r.master.val (attr s.dev DEVICE_CMD_SEQ_NEXT r.master.val) (requestBytes op r s) s.dev; rw [h]
@[simp] theorem takenDev_aged (op : Nat) (r : Req) (s : State) : (takenDev op r s).aged = s.dev.aged := by
  unfold takenDev; obtain ⟨_, _, _, h⟩ := advance_eq r.master.val (attr s.dev DEVICE_CMD_SEQ_NEXT r.master.val) (requestBytes op r s) s.dev; rw [h]
@[simp] theorem takenDev_hot (op : Nat) (r : Req) (s : State) : (takenDev op r s).hot = s.dev.hot := by
  unfold takenDev; obtain ⟨_, _, _, h⟩ := advance_eq r.master.val (attr s.dev DEVICE_CMD_SEQ_NEXT r.master.val) (requestBytes op r s) s.dev; rw [h]
@[simp] theorem takenDev_tooHot (op : Nat) (r : Req) (s : State) : (takenDev op r s).tooHot = s.dev.tooHot := by
  unfold takenDev; obtain ⟨_, _, _, h⟩ := advance_eq r.master.val (attr s.dev DEVICE_CMD_SEQ_NEXT r.master.val) (requestBytes op r s) s.dev; rw [h]
@[simp] theorem takenDev_shares (op : Nat) (r : Req) (s : State) : (takenDev op r s).shares = s.dev.shares := by
  unfold takenDev; obtain ⟨_, _, _, h⟩ := advance_eq r.master.val (attr s.dev DEVICE_CMD_SEQ_NEXT r.master.val) (requestBytes op r s) s.dev; rw [h]
@[simp] theorem takenDev_strobe (op : Nat) (r : Req) (s : State) : (takenDev op r s).strobe = s.dev.strobe := by
  unfold takenDev; obtain ⟨_, _, _, h⟩ := advance_eq r.master.val (attr s.dev DEVICE_CMD_SEQ_NEXT r.master.val) (requestBytes op r s) s.dev; rw [h]
@[simp] theorem takenDev_sawCoreOff (op : Nat) (r : Req) (s : State) : (takenDev op r s).sawCoreOff = s.dev.sawCoreOff := by
  unfold takenDev; obtain ⟨_, _, _, h⟩ := advance_eq r.master.val (attr s.dev DEVICE_CMD_SEQ_NEXT r.master.val) (requestBytes op r s) s.dev; rw [h]
@[simp] theorem takenDev_sawResetN (op : Nat) (r : Req) (s : State) : (takenDev op r s).sawResetN = s.dev.sawResetN := by
  unfold takenDev; obtain ⟨_, _, _, h⟩ := advance_eq r.master.val (attr s.dev DEVICE_CMD_SEQ_NEXT r.master.val) (requestBytes op r s) s.dev; rw [h]
@[simp] theorem takenDev_sawRail (op : Nat) (r : Req) (s : State) : (takenDev op r s).sawRail = s.dev.sawRail := by
  unfold takenDev; obtain ⟨_, _, _, h⟩ := advance_eq r.master.val (attr s.dev DEVICE_CMD_SEQ_NEXT r.master.val) (requestBytes op r s) s.dev; rw [h]
@[simp] theorem takenDev_railsDown (op : Nat) (r : Req) (s : State) : (takenDev op r s).railsDown = s.dev.railsDown := by
  unfold takenDev; obtain ⟨_, _, _, h⟩ := advance_eq r.master.val (attr s.dev DEVICE_CMD_SEQ_NEXT r.master.val) (requestBytes op r s) s.dev; rw [h]
@[simp] theorem takenDev_resetLow (op : Nat) (r : Req) (s : State) : (takenDev op r s).resetLow = s.dev.resetLow := by
  unfold takenDev; obtain ⟨_, _, _, h⟩ := advance_eq r.master.val (attr s.dev DEVICE_CMD_SEQ_NEXT r.master.val) (requestBytes op r s) s.dev; rw [h]
@[simp] theorem takenDev_resuming (op : Nat) (r : Req) (s : State) : (takenDev op r s).resuming = s.dev.resuming := by
  unfold takenDev; obtain ⟨_, _, _, h⟩ := advance_eq r.master.val (attr s.dev DEVICE_CMD_SEQ_NEXT r.master.val) (requestBytes op r s) s.dev; rw [h]

theorem advance_nextOrder (m seq : Nat) (raw : List Byte) (d : Dev) : (advance m seq raw d).nextOrder = d.nextOrder := by
  obtain ⟨_, _, _, h⟩ := advance_eq m seq raw d; rw [h]

/-- R309: a request that the Vertex takes at once goes through the checks and its command's definition. -/
theorem issue_taken (op : Nat) (f : Body) (r : Req) (s : State) (ht : canTake s.dev r.master.val = true) (hf : r.flags = 0) :
    issue op f r s = settle (takenCall op r s) (judge s.mem 0 (some f) (takenCall op r s) (takenDev op r s)) { s with dev := takenDev op r s } := by
  have h0 : r.flags.toNat = 0 := by rw [hf]; rfl
  unfold issue
  simp only [ht, if_true, h0, Nat.zero_mod, if_false, show ¬((0 : Nat) = 1) by decide, false_and]
  unfold takeCall takenCall takenDev requestBytes
  simp only [h0, advance_nextOrder]

/-- R309 steps 5 to 9 passed: the command's definition decides, and step 11. -/
theorem judge_body (op : Nat) (f : Body) (r : Req) (s : State) (ho : attr s.dev DEVICE_OWNER 0 = r.master.val ∨ nonOwnerMay op r.params = true)
    (hj : findJob s.dev ⟨r.master.val, r.tag.toNat⟩ = none) (hl : (paramRange op).1 ≤ r.params.length ∧ r.params.length ≤ (paramRange op).2) :
    judge s.mem 0 (some f) (takenCall op r s) (takenDev op r s) =
      match f s.mem (takenCall op r s) (takenDev op r s) with
      | .accept x e => if outstanding s.dev r.master.val < 16 then .accept x e else .refuse stNoResource []
      | .defer => if outstanding s.dev r.master.val < 16 then .defer else .refuse stNoResource []
      | v => v := by
  unfold judge
  have h1 : attr (takenDev op r s) DEVICE_OWNER 0 = attr s.dev DEVICE_OWNER 0 := attr_takenDev _ _ _ _ _ (by decide) (by decide) (by decide)
  have h2 : findJob (takenDev op r s) (callRef (takenCall op r s)) = none := by
    unfold findJob at hj ⊢; rw [takenDev_jobs]; exact hj
  have h3 : outstanding (takenDev op r s) (takenCall op r s).master = outstanding s.dev r.master.val := by
    unfold outstanding; rw [takenDev_jobs]; rfl
  have h4 : ¬(attr (takenDev op r s) DEVICE_OWNER 0 ≠ (takenCall op r s).master ∧ nonOwnerMay (takenCall op r s).op (takenCall op r s).params = false) := by
    rw [h1]
    rcases ho with h | h
    · exact fun k => k.1 h
    · intro k; have := k.2; simp only [takenCall] at this; rw [h] at this; cases this
  simp only [Nat.zero_div, Nat.zero_mod, ne_eq, not_true_eq_false, show ¬((0 : Nat) = 1) by decide, false_and, or_self, if_false]
  rw [if_neg h4, h2]
  simp only
  have h5 : ¬((takenCall op r s).params.length < (paramRange (takenCall op r s).op).1 ∨ (paramRange (takenCall op r s).op).2 < (takenCall op r s).params.length) := by
    simp only [takenCall]; omega
  rw [if_neg h5, h3]
  all_goals (cases f s.mem (takenCall op r s) (takenDev op r s) <;> rfl)

/-! ### Replies -/

/-- What an answer leaves alone. -/
theorem answer_eq (c : Call) (st : Nat) (x : List Byte) (d : Dev) : ∃ xs, answer c st x d = { d with masters := xs } := by
  unfold answer placeReply
  dsimp only
  split
  · split
    · obtain ⟨xs, h⟩ := signal_eq c.master (setMaster c.master { master (modMaster c.master (fun x_1 => { x_1 with stored := some (c.raw, buildReply c.op st c.master c.tag c.seq x) }) d) c.master with replies := (master (modMaster c.master (fun x_1 => { x_1 with stored := some (c.raw, buildReply c.op st c.master c.tag c.seq x) }) d) c.master).replies ++ [⟨buildReply c.op st c.master c.tag c.seq x, 0, false, (modMaster c.master (fun x_1 => { x_1 with stored := some (c.raw, buildReply c.op st c.master c.tag c.seq x) }) d).elapsed⟩] } (modMaster c.master (fun x_1 => { x_1 with stored := some (c.raw, buildReply c.op st c.master c.tag c.seq x) }) d))
      exact ⟨xs, h⟩
    · exact ⟨_, rfl⟩
  · exact ⟨_, rfl⟩

theorem attr_answer (c : Call) (st : Nat) (x : List Byte) (d : Dev) (b : Attr) (i : Nat) : attr (answer c st x d) b i = attr d b i := by
  obtain ⟨xs, h⟩ := answer_eq c st x d; rw [h]; rfl

@[simp] theorem answer_attrs (c : Call) (st : Nat) (x : List Byte) (d : Dev) : (answer c st x d).attrs = d.attrs := by
  obtain ⟨xs, h⟩ := answer_eq c st x d; rw [h]
@[simp] theorem answer_blocks (c : Call) (st : Nat) (x : List Byte) (d : Dev) : (answer c st x d).blocks = d.blocks := by
  obtain ⟨xs, h⟩ := answer_eq c st x d; rw [h]
@[simp] theorem answer_elapsed (c : Call) (st : Nat) (x : List Byte) (d : Dev) : (answer c st x d).elapsed = d.elapsed := by
  obtain ⟨xs, h⟩ := answer_eq c st x d; rw [h]
@[simp] theorem answer_devTime (c : Call) (st : Nat) (x : List Byte) (d : Dev) : (answer c st x d).devTime = d.devTime := by
  obtain ⟨xs, h⟩ := answer_eq c st x d; rw [h]
@[simp] theorem answer_timers (c : Call) (st : Nat) (x : List Byte) (d : Dev) : (answer c st x d).timers = d.timers := by
  obtain ⟨xs, h⟩ := answer_eq c st x d; rw [h]
@[simp] theorem answer_freeCount (c : Call) (st : Nat) (x : List Byte) (d : Dev) : (answer c st x d).freeCount = d.freeCount := by
  obtain ⟨xs, h⟩ := answer_eq c st x d; rw [h]
@[simp] theorem answer_waiting (c : Call) (st : Nat) (x : List Byte) (d : Dev) : (answer c st x d).waiting = d.waiting := by
  obtain ⟨xs, h⟩ := answer_eq c st x d; rw [h]
@[simp] theorem answer_jobs (c : Call) (st : Nat) (x : List Byte) (d : Dev) : (answer c st x d).jobs = d.jobs := by
  obtain ⟨xs, h⟩ := answer_eq c st x d; rw [h]
@[simp] theorem answer_held (c : Call) (st : Nat) (x : List Byte) (d : Dev) : (answer c st x d).held = d.held := by
  obtain ⟨xs, h⟩ := answer_eq c st x d; rw [h]
@[simp] theorem answer_nextOrder (c : Call) (st : Nat) (x : List Byte) (d : Dev) : (answer c st x d).nextOrder = d.nextOrder := by
  obtain ⟨xs, h⟩ := answer_eq c st x d; rw [h]
@[simp] theorem answer_vertex (c : Call) (st : Nat) (x : List Byte) (d : Dev) : (answer c st x d).vertex = d.vertex := by
  obtain ⟨xs, h⟩ := answer_eq c st x d; rw [h]
@[simp] theorem answer_handover (c : Call) (st : Nat) (x : List Byte) (d : Dev) : (answer c st x d).handover = d.handover := by
  obtain ⟨xs, h⟩ := answer_eq c st x d; rw [h]
@[simp] theorem answer_phase (c : Call) (st : Nat) (x : List Byte) (d : Dev) : (answer c st x d).phase = d.phase := by
  obtain ⟨xs, h⟩ := answer_eq c st x d; rw [h]
@[simp] theorem answer_brownout (c : Call) (st : Nat) (x : List Byte) (d : Dev) : (answer c st x d).brownout = d.brownout := by
  obtain ⟨xs, h⟩ := answer_eq c st x d; rw [h]
@[simp] theorem answer_startOwed (c : Call) (st : Nat) (x : List Byte) (d : Dev) : (answer c st x d).startOwed = d.startOwed := by
  obtain ⟨xs, h⟩ := answer_eq c st x d; rw [h]
@[simp] theorem answer_ports (c : Call) (st : Nat) (x : List Byte) (d : Dev) : (answer c st x d).ports = d.ports := by
  obtain ⟨xs, h⟩ := answer_eq c st x d; rw [h]
@[simp] theorem answer_prisms (c : Call) (st : Nat) (x : List Byte) (d : Dev) : (answer c st x d).prisms = d.prisms := by
  obtain ⟨xs, h⟩ := answer_eq c st x d; rw [h]
@[simp] theorem answer_multi (c : Call) (st : Nat) (x : List Byte) (d : Dev) : (answer c st x d).multi = d.multi := by
  obtain ⟨xs, h⟩ := answer_eq c st x d; rw [h]
@[simp] theorem answer_msgId (c : Call) (st : Nat) (x : List Byte) (d : Dev) : (answer c st x d).msgId = d.msgId := by
  obtain ⟨xs, h⟩ := answer_eq c st x d; rw [h]
@[simp] theorem answer_msgOrder (c : Call) (st : Nat) (x : List Byte) (d : Dev) : (answer c st x d).msgOrder = d.msgOrder := by
  obtain ⟨xs, h⟩ := answer_eq c st x d; rw [h]
@[simp] theorem answer_snapshots (c : Call) (st : Nat) (x : List Byte) (d : Dev) : (answer c st x d).snapshots = d.snapshots := by
  obtain ⟨xs, h⟩ := answer_eq c st x d; rw [h]
@[simp] theorem answer_chords (c : Call) (st : Nat) (x : List Byte) (d : Dev) : (answer c st x d).chords = d.chords := by
  obtain ⟨xs, h⟩ := answer_eq c st x d; rw [h]
@[simp] theorem answer_links (c : Call) (st : Nat) (x : List Byte) (d : Dev) : (answer c st x d).links = d.links := by
  obtain ⟨xs, h⟩ := answer_eq c st x d; rw [h]
@[simp] theorem answer_lanes (c : Call) (st : Nat) (x : List Byte) (d : Dev) : (answer c st x d).lanes = d.lanes := by
  obtain ⟨xs, h⟩ := answer_eq c st x d; rw [h]
@[simp] theorem answer_flows (c : Call) (st : Nat) (x : List Byte) (d : Dev) : (answer c st x d).flows = d.flows := by
  obtain ⟨xs, h⟩ := answer_eq c st x d; rw [h]
@[simp] theorem answer_sources (c : Call) (st : Nat) (x : List Byte) (d : Dev) : (answer c st x d).sources = d.sources := by
  obtain ⟨xs, h⟩ := answer_eq c st x d; rw [h]
@[simp] theorem answer_accepted (c : Call) (st : Nat) (x : List Byte) (d : Dev) : (answer c st x d).accepted = d.accepted := by
  obtain ⟨xs, h⟩ := answer_eq c st x d; rw [h]
@[simp] theorem answer_egress (c : Call) (st : Nat) (x : List Byte) (d : Dev) : (answer c st x d).egress = d.egress := by
  obtain ⟨xs, h⟩ := answer_eq c st x d; rw [h]
@[simp] theorem answer_faults (c : Call) (st : Nat) (x : List Byte) (d : Dev) : (answer c st x d).faults = d.faults := by
  obtain ⟨xs, h⟩ := answer_eq c st x d; rw [h]
@[simp] theorem answer_bist (c : Call) (st : Nat) (x : List Byte) (d : Dev) : (answer c st x d).bist = d.bist := by
  obtain ⟨xs, h⟩ := answer_eq c st x d; rw [h]
@[simp] theorem answer_power (c : Call) (st : Nat) (x : List Byte) (d : Dev) : (answer c st x d).power = d.power := by
  obtain ⟨xs, h⟩ := answer_eq c st x d; rw [h]
@[simp] theorem answer_clashed (c : Call) (st : Nat) (x : List Byte) (d : Dev) : (answer c st x d).clashed = d.clashed := by
  obtain ⟨xs, h⟩ := answer_eq c st x d; rw [h]
@[simp] theorem answer_cal (c : Call) (st : Nat) (x : List Byte) (d : Dev) : (answer c st x d).cal = d.cal := by
  obtain ⟨xs, h⟩ := answer_eq c st x d; rw [h]
@[simp] theorem answer_scans (c : Call) (st : Nat) (x : List Byte) (d : Dev) : (answer c st x d).scans = d.scans := by
  obtain ⟨xs, h⟩ := answer_eq c st x d; rw [h]
@[simp] theorem answer_life (c : Call) (st : Nat) (x : List Byte) (d : Dev) : (answer c st x d).life = d.life := by
  obtain ⟨xs, h⟩ := answer_eq c st x d; rw [h]
@[simp] theorem answer_time (c : Call) (st : Nat) (x : List Byte) (d : Dev) : (answer c st x d).time = d.time := by
  obtain ⟨xs, h⟩ := answer_eq c st x d; rw [h]
@[simp] theorem answer_wear (c : Call) (st : Nat) (x : List Byte) (d : Dev) : (answer c st x d).wear = d.wear := by
  obtain ⟨xs, h⟩ := answer_eq c st x d; rw [h]
@[simp] theorem answer_aged (c : Call) (st : Nat) (x : List Byte) (d : Dev) : (answer c st x d).aged = d.aged := by
  obtain ⟨xs, h⟩ := answer_eq c st x d; rw [h]
@[simp] theorem answer_hot (c : Call) (st : Nat) (x : List Byte) (d : Dev) : (answer c st x d).hot = d.hot := by
  obtain ⟨xs, h⟩ := answer_eq c st x d; rw [h]
@[simp] theorem answer_tooHot (c : Call) (st : Nat) (x : List Byte) (d : Dev) : (answer c st x d).tooHot = d.tooHot := by
  obtain ⟨xs, h⟩ := answer_eq c st x d; rw [h]
@[simp] theorem answer_shares (c : Call) (st : Nat) (x : List Byte) (d : Dev) : (answer c st x d).shares = d.shares := by
  obtain ⟨xs, h⟩ := answer_eq c st x d; rw [h]
@[simp] theorem answer_strobe (c : Call) (st : Nat) (x : List Byte) (d : Dev) : (answer c st x d).strobe = d.strobe := by
  obtain ⟨xs, h⟩ := answer_eq c st x d; rw [h]
@[simp] theorem answer_sawCoreOff (c : Call) (st : Nat) (x : List Byte) (d : Dev) : (answer c st x d).sawCoreOff = d.sawCoreOff := by
  obtain ⟨xs, h⟩ := answer_eq c st x d; rw [h]
@[simp] theorem answer_sawResetN (c : Call) (st : Nat) (x : List Byte) (d : Dev) : (answer c st x d).sawResetN = d.sawResetN := by
  obtain ⟨xs, h⟩ := answer_eq c st x d; rw [h]
@[simp] theorem answer_sawRail (c : Call) (st : Nat) (x : List Byte) (d : Dev) : (answer c st x d).sawRail = d.sawRail := by
  obtain ⟨xs, h⟩ := answer_eq c st x d; rw [h]
@[simp] theorem answer_railsDown (c : Call) (st : Nat) (x : List Byte) (d : Dev) : (answer c st x d).railsDown = d.railsDown := by
  obtain ⟨xs, h⟩ := answer_eq c st x d; rw [h]
@[simp] theorem answer_resetLow (c : Call) (st : Nat) (x : List Byte) (d : Dev) : (answer c st x d).resetLow = d.resetLow := by
  obtain ⟨xs, h⟩ := answer_eq c st x d; rw [h]
@[simp] theorem answer_resuming (c : Call) (st : Nat) (x : List Byte) (d : Dev) : (answer c st x d).resuming = d.resuming := by
  obtain ⟨xs, h⟩ := answer_eq c st x d; rw [h]

theorem signal_stored (m : Nat) (d : Dev) : (master (signal m d) m).stored = (master d m).stored := by
  unfold signal
  dsimp only
  split
  · rfl
  · split
    · split <;> simp
    · simp

/-- R308: the reply is stored with its request. -/
theorem answer_stored (c : Call) (st : Nat) (x : List Byte) (d : Dev) :
    (master (answer c st x d) c.master).stored = some (c.raw, buildReply c.op st c.master c.tag c.seq x) := by
  unfold answer placeReply
  dsimp only
  split
  · split
    · rw [signal_stored]; simp [modMaster]
    · simp [modMaster]
  · simp [modMaster]

/-- What a taken request commits, from what its command's definition comes to (R310, R311). -/
theorem issue_body {op : Nat} {f : Body} {r : Req} {s : State} (ht : canTake s.dev r.master.val = true) (hf : r.flags = 0)
    (ho : attr s.dev DEVICE_OWNER 0 = r.master.val ∨ nonOwnerMay op r.params = true)
    (hj : findJob s.dev ⟨r.master.val, r.tag.toNat⟩ = none) (hn : outstanding s.dev r.master.val < 16)
    (hl : (paramRange op).1 ≤ r.params.length ∧ r.params.length ≤ (paramRange op).2) :
    issue op f r s = settle (takenCall op r s) (f s.mem (takenCall op r s) (takenDev op r s)) { s with dev := takenDev op r s } := by
  rw [issue_taken op f r s ht hf, judge_body op f r s ho hj hl]
  cases f s.mem (takenCall op r s) (takenDev op r s) <;> simp [hn]

/-- A taken request whose definition is done with its reply: the reply with OK, and the block and memory after it. -/
theorem issue_done {op : Nat} {f : Body} {r : Req} {s : State} {x : List Byte} {d : Dev} {w : MemOp} (ht : canTake s.dev r.master.val = true)
    (hf : r.flags = 0) (ho : attr s.dev DEVICE_OWNER 0 = r.master.val ∨ nonOwnerMay op r.params = true)
    (hj : findJob s.dev ⟨r.master.val, r.tag.toNat⟩ = none) (hn : outstanding s.dev r.master.val < 16)
    (hl : (paramRange op).1 ≤ r.params.length ∧ r.params.length ≤ (paramRange op).2)
    (hb : f s.mem (takenCall op r s) (takenDev op r s) = .done x d w) :
    issue op f r s = { s with dev := answer (takenCall op r s) stOk x d, mem := applyMemOp s.mem w } := by
  rw [issue_body ht hf ho hj hn hl, hb]; rfl

/-- A taken request whose definition starts a long-running command. -/
theorem issue_accept {op : Nat} {f : Body} {r : Req} {s : State} {x : List Byte} {d : Dev} (ht : canTake s.dev r.master.val = true)
    (hf : r.flags = 0) (ho : attr s.dev DEVICE_OWNER 0 = r.master.val ∨ nonOwnerMay op r.params = true)
    (hj : findJob s.dev ⟨r.master.val, r.tag.toNat⟩ = none) (hn : outstanding s.dev r.master.val < 16)
    (hl : (paramRange op).1 ≤ r.params.length ∧ r.params.length ≤ (paramRange op).2)
    (hb : f s.mem (takenCall op r s) (takenDev op r s) = .accept x d) :
    issue op f r s = { s with dev := answer (takenCall op r s) stAccepted x d } := by
  rw [issue_body ht hf ho hj hn hl, hb]; rfl

/-- A taken request that its definition's checks refuse: the reply with the status, and no effect. -/
theorem issue_refuse {op : Nat} {f : Body} {r : Req} {s : State} {st : Nat} {x : List Byte} (ht : canTake s.dev r.master.val = true)
    (hf : r.flags = 0) (ho : attr s.dev DEVICE_OWNER 0 = r.master.val ∨ nonOwnerMay op r.params = true)
    (hj : findJob s.dev ⟨r.master.val, r.tag.toNat⟩ = none) (hn : outstanding s.dev r.master.val < 16)
    (hl : (paramRange op).1 ≤ r.params.length ∧ r.params.length ≤ (paramRange op).2)
    (hb : f s.mem (takenCall op r s) (takenDev op r s) = .refuse st x) :
    issue op f r s = { s with dev := answer (takenCall op r s) st x (takenDev op r s) } := by
  rw [issue_body ht hf ho hj hn hl, hb]; rfl

end Sys2Proof.Machine
end

