-- ==== Sys2Proof/Laws/Sha.lean ====
section
/-! SUPPORT. Laws/Sha.lean: the lengths of what R504 computes. -/

namespace Sys2Proof.Machine

/-- A SHA-256 value is 32 bytes. -/
theorem sha256_length (bs : List Byte) : (sha256 bs).length = 32 := by
  simp [sha256, toBE, toLE]

/-- R504: a token is eight bytes. -/
theorem tokenFor_length (d : Dev) (target : Nat) : (tokenFor d target).length = 8 := by
  simp only [tokenFor, List.length_take, sha256_length]; rfl

end Sys2Proof.Machine
end

