-- ==== Sys2Proof/Machine/SvcLine.lean ====
section
/-! DEFINITION. Machine/SvcLine.lean: what a service burst puts on the 48 tones of the channel (R173 to R176, R178): the preamble,
the convolutional code, and the points of every symbol, read from the burst that the port last sent. -/

namespace Sys2Proof.Machine

/-- A symbol of the service channel: the points of tones S0 to S47, as multiples of the smallest coordinate of R49. -/
abbrev SvcSymbol := List (Int × Int)

/-- R173: the pattern S. -/
def preamblePattern : SvcSymbol := (prbs15 48 0x2C5A).1.map fun b => mapPoint (bitNat b) 1

/-- R173: the three symbols of the preamble; the third is reversed in sign. -/
def burstPreamble : List SvcSymbol := [preamblePattern, preamblePattern, preamblePattern.map fun z => (-z.1, -z.2)]

/-- R174: one output of the encoder: the parity of the bits of its register that a generator takes. DEDUCED (assumption 103):
the highest bit of an octal generator takes the input bit, the lowest the bit six before it. -/
def tapParity (g reg : Nat) : Bool := ((List.range 7).filter fun i => g.testBit i && reg.testBit i).length % 2 == 1

/-- R174: the coded bits of an input; `reg` holds the six bits before it, the latest as its highest. -/
def convolve : Nat → List Bool → List Bool
  | _, [] => []
  | reg, b :: bs =>
    let w := bitNat b * 64 + reg
    tapParity 0b1011011 w :: tapParity 0b1111001 w :: convolve (w / 2) bs

/-- R174: the input bits of a symbol. -/
def symbolInputs (qpsk : Bool) : Nat := if qpsk then 12 else 6

/-- R174: a header or payload with its six zero tail bits, padded with zero bits to whole symbols. -/
def paddedInput (qpsk : Bool) (bits : List Bool) : List Bool :=
  let k := symbolInputs qpsk
  bits ++ List.replicate (ceilDiv (bits.length + 6) k * k - bits.length) false

/-- R175: the points of the twelve groups of a symbol's coded bits: a bit each in BPSK; a pair each in QPSK, its first bit the
label's bit 1. -/
def groupPoints (qpsk : Bool) : List Bool → List (Int × Int)
  | [] => []
  | b :: bs =>
    if qpsk then
      match bs with
      | [] => []
      | c :: cs => mapPoint (2 * bitNat b + bitNat c) 2 :: groupPoints qpsk cs
    else mapPoint (bitNat b) 1 :: groupPoints qpsk bs

/-- R175: the point of group c on tones Sc, S(c+12), S(c+24) and S(c+36), the copy r turned by r times 90 degrees. -/
def spreadGroups (zs : List (Int × Int)) : SvcSymbol := (List.range 4).flatMap fun r => zs.map (quarterTurn r)

/-- The first `n` symbols of a run of points, twelve to a symbol. -/
def cutSymbols : Nat → List (Int × Int) → List SvcSymbol
  | 0, _ => []
  | n + 1, zs => spreadGroups (zs.take 12) :: cutSymbols n (zs.drop 12)

/-- R174, R175: the symbols of a header or payload; the encoder starts from zero. -/
def codedSymbols (qpsk : Bool) (bits : List Bool) : List SvcSymbol :=
  let input := paddedInput qpsk bits
  cutSymbols (input.length / symbolInputs qpsk) (groupPoints qpsk (convolve 0 input))

/-- R178: the bits of a payload: its bytes and their CRC-32C, least significant byte first, each byte from its most significant bit. -/
def payloadBits (payload : List Byte) : List Bool := bytesToBits (payload ++ toLE (crc32c payload) 4)

/-- R173 to R178: the symbols of a burst: preamble, header from bit 35 down in BPSK, and the payload of a DATA burst. -/
def burstLine (b : SvcBurst) : List SvcSymbol :=
  burstPreamble ++ codedSymbols false (bitsMsb b.header 36)
    ++ (if b.payload.isEmpty then [] else codedSymbols (bitOf b.header 27) (payloadBits b.payload))

/-- What the port's last service burst put on the tones: the digital signal at its transmit filter (R172). -/
def svcLine (d : Dev) (p : Nat) : List SvcSymbol :=
  match (svc d p).lastBurst with
  | some b => burstLine b
  | none => []

end Sys2Proof.Machine
end

