-- ==== Sys2Proof/Tests/Slice0.lean ====
section
/-! SUPPORT. Tests/Slice0.lean: the author's own tests: ill-formed terms that the checks refuse, a state and operands that meet the
hypotheses of each statement, clause by clause, and single commands on small states against values that the manual gives. -/

namespace Sys2Proof.Tests

set_option Elab.async false
set_option maxRecDepth 100000

open Sys2Proof Sys2Proof.Machine Sys2Proof.Claims

/-! ### Small states: the block after reset, owned by M0, with a change -/

def st (f : Dev → Dev) : State := { State.reset with dev := f State.reset.dev }
def own : Dev → Dev := setAttr DEVICE_OWNER 0 0
def so : State := st own
def rq (m : Fin 4) (ps : List Nat) : Req := ⟨m, 7#8, 0#8, ps.map byteOf⟩
def q (ps : List Nat) : Req := rq 0 ps
def due0 (k i : Nat) : Dev → Dev := arm k i 0
def zs (n : Nat) : List Nat := List.replicate n 0
def so' (f : Dev → Dev) : State := st (f ∘ own)
def carry (p : Nat) : Dev → Dev := setAttr PORT_RX_STATE p 2 ∘ setAttr PORT_STATE p psCarry
def inHold (p : Nat) : Dev → Dev := setAttr PORT_RX_STATE p 3 ∘ setAttr PORT_STATE p psCarry
def ld1 : List Byte := List.replicate 8 0#8 ++ List.replicate 8 0xCC#8 ++ List.replicate 240 0#8
def gn1 : List Byte := List.replicate 512 0#8
def tmsg : List Byte := 0x0B#8 :: (ld1 ++ gn1)
def trainIn (p k : Nat) (f : Training → Training) : Dev → Dev := modTrain p f ∘ setAttr PORT_TRAIN_PHASE p k ∘ setAttr PORT_STATE p psTrain

/-! The states and operands of single witnesses. -/

def hd : SetHead := ⟨0, 7#8, 0#8⟩
def ev (n : Nat) : EventRec := ⟨n, 0, clsPort, 3, evNoPartner, 0⟩
def s2 : State := st fun d => setMaster 0 { master d 0 with events := [ev 4, ev 6], dynAddr := some 9 } (own d)
def fj (tag order : Nat) : Job := ⟨⟨0, tag⟩, 0x28, [0#8, 0#8, 0#8, 0#8], order, false, false, false⟩
def da : State := st fun d => setMaster 1 { master d 1 with dynAddr := some 9, protoErr := true, waitStart := true } d
def dah : State := st fun d => setMaster 1 { master d 1 with dynAddr := some 9, hdr := true } d
def raw0 : List Byte := buildRequest 0 0 1 7 0 []
def mb (x : Option (List Byte)) : State := st fun d => setMaster 1 { master d 1 with dynAddr := some 9, partialReq := x, replies := [⟨[1#8, 2#8, 3#8], 1, false, 0⟩], ibi := some 1 } (due0 tkRequest 1 d)
def mb2 : State := { mb none with dev := setMaster 1 { master (mb none).dev 1 with hdr := true } (mb none).dev }
def old : State := { mb none with dev := { (mb none).dev with elapsed := 1000 * nsPerMs } }
def g0 (x : Option (List Byte)) : State := st fun d => setMaster 2 { master d 2 with partialReq := x } (due0 tkPacket 2 (setAttr GROUP_STATE 0 2 d))
def paced : State := st (fun d => setBlockByte PORT_RETIRE_CAUSE 5 35 1 (modRx 5 (fun x => { x with paceOrder := [3], paceCalm := 1024 }) (carry 5 d)))
def ingr : State := st (fun d => setBlockByte PORT_RETIRE_CAUSE 5 35 2 (modRx 5 (fun x => { x with maskNow := List.replicate 64 0xFF#8 }) (carry 5 d)))
def ph3 : State := st (setAttr PORT_TRAIN_PHASE 5 3 ∘ setAttr PORT_STATE 5 psTrain)
def hr : HeldRead := ⟨⟨0, 7, 0x92, [5,1,3,0,0x0C,2,0,0].map byteOf, 0, [], 4⟩, 0, false⟩
def cw (seq : Nat) : List Nat := writeContainer (seq * 2 ^ 112 + 144 * 2 ^ 31) (List.replicate 144 5#8)
def c511 : Nat × List Byte × Nat := (511 * 2 ^ 112 + 144 * 2 ^ 31 + 2114, List.replicate 144 5#8, 0)
def holes : State := st (modRecast 5 (fun x => { x with holes := [⟨7, 0, 0⟩, ⟨9, 5, 5⟩] }) ∘ setAttr PORT_RX_HIGHEST 5 10 ∘ carry 5)
def m5 : List Nat := 0x20 :: zs 15
def abil : Dev → Dev := setAttr PORT_PARTNER_ABILITY 5 (2 ^ 35 + 2 ^ 34)
def lis : Dev → Dev := setAttr PORT_STATE 5 psListen
def neg : Dev → Dev := setAttr PORT_STATE 5 psNegotiate
def fr : List Byte := List.replicate 60 1#8
def sw (j : Option JobRef) (partner : Bool) : Swap := { job := j, partner := partner, dirs := 3, asked := [1, 0], agreed := 0, changed := 0, fresh := true, tx := none, rx := none, sf := none, attempts := 0, atTime := none, atDirs := 0, marked := 0, ending := none }
def sw2 : Swap := { sw none true with agreed := 3, asked := [] }
def ent (e : QuietEntry) : Dev → Dev := modPort 5 (fun x => { x with quiet := { x.quiet with entry := some e } }) ∘ carry 5
def qt (f : QuietState → QuietState) : Dev → Dev := modPort 5 (fun x => { x with quiet := f x.quiet }) ∘ setAttr PORT_STATE 5 psQuiet
def dm (f : QuietState → QuietState) : Dev → Dev := modPort 5 (fun x => { x with quiet := f x.quiet }) ∘ setAttr PORT_STATE 5 psDormant
def sv (p : Nat) (f : Svc → Svc) : Dev → Dev := modPort p (fun x => { x with svc := f x.svc })
def rc (h : Option Head) : SvcReception := { power := -60, snr := 9, header := h.map headBits }
def cp (f : Svc → Svc) : State := st (sv 5 f ∘ carry 5)
def partner5 : Dev → Dev := fun d => setAttr LATTICE_INDEX 0 7 (setAttr PORT_CHORD 5 3 { d with chords := [(3, some ([5, 6], 2))] })
def h1 : Head := { ty := 1, len := 2, first := true, last := true }
def h2 : Head := { ty := 2, ctrl := false, addr := 3, tclass := 2 }
def frag : SvcFragment := { tclass := 0, bytes := [1#8], first := true, last := true, tries := 2, due := false }
def snp (k : Nat) (f : Bool) : Snapshot := ⟨⟨0, 9⟩, 5, k, 0, 3, f, false⟩
def scn (st' : ScanStep) : Scan := ⟨⟨0,9⟩, 16, st', 0, 0⟩
def scs (x : ScanStep) (f : Dev → Dev) : State := so' (fun d => f (modPort 5 (fun y => { y with scan := some (scn x) }) (setAttr PORT_CLAIMS 5 0x0303 { d with jobs := [⟨⟨0,9⟩, 0x90, [], 0, false, false, false⟩] })))
def ts (mode t ns : Nat) (d : List Nat) : Req := q ([mode,0,0,0] ++ (toLE t 6).map (·.toNat) ++ (toLE ns 4).map (·.toNat) ++ d)
def chd (d : Dev) : Dev := setBlockByte LATTICE_CHORD_STATE 0 3 2 { d with chords := [(3, some ([5, 6], 2))] }
def fo (t : List Nat) : List Nat := [0xFF,0xFF] ++ t ++ [0, 0xFF, 0, 1, 3, 64, 0, 100,0,0,0, 100,0,0,0]
def foI (c : List Nat) (t : List Nat) : List Nat := c ++ t ++ [0, 0xFF, 0, 1, 3, 64, 0, 100,0,0,0, 100,0,0,0]
def chdI (d : Dev) : Dev := setAttr PORT_CHORD 70 3 (setAttr PORT_CHORD 71 3 (setBlockByte LATTICE_CHORD_STATE 0 3 2 { d with chords := [(3, some ([70, 71], 2))] }))
def fopen (f : Nat) (d : Dev) : Dev := setAttr FLOW_STATE f 1 (setAttr FLOW_CLASS f 8 (setAttr FLOW_TARGET f 5 (setAttr FLOW_KIND f 0 (setAttr FLOW_INNER f 0 (setAttr FLOW_MAP f 0xFF00FFFF d)))))
def drn (f : Nat) (d : Dev) : Dev := setAttr FLOW_STATE f 2 (modFlow f (fun x => { x with drain := some ⟨0, 9⟩ }) { fopen f d with jobs := [⟨⟨0,9⟩, 0x41, [], 0, false, false, false⟩] })
def pr : PatternRun := ⟨⟨0,9⟩, 1, 0, 0, 0, 0, 0, 0, 0, 0, 0, 0⟩
def trn (k : Nat) (qk : Bool) : LaneTraining := ⟨.command ⟨0,9⟩, qk, [0,1,2,3], k, false, [], [], 0, 0⟩
def lt (pair : Nat) (x : LaneTraining) (d : Dev) : Dev := modLink (pairTx pair) (fun y => { y with train := some x }) (setAttr GROUP_STATE (pairTx pair) 1 (setAttr GROUP_STATE (pairRx pair) 1 { d with jobs := [⟨⟨0,9⟩, 0x50, [], 0, false, false, false⟩] }))
def up (g : Nat) (d : Dev) : Dev := setAttr GROUP_STATE g 2 (setAttr GROUP_WIDTH g 4 (setAttr GROUP_LANE_MAP g 0x3210 (forAll [0,1,2,3] (fun k e => setAttr LANE_STATE (8 * g + k) 2 e) (setAttr LANE_STATE (8 * g + 4) 3 d))))
def upp : Dev → Dev := up 3 ∘ up 11
def sr : SentRow := ⟨7, 1, [], [], 0⟩
def lr : LogRec := ⟨77, 7, 3, 2, 1, 2, 0, 5, 1, []⟩
def mask25 (ks : List Nat) : List Nat := (List.range 25).map (fun b => ((ks.filter (fun k => k / 8 == b)).map (fun k => 2 ^ (k % 8))).foldl (· + ·) 0)
def ps32 (st lim : Nat) (ks : List Nat) : List Nat := [st, 0, lim % 256, lim / 256] ++ mask25 ks ++ [0,0,0]
def pset (w : List Nat) (c : Bool) (l : List Nat) : PowerSet := ⟨⟨0,9⟩, 2, [3,77], w, [], c, l, []⟩
def pj (x : PowerSet) (d : Dev) : Dev := modPower (fun y => { y with set := some x }) { d with jobs := [⟨⟨0,9⟩, 0x60, [], 0, false, false, false⟩] }
def wk (n src timer : Nat) (ports doms : List Nat) : List Nat := [n, src, 3, 2, timer % 256, timer / 256 % 256, timer / 65536, 0] ++ (mask25 ports).take 16 ++ mask25 doms ++ [0,0,0]
def wkq : State := so' (setAttr PORT_STATE 9 psQuiet)
def crun (c : Bool) (left : List Nat) : CalRun := ⟨⟨0,9⟩, 1, c, 0x0105, left, [], [], false⟩
def crd (x : CalRun) (d : Dev) : Dev := modCal (fun y => { y with runs := [x] }) { d with jobs := [⟨⟨0,9⟩, 0x70, [], 0, false, false, false⟩] }
def cst : CalStore := ⟨⟨0,9⟩, 1, 2, 4, List.replicate 64 7#8 ++ [1#8, 2#8]⟩
def br (mode first n seed pat : Nat) : List Nat := [mode, 0, first % 256, first / 256, n % 256, n / 256, 0, 0, seed, 0,0,0,0,0,0,0, pat, 0,0,0]
def sl (r why : Nat) : Slice := ⟨r, why, 1000, false, false, false⟩
def sld (x : Slice) : Dev → Dev := modBist (fun b => { b with slice := some x })
def cs (u mode fold start len : Nat) : List Nat := [u, mode, fold, 0] ++ (List.range 4).map (fun i => start / 256 ^ i % 256) ++ (List.range 4).map (fun i => len / 256 ^ i % 256) ++ zs 20
def crn (mode : Nat) : CheckRun := ⟨⟨0,9⟩, 3, (q (cs 3 mode 0 0x600000 32)).params, false⟩
def dj : Job := ⟨⟨0,7⟩, 0x88, (q (cs 3 0 0 0x600000 32)).params, 0, true, false, false⟩
def dbody : Body := bodyCheckScan
def dbe : Dev := match dbody so.mem ⟨0, 7, 0x88, dj.params, 0, [], 0⟩ so.dev with | Verdict.accept _ e => e | _ => so.dev
def lca (j : Nat) (d : Dev) : Dev := modLife (fun x => { x with advance := some (⟨0,9⟩, j) }) { d with jobs := [⟨⟨0,9⟩, 0xC4, [], 0, false, false, false⟩] }
def nopS (m seq : Nat) : List Byte := buildRequest 0 1 m 7 seq []
def stored (a b : List Byte) : Dev → Dev := modMaster 3 (fun x => { x with stored := some (a, b) })
def evs (n : Nat) : List EventRec := List.replicate n ⟨1, 2, 3, 4, 5, 6⟩

theorem wrongSignature (r : Nat) : sliceResult r (Config.goldenSignature r + 1) (Config.patternCount r) (Config.patternCount r) = brSignature := by
  unfold sliceResult
  rw [if_neg (by simp), if_neg (by bv_omega)]

theorem wrongCount (r : Nat) (g : BitVec 64) : sliceResult r g (Config.patternCount r) (Config.patternCount r + 1) = brCount := by
  unfold sliceResult
  rw [if_pos (Or.inr (by bv_omega))]

def tokenReq : Req := ⟨0, 7#8, 0#8, [3#8, 0#8, 0#8, 0#8] ++ tokenFor so.dev 3⟩

theorem tokenReq_length : tokenReq.params.length = 12 := by
  show ([3#8, 0#8, 0#8, 0#8] ++ tokenFor so.dev 3).length = 12
  rw [List.length_append, tokenFor_length]; rfl

theorem tokenReq_token : List.take 8 (List.drop 4 tokenReq.params) = tokenFor so.dev (byteAt tokenReq.params 0) := by
  show List.take 8 (tokenFor so.dev 3) = tokenFor so.dev 3
  exact List.take_of_length_le (by rw [tokenFor_length])

theorem wrongTokenWith (b : Nat) (x : Byte) (hq : byteAt (q ([3, 0, 0, 0] ++ List.replicate 8 b)).params 0 = 3)
    (hd : List.take 8 (List.drop 4 (q ([3, 0, 0, 0] ++ List.replicate 8 b)).params) = List.replicate 8 x) (h : tokenFor so.dev 3 ≠ List.replicate 8 x) :
    List.take 8 (List.drop 4 (q ([3, 0, 0, 0] ++ List.replicate 8 b)).params) ≠ tokenFor so.dev (byteAt (q ([3, 0, 0, 0] ++ List.replicate 8 b)).params 0) := by
  rw [hq, hd]; exact h.symm

theorem wrongToken : ∃ (s : State) (r : Req), Takes 196 r s ∧ r.params.length = 12 ∧ attr s.dev DEVICE_LC_STATE 0 < byteAt r.params 0 ∧ byteAt r.params 0 ≤ 3
    ∧ leAt r.params 1 3 = 0 ∧ attr s.dev DEVICE_LC_FAILS 0 < 3 ∧ List.take 8 (List.drop 4 r.params) ≠ tokenFor s.dev (byteAt r.params 0) := by
  by_cases h : tokenFor so.dev 3 = List.replicate 8 0#8
  · exact ⟨so, q ([3, 0, 0, 0] ++ List.replicate 8 1), by decide +kernel, by decide +kernel, by decide +kernel, by decide +kernel, by decide +kernel,
      by decide +kernel, wrongTokenWith 1 1#8 (by decide +kernel) (by decide +kernel) (by rw [h]; decide)⟩
  · exact ⟨so, q ([3, 0, 0, 0] ++ List.replicate 8 0), by decide +kernel, by decide +kernel, by decide +kernel, by decide +kernel, by decide +kernel,
      by decide +kernel, wrongTokenWith 0 0#8 (by decide +kernel) (by decide +kernel) h⟩

/-- No time limit ends before its time: a limit that is not running. -/
theorem witness_limit_not_due : ∃ (c : Instr) (s : State) (k i : Nat), limitOf c = some (k, i) ∧ due s.dev k i = false :=
  ⟨.atPulseTimeout 3 0xFF#8, so, tkAtPulse, 0x3FF, by decide +kernel, by decide +kernel⟩

/-- A staged image of 16 bytes with a good header. -/
def image : List Byte := [0x49#8, 0x5A#8, 0x46#8, 0x50#8, 1#8] ++ List.replicate 11 0#8 ++ [16#8] ++ List.replicate 255 0#8

def imageState : State := { so' (modLife (fun x => { x with commit := some ⟨0, 9⟩ })) with mem := memWrite [] (patchBase 0) image }
/-- Where the signature is good, the hypotheses of the clause of a sealed header are met. -/
theorem witness_good_image (h : Config.signatureGood (sha256 (((memRead imageState.mem 0 256).take 128) ++ memRead imageState.mem 256 16)) (((memRead imageState.mem 0 256).drop 128).take 64) = true) :
    imageState.dev.life.commit = some ⟨0, 9⟩ ∧ imageFault imageState.mem imageState.dev true = 0 := by
  refine ⟨by decide +kernel, ?_⟩
  have hb : patchBase (stageSlot imageState.dev) = 0 := by decide +kernel
  have h0 : leAt (memRead imageState.mem 0 256) 0 4 = 0x50465A49 ∧ byteAt (memRead imageState.mem 0 256) 4 = 1 ∧ leAt (memRead imageState.mem 0 256) 16 4 = 16
      ∧ leAt (memRead imageState.mem 0 256) 12 4 = 0 ∧ badRange imageState.dev 0 272 = false ∧ patchLengthOk 16 = true := by decide +kernel
  obtain ⟨h1, h2, h3, h4, h5, h6⟩ := h0
  simp [imageFault, hb, h1, h2, h3, h4, h5, h6, h]


/-! ### Each statement's hypotheses are met together (a conjunct for each clause) -/

theorem witness_limits_end_in_time :
    (∃ (s : State), s.pending = [] ∧ s.dev.phase = StartPhase.held)
    ∧ (∃ (s : State), s.pending = [] ∧ s.dev.phase ≠ StartPhase.held) :=
  ⟨⟨st (fun d => heldDev (latchResetN d)), by decide +kernel⟩,
   ⟨st (arm 3 4 2), by decide +kernel⟩⟩

theorem witness_memory_stays_canonical : ∃ s t : State, memWf s.mem = true ∧ step s = .next t ∧ s.pending ≠ [] :=
  ⟨{ so with pending := [.wakeInEdge true] }, _, by decide +kernel, rfl, by decide +kernel⟩

theorem witness_request_reads_back :
    ∃ (op : ℕ) (flags : ℕ) (m : ℕ) (tag : ℕ) (ps : List Byte), op < 256 ∧ flags < 256 ∧ m < 4 ∧ tag < 256 ∧ ps.length ≤ 1024 :=
  ⟨255, 255, 3, 255, [1#8], by decide +kernel⟩

theorem witness_reply_is_no_request :
    ∃ (tag : ℕ), tag < 255 :=
  ⟨254, by decide +kernel⟩

theorem witness_packet_runs_its_row :
    ∃ (op : ℕ) (body : Body) (r : Req) (s : State), op < 256 ∧ bodyOf op = some body ∧ r.flags = 0#8 ∧ r.params.length ≤ 1024 ∧ canTake s.dev ↑r.master = true :=
  ⟨0, bodyNop, q [], so, by decide +kernel, rfl, by decide +kernel⟩

theorem witness_nop_answers_ok :
    (∃ (r : Req) (s : State), canTake s.dev ↑r.master = true ∧ findJob s.dev { master := ↑r.master, tag := BitVec.toNat r.tag } = none ∧ r.params.length ≤ 1024 ∧ (r.flags = 0#8 ∨ r.flags = 1#8))
    ∧ (∃ (r : Req) (s : State), canTake s.dev ↑r.master = true ∧ findJob s.dev { master := ↑r.master, tag := BitVec.toNat r.tag } = none ∧ r.params.length ≤ 1024 ∧ (r.flags = 0#8 ∨ r.flags = 1#8))
    ∧ (∃ (r : Req) (s : State), canTake s.dev ↑r.master = true ∧ findJob s.dev { master := ↑r.master, tag := BitVec.toNat r.tag } = none ∧ r.params.length ≤ 1024 ∧ (r.flags = 0#8 ∨ r.flags = 1#8))
    ∧ (∃ (r : Req) (s : State), canTake s.dev ↑r.master = true ∧ findJob s.dev { master := ↑r.master, tag := BitVec.toNat r.tag } = none ∧ r.params.length ≤ 1024 ∧ (r.flags = 0#8 ∨ r.flags = 1#8)) :=
  ⟨⟨q [1], so, by decide +kernel⟩,
   ⟨{ q [] with flags := 1#8}, so, by decide +kernel⟩,
   ⟨q [], so, by decide +kernel⟩,
   ⟨⟨1, 255#8, 1#8, [7#8]⟩, so, by decide +kernel⟩⟩

theorem witness_resynchronisation :
    (∃ (raw : List Byte), delimitCheck raw = none ∧ byteAt raw 1 % 2 = 1)
    ∧ (∃ (raw : List Byte), delimitCheck raw = none ∧ byteAt raw 1 % 2 = 1)
    ∧ (∃ (raw : List Byte), delimitCheck raw = none ∧ byteAt raw 1 % 2 = 1) :=
  ⟨⟨buildRequest 0 1 3 7 0 [], by decide +kernel⟩,
   ⟨buildRequest 0 1 3 7 9 [], by decide +kernel⟩,
   ⟨buildRequest 4 1 3 7 0 [], by decide +kernel⟩⟩

theorem witness_duplicates_and_bad_packets :
    (∃ (raw : List Byte) (st : ℕ), delimitCheck raw = some st)
    ∧ (∃ (m : Fin 4) (raw : List Byte) (s : State), delimitCheck raw = none ∧ byteAt raw 1 % 2 = 0 ∧ pcrcMatches (↑m) (attr s.dev DEVICE_CMD_SEQ_NEXT ↑m) raw = false ∧ (pcrcMatches (↑m) ((attr s.dev DEVICE_CMD_SEQ_NEXT ↑m + 65535) % 65536) raw = false ∨ (master s.dev ↑m).stored = none))
    ∧ (∃ (m : Fin 4) (raw : List Byte) (s : State) (req : List Byte) (rep : List Byte), delimitCheck raw = none ∧ byteAt raw 1 % 2 = 0 ∧ pcrcMatches (↑m) (attr s.dev DEVICE_CMD_SEQ_NEXT ↑m) raw = false ∧ pcrcMatches (↑m) ((attr s.dev DEVICE_CMD_SEQ_NEXT ↑m + 65535) % 65536) raw = true ∧ (master s.dev ↑m).stored = some (req, rep) ∧ req ≠ raw)
    ∧ (∃ (m : Fin 4) (raw : List Byte) (s : State) (req : List Byte) (rep : List Byte), delimitCheck raw = none ∧ byteAt raw 1 % 2 = 0 ∧ pcrcMatches (↑m) (attr s.dev DEVICE_CMD_SEQ_NEXT ↑m) raw = false ∧ pcrcMatches (↑m) ((attr s.dev DEVICE_CMD_SEQ_NEXT ↑m + 65535) % 65536) raw = true ∧ (master s.dev ↑m).stored = some (req, rep) ∧ req = raw ∧ rep ≠ [] ∧ (∀ x ∈ (master s.dev ↑m).replies, x.bytes ≠ rep) ∧ transportUp s.dev ↑m = true) :=
  ⟨⟨[1#8], stBadLength, by decide +kernel⟩,
   ⟨3, buildRequest 0 0 3 7 9 [], so, by decide +kernel⟩,
   ⟨3, buildRequest 0 0 3 7 65535 [], so' (stored [1#8] [2#8]), [1#8], [2#8], by decide +kernel⟩,
   ⟨0, buildRequest 0 0 0 7 65535 [], so' (modMaster 0 (fun x => { x with stored := some (buildRequest 0 0 0 7 65535 [], [2#8]) })), buildRequest 0 0 0 7 65535 [], [2#8], by decide +kernel⟩⟩

theorem witness_events_and_completions :
    (∃ (d : Dev), d.vertex ≠ VertexMode.halted)
    ∧ (∃ (d : Dev) (type : ℕ) (m : Fin 4), d.vertex ≠ VertexMode.halted ∧ bitOf (attr d EVENTQ_FILTER ↑m) (category type) = true ∧ (master d ↑m).events.length < 255)
    ∧ (∃ (d : Dev) (type : ℕ) (m : Fin 4), d.vertex ≠ VertexMode.halted ∧ bitOf (attr d EVENTQ_FILTER ↑m) (category type) = false)
    ∧ (∃ (d : Dev) (type : ℕ) (m : Fin 4) (x : EventRec), d.vertex ≠ VertexMode.halted ∧ bitOf (attr d EVENTQ_FILTER ↑m) (category type) = true ∧ (master d ↑m).events.length = 255 ∧ (master d ↑m).events.getLast? = some x ∧ x.type ≠ evOverflow)
    ∧ (∃ (d : Dev) (type : ℕ) (m : Fin 4) (x : EventRec), d.vertex ≠ VertexMode.halted ∧ bitOf (attr d EVENTQ_FILTER ↑m) (category type) = true ∧ (master d ↑m).events.length = 256 ∧ (master d ↑m).events.getLast? = some x ∧ x.type = evOverflow)
    ∧ (∃ (d : Dev) (m : Fin 4) (tag : ℕ) (status : ℕ) (result : List Byte) (job : Job), d.vertex ≠ VertexMode.halted ∧ tag < 256 ∧ status < 256 ∧ result.length ≤ 1024 ∧ findJob d { master := ↑m, tag := tag } = some job) :=
  ⟨⟨so.dev, by decide +kernel⟩,
   ⟨so.dev, 5, 3, by decide +kernel⟩,
   ⟨setAttr EVENTQ_FILTER 3 0 so.dev, 5, 3, by decide +kernel⟩,
   ⟨modMaster 3 (fun x => { x with events := evs 255 }) so.dev, 5, 3, ⟨1, 2, 3, 4, 5, 6⟩, by decide +kernel⟩,
   ⟨modMaster 3 (fun x => { x with events := evs 255 ++ [⟨1, 2, 3, 4, evOverflow, 65535⟩] }) so.dev, 5, 3, ⟨1, 2, 3, 4, evOverflow, 65535⟩, by decide +kernel⟩,
   ⟨{ so.dev with jobs := [⟨⟨3,255⟩, 0x88, [], 0, false, false, false⟩] }, 3, 255, 255, [1#8], ⟨⟨3,255⟩, 0x88, [], 0, false, false, false⟩, by decide +kernel⟩⟩

theorem witness_reads_complete :
    (∃ (r : Req) (s : State), Takes 0 r s ∧ r.params = [])
    ∧ (∃ (r : Req) (s : State), Takes 1 r s ∧ r.params = [])
    ∧ (∃ (r : Req) (s : State) (a : Attr), Takes 16 r s ∧ r.params.length = 6 ∧ byteAt r.params 1 = 0 ∧ addressed (addrAt r.params) = some a ∧ isBlock a = false)
    ∧ (∃ (r : Req) (s : State) (a : Attr), Takes 16 r s ∧ r.params.length = 6 ∧ byteAt r.params 1 = 0 ∧ addressed (addrAt r.params) = some a ∧ isBlock a = false)
    ∧ (∃ (r : Req) (s : State) (a : Attr), Takes 18 r s ∧ r.params.length = 12 ∧ byteAt r.params 1 = 0 ∧ addressed (addrAt r.params) = some a ∧ isBlock a = true ∧ 1 ≤ leAt r.params 6 2 ∧ leAt r.params 6 2 ≤ 1020 ∧ leAt r.params 8 4 + leAt r.params 6 2 ≤ a.size) :=
  ⟨⟨q [], State.reset, by decide +kernel⟩,
   ⟨q [], State.reset, by decide +kernel⟩,
   ⟨q [5,0,3,0,0,4], State.reset, PORT_STATE, by decide +kernel, by decide +kernel, by decide +kernel, rfl, by decide +kernel⟩,
   ⟨q [5,0,3,0,0x0D,1], State.reset, PORT_TX_PSD, by decide +kernel, by decide +kernel, by decide +kernel, rfl, by decide +kernel⟩,
   ⟨q [1,0,5,1,0x10,2,16,0,4,0,0,0], State.reset, DEVICE_COMPLETION, by decide +kernel, by decide +kernel, by decide +kernel, rfl, by decide +kernel⟩⟩

theorem witness_set_writes_value :
    ∃ (r : Req) (s : State) (a : Attr), Takes 17 r s ∧ r.params.length = 8 + a.width / 8 ∧ byteAt r.params 1 = 0 ∧ leAt r.params 6 2 = 0 ∧ addressed (addrAt r.params) = some a ∧ isBlock a = false ∧ a.code ≠ DEVICE_SNAP_READY.code ∧ valueCheck s.dev a (addrAt r.params).inst (leAt r.params 8 (a.width / 8)) = none :=
  ⟨q [5,0,3,0,0x0D,1,0,0,0x40,0xFC], so, PORT_TX_PSD, by decide +kernel, by decide +kernel, by decide +kernel, by decide +kernel, rfl, by decide +kernel⟩

theorem witness_set_block_writes_bytes :
    ∃ (r : Req) (s : State) (a : Attr), Takes 19 r s ∧ 13 ≤ r.params.length ∧ r.params.length ≤ 1024 ∧ byteAt r.params 1 = 0 ∧ leAt r.params 6 2 = 0 ∧ addressed (addrAt r.params) = some a ∧ isBlock a = true ∧ blockCheck s.dev a (addrAt r.params).inst (leAt r.params 8 4) (List.drop 12 r.params) = none :=
  ⟨q [5,0,3,0,0x0F,1, 0,0, 2,0,0,0, 1,0], so, PORT_TONE_MASK, by decide +kernel, by decide +kernel, by decide +kernel, by decide +kernel, by decide +kernel, rfl, by decide +kernel⟩

theorem witness_named_sets_write :
    (∃ (h : SetHead) (s : State) (m : Fin 8) (v : Byte), Takes 17 (setRequest h PRISM_PREFIX (↑m) (BitVec.toNat v)) s ∧ BitVec.toNat v ≤ 2 ∧ (∀ p ∈ portsOfPrism ↑m, engaged s.dev p = false ∧ attr s.dev PORT_CHORD p = 255))
    ∧ (∃ (h : SetHead) (s : State) (p : Fin 128) (v : BitVec 16), Takes 17 (setRequest h PORT_TX_PSD (↑p) v.toNat) s ∧ -1000 ≤ v.toInt ∧ v.toInt ≤ -920 ∧ v.toInt % 5 = 0)
    ∧ (∃ (h : SetHead) (s : State) (p : Fin 128) (v : BitVec 16), Takes 17 (setRequest h PORT_RATE_CAP (↑p) v.toNat) s ∧ 1800 ≤ v.toNat ∧ v.toNat ≤ 40000)
    ∧ (∃ (h : SetHead) (s : State) (p : Fin 128) (v : BitVec 16), Takes 17 (setRequest h PORT_SNR_HIST_INTERVAL (↑p) v.toNat) s ∧ 10 ≤ v.toNat ∧ v.toNat ≤ 60000)
    ∧ (∃ (h : SetHead) (s : State) (p : Fin 128) (v : BitVec 32), Takes 17 (setRequest h PORT_RECAST_RETRY (↑p) v.toNat) s ∧ (v.toNat = 0 ∨ 200 ≤ v.toNat ∧ v.toNat ≤ 100000))
    ∧ (∃ (h : SetHead) (s : State) (p : Fin 128) (v : BitVec 32), Takes 17 (setRequest h PORT_RECAST_DEADLINE (↑p) v.toNat) s ∧ (v.toNat = 0 ∨ 400 ≤ v.toNat ∧ v.toNat ≤ 200000 ∧ retryInUse s.dev ↑p ≤ v.toNat))
    ∧ (∃ (h : SetHead) (s : State) (u : Fin 4) (f : Fin 4) (v : BitVec 64), Takes 17 (setRequest h (checkField f) (↑u) v.toNat) s ∧ checkStateOf s.dev ↑u ≠ 1 ∧ valueOk s.dev (checkField f) (↑u) (v.toNat % 2 ^ (checkField f).width) = true)
    ∧ (∃ (h : SetHead) (s : State) (v : Byte), Takes 17 (setRequest h DEVICE_SNAP_READY 0 (BitVec.toNat v)) s)
    ∧ (∃ (h : SetHead) (p : Fin 128) (offset : BitVec 32) (data : List Byte) (s : State) (table : Fin 4), data ≠ [] ∧ data.length ≤ 1012 ∧ Takes 19 (setBlockRequest h (stageTable table) (↑p) offset.toNat data) s ∧ offset.toNat + data.length ≤ (stageTable table).size ∧ blockOk s.dev (stageTable table) (↑p) (spliceBytes (block s.dev (stageTable table) ↑p) offset.toNat data) = true)
    ∧ (∃ (h : SetHead) (p : Fin 128) (offset : BitVec 32) (data : List Byte) (s : State), data ≠ [] ∧ data.length ≤ 1012 ∧ Takes 19 (setBlockRequest h PORT_TONE_MASK (↑p) offset.toNat data) s ∧ offset.toNat + data.length ≤ 64 ∧ engaged s.dev ↑p = false ∧ toneMaskOk (spliceBytes (block s.dev PORT_TONE_MASK ↑p) offset.toNat data) = true) :=
  ⟨⟨hd, so, 3, 2#8, by decide +kernel⟩,
   ⟨hd, so, 17, 0xFC40#16, by decide +kernel⟩,
   ⟨hd, so, 17, 1800#16, by decide +kernel⟩,
   ⟨hd, so, 17, 60000#16, by decide +kernel⟩,
   ⟨hd, so, 17, 200#32, by decide +kernel⟩,
   ⟨hd, so, 17, 200000#32, by decide +kernel⟩,
   ⟨hd, so, 3, 0, 16#64, by decide +kernel⟩,
   ⟨hd, so, 3#8, by decide +kernel⟩,
   ⟨hd, 5, 0, [0#8], so, 0, by decide +kernel⟩,
   ⟨hd, 5, 0, [0#8], so, by decide +kernel⟩⟩

theorem witness_ownership_taken_and_passed :
    (∃ (r : Req) (s : State), Takes 32 r s ∧ r.params.length = 6 ∧ claimOk r.params = true ∧ (attr s.dev DEVICE_OWNER 0 = noOwner ∨ attr s.dev DEVICE_OWNER 0 = ↑r.master ∨ outranks s.dev (↑r.master) (byteAt r.params 0) = true))
    ∧ (∃ (r : Req) (s : State), Takes 32 r s ∧ r.params.length = 6 ∧ claimOk r.params = true ∧ (attr s.dev DEVICE_OWNER 0 = noOwner ∨ attr s.dev DEVICE_OWNER 0 = ↑r.master ∨ outranks s.dev (↑r.master) (byteAt r.params 0) = true))
    ∧ (∃ (r : Req) (s : State), Takes 32 r s ∧ r.params.length = 6 ∧ claimOk r.params = true ∧ (attr s.dev DEVICE_OWNER 0 = noOwner ∨ attr s.dev DEVICE_OWNER 0 = ↑r.master ∨ outranks s.dev (↑r.master) (byteAt r.params 0) = true))
    ∧ (∃ (r : Req) (s : State), Takes 32 r s ∧ r.params.length = 6 ∧ claimOk r.params = true ∧ attr s.dev DEVICE_OWNER 0 ≠ noOwner ∧ attr s.dev DEVICE_OWNER 0 ≠ ↑r.master ∧ outranks s.dev (↑r.master) (byteAt r.params 0) = false)
    ∧ (∃ (s : State) (r : Req), Takes 33 r s ∧ r.params.length = 4 ∧ (leAt r.params 0 4 = 0 ∨ 10 ≤ leAt r.params 0 4 ∧ leAt r.params 0 4 ≤ 60000))
    ∧ (∃ (s : State) (r : Req), Takes 33 r s ∧ r.params.length = 4 ∧ (leAt r.params 0 4 = 0 ∨ 10 ≤ leAt r.params 0 4 ∧ leAt r.params 0 4 ≤ 60000))
    ∧ (∃ (s : State) (r : Req), Takes 34 r s ∧ r.params.length = 4 ∧ byteAt r.params 0 = 255 ∧ byteAt r.params 1 = 0 ∧ (leAt r.params 2 2 = 0 ∨ 10 ≤ leAt r.params 2 2 ∧ leAt r.params 2 2 ≤ 10000))
    ∧ (∃ (s : State) (r : Req), Takes 34 r s ∧ r.params.length = 4 ∧ byteAt r.params 0 ≤ 3 ∧ byteAt r.params 0 ≠ attr s.dev DEVICE_OWNER 0 ∧ byteAt r.params 1 = 0 ∧ (leAt r.params 2 2 = 0 ∨ 10 ≤ leAt r.params 2 2 ∧ leAt r.params 2 2 ≤ 10000) ∧ s.dev.handover = none)
    ∧ (∃ (s : State) (r : Req), Takes 35 r s ∧ r.params.length = 6 ∧ claimOk r.params = true ∧ s.dev.handover.isSome = true ∧ attr s.dev DEVICE_HANDOVER_TARGET 0 = ↑r.master)
    ∧ (∃ (s : State), due s.dev tkLease 0 = true ∧ attr s.dev DEVICE_OWNER 0 ≠ noOwner)
    ∧ (∃ (s : State) (j : JobRef), due s.dev tkHandover 0 = true ∧ s.dev.handover = some j ∧ (findJob s.dev j).isSome = true) :=
  ⟨⟨q [3,0,100,0,0,0], State.reset, by decide +kernel⟩,
   ⟨rq 1 [3,0,0,0,0,0], st (setAttr DEVICE_OWNER_PRIORITY 0 2 ∘ own), by decide +kernel⟩,
   ⟨q [7,0,0x60,0xEA,0,0], so, by decide +kernel⟩,
   ⟨rq 1 [3,0,100,0,0,0], st (setAttr DEVICE_OWNER_PRIORITY 0 3 ∘ own), by decide +kernel⟩,
   ⟨so, q [10,0,0,0], by decide +kernel⟩,
   ⟨so, q [0,0,0,0], by decide +kernel⟩,
   ⟨so, q [0xFF,0,0,0], by decide +kernel⟩,
   ⟨so, q [1,0,10,0], by decide +kernel⟩,
   ⟨st (fun d => { setAttr DEVICE_HANDOVER_TARGET 0 1 (own d) with handover := some ⟨0, 9⟩ }), rq 1 [3,0,0,0,0,0], by decide +kernel⟩,
   ⟨st (due0 tkLease 0 ∘ own), by decide +kernel⟩,
   ⟨st (fun d => { due0 tkHandover 0 (setAttr DEVICE_HANDOVER_TARGET 0 1 (own d)) with handover := some ⟨0, 9⟩, jobs := [⟨⟨0, 9⟩, 0x22, [], 0, false, false, false⟩] }), ⟨0, 9⟩, by decide +kernel⟩⟩

theorem witness_events_and_fences :
    (∃ (s : State) (r : Req), Takes 36 r s ∧ r.params.length = 4 ∧ eventsReadOk r.params = true)
    ∧ (∃ (s : State) (r : Req), Takes 36 r s ∧ r.params.length = 4 ∧ eventsReadOk r.params = true)
    ∧ (∃ (s : State) (m : Fin 4), due s.dev tkSignal ↑m = true ∧ (master s.dev ↑m).events ≠ [])
    ∧ (∃ (s : State) (m : Fin 4), due s.dev tkSignal ↑m = true ∧ (master s.dev ↑m).events ≠ [])
    ∧ (∃ (s : State) (r : Req), Takes 40 r s ∧ r.params.length = 4 ∧ byteAt r.params 0 ≤ 1 ∧ byteAt r.params 1 = 0 ∧ leAt r.params 2 2 ≤ 60000)
    ∧ (∃ (s : State) (r : Req), Takes 40 r s ∧ r.params.length = 4 ∧ byteAt r.params 0 ≤ 1 ∧ byteAt r.params 1 = 0 ∧ leAt r.params 2 2 ≤ 60000)
    ∧ (∃ (s : State) (m : Fin 4) (tag : Byte) (f : Job), findFence s.dev { master := ↑m, tag := BitVec.toNat tag } = some f ∧ fenceReady s.dev f = true)
    ∧ (∃ (s : State) (m : Fin 4) (tag : Byte) (f : Job), due s.dev tkFence (256 * ↑m + BitVec.toNat tag) = true ∧ findFence s.dev { master := ↑m, tag := BitVec.toNat tag } = some f ∧ (∀ x ∈ s.dev.jobs, x.opcode = 40 → x.ref.master = ↑m → f.order ≤ x.order))
    ∧ (∃ (s : State) (m : Fin 4) (tag : Byte) (f : Job), due s.dev tkFence (256 * ↑m + BitVec.toNat tag) = true ∧ findFence s.dev { master := ↑m, tag := BitVec.toNat tag } = some f ∧ (∃ x ∈ s.dev.jobs, x.opcode = 40 ∧ x.ref.master = ↑m ∧ x.order < f.order)) :=
  ⟨⟨s2, q [1,0,0,0], by decide +kernel⟩,
   ⟨s2, q [63,15,0,0x3C], by decide +kernel⟩,
   ⟨st (fun d => due0 tkSignal 2 (setMaster 2 { master d 2 with events := [ev 4] } d)), 2, by decide +kernel⟩,
   ⟨st (fun d => due0 tkSignal 0 s2.dev), 0, by decide +kernel⟩,
   ⟨so, q [1,0,0,0], by decide +kernel⟩,
   ⟨so, q [0,0,0x60,0xEA], by decide +kernel⟩,
   ⟨st (fun d => { own d with jobs := [fj 7 0] }), 0, 7#8, fj 7 0, by decide +kernel⟩,
   ⟨st (fun d => { due0 tkFence 7 (own d) with jobs := [fj 7 0] }), 0, 7#8, fj 7 0, by decide +kernel⟩,
   ⟨st (fun d => { due0 tkFence 7 (own d) with jobs := [fj 6 0, fj 7 1] }), 0, 7#8, fj 7 1, by decide +kernel⟩⟩

theorem witness_common_command_codes_write :
    (∃ (p : Fin 2) (s : State), s.dev.phase ≠ StartPhase.held ∧ (master s.dev ↑p).hdr = false)
    ∧ (∃ (p : Fin 2) (s : State), s.dev.phase ≠ StartPhase.held ∧ (master s.dev ↑p).hdr = false ∧ (master s.dev ↑p).dynAddr = none)
    ∧ (∃ (p : Fin 2) (s : State), s.dev.phase ≠ StartPhase.held ∧ (master s.dev ↑p).hdr = false ∧ (master s.dev ↑p).dynAddr ≠ none) :=
  ⟨⟨1, da, by decide +kernel⟩,
   ⟨0, da, by decide +kernel⟩,
   ⟨1, da, by decide +kernel⟩⟩

theorem witness_common_command_codes_read :
    (∃ (p : Fin 2) (s : State), s.dev.phase ≠ StartPhase.held ∧ (master s.dev ↑p).hdr = false ∧ (master s.dev ↑p).dynAddr ≠ none)
    ∧ (∃ (s : State), s.dev.phase ≠ StartPhase.held)
    ∧ (∃ (p : Fin 2) (s : State) (c : Instr), s.dev.phase ≠ StartPhase.held ∧ (master s.dev ↑p).hdr = true ∧ (c = Instr.rstdaa p ∨ c = Instr.enthdr0 p ∨ c = Instr.getpid p ∨ c = Instr.getstatus p ∨ (∃ v, c = Instr.enec p v) ∨ (∃ v, c = Instr.disec p v) ∨ (∃ v, c = Instr.setmwl p v) ∨ (∃ v, c = Instr.setmrl p v) ∨ (∃ a, c = Instr.rstact p a) ∨ (∃ a, c = Instr.entdaa p a) ∨ (∃ a, c = Instr.setdasa p a) ∨ ∃ a, c = Instr.setnewda p a))
    ∧ (∃ (p : Fin 2) (s : State) (c : Instr), s.dev.phase ≠ StartPhase.held ∧ (master s.dev ↑p).hdr = false ∧ (master s.dev ↑p).dynAddr = none ∧ (c = Instr.getmwl p ∨ c = Instr.getmrl p ∨ c = Instr.getpid p ∨ c = Instr.getbcr p ∨ c = Instr.getdcr p ∨ c = Instr.getstatus p ∨ c = Instr.getmxds p ∨ c = Instr.getcaps p ∨ ∃ a, c = Instr.setnewda p a)) :=
  ⟨⟨1, da, by decide +kernel⟩,
   ⟨dah, by decide +kernel⟩,
   ⟨1, dah, .getstatus 1, by decide +kernel⟩,
   ⟨0, da, .getmwl 0, by decide +kernel⟩⟩

theorem witness_mailbox_transfers :
    (∃ (p : Fin 2) (s : State) (bytes : List Byte), writeAcked s.dev ↑p = true ∧ s.dev.waiting = [] ∧ requestEnd (↑p) bytes = none)
    ∧ (∃ (p : Fin 2) (s : State), writeAcked s.dev ↑p = true ∧ s.dev.waiting = [] ∧ (master s.dev ↑p).hdr = true)
    ∧ (∃ (p : Fin 2) (s : State) (acc : List Byte) (bytes : List Byte), writeAcked s.dev ↑p = true ∧ s.dev.waiting = [] ∧ (master s.dev ↑p).partialReq = some acc ∧ requestEnd (↑p) (acc ++ bytes) = none ∧ acc ≠ [])
    ∧ (∃ (p : Fin 2) (s : State) (acc : List Byte) (bytes : List Byte) (raw : List Byte) (extra : Bool), writeAcked s.dev ↑p = true ∧ s.dev.waiting = [] ∧ (master s.dev ↑p).partialReq = some acc ∧ requestEnd (↑p) (acc ++ bytes) = some (raw, extra))
    ∧ (∃ (p : Fin 2) (s : State), writeAcked s.dev ↑p = true ∧ s.dev.waiting = [] ∧ (master s.dev ↑p).partialReq = none)
    ∧ (∃ (p : Fin 2) (s : State), writeAcked s.dev ↑p = true ∧ s.dev.waiting = [])
    ∧ (∃ (p : Fin 2) (s : State), writeAcked s.dev ↑p = true ∧ s.dev.waiting = [])
    ∧ (∃ (p : Fin 2) (s : State) (r : Reply) (rest : List Reply), isReady s.dev = true ∧ s.dev.vertex ≠ VertexMode.halted ∧ (master s.dev ↑p).replies = r :: rest)
    ∧ (∃ (p : Fin 2) (s : State), isReady s.dev = true ∧ s.dev.vertex ≠ VertexMode.halted ∧ (master s.dev ↑p).replies = []) :=
  ⟨⟨1, mb none, raw0.take 11, by decide +kernel⟩,
   ⟨1, mb2, by decide +kernel⟩,
   ⟨1, mb (some [0#8]), [0#8], [0#8], by decide +kernel⟩,
   ⟨1, mb (some (raw0.take 5)), raw0.take 5, raw0.drop 5 ++ [1#8], raw0, true, by decide +kernel⟩,
   ⟨1, mb none, by decide +kernel⟩,
   ⟨1, mb none, by decide +kernel⟩,
   ⟨1, mb (some [0#8]), by decide +kernel⟩,
   ⟨1, mb none, ⟨[1#8, 2#8, 3#8], 1, false, 0⟩, [], by decide +kernel⟩,
   ⟨0, mb none, by decide +kernel⟩⟩

theorem witness_transport_limits :
    (∃ (s : State) (p : Fin 2), due s.dev tkRequest ↑p = true)
    ∧ (∃ (s : State) (p : Fin 2), s.dev.waiting = [] ∧ (master s.dev ↑p).replies.any (overdueReply s.dev ↑p) = true)
    ∧ (∃ (s : State) (p : Fin 2), (master s.dev ↑p).dynAddr ≠ none)
    ∧ (∃ (s : State) (p : Fin 2), (master s.dev ↑p).dynAddr = none)
    ∧ (∃ (s : State) (p : Fin 2), s.dev.phase ≠ StartPhase.held ∧ 3 ≤ (master s.dev ↑p).rstact)
    ∧ (∃ (s : State) (p : Fin 2), s.dev.phase ≠ StartPhase.held ∧ (master s.dev ↑p).rstact ≤ 2)
    ∧ (∃ (s : State) (p : Fin 2), s.dev.phase ≠ StartPhase.held ∧ (master s.dev ↑p).rstact ≤ 2)
    ∧ (∃ (s : State) (ch : Fin 2) (payload : List Byte), transportUp s.dev (2 + ↑ch) = true ∧ 1 ≤ fieldOf (ofBE (List.take 4 payload)) 25 16 ∧ fieldOf (ofBE (List.take 4 payload)) 25 16 ≤ channelLimit s.dev (2 + ↑ch) ∧ 4 + fieldOf (ofBE (List.take 4 payload)) 25 16 ≤ payload.length ∧ bitOf (ofBE (List.take 4 payload)) 31 = true ∧ bitOf (ofBE (List.take 4 payload)) 30 = false ∧ (master s.dev (2 + ↑ch)).partialReq = none)
    ∧ (∃ (s : State) (ch : Fin 2) (payload : List Byte) (acc : List Byte), transportUp s.dev (2 + ↑ch) = true ∧ 1 ≤ fieldOf (ofBE (List.take 4 payload)) 25 16 ∧ fieldOf (ofBE (List.take 4 payload)) 25 16 ≤ channelLimit s.dev (2 + ↑ch) ∧ 4 + fieldOf (ofBE (List.take 4 payload)) 25 16 ≤ payload.length ∧ bitOf (ofBE (List.take 4 payload)) 31 = false ∧ bitOf (ofBE (List.take 4 payload)) 30 = true ∧ (master s.dev (2 + ↑ch)).partialReq = some acc)
    ∧ (∃ (s : State) (ch : Fin 2), due s.dev tkPacket (2 + ↑ch) = true) :=
  ⟨⟨mb (some [0#8]), 1, by decide +kernel⟩,
   ⟨old, 1, by decide +kernel⟩,
   ⟨da, 1, by decide +kernel⟩,
   ⟨da, 0, by decide +kernel⟩,
   ⟨st (modMaster 1 (fun x => { x with rstact := 3 })), 1, by decide +kernel⟩,
   ⟨st (modMaster 1 (fun x => { x with rstact := 2 })), 1, by decide +kernel⟩,
   ⟨mb (some [0#8]), 1, by decide +kernel⟩,
   ⟨g0 none, 0, [0x80#8, 5#8, 0#8, 0#8, 1#8, 2#8, 3#8, 4#8, 5#8], by decide +kernel⟩,
   ⟨g0 (some (raw0.take 8)), 0, [0x40#8, 4#8, 0#8, 0#8] ++ raw0.drop 8, raw0.take 8, by decide +kernel⟩,
   ⟨g0 (some [0#8]), 0, by decide +kernel⟩⟩

theorem witness_prism_grid_advances :
    (∃ (m : Fin 8) (s : State), prismClocked s.dev ↑m = true)
    ∧ (∃ (m : Fin 8) (s : State), prismClocked s.dev ↑m = true ∧ (prism s.dev ↑m).slot < 256)
    ∧ (∃ (m : Fin 8) (s : State), prismClocked s.dev ↑m = false) :=
  ⟨⟨7, st (modPrism 7 fun x => { x with slot := 256 }), by decide +kernel⟩,
   ⟨7, st (modPrism 7 (fun x => { x with slot := 255 }) ∘ carry 127), by decide +kernel⟩,
   ⟨7, st (setAttr DOMAIN_STATE 167 1), by decide +kernel⟩⟩

theorem witness_receiver_upkeep :
    (∃ (p : Fin 128) (s : State) (mk : MarkerFound), attr s.dev PORT_STATE ↑p = psCarry ∧ (mk.corr < 500 ∨ mk.form = 3) ∧ 1 ≤ (rx s.dev ↑p).missed ∧ inHoldover s.dev ↑p = false ∧ quietDue s.dev ↑p = false)
    ∧ (∃ (p : Fin 128) (s : State) (mk : MarkerFound), attr s.dev PORT_STATE ↑p = psCarry ∧ 500 ≤ mk.corr ∧ mk.form ≠ 3 ∧ swapMarkerDue (takeCount (↑p) (BitVec.toNat mk.count) s.dev) ↑p = false ∧ 1 ≤ (rx s.dev ↑p).detected ∧ inHoldover s.dev ↑p = true)
    ∧ (∃ (p : Fin 128) (s : State), attr s.dev PORT_STATE ↑p = psCarry ∧ quietDue s.dev ↑p = false ∧ inHoldover s.dev ↑p = false)
    ∧ (∃ (p : Fin 128) (s : State), attr s.dev PORT_STATE ↑p = psCarry ∧ inHoldover s.dev ↑p = true ∧ 16 ≤ (rx s.dev ↑p).holdSf ∧ (port s.dev ↑p).stop ≠ none)
    ∧ (∃ (p : Fin 128) (s : State), attr s.dev PORT_STATE ↑p = psCarry ∧ inHoldover s.dev ↑p = true ∧ 16 ≤ (rx s.dev ↑p).holdSf ∧ (port s.dev ↑p).stop = none)
    ∧ (∃ (p : Fin 128) (s : State) (b : ℕ), paceRestorable s.dev ↑p = some b ∧ bitOf (rxCause s.dev (↑p) b) 1 = false)
    ∧ (∃ (p : Fin 128) (s : State) (b : Fin 32), bitOf (rxCause s.dev ↑p ↑b) 1 = true ∧ bitOf (rxCause s.dev ↑p ↑b) 0 = false ∧ ingressOver s.dev ↑p ↑b = true ∧ (∀ c ∈ (rx s.dev ↑p).wanted ++ (rx s.dev ↑p).announced, c.restore = false))
    ∧ (∃ (s : State) (m : Fin 8), attrInt s.dev PRISM_CLOCK_OFFSET ↑m = (prism s.dev ↑m).reference)
    ∧ (∃ (p : Fin 128) (s : State), attr s.dev PORT_STATE ↑p = psTrain ∧ attr s.dev PORT_TRAIN_PHASE ↑p = 3)
    ∧ (∃ (p : Fin 128) (s : State), attr s.dev PORT_STATE ↑p = psCarry ∧ inHoldover s.dev ↑p = false ∧ (rx s.dev ↑p).shadowAt = 0)
    ∧ (∃ (p : Fin 128) (s : State) (f : ShadowFilter), (rx s.dev ↑p).shadow = some f ∧ attr s.dev PORT_STATE ↑p = psCarry ∧ inHoldover s.dev ↑p = false)
    ∧ (∃ (p : Fin 128) (s : State), due s.dev tkSurvey ↑p = true)
    ∧ (∃ (s : State) (m : Fin 8), attr s.dev PRISM_ADMISSION_PORT ↑m < 128 ∧ 16 ≤ (prism s.dev ↑m).rampSf ∧ scanAt s.dev (attr s.dev PRISM_ADMISSION_PORT ↑m) ScanStep.ramp = false)
    ∧ (∃ (p : Fin 128) (s : State), due s.dev tkCoeffHold ↑p = true)
    ∧ (∃ (p : Fin 128) (s : State), (rx s.dev ↑p).relax = some 0)
    ∧ (∃ (p : Fin 128) (s : State), due s.dev tkSnrInterval ↑p = true) :=
  ⟨⟨5, st (modRx 5 (fun x => { x with missed := 1 }) ∘ carry 5), ⟨499, 1, 0, 0, 0, [], [], [], []⟩, by decide +kernel⟩,
   ⟨5, st (modRx 5 (fun x => { x with detected := 1, holdSf := 4 }) ∘ inHold 5), ⟨500, 1, 0, 0, 0, [], [], [], []⟩, by decide +kernel⟩,
   ⟨5, st (carry 5), by decide +kernel⟩,
   ⟨5, st (modPort 5 (fun x => { x with stop := some ⟨0,9⟩ }) ∘ modRx 5 (fun x => { x with holdSf := 16 }) ∘ inHold 5), by decide +kernel⟩,
   ⟨5, st (modRx 5 (fun x => { x with holdSf := 16 }) ∘ inHold 5), by decide +kernel⟩,
   ⟨5, paced, 3, by decide +kernel⟩,
   ⟨5, ingr, 3, by decide +kernel⟩,
   ⟨st (setAttr PRISM_CLOCK_SLEWING 2 1), 2, by decide +kernel⟩,
   ⟨5, ph3, by decide +kernel⟩,
   ⟨5, st (carry 5), by decide +kernel⟩,
   ⟨5, st (modRx 5 (fun x => { x with shadow := some ⟨[1,2], [], 7⟩ }) ∘ carry 5), ⟨[1,2], [], 7⟩, by decide +kernel⟩,
   ⟨5, st (due0 tkSurvey 5 ∘ carry 5), by decide +kernel⟩,
   ⟨st (modPrism 0 (fun x => { x with rampSf := 16 }) ∘ setAttr PRISM_ADMISSION_PORT 0 5), 0, by decide +kernel⟩,
   ⟨5, st (due0 tkCoeffHold 5), by decide +kernel⟩,
   ⟨5, st (modRx 5 fun x => { x with relax := some 0 }), by decide +kernel⟩,
   ⟨5, st (due0 tkSnrInterval 5 ∘ setAttr PORT_SNR_HIST_HEAD 5 63), by decide +kernel⟩⟩

theorem witness_counters_are_sampled :
    (∃ (s : State) (r : Req) (as : List Attr), Takes 146 r s ∧ r.params.length = 8 ∧ countersOf (addrAt r.params).cls (addrAt r.params).id (byteAt r.params 1) = some as ∧ 1 ≤ byteAt r.params 1 ∧ byteAt r.params 1 ≤ 64 ∧ (∀ a ∈ as, instanceOk a (addrAt r.params).inst = true) ∧ leAt r.params 6 2 = 0 ∧ (¬((addrAt r.params).cls = clsPort ∧ attr s.dev DOMAIN_STATE (160 + prismOf (addrAt r.params).inst) = 0)))
    ∧ (∃ (s : State) (r : Req) (as : List Attr), Takes 146 r s ∧ r.params.length = 8 ∧ countersOf (addrAt r.params).cls (addrAt r.params).id (byteAt r.params 1) = some as ∧ 1 ≤ byteAt r.params 1 ∧ byteAt r.params 1 ≤ 64 ∧ (∀ a ∈ as, instanceOk a (addrAt r.params).inst = true) ∧ leAt r.params 6 2 = 0 ∧ (addrAt r.params).cls = clsPort ∧ attr s.dev DOMAIN_STATE (160 + prismOf (addrAt r.params).inst) = 0)
    ∧ (∃ (s : State) (m : Fin 8) (h : HeldRead) (as : List Attr), s.dev.held = [h] ∧ h.prism = ↑m ∧ h.void = false ∧ countersOf (byteAt h.call.params 0) (leAt h.call.params 4 2) (byteAt h.call.params 1) = some as) :=
  ⟨⟨so, q [1,1,0,0,1,2,0,0], (countersOf 1 0x201 1).get (by decide +kernel), by decide +kernel, by decide +kernel, (Option.some_get _).symm, by decide +kernel⟩,
   ⟨so, q [5,1,3,0,0x0C,2,0,0], (countersOf 5 0x20C 1).get (by decide +kernel), by decide +kernel, by decide +kernel, (Option.some_get _).symm, by decide +kernel⟩,
   ⟨so' (fun d => { d with held := [hr] }), 0, hr, (countersOf 5 0x20C 1).get (by decide +kernel), by decide +kernel, by decide +kernel, by decide +kernel, (Option.some_get _).symm⟩⟩

theorem witness_spare_and_engines :
    (∃ (f : Fin 32) (s : State) (rank : ℕ) (p : ℕ), pendingTakeover s.dev ↑f = some (rank, p) ∧ rank < 256 ∧ facetOf p = ↑f)
    ∧ (∃ (f : Fin 32) (s : State), engineState s.dev (↑f) 4 = 0 ∧ attr s.dev FACET_SPARE_PORT ↑f = 255 ∧ attr s.dev DEVICE_LC_STATE 0 ≠ lcDecommissioned)
    ∧ (∃ (f : Fin 32) (s : State) (e : Fin 4), engineState s.dev ↑f ↑e = 0 ∧ attr s.dev FACET_SPARE_PORT ↑f = 255 ∧ pendingTakeover s.dev ↑f = none ∧ attr s.dev FACET_SPARE_STATE ↑f = 0 ∧ engineState s.dev (↑f) 4 = 0 ∧ attr s.dev DEVICE_LC_STATE 0 ≠ lcDecommissioned)
    ∧ (∃ (f : Fin 32) (s : State) (e : Fin 5), engineState s.dev ↑f ↑e = 1)
    ∧ (∃ (f : Fin 32) (s : State) (e : Fin 4), engineState s.dev ↑f ↑e = 1 ∧ fewFaults s.dev (elementKey clsFacet ↑f ↑e) = true) :=
  ⟨⟨3, st (fun d => modFaults (fun x => { x with takeovers := [(3, (3, 13))] }) d), 3, 13, by decide +kernel⟩,
   ⟨3, so, by decide +kernel⟩,
   ⟨3, so, 1, by decide +kernel⟩,
   ⟨3, so' (setEngine 3 4 1), 4, by decide +kernel⟩,
   ⟨3, so' (setEngine 3 2 1), 2, by decide +kernel⟩⟩

theorem witness_containers_received :
    (∃ (p : Fin 128) (s : State) (word : List ℕ), attr s.dev PORT_STATE ↑p = psCarry ∧ inHoldover s.dev ↑p = false ∧ (rx s.dev ↑p).arb = none ∧ (quiet s.dev ↑p).decidedAt = 0 ∧ readContainer word = none)
    ∧ (∃ (p : Fin 128) (s : State) (word : List ℕ) (c : ℕ × List Byte × ℕ), attr s.dev PORT_STATE ↑p = psCarry ∧ inHoldover s.dev ↑p = false ∧ (rx s.dev ↑p).arb = none ∧ (quiet s.dev ↑p).decidedAt = 0 ∧ readContainer word = some c ∧ hdrKind c.1 ≠ 2 ∧ 1 ≤ Machine.sdiff (hdrSeq c.1) (attr s.dev PORT_RX_HIGHEST ↑p) ∧ Machine.sdiff (hdrSeq c.1) (attr s.dev PORT_RX_HIGHEST ↑p) ≤ 512) :=
  ⟨⟨5, st (carry 5), [], by decide +kernel⟩,
   ⟨5, st (carry 5), cw 511, c511, by decide +kernel⟩⟩

theorem witness_recast_goes_on :
    (∃ (p : Fin 128) (s : State), sendsContainers s.dev ↑p = true)
    ∧ (∃ (p : Fin 128) (s : State) (q : Fin 16384) (h : Hole), h ∈ (recast s.dev ↑p).holes ∧ h.seq = ↑q ∧ h.nakAt ≤ s.dev.elapsed)
    ∧ (∃ (p : Fin 128) (s : State) (q : Fin 16384) (h : Hole), h ∈ (recast s.dev ↑p).holes ∧ h.seq = ↑q ∧ h.dropAt ≤ s.dev.elapsed)
    ∧ (∃ (p : Fin 128) (s : State) (j : JobRef), recastQuiet s.dev ↑p = true ∧ (port s.dev ↑p).stop = some j ∧ (port s.dev ↑p).stopSent = false)
    ∧ (∃ (p : Fin 128) (s : State) (e : QuietEntry), recastQuiet s.dev ↑p = true ∧ (port s.dev ↑p).stop = none ∧ (quiet s.dev ↑p).entry = some e ∧ e.step = QuietStep.draining ∧ e.fromHost = true)
    ∧ (∃ (p : Fin 128) (s : State), due s.dev tkDrainWait ↑p = true) :=
  ⟨⟨5, st (carry 5), by decide +kernel⟩,
   ⟨5, holes, 7, ⟨7, 0, 0⟩, by decide +kernel⟩,
   ⟨5, holes, 7, ⟨7, 0, 0⟩, by decide +kernel⟩,
   ⟨5, st (modPort 5 (fun x => { x with stop := some ⟨0, 7⟩ }) ∘ carry 5), ⟨0, 7⟩, by decide +kernel⟩,
   ⟨5, st (modPort 5 (fun x => { x with quiet := { x.quiet with entry := some ⟨true, .draining, true⟩ } }) ∘ carry 5), ⟨true, .draining, true⟩, by decide +kernel⟩,
   ⟨5, st (due0 tkDrainWait 5 ∘ carry 5), by decide +kernel⟩⟩

theorem witness_port_commands :
    (∃ (r : Req) (s : State), maskPorts r.params 0 ≠ [] ∧ Takes 48 r s ∧ r.params.length = 16 ∧ (∀ p ∈ maskPorts r.params 0, pathOn s.dev p = true) ∧ s.dev.startOwed = false)
    ∧ (∃ (r : Req) (s : State), maskPorts r.params 0 ≠ [] ∧ Takes 49 r s ∧ r.params.length = 20 ∧ byteAt r.params 16 = 1 ∧ leAt r.params 17 3 = 0)
    ∧ (∃ (r : Req) (s : State), maskPorts r.params 0 ≠ [] ∧ Takes 49 r s ∧ r.params.length = 20 ∧ byteAt r.params 16 = 0 ∧ leAt r.params 17 3 = 0 ∧ (∀ p ∈ maskPorts r.params 0, attr s.dev PORT_STATE p = psCarry))
    ∧ (∃ (r : Req) (s : State), maskPorts r.params 0 ≠ [] ∧ Takes 54 r s ∧ r.params.length = 16 ∧ (∀ p ∈ maskPorts r.params 0, attr s.dev PORT_STATE p = psCarry ∧ pathOn s.dev p = true ∧ (port s.dev p).stop = none))
    ∧ (∃ (r : Req) (s : State), Takes 52 r s ∧ r.params.length = 4 ∧ byteAt r.params 0 ≤ 127 ∧ 1 ≤ byteAt r.params 1 ∧ byteAt r.params 1 ≤ 3 ∧ byteAt r.params 2 = 1 ∧ byteAt r.params 3 = 0 ∧ attr s.dev PORT_STATE (byteAt r.params 0) = psCarry ∧ swapOf s.dev (byteAt r.params 0) = none ∧ (quiet s.dev (byteAt r.params 0)).entry = none ∧ (byteAt r.params 1 = 1 ∨ (buildFor s.dev (byteAt r.params 0)).isSome = true))
    ∧ (∃ (r : Req) (s : State), Takes 53 r s ∧ r.params.length = 20 ∧ byteAt r.params 0 ≤ 31 ∧ byteAt r.params 1 = 0 ∧ byteAt r.params 2 ≤ 7 ∧ byteAt r.params 3 = 0 ∧ byteAt r.params 2 ≠ attr s.dev LATTICE_INDEX 0 ∧ 2 ≤ (maskPorts r.params 4).length ∧ (maskPorts r.params 4).length ≤ 4 ∧ (∀ p ∈ maskPorts r.params 4, prismOf p = prismOf ((maskPorts r.params 4).headD 0) ∧ attr s.dev PORT_CHORD p = 255 ∧ attr s.dev PORT_STATE p = psDown) ∧ chordBound s.dev (byteAt r.params 0) = false ∧ (byteAt r.params 2 < attr s.dev LATTICE_INDEX 0 → hasUpstream s.dev (prismOf ((maskPorts r.params 4).headD 0)) = false))
    ∧ (∃ (r : Req) (s : State), Takes 53 r s ∧ r.params.length = 20 ∧ byteAt r.params 0 ≤ 31 ∧ byteAt r.params 1 = 1 ∧ byteAt r.params 2 ≤ 7 ∧ byteAt r.params 3 = 0 ∧ chordBound s.dev (byteAt r.params 0) = true ∧ (∀ p ∈ chordPorts s.dev (byteAt r.params 0), attr s.dev PORT_STATE p = psDown))
    ∧ (∃ (r : Req) (s : State), Takes 50 r s ∧ r.params.length = 20 ∧ maskPorts r.params 0 ≠ [] ∧ byteAt r.params 16 ≤ 1 ∧ leAt r.params 17 3 = 0 ∧ (∀ p ∈ maskPorts r.params 0, attr s.dev PORT_STATE p = psCarry ∧ captureFailed s.dev p = false ∧ bitOf (attr s.dev PORT_PARTNER_ABILITY p) (35 - byteAt r.params 16) = true))
    ∧ (∃ (r : Req) (s : State), Takes 51 r s ∧ r.params.length = 16 ∧ maskPorts r.params 0 ≠ [] ∧ (∀ p ∈ maskPorts r.params 0, attr s.dev PORT_STATE p = psQuiet ∧ pathOn s.dev p = true))
    ∧ (∃ (r : Req) (s : State), Takes 51 r s ∧ r.params.length = 16 ∧ maskPorts r.params 0 ≠ [] ∧ (∀ p ∈ maskPorts r.params 0, attr s.dev PORT_STATE p = psDormant ∧ pathOn s.dev p = true ∧ (quiet s.dev p).decidedAt = 0)) :=
  ⟨⟨q m5, so, by decide +kernel⟩,
   ⟨q (m5 ++ [1,0,0,0]), so' (carry 5), by decide +kernel⟩,
   ⟨q (m5 ++ [0,0,0,0]), so' (carry 5), by decide +kernel⟩,
   ⟨q m5, so' (carry 5), by decide +kernel⟩,
   ⟨q [5,1,1,0], so' (carry 5), by decide +kernel⟩,
   ⟨q ([31,0,7,0] ++ 0x60 :: zs 15), so, by decide +kernel⟩,
   ⟨q ([31,1,7,0] ++ zs 16), so' (fun d => setAttr PORT_CHORD 5 31 (setAttr PORT_CHORD 6 31 { d with chords := [(31, some ([5,6], 7))] })), by decide +kernel⟩,
   ⟨q (m5 ++ [1,0,0,0]), so' (abil ∘ carry 5), by decide +kernel⟩,
   ⟨q m5, so' (setAttr PORT_STATE 5 psQuiet), by decide +kernel⟩,
   ⟨q m5, so' (setAttr PORT_STATE 5 psDormant), by decide +kernel⟩⟩

theorem witness_negotiation :
    (∃ (p : Fin 128) (s : State), attr s.dev PORT_STATE ↑p = psListen ∧ (train s.dev ↑p).held = false ∧ (port s.dev ↑p).scan = none ∧ due s.dev tkDwell ↑p = true)
    ∧ (∃ (p : Fin 128) (s : State), attr s.dev PORT_STATE ↑p = psListen ∧ (train s.dev ↑p).held = false ∧ (train s.dev ↑p).afterFail = false)
    ∧ (∃ (p : Fin 128) (s : State), attr s.dev PORT_STATE ↑p = psDormant ∧ pathOn s.dev ↑p = true ∧ (port s.dev ↑p).stop = none)
    ∧ (∃ (p : Fin 128) (s : State) (w : BitVec 64), attr s.dev PORT_STATE ↑p = psNegotiate ∧ offersRilas s.dev ↑p = true ∧ fieldOf w.toNat 63 60 = 1 ∧ rolesFit s.dev (↑p) w.toNat = true ∧ prefixFits s.dev (↑p) w.toNat = true ∧ (attr s.dev PORT_CHORD ↑p = 255 ∨ fieldOf w.toNat 47 45 ≠ attr s.dev LATTICE_INDEX 0 ∧ chordFits s.dev (↑p) w.toNat = true))
    ∧ (∃ (p : Fin 128) (s : State), attr s.dev PORT_STATE ↑p = psNegotiate ∧ attr s.dev PORT_NEG_MODE ↑p ≠ 1)
    ∧ (∃ (p : Fin 128) (s : State), attr s.dev PORT_STATE ↑p = psNegotiate)
    ∧ (∃ (p : Fin 128) (s : State), attr s.dev PORT_STATE ↑p = psNegotiate ∧ due s.dev tkNegotiate ↑p = true)
    ∧ (∃ (p : Fin 128) (s : State), due s.dev tkNoPartner ↑p = true)
    ∧ (∃ (p : Fin 128) (s : State), attr s.dev PORT_STATE ↑p = psLegacy ∧ (port s.dev ↑p).stop = none)
    ∧ (∃ (p : Fin 128) (s : State) (bytes : List Byte), attr s.dev PORT_STATE ↑p = psLegacy ∧ fcsGood bytes = false)
    ∧ (∃ (p : Fin 128) (s : State) (bytes : List Byte), attr s.dev PORT_STATE ↑p = psLegacy ∧ fcsGood bytes = true) :=
  ⟨⟨5, st (due0 tkDwell 5 ∘ lis), by decide +kernel⟩,
   ⟨5, st lis, by decide +kernel⟩,
   ⟨5, st (setAttr PORT_STATE 5 psDormant), by decide +kernel⟩,
   ⟨5, st neg, 0x1000020000000000#64, by decide +kernel⟩,
   ⟨5, st neg, by decide +kernel⟩,
   ⟨5, st neg, by decide +kernel⟩,
   ⟨5, st (due0 tkNegotiate 5 ∘ neg), by decide +kernel⟩,
   ⟨5, st (due0 tkNoPartner 5), by decide +kernel⟩,
   ⟨5, st (setAttr PORT_STATE 5 psLegacy), by decide +kernel⟩,
   ⟨5, st (setAttr PORT_STATE 5 psLegacy), fr, by decide +kernel⟩,
   ⟨5, st (setAttr PORT_STATE 5 psLegacy), fr ++ toLE (fcs32 fr) 4, by decide +kernel⟩⟩

theorem witness_training_phases :
    (∃ (p : Fin 128) (s : State) (erle : ℕ), attr s.dev PORT_STATE ↑p = psTrain ∧ mayEndEcho s.dev (↑p) erle = true ∧ erle < 2 ^ 16 ∧ (train s.dev ↑p).controller = true)
    ∧ (∃ (p : Fin 128) (s : State) (erle : ℕ), attr s.dev PORT_STATE ↑p = psTrain ∧ mayEndEcho s.dev (↑p) erle = true ∧ erle < 2 ^ 16 ∧ (train s.dev ↑p).controller = false)
    ∧ (∃ (p : Fin 128) (s : State), attr s.dev PORT_STATE ↑p = psTrain ∧ attr s.dev PORT_TRAIN_PHASE ↑p = 1 ∧ (train s.dev ↑p).controller = false ∧ (train s.dev ↑p).halfB = false)
    ∧ (∃ (p : Fin 128) (s : State), attr s.dev PORT_STATE ↑p = psTrain ∧ attr s.dev PORT_TRAIN_PHASE ↑p = 1 ∧ (train s.dev ↑p).controller = true ∧ (train s.dev ↑p).halfB = true)
    ∧ (∃ (p : Fin 128) (s : State), attr s.dev PORT_STATE ↑p = psTrain ∧ attr s.dev PORT_TRAIN_PHASE ↑p = 2 ∧ (train s.dev ↑p).controller = false)
    ∧ (∃ (p : Fin 128) (s : State), attr s.dev PORT_STATE ↑p = psTrain ∧ attr s.dev PORT_TRAIN_PHASE ↑p = 3)
    ∧ (∃ (p : Fin 128) (s : State), attr s.dev PORT_STATE ↑p = psTrain ∧ attr s.dev PORT_TRAIN_PHASE ↑p = 3 ∧ (train s.dev ↑p).controller = false)
    ∧ (∃ (p : Fin 128) (s : State) (erle : ℕ), attr s.dev PORT_STATE ↑p = psTrain ∧ due s.dev tkPhase ↑p = true ∧ attr s.dev PORT_TRAIN_PHASE ↑p = 1 ∧ (train s.dev ↑p).controller = true ∧ (train s.dev ↑p).halfB = false ∧ 450 ≤ erle ∧ erle < 2 ^ 16)
    ∧ (∃ (p : Fin 128) (s : State) (erle : ℕ), attr s.dev PORT_STATE ↑p = psTrain ∧ due s.dev tkPhase ↑p = true ∧ attr s.dev PORT_TRAIN_PHASE ↑p = 1 ∧ (train s.dev ↑p).controller = true ∧ (train s.dev ↑p).halfB = false ∧ erle < 450 ∧ (train s.dev ↑p).repeated = false)
    ∧ (∃ (p : Fin 128) (s : State), attr s.dev PORT_STATE ↑p = psTrain ∧ due s.dev tkPhase ↑p = true ∧ 2 ≤ attr s.dev PORT_TRAIN_PHASE ↑p ∧ attr s.dev PORT_TRAIN_PHASE ↑p ≤ 5 ∧ (train s.dev ↑p).repeated = false)
    ∧ (∃ (p : Fin 128) (s : State), attr s.dev PORT_STATE ↑p = psTrain ∧ due s.dev tkPhase ↑p = true ∧ 2 ≤ attr s.dev PORT_TRAIN_PHASE ↑p ∧ attr s.dev PORT_TRAIN_PHASE ↑p ≤ 5 ∧ (train s.dev ↑p).repeated = false)
    ∧ (∃ (p : Fin 128) (s : State), attr s.dev PORT_STATE ↑p = psTrain ∧ due s.dev tkPhase ↑p = true ∧ 2 ≤ attr s.dev PORT_TRAIN_PHASE ↑p ∧ attr s.dev PORT_TRAIN_PHASE ↑p ≤ 5 ∧ (train s.dev ↑p).repeated = false)
    ∧ (∃ (p : Fin 128) (s : State), attr s.dev PORT_STATE ↑p = psTrain ∧ due s.dev tkPhase ↑p = true ∧ 2 ≤ attr s.dev PORT_TRAIN_PHASE ↑p ∧ attr s.dev PORT_TRAIN_PHASE ↑p ≤ 5 ∧ (train s.dev ↑p).repeated = false)
    ∧ (∃ (p : Fin 128) (s : State), attr s.dev PORT_STATE ↑p = psTrain ∧ due s.dev tkPhase ↑p = true ∧ 2 ≤ attr s.dev PORT_TRAIN_PHASE ↑p ∧ attr s.dev PORT_TRAIN_PHASE ↑p ≤ 5 ∧ (train s.dev ↑p).repeated = true)
    ∧ (∃ (p : Fin 128) (s : State) (msg : List Byte), attr s.dev PORT_STATE ↑p = psTrain ∧ attr s.dev PORT_TRAIN_PHASE ↑p = 4 ∧ msg.length = 769 ∧ emptyLoad (messageTables msg).1 = false ∧ brokenAt s.dev (↑p) (messageTables msg).1 (messageTables msg).2 = 0)
    ∧ (∃ (p : Fin 128) (s : State) (msg : List Byte), attr s.dev PORT_STATE ↑p = psTrain ∧ attr s.dev PORT_TRAIN_PHASE ↑p = 4 ∧ msg.length = 769 ∧ emptyLoad (messageTables msg).1 = false ∧ brokenAt s.dev (↑p) (messageTables msg).1 (messageTables msg).2 = 0)
    ∧ (∃ (p : Fin 128) (s : State), attr s.dev PORT_STATE ↑p = psTrain ∧ attr s.dev PORT_TRAIN_PHASE ↑p = 4 ∧ (train s.dev ↑p).txAgreed = true)
    ∧ (∃ (p : Fin 128) (s : State), attr s.dev PORT_STATE ↑p = psTrain ∧ attr s.dev PORT_TRAIN_PHASE ↑p = 4 ∧ (train s.dev ↑p).txAgreed = false)
    ∧ (∃ (p : Fin 128) (s : State), attr s.dev PORT_STATE ↑p = psTrain ∧ attr s.dev PORT_TRAIN_PHASE ↑p = 4 ∧ (train s.dev ↑p).repeated = false)
    ∧ (∃ (p : Fin 128) (s : State), attr s.dev PORT_STATE ↑p = psTrain ∧ attr s.dev PORT_TRAIN_PHASE ↑p = 5 ∧ (train s.dev ↑p).controller = false)
    ∧ (∃ (p : Fin 128) (s : State), attr s.dev PORT_STATE ↑p = psTrain ∧ attr s.dev PORT_TRAIN_PHASE ↑p = 5 ∧ (train s.dev ↑p).controller = true ∧ (train s.dev ↑p).started = true ∧ (train s.dev ↑p).accepted = true)
    ∧ (∃ (p : Fin 128) (s : State), attr s.dev PORT_STATE ↑p = psTrain ∧ attr s.dev PORT_TRAIN_PHASE ↑p = 5 ∧ (train s.dev ↑p).controller = true ∧ ((train s.dev ↑p).started && (train s.dev ↑p).accepted) = false) :=
  ⟨⟨5, st (trainIn 5 1 fun x => { x with rampDone := true }), 600, by decide +kernel⟩,
   ⟨5, st (trainIn 5 1 fun x => { x with rampDone := true, controller := false, halfB := true }), 600, by decide +kernel⟩,
   ⟨5, st (trainIn 5 1 fun x => { x with controller := false }), by decide +kernel⟩,
   ⟨5, st (trainIn 5 1 fun x => { x with halfB := true }), by decide +kernel⟩,
   ⟨5, st (trainIn 5 2 fun x => { x with controller := false }), by decide +kernel⟩,
   ⟨5, st (trainIn 5 3 id), by decide +kernel⟩,
   ⟨5, st (trainIn 5 3 fun x => { x with controller := false }), by decide +kernel⟩,
   ⟨5, st (due0 tkPhase 5 ∘ trainIn 5 1 id), 450, by decide +kernel⟩,
   ⟨5, st (due0 tkPhase 5 ∘ trainIn 5 1 id), 449, by decide +kernel⟩,
   ⟨5, st (due0 tkPhase 5 ∘ trainIn 5 2 id), by decide +kernel⟩,
   ⟨5, st (due0 tkPhase 5 ∘ trainIn 5 5 id), by decide +kernel⟩,
   ⟨5, st (due0 tkPhase 5 ∘ trainIn 5 3 id), by decide +kernel⟩,
   ⟨5, st (due0 tkPhase 5 ∘ trainIn 5 4 id), by decide +kernel⟩,
   ⟨5, st (due0 tkPhase 5 ∘ trainIn 5 5 fun x => { x with repeated := true }), by decide +kernel⟩,
   ⟨5, st (trainIn 5 4 id), tmsg, by decide +kernel⟩,
   ⟨5, st (trainIn 5 4 fun x => { x with rxAgreed := true }), tmsg, by decide +kernel⟩,
   ⟨5, st (trainIn 5 4 fun x => { x with txAgreed := true }), by decide +kernel⟩,
   ⟨5, st (trainIn 5 4 id), by decide +kernel⟩,
   ⟨5, st (trainIn 5 4 id), by decide +kernel⟩,
   ⟨5, st (trainIn 5 5 fun x => { x with controller := false }), by decide +kernel⟩,
   ⟨5, st (trainIn 5 5 fun x => { x with started := true, accepted := true }), by decide +kernel⟩,
   ⟨5, st (trainIn 5 5 fun x => { x with started := true }), by decide +kernel⟩⟩

theorem witness_swap_messages :
    (∃ (p : Fin 128) (s : State) (msg : List Byte), attr s.dev PORT_STATE ↑p = psCarry ∧ msg.length = 769 ∧ swapOf s.dev ↑p = none ∧ (quiet s.dev ↑p).entry = none ∧ brokenAt s.dev (↑p) (messageTables msg).1 (messageTables msg).2 = 0)
    ∧ (∃ (p : Fin 128) (s : State) (x : Swap) (b : ℕ) (r : List ℕ), swapOf s.dev ↑p = some x ∧ x.asked = b :: r ∧ x.sf = none ∧ x.agreed ||| 2 ^ b ≠ x.dirs)
    ∧ (∃ (p : Fin 128) (s : State) (x : Swap) (b : ℕ) (r : List ℕ) (code : BitVec 8), swapOf s.dev ↑p = some x ∧ x.asked = b :: r ∧ code ≠ 0#8 ∧ x.marked = 0)
    ∧ (∃ (p : Fin 128) (s : State) (x : Swap) (dirs : Byte), swapOf s.dev ↑p = some x ∧ x.partner = true ∧ x.agreed = x.dirs ∧ BitVec.toNat dirs ≤ 3)
    ∧ (∃ (p : Fin 128) (s : State) (x : Swap), due s.dev tkSwap ↑p = true ∧ swapOf s.dev ↑p = some x ∧ x.marked = 0) :=
  ⟨⟨5, st (carry 5), tmsg, by decide +kernel⟩,
   ⟨5, st (modPort 5 (fun x => { x with swap := some (sw (some ⟨0,7⟩) false) }) ∘ carry 5), sw (some ⟨0,7⟩) false, 1, [0], by decide +kernel⟩,
   ⟨5, st (modPort 5 (fun x => { x with swap := some (sw (some ⟨0,7⟩) false) }) ∘ carry 5), sw (some ⟨0,7⟩) false, 1, [0], 4#8, by decide +kernel⟩,
   ⟨5, st (modPort 5 (fun x => { x with swap := some sw2 }) ∘ carry 5), sw2, 3#8, by decide +kernel⟩,
   ⟨5, st (due0 tkSwap 5 ∘ modPort 5 (fun x => { x with swap := some sw2 }) ∘ carry 5), sw2, by decide +kernel⟩⟩

theorem witness_carry_ends :
    (∃ (p : Fin 128) (s : State), attr s.dev PORT_STATE ↑p = psCarry ∧ (port s.dev ↑p).stop = none)
    ∧ (∃ (p : Fin 128) (s : State), attr s.dev PORT_STATE ↑p = psCarry ∧ attrOn s.dev PORT_AUTO_RETRAIN ↑p = true ∧ 1024 ≤ (rx s.dev ↑p).echoRun ∧ (port s.dev ↑p).stop = none)
    ∧ (∃ (p : Fin 128) (s : State), (attr s.dev PORT_STATE ↑p = psTrain ∨ attr s.dev PORT_STATE ↑p = psCarry ∨ attr s.dev PORT_STATE ↑p = psQuiet) ∧ (port s.dev ↑p).stop = none)
    ∧ (∃ (p : Fin 128) (s : State), (attr s.dev PORT_STATE ↑p = psTrain ∨ attr s.dev PORT_STATE ↑p = psCarry ∨ attr s.dev PORT_STATE ↑p = psQuiet) ∧ (port s.dev ↑p).stop = none)
    ∧ (∃ (p : Fin 128) (s : State), (attr s.dev PORT_STATE ↑p = psTrain ∨ attr s.dev PORT_STATE ↑p = psCarry ∨ attr s.dev PORT_STATE ↑p = psQuiet) ∧ (port s.dev ↑p).stop = none)
    ∧ (∃ (p : Fin 128) (s : State) (c : Instr), (c = Instr.retrain p ∨ c = Instr.linkStop p) ∧ attr s.dev PORT_STATE ↑p = psCarry ∧ (port s.dev ↑p).stop ≠ none)
    ∧ (∃ (p : Fin 128) (s : State) (c : Instr), (c = Instr.retrain p ∨ c = Instr.linkStop p) ∧ attr s.dev PORT_STATE ↑p = psCarry ∧ (port s.dev ↑p).stop ≠ none) :=
  ⟨⟨5, st (carry 5), by decide +kernel⟩,
   ⟨5, st (modRx 5 (fun x => { x with echoRun := 1024 }) ∘ carry 5), by decide +kernel⟩,
   ⟨5, st (setBlock PORT_LOADING_TX 5 ld1 ∘ carry 5), by decide +kernel⟩,
   ⟨5, st (setAttr PORT_STATE 5 psQuiet), by decide +kernel⟩,
   ⟨5, st (trainIn 5 2 id), by decide +kernel⟩,
   ⟨5, st (modPort 5 (fun x => { x with stop := some ⟨0,9⟩ }) ∘ carry 5), .linkStop 5, by decide +kernel⟩,
   ⟨5, st (modPort 5 (fun x => { x with stop := some ⟨0,9⟩ }) ∘ carry 5), .retrain 5, by decide +kernel⟩⟩

theorem witness_quiet_links :
    (∃ (p : Fin 128) (s : State) (mode : Byte), attr s.dev PORT_STATE ↑p = psCarry ∧ swapOf s.dev ↑p = none ∧ (quiet s.dev ↑p).entry = none ∧ (port s.dev ↑p).stop = none ∧ BitVec.toNat mode ≤ 1 ∧ captureFailed s.dev ↑p = false)
    ∧ (∃ (p : Fin 128) (s : State) (e : QuietEntry), (quiet s.dev ↑p).entry = some e ∧ e.step = QuietStep.asked)
    ∧ (∃ (p : Fin 128) (s : State) (e : QuietEntry) (code : BitVec 8), (quiet s.dev ↑p).entry = some e ∧ e.step = QuietStep.asked ∧ code ≠ 0#8)
    ∧ (∃ (p : Fin 128) (s : State) (e : QuietEntry), (quiet s.dev ↑p).entry = some e ∧ e.fromHost = false)
    ∧ (∃ (p : Fin 128) (s : State), due s.dev tkQuietEntry ↑p = true ∧ (quiet s.dev ↑p).entry.isSome = true)
    ∧ (∃ (p : Fin 128) (s : State) (marker : ℕ) (corr : ℕ) (offset : ℤ), attr s.dev PORT_STATE ↑p = psQuiet ∧ (quiet s.dev ↑p).sfSince % refreshEvery s.dev ↑p = 0 ∧ 500 ≤ marker ∧ 500 ≤ corr ∧ offset.natAbs ≤ 128)
    ∧ (∃ (p : Fin 128) (s : State) (marker : ℕ) (corr : ℕ) (offset : ℤ), attr s.dev PORT_STATE ↑p = psQuiet ∧ (quiet s.dev ↑p).sfSince % refreshEvery s.dev ↑p = 0 ∧ (marker < 500 ∨ corr < 500 ∨ 128 < offset.natAbs) ∧ (quiet s.dev ↑p).missed < 2)
    ∧ (∃ (p : Fin 128) (s : State) (marker : ℕ) (corr : ℕ) (offset : ℤ), attr s.dev PORT_STATE ↑p = psQuiet ∧ (quiet s.dev ↑p).sfSince % refreshEvery s.dev ↑p = 0 ∧ (marker < 500 ∨ corr < 500 ∨ 128 < offset.natAbs) ∧ 2 ≤ (quiet s.dev ↑p).missed ∧ (port s.dev ↑p).stop = none)
    ∧ (∃ (p : Fin 128) (s : State), attr s.dev PORT_STATE ↑p = psQuiet)
    ∧ (∃ (p : Fin 128) (s : State) (offset : ℤ), attr s.dev PORT_STATE ↑p = psDormant ∧ (quiet s.dev ↑p).decidedAt ≠ 0 ∧ (quiet s.dev ↑p).burstSent = false ∧ offset.natAbs ≤ 128)
    ∧ (∃ (p : Fin 128) (s : State), attr s.dev PORT_STATE ↑p = psDormant ∧ due s.dev tkWakeUnanswered ↑p = true ∧ (quiet s.dev ↑p).answered = false ∧ (port s.dev ↑p).stop = none) :=
  ⟨⟨5, st (carry 5), 1#8, by decide +kernel⟩,
   ⟨5, st (ent ⟨true, .asked, true⟩), ⟨true, .asked, true⟩, by decide +kernel⟩,
   ⟨5, st (ent ⟨true, .asked, true⟩), ⟨true, .asked, true⟩, 3#8, by decide +kernel⟩,
   ⟨5, st (ent ⟨true, .draining, false⟩), ⟨true, .draining, false⟩, by decide +kernel⟩,
   ⟨5, st (due0 tkQuietEntry 5 ∘ ent ⟨true, .draining, false⟩), by decide +kernel⟩,
   ⟨5, st (qt fun x => { x with missed := 2, sfSince := 54 }), 500, 500, -128, by decide +kernel⟩,
   ⟨5, st (qt fun x => { x with missed := 1, sfSince := 54 }), 500, 500, 129, by decide +kernel⟩,
   ⟨5, st (qt fun x => { x with missed := 2, sfSince := 54 }), 499, 500, 0, by decide +kernel⟩,
   ⟨5, st (qt id), by decide +kernel⟩,
   ⟨5, st (due0 tkWakeUnanswered 5 ∘ dm fun x => { x with decidedAt := 1 }), 128, by decide +kernel⟩,
   ⟨5, st (due0 tkWakeUnanswered 5 ∘ dm fun x => { x with decidedAt := 1 }), by decide +kernel⟩⟩

theorem witness_svc_receives :
    (∃ (p : Fin 128) (s : State) (corr : ℕ), 600 ≤ corr ∧ svcListens s.dev ↑p = true ∧ (svc s.dev ↑p).rx = none)
    ∧ (∃ (corr : ℕ), corr < 600)
    ∧ (∃ (p : Fin 128) (s : State) (corr : ℕ) (power : ℤ) (r : SvcReception), 600 ≤ corr ∧ svcListens s.dev ↑p = true ∧ (svc s.dev ↑p).rx = some r ∧ r.power + 6 ≤ power)
    ∧ (∃ (p : Fin 128) (s : State) (v : BitVec 36) (r : SvcReception), (svc s.dev ↑p).rx = some r ∧ r.header = none ∧ headValid v.toNat = true)
    ∧ (∃ (p : Fin 128) (s : State) (v : BitVec 36) (r : SvcReception), (svc s.dev ↑p).rx = some r ∧ r.header = none ∧ headValid v.toNat = false ∧ (svc s.dev ↑p).pendingRx = none)
    ∧ (∃ (p : Fin 128) (s : State) (h : Head), headOf s.dev (↑p) 0 = some h)
    ∧ (∃ (p : Fin 128) (s : State) (h : Head), headOf s.dev (↑p) 1 = some h)
    ∧ (∃ (p : Fin 128) (s : State) (h : Head), headOf s.dev (↑p) 2 = some h)
    ∧ (∃ (p : Fin 128) (s : State), due s.dev tkGrantLapse ↑p = true)
    ∧ (∃ (p : Fin 128) (s : State), attr s.dev PORT_STATE ↑p = psListen ∧ svcRole s.dev ↑p = 1 ∧ (armed s.dev tkBeacon ↑p = false ∨ due s.dev tkBeacon ↑p = true))
    ∧ (∃ (p : Fin 128) (s : State), attr s.dev PORT_STATE ↑p = psTrain ∧ svcRole s.dev ↑p = 1 ∧ (armed s.dev tkPollGrant ↑p = false ∨ due s.dev tkPollGrant ↑p = true))
    ∧ (∃ (p : Fin 128) (s : State), attr s.dev PORT_STATE ↑p = psCarry ∧ svcRole s.dev ↑p = 1 ∧ (armed s.dev tkPollGrant ↑p = false ∨ due s.dev tkPollGrant ↑p = true))
    ∧ (∃ (p : Fin 128) (s : State), svcRole s.dev ↑p = 2 ∧ channelFree s.dev ↑p = true ∧ heardNothing s.dev ↑p = true ∧ attr s.dev PORT_STATE ↑p ≠ psNegotiate ∧ (armed s.dev tkHello ↑p = false ∨ due s.dev tkHello ↑p = true))
    ∧ (∃ (p : Fin 128) (s : State) (n : Fin 5) (f : SvcFragment), due s.dev tkResend (8 * ↑p + ↑n) = true ∧ (peer (svc s.dev ↑p) ↑n).out = some f ∧ svcRole s.dev ↑p ≠ 3 ∧ f.tries < 3)
    ∧ (∃ (p : Fin 128) (s : State) (n : Fin 5), due s.dev tkPartial (8 * ↑p + ↑n) = true)
    ∧ (∃ (p : Fin 128) (s : State), due s.dev tkBlank ↑p = true)
    ∧ (∃ (p : Fin 128) (s : State) (n : ℕ), due s.dev tkWakeNext ↑p = true ∧ (svc s.dev ↑p).wakeLeft = n + 1)
    ∧ (∃ (p : Fin 128) (s : State) (n : ℕ), due s.dev tkWakeNext ↑p = true ∧ (svc s.dev ↑p).wakeLeft = n + 1)
    ∧ (∃ (p : Fin 128) (s : State) (n : Fin 5), due s.dev tkPollRetry (8 * ↑p + ↑n) = true) :=
  ⟨⟨5, st (due0 tkGrantLapse 5 ∘ carry 5), 600, by decide +kernel⟩,
   ⟨599, by decide +kernel⟩,
   ⟨5, cp (fun x => { x with rx := some (rc none) }), 601, -54, rc none, by decide +kernel⟩,
   ⟨5, cp (fun x => { x with rx := some (rc none) }), BitVec.ofNat 36 (headBits { ty := 0, ctrl := false, addr := 4, tclass := 2 }), rc none, by decide +kernel⟩,
   ⟨5, cp (fun x => { x with rx := some (rc none) }), 1#36, rc none, by decide +kernel⟩,
   ⟨5, cp (fun x => { x with rx := some (rc (some {})) }), readHead (headBits {}), by decide +kernel⟩,
   ⟨5, cp (fun x => { x with rx := some (rc (some h1)) }), readHead (headBits h1), by decide +kernel⟩,
   ⟨5, cp (fun x => { x with rx := some (rc (some h2)) }), readHead (headBits h2), by decide +kernel⟩,
   ⟨5, st (due0 tkGrantLapse 5 ∘ sv 5 (fun x => { x with granted := some 2 }) ∘ carry 5), by decide +kernel⟩,
   ⟨5, st (setAttr PORT_STATE 5 psListen), by decide +kernel⟩,
   ⟨5, st (due0 tkPollGrant 5 ∘ setAttr PORT_STATE 5 psTrain), by decide +kernel⟩,
   ⟨5, st (carry 5), by decide +kernel⟩,
   ⟨5, st (partner5 ∘ carry 5), by decide +kernel⟩,
   ⟨5, st (due0 tkResend 42 ∘ sv 5 (fun x => { x with peers := [(2, { out := some frag })] }) ∘ carry 5), 2, frag, by decide +kernel⟩,
   ⟨5, st (due0 tkPartial 42 ∘ sv 5 (fun x => { x with peers := [(2, { partials := [(0, [1#8]), (2, [3#8])] })] }) ∘ carry 5), 2, by decide +kernel⟩,
   ⟨5, st (due0 tkBlank 5 ∘ sv 5 (fun x => { x with blanked := true }) ∘ carry 5), by decide +kernel⟩,
   ⟨5, st (due0 tkWakeNext 5 ∘ sv 5 (fun x => { x with wakeLeft := 1 }) ∘ setAttr PORT_STATE 5 psDormant), 0, by decide +kernel⟩,
   ⟨5, st (due0 tkWakeNext 5 ∘ sv 5 (fun x => { x with wakeLeft := 8 }) ∘ setAttr PORT_STATE 5 psDormant), 7, by decide +kernel⟩,
   ⟨5, st (due0 tkPollRetry 42 ∘ sv 5 (fun x => { x with polls := [⟨2, ⟨0, 9⟩, 0, 1, false, true, 0⟩] }) ∘ carry 5), 2, by decide +kernel⟩⟩

theorem witness_svc_commands :
    (∃ (r : Req) (s : State), Takes 160 r s ∧ 5 ≤ r.params.length ∧ r.params.length ≤ 1004 ∧ byteAt r.params 0 ≤ 127 ∧ leAt r.params 2 2 = 0 ∧ (byteAt r.params 1 = 0 ∧ (attr s.dev PORT_STATE (byteAt r.params 0) = psTrain ∨ attr s.dev PORT_STATE (byteAt r.params 0) = psCarry) ∧ bitOf (attr s.dev PORT_PARTNER_ABILITY (byteAt r.params 0)) 33 = true ∨ 1 ≤ byteAt r.params 1 ∧ byteAt r.params 1 ≤ 4 ∧ attr s.dev PORT_STATE (byteAt r.params 0) ∈ [psListen, psNegotiate, psTrain, psCarry]) ∧ (svc s.dev (byteAt r.params 0)).queue.length < 4)
    ∧ (∃ (r : Req) (s : State), Takes 160 r s ∧ 5 ≤ r.params.length ∧ r.params.length ≤ 1004 ∧ byteAt r.params 0 ≤ 127 ∧ leAt r.params 2 2 = 0 ∧ (byteAt r.params 1 = 0 ∧ (attr s.dev PORT_STATE (byteAt r.params 0) = psTrain ∨ attr s.dev PORT_STATE (byteAt r.params 0) = psCarry) ∧ bitOf (attr s.dev PORT_PARTNER_ABILITY (byteAt r.params 0)) 33 = true ∨ 1 ≤ byteAt r.params 1 ∧ byteAt r.params 1 ≤ 4 ∧ attr s.dev PORT_STATE (byteAt r.params 0) ∈ [psListen, psNegotiate, psTrain, psCarry]) ∧ (svc s.dev (byteAt r.params 0)).queue.length < 4)
    ∧ (∃ (r : Req) (s : State), Takes 161 r s ∧ r.params.length = 4 ∧ leAt r.params 1 3 = 0 ∧ (byteAt r.params 0 ≤ 127 ∨ byteAt r.params 0 = 255) ∧ recvPort s.dev (byteAt r.params 0) = none)
    ∧ (∃ (r : Req) (s : State) (m : SvcReceived) (ms : List SvcReceived), Takes 161 r s ∧ r.params.length = 4 ∧ leAt r.params 1 3 = 0 ∧ byteAt r.params 0 ≤ 127 ∧ (svc s.dev (byteAt r.params 0)).received = m :: ms ∧ ms.length < 256)
    ∧ (∃ (r : Req) (s : State), Takes 162 r s ∧ r.params.length = 4 ∧ byteAt r.params 0 ≤ 127 ∧ 1 ≤ byteAt r.params 1 ∧ byteAt r.params 1 ≤ 4 ∧ leAt r.params 2 2 = 0 ∧ attr s.dev PORT_STATE (byteAt r.params 0) ∈ [psListen, psNegotiate, psTrain, psCarry] ∧ (∀ q ∈ (svc s.dev (byteAt r.params 0)).polls, q.node ≠ byteAt r.params 1)) :=
  ⟨⟨q [5,0,0,0,7], so' (setAttr PORT_PARTNER_ABILITY 5 (2 ^ 33) ∘ carry 5), by decide +kernel⟩,
   ⟨q [5,4,0,0,7], so' (setAttr PORT_STATE 5 psListen), by decide +kernel⟩,
   ⟨q [0xFF,0,0,0], so, by decide +kernel⟩,
   ⟨q [5,0,0,0], so' (sv 5 (fun x => { x with received := [⟨0, 1, 99, [5#8], 0⟩, ⟨0, 1, 99, [6#8], 1⟩] })), ⟨0, 1, 99, [5#8], 0⟩, [⟨0, 1, 99, [6#8], 1⟩], by decide +kernel⟩,
   ⟨q [5,4,0,0], so' (carry 5), by decide +kernel⟩⟩

theorem witness_snapshots :
    (∃ (s : State) (r : Req) (k : ℕ), Takes 145 r s ∧ r.params.length = 8 ∧ byteAt r.params 0 ≤ 127 ∧ byteAt r.params 1 ≤ 2 ∧ byteAt r.params 2 ≤ 3 ∧ leAt r.params 6 2 = 0 ∧ (byteAt r.params 1 = 0 ∧ byteAt r.params 3 = 0 ∨ byteAt r.params 1 ≠ 0 ∧ 1 ≤ byteAt r.params 3 ∧ (byteAt r.params 3 ≤ if byteAt r.params 1 = 1 then 8 else 6) ∧ captureFailed s.dev (byteAt r.params 0) = false ∧ claimHeld (captureHolder s.dev (byteAt r.params 0)) = false) ∧ (byteAt r.params 2 = 0 ∧ leAt r.params 4 2 = 0 ∨ byteAt r.params 2 ≠ 0 ∧ 1 ≤ leAt r.params 4 2 ∧ leAt r.params 4 2 ≤ 60000) ∧ snapshotAllowed (byteAt r.params 1) (byteAt r.params 2) (attr s.dev PORT_STATE (byteAt r.params 0)) = true ∧ domainOn s.dev 188 = true ∧ k < 8 ∧ blockByte s.dev DEVICE_SNAP_STATE 0 k = 0 ∧ (∀ j < k, blockByte s.dev DEVICE_SNAP_STATE 0 j ≠ 0))
    ∧ (∃ (s : State) (r : Req) (k : ℕ), Takes 145 r s ∧ r.params.length = 8 ∧ byteAt r.params 0 ≤ 127 ∧ byteAt r.params 1 ≤ 2 ∧ byteAt r.params 2 ≤ 3 ∧ leAt r.params 6 2 = 0 ∧ (byteAt r.params 1 = 0 ∧ byteAt r.params 3 = 0 ∨ byteAt r.params 1 ≠ 0 ∧ 1 ≤ byteAt r.params 3 ∧ (byteAt r.params 3 ≤ if byteAt r.params 1 = 1 then 8 else 6) ∧ captureFailed s.dev (byteAt r.params 0) = false ∧ claimHeld (captureHolder s.dev (byteAt r.params 0)) = false) ∧ (byteAt r.params 2 = 0 ∧ leAt r.params 4 2 = 0 ∨ byteAt r.params 2 ≠ 0 ∧ 1 ≤ leAt r.params 4 2 ∧ leAt r.params 4 2 ≤ 60000) ∧ snapshotAllowed (byteAt r.params 1) (byteAt r.params 2) (attr s.dev PORT_STATE (byteAt r.params 0)) = true ∧ domainOn s.dev 188 = true ∧ k < 8 ∧ blockByte s.dev DEVICE_SNAP_STATE 0 k = 0 ∧ (∀ j < k, blockByte s.dev DEVICE_SNAP_STATE 0 j ≠ 0))
    ∧ (∃ (s : State) (k : Fin 8) (x : Snapshot), snapshotOf s.dev ↑k = some x ∧ x.fired = true ∧ (x.kind = 0 → x.due = true ∧ atBoundary s.dev (prismOf x.port) = true))
    ∧ (∃ (s : State) (k : Fin 8) (x : Snapshot), snapshotOf s.dev ↑k = some x ∧ x.fired = false ∧ due s.dev tkSnapArm ↑k = true) :=
  ⟨⟨so' (carry 5), q [5,1,3,8,0x60,0xEA,0,0], 0, by decide +kernel⟩,
   ⟨so' (carry 5 ∘ setBlockByte DEVICE_SNAP_STATE 0 0 2), q [5,0,0,0,0,0,0,0], 1, by decide +kernel⟩,
   ⟨so' (fun d => { setBlockByte DEVICE_SNAP_STATE 0 7 1 (carry 5 d) with snapshots := [(7, some (snp 1 true))], jobs := [⟨⟨0,9⟩, 0x91, [], 0, false, false, false⟩] }), 7, snp 1 true, by decide +kernel⟩,
   ⟨so' (fun d => due0 tkSnapArm 7 { setBlockByte DEVICE_SNAP_STATE 0 7 1 (carry 5 d) with snapshots := [(7, some (snp 1 false))] }), 7, snp 1 false, by decide +kernel⟩⟩

theorem witness_cable_scans :
    (∃ (p : Fin 128) (s : State) (r : Req), Takes 144 r s ∧ r.params.length = 4 ∧ byteAt r.params 0 = ↑p ∧ (byteAt r.params 1 = 0 ∨ 4 ≤ byteAt r.params 1 ∧ byteAt r.params 1 ≤ 64) ∧ leAt r.params 2 2 = 0 ∧ (attr s.dev PORT_STATE ↑p = psDown ∨ attr s.dev PORT_STATE ↑p = psListen) ∧ pathOn s.dev ↑p = true ∧ captureFailed s.dev ↑p = false ∧ claimHeld (txHolder s.dev ↑p) = false ∧ claimHeld (captureHolder s.dev ↑p) = false)
    ∧ (∃ (p : Fin 128) (s : State) (r : Req), Takes 144 r s ∧ r.params.length = 4 ∧ byteAt r.params 0 = ↑p ∧ (byteAt r.params 1 = 0 ∨ 4 ≤ byteAt r.params 1 ∧ byteAt r.params 1 ≤ 64) ∧ leAt r.params 2 2 = 0 ∧ (attr s.dev PORT_STATE ↑p = psDown ∨ attr s.dev PORT_STATE ↑p = psListen) ∧ pathOn s.dev ↑p = true ∧ captureFailed s.dev ↑p = false ∧ claimHeld (txHolder s.dev ↑p) = false ∧ claimHeld (captureHolder s.dev ↑p) = false)
    ∧ (∃ (p : Fin 128) (s : State) (x : Scan), due s.dev tkScanListen ↑p = true ∧ (port s.dev ↑p).scan = some x)
    ∧ (∃ (p : Fin 128) (s : State) (x : Scan), (port s.dev ↑p).scan = some x ∧ scanTurn s.dev ↑p = true)
    ∧ (∃ (p : Fin 128) (s : State) (x : Scan), due s.dev tkScan ↑p = true ∧ (port s.dev ↑p).scan = some x ∧ x.step = ScanStep.correlating)
    ∧ (∃ (p : Fin 128) (s : State) (x : Scan), (port s.dev ↑p).scan = some x ∧ x.step = ScanStep.analysing)
    ∧ (∃ (p : Fin 128) (s : State) (x : Scan), (port s.dev ↑p).scan = some x ∧ x.step ≠ ScanStep.analysing)
    ∧ (∃ (p : Fin 128) (s : State) (x : Scan), (port s.dev ↑p).scan = some x)
    ∧ (∃ (p : Fin 128) (s : State) (x : Scan), (port s.dev ↑p).scan = some x) :=
  ⟨⟨5, so, q [5,0,0,0], by decide +kernel⟩,
   ⟨5, so' (setAttr PORT_STATE 5 psListen), q [5,64,0,0], by decide +kernel⟩,
   ⟨5, scs .listening (due0 tkScanListen 5), scn .listening, by decide +kernel⟩,
   ⟨5, scs .waitRamp (modPrism 0 fun x => { x with rampQueue := [5, 6], boundaryAt := 1 }), scn .waitRamp, by decide +kernel⟩,
   ⟨5, scs .correlating (due0 tkScan 5), scn .correlating, by decide +kernel⟩,
   ⟨5, scs .analysing id, scn .analysing, by decide +kernel⟩,
   ⟨5, scs .ramp id, scn .ramp, by decide +kernel⟩,
   ⟨5, scs .correlating id, scn .correlating, by decide +kernel⟩,
   ⟨5, scs .listening id, scn .listening, by decide +kernel⟩⟩

theorem witness_device_time :
    (∃ (s : State) (r : Req) (move : ℤ), Takes 200 r s ∧ r.params.length = 22 ∧ leAt r.params 1 3 = 0 ∧ isTimeMaster s.dev = true ∧ (byteAt r.params 0 = 0 ∧ leAt r.params 10 4 < 1000000000 ∧ leAt r.params 14 8 = 0 ∧ move = Int.ofNat (leAt r.params 4 6 * 1000000000 + leAt r.params 10 4) - Int.ofNat s.dev.devTime ∨ byteAt r.params 0 = 1 ∧ leAt r.params 10 4 = 0 ∧ move = signedOf 64 (leAt r.params 14 8) ∧ move.natAbs ≤ 1000000000000000))
    ∧ (∃ (s : State) (r : Req) (move : ℤ), Takes 200 r s ∧ r.params.length = 22 ∧ leAt r.params 1 3 = 0 ∧ isTimeMaster s.dev = true ∧ (byteAt r.params 0 = 0 ∧ leAt r.params 10 4 < 1000000000 ∧ leAt r.params 14 8 = 0 ∧ move = Int.ofNat (leAt r.params 4 6 * 1000000000 + leAt r.params 10 4) - Int.ofNat s.dev.devTime ∨ byteAt r.params 0 = 1 ∧ leAt r.params 10 4 = 0 ∧ move = signedOf 64 (leAt r.params 14 8) ∧ move.natAbs ≤ 1000000000000000))
    ∧ (∃ (s : State) (r : Req) (move : ℤ), Takes 200 r s ∧ r.params.length = 22 ∧ leAt r.params 1 3 = 0 ∧ isTimeMaster s.dev = true ∧ (byteAt r.params 0 = 0 ∧ leAt r.params 10 4 < 1000000000 ∧ leAt r.params 14 8 = 0 ∧ move = Int.ofNat (leAt r.params 4 6 * 1000000000 + leAt r.params 10 4) - Int.ofNat s.dev.devTime ∨ byteAt r.params 0 = 1 ∧ leAt r.params 10 4 = 0 ∧ move = signedOf 64 (leAt r.params 14 8) ∧ move.natAbs ≤ 1000000000000000))
    ∧ (∃ (s : State) (r : Req), Takes 200 r s ∧ r.params.length = 22 ∧ leAt r.params 1 3 = 0 ∧ isTimeMaster s.dev = true ∧ byteAt r.params 0 = 2 ∧ leAt r.params 10 4 = 0 ∧ leAt r.params 14 8 = 0 ∧ attrOn s.dev LATTICE_PULSE_VALID 0 = true)
    ∧ (∃ (s : State) (others : List (Fin 8 × Bool)) (w : ℕ), anyChord s.dev = true ∧ (w = attr s.dev LATTICE_INDEX 0 ∧ attrOn s.dev LATTICE_PULSE_VALID 0 = true ∨ ∃ x ∈ others, ↑x.1 = w ∧ x.2 = true) ∧ (attrOn s.dev LATTICE_PULSE_VALID 0 = true → w ≤ attr s.dev LATTICE_INDEX 0) ∧ (∀ x ∈ others, x.2 = true → w ≤ ↑x.1))
    ∧ (∃ (s : State) (others : List (Fin 8 × Bool)) (w : ℕ), anyChord s.dev = true ∧ (w = attr s.dev LATTICE_INDEX 0 ∧ attrOn s.dev LATTICE_PULSE_VALID 0 = true ∨ ∃ x ∈ others, ↑x.1 = w ∧ x.2 = true) ∧ (attrOn s.dev LATTICE_PULSE_VALID 0 = true → w ≤ attr s.dev LATTICE_INDEX 0) ∧ (∀ x ∈ others, x.2 = true → w ≤ ↑x.1))
    ∧ (∃ (s : State) (rising : Bool), s.dev.phase ≠ StartPhase.held ∧ (rising = true ↔ attr s.dev TIME_PULSE_IN_EDGE 0 = 0))
    ∧ (∃ (s : State) (rising : Bool), s.dev.phase ≠ StartPhase.held ∧ (rising = true ↔ attr s.dev TIME_PULSE_IN_EDGE 0 = 0))
    ∧ (∃ (s : State), due s.dev tkPulseIn 0 = true)
    ∧ (∃ (s : State) (offset : ℤ), isTimeMaster s.dev = false ∧ anyChord s.dev = true ∧ offset.natAbs ≤ 1000)
    ∧ (∃ (s : State) (m : Fin 4) (tag : Byte), due s.dev tkAtPulse (256 * ↑m + BitVec.toNat tag) = true)
    ∧ (∃ (s : State), s.dev.phase = StartPhase.ready ∧ attr s.dev TIME_PULSE_OUT_PERIOD 0 ≠ 0 ∧ multipleDue s.dev tkPulseOut (attr s.dev TIME_PULSE_OUT_PERIOD 0 * 1000000) = true)
    ∧ (∃ (s : State), due s.dev tkPulseWidth 0 = true) :=
  ⟨⟨so, ts 0 1 999999999 (zs 8), 1999999999, by decide +kernel⟩,
   ⟨so, ts 1 0 0 ((toLE (2^64 - 1000) 8).map (·.toNat)), -1000, by decide +kernel⟩,
   ⟨so, ts 1 0 0 ((toLE (2^64 - 1001) 8).map (·.toNat)), -1001, by decide +kernel⟩,
   ⟨so' (setAttr LATTICE_PULSE_VALID 0 1), ts 2 5 0 (zs 8), by decide +kernel⟩,
   ⟨so' (setAttr LATTICE_INDEX 0 3 ∘ chd), [(2, true), (0, false)], 2, by decide +kernel⟩,
   ⟨so' (setAttr LATTICE_PULSE_VALID 0 1 ∘ setAttr LATTICE_INDEX 0 1 ∘ chd), [(2, true)], 1, by decide +kernel⟩,
   ⟨st (fun d => { d with elapsed := 1000000000, time := { d.time with pulseAt := 1, pulseGood := 2 } }), true, by decide +kernel⟩,
   ⟨so, true, by decide +kernel⟩,
   ⟨st (due0 tkPulseIn 0 ∘ setAttr LATTICE_PULSE_VALID 0 1), by decide +kernel⟩,
   ⟨so' (setAttr LATTICE_TIME_MASTER 0 2 ∘ setAttr LATTICE_INDEX 0 3 ∘ chd), -1000, by decide +kernel⟩,
   ⟨so' (fun d => due0 tkAtPulse 7 { d with time := { d.time with atPulse := [(⟨0, 7⟩, 5)] }, jobs := [⟨⟨0,7⟩, 0xC8, [], 0, false, false, false⟩] }), 0, 7#8, by decide +kernel⟩,
   ⟨st (fun d => { d with devTime := 1000000000 }), by decide +kernel⟩,
   ⟨st (fun d => due0 tkPulseWidth 0 { d with time := { d.time with pulseOut := true } }), by decide +kernel⟩⟩

theorem witness_flows :
    (∃ (r : Req) (s : State) (f : ℕ) (q : ℕ) (qs : List ℕ) (die : ℕ), f < 1024 ∧ Takes 64 r s ∧ r.params.length = 20 ∧ (leAt r.params 0 2 = f ∨ leAt r.params 0 2 = 65535 ∧ ∀ g < f, attr s.dev FLOW_STATE g ≠ 0) ∧ attr s.dev FLOW_STATE f = 0 ∧ (byteAt r.params 2 = 0 ∧ byteAt r.params 3 ≤ 127 ∧ byteAt r.params 4 ≤ 8 ∧ die = dieOf (byteAt r.params 3) ∨ byteAt r.params 2 = 1 ∧ byteAt r.params 3 ≤ 31 ∧ 9 ≤ byteAt r.params 4 ∧ byteAt r.params 4 ≤ 12 ∧ chordBound s.dev (byteAt r.params 3) = true ∧ die = dieOf ((chordPorts s.dev (byteAt r.params 3)).headD 0)) ∧ mapFieldsOk r.params = true ∧ groupsClosed s.dev r.params = false ∧ flowOfTarget s.dev (byteAt r.params 2) (byteAt r.params 3) (byteAt r.params 4) = none ∧ hostShort s.dev [] (wantedCharges s.dev r.params 255 die) r.params = none ∧ fittingPairs s.dev r.params die = q :: qs)
    ∧ (∃ (r : Req) (s : State) (f : ℕ) (q : ℕ) (qs : List ℕ) (die : ℕ), f < 1024 ∧ Takes 64 r s ∧ r.params.length = 20 ∧ (leAt r.params 0 2 = f ∨ leAt r.params 0 2 = 65535 ∧ ∀ g < f, attr s.dev FLOW_STATE g ≠ 0) ∧ attr s.dev FLOW_STATE f = 0 ∧ (byteAt r.params 2 = 0 ∧ byteAt r.params 3 ≤ 127 ∧ byteAt r.params 4 ≤ 8 ∧ die = dieOf (byteAt r.params 3) ∨ byteAt r.params 2 = 1 ∧ byteAt r.params 3 ≤ 31 ∧ 9 ≤ byteAt r.params 4 ∧ byteAt r.params 4 ≤ 12 ∧ chordBound s.dev (byteAt r.params 3) = true ∧ die = dieOf ((chordPorts s.dev (byteAt r.params 3)).headD 0)) ∧ mapFieldsOk r.params = true ∧ groupsClosed s.dev r.params = false ∧ flowOfTarget s.dev (byteAt r.params 2) (byteAt r.params 3) (byteAt r.params 4) = none ∧ hostShort s.dev [] (wantedCharges s.dev r.params 255 die) r.params = none ∧ fittingPairs s.dev r.params die = q :: qs)
    ∧ (∃ (r : Req) (s : State) (f : ℕ), f < 1024 ∧ Takes 66 r s ∧ r.params.length = 20 ∧ leAt r.params 0 2 = f ∧ leAt r.params 2 3 = 0 ∧ mapFieldsOk r.params = true ∧ groupsClosed s.dev r.params = false ∧ attr s.dev FLOW_STATE f = 1 ∧ hostShort s.dev (flowCharges s.dev f) (wantedCharges s.dev r.params (attr s.dev FLOW_INNER f) (flowDie s.dev f)) r.params = none ∧ innerShort s.dev (flowCharges s.dev f) (wantedCharges s.dev r.params (attr s.dev FLOW_INNER f) (flowDie s.dev f)) (flowDie s.dev f) (attr s.dev FLOW_INNER f) false = none)
    ∧ (∃ (r : Req) (s : State) (f : ℕ), f < 1024 ∧ Takes 65 r s ∧ r.params.length = 4 ∧ leAt r.params 0 2 = f ∧ byteAt r.params 3 = 0 ∧ attr s.dev FLOW_STATE f = 1 ∧ byteAt r.params 2 = 0)
    ∧ (∃ (r : Req) (s : State) (f : ℕ), f < 1024 ∧ Takes 65 r s ∧ r.params.length = 4 ∧ leAt r.params 0 2 = f ∧ byteAt r.params 3 = 0 ∧ attr s.dev FLOW_STATE f = 1 ∧ byteAt r.params 2 = 1)
    ∧ (∃ (s : State) (f : Fin 1024), attr s.dev FLOW_STATE ↑f = 2 ∧ flowHolds s.dev ↑f = false)
    ∧ (∃ (s : State) (f : Fin 1024), attr s.dev FLOW_STATE ↑f = 2 ∧ due s.dev tkDrain ↑f = true)
    ∧ (∃ (s : State) (f : Fin 1024), due s.dev tkFailover ↑f = true ∧ attr s.dev FLOW_STATE ↑f ≠ 0 ∧ flowMap s.dev (↑f) 2 = 2 ∧ attr s.dev FLOW_ACTIVE_HOST ↑f ≠ flowMap s.dev (↑f) 0 ∧ groupUp s.dev (flowMap s.dev (↑f) 0) = true)
    ∧ (∃ (s : State) (f : Fin 1024) (q : ℕ) (qs : List ℕ), attr s.dev FLOW_STATE ↑f ≠ 0 ∧ innerBroken s.dev ↑f = true ∧ (List.filter (fun x => groupCarries s.dev (16 + 8 * flowDie s.dev ↑f + x) && groupCarries s.dev (20 + 8 * flowDie s.dev ↑f + x)) (List.range 4) = q :: qs))
    ∧ (∃ (s : State) (p : Fin 128), due s.dev tkChordMove ↑p = true ∧ attr s.dev PORT_STATE ↑p ≠ psCarry)
    ∧ (∃ (s : State) (p : Fin 128), due s.dev tkChordMove ↑p = true ∧ attr s.dev PORT_STATE ↑p ≠ psCarry) :=
  ⟨⟨q (foI [0xFF,0xFF] [0,5,8]), so, 0, 0, [1,2,3], 0, by decide +kernel⟩,
   ⟨q (foI [0xFF,3] [1,3,12]), so' chdI, 1023, 0, [1,2,3], 1, by decide +kernel⟩,
   ⟨q (foI [9,0] [0,0,0]), so' (fopen 9), 9, by decide +kernel⟩,
   ⟨q [9,0,0,0], so' (fopen 9), 9, by decide +kernel⟩,
   ⟨q [9,0,1,0], so' (fopen 9), 9, by decide +kernel⟩,
   ⟨so' (drn 9), 9, by decide +kernel⟩,
   ⟨so' (due0 tkDrain 9 ∘ drn 9), 9, by decide +kernel⟩,
   ⟨so' (due0 tkFailover 9 ∘ setAttr FLOW_MAP 9 0xFF020100 ∘ setAttr FLOW_ACTIVE_HOST 9 1 ∘ setAttr GROUP_STATE 0 2 ∘ setAttr GROUP_WIDTH 0 4 ∘ setAttr GROUP_STATE 1 2 ∘ fopen 9), 9, by decide +kernel⟩,
   ⟨so' (setAttr GROUP_STATE 17 2 ∘ setAttr GROUP_STATE 21 2 ∘ fopen 9), 9, 1, [], by decide +kernel⟩,
   ⟨so' (due0 tkChordMove 70 ∘ setAttr FLOW_MEMBER 9 70 ∘ setAttr FLOW_KIND 9 1 ∘ setAttr FLOW_TARGET 9 3 ∘ fopen 9 ∘ chdI), 70, by decide +kernel⟩,
   ⟨so' (carry 71 ∘ due0 tkChordMove 70 ∘ setAttr FLOW_MEMBER 9 70 ∘ setAttr FLOW_KIND 9 1 ∘ setAttr FLOW_TARGET 9 3 ∘ fopen 9 ∘ chdI), 70, by decide +kernel⟩⟩

theorem witness_hub_rounds :
    (∃ (s : State), multipleDue s.dev tkHub 40 = true)
    ∧ (∃ (s : State), multipleDue s.dev tkSlow nsPerMs = true ∧ (∀ x ∈ s.dev.sources, x.2.missed ≤ 250))
    ∧ (∃ (s : State), (armed s.dev tkHubControl 0 = false ∨ due s.dev tkHubControl 0 = true) ∧ 100 * s.dev.faults.hubBad ≤ s.dev.faults.hubSlots)
    ∧ (∃ (s : State), (armed s.dev tkHubControl 0 = false ∨ due s.dev tkHubControl 0 = true) ∧ s.dev.faults.hubSlots < 100 * s.dev.faults.hubBad) :=
  ⟨⟨st (due0 tkHub 0 ∘ carry 5), by decide +kernel⟩,
   ⟨st (due0 tkSlow 0 ∘ modSource 5 fun x => { x with missed := 250 }), by decide +kernel⟩,
   ⟨st (modFaults fun x => { x with hubBad := 1, hubSlots := 100 }), by decide +kernel⟩,
   ⟨st (modFaults fun x => { x with hubBad := 1, hubSlots := 99 }), by decide +kernel⟩⟩

theorem witness_pair_commands :
    (∃ (r : Req) (s : State) (pair : ℕ), pair ≤ 15 ∧ byteAt r.params 0 = pair ∧ Takes 80 r s ∧ r.params.length = 4 ∧ byteAt r.params 1 ≤ 1 ∧ byteAt r.params 2 < 32 ∧ byteAt r.params 3 = 0 ∧ (pair < 8 ∨ lcOpen s.dev = true ∨ namedLanes (byteAt r.params 2) = [4]) ∧ (namesCarrying s.dev pair (namedLanes (byteAt r.params 2)) && pairMapped s.dev pair) = false ∧ pairIn s.dev pair 6 = false ∧ pairIn s.dev pair 5 = false ∧ pairOn s.dev pair = true ∧ s.dev.startOwed = false ∧ pairTraining s.dev pair = false ∧ laneSliced s.dev pair (namedLanes (byteAt r.params 2)) = false)
    ∧ (∃ (r : Req) (s : State) (pair : ℕ), pair ≤ 15 ∧ byteAt r.params 0 = pair ∧ Takes 80 r s ∧ r.params.length = 4 ∧ byteAt r.params 1 ≤ 1 ∧ byteAt r.params 2 < 32 ∧ byteAt r.params 3 = 0 ∧ (pair < 8 ∨ lcOpen s.dev = true ∨ namedLanes (byteAt r.params 2) = [4]) ∧ (namesCarrying s.dev pair (namedLanes (byteAt r.params 2)) && pairMapped s.dev pair) = false ∧ pairIn s.dev pair 6 = false ∧ pairIn s.dev pair 5 = false ∧ pairOn s.dev pair = true ∧ s.dev.startOwed = false ∧ pairTraining s.dev pair = false ∧ laneSliced s.dev pair (namedLanes (byteAt r.params 2)) = false)
    ∧ (∃ (r : Req) (s : State) (pair : ℕ), pair ≤ 15 ∧ byteAt r.params 0 = pair ∧ Takes 81 r s ∧ r.params.length = 4 ∧ 1 ≤ byteAt r.params 1 ∧ byteAt r.params 1 ≤ 3 ∧ leAt r.params 2 2 = 0 ∧ pairMapped s.dev pair = false ∧ pairIn s.dev pair 5 = false ∧ ownChannel (↑r.master) pair = false ∧ (pair < 8 ∨ lcOpen s.dev = true))
    ∧ (∃ (r : Req) (s : State) (pair : ℕ), pair ≤ 15 ∧ byteAt r.params 0 = pair ∧ Takes 81 r s ∧ r.params.length = 4 ∧ 1 ≤ byteAt r.params 1 ∧ byteAt r.params 1 ≤ 3 ∧ leAt r.params 2 2 = 0 ∧ pairMapped s.dev pair = false ∧ pairIn s.dev pair 5 = false ∧ ownChannel (↑r.master) pair = false ∧ (pair < 8 ∨ lcOpen s.dev = true))
    ∧ (∃ (r : Req) (s : State) (pair : ℕ), pair ≤ 15 ∧ byteAt r.params 0 = pair ∧ Takes 81 r s ∧ r.params.length = 4 ∧ byteAt r.params 1 = 0 ∧ leAt r.params 2 2 = 0 ∧ pairMapped s.dev pair = false ∧ pairIn s.dev pair 5 = false ∧ ownChannel (↑r.master) pair = false ∧ (pair < 8 ∨ lcOpen s.dev = true))
    ∧ (∃ (r : Req) (s : State) (pair : ℕ) (mode : ℕ), pair ≤ 15 ∧ byteAt r.params 0 = pair ∧ mode ≤ 1 ∧ Takes 83 r s ∧ r.params.length = 4 ∧ byteAt r.params 1 = mode ∧ leAt r.params 2 2 = 0 ∧ pairOn s.dev pair = true ∧ pairIn s.dev pair 5 = false)
    ∧ (∃ (r : Req) (s : State) (pair : ℕ) (mode : ℕ), pair ≤ 15 ∧ byteAt r.params 0 = pair ∧ mode ≤ 1 ∧ Takes 83 r s ∧ r.params.length = 4 ∧ byteAt r.params 1 = mode ∧ leAt r.params 2 2 = 0 ∧ pairOn s.dev pair = true ∧ pairIn s.dev pair 5 = false)
    ∧ (∃ (r : Req) (s : State) (pair : ℕ), pair ≤ 15 ∧ byteAt r.params 0 = pair ∧ Takes 83 r s ∧ r.params.length = 4 ∧ byteAt r.params 1 = 2 ∧ leAt r.params 2 2 = 0 ∧ pairOn s.dev pair = true ∧ pairMapped s.dev pair = false ∧ pairIn s.dev pair 6 = false ∧ pairTraining s.dev pair = false ∧ (link s.dev (pairTx pair)).l2 = none ∧ ownChannel (↑r.master) pair = false ∧ groupRuns s.dev (pairTx pair) = false)
    ∧ (∃ (l : Fin 256) (s : State) (r : Req), Takes 82 r s ∧ r.params.length = 12 ∧ leAt r.params 0 2 = ↑l ∧ patternFieldsOk r.params = true ∧ (↑l < 128 ∨ lcOpen s.dev = true ∨ ↑l % 8 = 4) ∧ patternPlace s.dev (↑l) (byteAt r.params 2) = true ∧ sliceRegion s.dev (768 + ↑l) = false)
    ∧ (∃ (l : Fin 256) (s : State) (x : PatternRun), due s.dev tkPattern ↑l = true ∧ (lane s.dev ↑l).pattern = some x) :=
  ⟨⟨q [15,1,0x10,0], so, 15, by decide +kernel⟩,
   ⟨q [0,0,0,0], so' (setAttr DEVICE_LC_STATE 0 1), 0, by decide +kernel⟩,
   ⟨q [0,3,0,0], so, 0, by decide +kernel⟩,
   ⟨q [0,1,0,0], so' (setAttr GROUP_STATE 0 2 ∘ setAttr GROUP_STATE 8 2), 0, by decide +kernel⟩,
   ⟨q [8,0,0,0], so' (setAttr GROUP_STATE 16 6 ∘ setAttr GROUP_STATE 20 6), 8, by decide +kernel⟩,
   ⟨q [8,1,0,0], so, 8, 1, by decide +kernel⟩,
   ⟨q [8,0,0,0], so' (setAttr GROUP_STATE 16 4 ∘ setAttr GROUP_STATE 20 4), 8, 0, by decide +kernel⟩,
   ⟨q [8,2,0,0], so, 8, by decide +kernel⟩,
   ⟨0xFC, so, q [0xFC,0,4,2,64,0,1,0,0x80,0xEE,0x36,0], by decide +kernel⟩,
   ⟨0xFC, so' (fun d => due0 tkPattern 0xFC (setAttr LANE_STATE 0xFC 3 (modLane 0xFC (fun x => { x with pattern := some pr }) { d with jobs := [⟨⟨0,9⟩, 0x52, [], 0, false, false, false⟩] }))), pr, by decide +kernel⟩⟩

theorem witness_lane_training :
    (∃ (s : State) (pair : Fin 16) (x : LaneTraining) (ms : List LaneMeasure), training s.dev ↑pair = some x ∧ x.phase < 4 ∧ noCoefficients s.dev (↑pair) x = false ∧ (((trainGroups (↑pair) x.why).any fun g => !groupMet s.dev x ms g) = false))
    ∧ (∃ (s : State) (pair : Fin 16) (x : LaneTraining) (ms : List LaneMeasure), training s.dev ↑pair = some x ∧ x.phase < 4 ∧ noCoefficients s.dev (↑pair) x = false ∧ (((trainGroups (↑pair) x.why).any fun g => !groupMet s.dev x ms g) = false))
    ∧ (∃ (s : State) (pair : Fin 16) (x : LaneTraining), training s.dev ↑pair = some x ∧ x.phase = 4 ∧ (((trainGroups (↑pair) x.why).any fun g => !groupMet s.dev x [] g) = false))
    ∧ (∃ (s : State) (pair : Fin 16) (x : LaneTraining), due s.dev tkLanePhase ↑pair = true ∧ training s.dev ↑pair = some x ∧ (x.quick && !x.repeated) = true)
    ∧ (∃ (s : State) (l : Fin 256), groupReceives (↑l / 8) = true ∧ inEqualise s.dev (↑l / 8) (↑l % 8) = true ∧ groupSends (reverseOf (↑l / 8)) = true)
    ∧ (∃ (s : State) (pair : Fin 16), due s.dev tkQuickRetrain ↑pair = true ∧ (attr s.dev GROUP_STATE (pairTx ↑pair) = 1 ∨ attr s.dev GROUP_STATE (pairRx ↑pair) = 1))
    ∧ (∃ (s : State) (pair : Fin 16), pairIn s.dev (↑pair) 5 = true ∧ pairOn s.dev ↑pair = true ∧ training s.dev ↑pair = none)
    ∧ (∃ (s : State) (pair : Fin 8), due s.dev tkStartPair ↑pair = true)
    ∧ (∃ (s : State) (l : Fin 256), watched s.dev (↑l / 8) (↑l % 8) = true)
    ∧ (∃ (s : State) (l : Fin 256), (armed s.dev tkCorrRun ↑l = false ∨ due s.dev tkCorrRun ↑l = true) ∧ (lane s.dev ↑l).uncorr ≤ attr s.dev LANE_FAULT_UNCORR ↑l ∧ (lane s.dev ↑l).corr ≤ attr s.dev LANE_FAULT_CORR ↑l)
    ∧ (∃ (s : State) (l : Fin 256), due s.dev tkSpareClean ↑l = true ∧ (lane s.dev ↑l).retrain = 2 ∧ groupRuns s.dev (↑l / 8) = true)
    ∧ (∃ (s : State) (g : Fin 32), groupReceives ↑g = true ∧ groupRuns s.dev ↑g = true ∧ (link s.dev ↑g).lcLost = false)
    ∧ (∃ (s : State) (g : Fin 32) (c : SubChange), groupSends ↑g = true ∧ (link s.dev ↑g).subAnn = some c ∧ c.slot = txSlot s.dev ↑g)
    ∧ (∃ (s : State) (g : Fin 32) (c : SubChange), groupReceives ↑g = true ∧ (link (txChangeDue (↑g) s.dev) ↑g).rxAnn = some c ∧ c.slot = rxSlot (txChangeDue (↑g) s.dev) ↑g)
    ∧ (∃ (s : State) (g : Fin 32) (r : SubChange), groupReceives ↑g = true ∧ (link (txChangeDue (↑g) s.dev) ↑g).rxAnn = none ∧ (link (txChangeDue (↑g) s.dev) ↑g).subReq = some r ∧ r.rank = 1 ∧ r.asked = true ∧ r.applied = false ∧ r.slot = rxSlot (txChangeDue (↑g) s.dev) ↑g) :=
  ⟨⟨so' (lt 3 (trn 2 true)), 3, trn 2 true, [⟨91, 3, 0, [1#8], 50, 2⟩], by decide +kernel⟩,
   ⟨so' (lt 3 (trn 3 true)), 3, trn 3 true, [], by decide +kernel⟩,
   ⟨so' (modLink 11 (fun x => { x with idleSeen := 8 }) ∘ lt 3 (trn 4 true)), 3, trn 4 true, by decide +kernel⟩,
   ⟨so' (due0 tkLanePhase 3 ∘ lt 3 (trn 1 true)), 3, trn 1 true, by decide +kernel⟩,
   ⟨so' (lt 3 (trn 2 false)), 90, by decide +kernel⟩,
   ⟨so' (due0 tkQuickRetrain 3 ∘ lt 3 (trn 2 true)), 3, by decide +kernel⟩,
   ⟨so' (setAttr GROUP_STATE 3 5 ∘ setAttr GROUP_STATE 11 5), 3, by decide +kernel⟩,
   ⟨so' (due0 tkStartPair 4), 4, by decide +kernel⟩,
   ⟨so' upp, 90, by decide +kernel⟩,
   ⟨so' (modLane 90 (fun x => { x with uncorr := 4, corr := 8192 }) ∘ upp), 90, by decide +kernel⟩,
   ⟨so' (due0 tkSpareClean 92 ∘ modLane 92 (fun x => { x with retrain := 2 }) ∘ upp), 92, by decide +kernel⟩,
   ⟨so' upp, 11, by decide +kernel⟩,
   ⟨so' (modLink 3 (fun x => { x with subAnn := some ⟨1, 5, 1, true, false⟩, ab := 0, slot := 5 }) ∘ upp), 3, ⟨1, 5, 1, true, false⟩, by decide +kernel⟩,
   ⟨so' (modLink 11 (fun x => { x with rxAnn := some ⟨1, 5, 1, true, false⟩, rxAb := 0, rxSlot := 5 }) ∘ upp), 11, ⟨1, 5, 1, true, false⟩, by decide +kernel⟩,
   ⟨so' (modLink 11 (fun x => { x with subReq := some ⟨1, 5, 1, true, false⟩, rxAb := 0, rxSlot := 5 }) ∘ upp), 11, ⟨1, 5, 1, true, false⟩, by decide +kernel⟩⟩

theorem witness_rows_and_idle :
    (∃ (g : Fin 32) (s : State), groupSends ↑g = true ∧ groupRuns s.dev ↑g = true ∧ (link s.dev ↑g).slot < 1024 ∧ (∀ (c : SubChange), (link s.dev ↑g).subAnn = some c → c.slot ≠ txSlot s.dev ↑g))
    ∧ (∃ (g : Fin 32) (s : State), groupSends ↑g = true ∧ groupRuns s.dev ↑g = true ∧ (link s.dev ↑g).slot = 1024)
    ∧ (∃ (g : Fin 32) (s : State), groupReceives ↑g = true ∧ groupRuns s.dev ↑g = true ∧ (link s.dev ↑g).rxSlot = 1024)
    ∧ (∃ (g : Fin 32) (s : State) (words : List (List ℕ)), groupReceives ↑g = true ∧ attr s.dev GROUP_STATE ↑g = 4 ∧ (link s.dev ↑g).rxSlot < 1024 ∧ (link s.dev ↑g).rxAnn = none ∧ (link s.dev ↑g).subReq = none ∧ (∀ w ∈ words, w = []))
    ∧ (∃ (g : Fin 32) (s : State) (words : List (List ℕ)) (ls : List ℕ) (d : Dev), rowReceived (↑g) (words ++ [ls]) s.dev = (none, d))
    ∧ (∃ (g : Fin 32) (s : State) (r : SentRow) (rs : List SentRow), (link s.dev ↑g).replay = r :: rs ∧ groupRuns s.dev ↑g = true ∧ (link s.dev ↑g).resend = none ∧ r.sentAt + attr s.dev GROUP_REPLAY_TIMER ↑g ≤ s.dev.elapsed)
    ∧ (∃ (g : Fin 32) (s : State), due s.dev tkL0s ↑g = true ∧ mayIdle s.dev ↑g = true)
    ∧ (∃ (g : Fin 32) (s : State), groupSends ↑g = true ∧ attr s.dev GROUP_STATE ↑g = 4 ∧ (link s.dev ↑g).idleRows = 0 ∧ (rowOwed s.dev ↑g || owesFeedback s.dev ↑g) = true)
    ∧ (∃ (g : Fin 32) (s : State), groupReceives ↑g = true ∧ attr s.dev GROUP_STATE ↑g = 4)
    ∧ (∃ (s : State) (pair : Fin 16) (j : JobRef), due s.dev tkL2 ↑pair = true ∧ (link s.dev (pairTx ↑pair)).l2 = some j) :=
  ⟨⟨3, so' (modLink 3 (fun x => { x with slot := 1023 }) ∘ upp), by decide +kernel, by decide +kernel, by decide +kernel, fun _ h => nomatch h⟩,
   ⟨3, so' (modLink 3 (fun x => { x with slot := 1024, ab := 65535 }) ∘ upp), by decide +kernel⟩,
   ⟨11, so' (modLink 11 (fun x => { x with rxSlot := 1024 }) ∘ upp), by decide +kernel⟩,
   ⟨11, so' (setAttr GROUP_STATE 11 4 ∘ modLink 11 (fun x => { x with rxSlot := 1023 }) ∘ upp), [[], [], [], []], by decide +kernel⟩,
   ⟨11, so' upp, [[], [], [], []], [], (rowReceived 11 [[], [], [], [], []] (so' upp).dev).2, by decide +kernel⟩,
   ⟨3, so' (fun d => { modLink 3 (fun x => { x with replay := [sr], txSeq := 8 }) (upp d) with elapsed := 1000 }), sr, [], by decide +kernel⟩,
   ⟨3, so' (due0 tkL0s 3 ∘ setAttr GROUP_IDLE_MODE 3 1 ∘ upp), by decide +kernel⟩,
   ⟨3, so' (modLink 3 (fun x => { x with replay := [sr], txSeq := 8, resend := some 7 }) ∘ setAttr GROUP_STATE 3 4 ∘ upp), by decide +kernel⟩,
   ⟨11, so' (setAttr GROUP_STATE 11 4 ∘ upp), by decide +kernel⟩,
   ⟨so' (fun d => due0 tkL2 3 (modLink 3 (fun x => { x with l2 := some ⟨0,9⟩ }) { upp d with jobs := [⟨⟨0,9⟩, 0x53, [], 0, false, false, false⟩] })), 3, ⟨0,9⟩, by decide +kernel⟩⟩

theorem witness_detectors :
    (∃ (die : ℕ), die < 3)
    ∧ (∃ (die : ℕ), die < 3)
    ∧ (∃ (s : State) (p : Fin 128) (k : Fin 68) (j : ℕ), sliceActive s.dev ↑p ↑k = true ∧ List.find? (sliceSpare s.dev ↑p) (List.range 68) = some j)
    ∧ (∃ (s : State) (p : Fin 128) (k : Fin 68), sliceState s.dev ↑p ↑k = 1)
    ∧ (∃ (s : State) (p : Fin 128), 64 ≤ (source s.dev ↑p).stalled ∧ (source s.dev ↑p).handled = false)
    ∧ (∃ (s : State) (p : Fin 128), due s.dev tkSourceStall ↑p = true ∧ 64 ≤ (source s.dev ↑p).stalled)
    ∧ (∃ (s : State) (word : ℕ), s.dev.brownout = none ∧ suspectPasses s.dev word = none) :=
  ⟨⟨0, by decide +kernel⟩,
   ⟨1, by decide +kernel⟩,
   ⟨so, 3, 7, 64, by decide +kernel⟩,
   ⟨so' (setSlice 3 7 1), 3, 7, by decide +kernel⟩,
   ⟨so' (modSource 5 (fun x => { x with stalled := 64 })), 5, by decide +kernel⟩,
   ⟨so' (due0 tkSourceStall 5 ∘ modSource 5 (fun x => { x with stalled := 64 })), 5, by decide +kernel⟩,
   ⟨so, 64, by decide +kernel⟩⟩

theorem witness_vertex_and_supplies :
    (∃ (s : State), s.dev.phase ≠ StartPhase.held ∧ s.dev.vertex = VertexMode.running ∧ ((List.filter (fun t => decide (s.dev.elapsed < t + 10000000)) s.dev.faults.rollbacks).length < 2))
    ∧ (∃ (s : State), s.dev.phase ≠ StartPhase.held ∧ s.dev.vertex = VertexMode.running ∧ (2 ≤ (List.filter (fun t => decide (s.dev.elapsed < t + 10000000)) s.dev.faults.rollbacks).length) ∧ spareCore s.dev ≠ 3)
    ∧ (∃ (s : State), s.dev.phase ≠ StartPhase.held ∧ s.dev.vertex = VertexMode.running ∧ (2 ≤ (List.filter (fun t => decide (s.dev.elapsed < t + 10000000)) s.dev.faults.rollbacks).length) ∧ spareCore s.dev = 3)
    ∧ (∃ (s : State), s.dev.vertex = VertexMode.reloading ∧ s.dev.waiting = [])
    ∧ (∃ (s : State), s.dev.vertex = VertexMode.trial ∧ s.dev.waiting = [])
    ∧ (∃ (s : State), s.dev.brownout = none ∧ s.dev.phase ≠ StartPhase.held)
    ∧ (∃ (s : State) (rail : Fin 6) (r0 : ℕ) (t0 : ℕ), s.dev.brownout = some (r0, t0) ∧ s.dev.faults.rails = [↑rail] ∧ s.dev.waiting = []) :=
  ⟨⟨so, by decide +kernel⟩,
   ⟨so' (modFaults (fun x => { x with rollbacks := [0,0] })), by decide +kernel⟩,
   ⟨so' (setCores 0 1 3 ∘ modFaults (fun x => { x with rollbacks := [0,0] })), by decide +kernel⟩,
   ⟨so' (fun d => { d with vertex := .reloading }), by decide +kernel⟩,
   ⟨so' (fun d => { d with vertex := .trial }), by decide +kernel⟩,
   ⟨so, by decide +kernel⟩,
   ⟨so' (fun d => modFaults (fun x => { x with rails := [5] }) { d with brownout := some (5, 0) }), 5, 5, 0, by decide +kernel⟩⟩

theorem witness_fault_log :
    (∃ (s : State) (r : LogRec) (rest : List LogRec), s.dev.faults.queue = r :: rest ∧ s.dev.brownout = none ∧ s.dev.faults.erase = none)
    ∧ (∃ (s : State), s.dev.faults.queue = [])
    ∧ (∃ (s : State), s.dev.brownout.isSome = true)
    ∧ (∃ (s : State) (j : JobRef), s.dev.faults.erase = some j ∧ s.dev.brownout = none)
    ∧ (∃ (s : State), (armed s.dev tkSummary 0 = false ∨ due s.dev tkSummary 0 = true))
    ∧ (∃ (s : State) (r : Req), Takes 176 r s ∧ r.params.length = 8 ∧ leAt r.params 2 2 = 0 ∧ byteAt r.params 0 = 0 ∧ byteAt r.params 1 = 0 ∧ leAt r.params 4 4 = 0)
    ∧ (∃ (s : State) (r : Req), Takes 176 r s ∧ r.params.length = 8 ∧ leAt r.params 2 2 = 0 ∧ byteAt r.params 0 = 1 ∧ 1 ≤ byteAt r.params 1 ∧ byteAt r.params 1 ≤ 15)
    ∧ (∃ (s : State) (r : Req), Takes 176 r s ∧ r.params.length = 8 ∧ leAt r.params 2 2 = 0 ∧ byteAt r.params 0 = 2 ∧ byteAt r.params 1 = 0 ∧ leAt r.params 4 4 = 0 ∧ lcOpen s.dev = true ∧ s.dev.faults.erase = none) :=
  ⟨⟨so' (modFaults (fun x => { x with queue := [lr], nextSeq := 4 })), lr, [], by decide +kernel⟩,
   ⟨so, by decide +kernel⟩,
   ⟨so' (fun d => { modFaults (fun x => { x with erase := some ⟨0,9⟩ }) d with brownout := some (2, 0) }), by decide +kernel⟩,
   ⟨so' (modFaults (fun x => { x with erase := some ⟨0,9⟩ })), ⟨0,9⟩, by decide +kernel⟩,
   ⟨so' (modFaults (fun x => { x with sums := [⟨7,3,1,2⟩] })), by decide +kernel⟩,
   ⟨so, q (0 :: zs 7), by decide +kernel⟩,
   ⟨so' (modFaults (fun x => { x with nextSeq := 5, places := [⟨4,0,true⟩] })), q [1,15,0,0,4,0,0,0], by decide +kernel⟩,
   ⟨so' (setAttr DEVICE_LC_STATE 0 0), q (2 :: zs 7), by decide +kernel⟩⟩

theorem witness_repairs :
    (∃ (s : State) (r : Req), Takes 177 r s ∧ r.params.length = 4 ∧ repairFieldsOk r.params = true ∧ byteAt r.params 0 ≠ 7 ∧ elementFailed s.dev (byteAt r.params 0) (leAt r.params 2 2) (byteAt r.params 1) = true ∧ repairOn s.dev (byteAt r.params 0) (leAt r.params 2 2) = none)
    ∧ (∃ (s : State) (r : Req), Takes 177 r s ∧ r.params.length = 4 ∧ repairFieldsOk r.params = true ∧ byteAt r.params 0 = 7 ∧ laneState s.dev (leAt r.params 2 2) (byteAt r.params 1) = 6 ∧ attr s.dev GROUP_STATE (leAt r.params 2 2) ≠ 5 ∧ attr s.dev GROUP_STATE (leAt r.params 2 2) ≠ 6 ∧ repairOn s.dev 7 (leAt r.params 2 2) = none)
    ∧ (∃ (s : State) (cls : ℕ) (inst : ℕ) (r : Repair), cls ≠ 7 ∧ repairOn s.dev cls inst = some r)
    ∧ (∃ (s : State) (cls : ℕ) (inst : ℕ) (r : Repair), cls ≠ 7 ∧ repairOn s.dev cls inst = some r) :=
  ⟨⟨so' (setSlice 3 7 2), q [5,7,3,0], by decide +kernel⟩,
   ⟨so' (setAttr LANE_STATE 26 6 ∘ setAttr GROUP_STATE 3 2), q [7,2,3,0], by decide +kernel⟩,
   ⟨so' (modFaults (fun x => { x with repairs := [⟨⟨0,9⟩,5,3,7⟩], slices := [(391,2)] })), 5, 3, ⟨⟨0,9⟩,5,3,7⟩, by decide +kernel⟩,
   ⟨so' (modFaults (fun x => { x with repairs := [⟨⟨0,9⟩,1,0,2⟩], failedCores := [2] })), 1, 0, ⟨⟨0,9⟩,1,0,2⟩, by decide +kernel⟩⟩

theorem witness_power_set_phases :
    (∃ (s : State) (r : Req), Takes 96 r s ∧ r.params.length = 32 ∧ byteAt r.params 1 = 0 ∧ leAt r.params 2 2 ≤ 1000 ∧ maskList r.params 4 195 ≠ [] ∧ byteAt r.params 28 < 8 ∧ leAt r.params 29 3 = 0 ∧ s.dev.power.set = none ∧ s.dev.power.firing = none ∧ 1 ≤ byteAt r.params 0 ∧ byteAt r.params 0 ≤ 2 ∧ 194 ∉ maskList r.params 4 195 ∧ (2 ≤ ↑r.master → ∀ k ∈ maskList r.params 4 195, k ≠ 168 + 4 * (↑r.master - 2) ∧ k ≠ 176 + 4 * (↑r.master - 2)) ∧ (∀ k ∈ maskList r.params 4 195, domainState s.dev k = 0) ∧ powerBreach s.dev (maskList r.params 4 195) (byteAt r.params 0) = none)
    ∧ (∃ (s : State) (r : Req), Takes 96 r s ∧ r.params.length = 32 ∧ byteAt r.params 1 = 0 ∧ leAt r.params 2 2 ≤ 1000 ∧ maskList r.params 4 195 ≠ [] ∧ byteAt r.params 28 < 8 ∧ leAt r.params 29 3 = 0 ∧ s.dev.power.set = none ∧ s.dev.power.firing = none ∧ 1 ≤ byteAt r.params 0 ∧ byteAt r.params 0 ≤ 2 ∧ 194 ∉ maskList r.params 4 195 ∧ (2 ≤ ↑r.master → ∀ k ∈ maskList r.params 4 195, k ≠ 168 + 4 * (↑r.master - 2) ∧ k ≠ 176 + 4 * (↑r.master - 2)) ∧ (∀ k ∈ maskList r.params 4 195, domainState s.dev k = 0) ∧ powerBreach s.dev (maskList r.params 4 195) (byteAt r.params 0) = none)
    ∧ (∃ (s : State) (r : Req), Takes 96 r s ∧ r.params.length = 32 ∧ byteAt r.params 1 = 0 ∧ leAt r.params 2 2 ≤ 1000 ∧ maskList r.params 4 195 ≠ [] ∧ byteAt r.params 28 < 8 ∧ leAt r.params 29 3 = 0 ∧ s.dev.power.set = none ∧ s.dev.power.firing = none ∧ byteAt r.params 0 = 0 ∧ powerBreach s.dev (maskList r.params 4 195) 0 = none ∧ (∃ k ∈ maskList r.params 4 195, domainState s.dev k ≠ 0))
    ∧ (∃ (s : State) (r : Req), Takes 96 r s ∧ r.params.length = 32 ∧ byteAt r.params 1 = 0 ∧ leAt r.params 2 2 ≤ 1000 ∧ maskList r.params 4 195 ≠ [] ∧ byteAt r.params 28 < 8 ∧ leAt r.params 29 3 = 0 ∧ s.dev.power.set = none ∧ s.dev.power.firing = none ∧ byteAt r.params 0 = 0 ∧ (∀ k ∈ maskList r.params 4 195, domainState s.dev k = 0) ∧ powerBreach s.dev (maskList r.params 4 195) 0 = none)
    ∧ (∃ (s : State) (k : Fin 195) (x : PowerSet), s.dev.power.set = some x ∧ x.committing = false ∧ x.waiting = [↑k] ∧ x.refusals = [] ∧ domainState s.dev ↑k < x.state ∧ judgeDomain s.dev (↑k) x.state = none ∧ (commitOrder x.state (List.filter (fun j => domainState s.dev j != x.state) x.mask) ≠ []))
    ∧ (∃ (s : State) (k : Fin 195) (x : PowerSet) (why : ℕ × ℕ), s.dev.power.set = some x ∧ x.committing = false ∧ x.waiting = [↑k] ∧ x.refusals = [] ∧ domainState s.dev ↑k < x.state ∧ judgeDomain s.dev (↑k) x.state = some why)
    ∧ (∃ (s : State) (x : PowerSet), due s.dev tkPrepare 0 = true ∧ s.dev.power.set = some x ∧ x.committing = false ∧ x.waiting ≠ [] ∧ (∀ k ∈ x.waiting, k < 195))
    ∧ (∃ (s : State) (k : Fin 195) (x : PowerSet), s.dev.brownout = none ∧ s.dev.power.set = some x ∧ x.committing = true ∧ x.state ≤ 2 ∧ mayChange (↑k) x.state x.left = true)
    ∧ (∃ (s : State) (k : Fin 195) (x : PowerSet), s.dev.brownout = none ∧ s.dev.power.set = some x ∧ x.committing = true ∧ x.state ≤ 2 ∧ mayChange (↑k) x.state x.left = true) :=
  ⟨⟨so, q (ps32 2 10 [3,77]), by decide +kernel⟩,
   ⟨so, rq 0 (ps32 1 1000 [3,193]), by decide +kernel⟩,
   ⟨so' (setAttr DOMAIN_STATE 3 2), q (ps32 0 0 [3,77]), by decide +kernel⟩,
   ⟨so, q (ps32 0 0 [3,194]), by decide +kernel⟩,
   ⟨so' (pj (pset [77] false [])), 77, pset [77] false [], by decide +kernel⟩,
   ⟨so' (setAttr PORT_STATE 77 psCarry ∘ pj (pset [77] false [])), 77, pset [77] false [], (1,77), by decide +kernel⟩,
   ⟨so' (due0 tkPrepare 0 ∘ pj (pset [77] false [])), pset [77] false [], by decide +kernel⟩,
   ⟨so' (pj (pset [] true [3,77])), 77, pset [] true [3,77], by decide +kernel⟩,
   ⟨so' (pj (pset [] true [77])), 77, pset [] true [77], by decide +kernel⟩⟩

theorem witness_wakes :
    (∃ (s : State) (r : Req), Takes 97 r s ∧ r.params.length = 28 ∧ maskList r.params 0 195 ≠ [] ∧ byteAt r.params 24 < 8 ∧ leAt r.params 25 3 = 0 ∧ s.dev.power.set = none ∧ (∀ k ∈ maskList r.params 0 195, domainState s.dev k = 0))
    ∧ (∃ (s : State) (r : Req) (n : ℕ), Takes 98 r s ∧ r.params.length = 52 ∧ byteAt r.params 0 = n ∧ n ≤ 7 ∧ byteAt r.params 1 < 32 ∧ byteAt r.params 2 < 4 ∧ byteAt r.params 3 < 16 ∧ leAt r.params 4 4 ≤ 86400000 ∧ (wakeSource r.params 3 = true ↔ leAt r.params 4 4 ≠ 0) ∧ (wakeSource r.params 1 = true ∨ wakeSource r.params 2 = true → maskPorts r.params 8 ≠ []) ∧ 194 ∉ maskList r.params 24 195 ∧ (∀ k ∈ maskList r.params 24 195, ∀ j ∈ parentsOf k, j ∈ maskList r.params 24 195) ∧ byteAt r.params 48 < 8 ∧ leAt r.params 49 3 = 0 ∧ (wakeSource r.params 4 = true → gpioConflict s.dev n (byteAt r.params 2) (bitOf (byteAt r.params 3) 1) = none))
    ∧ (∃ (s : State) (r : Req) (n : ℕ), Takes 98 r s ∧ r.params.length = 52 ∧ byteAt r.params 0 = n ∧ n ≤ 7 ∧ byteAt r.params 1 < 32 ∧ byteAt r.params 2 < 4 ∧ byteAt r.params 3 < 16 ∧ leAt r.params 4 4 ≤ 86400000 ∧ (wakeSource r.params 3 = true ↔ leAt r.params 4 4 ≠ 0) ∧ (wakeSource r.params 1 = true ∨ wakeSource r.params 2 = true → maskPorts r.params 8 ≠ []) ∧ 194 ∉ maskList r.params 24 195 ∧ (∀ k ∈ maskList r.params 24 195, ∀ j ∈ parentsOf k, j ∈ maskList r.params 24 195) ∧ byteAt r.params 48 < 8 ∧ leAt r.params 49 3 = 0 ∧ (wakeSource r.params 4 = true → gpioConflict s.dev n (byteAt r.params 2) (bitOf (byteAt r.params 3) 1) = none))
    ∧ (∃ (s : State) (p : Fin 128), isReady s.dev = true ∧ attr s.dev PORT_STATE ↑p = psDormant ∧ s.dev.power.set = none ∧ ((firingSets s.dev fun ps => wakeSource ps 1 && maskBit ps 8 ↑p) = []) ∧ pathOn s.dev ↑p = true)
    ∧ (∃ (s : State) (p : Fin 128), isReady s.dev = true ∧ attr s.dev PORT_STATE ↑p = psDormant ∧ s.dev.power.set = none ∧ ((firingSets s.dev fun ps => wakeSource ps 1 && maskBit ps 8 ↑p) = []) ∧ pathOn s.dev ↑p = false)
    ∧ (∃ (s : State) (p : Fin 128) (e : Dev), isReady s.dev = true ∧ (e = match headOf s.dev (↑p) 3 with | some _ => receptionOver (↑p) s.dev | none => s.dev) ∧ attr e PORT_STATE ↑p = psQuiet ∧ isReady e = true ∧ (svc e ↑p).blanked = false ∧ (svc e ↑p).wakeLeft = 0 ∧ pathOn e ↑p = true)
    ∧ (∃ (s : State) (p : Fin 128), isReady s.dev = true ∧ headOf s.dev (↑p) 3 = none ∧ (svc s.dev ↑p).blanked = false ∧ (attr s.dev PORT_STATE ↑p = psCarry ∨ attr s.dev PORT_STATE ↑p = psQuiet) ∧ (svc s.dev ↑p).wakeLeft ≠ 0)
    ∧ (∃ (s : State) (p : Fin 128), isReady s.dev = true ∧ headOf s.dev (↑p) 3 = none ∧ (svc s.dev ↑p).blanked = false ∧ (attr s.dev PORT_STATE ↑p = psCarry ∨ attr s.dev PORT_STATE ↑p = psQuiet) ∧ (svc s.dev ↑p).wakeLeft ≠ 0)
    ∧ (∃ (s : State) (p : Fin 128), isReady s.dev = true ∧ headOf s.dev (↑p) 3 = none ∧ (svc s.dev ↑p).blanked = false ∧ attr s.dev PORT_STATE ↑p = psQuiet ∧ (svc s.dev ↑p).wakeLeft = 0 ∧ pathOn s.dev ↑p = true)
    ∧ (∃ (s : State) (n : Fin 8), due s.dev tkWakeTimer ↑n = true ∧ wakeArmed s.dev ↑n = true ∧ s.dev.power.set ≠ none)
    ∧ (∃ (s : State), due s.dev tkWakeOut 0 = true) :=
  ⟨⟨so' (setAttr DOMAIN_PADS_LATCHED 3 1), q (mask25 [3,77,190] ++ [0,0,0]), by decide +kernel⟩,
   ⟨so, q (wk 7 0x1A 1000 [3] [3,160]), 7, by decide +kernel⟩,
   ⟨so' (setAttr DEVICE_WAKE_ARMED 0 0x80), q (wk 7 0 0 [] []), 7, by decide +kernel⟩,
   ⟨so' (setAttr PORT_STATE 127 psDormant), 127, by decide +kernel⟩,
   ⟨so' (setAttr PORT_STATE 127 psDormant ∘ setAttr DOMAIN_STATE 127 2), 127, by decide +kernel⟩,
   ⟨wkq, 9, wkq.dev, by decide +kernel⟩,
   ⟨so' (modSvc 9 (fun x => { x with wakeLeft := 3 }) ∘ setAttr PORT_STATE 9 psQuiet), 9, by decide +kernel⟩,
   ⟨so' (modSvc 9 (fun x => { x with wakeLeft := 3 }) ∘ carry 9), 9, by decide +kernel⟩,
   ⟨wkq, 9, by decide +kernel⟩,
   ⟨so' (due0 tkWakeTimer 7 ∘ setAttr DEVICE_WAKE_ARMED 0 0x80 ∘ pj (pset [77] false [])), 7, by decide +kernel⟩,
   ⟨so' (due0 tkWakeOut 0), by decide +kernel⟩⟩

theorem witness_cal_commands :
    (∃ (r : Req) (s : State) (energy : List (Fin 128)) (os : List ℕ), Takes 112 r s ∧ r.params.length = 8 ∧ byteAt r.params 0 ≤ 10 ∧ byteAt r.params 1 ≤ 1 ∧ leAt r.params 4 4 = 0 ∧ (os = [leAt r.params 2 2] ∧ leAt r.params 2 2 ∈ kindOwners (byteAt r.params 0) ∨ os = kindOwners (byteAt r.params 0) ∧ leAt r.params 2 2 = 65535 ∧ byteAt r.params 0 ≠ 10) ∧ (byteAt r.params 0 ≠ 9 ∨ byteAt r.params 1 = 1 ∨ attr s.dev DEVICE_LC_STATE 0 = 0 ∨ attr s.dev DEVICE_LC_STATE 0 = 2) ∧ domainOn s.dev 192 = true ∧ (∀ o ∈ os, calObstacle s.dev energy (byteAt r.params 0) o (byteAt r.params 1 == 1) = 0 ∧ calConflict s.dev (byteAt r.params 0) o = none) ∧ (∀ x ∈ s.dev.cal.runs, x.kind = byteAt r.params 0 → ∀ o ∈ x.left, o ∉ os) ∧ s.dev.cal.runs.length < 2 ∧ sliceRegion s.dev 1280 = false)
    ∧ (∃ (r : Req) (s : State) (energy : List (Fin 128)) (os : List ℕ), Takes 112 r s ∧ r.params.length = 8 ∧ byteAt r.params 0 ≤ 10 ∧ byteAt r.params 1 ≤ 1 ∧ leAt r.params 4 4 = 0 ∧ (os = [leAt r.params 2 2] ∧ leAt r.params 2 2 ∈ kindOwners (byteAt r.params 0) ∨ os = kindOwners (byteAt r.params 0) ∧ leAt r.params 2 2 = 65535 ∧ byteAt r.params 0 ≠ 10) ∧ (byteAt r.params 0 ≠ 9 ∨ byteAt r.params 1 = 1 ∨ attr s.dev DEVICE_LC_STATE 0 = 0 ∨ attr s.dev DEVICE_LC_STATE 0 = 2) ∧ domainOn s.dev 192 = true ∧ (∀ o ∈ os, calObstacle s.dev energy (byteAt r.params 0) o (byteAt r.params 1 == 1) = 0 ∧ calConflict s.dev (byteAt r.params 0) o = none) ∧ (∀ x ∈ s.dev.cal.runs, x.kind = byteAt r.params 0 → ∀ o ∈ x.left, o ∉ os) ∧ s.dev.cal.runs.length < 2 ∧ sliceRegion s.dev 1280 = false)
    ∧ (∃ (r : Req) (s : State) (energy : List (Fin 128)) (os : List ℕ), Takes 112 r s ∧ r.params.length = 8 ∧ byteAt r.params 0 ≤ 10 ∧ byteAt r.params 1 ≤ 1 ∧ leAt r.params 4 4 = 0 ∧ (os = [leAt r.params 2 2] ∧ leAt r.params 2 2 ∈ kindOwners (byteAt r.params 0) ∨ os = kindOwners (byteAt r.params 0) ∧ leAt r.params 2 2 = 65535 ∧ byteAt r.params 0 ≠ 10) ∧ (byteAt r.params 0 ≠ 9 ∨ byteAt r.params 1 = 1 ∨ attr s.dev DEVICE_LC_STATE 0 = 0 ∨ attr s.dev DEVICE_LC_STATE 0 = 2) ∧ domainOn s.dev 192 = true ∧ (∀ o ∈ os, calObstacle s.dev energy (byteAt r.params 0) o (byteAt r.params 1 == 1) = 0 ∧ calConflict s.dev (byteAt r.params 0) o = none) ∧ (∀ x ∈ s.dev.cal.runs, x.kind = byteAt r.params 0 → ∀ o ∈ x.left, o ∉ os) ∧ s.dev.cal.runs.length < 2 ∧ sliceRegion s.dev 1280 = false)
    ∧ (∃ (r : Req) (s : State), Takes 113 r s ∧ r.params.length = 4 ∧ byteAt r.params 0 ≤ 2 ∧ leAt r.params 1 3 = 0 ∧ attr s.dev DEVICE_LC_STATE 0 ≠ 3 ∧ domainOn s.dev 192 = true ∧ (byteAt r.params 0 = 0 → ∀ k < 3, refPresent s.dev k = true) ∧ s.dev.cal.store = none ∧ sliceRegion s.dev 1280 = false)
    ∧ (∃ (r : Req) (s : State), Takes 113 r s ∧ r.params.length = 4 ∧ byteAt r.params 0 ≤ 2 ∧ leAt r.params 1 3 = 0 ∧ attr s.dev DEVICE_LC_STATE 0 ≠ 3 ∧ domainOn s.dev 192 = true ∧ (byteAt r.params 0 = 0 → ∀ k < 3, refPresent s.dev k = true) ∧ s.dev.cal.store = none ∧ sliceRegion s.dev 1280 = false)
    ∧ (∃ (r : Req) (s : State), Takes 114 r s ∧ r.params.length = 4 ∧ byteAt r.params 0 ≤ 10 ∧ 1 ≤ byteAt r.params 1 ∧ byteAt r.params 1 ≤ 40 ∧ (∀ k < byteAt r.params 1, leAt r.params 2 2 + k ∈ kindOwners (byteAt r.params 0))) :=
  ⟨⟨q [2,0,5,0,0,0,0,0], so' (setAttr CAL_REF_STATUS 0x0A00 7 ∘ setAttr PORT_STATE 5 psDown), [], [5], by decide +kernel⟩,
   ⟨q [9,0,0xFF,0xFF,0,0,0,0], so' (setAttr CAL_REF_STATUS 0x0A00 7 ∘ setAttr DEVICE_LC_STATE 0 2), [], [0,1,2], by decide +kernel⟩,
   ⟨q [9,1,2,0,0,0,0,0], so' (setAttr CAL_REF_STATUS 0x0A00 7), [], [2], by decide +kernel⟩,
   ⟨q [2,0,0,0], so, by decide +kernel⟩,
   ⟨q [0,0,0,0], so' (setAttr CAL_REF_STATUS 0x0A00 7), by decide +kernel⟩,
   ⟨q [1,40,88,0], so, by decide +kernel⟩⟩

theorem witness_cal_tracking :
    (∃ (s : State), s.dev.phase = StartPhase.ready ∧ attr s.dev DOMAIN_STATE 192 = 0 ∧ sliceRegion s.dev 1280 = false ∧ s.dev.brownout = none)
    ∧ (∃ (s : State) (item : ℕ) (deviation : ℤ), s.dev.phase = StartPhase.ready ∧ s.dev.resuming = false ∧ calTracks s.dev item = true ∧ item ≠ 2560 ∧ -32768 ≤ deviation ∧ deviation ≤ 32767)
    ∧ (∃ (s : State) (item : ℕ) (deviation : ℤ), s.dev.phase = StartPhase.ready ∧ s.dev.resuming = false ∧ calTracks s.dev item = true ∧ item ≠ 2560 ∧ -32768 ≤ deviation ∧ deviation ≤ 32767)
    ∧ (∃ (s : State) (item : ℕ) (element : ℕ), (calItem s.dev item).out = some element ∧ calHeld s.dev item = false ∧ s.dev.brownout = none)
    ∧ (∃ (s : State) (item : ℕ), (armed s.dev tkCalRate item = false ∨ due s.dev tkCalRate item = true) ∧ attrInt s.dev CAL_PENDING item ≠ 0 ∧ calHeld s.dev item = false ∧ s.dev.brownout = none ∧ attr s.dev DOMAIN_STATE 192 = 0 ∧ (∀ k ∈ calDomains item, attr s.dev DOMAIN_STATE k = 0))
    ∧ (∃ (s : State) (item : ℕ), (armed s.dev tkCalRate item = false ∨ due s.dev tkCalRate item = true) ∧ attrInt s.dev CAL_PENDING item ≠ 0 ∧ calHeld s.dev item = false ∧ s.dev.brownout = none ∧ attr s.dev DOMAIN_STATE 192 = 0 ∧ (∀ k ∈ calDomains item, attr s.dev DOMAIN_STATE k = 0))
    ∧ (∃ (s : State) (item : ℕ), calInstance item = true ∧ (calItem s.dev item).overdue = false ∧ 4 * attr s.dev CAL_TRACK_PERIOD 2560 * 1000000 ≤ s.dev.elapsed - (calItem s.dev item).ranAt + 1 ∧ calMeasurable s.dev item = true ∧ calHeld s.dev item = false ∧ (∀ k ∈ calDomains item, attr s.dev DOMAIN_STATE k = 0) ∧ isReady s.dev = true) :=
  ⟨⟨so, by decide +kernel⟩,
   ⟨so, 0x0105, -32768, by decide +kernel⟩,
   ⟨so, 0x0105, 32767, by decide +kernel⟩,
   ⟨so' (modItem 0x0105 (fun x => { x with out := some 4 })), 0x0105, 4, by decide +kernel⟩,
   ⟨so' (setAttrInt CAL_PENDING 0x0105 (-3)), 0x0105, by decide +kernel⟩,
   ⟨so' (due0 tkCalRate 0x0105 ∘ setAttrInt CAL_PENDING 0x0105 1), 0x0105, by decide +kernel⟩,
   ⟨so' (fun d => { d with elapsed := 4 * attr d CAL_TRACK_PERIOD 0x0A00 * 1000000 }), 0x0105, by decide +kernel⟩⟩

theorem witness_cal_runs_and_stores :
    (∃ (s : State) (item : ℕ) (r : CalRun) (o : ℕ) (rest : List ℕ), s.dev.cal.runs = [r] ∧ r.kind = calKind item ∧ r.left = o :: rest ∧ o = item % 256 ∧ s.dev.brownout = none)
    ∧ (∃ (s : State) (item : ℕ) (r : CalRun) (o : ℕ) (rest : List ℕ), s.dev.cal.runs = [r] ∧ r.kind = calKind item ∧ r.left = o :: rest ∧ o = item % 256 ∧ s.dev.brownout = none)
    ∧ (∃ (s : State) (p : Fin 128) (r : CalRun) (o : ℕ) (rest : List ℕ), s.dev.cal.runs = [r] ∧ r.check = false ∧ r.left = o :: rest ∧ portItem (↑p) (256 * r.kind + o) = true)
    ∧ (∃ (s : State) (x : CalStore), s.dev.brownout = none ∧ s.dev.cal.store = some x) :=
  ⟨⟨so' (crd (crun false [5,6])), 0x0105, crun false [5,6], 5, [6], by decide +kernel⟩,
   ⟨so' (crd (crun true [5])), 0x0105, crun true [5], 5, [], by decide +kernel⟩,
   ⟨so' (crd (crun false [5,6])), 5, crun false [5,6], 5, [6], by decide +kernel⟩,
   ⟨so' (fun d => modCal (fun y => { y with store := some cst }) { d with jobs := [⟨⟨0,9⟩, 0x71, [], 0, false, false, false⟩] }), cst, by decide +kernel⟩⟩

theorem witness_self_test_commands :
    (∃ (s : State) (r : Req) (x : Slice), Takes 128 r s ∧ r.params.length = 20 ∧ attr s.dev DEVICE_LC_STATE 0 ≠ 3 ∧ (attr s.dev DEVICE_LC_STATE 0 ≠ 1 ∨ byteAt r.params 0 ≠ 2) ∧ bistFieldsOk r.params = true ∧ reservedZero r.params 1 1 = true ∧ reservedZero r.params 6 2 = true ∧ domainOn s.dev 193 = true ∧ (byteAt r.params 0 = 2 → skipReason s.dev (leAt r.params 2 2) false = 0) ∧ s.dev.bist.run = none ∧ s.dev.bist.slice = some x ∧ x.region ≠ 1536)
    ∧ (∃ (s : State) (r : Req) (x : ℕ) (rest : List ℕ), Takes 128 r s ∧ r.params.length = 20 ∧ attr s.dev DEVICE_LC_STATE 0 ≠ 3 ∧ (attr s.dev DEVICE_LC_STATE 0 ≠ 1 ∨ byteAt r.params 0 ≠ 2) ∧ bistFieldsOk r.params = true ∧ reservedZero r.params 1 1 = true ∧ reservedZero r.params 6 2 = true ∧ domainOn s.dev 193 = true ∧ (byteAt r.params 0 = 2 → skipReason s.dev (leAt r.params 2 2) false = 0) ∧ s.dev.bist.run = none ∧ s.dev.bist.slice = none ∧ (if byteAt r.params 0 = 1 then regions else regionsFrom (leAt r.params 2 2) (leAt r.params 4 2)) = x :: rest ∧ skipReason s.dev x false = 0)
    ∧ (∃ (s : State) (r : Req) (x : ℕ) (rest : List ℕ), Takes 128 r s ∧ r.params.length = 20 ∧ attr s.dev DEVICE_LC_STATE 0 ≠ 3 ∧ (attr s.dev DEVICE_LC_STATE 0 ≠ 1 ∨ byteAt r.params 0 ≠ 2) ∧ bistFieldsOk r.params = true ∧ reservedZero r.params 1 1 = true ∧ reservedZero r.params 6 2 = true ∧ domainOn s.dev 193 = true ∧ (byteAt r.params 0 = 2 → skipReason s.dev (leAt r.params 2 2) false = 0) ∧ s.dev.bist.run = none ∧ s.dev.bist.slice = none ∧ (if byteAt r.params 0 = 1 then regions else regionsFrom (leAt r.params 2 2) (leAt r.params 4 2)) = x :: rest ∧ skipReason s.dev x false = 0)
    ∧ (∃ (s : State) (r : Req), Takes 129 r s ∧ r.params.length = 4 ∧ attr s.dev DEVICE_LC_STATE 0 ≠ 3 ∧ 1 ≤ leAt r.params 2 2 ∧ leAt r.params 2 2 ≤ 40 ∧ isRegion (leAt r.params 0 2) = true ∧ (regionsFrom (leAt r.params 0 2) (leAt r.params 2 2)).length = leAt r.params 2 2)
    ∧ (∃ (s : State), multipleDue s.dev tkCycle (3600 * nsPerS) = true ∧ attr s.dev BIST_PERIODIC 1536 = 1 ∧ attr s.dev DEVICE_LC_STATE 0 ≠ 3 ∧ s.dev.phase = StartPhase.ready)
    ∧ (∃ (s : State), multipleDue s.dev tkCycle (3600 * nsPerS) = true ∧ attr s.dev BIST_PERIODIC 1536 = 1 ∧ attr s.dev DEVICE_LC_STATE 0 ≠ 3 ∧ s.dev.phase = StartPhase.ready)
    ∧ (∃ (s : State) (c : ℕ), multipleDue s.dev tkBistSlot (attr s.dev BIST_SLOT_PERIOD 1536 * nsPerMs) = true ∧ attr s.dev BIST_PERIODIC 1536 = 1 ∧ attr s.dev DEVICE_LC_STATE 0 ≠ 3 ∧ attr s.dev DOMAIN_STATE 193 = 0 ∧ s.dev.phase = StartPhase.ready ∧ s.dev.brownout = none ∧ s.dev.bist.slice = none ∧ s.dev.bist.run = none ∧ slowRegion s.dev = none ∧ s.dev.bist.cycling = true ∧ attr s.dev BIST_CURSOR 1536 = c ∧ c ∈ regions ∧ skipReason s.dev c false = 0)
    ∧ (∃ (s : State) (c : ℕ), multipleDue s.dev tkBistSlot (attr s.dev BIST_SLOT_PERIOD 1536 * nsPerMs) = true ∧ attr s.dev BIST_PERIODIC 1536 = 1 ∧ attr s.dev DEVICE_LC_STATE 0 ≠ 3 ∧ attr s.dev DOMAIN_STATE 193 = 0 ∧ s.dev.phase = StartPhase.ready ∧ s.dev.brownout = none ∧ s.dev.bist.slice = none ∧ s.dev.bist.run = none ∧ slowRegion s.dev = none ∧ s.dev.bist.cycling = true ∧ attr s.dev BIST_CURSOR 1536 = c ∧ c ∈ regions ∧ skipReason s.dev c false = 0)
    ∧ (∃ (s : State) (c : ℕ) (n : ℕ), multipleDue s.dev tkBistSlot (attr s.dev BIST_SLOT_PERIOD 1536 * nsPerMs) = true ∧ attr s.dev BIST_PERIODIC 1536 = 1 ∧ attr s.dev DEVICE_LC_STATE 0 ≠ 3 ∧ attr s.dev DOMAIN_STATE 193 = 0 ∧ s.dev.phase = StartPhase.ready ∧ s.dev.brownout = none ∧ s.dev.bist.slice = none ∧ s.dev.bist.run = none ∧ slowRegion s.dev = none ∧ s.dev.bist.cycling = true ∧ attr s.dev BIST_CURSOR 1536 = c ∧ c ∈ regions ∧ skipReason s.dev c false = n + 1) :=
  ⟨⟨so' (sld (sl 7 3)), q (br 0 0x600 1 0 0), sl 7 3, by decide +kernel⟩,
   ⟨so, q (br 1 0 0 0 0), 0, regions.tail, by decide +kernel⟩,
   ⟨so, q (br 2 0x300 1 9 8), 0x300, [], by decide +kernel⟩,
   ⟨so, q [0,0,40,0], by decide +kernel⟩,
   ⟨so' (fun d => { d with devTime := 3600000000000 }), by decide +kernel⟩,
   ⟨so' (fun d => modBist (fun b => { b with cycling := true }) { d with devTime := 3600000000000 }), by decide +kernel⟩,
   ⟨so' (fun d => modBist (fun b => { b with cycling := true }) { d with devTime := 3600000000000 }), 0, by decide +kernel⟩,
   ⟨so' (fun d => setAttr BIST_CURSOR 0x600 0x600 (modBist (fun b => { b with cycling := true }) { d with devTime := 3600000000000 })), 0x600, by decide +kernel⟩,
   ⟨so' (fun d => setAttr DOMAIN_STATE 128 2 (modBist (fun b => { b with cycling := true }) { d with devTime := 3600000000000 })), 0, 0, by decide +kernel⟩⟩

theorem witness_self_test_slices :
    (∃ (s : State) (x : Slice) (signature : BitVec 64) (applied : BitVec 32) (independent : BitVec 32), s.dev.bist.slice = some x ∧ s.dev.brownout = none ∧ x.aborted = false ∧ isRaw s.dev x = false ∧ x.why ≠ 4 ∧ s.dev.bist.run = none ∧ x.region ∈ regions ∧ applied = Config.patternCount x.region ∧ independent = Config.patternCount x.region ∧ signature = Config.goldenSignature x.region)
    ∧ (∃ (s : State) (x : Slice) (signature : BitVec 64) (applied : BitVec 32) (independent : BitVec 32) (v : ℕ), s.dev.bist.slice = some x ∧ s.dev.brownout = none ∧ x.aborted = false ∧ isRaw s.dev x = false ∧ x.why ≠ 4 ∧ s.dev.bist.run = none ∧ x.region ∈ regions ∧ v ≠ brPass ∧ sliceResult x.region signature applied independent = v ∧ x.again = false)
    ∧ (∃ (s : State) (x : Slice) (signature : BitVec 64) (applied : BitVec 32) (independent : BitVec 32) (v : ℕ), s.dev.bist.slice = some x ∧ s.dev.brownout = none ∧ x.aborted = false ∧ isRaw s.dev x = false ∧ x.why ≠ 4 ∧ s.dev.bist.run = none ∧ x.region ∈ regions ∧ v ≠ brPass ∧ sliceResult x.region signature applied independent = v ∧ x.again = false)
    ∧ (∃ (s : State) (x : Slice), s.dev.bist.slice = some x ∧ s.dev.brownout = none ∧ x.aborted = false ∧ isRaw s.dev x = false ∧ x.why ≠ 4 ∧ s.dev.bist.run = none ∧ x.region ∈ regions ∧ x.rebuilt = false ∧ hasCover x.region = true)
    ∧ (∃ (s : State) (x : Slice), s.dev.bist.slice = some x ∧ s.dev.brownout = none ∧ (x.why = 2 ∨ x.why = 3) ∧ s.dev.bist.run = none) :=
  ⟨⟨so' (modBist (fun b => { b with cycling := true }) ∘ sld (sl 7 3)), sl 7 3, Config.goldenSignature 7, Config.patternCount 7, Config.patternCount 7, by decide +kernel, by decide +kernel, by decide +kernel, by decide +kernel, by decide +kernel, by decide +kernel, by decide +kernel, rfl, rfl, rfl⟩,
   ⟨so' (sld (sl 7 3)), sl 7 3, Config.goldenSignature 7 + 1, Config.patternCount 7, Config.patternCount 7, brSignature, by decide +kernel, by decide +kernel, by decide +kernel, by decide +kernel, by decide +kernel, by decide +kernel, by decide +kernel, by decide +kernel, wrongSignature 7, by decide +kernel⟩,
   ⟨so' (sld (sl 0x600 3)), sl 0x600 3, Config.goldenSignature 7, Config.patternCount 0x600, Config.patternCount 0x600 + 1, brCount, by decide +kernel, by decide +kernel, by decide +kernel, by decide +kernel, by decide +kernel, by decide +kernel, by decide +kernel, by decide +kernel, wrongCount 0x600 _, by decide +kernel⟩,
   ⟨so' (sld (sl 0x511 3)), sl 0x511 3, by decide +kernel⟩,
   ⟨so' (sld (sl 0x511 3)), sl 0x511 3, by decide +kernel⟩⟩

theorem witness_scans_and_deferral :
    (∃ (s : State) (r : Req), Takes 136 r s ∧ r.params.length = 32 ∧ scanFieldsOk s.dev r.params = true ∧ (∀ k ∈ scanDomains r.params, domainOn s.dev k = true) ∧ (∀ x ∈ s.dev.scans, x.unit ≠ byteAt r.params 0 ∧ scanDie (scanStart x.params) ≠ scanDie (scanStart r.params)) ∧ sliceRegion s.dev (1024 + scanDie (scanStart r.params)) = false)
    ∧ (∃ (s : State) (r : Req), Takes 136 r s ∧ r.params.length = 32 ∧ scanFieldsOk s.dev r.params = true ∧ (∀ k ∈ scanDomains r.params, domainOn s.dev k = true) ∧ (∀ x ∈ s.dev.scans, x.unit ≠ byteAt r.params 0 ∧ scanDie (scanStart x.params) ≠ scanDie (scanStart r.params)) ∧ sliceRegion s.dev (1024 + scanDie (scanStart r.params)) = true)
    ∧ (∃ (s : State) (r : Req), Takes 137 r s ∧ r.params.length = 4 ∧ byteAt r.params 0 ≤ 3 ∧ leAt r.params 1 3 = 0)
    ∧ (∃ (s : State) (u : Fin 4) (x : CheckRun), s.dev.brownout = none ∧ (List.find? (fun r => r.unit == ↑u) s.dev.scans = some x) ∧ scanMode x.params ≤ 2)
    ∧ (∃ (s : State) (u : Fin 4) (x : CheckRun), s.dev.brownout = none ∧ (List.find? (fun r => r.unit == ↑u) s.dev.scans = some x) ∧ scanMode x.params ≤ 2)
    ∧ (∃ (s : State) (m : Fin 4) (tag : Byte) (job : Job) (body : Body) (x : List Byte) (e : Dev), s.dev.jobs.find? (fun y => y.ref == ⟨m, tag.toNat⟩ && y.deferred) = some job ∧ isReady s.dev = true ∧ s.dev.vertex = .running ∧ s.dev.brownout = none ∧ bodyOf job.opcode = some body ∧ body s.mem ⟨m, tag.toNat, job.opcode, job.params, job.order, [], 0⟩ { s.dev with jobs := s.dev.jobs.filter fun y => !(y.ref == ⟨m, tag.toNat⟩) } = .accept x e) :=
  ⟨⟨so, q (cs 3 0 0 0x20000000 16), by decide +kernel⟩,
   ⟨so' (sld (sl 0x402 3)), q (cs 3 0 0 0x600000 32), by decide +kernel⟩,
   ⟨so, q [3,0,0,0], by decide +kernel⟩,
   ⟨so' (fun d => { d with scans := [crn 0], jobs := [⟨⟨0,9⟩, 0x88, [], 0, false, false, false⟩] }), 3, crn 0, by decide +kernel⟩,
   ⟨so' (fun d => { d with scans := [crn 2], jobs := [⟨⟨0,9⟩, 0x88, [], 0, false, false, false⟩] }), 3, crn 2, by decide +kernel⟩,
   ⟨so' (fun d => { d with jobs := [dj] }), 0, 7, dj, dbody, [], dbe, by decide +kernel, by decide +kernel, by decide +kernel, by decide +kernel, rfl, by decide +kernel⟩⟩

theorem witness_background_work :
    (∃ (s : State), s.dev.phase = StartPhase.ready ∧ s.dev.brownout = none ∧ (armed s.dev tkWear 0 = false ∨ due s.dev tkWear 0 = true) ∧ attr s.dev DEVICE_WEAR_ENABLE 0 ≠ 0)
    ∧ (∃ (s : State) (die : Fin 3) (changes : List ℤ), s.dev.phase = StartPhase.ready ∧ s.dev.brownout = none ∧ (armed s.dev tkAging ↑die = false ∨ due s.dev tkAging ↑die = true) ∧ (∀ c ∈ changes, -32768 ≤ c ∧ c ≤ 32767))
    ∧ (∃ (s : State) (junctions : List (List ℤ)) (rails : List (BitVec 16)), s.dev.phase = StartPhase.ready ∧ s.dev.brownout = none ∧ (armed s.dev tkTelemetry 0 = false ∨ due s.dev tkTelemetry 0 = true) ∧ rails.length = 6 ∧ (∀ die < 3, ∀ x ∈ junctions.getD die [], -32768 ≤ x ∧ x ≤ junctionLimit) ∧ (∀ die < 3, attr s.dev DIE_TEMP_MAX die < 2 ^ 16)) :=
  ⟨⟨so' (setAttr DEVICE_WEAR_ENABLE 0 1 ∘ due0 tkWear 0 ∘ (fun d => { d with wear := { d.wear with part := 5 } })), by decide +kernel⟩,
   ⟨so, 2, [3, -32768, 32767], by decide +kernel⟩,
   ⟨so, [[650, 1250], [-32768], []], [1,2,3,4,5,65535], by decide +kernel⟩⟩

theorem witness_life_cycle_advance :
    (∃ (s : State) (r : Req), Takes 196 r s ∧ r.params.length = 12 ∧ attr s.dev DEVICE_LC_STATE 0 < byteAt r.params 0 ∧ byteAt r.params 0 ≤ 3 ∧ leAt r.params 1 3 = 0 ∧ attr s.dev DEVICE_LC_FAILS 0 < 3 ∧ List.take 8 (List.drop 4 r.params) ≠ tokenFor s.dev (byteAt r.params 0))
    ∧ (∃ (s : State) (r : Req), Takes 196 r s ∧ r.params.length = 12 ∧ attr s.dev DEVICE_LC_STATE 0 < byteAt r.params 0 ∧ byteAt r.params 0 ≤ 3 ∧ leAt r.params 1 3 = 0 ∧ attr s.dev DEVICE_LC_FAILS 0 < 3 ∧ List.take 8 (List.drop 4 r.params) = tokenFor s.dev (byteAt r.params 0) ∧ s.dev.life.advance = none ∧ s.dev.life.commit = none)
    ∧ (∃ (s : State) (j : JobRef) (target : ℕ), s.dev.life.advance = some (j, target) ∧ target ≤ 3)
    ∧ (∃ (s : State) (j : JobRef) (target : ℕ), s.dev.life.advance = some (j, target) ∧ target ≤ 3)
    ∧ (∃ (s : State), s.dev.life.erasing = true ∧ s.dev.brownout = none) :=
  ⟨wrongToken,
   ⟨so, tokenReq, by decide +kernel, tokenReq_length, by decide +kernel, by decide +kernel, by decide +kernel, by decide +kernel, tokenReq_token, by decide +kernel⟩,
   ⟨so' (lca 2), ⟨0,9⟩, 2, by decide +kernel⟩,
   ⟨so' (lca 3), ⟨0,9⟩, 3, by decide +kernel⟩,
   ⟨so' (fun d => modLife (fun x => { x with erasing := true }) (lca 3 d)), by decide +kernel⟩⟩

theorem witness_firmware_stage :
    (∃ (s : State) (r : Req), Takes 192 r s ∧ leAt r.params 1 3 = 0 ∧ attr s.dev DEVICE_LC_STATE 0 ≠ 3 ∧ s.dev.life.commit = none ∧ r.params.length = 8 ∧ (byteAt r.params 0 = 0 ∨ byteAt r.params 0 = 2))
    ∧ (∃ (s : State) (r : Req), Takes 192 r s ∧ leAt r.params 1 3 = 0 ∧ attr s.dev DEVICE_LC_STATE 0 ≠ 3 ∧ s.dev.life.commit = none ∧ r.params.length = 8 ∧ (byteAt r.params 0 = 0 ∨ byteAt r.params 0 = 2))
    ∧ (∃ (s : State) (r : Req), Takes 192 r s ∧ leAt r.params 1 3 = 0 ∧ attr s.dev DEVICE_LC_STATE 0 ≠ 3 ∧ s.dev.life.commit = none ∧ byteAt r.params 0 = 1 ∧ 9 ≤ r.params.length ∧ r.params.length ≤ 1024 ∧ leAt r.params 4 4 + (r.params.length - 8) ≤ 1048576 ∧ (256 ≤ leAt r.params 4 4 ∨ leAt r.params 4 4 + (r.params.length - 8) ≤ 192) ∧ attr s.dev DEVICE_FW_STAGE_STATE 0 = 1)
    ∧ (∃ (s : State) (r : Req), Takes 192 r s ∧ leAt r.params 1 3 = 0 ∧ attr s.dev DEVICE_LC_STATE 0 ≠ 3 ∧ s.dev.life.commit = none ∧ byteAt r.params 0 = 1 ∧ 9 ≤ r.params.length ∧ r.params.length ≤ 1024 ∧ leAt r.params 4 4 + (r.params.length - 8) ≤ 1048576 ∧ (256 ≤ leAt r.params 4 4 ∨ leAt r.params 4 4 + (r.params.length - 8) ≤ 192) ∧ attr s.dev DEVICE_FW_STAGE_STATE 0 = 1)
    ∧ (∃ (s : State) (r : Req), Takes 193 r s ∧ r.params = [0#8, 0#8, 0#8, 0#8] ∧ attr s.dev DEVICE_LC_STATE 0 ≠ 3 ∧ attr s.dev DEVICE_FW_STAGE_STATE 0 = 1 ∧ s.dev.life.advance = none)
    ∧ (∃ (s : State) (j : JobRef), s.dev.life.commit = some j ∧ s.dev.brownout = none) :=
  ⟨⟨so, q (zs 8), by decide +kernel⟩,
   ⟨so' (setAttr DEVICE_FW_ACTIVE 0 1), q (2 :: zs 7), by decide +kernel⟩,
   ⟨so' (setAttr DEVICE_FW_STAGE_STATE 0 1), q ([1,0,0,0,191,0,0,0] ++ [9]), by decide +kernel⟩,
   ⟨so' (setAttr DEVICE_FW_STAGE_STATE 0 1), q ([1,0,0,0,0xFF,0xFF,0xF,0] ++ [9]), by decide +kernel⟩,
   ⟨so' (setAttr DEVICE_FW_STAGE_STATE 0 1), q [0,0,0,0], by decide +kernel⟩,
   ⟨so' (fun d => modLife (fun x => { x with commit := some ⟨0,9⟩ }) { d with jobs := [⟨⟨0,9⟩, 0xC1, [], 0, false, false, false⟩] }), ⟨0,9⟩, by decide +kernel⟩⟩

theorem witness_reset_and_patch_start :
    (∃ (s : State), s.dev.cal.store = none)
    ∧ (∃ (s : State), s.dev.phase = StartPhase.held ∧ (s.dev.resetLow = true ∨ s.dev.railsDown ≠ []))
    ∧ (∃ (s : State), s.dev.phase = StartPhase.held ∧ (s.dev.resetLow = true ∨ s.dev.railsDown ≠ []) ∧ s.dev.life.erasePending = false)
    ∧ (∃ (s : State) (slot : ℕ), s.dev.phase = StartPhase.patch slot ∧ due s.dev tkPatchStart 0 = true)
    ∧ (∃ (s : State) (slot : ℕ), s.dev.phase = StartPhase.patch slot ∧ due s.dev tkPatchStart 0 = false)
    ∧ (∃ (s : State) (slot : ℕ), s.dev.phase = StartPhase.patch slot ∧ s.dev.vertex = VertexMode.running ∧ s.dev.brownout = none) :=
  ⟨⟨so, by decide +kernel⟩,
   ⟨st (fun d => heldDev (latchResetN d)), by decide +kernel⟩,
   ⟨st (fun d => heldDev (latchResetN d)), by decide +kernel⟩,
   ⟨so' (fun d => due0 tkPatchStart 0 { d with phase := .patch 1 }), 1, by decide +kernel⟩,
   ⟨so' (fun d => { d with phase := .patch 1 }), 1, by decide +kernel⟩,
   ⟨so' (fun d => { d with phase := .patch 1 }), 1, by decide +kernel⟩⟩

/-! ### Ill-formed commands, one for each check of WellFormed.lean -/

theorem test_long_parameters_refused : wellFormed (.nop ⟨0, 0#8, 0#8, List.replicate 1025 0#8⟩) = false ∧ wellFormed (.nop ⟨0, 0#8, 0#8, List.replicate 1024 0#8⟩) = true := by
  decide +kernel

theorem test_block_data_refused :
    wellFormed (.toneMaskSet ⟨0, 0#8, 0#8⟩ 0 0#32 []) = false ∧ wellFormed (.toneMaskSet ⟨0, 0#8, 0#8⟩ 0 63#32 [1#8, 1#8]) = false
      ∧ wellFormed (.stageTableWrite ⟨0, 0#8, 0#8⟩ 0 0 0#32 (List.replicate 513 0#8)) = false := by decide +kernel

theorem test_tones_refused :
    wellFormed (.superframeBoundary 0 0 [⟨0, 0, 0, 0, 0, [(512, 0)]⟩]) = false ∧ wellFormed (.channelProbeDone 0 [(512, 0)]) = false
      ∧ wellFormed (.markerDetection 0 ⟨1001, 0, 0, 0, 0, [], [], [], []⟩) = false ∧ wellFormed (.markerDetection 0 ⟨1000, 0, 0, 0, 0, [(512, 0)], [], [], []⟩) = false
      ∧ wellFormed (.markerDetection 0 ⟨1000, 0, 0, 0, 0, [], [(512, 0)], [], []⟩) = false
      ∧ wellFormed (.symbolBoundary ⟨0, [⟨0, [], [⟨.tail 2048, 0, 0⟩]⟩]⟩) = false ∧ wellFormed (.symbolBoundary ⟨0, [⟨0, [(512, 0, 0)], []⟩]⟩) = false
      ∧ wellFormed (.tsfComputed 0 ⟨List.replicate 255 0, 0⟩) = false := by decide +kernel

theorem test_container_words_refused :
    wellFormed (.containerReceived 0 (List.replicate 135 0) [] [] []) = false ∧ wellFormed (.containerReceived 0 [] (List.replicate 136 1024) [] []) = false
      ∧ wellFormed (.containerReceived 0 [] [] [] [16384]) = false ∧ wellFormed (.containerSend 0 [16384]) = false := by decide +kernel

theorem test_lanes_refused :
    wellFormed (.rowReceived 0 [[], [], []] []) = false ∧ wellFormed (.alignmentSlot 0 ⟨[[], [], [], [], List.replicate 131 0], []⟩) = false
      ∧ wellFormed (.laneTrainPhaseTimeout 0 [5] []) = false ∧ wellFormed (.laneTrainPhaseTimeout 0 [] [5]) = false ∧ wellFormed (.laneTangentBurst 0 [5]) = false
      ∧ wellFormed (.slowWindow [(32, 0)]) = false ∧ wellFormed (.slowWindow [(0, 5)]) = false := by decide +kernel

theorem test_items_refused :
    wellFormed (.calCorrectionStep 0x0080) = false ∧ wellFormed (.calCorrectionStep 0x0508) = false ∧ wellFormed (.calCorrectionStep 0x0607) = false
      ∧ wellFormed (.calElementSwap 0x0720 0 0 true) = false ∧ wellFormed (.calOverdueTimer 0x0810) = false
      ∧ wellFormed (.calRunOwnerEnd 0x0903 0 0 0 false) = false ∧ wellFormed (.calMeasurementEnd 0x0B00 0 0 0 true true) = false := by decide +kernel

theorem test_measured_lists_refused :
    wellFormed (.marginSample [(3, 0, 0)]) = false ∧ wellFormed (.telemetrySample [[], []] [0#16, 0#16, 0#16, 0#16, 0#16, 0#16] 0#16) = false
      ∧ wellFormed (.telemetrySample [[], [], []] [0#16] 0#16) = false ∧ wellFormed (.quietRefresh 0 1001 0 0) = false ∧ wellFormed (.quietRefresh 0 0 1001 0) = false
      ∧ wellFormed (.repairTestEnd 6 0 true) = false ∧ wellFormed (.repairTestEnd 1 1 true) = false ∧ wellFormed (.cableScanAnalysisDone 0 [] [(0, 1)]) = false := by
  decide +kernel

theorem test_payloads_refused :
    wellFormed (.svcDataFragment 0 (List.replicate 256 0#8)) = false ∧ wellFormed (.commandRowReceived 0 (List.replicate 501 0#8)) = false
      ∧ wellFormed (.svcPreambleDetected 0 ⟨1001, 0⟩ 0) = false ∧ wellFormed (.svcPreambleDetected 0 ⟨1000, 0⟩ 0) = true := by decide +kernel

/-! ### Values that the manual works out -/

/-- 10, "a reply lost on the bus": the SET of P17's launch level to -96.0 dBm/Hz. -/
def exampleParams : List Byte := [0x05, 0x00, 0x11, 0x00, 0x0D, 0x01, 0x00, 0x00, 0x40, 0xFC].map byteOf

/-- 10, the same example: its request, with tag 0x2C and SEQ 0x0123. -/
def exampleRequest : List Byte := buildRequest 0x11 0 0 0x2C 0x0123 exampleParams

theorem test_example_request : exampleRequest.length = 22 ∧ exampleRequest.take 6 = [0x11, 0, 0, 0x2C, 0x0A, 0].map byteOf := by decide +kernel

/-- The block of the example: M0 owns it, and 0x0123 is the number expected. -/
def exampleState : State := so' (setAttr DEVICE_CMD_SEQ_NEXT 0 0x0123)

theorem test_example_set :
    attr (takeRaw 0 exampleRequest exampleState).dev DEVICE_CMD_SEQ_NEXT 0 = 0x0124 ∧ attrInt (takeRaw 0 exampleRequest exampleState).dev PORT_TX_PSD 17 = -960 := by
  decide +kernel

/-- 10, the same example: the 22 bytes sent again execute nothing, and CMD_DUPLICATES counts. -/
theorem test_example_resent :
    attr (takeRaw 0 exampleRequest (takeRaw 0 exampleRequest exampleState)).dev DEVICE_CMD_DUPLICATES 0 = 1
      ∧ attr (takeRaw 0 exampleRequest (takeRaw 0 exampleRequest exampleState)).dev DEVICE_CMD_EXECUTED 0 = 1 := by decide +kernel

/-- 10, the same example: rebuilt with -950 under the old number, SEQUENCE, and TX_PSD stays. -/
theorem test_example_rebuilt :
    attr (takeRaw 0 (buildRequest 0x11 0 0 0x2C 0x0123 (exampleParams.take 8 ++ [0x4A#8, 0xFC#8])) (takeRaw 0 exampleRequest exampleState)).dev DEVICE_CMD_SEQUENCE 0 = 1
      ∧ attrInt (takeRaw 0 (buildRequest 0x11 0 0 0x2C 0x0123 (exampleParams.take 8 ++ [0x4A#8, 0xFC#8])) (takeRaw 0 exampleRequest exampleState)).dev PORT_TX_PSD 17
        = -960 := by decide +kernel

/-- 01: P85 lies in F21 and PM5, on D1, and is served by engine E1 of F21 at reset. -/
theorem test_port_85 : facetOf 85 = 21 ∧ prismOf 85 = 5 ∧ dieOf 85 = 1 ∧ engineOf State.reset.dev 85 = 1 := by decide +kernel

/-- 04, "one container lost across the wrap": the differences of sequence numbers there. -/
theorem test_sequence_wrap : Machine.sdiff 0x0000 0x3FFE = 2 ∧ Machine.sdiff 0x3FFF 0x0001 = -2 := by decide

/-- 02, R59 and its examples: net rates. -/
theorem test_net_rates : netRate 3362 72 = 39399 ∧ netRate 3362 68 = 41716 ∧ netRate 3223 68 = 39991 ∧ netRate 136 68 = 1687 ∧ netRate 136 72 = 1593 ∧ netRate 136 80 = 1434 := by
  decide

/-- 15, "two deferrals": with 180 us to the end of its restore a slice is stopped; with 105 us it runs on. -/
theorem test_two_deferrals :
    ((deferSlice (so' (fun d => { d with elapsed := 20000, bist := { d.bist with slice := some ⟨0x402, 3, 200000, false, false, false⟩ } })).dev).bist.slice.map (·.aborted)) = some true
      ∧ ((deferSlice (so' (fun d => { d with elapsed := 95000, bist := { d.bist with slice := some ⟨0x500, 3, 200000, false, false, false⟩ } })).dev).bist.slice.map (·.aborted))
        = some false := by decide +kernel

/-- 11, the example of two safety computers: M0 at priority 6 takes ownership from M3 at priority 2. -/
theorem test_preempt :
    (match exec (.claim ⟨0, 7#8, 0#8, [6#8, 0#8, 200#8, 0#8, 0#8, 0#8]⟩) (st (setAttr DEVICE_OWNER_PRIORITY 0 2 ∘ setAttr DEVICE_OWNER 0 3)) with
      | .next t => attr t.dev DEVICE_OWNER 0 | _ => 99) = 0 := by decide +kernel

/-- CRC-32C (R178), the frame check sequence and SHA-256 (R504) by their published check values. -/
theorem test_published_checks :
    crc32c ([0x31, 0x32, 0x33, 0x34, 0x35, 0x36, 0x37, 0x38, 0x39].map byteOf) = 0xE3069283 ∧ fcs32 ([0x31, 0x32, 0x33, 0x34, 0x35, 0x36, 0x37, 0x38, 0x39].map byteOf) = 0xCBF43926
      ∧ (sha256 ([0x61, 0x62, 0x63].map byteOf)).take 4 = [0xBA, 0x78, 0x16, 0xBF].map byteOf := by decide +kernel

/-- R174: one input bit after the zero state answers with the generators 133 and 171 themselves. -/
theorem test_convolve : convolve 0 [true, false, false, false, false, false, false]
    = [true, true, false, true, true, true, true, true, false, false, true, false, true, true] := by decide +kernel

/-- R173, R174, R178: a burst has 3 preamble symbols, 7 of header, and a payload of two bytes 9 in BPSK or 5 in QPSK; each has 48 tones. -/
theorem test_burst_line :
    (burstLine ⟨headBits {}, []⟩).length = 10 ∧ (burstLine ⟨headBits { ty := 1, len := 1 }, [0x0F#8, 1#8]⟩).length = 19
      ∧ (burstLine ⟨headBits { ty := 1, mod := true, len := 1 }, [0x0F#8, 1#8]⟩).map (·.length) = List.replicate 15 48 := by decide +kernel

/-- The table's rows give no bits, so no word spells a command (assumption 12). -/
theorem test_no_word : decodeTableWord 16 0 = none ∧ so.withFetchWord 16 0 = so := by decide +kernel

/-- One step takes the command at the front and leaves the rest waiting. -/
theorem test_front : (match step { so with pending := [.wakeInEdge true, .bistSlot] } with | .next t => t.pending | _ => []) = [.bistSlot] := by decide +kernel

end Sys2Proof.Tests
end

namespace Sys2Proof.Machine

/-! ### The state at READY (R7, assumptions 1 and 3) -/

/-- R7: the table of attributes lists only what differs from the Reset columns, and after reset it lists nothing. -/
theorem attr_reset (a : Attr) (i : Nat) : attr State.reset.dev a i = a.reset i := rfl

theorem attrInt_reset (a : Attr) (i : Nat) : attrInt State.reset.dev a i = signedOf a.width (a.reset i) := rfl

theorem domainState_reset (k : Nat) : domainState State.reset.dev k = DOMAIN_STATE.reset k := attr_reset DOMAIN_STATE k

/-- R326, R327: after reset only M0 and M1 differ from the default of a master: in the static address of their port, and in ENINT. -/
theorem master_reset (m : Nat) :
    master State.reset.dev m
      = if m = 0 then { staticAddr := 0x5C, enint := true } else if m = 1 then { staticAddr := 0x5E, enint := true } else {} := by
  match m with
  | 0 => rfl
  | 1 => rfl
  | _ + 2 => rfl

theorem master_reset_events (m : Nat) : (master State.reset.dev m).events = [] := by
  rw [master_reset]; split_ifs <;> rfl

theorem master_reset_stored (m : Nat) : (master State.reset.dev m).stored = none := by
  rw [master_reset]; split_ifs <;> rfl

/-- The Reset column of PORT.TX_PSD, in units of 0.1 dBm/Hz (R60), read as two's complement (R7). -/
theorem signedOf_tx_psd_reset (p : Nat) : signedOf PORT_TX_PSD.width (PORT_TX_PSD.reset p) = -940 := by
  simp [signedOf, Attr.width, PORT_TX_PSD]

/-- Settles O3. What is not an attribute is read off the state. Each attribute reads its Reset column, so its value is that of the catalogue.
The state is the model's starting state (assumption 1), at READY with empty event queues. -/
theorem resetState : Obligations.reset_state := by
  unfold Obligations.reset_state
  simp only [attr_reset, attrInt_reset, domainState_reset]
  refine ⟨rfl, rfl, rfl, rfl, rfl, rfl, rfl, ?masters, ?ports, ?domains, ?groups, ?flows, rfl, rfl, rfl⟩
  case masters => exact fun m _ => ⟨rfl, master_reset_events m, master_reset_stored m, rfl, rfl⟩
  case ports => exact fun p _ => ⟨rfl, signedOf_tx_psd_reset p, rfl, rfl⟩
  case domains => exact fun _ _ => rfl
  case groups => exact fun _ _ => ⟨rfl, rfl⟩
  case flows => exact fun _ _ => rfl

end Sys2Proof.Machine

namespace Sys2Proof.Machine

/-! ### Limits and attributes that events leave alone -/

/-- Every running limit is as before but those of the queues' signals. -/
def KeepsLimits (d e : Dev) : Prop := ∀ k i, k ≠ tkSignal → i < 2 ^ 24 → armed e k i = armed d k i

theorem KeepsLimits.refl (d : Dev) : KeepsLimits d d := fun _ _ _ _ => rfl

theorem KeepsLimits.trans {d e f : Dev} (h : KeepsLimits d e) (g : KeepsLimits e f) : KeepsLimits d f :=
  fun k i hk hi => (g k i hk hi).trans (h k i hk hi)

theorem armed_congr {d e : Dev} (h : e.timers = d.timers) (k i : Nat) : armed e k i = armed d k i := by simp [armed, h]

theorem keepsLimits_of_timers {d e : Dev} (h : e.timers = d.timers) : KeepsLimits d e := fun k i _ _ => armed_congr h k i

/-- A limit of another kind is left alone. -/
theorem armed_arm_ne {k l i j : Nat} (ns : Nat) (d : Dev) (h : k ≠ l) (hi : i < 2 ^ 24) (hj : j < 2 ^ 24) : armed (arm l j ns d) k i = armed d k i := by
  unfold armed arm
  rw [bankGet_put_ne _ _ _ fun e => h (timerKey_inj hi hj e).1]

theorem signal_timers (m : Nat) (d : Dev) : (signal m d).timers = d.timers := by
  obtain ⟨_, h⟩ := signal_eq m d
  rw [h]

theorem keepsLimits_enqueue {m : Nat} (hm : m < 2 ^ 24) (r : EventRec) (d : Dev) : KeepsLimits d (enqueue m r d) := by
  unfold enqueue
  dsimp only
  split
  · split
    · intro k i hk hi
      rw [armed_arm_ne _ _ hk hi hm]
      exact armed_congr (signal_timers m _) k i
    · exact keepsLimits_of_timers rfl
  · split
    · split
      · exact keepsLimits_of_timers rfl
      · exact keepsLimits_of_timers (signal_timers m _)
    · exact KeepsLimits.refl d

theorem keepsLimits_forAll {l : List Nat} {f : Nat → Dev → Dev} (h : ∀ i ∈ l, ∀ e, KeepsLimits e (f i e)) (d : Dev) : KeepsLimits d (forAll l f d) := by
  induction l generalizing d with
  | nil => exact KeepsLimits.refl d
  | cons i r ih => exact (h i (by simp) d).trans (ih (fun j hj => h j (by simp [hj])) (f i d))

theorem keepsLimits_raise (cls inst type detail : Nat) (d : Dev) : KeepsLimits d (raise cls inst type detail d) := by
  unfold raise raiseTo
  split
  · exact KeepsLimits.refl d
  · refine (keepsLimits_of_timers rfl).trans (keepsLimits_forAll (fun m hm => keepsLimits_enqueue ?_ _) _)
    have : m < 4 := List.mem_range.1 (List.mem_filter.1 hm).1
    omega

/-- `attr_raise` with the codes as side conditions that `decide` closes for an attribute given by name. -/
theorem attr_raise_ne (cls inst type detail : Nat) (d : Dev) (b : Attr) (i : Nat) (hb : b.code < 2 ^ 24) (h1 : b.code ≠ DEVICE_EVENT_SEQ_NEXT.code)
    (h2 : b.code ≠ EVENTQ_QUEUED.code) (h3 : b.code ≠ EVENTQ_LOST.code) : attr (raise cls inst type detail d) b i = attr d b i :=
  attr_raise cls inst type detail d b i ⟨hb, h1, h2, h3⟩

@[simp] theorem attr_modFaults (f : Faults → Faults) (d : Dev) (b : Attr) (i : Nat) : attr (modFaults f d) b i = attr d b i := rfl
@[simp] theorem attr_modTrain (p : Nat) (f : Training → Training) (d : Dev) (b : Attr) (i : Nat) : attr (modTrain p f d) b i = attr d b i := rfl
@[simp] theorem attr_arm (k j n : Nat) (d : Dev) (b : Attr) (i : Nat) : attr (arm k j n d) b i = attr d b i := rfl
@[simp] theorem attr_bump (a : Attr) (i n : Nat) (d : Dev) : attr (bump a i n d) a i = (attr d a i + n) % 2 ^ a.width := attr_setAttr a i _ d

theorem attr_bump_ne {a b : Attr} (i n j : Nat) (d : Dev) (h : b.code ≠ a.code) (ha : a.code < 2 ^ 24) (hb : b.code < 2 ^ 24) :
    attr (bump a i n d) b j = attr d b j := attr_setAttr_ne i _ j d h ha hb

/-! ### States of engines -/

@[simp] theorem engineState_setEngine (f e st : Nat) (d : Dev) : engineState (setEngine f e st d) f e = st := by
  simp [engineState, setEngine]

theorem engineState_congr {d e : Dev} (h : e.faults.engines = d.faults.engines) (f k : Nat) : engineState e f k = engineState d f k := by
  simp [engineState, h]

theorem attr_setEngine_ne {b : Attr} (f e st j : Nat) (d : Dev) (h : b.code ≠ FACET_ENGINE_FAILED.code) (hb : b.code < 2 ^ 24) :
    attr (setEngine f e st d) b j = attr d b j := attr_setAttr_ne f _ j _ h (by decide) hb

/-- R372, R373: what a fault does to an engine in service itself: it is counted and out of service, and its verdict is awaited. -/
def takenOut (f e : Nat) (d : Dev) : Dev :=
  arm tkVerdict (5 * f + e) (10 * nsPerMs) (setEngine f e 1 (noteFault (elementKey clsFacet f e) (bump FACET_ENGINE_FAULTS f 1 d)))

/-- The states of the engines, what shows and counts their faults, and the limits of their verdicts are as before: all that the moves of
a spare leave alone. -/
structure KeepsEngines (d e : Dev) : Prop where
  engines : e.faults.engines = d.faults.engines
  faults : ∀ i, attr e FACET_ENGINE_FAULTS i = attr d FACET_ENGINE_FAULTS i
  failed : ∀ i, attr e FACET_ENGINE_FAILED i = attr d FACET_ENGINE_FAILED i
  verdicts : ∀ i, i < 2 ^ 24 → armed e tkVerdict i = armed d tkVerdict i

theorem KeepsEngines.refl (d : Dev) : KeepsEngines d d := ⟨rfl, fun _ => rfl, fun _ => rfl, fun _ _ => rfl⟩

theorem KeepsEngines.trans {d e f : Dev} (h : KeepsEngines d e) (g : KeepsEngines e f) : KeepsEngines d f :=
  ⟨g.engines.trans h.engines, fun i => (g.faults i).trans (h.faults i), fun i => (g.failed i).trans (h.failed i),
    fun i hi => (g.verdicts i hi).trans (h.verdicts i hi)⟩

theorem keepsEngines_raise (cls inst type detail : Nat) (d : Dev) : KeepsEngines d (raise cls inst type detail d) where
  engines := by rw [raise_faults]
  faults _ := attr_raise_ne _ _ _ _ _ _ _ (by decide) (by decide) (by decide) (by decide)
  failed _ := attr_raise_ne _ _ _ _ _ _ _ (by decide) (by decide) (by decide) (by decide)
  verdicts _ hi := keepsLimits_raise _ _ _ _ _ _ _ (by decide) hi

theorem keepsEngines_setAttr {a : Attr} (i v : Nat) (d : Dev) (ha : a.code < 2 ^ 24) (h1 : FACET_ENGINE_FAULTS.code ≠ a.code)
    (h2 : FACET_ENGINE_FAILED.code ≠ a.code) : KeepsEngines d (setAttr a i v d) where
  engines := rfl
  faults j := attr_setAttr_ne i v j d h1 ha (by decide)
  failed j := attr_setAttr_ne i v j d h2 ha (by decide)
  verdicts _ _ := rfl

theorem keepsEngines_modFaults (f : Faults → Faults) (d : Dev) (h : (f d.faults).engines = d.faults.engines) : KeepsEngines d (modFaults f d) :=
  ⟨h, fun _ => rfl, fun _ => rfl, fun _ _ => rfl⟩

theorem stopSlice_eq (region : Nat) (d : Dev) : ∃ b, stopSlice region d = { d with bist := b } := by
  unfold stopSlice
  split
  · split
    · exact ⟨_, rfl⟩
    · exact ⟨d.bist, rfl⟩
  · exact ⟨d.bist, rfl⟩

theorem keepsEngines_stopSlice (region : Nat) (d : Dev) : KeepsEngines d (stopSlice region d) := by
  obtain ⟨b, h⟩ := stopSlice_eq region d
  rw [h]
  exact ⟨rfl, fun _ => rfl, fun _ => rfl, fun _ _ => rfl⟩

theorem keepsEngines_stopCovered (f : Nat) (d : Dev) : KeepsEngines d (stopCovered f d) := by
  unfold stopCovered
  split
  · exact keepsEngines_stopSlice _ d
  · exact KeepsEngines.refl d

theorem keepsEngines_returnPort (f : Nat) (d : Dev) : KeepsEngines d (returnPort f d) := by
  unfold returnPort
  dsimp only
  have back : KeepsEngines d (if attr d FACET_SPARE_PORT f < 128 then mapEngine (attr d FACET_SPARE_PORT f) (attr d FACET_SPARE_PORT f % 4) d else d) := by
    split
    · exact keepsEngines_setAttr _ _ d (by decide) (by decide) (by decide)
    · exact KeepsEngines.refl d
  exact ((back.trans (keepsEngines_modFaults _ _ rfl)).trans (keepsEngines_setAttr _ _ _ (by decide) (by decide) (by decide))).trans
    (keepsEngines_setAttr _ _ _ (by decide) (by decide) (by decide))

theorem keepsEngines_requestSpare (p rank : Nat) (d : Dev) : KeepsEngines d (requestSpare p rank d) := by
  unfold requestSpare
  dsimp only
  split
  · exact (((keepsEngines_stopCovered _ d).trans (keepsEngines_stopSlice _ _)).trans (keepsEngines_returnPort _ _)).trans
      (keepsEngines_modFaults _ _ rfl)
  · exact KeepsEngines.refl d

theorem keepsEngines_spareFreed (f : Nat) (d : Dev) : KeepsEngines d (spareFreed f d) := by
  unfold spareFreed
  split
  · exact keepsEngines_requestSpare _ 1 d
  · exact KeepsEngines.refl d

/-- R572: a held port that is released changes its training, and its dwell begins where it is in LISTEN. -/
theorem releaseHeld_eq (p : Nat) (d : Dev) :
    releaseHeld p d = d ∨ ∃ g, releaseHeld p d = modTrain p g d ∨ releaseHeld p d = arm tkDwell p (50 * nsPerMs) (modTrain p g d) := by
  unfold releaseHeld
  split
  · refine .inr ⟨fun x => { x with held := false }, ?_⟩
    dsimp only
    split
    · exact .inr rfl
    · exact .inl rfl
  · exact .inl rfl

@[simp] theorem attr_releaseHeld (p : Nat) (d : Dev) (b : Attr) (i : Nat) : attr (releaseHeld p d) b i = attr d b i := by
  obtain h | ⟨g, h | h⟩ := releaseHeld_eq p d <;> rw [h]
  · exact attr_modTrain p g d b i
  · rw [attr_arm, attr_modTrain]

@[simp] theorem releaseHeld_faults (p : Nat) (d : Dev) : (releaseHeld p d).faults = d.faults := by
  obtain h | ⟨g, h | h⟩ := releaseHeld_eq p d <;> rw [h]
  · exact modTrain_faults p g d
  · rw [arm_faults, modTrain_faults]

theorem keepsEngines_releaseHeld {p : Nat} (hp : p < 2 ^ 24) (d : Dev) : KeepsEngines d (releaseHeld p d) where
  engines := by rw [releaseHeld_faults]
  faults i := attr_releaseHeld p d _ i
  failed i := attr_releaseHeld p d _ i
  verdicts i hi := by
    obtain h | ⟨g, h | h⟩ := releaseHeld_eq p d <;> rw [h]
    · exact armed_congr (modTrain_timers p g d) _ i
    · rw [armed_arm_ne _ _ (by decide) hi hp]
      exact armed_congr (modTrain_timers p g d) _ i

/-! ### An engine that leaves service -/

theorem engineState_arm (k i n : Nat) (d : Dev) (f e : Nat) : engineState (arm k i n d) f e = engineState d f e :=
  engineState_congr (by rw [arm_faults]) f e

theorem engineState_takenOut (f e : Nat) (d : Dev) : engineState (takenOut f e d) f e = 1 := by
  rw [takenOut, engineState_arm, engineState_setEngine]

theorem attr_takenOut_faults (f e : Nat) (d : Dev) :
    attr (takenOut f e d) FACET_ENGINE_FAULTS f = (attr d FACET_ENGINE_FAULTS f + 1) % 2 ^ FACET_ENGINE_FAULTS.width := by
  rw [takenOut, attr_arm, attr_setEngine_ne _ _ _ _ _ (by decide) (by decide), noteFault, attr_modFaults, attr_bump]

theorem attr_takenOut_ne {b : Attr} (f e j : Nat) (d : Dev) (h1 : b.code ≠ FACET_ENGINE_FAILED.code) (h2 : b.code ≠ FACET_ENGINE_FAULTS.code)
    (hb : b.code < 2 ^ 24) : attr (takenOut f e d) b j = attr d b j := by
  rw [takenOut, attr_arm, attr_setEngine_ne _ _ _ _ _ h1 hb, noteFault, attr_modFaults, attr_bump_ne _ _ _ _ h2 (by decide) hb]

theorem engineState_takenOut_ne {f e k : Nat} (d : Dev) (h : k ≠ e) : engineState (takenOut f e d) f k = engineState d f k := by
  rw [takenOut, engineState_arm]
  exact bankGet_put_ne 0 d.faults.engines 1 (by omega)

theorem takenOut_takeovers (f e : Nat) (d : Dev) : (takenOut f e d).faults.takeovers = d.faults.takeovers := by
  rw [takenOut, arm_faults]
  rfl

theorem armed_takenOut (f e : Nat) (d : Dev) : armed (takenOut f e d) tkVerdict (5 * f + e) = true := armed_arm _ _ _ _

/-- Whatever is then done with the spare, an engine that left service is under test, counted, and awaits its verdict. -/
theorem KeepsEngines.of_takenOut {f e : Nat} {d t : Dev} (h : KeepsEngines (takenOut f e d) t) (hv : 5 * f + e < 2 ^ 24) :
    engineState t f e = 1 ∧ attr t FACET_ENGINE_FAULTS f = (attr d FACET_ENGINE_FAULTS f + 1) % 2 ^ FACET_ENGINE_FAULTS.width
      ∧ armed t tkVerdict (5 * f + e) = true :=
  ⟨(engineState_congr h.engines f e).trans (engineState_takenOut f e d), (h.faults f).trans (attr_takenOut_faults f e d),
    (h.verdicts _ hv).trans (armed_takenOut f e d)⟩

/-- R372: an engine in service whose fault is found, before DECOMMISSIONED: it is taken out, and its port asks for the spare. -/
theorem engineFault_eq {f e : Nat} {d : Dev} (he : engineState d f e = 0) (hl : attr d DEVICE_LC_STATE 0 ≠ lcDecommissioned)
    (hp : attr d FACET_SPARE_PORT f ≠ 4 * f + e) :
    engineFault f e d =
      if e = 4 then spareFault secondEngine f (takenOut f e d)
      else if spareTaken (requestSpare (4 * f + e) 1 (takenOut f e d)) (4 * f + e) then requestSpare (4 * f + e) 1 (takenOut f e d)
      else secondEngine (4 * f + e) e (requestSpare (4 * f + e) 1 (takenOut f e d)) := by
  unfold engineFault engineFaultWith
  dsimp only
  rw [if_neg (not_not.2 he), if_neg hl, if_neg hp]
  unfold takenOut
  rfl

/-! ### Decided moves of the spare (R10, R11) -/

/-- An entry of a list put in the place of those with its key is the one found under that key. -/
theorem find?_filter_ne_append {α : Type} (g : α → Nat) (k : Nat) (l : List α) (x : α) (hx : g x = k) :
    ((l.filter fun t => g t != k) ++ [x]).find? (fun t => g t == k) = some x := by
  have none_left : (l.filter fun t => g t != k).find? (fun t => g t == k) = none := by
    simp [List.find?_eq_none]
  rw [List.find?_append, none_left]
  simp [hx]

theorem pendingTakeover_filtered {f : Nat} {d e : Dev} (h : e.faults.takeovers = d.faults.takeovers.filter fun t => t.1 != f) :
    pendingTakeover e f = none := by
  unfold pendingTakeover
  rw [h]
  simp [List.find?_eq_none]

theorem mapEngine_faults (p e : Nat) (d : Dev) : (mapEngine p e d).faults = d.faults := rfl

theorem returnPort_takeovers (f : Nat) (d : Dev) : (returnPort f d).faults.takeovers = d.faults.takeovers.filter fun t => t.1 != f := by
  unfold returnPort
  dsimp only
  split
  · simp only [setAttr_faults, modFaults_faults, mapEngine_faults]
  · simp only [setAttr_faults, modFaults_faults]

/-- R11: a port that outranks the use of the spare is the one it is decided for. -/
theorem pendingTakeover_requestSpare {p rank : Nat} {d : Dev} (hr : rank < spareRank d (facetOf p)) :
    pendingTakeover (requestSpare p rank d) (facetOf p) = some (rank, p) := by
  unfold requestSpare pendingTakeover
  simp only [hr, if_true, modFaults_faults, returnPort_takeovers]
  rw [find?_filter_ne_append Prod.fst (facetOf p) _ (facetOf p, rank, p) rfl]
  rfl

theorem spareTaken_of_pending {p rank : Nat} {d : Dev} (h : pendingTakeover d (facetOf p) = some (rank, p)) : spareTaken d p = true := by
  simp [spareTaken, h]

/-- R11: an idle spare has the lowest rank of all. -/
theorem spareRank_idle {f : Nat} {d : Dev} (he : engineState d f 4 = 0) (ht : pendingTakeover d f = none) (hs : attr d FACET_SPARE_STATE f = 0) :
    spareRank d f = 9 := by
  simp [spareRank, he, ht, hs]

/-! ### What the rows of a facet's engines do -/

theorem spareFault_idle {f : Nat} {d : Dev} (lost : Nat → Nat → Dev → Dev) (hp : attr d FACET_SPARE_PORT f = 0xFF) :
    spareFault lost f d = setAttr FACET_SPARE_STATE f 5
      (modFaults (fun x => { x with takeovers := x.takeovers.filter fun t => t.1 != f }) (stopCovered f d)) := by
  simp [spareFault, hp]

theorem keepsEngines_spareFault_idle {f : Nat} {d : Dev} (lost : Nat → Nat → Dev → Dev) (hp : attr d FACET_SPARE_PORT f = 0xFF) :
    KeepsEngines d (spareFault lost f d) := by
  rw [spareFault_idle lost hp]
  exact ((keepsEngines_stopCovered f d).trans (keepsEngines_modFaults _ _ rfl)).trans (keepsEngines_setAttr _ _ _ (by decide) (by decide) (by decide))

/-- R372, R11: the engine of an idle spare faults: the spare is out of service. -/
theorem engineFault_spare {f : Nat} {d : Dev} (he : engineState d f 4 = 0) (hp : attr d FACET_SPARE_PORT f = 0xFF)
    (hl : attr d DEVICE_LC_STATE 0 ≠ lcDecommissioned) :
    KeepsEngines (takenOut f 4 d) (engineFault f 4 d) ∧ attr (engineFault f 4 d) FACET_SPARE_STATE f = 5 := by
  have hq : attr (takenOut f 4 d) FACET_SPARE_PORT f = 0xFF := (attr_takenOut_ne f 4 f d (by decide) (by decide) (by decide)).trans hp
  rw [engineFault_eq he hl (by omega), if_pos rfl]
  refine ⟨keepsEngines_spareFault_idle _ hq, ?_⟩
  rw [spareFault_idle _ hq, attr_setAttr]
  rfl

/-- R372, R10: an engine faults while the spare is idle: the spare is decided for its port. -/
theorem engineFault_own {f e : Nat} {d : Dev} (hf : f < 32) (h4 : e < 4) (he : engineState d f e = 0) (hp : attr d FACET_SPARE_PORT f = 0xFF)
    (ht : pendingTakeover d f = none) (hs : attr d FACET_SPARE_STATE f = 0) (hw : engineState d f 4 = 0)
    (hl : attr d DEVICE_LC_STATE 0 ≠ lcDecommissioned) :
    KeepsEngines (takenOut f e d) (engineFault f e d) ∧ pendingTakeover (engineFault f e d) f = some (1, 4 * f + e) := by
  have hfacet : facetOf (4 * f + e) = f := by unfold facetOf; omega
  have idle : spareRank (takenOut f e d) (facetOf (4 * f + e)) = 9 := by
    rw [hfacet]
    refine spareRank_idle ?_ ?_ ?_
    · rw [engineState_takenOut_ne d (by omega), hw]
    · rw [← ht, pendingTakeover, pendingTakeover, takenOut_takeovers]
    · rw [attr_takenOut_ne f e f d (by decide) (by decide) (by decide), hs]
  have decided := pendingTakeover_requestSpare (rank := 1) (p := 4 * f + e) (by rw [idle]; decide)
  rw [engineFault_eq he hl (by omega), if_neg (by omega), if_pos (spareTaken_of_pending decided)]
  exact ⟨keepsEngines_requestSpare _ _ _, by rwa [hfacet] at decided⟩

/-- R373, R385: the report of a permanent fault leaves every engine's state and verdict alone. -/
theorem keepsEngines_queueLog (cls inst element fclass kind status cause count : Nat) (d : Dev) :
    KeepsEngines d (queueLog cls inst element fclass kind status cause count d) := ⟨rfl, fun _ => rfl, fun _ => rfl, fun _ _ => rfl⟩

theorem keepsEngines_permanentFault (cls inst element fclass : Nat) (d : Dev) : KeepsEngines d (permanentFault cls inst element fclass d) :=
  ((keepsEngines_setAttr _ _ d (by decide) (by decide) (by decide)).trans (keepsEngines_queueLog _ _ _ _ _ _ _ _ _)).trans
    (keepsEngines_raise _ _ _ _ _)

theorem countTransients_eq (cls inst fclass n : Nat) (d : Dev) :
    ∃ sums, countTransients cls inst fclass n d = modFaults (fun x => { x with sums := sums }) d := by
  unfold countTransients modFaults
  dsimp only
  split
  · exact ⟨_, rfl⟩
  · exact ⟨_, rfl⟩

theorem keepsEngines_faultCleared (cls inst element fclass : Nat) (d : Dev) : KeepsEngines d (faultCleared cls inst element fclass d) := by
  obtain ⟨sums, h⟩ := countTransients_eq cls inst fclass 1 d
  unfold faultCleared countTransient
  rw [h]
  exact (keepsEngines_modFaults _ d rfl).trans (keepsEngines_raise _ _ _ _ _)

theorem setEngine_timers (f e st : Nat) (d : Dev) : (setEngine f e st d).timers = d.timers := rfl

theorem armed_setEngine_disarm (f e st k i : Nat) (d : Dev) : armed (setEngine f e st (disarm k i d)) k i = false :=
  (armed_congr (setEngine_timers f e st _) k i).trans (armed_disarm k i d)

theorem bitOf_setEngine_failed {f e : Nat} (d : Dev) (he : e < 8) : bitOf (attr (setEngine f e 2 d) FACET_ENGINE_FAILED f) e = true := by
  rw [setEngine, attr_setAttr, bitOf, show FACET_ENGINE_FAILED.width = 8 from rfl, Nat.testBit_mod_two_pow]
  simp [withBit, he]

/-- R373: the test slice fails: the engine is FAILED and its limit is over. -/
theorem engineVerdict_failed {f e : Nat} {d : Dev} (hf : f < 32) (h5 : e < 5) (he : engineState d f e = 1) :
    engineState (engineVerdict f e false d) f e = 2 ∧ bitOf (attr (engineVerdict f e false d) FACET_ENGINE_FAILED f) e = true
      ∧ armed (engineVerdict f e false d) tkVerdict (5 * f + e) = false := by
  have eq : engineVerdict f e false d = permanentFault clsFacet f e 1 (setEngine f e 2 (disarm tkVerdict (5 * f + e) d)) := by
    simp [engineVerdict, failEngine, he]
  have kept := keepsEngines_permanentFault clsFacet f e 1 (setEngine f e 2 (disarm tkVerdict (5 * f + e) d))
  rw [eq, engineState_congr kept.engines, kept.failed, kept.verdicts _ (by omega)]
  exact ⟨engineState_setEngine .., bitOf_setEngine_failed _ (by omega), armed_setEngine_disarm ..⟩

/-- R373: an engine that is not the spare returns to service: beyond its own state only the spare moves. -/
theorem keepsEngines_engineBack {f e : Nat} (d : Dev) (hf : f < 32) (h4 : e < 4) : KeepsEngines (setEngine f e 0 d) (engineBack f e d) := by
  unfold engineBack
  dsimp only
  rw [if_neg (by omega)]
  split
  · exact (keepsEngines_returnPort _ _).trans (keepsEngines_spareFreed _ _)
  · exact ((keepsEngines_modFaults _ _ rfl).trans (keepsEngines_releaseHeld (by omega) _)).trans (keepsEngines_spareFreed _ _)

/-- R373: the test slice passes and the engine has faulted at most twice in the hour: it is in service again. -/
theorem engineVerdict_passed {f e : Nat} {d : Dev} (hf : f < 32) (h4 : e < 4) (he : engineState d f e = 1)
    (hh : fewFaults d (elementKey clsFacet f e) = true) :
    engineState (engineVerdict f e true d) f e = 0 ∧ armed (engineVerdict f e true d) tkVerdict (5 * f + e) = false := by
  have eq : engineVerdict f e true d = engineBack f e (faultCleared clsFacet f e 1 (disarm tkVerdict (5 * f + e) d)) := by
    simp [engineVerdict, he, hh]
  have kept := keepsEngines_engineBack (faultCleared clsFacet f e 1 (disarm tkVerdict (5 * f + e) d)) hf h4
  rw [eq, engineState_congr kept.engines, kept.verdicts _ (by omega)]
  refine ⟨engineState_setEngine .., ?_⟩
  rw [armed_congr (setEngine_timers f e 0 _), (keepsEngines_faultCleared ..).verdicts _ (by omega), armed_disarm]

/-! ### Rows that change few attributes -/

/-- Every attribute is as before but those listed, by code and instance, and those that count replies and events. -/
def KeepsOthers (changed : List (Nat × Nat)) (d e : Dev) : Prop :=
  ∀ (b : Attr) (j : Nat), b.code < 2 ^ 24 → ¬Claims.counting b → (b.code, j) ∉ changed → attr e b j = attr d b j

theorem keepsAttrs_iff (changed : List (Nat × Nat)) (s t : State) : Claims.KeepsAttrs changed s t ↔ KeepsOthers changed s.dev t.dev := Iff.rfl

section KeepsOthers
variable {changed : List (Nat × Nat)} {d e f : Dev}

theorem KeepsOthers.trans (h : KeepsOthers changed d e) (g : KeepsOthers changed e f) : KeepsOthers changed d f :=
  fun b j hb hc hn => (g b j hb hc hn).trans (h b j hb hc hn)

theorem keepsOthers_of_attrs (h : e.attrs = d.attrs) : KeepsOthers changed d e := fun b j _ _ _ => attr_congr h b j

theorem keepsOthers_setAttr {a : Attr} {i : Nat} (v : Nat) (d : Dev) (ha : a.code < 2 ^ 24) (hm : (a.code, i) ∈ changed) :
    KeepsOthers changed d (setAttr a i v d) := by
  intro b j hb _ hn
  refine bankGet_put_ne' (a.reset i) (b.reset j) d.attrs _ fun h => hn ?_
  obtain ⟨rfl, hcode⟩ := attrKey_inj hb ha h
  rwa [hcode]

theorem keepsOthers_raise (cls inst type detail : Nat) (d : Dev) : KeepsOthers changed d (raise cls inst type detail d) := by
  intro b j hb hc _
  exact attr_raise cls inst type detail d b j ⟨hb, fun h => hc (.inr (.inr (.inl h))), fun h => hc (.inr (.inr (.inr (.inl h)))),
    fun h => hc (.inr (.inr (.inr (.inr h))))⟩

end KeepsOthers

/-! ### The move to the spare (R10) -/

/-- R10: the facet once the spare serves port `p`, before the event of the takeover. -/
def servedBySpare (f rank p : Nat) (d : Dev) : Dev :=
  setAttr FACET_SPARE_PORT f p (setAttr FACET_SPARE_STATE f rank
    (mapEngine p 4 (modFaults (fun x => { x with takeovers := x.takeovers.filter fun t => t.1 != f }) d)))

theorem takeOver_eq {f rank p : Nat} {d : Dev} (ht : pendingTakeover d f = some (rank, p)) :
    ∃ e, takeOver f d = releaseHeld p (raise clsPort p evSpareTakeover (16 * rank + engineOf d p) e)
      ∧ e.attrs = (servedBySpare f rank p d).attrs ∧ e.faults = (servedBySpare f rank p d).faults := by
  unfold takeOver
  rw [ht]
  dsimp only
  split
  · exact ⟨_, rfl, arm_attrs .., arm_faults ..⟩
  · exact ⟨_, rfl, rfl, rfl⟩

theorem keepsOthers_servedBySpare {f p : Nat} (rank : Nat) (d : Dev) (hf : facetOf p = f) :
    KeepsOthers [(FACET_SPARE_STATE.code, f), (FACET_SPARE_PORT.code, f), (FACET_ENGINE_MAP.code, f)] d (servedBySpare f rank p d) := by
  have map : KeepsOthers [(FACET_SPARE_STATE.code, f), (FACET_SPARE_PORT.code, f), (FACET_ENGINE_MAP.code, f)] d
      (mapEngine p 4 (modFaults (fun x => { x with takeovers := x.takeovers.filter fun t => t.1 != f }) d)) :=
    keepsOthers_setAttr (a := FACET_ENGINE_MAP) _ _ (by decide) (by simp [hf])
  exact (map.trans (keepsOthers_setAttr _ _ (by decide) (by simp))).trans (keepsOthers_setAttr _ _ (by decide) (by simp))

/-- R10: the spare takes over the port decided for it. -/
theorem takeOver_decided {f rank p : Nat} {d : Dev} (ht : pendingTakeover d f = some (rank, p)) (hr : rank < 256) (hp : p < 256) (hf : facetOf p = f) :
    attr (takeOver f d) FACET_SPARE_STATE f = rank ∧ attr (takeOver f d) FACET_SPARE_PORT f = p ∧ pendingTakeover (takeOver f d) f = none
      ∧ KeepsOthers [(FACET_SPARE_STATE.code, f), (FACET_SPARE_PORT.code, f), (FACET_ENGINE_MAP.code, f)] d (takeOver f d) := by
  obtain ⟨e, he, hattrs, hfaults⟩ := takeOver_eq ht
  rw [he]
  refine ⟨?_, ?_, pendingTakeover_filtered (d := d) ?_, ?_⟩
  · rw [attr_releaseHeld, attr_raise_ne _ _ _ _ _ _ _ (by decide) (by decide) (by decide) (by decide), attr_congr hattrs, servedBySpare,
      attr_setAttr_ne _ _ _ _ (by decide) (by decide) (by decide), attr_setAttr]
    exact Nat.mod_eq_of_lt hr
  · rw [attr_releaseHeld, attr_raise_ne _ _ _ _ _ _ _ (by decide) (by decide) (by decide) (by decide), attr_congr hattrs, servedBySpare, attr_setAttr]
    exact Nat.mod_eq_of_lt hp
  · rw [releaseHeld_faults, raise_faults, hfaults]
    rfl
  · refine KeepsOthers.trans ?_ ((keepsOthers_raise _ _ _ _ e).trans fun b j _ _ _ => attr_releaseHeld p _ b j)
    exact (keepsOthers_servedBySpare rank d hf).trans (keepsOthers_of_attrs hattrs)

/-! ### O26 -/

/-- R372, R400: the block once a fault of cause MEMORY has counted its word. -/
def causeCounted (f cause : Nat) (d : Dev) : Dev := if cause = engineMemory then bump DIE_MEM_UNCORRECTABLE (dieOf (4 * f)) 1 d else d

theorem attr_causeCounted_ne {b : Attr} (f cause i : Nat) (d : Dev) (h : b.code ≠ DIE_MEM_UNCORRECTABLE.code) (hb : b.code < 2 ^ 24) :
    attr (causeCounted f cause d) b i = attr d b i := by
  unfold causeCounted
  split
  · exact attr_bump_ne _ _ _ _ h (by decide) hb
  · rfl

theorem causeCounted_faults (f cause : Nat) (d : Dev) : (causeCounted f cause d).faults = d.faults := by
  unfold causeCounted
  split
  · rfl
  · rfl

/-- Settles O26. An engine taken out of service carries its state, its count and its limit through whatever the spare then does
(`KeepsEngines`); the rest is the decision for the spare (R11) and its move (R10). -/
theorem spareAndEngines : Obligations.spare_and_engines := by
  intro f s
  have hf := f.isLt
  refine ⟨?takeover, ?spare, ?own, ?failed, ?passed⟩
  case takeover =>
    intro rank p ht hr hp
    obtain ⟨hstate, hport, hnone, hkeep⟩ := takeOver_decided ht hr (by unfold facetOf at hp; omega) hp
    exact ⟨_, rfl, hstate, hport, hnone, (keepsAttrs_iff _ _ _).2 hkeep, rfl⟩
  case spare =>
    intro cause he hp hl
    obtain ⟨hkeep, hstate⟩ := engineFault_spare (d := causeCounted f cause s.dev)
      ((engineState_congr (by rw [causeCounted_faults]) f 4).trans he)
      ((attr_causeCounted_ne f cause f s.dev (by decide) (by decide)).trans hp)
      ((attr_causeCounted_ne f cause 0 s.dev (by decide) (by decide)).trans_ne hl)
    obtain ⟨hout, hcount, hlimit⟩ := hkeep.of_takenOut (by omega)
    rw [attr_causeCounted_ne _ _ _ _ (by decide) (by decide)] at hcount
    exact ⟨_, rfl, hout, hstate, hcount, hlimit, rfl⟩
  case own =>
    intro e cause he hp ht hs hw hl
    obtain ⟨hkeep, hdecided⟩ := engineFault_own (d := causeCounted f cause s.dev) hf e.isLt
      ((engineState_congr (by rw [causeCounted_faults]) f e).trans he)
      ((attr_causeCounted_ne f cause f s.dev (by decide) (by decide)).trans hp)
      (by rw [pendingTakeover, causeCounted_faults]; exact ht)
      ((attr_causeCounted_ne f cause f s.dev (by decide) (by decide)).trans hs)
      ((engineState_congr (by rw [causeCounted_faults]) f 4).trans hw)
      ((attr_causeCounted_ne f cause 0 s.dev (by decide) (by decide)).trans_ne hl)
    obtain ⟨hout, hcount, hlimit⟩ := hkeep.of_takenOut (by omega)
    rw [attr_causeCounted_ne _ _ _ _ (by decide) (by decide)] at hcount
    exact ⟨_, rfl, hout, hdecided, hcount, hlimit, rfl⟩
  case failed =>
    intro e he
    obtain ⟨hstate, hbit, hlimit⟩ := engineVerdict_failed hf e.isLt he
    exact ⟨_, rfl, hstate, hbit, hlimit, rfl⟩
  case passed =>
    intro e he hh
    obtain ⟨hstate, hlimit⟩ := engineVerdict_passed hf e.isLt he hh
    exact ⟨_, rfl, hstate, hlimit, rfl⟩

/-! ### Wavefront margins (R23, R33) -/

/-- A value that one unit's update writes whatever came before, and that no other unit's update touches, stands after all of them. -/
theorem attr_forAll_mem {g : Nat → Dev → Dev} {b : Attr} {i v : Nat} (hw : ∀ d, attr (g i d) b i = v)
    (hk : ∀ k, k ≠ i → ∀ d, attr (g k d) b i = attr d b i) {l : List Nat} (hi : i ∈ l) (d : Dev) : attr (forAll l g d) b i = v := by
  have rest : ∀ (r : List Nat) (e : Dev), attr e b i = v → attr (forAll r g e) b i = v := by
    intro r
    induction r with
    | nil => exact fun _ h => h
    | cons k r ih =>
      intro e h
      refine ih (g k e) ?_
      by_cases hki : k = i
      · rw [hki, hw]
      · rw [hk k hki, h]
  induction l generalizing d with
  | nil => exact absurd hi List.not_mem_nil
  | cons k r ih =>
    rcases List.mem_cons.1 hi with rfl | hr
    · exact rest r _ (hw d)
    · exact ih hr (g k d)

/-- The attributes of a die that a sample of its margins writes. -/
abbrev marginAttrs (die : Nat) : List (Nat × Nat) := [(DIE_MARGIN_FLOOR.code, die), (DIE_FLOOR_REGION.code, die)]

/-- R23: the floor and its region as a sample writes them. -/
theorem dieMargin_writes {regions : List (Nat × Nat × Nat)} {die : Nat} (d : Dev) :
    ∃ code m, KeepsOthers [] (setAttr DIE_FLOOR_REGION die code (setAttr DIE_MARGIN_FLOOR die m d)) (dieMargin regions die d)
      ∧ (code, m) = (lowestMargin regions die).getD (0xFFFF, 0) := by
  unfold dieMargin
  split
  · next h => exact ⟨0xFFFF, 0, fun _ _ _ _ _ => rfl, by rw [h]; rfl⟩
  · next code m h =>
    refine ⟨code, m, ?_, by rw [h]; rfl⟩
    dsimp only
    split
    · exact (keepsOthers_of_attrs rfl).trans (keepsOthers_raise _ _ _ _ _)
    · split
      · exact keepsOthers_of_attrs rfl
      · exact keepsOthers_of_attrs rfl

theorem attr_dieMargin_region (regions : List (Nat × Nat × Nat)) (die : Nat) (d : Dev) :
    attr (dieMargin regions die d) DIE_FLOOR_REGION die = ((lowestMargin regions die).getD (0xFFFF, 0)).1 % 2 ^ 16 := by
  obtain ⟨code, m, hkeep, hlow⟩ := dieMargin_writes (regions := regions) (die := die) d
  rw [hkeep _ _ (by decide) (by decide) (by simp), attr_setAttr, ← hlow]
  rfl

theorem attr_dieMargin_floor (regions : List (Nat × Nat × Nat)) (die : Nat) (d : Dev) :
    attr (dieMargin regions die d) DIE_MARGIN_FLOOR die = ((lowestMargin regions die).getD (0xFFFF, 0)).2 % 2 ^ 16 := by
  obtain ⟨code, m, hkeep, hlow⟩ := dieMargin_writes (regions := regions) (die := die) d
  rw [hkeep _ _ (by decide) (by decide) (by simp), attr_setAttr_ne _ _ _ _ (by decide) (by decide) (by decide), attr_setAttr, ← hlow]
  rfl

theorem keepsOthers_dieMargin (regions : List (Nat × Nat × Nat)) (die : Nat) (d : Dev) : KeepsOthers (marginAttrs die) d (dieMargin regions die d) := by
  obtain ⟨code, m, hkeep, _⟩ := dieMargin_writes (regions := regions) (die := die) d
  refine KeepsOthers.trans ?_ fun b j hb hc _ => hkeep b j hb hc List.not_mem_nil
  exact (keepsOthers_setAttr m d (by decide) (by simp)).trans (keepsOthers_setAttr code _ (by decide) (by simp))

/-- R23: a sample writes the floor of every die and the region that has it. -/
theorem marginSample_floor (sample : List (Nat × Nat × Nat)) {die : Nat} (hd : die < 3) (d : Dev) :
    attr (marginSample sample d) DIE_MARGIN_FLOOR die
        = ((lowestMargin (sample.filter fun x => marginRegionOk x.1 x.2.1) die).getD (0xFFFF, 0)).2 % 2 ^ 16
      ∧ attr (marginSample sample d) DIE_FLOOR_REGION die
        = ((lowestMargin (sample.filter fun x => marginRegionOk x.1 x.2.1) die).getD (0xFFFF, 0)).1 % 2 ^ 16 := by
  have hmem : die ∈ [0, 1, 2] := by
    simp only [List.mem_cons, List.not_mem_nil, or_false]
    omega
  constructor
  · refine attr_forAll_mem (attr_dieMargin_floor _ die) (fun k hk e => ?_) hmem _
    exact keepsOthers_dieMargin _ k e _ _ (by decide) (by decide) (by simp [Ne.symm hk])
  · refine attr_forAll_mem (attr_dieMargin_region _ die) (fun k hk e => ?_) hmem _
    exact keepsOthers_dieMargin _ k e _ _ (by decide) (by decide) (by simp [Ne.symm hk])

/-! ### ADC slices (R374) -/

@[simp] theorem sliceState_setSlice (p k st : Nat) (d : Dev) : sliceState (setSlice p k st d) p k = st := by
  simp [sliceState, setSlice]

theorem sliceState_setSlice_ne {j k : Nat} (p st : Nat) (d : Dev) (h : j ≠ k) : sliceState (setSlice p k st d) p j = sliceState d p j :=
  bankGet_put_ne 0 d.faults.slices st (by omega)

theorem sliceState_congr {d e : Dev} (h : e.faults.slices = d.faults.slices) (p k : Nat) : sliceState e p k = sliceState d p k := by
  simp [sliceState, h]

theorem sliceState_refreshSlices (p q k : Nat) (d : Dev) : sliceState (refreshSlices q d) p k = sliceState d p k := rfl

theorem sliceState_noteFault (key p k : Nat) (d : Dev) : sliceState (noteFault key d) p k = sliceState d p k := rfl

/-- R374: a slice in use is no spare. -/
theorem sliceSpare_of_active {d : Dev} {p k : Nat} (h : sliceActive d p k = true) : sliceSpare d p k = false := by
  simp only [sliceActive, Bool.or_eq_true, Bool.and_eq_true, beq_iff_eq, decide_eq_true_eq] at h
  simp only [sliceSpare, Bool.or_eq_false_iff, Bool.and_eq_false_iff, beq_eq_false_iff_ne, decide_eq_false_iff_not]
  omega

/-- R374: taking a slice out of use leaves the spares as they are. -/
theorem sliceSpare_takenOut {d : Dev} {p k : Nat} (h : sliceActive d p k = true) (key : Nat) :
    sliceSpare (noteFault key (setSlice p k 1 d)) p = sliceSpare d p := by
  funext i
  by_cases hi : i = k
  · rw [hi, sliceSpare_of_active h, sliceSpare, sliceState_noteFault, sliceState_setSlice]
    rfl
  · rw [sliceSpare, sliceSpare, sliceState_noteFault, sliceState_setSlice_ne _ _ _ hi]

/-- R374: a slice in use faults while a spare is left: the first spare takes its place. -/
theorem sliceFault_replaced {d : Dev} {p k j : Nat} (ha : sliceActive d p k = true) (hj : (List.range 68).find? (sliceSpare d p) = some j) :
    sliceFault p k d = refreshSlices p (setSlice p j 3 (noteFault (elementKey clsPort p k) (setSlice p k 1 d))) := by
  unfold sliceFault
  simp [ha, sliceSpare_takenOut ha, hj]

theorem keepsOthers_refreshSlices (p : Nat) (d : Dev) : KeepsOthers [(PORT_ADC_SPARES.code, p), (PORT_ADC_FAILED.code, p)] d (refreshSlices p d) :=
  (keepsOthers_setAttr _ d (by decide) (by simp)).trans (keepsOthers_setAttr _ _ (by decide) (by simp))

theorem sliceFault_states {d : Dev} {p k j : Nat} (ha : sliceActive d p k = true) (hj : (List.range 68).find? (sliceSpare d p) = some j) :
    sliceState (sliceFault p k d) p k = 1 ∧ sliceState (sliceFault p k d) p j = 3
      ∧ KeepsOthers [(PORT_ADC_SPARES.code, p), (PORT_ADC_FAILED.code, p)] d (sliceFault p k d) := by
  have hjk : j ≠ k := by
    rintro rfl
    have spare := List.find?_some hj
    rw [sliceSpare_of_active ha] at spare
    cases spare
  have kept : KeepsOthers [(PORT_ADC_SPARES.code, p), (PORT_ADC_FAILED.code, p)] d
      (setSlice p j 3 (noteFault (elementKey clsPort p k) (setSlice p k 1 d))) := keepsOthers_of_attrs rfl
  rw [sliceFault_replaced ha hj]
  refine ⟨?_, ?_, kept.trans (keepsOthers_refreshSlices p _)⟩
  · rw [sliceState_refreshSlices, sliceState_setSlice_ne _ _ _ hjk.symm, sliceState_noteFault, sliceState_setSlice]
  · rw [sliceState_refreshSlices, sliceState_setSlice]

theorem permanentFault_slices (cls inst element fclass : Nat) (d : Dev) :
    (permanentFault cls inst element fclass d).faults.slices = d.faults.slices := by
  rw [permanentFault, raise_faults]
  rfl

theorem faultCleared_slices (cls inst element fclass : Nat) (d : Dev) : (faultCleared cls inst element fclass d).faults.slices = d.faults.slices := by
  obtain ⟨sums, h⟩ := countTransients_eq cls inst fclass 1 d
  rw [faultCleared, raise_faults, countTransient, h]
  rfl

@[simp] theorem attr_queueLog (cls inst element fclass kind status cause count : Nat) (d : Dev) (b : Attr) (i : Nat) :
    attr (queueLog cls inst element fclass kind status cause count d) b i = attr d b i := rfl

/-- R385: a permanent fault counts one more FAILED element. -/
theorem attr_permanentFault_failed (cls inst element fclass : Nat) (d : Dev) :
    attr (permanentFault cls inst element fclass d) DEVICE_FAILED_ELEMENTS 0
      = (attr d DEVICE_FAILED_ELEMENTS 0 + 1) % 2 ^ DEVICE_FAILED_ELEMENTS.width := by
  unfold permanentFault
  exact (attr_raise_ne _ _ _ _ _ _ _ (by decide) (by decide) (by decide) (by decide)).trans ((attr_queueLog ..).trans (attr_bump ..))

theorem sliceVerdict_passed {d : Dev} {p k : Nat} (hk : sliceState d p k = 1) (hh : fewFaults d (elementKey clsPort p k) = true) :
    sliceState (sliceVerdict p k true d) p k = if ((List.range 68).filter (sliceActive d p)).length < 64 then 3 else 4 := by
  have eq : sliceVerdict p k true d = faultCleared clsPort p k 2 (sliceBack p k d) := by simp [sliceVerdict, hk, hh]
  rw [eq, sliceState_congr (faultCleared_slices ..), sliceBack, sliceState_refreshSlices, sliceState_setSlice]

theorem sliceVerdict_failed {d : Dev} {p k : Nat} (hk : sliceState d p k = 1) :
    sliceState (sliceVerdict p k false d) p k = 2 ∧ attr (sliceVerdict p k false d) DEVICE_FAILED_ELEMENTS 0
      = (attr d DEVICE_FAILED_ELEMENTS 0 + 1) % 2 ^ DEVICE_FAILED_ELEMENTS.width := by
  have eq : sliceVerdict p k false d = permanentFault clsPort p k 2 (refreshSlices p (setSlice p k 2 d)) := by simp [sliceVerdict, hk]
  rw [eq, sliceState_congr (permanentFault_slices ..), attr_permanentFault_failed, sliceState_refreshSlices, sliceState_setSlice,
    keepsOthers_refreshSlices p _ _ _ (by decide) (by decide) (by simp [Attr.code, DEVICE_FAILED_ELEMENTS, PORT_ADC_SPARES, PORT_ADC_FAILED])]
  exact ⟨rfl, rfl⟩

/-! ### Scrubbing (R377 to R379) -/

/-- R377: the block once a scrub pass that had not begun has begun. -/
def passBegun (die : Nat) (d : Dev) : Dev :=
  if bankGet 0 d.faults.scrubStart die = 0 then modFaults (fun x => { x with scrubStart := bankPut 0 x.scrubStart die (d.elapsed + 1) }) d else d

theorem passBegun_eq (die : Nat) (d : Dev) : ∃ starts, passBegun die d = modFaults (fun x => { x with scrubStart := starts }) d := by
  unfold passBegun
  split
  · exact ⟨_, rfl⟩
  · exact ⟨d.faults.scrubStart, rfl⟩

/-- The scrub row is its step alone, unless it has lost a word of a slot (R456). -/
theorem exec_scrubStep {die : Fin 3} {bank : Fin 256} {word : Nat} {found : ScrubFind} {last : Bool} (h : found ≠ .uncorrectable .slot) (s : State) :
    exec (.scrubStep die bank word found last) s = .next { s with dev := scrubStep die bank word found last s.dev } := by
  show execScrubStep die bank word found last s = _
  simp [execScrubStep, h]

section Unsuspected
variable {d : Dev} {word : Nat}

/-- R378: a word that no earlier pass corrected is corrected. -/
theorem scrubStep_corrected (hb : d.brownout = none) (hw : suspectPasses d word = none) (die bank symbol : Nat) :
    scrubStep die bank word (.corrected symbol) false d = correctedWord die word symbol (passBegun die d) := by
  simp [scrubStep, hb, hw, passBegun]

/-- R377: the last word of a pass is clean. -/
theorem scrubStep_clean_last (hb : d.brownout = none) (hw : suspectPasses d word = none) (die bank : Nat) :
    scrubStep die bank word .clean true d
      = scrubPassEnd die (modFaults (fun x => { x with suspects := x.suspects.filter fun t => t.1 != word }) (passBegun die d)) := by
  simp [scrubStep, hb, hw, passBegun]

/-- R379: a word lost where nothing but the count follows. -/
theorem scrubStep_lost (hb : d.brownout = none) (die bank : Nat) :
    scrubStep die bank word (.uncorrectable .retention) false d
      = bump DIE_MEM_UNCORRECTABLE die 1
        (modFaults (fun x => if x.badWords.contains word then x else { x with badWords := x.badWords ++ [word] }) (passBegun die d)) := by
  simp [scrubStep, loseWord, hb, passBegun]

end Unsuspected

theorem attr_passBegun (die : Nat) (d : Dev) (b : Attr) (i : Nat) : attr (passBegun die d) b i = attr d b i := by
  obtain ⟨starts, h⟩ := passBegun_eq die d
  rw [h, attr_modFaults]

theorem suspectPasses_passBegun (die word : Nat) (d : Dev) : suspectPasses (passBegun die d) word = suspectPasses d word := by
  obtain ⟨starts, h⟩ := passBegun_eq die d
  rw [h]
  rfl

/-- R378: a word corrected that no earlier pass corrected: it is counted, and has erred in that symbol in one pass. -/
theorem correctedWord_first {d : Dev} {die word symbol : Nat} (hw : suspectPasses d word = none) :
    attr (correctedWord die word symbol d) DIE_MEM_CORRECTED die = (attr d DIE_MEM_CORRECTED die + 1) % 2 ^ DIE_MEM_CORRECTED.width
      ∧ suspectPasses (correctedWord die word symbol d) word = some (symbol, 1)
      ∧ KeepsOthers [(DIE_MEM_CORRECTED.code, die)] d (correctedWord die word symbol d) := by
  obtain ⟨sums, h⟩ := countTransients_eq clsDie die 5 1 (bump DIE_MEM_CORRECTED die 1
    (modFaults (fun x => { x with suspects := (x.suspects.filter fun t => t.1 != word) ++ [(word, symbol, 1)] }) d))
  have eq : correctedWord die word symbol d = modFaults (fun x => { x with sums := sums }) (bump DIE_MEM_CORRECTED die 1
      (modFaults (fun x => { x with suspects := (x.suspects.filter fun t => t.1 != word) ++ [(word, symbol, 1)] }) d)) := by
    rw [← h]
    simp [correctedWord, hw, countCorrected]
  rw [eq]
  refine ⟨?_, ?_, ?_⟩
  · rw [attr_modFaults, attr_bump, attr_modFaults]
  · exact congrArg (Option.map Prod.snd) (find?_filter_ne_append Prod.fst word d.faults.suspects (word, symbol, 1) rfl)
  · exact keepsOthers_setAttr (a := DIE_MEM_CORRECTED) _ _ (by decide) (by simp)

/-- R377: the end of a pass is counted. -/
theorem attr_scrubPassEnd (die : Nat) (d : Dev) :
    attr (scrubPassEnd die d) DIE_SCRUB_PASSES die = (attr d DIE_SCRUB_PASSES die + 1) % 2 ^ DIE_SCRUB_PASSES.width := by
  unfold scrubPassEnd
  extract_lets start took d1 d2
  have timed : attr (if start = 0 then d1 else setAttr DIE_SCRUB_LAST die (took / nsPerMs) d1) DIE_SCRUB_PASSES die = attr d DIE_SCRUB_PASSES die := by
    split
    · exact attr_modFaults _ d _ die
    · exact (attr_setAttr_ne _ _ _ _ (by decide) (by decide) (by decide)).trans (attr_modFaults _ d _ die)
  have counted : attr d2 DIE_SCRUB_PASSES die = (attr d DIE_SCRUB_PASSES die + 1) % 2 ^ DIE_SCRUB_PASSES.width := by
    rw [← timed]
    exact attr_bump _ die 1 _
  split
  · split
    · exact counted
    · exact (attr_raise_ne _ _ _ _ _ _ _ (by decide) (by decide) (by decide) (by decide)).trans counted
  · exact counted

/-- R379: a word lost, entered once. -/
theorem mem_badWords_entered (word : Nat) (d : Dev) :
    word ∈ (modFaults (fun x => if x.badWords.contains word then x else { x with badWords := x.badWords ++ [word] }) d).faults.badWords := by
  rw [modFaults_faults]
  split
  · next h => exact List.contains_iff_mem.1 h
  · exact List.mem_append_right _ (List.mem_singleton_self word)

/-! ### O45 -/

theorem exec_marginSample (regions : List (Nat × Nat × Nat)) (s : State) :
    exec (.marginSample regions) s = .next { s with dev := marginSample regions s.dev } := rfl

theorem exec_adcSliceFault (p : Fin 128) (k : Fin 68) (s : State) : exec (.adcSliceFault p k) s = .next { s with dev := sliceFault p k s.dev } := rfl

theorem exec_adcSliceRecalVerdict (p : Fin 128) (k : Fin 68) (pass : Bool) (s : State) :
    exec (.adcSliceRecalVerdict p k pass) s = .next { s with dev := sliceVerdict p k pass s.dev } := rfl

/-- R375: a source that has stalled is dealt with once, as a fault of its engine; a move back to the port's own engine starts its 64 rounds. -/
theorem exec_portSourceStall {p : Fin 128} {s : State} (hs : 64 ≤ (source s.dev p).stalled) (hh : (source s.dev p).handled = false) :
    exec (.portSourceStall p) s = .next { s with
      dev :=
        let d := engineFaultWith stallUnmasked (facetOf p) (engineOf s.dev p) (modSource p (fun x => { x with handled := true }) s.dev)
        if engineOf d p ≠ engineOf s.dev p then arm tkSourceStall p 2560 d else d } := by
  show onDev (sourceStall p) s = _
  rw [onDev, sourceStall, if_pos ⟨hs, hh⟩]

/-- R375: a source still stalled 64 rounds after its move raises UNMASKED. -/
theorem exec_sourceStallRecheck {p : Fin 128} {s : State} (hdue : due s.dev tkSourceStall p = true) (hs : 64 ≤ (source s.dev p).stalled) :
    exec (.sourceStallRecheck p) s = .next { s with dev := unmasked clsPort p 0xFF 8 unmSourceStall (disarm tkSourceStall p s.dev) } := by
  have hs' : 64 ≤ (source (disarm tkSourceStall p s.dev) p).stalled := hs
  show onDev (onExpiry tkSourceStall p fun d => if 64 ≤ (source d p).stalled then stallUnmasked p 0 d else d) s = _
  rw [onDev, onExpiry, if_pos hdue, if_pos hs', stallUnmasked]

/-- Settles O45. The margins by what one die's sample writes, whatever came before it; the slices by the spare that is found after the
faulted slice has left (assumption 59 for the verdict); the rest by the row's own branch. The stalls are dealt with once (assumptions 61
and 125), and passes in a row are kept by word (assumption 63). -/
theorem detectors : Obligations.detectors := by
  intro s
  refine ⟨?margin, ?slice, ?verdict, ?stall, ?recheck, ?scrub⟩
  case margin =>
    intro regions die hd
    obtain ⟨hfloor, hregion⟩ := marginSample_floor regions hd s.dev
    refine ⟨_, exec_marginSample regions s, fun code m h => ?_, fun h => ?_, rfl⟩
    · rw [h] at hfloor hregion
      exact ⟨hfloor, hregion⟩
    · rw [h] at hfloor hregion
      exact ⟨hfloor, hregion⟩
  case slice =>
    intro p k j ha hj
    obtain ⟨hfaulted, hplaced, hkeep⟩ := sliceFault_states ha hj
    exact ⟨_, exec_adcSliceFault p k s, hfaulted, hplaced, (keepsAttrs_iff _ _ _).2 hkeep, rfl⟩
  case verdict =>
    intro p k hk
    obtain ⟨hstate, hcount⟩ := sliceVerdict_failed hk
    exact ⟨fun hh => ⟨_, exec_adcSliceRecalVerdict p k true s, sliceVerdict_passed hk hh, rfl⟩,
      _, exec_adcSliceRecalVerdict p k false s, hstate, hcount, rfl⟩
  case stall => exact fun p hs hh => exec_portSourceStall hs hh
  case recheck => exact fun p hdue hs => exec_sourceStallRecheck hdue hs
  case scrub =>
    intro die bank word hb hw
    refine ⟨fun symbol => ?_, ?_, ?_⟩
    · obtain ⟨hcount, hpasses, hkeep⟩ := correctedWord_first (die := die) (symbol := symbol) ((suspectPasses_passBegun die word s.dev).trans hw)
      rw [attr_passBegun] at hcount
      rw [exec_scrubStep (found := .corrected symbol) nofun, scrubStep_corrected hb hw]
      exact ⟨_, rfl, hcount, hpasses, KeepsOthers.trans (fun b j _ _ _ => attr_passBegun die s.dev b j) hkeep, rfl⟩
    · rw [exec_scrubStep (found := .clean) nofun, scrubStep_clean_last hb hw]
      refine ⟨_, rfl, ?_, rfl⟩
      rw [attr_scrubPassEnd, attr_modFaults, attr_passBegun]
    · rw [exec_scrubStep (found := .uncorrectable .retention) nofun, scrubStep_lost hb]
      refine ⟨_, rfl, ?_, mem_badWords_entered word _, rfl⟩
      rw [attr_bump, attr_modFaults, attr_passBegun]

/-! ### O39 -/

/-- R30: an election that writes LATTICE.TIME_MASTER writes a value of its eight bits. -/
theorem attr_elect_timeMaster_lt (others : List (Nat × Bool)) {d : Dev} (h : attr d LATTICE_TIME_MASTER 0 < 2 ^ 8) :
    attr (elect others d) LATTICE_TIME_MASTER 0 < 2 ^ 8 := by
  unfold elect
  extract_lets me all winner members d1
  split
  · have kept : attr d1 LATTICE_TIME_MASTER 0 = attr d LATTICE_TIME_MASTER 0 :=
      (attr_bump_ne _ _ _ _ (by decide) (by decide) (by decide)).trans (attr_setAttr_ne _ _ _ _ (by decide) (by decide) (by decide))
    rwa [kept]
  · rw [attr_raise_ne _ _ _ _ _ _ _ (by decide) (by decide) (by decide) (by decide), attr_setAttr]
    exact Nat.mod_lt _ (by decide)

/-- A block with an UP chord and a valid pulse whose LATTICE.INDEX, an attribute of eight bits, is listed with the value 256. -/
def wideIndex : State :=
  { State.reset with
    dev := setBlockByte LATTICE_CHORD_STATE 0 0 2
      { State.reset.dev with attrs := [(attrKey LATTICE_INDEX 0, 256), (attrKey LATTICE_PULSE_VALID 0, 1)] } }

/-- Refutes O39: the statement takes every list of attributes, also one that holds more than an attribute's width, where a write cuts the
value (R7). In `wideIndex` the only member with a valid pulse has the index 256, and the election of `timeMasterElection` stores it in
the eight bits of LATTICE.TIME_MASTER as 0. The clause of `timeSet` asks the same of TIME.STEPS, which a slew leaves as it is while the
statement cuts it. The state is not one that writes lead to (`attr_setAttr`): what the statement lacks is the widths of LATTICE.INDEX and
TIME.STEPS as hypotheses. -/
theorem not_deviceTime : ¬ Obligations.device_time := by
  intro h
  obtain ⟨-, -, election, -⟩ := h wideIndex
  obtain ⟨t, ht, hmaster, -⟩ := election [] 256 (by decide +kernel) (.inl (by decide +kernel)) (fun _ => by decide +kernel) (by simp)
  obtain rfl : { wideIndex with dev := elect [] wideIndex.dev } = t := Host.Outcome.next.inj ht
  have small := attr_elect_timeMaster_lt [] (d := wideIndex.dev) (by decide +kernel)
  rw [hmaster] at small
  exact absurd small (by decide)

end Sys2Proof.Machine

namespace Sys2Proof.Machine

/-! ### Fields of a request's parameters (R3, R320) -/

@[simp] theorem length_toLE (v n : Nat) : (toLE v n).length = n := by
  induction n generalizing v with
  | zero => rfl
  | succ n ih => simp [toLE, ih]

/-- A field past the end of a first part lies in the second. -/
theorem leAt_append {as : List Byte} {k : Nat} (h : as.length = k) (bs : List Byte) (i n : Nat) : leAt (as ++ bs) (k + i) n = leAt bs i n := by
  subst h
  induction n generalizing i with
  | zero => rfl
  | succ n ih =>
    have here : byteAt (as ++ bs) (as.length + i) = byteAt bs i := by
      unfold byteAt
      rw [List.getD_append_right _ _ _ _ (Nat.le_add_right ..), Nat.add_sub_cancel_left]
    rw [leAt, leAt, here, Nat.add_assoc, ih]

/-- R3: a field holds the value written to it, cut to its bytes. -/
theorem leAt_toLE (v n : Nat) (bs : List Byte) : leAt (toLE v n ++ bs) 0 n = v % 2 ^ (8 * n) := by
  induction n generalizing v with
  | zero => simp [leAt, Nat.mod_one]
  | succ n ih =>
    have rest : leAt (byteOf (v % 256) :: (toLE (v / 256) n ++ bs)) (0 + 1) n = leAt (toLE (v / 256) n ++ bs) 0 n :=
      leAt_append (as := [byteOf (v % 256)]) rfl _ 0 n
    have here : byteAt (byteOf (v % 256) :: (toLE (v / 256) n ++ bs)) 0 = v % 256 := by simp [byteAt, byteOf]
    rw [toLE, List.cons_append, leAt, here, rest, ih, Nat.mul_succ, Nat.add_comm (8 * n), Nat.pow_add, Nat.mod_mul]

@[simp] theorem length_addrBytes (x : AttrAddr) : (addrBytes x).length = 6 := by simp [addrBytes]

/-- R320: the address bytes name the address they were made from. -/
theorem addrAt_addrBytes {x : AttrAddr} (hc : x.cls < 256) (hi : x.inst < 65536) (hd : x.id < 65536) (rest : List Byte) :
    addrAt (addrBytes x ++ rest) = x := by
  have cls : byteAt (addrBytes x ++ rest) 0 = x.cls := by simpa [byteAt, addrBytes, byteOf] using hc
  have inst : leAt (addrBytes x ++ rest) 2 2 = x.inst := by
    rw [addrBytes, List.append_assoc, List.append_assoc, leAt_append (k := 2) rfl _ 0, leAt_toLE, Nat.mod_eq_of_lt (by omega)]
  have id : leAt (addrBytes x ++ rest) 4 2 = x.id := by
    rw [addrBytes, List.append_assoc, leAt_append (k := 4) rfl _ 0, leAt_toLE, Nat.mod_eq_of_lt (by omega)]
  rw [addrAt, cls, inst, id]

/-! ### The catalogue (R7, R319) -/

/-- R7, R319: a class is one byte, an ID is two, and a value is at most eight whole bytes. -/
theorem catalogue_fields : ∀ a ∈ catalogue, a.cls < 256 ∧ a.id < 65536 ∧ 8 * (a.width / 8) = a.width ∧ a.width / 8 ≤ 8 := by decide +kernel

theorem addressed_mem {x : AttrAddr} {a : Attr} (h : addressed x = some a) : a ∈ catalogue := by
  unfold addressed at h
  split at h
  · next b hb =>
    split at h
    · obtain rfl := Option.some.inj h
      exact List.mem_of_find?_eq_some hb
    · cases h
  · cases h

/-! ### SET and SET_BLOCK (R321, R323) -/

/-- A block is read from the table of blocks alone. -/
theorem block_congr {d e : Dev} (h : e.blocks = d.blocks) (a : Attr) (i : Nat) : block e a i = block d a i := by simp [block, h]

section TakenDev
variable (op : Nat) (r : Req) (s : State) (a : Attr) (i : Nat)

theorem block_takenDev : block (takenDev op r s) a i = block s.dev a i :=
  block_congr (takenDev_blocks op r s) a i

theorem engaged_takenDev : engaged (takenDev op r s) i = engaged s.dev i := by
  rw [engaged, stateOf, attr_takenDev _ _ _ _ _ (by decide) (by decide) (by decide)]; rfl

theorem retryInUse_takenDev : retryInUse (takenDev op r s) i = retryInUse s.dev i := by
  rw [retryInUse, attr_takenDev _ _ _ _ _ (by decide) (by decide) (by decide), attr_takenDev _ _ _ _ _ (by decide) (by decide) (by decide)]; rfl

theorem checkStateOf_takenDev : checkStateOf (takenDev op r s) i = checkStateOf s.dev i := by
  rw [checkStateOf, takenDev_scans, takenDev_jobs]; rfl

/-- R321: no check of a SET reads what the advance of the sequence changes. -/
theorem valueCheck_takenDev (v : Nat) : valueCheck (takenDev op r s) a i v = valueCheck s.dev a i v := by
  have period := attr_takenDev op r s TIME_PULSE_OUT_PERIOD 0 (by decide) (by decide) (by decide)
  have chord := fun p => attr_takenDev op r s PORT_CHORD p (by decide) (by decide) (by decide)
  have life := attr_takenDev op r s DEVICE_LC_STATE 0 (by decide) (by decide) (by decide)
  have state := attr_takenDev op r s PORT_STATE i (by decide) (by decide) (by decide)
  have range : valueOk (takenDev op r s) a i v = valueOk s.dev a i v := by
    rw [valueOk, retryInUse_takenDev, period]; rfl
  have condition : valueState (takenDev op r s) a i v = valueState s.dev a i v := by
    simp only [valueState, engaged_takenDev, checkStateOf_takenDev, chord, life, stateOf, state]
  rw [valueCheck, range, condition]; rfl

/-- R323: no check of a SET_BLOCK reads what the advance of the sequence changes. -/
theorem blockCheck_takenDev (off : Nat) (data : List Byte) : blockCheck (takenDev op r s) a i off data = blockCheck s.dev a i off data := by
  have cap := attr_takenDev op r s PORT_RATE_CAP i (by decide) (by decide) (by decide)
  have period := attr_takenDev op r s PRISM_SYMBOL_PERIOD (prismOf i) (by decide) (by decide) (by decide)
  have ok : ∀ bs, blockOk (takenDev op r s) a i bs = blockOk s.dev a i bs := by
    intro bs
    simp only [blockOk, stageOkAt, block_takenDev, cap, period]
  rw [blockCheck, block_takenDev, ok, engaged_takenDev]; rfl

end TakenDev

/-- R321, R323: the reserved bytes of a SET and of a SET_BLOCK. -/
theorem reserved_fields {ps : List Byte} (h1 : byteAt ps 1 = 0) (h6 : leAt ps 6 2 = 0) : (reservedZero ps 1 1 && reservedZero ps 6 2) = true := by
  have h1' : leAt ps 1 1 = 0 := h1
  simp only [reservedZero, h1', h6, beq_self_eq_true, Bool.and_self]

/-- R321: a SET that its checks accept answers OK and has its attribute's effect. -/
theorem issue_set {r : Req} {s : State} {a : Attr} (ht : Claims.Takes 0x11 r s) (hl : r.params.length = 8 + a.width / 8)
    (h1 : byteAt r.params 1 = 0) (h6 : leAt r.params 6 2 = 0) (ha : addressed (addrAt r.params) = some a) (hb : isBlock a = false)
    (hc : valueCheck s.dev a (addrAt r.params).inst (leAt r.params 8 (a.width / 8)) = none) :
    issue 0x11 bodySet r s = { s with
      dev := answer (takenCall 0x11 r s) stOk []
        (writeValue a (addrAt r.params).inst (leAt r.params 8 (a.width / 8)) (takenDev 0x11 r s)) } := by
  obtain ⟨htake, hflags, howner, hfree, hplace⟩ := ht
  obtain ⟨-, -, -, hwidth⟩ := catalogue_fields a (addressed_mem ha)
  have body : bodySet s.mem (takenCall 0x11 r s) (takenDev 0x11 r s)
      = okDev (writeValue a (addrAt r.params).inst (leAt r.params 8 (a.width / 8)) (takenDev 0x11 r s)) := by
    rw [← valueCheck_takenDev 0x11 r] at hc
    have h8 : 6 ≤ 8 + a.width / 8 := by omega
    simp [bodySet, need, takenCall, reserved_fields h1 h6, hl, h8, ha, hb, hc]
  exact issue_done htake hflags howner hfree hplace ⟨Nat.zero_le _, by simp only [paramRange]; omega⟩ body

/-- R323: a SET_BLOCK that its checks accept answers OK and writes its bytes. -/
theorem issue_setBlock {r : Req} {s : State} {a : Attr} (ht : Claims.Takes 0x13 r s) (hl : 13 ≤ r.params.length) (hm : r.params.length ≤ 1024)
    (h1 : byteAt r.params 1 = 0) (h6 : leAt r.params 6 2 = 0) (ha : addressed (addrAt r.params) = some a) (hb : isBlock a = true)
    (hc : blockCheck s.dev a (addrAt r.params).inst (leAt r.params 8 4) (r.params.drop 12) = none) :
    issue 0x13 bodySetBlock r s = { s with
      dev := answer (takenCall 0x13 r s) stOk []
        (writeBytes a (addrAt r.params).inst (leAt r.params 8 4) (r.params.drop 12) (takenDev 0x13 r s)) } := by
  obtain ⟨htake, hflags, howner, hfree, hplace⟩ := ht
  have body : bodySetBlock s.mem (takenCall 0x13 r s) (takenDev 0x13 r s)
      = okDev (writeBytes a (addrAt r.params).inst (leAt r.params 8 4) (r.params.drop 12) (takenDev 0x13 r s)) := by
    have h8 : 6 ≤ r.params.length := by omega
    rw [← blockCheck_takenDev 0x13 r] at hc
    simp [bodySetBlock, need, takenCall, reserved_fields h1 h6, hl, h8, ha, hb, hc]
  exact issue_done htake hflags howner hfree hplace ⟨Nat.zero_le _, hm⟩ body

/-! ### Requests that name their attribute (R320, R321, R323) -/

/-- R321: a SET whose attribute the row's name gives, once its checks accept the operand cut to the attribute's width. -/
theorem issue_setRequest {h : SetHead} {a : Attr} {i v w : Nat} {s : State} (ht : Claims.Takes 0x11 (setRequest h a i v) s)
    (ha : addressed ⟨a.cls, i, a.id⟩ = some a) (hi : i < 65536) (hb : isBlock a = false) (hv : v % 2 ^ a.width = w)
    (hc : valueCheck s.dev a i w = none) :
    issue 0x11 bodySet (setRequest h a i v) s = { s with
      dev := answer (takenCall 0x11 (setRequest h a i v) s) stOk [] (writeValue a i w (takenDev 0x11 (setRequest h a i v) s)) } := by
  obtain ⟨hcls, hid, hwidth, -⟩ := catalogue_fields a (addressed_mem ha)
  have params : (setRequest h a i v).params = addrBytes ⟨a.cls, i, a.id⟩ ++ (toLE 0 2 ++ (toLE v (a.width / 8) ++ [])) := by
    simp [setRequest]
  have address : addrAt (setRequest h a i v).params = ⟨a.cls, i, a.id⟩ := by rw [params, addrAt_addrBytes hcls hi hid]
  have value : leAt (setRequest h a i v).params 8 (a.width / 8) = w := by
    rw [params, leAt_append (length_addrBytes _) _ 2, leAt_append (length_toLE 0 2) _ 0, leAt_toLE, hwidth, hv]
  have done := issue_set ht (a := a) (by simp [params]; omega) (by rw [params]; rfl) (by rw [params, leAt_append (length_addrBytes _) _ 0]; rfl)
    (by rwa [address]) hb (by rwa [address, value])
  rwa [address, value] at done

/-- R323: a SET_BLOCK whose attribute the row's name gives writes its bytes from its offset on, once its checks accept. -/
theorem issue_setBlockRequest {h : SetHead} {a : Attr} {i off : Nat} {data : List Byte} {s : State}
    (ht : Claims.Takes 0x13 (setBlockRequest h a i off data) s) (ha : addressed ⟨a.cls, i, a.id⟩ = some a) (hi : i < 65536) (ho : off < 2 ^ 32)
    (hd : data ≠ []) (hl : data.length ≤ 1012) (hb : isBlock a = true) (hc : blockCheck s.dev a i off data = none) :
    issue 0x13 bodySetBlock (setBlockRequest h a i off data) s = { s with
      dev := answer (takenCall 0x13 (setBlockRequest h a i off data) s) stOk []
        (writeBytes a i off data (takenDev 0x13 (setBlockRequest h a i off data) s)) } := by
  obtain ⟨hcls, hid, -⟩ := catalogue_fields a (addressed_mem ha)
  have params : (setBlockRequest h a i off data).params = addrBytes ⟨a.cls, i, a.id⟩ ++ (toLE 0 2 ++ (toLE off 4 ++ data)) := by
    simp [setBlockRequest]
  have length : (setBlockRequest h a i off data).params.length = 12 + data.length := by simp [params]; omega
  have nonempty : 0 < data.length := List.length_pos_iff.2 hd
  have address : addrAt (setBlockRequest h a i off data).params = ⟨a.cls, i, a.id⟩ := by rw [params, addrAt_addrBytes hcls hi hid]
  have offset : leAt (setBlockRequest h a i off data).params 8 4 = off := by
    rw [params, leAt_append (length_addrBytes _) _ 2, leAt_append (length_toLE 0 2) _ 0, leAt_toLE, Nat.mod_eq_of_lt (by omega)]
  have bytes : (setBlockRequest h a i off data).params.drop 12 = data := by
    rw [params, ← List.append_assoc, ← List.append_assoc, List.drop_left' (by simp)]
  have done := issue_setBlock ht (a := a) (by omega) (by omega) (by rw [params]; rfl) (by rw [params, leAt_append (length_addrBytes _) _ 0]; rfl)
    (by rwa [address]) hb (by rwa [address, offset, bytes])
  rwa [address, offset, bytes] at done

/-! ### What a request that is done leaves alone -/

section Answered
variable {changed : List (Nat × Nat)} {op : Nat} {r : Req} {s : State} {d e : Dev} {c : Call} {st : Nat} {x : List Byte}

theorem keepsOthers_takenDev (op : Nat) (r : Req) (s : State) : KeepsOthers changed s.dev (takenDev op r s) := fun b j hb hc _ =>
  attr_takenDev op r s b j hb (fun h => hc (.inr (.inl h))) (fun h => hc (.inl h))

theorem keepsAttrs_answer (h : KeepsOthers changed (takenDev op r s) e) : Claims.KeepsAttrs changed s { s with dev := answer c st x e } :=
  (keepsAttrs_iff ..).2 (((keepsOthers_takenDev op r s).trans h).trans (keepsOthers_of_attrs (answer_attrs ..)))

/-- Only attributes, masters and limits differ. -/
def SameUnits (d e : Dev) : Prop := ∃ as xs ts, e = { d with attrs := as, masters := xs, timers := ts }

theorem sameUnits_setAttr (a : Attr) (i v : Nat) (d : Dev) : SameUnits d (setAttr a i v d) := ⟨_, d.masters, d.timers, rfl⟩

theorem SameUnits.trans {f : Dev} (h : SameUnits d e) (g : SameUnits e f) : SameUnits d f := by
  obtain ⟨_, _, _, rfl⟩ := h
  obtain ⟨as, xs, ts, rfl⟩ := g
  exact ⟨as, xs, ts, rfl⟩

theorem keepsUnits_answer (h : SameUnits (takenDev op r s) e) : Claims.KeepsUnits s { s with dev := answer c st x e } := by
  obtain ⟨_, _, _, he⟩ := h
  obtain ⟨_, _, _, ha⟩ := advance_eq r.master.val (attr s.dev DEVICE_CMD_SEQ_NEXT r.master.val) (requestBytes op r s) s.dev
  obtain ⟨_, hx⟩ := answer_eq c st x e
  rw [hx, he, takenDev, ha]
  exact ⟨_, _, _, _, rfl⟩

end Answered

/-! ### The checks of a SET (R321) -/

/-- A search whose test only one member passes finds that member. -/
theorem find?_of_unique {α : Type} {p : α → Bool} {l : List α} {x : α} (hx : x ∈ l) (hp : p x = true) (hu : ∀ y ∈ l, p y = true → y = x) :
    l.find? p = some x := by
  cases hf : l.find? p with
  | none => exact absurd hp (List.find?_eq_none.1 hf x hx)
  | some y => rw [hu y (List.mem_of_find?_eq_some hf) (List.find?_some hf)]

/-- R319: no two attributes have the same class and ID. -/
theorem catalogue_distinct : (catalogue.map Attr.code).Nodup := by decide +kernel

/-- R319: an attribute's own class and ID with one of its instances name it. -/
theorem addressed_of_mem {a : Attr} {i : Nat} (ha : a ∈ catalogue) (hi : instanceOk a i = true) : addressed ⟨a.cls, i, a.id⟩ = some a := by
  have found : findAttr ⟨a.cls, i, a.id⟩ = some a := by
    refine find?_of_unique ha (by simp) fun y hy hkey => List.inj_on_of_nodup_map catalogue_distinct hy ha ?_
    simp only [Bool.and_eq_true, beq_iff_eq] at hkey
    obtain ⟨hcls, hid⟩ := hkey
    rw [Attr.code, Attr.code, hcls, hid]
  simp [addressed, found, hi]

theorem instanceOk_port {a : Attr} (h : a.cls = clsPort) (p : Fin 128) : instanceOk a p = true := by
  simp [instanceOk, h, clsPort, clsDevice, clsDie, clsPrism, clsFacet, clsGroup]

theorem valueCheck_accepts {d : Dev} {a : Attr} {i v : Nat} (hr : a.acc ≠ .ro ∧ a.code ≠ DEVICE_REPLY_HOLD.code) (ho : valueOk d a i v = true)
    (hs : valueState d a i v = none) : valueCheck d a i v = none := by
  simp [valueCheck, setRefused, hr, ho, hs]

/-- The attributes outside class CHECK whose SET has a state condition (R321 check 6). -/
abbrev conditioned : List Nat :=
  [PRISM_PREFIX.code, PORT_INTERLEAVE.code, PORT_NEG_MODE.code, PORT_CLASS.code, PORT_LEGACY_LPI.code, BIST_POWER_UP.code]

/-- R321 check 6 for the attributes without a condition of their own; R482 for the parameters of a check unit. -/
theorem valueState_unconditioned {d : Dev} {a : Attr} {i v : Nat} (h : a.code ∉ conditioned) :
    valueState d a i v = if a.cls = clsCheck ∧ checkStateOf d i = 1 then some stPrecondition else none := by
  simp only [conditioned, List.mem_cons, List.not_mem_nil, or_false, not_or] at h
  obtain ⟨h1, h2, h3, h4, h5, h6⟩ := h
  simp [valueState, h1, h2, h3, h4, h5, h6, ite_and]

theorem rangeTable_distinct : (rangeTable.map fun r => r.1.code).Nodup := by decide +kernel

/-- R321 check 5 for an attribute whose range is an interval, with 0 beside it or not; R125 for a deadline. -/
theorem valueOk_of_range {d : Dev} {a : Attr} {i v : Nat} {lo hi : Int} {zero : Bool} (hr : (a, lo, hi, zero) ∈ rangeTable)
    (hp : a.ty ≠ .bool ∧ a.code ∉ [PORT_TX_PSD.code, DOMAIN_BOOT_STATE.code, TIME_PULSE_OUT_WIDTH.code])
    (hin : lo ≤ typedValue a v ∧ typedValue a v ≤ hi ∨ zero = true ∧ v = 0)
    (hd : a.code = PORT_RECAST_DEADLINE.code → v = 0 ∨ retryInUse d i ≤ v) : valueOk d a i v = true := by
  obtain ⟨hbool, hcode⟩ := hp
  simp only [List.mem_cons, List.not_mem_nil, or_false, not_or] at hcode
  obtain ⟨hpsd, hboot, hwidth⟩ := hcode
  have found : (rangeTable.find? fun r => r.1.code == a.code) = some (a, lo, hi, zero) :=
    find?_of_unique hr (beq_self_eq_true _) fun _ hy hcode => List.inj_on_of_nodup_map rangeTable_distinct hy hr (beq_iff_eq.1 hcode)
  simpa [valueOk, found, hin, hbool, hpsd, hboot, hwidth, or_assoc] using not_or_of_imp hd

/-- R321 check 5 for an attribute without an interval; R60 for a launch level. -/
theorem valueOk_of_unranged {d : Dev} {a : Attr} {i v : Nat} (hr : ∀ r ∈ rangeTable, r.1.code ≠ a.code)
    (hp : a.ty ≠ .bool ∧ a.code ∉ [PORT_RECAST_DEADLINE.code, DOMAIN_BOOT_STATE.code, TIME_PULSE_OUT_WIDTH.code])
    (hpsd : a.code = PORT_TX_PSD.code → psdOk (typedValue a v) = true) : valueOk d a i v = true := by
  obtain ⟨hbool, hcode⟩ := hp
  simp only [List.mem_cons, List.not_mem_nil, or_false, not_or] at hcode
  obtain ⟨hdeadline, hboot, hwidth⟩ := hcode
  have unlisted : (rangeTable.find? fun r => r.1.code == a.code) = none :=
    List.find?_eq_none.2 fun r h => by simpa using hr r h
  simpa [valueOk, unlisted, hbool, hdeadline, hboot, hwidth] using not_or_of_imp hpsd

/-! ### SETs that only store (R61, R125, R482) -/

/-- The attributes whose SET does more than store (among them R30, R39, R67, R201, R214). -/
abbrev ownEffects : List Nat :=
  [DEVICE_SNAP_READY.code, PRISM_PREFIX.code, PORT_RATE_CAP.code, PORT_SNR_HIST_INTERVAL.code, TIME_PULSE_IN_PERIOD.code,
   TIME_PULSE_OUT_PERIOD.code, BIST_SLOT_PERIOD.code]

theorem writeValue_stores {a : Attr} (h : a.code ∉ ownEffects) (i v : Nat) (d : Dev) : writeValue a i v d = setAttr a i v d := by
  simp only [ownEffects, List.mem_cons, List.not_mem_nil, or_false, not_or] at h
  obtain ⟨h1, h2, h3, h4, h5, h6, h7⟩ := h
  rw [writeValue, if_neg h1, if_neg h2, if_neg h3, if_neg h4, if_neg h5, if_neg h6, if_neg h7]

/-- R321: an accepted SET of an attribute without an effect of its own stores the value and leaves everything else. -/
theorem set_stores {h : SetHead} {a : Attr} {i v w : Nat} {s : State} (ht : Claims.Takes 0x11 (setRequest h a i v) s)
    (ha : addressed ⟨a.cls, i, a.id⟩ = some a) (hi : i < 65536) (hb : isBlock a = false) (hp : a.code ∉ ownEffects)
    (hv : v % 2 ^ a.width = w) (hc : valueCheck s.dev a i w = none) :
    ∃ t, issueOut 0x11 bodySet (setRequest h a i v) s = .next t ∧ attr t.dev a i = w
      ∧ Claims.KeepsAttrs [(a.code, i)] s t ∧ Claims.KeepsUnits s t := by
  have hcode : a.code < 2 ^ 24 := by
    obtain ⟨hcls, hid, -⟩ := catalogue_fields a (addressed_mem ha)
    simp only [Attr.code]; omega
  refine ⟨_, congrArg Host.Outcome.next (issue_setRequest ht ha hi hb hv hc), ?_, ?_, ?_⟩
  all_goals rw [writeValue_stores hp]
  · rw [attr_answer, attr_setAttr, ← hv, Nat.mod_mod]
  · exact keepsAttrs_answer (keepsOthers_setAttr _ _ hcode (by simp))
  · exact keepsUnits_answer (sameUnits_setAttr ..)

theorem signedOf_toNat (v : BitVec 16) : signedOf 16 v.toNat = v.toInt := by
  have := v.isLt
  rw [signedOf, BitVec.toInt_eq_toNat_cond]
  split <;> split <;> omega

theorem exec_txPsdSet (h : SetHead) (p : Fin 128) (v : BitVec 16) (s : State) :
    exec (.txPsdSet h p v) s = issueOut 0x11 bodySet (setRequest h PORT_TX_PSD p v.toNat) s := rfl

theorem txPsdSet_stores {h : SetHead} {s : State} {p : Fin 128} {v : BitVec 16} (ht : Claims.Takes 0x11 (setRequest h PORT_TX_PSD p v.toNat) s)
    (hlo : -1000 ≤ v.toInt) (hhi : v.toInt ≤ -920) (hstep : v.toInt % 5 = 0) :
    ∃ t, exec (.txPsdSet h p v) s = .next t ∧ attr t.dev PORT_TX_PSD p = v.toNat ∧ Claims.KeepsAttrs [(PORT_TX_PSD.code, p)] s t
      ∧ Claims.KeepsUnits s t := by
  have range : valueOk s.dev PORT_TX_PSD p v.toNat = true := by
    have psd : psdOk (typedValue PORT_TX_PSD v.toNat) = true := by
      rw [show typedValue PORT_TX_PSD v.toNat = v.toInt from signedOf_toNat v]
      simp [psdOk, hlo, hhi, hstep]
    exact valueOk_of_unranged (by decide) (by decide) fun _ => psd
  rw [exec_txPsdSet]
  exact set_stores ht (addressed_of_mem (by simp [catalogue, catalogue1]) (instanceOk_port rfl p)) (by omega) rfl (by decide) (Nat.mod_eq_of_lt v.isLt)
    (valueCheck_accepts (by decide) range (valueState_unconditioned (by decide)))

theorem exec_recastRetrySet (h : SetHead) (p : Fin 128) (v : BitVec 32) (s : State) :
    exec (.recastTimerSet h p false v) s = issueOut 0x11 bodySet (setRequest h PORT_RECAST_RETRY p v.toNat) s := rfl

theorem recastRetrySet_stores {h : SetHead} {s : State} {p : Fin 128} {v : BitVec 32}
    (ht : Claims.Takes 0x11 (setRequest h PORT_RECAST_RETRY p v.toNat) s) (hv : v.toNat = 0 ∨ 200 ≤ v.toNat ∧ v.toNat ≤ 100000) :
    ∃ t, exec (.recastTimerSet h p false v) s = .next t ∧ attr t.dev PORT_RECAST_RETRY p = v.toNat
      ∧ Claims.KeepsAttrs [(PORT_RECAST_RETRY.code, p.val)] s t ∧ Claims.KeepsUnits s t := by
  have row : (PORT_RECAST_RETRY, 200, 100000, true) ∈ rangeTable := by simp [rangeTable]
  have range : valueOk s.dev PORT_RECAST_RETRY p v.toNat = true := by
    refine valueOk_of_range row (by decide) ?_ fun h => absurd h (by decide)
    simp only [typedValue, PORT_RECAST_RETRY, true_and]; omega
  rw [exec_recastRetrySet]
  exact set_stores ht (addressed_of_mem (by simp [catalogue, catalogue2]) (instanceOk_port rfl p)) (by omega) rfl (by decide) (Nat.mod_eq_of_lt v.isLt)
    (valueCheck_accepts (by decide) range (valueState_unconditioned (by decide)))

theorem exec_recastDeadlineSet (h : SetHead) (p : Fin 128) (v : BitVec 32) (s : State) :
    exec (.recastTimerSet h p true v) s = issueOut 0x11 bodySet (setRequest h PORT_RECAST_DEADLINE p v.toNat) s := rfl

theorem recastDeadlineSet_stores {h : SetHead} {s : State} {p : Fin 128} {v : BitVec 32}
    (ht : Claims.Takes 0x11 (setRequest h PORT_RECAST_DEADLINE p v.toNat) s)
    (hv : v.toNat = 0 ∨ 400 ≤ v.toNat ∧ v.toNat ≤ 200000 ∧ retryInUse s.dev p ≤ v.toNat) :
    ∃ t, exec (.recastTimerSet h p true v) s = .next t ∧ attr t.dev PORT_RECAST_DEADLINE p = v.toNat
      ∧ Claims.KeepsAttrs [(PORT_RECAST_DEADLINE.code, p.val)] s t ∧ Claims.KeepsUnits s t := by
  have row : (PORT_RECAST_DEADLINE, 400, 200000, true) ∈ rangeTable := by simp [rangeTable]
  have range : valueOk s.dev PORT_RECAST_DEADLINE p v.toNat = true := by
    refine valueOk_of_range row (by decide) ?_ fun _ => hv.imp id fun h => h.2.2
    simp only [typedValue, PORT_RECAST_DEADLINE, true_and]; omega
  rw [exec_recastDeadlineSet]
  exact set_stores ht (addressed_of_mem (by simp [catalogue, catalogue2]) (instanceOk_port rfl p)) (by omega) rfl (by decide) (Nat.mod_eq_of_lt v.isLt)
    (valueCheck_accepts (by decide) range (valueState_unconditioned (by decide)))

theorem checkField_mem (f : Fin 4) : checkField f ∈ catalogue := by
  have field : checkField f ∈ catalogue10 := by
    unfold checkField
    split_ifs <;> simp [catalogue10]
  simp [catalogue, field]

theorem exec_checkParamSet (h : SetHead) (u f : Fin 4) (v : BitVec 64) (s : State) :
    exec (.checkParamSet h u f v) s = issueOut 0x11 bodySet (setRequest h (checkField f) u v.toNat) s := rfl

theorem checkParamSet_stores {h : SetHead} {s : State} {u f : Fin 4} {v : BitVec 64} (ht : Claims.Takes 0x11 (setRequest h (checkField f) u v.toNat) s)
    (hs : checkStateOf s.dev u ≠ 1) (hv : valueOk s.dev (checkField f) u (v.toNat % 2 ^ (checkField f).width) = true) :
    ∃ t, exec (.checkParamSet h u f v) s = .next t ∧ attr t.dev (checkField f) u = v.toNat % 2 ^ (checkField f).width
      ∧ Claims.KeepsAttrs [((checkField f).code, u)] s t ∧ Claims.KeepsUnits s t := by
  have inst : ∀ f u : Fin 4, instanceOk (checkField f) u = true := by decide
  have field : ∀ f : Fin 4, isBlock (checkField f) = false ∧ (checkField f).code ∉ ownEffects ∧ (checkField f).code ∉ conditioned
      ∧ (checkField f).acc ≠ .ro ∧ (checkField f).code ≠ DEVICE_REPLY_HOLD.code := by decide
  obtain ⟨hblock, hplain, hcond, haccess⟩ := field f
  rw [exec_checkParamSet]
  exact set_stores ht (addressed_of_mem (checkField_mem f) (inst f u)) (by omega) hblock hplain rfl
    (valueCheck_accepts haccess hv ((valueState_unconditioned hcond).trans (if_neg fun h => hs h.2)))

/-! ### SETs with an effect of their own (R39, R67, R201) -/

theorem writeValue_prismPrefix (m v : Nat) (d : Dev) :
    writeValue PRISM_PREFIX m v d = modPrism m (fun x => { x with prefixPending := true }) (setAttr PRISM_PREFIX m v d) := by
  rw [writeValue, if_neg (by decide), if_pos rfl]

theorem writeValue_rateCap (p v : Nat) (d : Dev) : writeValue PORT_RATE_CAP p v d = setRateCap p v d := by
  rw [writeValue, if_neg (by decide), if_neg (by decide), if_pos rfl]

theorem writeValue_snrHistInterval (p v : Nat) (d : Dev) :
    writeValue PORT_SNR_HIST_INTERVAL p v d = clearSnrHistory p (setAttr PORT_SNR_HIST_INTERVAL p v d) := by
  rw [writeValue, if_neg (by decide), if_neg (by decide), if_neg (by decide), if_pos rfl]

theorem exec_prismPrefixSet (h : SetHead) (m : Fin 8) (v : Byte) (s : State) :
    exec (.prismPrefixSet h m v) s = issueOut 0x11 bodySet (setRequest h PRISM_PREFIX m v.toNat) s := rfl

/-- R39: PRISM.PREFIX may be written while no port of the prism is engaged or bound. -/
theorem valueState_prismPrefix {d : Dev} {m : Nat} (hp : ∀ p ∈ portsOfPrism m, engaged d p = false ∧ attr d PORT_CHORD p = 0xFF) (v : Nat) :
    valueState d PRISM_PREFIX m v = none := by
  have free : ((portsOfPrism m).any fun p => engaged d p || attr d PORT_CHORD p != 0xFF) = false := by
    rw [List.any_eq_false]
    intro p hmem
    obtain ⟨hengaged, hchord⟩ := hp p hmem
    simp [hengaged, hchord]
  simp [valueState, free]

theorem prismPrefixSet_writes {h : SetHead} {s : State} {m : Fin 8} {v : Byte} (ht : Claims.Takes 0x11 (setRequest h PRISM_PREFIX m v.toNat) s)
    (hv : v.toNat ≤ 2) (hp : ∀ p ∈ portsOfPrism m, engaged s.dev p = false ∧ attr s.dev PORT_CHORD p = 0xFF) :
    ∃ t, exec (.prismPrefixSet h m v) s = .next t ∧ attr t.dev PRISM_PREFIX m = v.toNat ∧ (prism t.dev m).prefixPending = true
      ∧ Claims.KeepsAttrs [(PRISM_PREFIX.code, m)] s t ∧ t.mem = s.mem := by
  have row : (PRISM_PREFIX, 0, 2, false) ∈ rangeTable := by simp [rangeTable]
  have range : valueOk s.dev PRISM_PREFIX m v.toNat = true := by
    refine valueOk_of_range row (by decide) ?_ fun h => absurd h (by decide)
    simp only [typedValue, PRISM_PREFIX]; omega
  have width : v.toNat % 2 ^ PRISM_PREFIX.width = v.toNat := Nat.mod_eq_of_lt v.isLt
  have inst : instanceOk PRISM_PREFIX m = true := by simp [instanceOk, PRISM_PREFIX, clsDevice, clsDie, clsPrism]
  have done := issue_setRequest ht (addressed_of_mem (by simp [catalogue, catalogue1]) inst) (by omega) rfl width
    (valueCheck_accepts (by decide) range (valueState_prismPrefix hp _))
  rw [writeValue_prismPrefix] at done
  refine ⟨_, congrArg Host.Outcome.next done, ?_, ?_, ?_, rfl⟩
  · rw [attr_answer, attr_congr (modPrism_attrs ..), attr_setAttr, width]
  · rw [prism, answer_prisms]
    exact congrArg Prism.prefixPending (prism_modPrism ..)
  · exact keepsAttrs_answer ((keepsOthers_setAttr _ _ (by decide) (by simp)).trans (keepsOthers_of_attrs (modPrism_attrs ..)))

/-! ### The rate cap (R67) -/

/-- R59, R67: the rates of a port in both directions with its tables in effect. -/
def ratesAt (d : Dev) (p : Nat) : Nat × Nat :=
  (netRate (bitsInEffect (block d PORT_LOADING_TX p) (attr d PORT_RETIRED_TX p)) (attr d PRISM_SYMBOL_PERIOD (prismOf p)),
   netRate (bitsInEffect (block d PORT_LOADING_RX p) (attr d PORT_RETIRED_RX p)) (attr d PRISM_SYMBOL_PERIOD (prismOf p)))

theorem attr_refreshRates_overCap (p : Nat) (d : Dev) :
    attr (refreshRates p d) PORT_OVER_CAP p = 1 ↔ attr d PORT_RATE_CAP p < (ratesAt d p).1 ∨ attr d PORT_RATE_CAP p < (ratesAt d p).2 := by
  have flag : ∀ b : Bool, bitNat b % 2 ^ PORT_OVER_CAP.width = 1 ↔ b = true := by decide
  rw [refreshRates, attr_setAttr, flag, Bool.or_eq_true, decide_eq_true_iff, decide_eq_true_iff]
  rfl

theorem keepsOthers_refreshRates (p : Nat) (d : Dev) : KeepsOthers (Claims.rateAttrs p) d (refreshRates p d) := by
  have stored : ∀ {a : Attr} (v : Nat) (e : Dev), a.code < 2 ^ 24 → (a.code, p) ∈ Claims.rateAttrs p →
      KeepsOthers (Claims.rateAttrs p) e (setAttr a p v e) := fun v e => keepsOthers_setAttr v e
  exact ((((stored _ _ (by decide) (by simp)).trans (stored _ _ (by decide) (by simp))).trans (stored _ _ (by decide) (by simp))).trans
    (stored _ _ (by decide) (by simp))).trans (stored _ _ (by decide) (by simp))

theorem sameUnits_refreshRates (p : Nat) (d : Dev) : SameUnits d (refreshRates p d) :=
  ((((sameUnits_setAttr ..).trans (sameUnits_setAttr ..)).trans (sameUnits_setAttr ..)).trans (sameUnits_setAttr ..)).trans
    (sameUnits_setAttr ..)

theorem ratesAt_setAttr_cap (p v q : Nat) (d : Dev) : ratesAt (setAttr PORT_RATE_CAP q v d) p = ratesAt d p := by
  simp (disch := decide) only [ratesAt, attr_setAttr_ne]
  rfl

theorem ratesAt_takenDev (op : Nat) (r : Req) (s : State) (p : Nat) : ratesAt (takenDev op r s) p = ratesAt s.dev p := by
  simp (disch := decide) only [ratesAt, block_takenDev, attr_takenDev]

theorem eventFrame_setRateCap (p v : Nat) (d : Dev) : EventFrame (refreshRates p (setAttr PORT_RATE_CAP p v d)) (setRateCap p v d) := by
  unfold setRateCap when
  dsimp only
  split
  · exact eventFrame_raise ..
  · exact EventFrame.refl _

/-- No event touches an attribute other than those that count events. -/
theorem keepsOthers_of_eventFrame {changed : List (Nat × Nat)} {d e : Dev} (h : EventFrame d e) : KeepsOthers changed d e := fun b j hb hc _ =>
  h.2 b j ⟨hb, fun k => hc (.inr (.inr (.inl k))), fun k => hc (.inr (.inr (.inr (.inl k)))), fun k => hc (.inr (.inr (.inr (.inr k))))⟩

theorem attr_setRateCap (p v : Nat) (d : Dev) : attr (setRateCap p v d) PORT_RATE_CAP p = v % 2 ^ PORT_RATE_CAP.width := by
  have other : (PORT_RATE_CAP.code, p) ∉ Claims.rateAttrs p := by
    simp [Attr.code, PORT_RATE_CAP, PORT_BITS_TX, PORT_BITS_RX, PORT_NET_RATE_TX, PORT_NET_RATE_RX, PORT_OVER_CAP]
  rw [(eventFrame_setRateCap p v d).2 _ _ (by unfold noEventAttr; decide), keepsOthers_refreshRates p _ _ _ (by decide) (by decide) other, attr_setAttr]

theorem attr_setRateCap_overCap (p v : Nat) (d : Dev) : attr (setRateCap p v d) PORT_OVER_CAP p = 1 ↔
    v % 2 ^ PORT_RATE_CAP.width < (ratesAt d p).1 ∨ v % 2 ^ PORT_RATE_CAP.width < (ratesAt d p).2 := by
  rw [(eventFrame_setRateCap p v d).2 _ _ (by unfold noEventAttr; decide), attr_refreshRates_overCap, attr_setAttr, ratesAt_setAttr_cap]

theorem keepsOthers_setRateCap (p v : Nat) (d : Dev) :
    KeepsOthers ((PORT_RATE_CAP.code, p) :: Claims.rateAttrs p) d (setRateCap p v d) := by
  have rates : KeepsOthers ((PORT_RATE_CAP.code, p) :: Claims.rateAttrs p) (setAttr PORT_RATE_CAP p v d)
      (refreshRates p (setAttr PORT_RATE_CAP p v d)) :=
    fun b j hb hc hn => keepsOthers_refreshRates p _ b j hb hc fun h => hn (List.mem_cons_of_mem _ h)
  exact ((keepsOthers_setAttr _ _ (by decide) (by simp)).trans rates).trans (keepsOthers_of_eventFrame (eventFrame_setRateCap p v d))

theorem sameUnits_setRateCap (p v : Nat) (d : Dev) : SameUnits d (setRateCap p v d) :=
  ((sameUnits_setAttr ..).trans (sameUnits_refreshRates ..)).trans (eventFrame_setRateCap p v d).1

theorem exec_rateCapSet (h : SetHead) (p : Fin 128) (v : BitVec 16) (s : State) :
    exec (.rateCapSet h p v) s = issueOut 0x11 bodySet (setRequest h PORT_RATE_CAP p v.toNat) s := rfl

theorem rateCapSet_writes {h : SetHead} {s : State} {p : Fin 128} {v : BitVec 16} (ht : Claims.Takes 0x11 (setRequest h PORT_RATE_CAP p v.toNat) s)
    (hlo : 1800 ≤ v.toNat) (hhi : v.toNat ≤ 40000) :
    ∃ t, exec (.rateCapSet h p v) s = .next t ∧ attr t.dev PORT_RATE_CAP p = v.toNat
      ∧ (attr t.dev PORT_OVER_CAP p = 1 ↔ v.toNat < (ratesAt s.dev p).1 ∨ v.toNat < (ratesAt s.dev p).2)
      ∧ Claims.KeepsAttrs ((PORT_RATE_CAP.code, p.val) :: Claims.rateAttrs p) s t ∧ Claims.KeepsUnits s t := by
  have row : (PORT_RATE_CAP, 1800, 40000, false) ∈ rangeTable := by simp [rangeTable]
  have range : valueOk s.dev PORT_RATE_CAP p v.toNat = true := by
    refine valueOk_of_range row (by decide) ?_ fun h => absurd h (by decide)
    simp only [typedValue, PORT_RATE_CAP]; omega
  have width : v.toNat % 2 ^ PORT_RATE_CAP.width = v.toNat := Nat.mod_eq_of_lt v.isLt
  have done := issue_setRequest ht (addressed_of_mem (by simp [catalogue, catalogue1]) (instanceOk_port rfl p)) (by omega) rfl width
    (valueCheck_accepts (by decide) range (valueState_unconditioned (by decide)))
  rw [writeValue_rateCap] at done
  refine ⟨_, congrArg Host.Outcome.next done, ?_, ?_, keepsAttrs_answer (keepsOthers_setRateCap _ _ _),
    keepsUnits_answer (sameUnits_setRateCap ..)⟩
  · rw [attr_answer, attr_setRateCap, width]
  · rw [attr_answer, attr_setRateCap_overCap, width, ratesAt_takenDev]

/-! ### The history of the signal-to-noise ratio (R201) -/

@[simp] theorem block_setBlock (a : Attr) (i : Nat) (bs : List Byte) (d : Dev) : block (setBlock a i bs d) a i = fitBytes bs a.size := by
  simp [block, setBlock]

theorem exec_snrHistIntervalSet (h : SetHead) (p : Fin 128) (v : BitVec 16) (s : State) :
    exec (.snrHistIntervalSet h p v) s = issueOut 0x11 bodySet (setRequest h PORT_SNR_HIST_INTERVAL p v.toNat) s := rfl

/-- R201: of the attributes, a history begun again writes its head alone. -/
theorem clearSnrHistory_attrs (p : Nat) (d : Dev) : (clearSnrHistory p d).attrs = (setAttr PORT_SNR_HIST_HEAD p 0xFF d).attrs := rfl

theorem clearSnrHistory_block (p : Nat) (d : Dev) :
    block (clearSnrHistory p d) PORT_SNR_HISTORY p = List.replicate PORT_SNR_HISTORY.size 0#8 := by
  have cleared : block (clearSnrHistory p d) PORT_SNR_HISTORY p = fitBytes [] PORT_SNR_HISTORY.size :=
    (block_congr (arm_blocks ..) _ _).trans (block_setBlock ..)
  rw [cleared, fitBytes, List.nil_append, List.take_replicate, Nat.min_self]

theorem snrHistIntervalSet_writes {h : SetHead} {s : State} {p : Fin 128} {v : BitVec 16}
    (ht : Claims.Takes 0x11 (setRequest h PORT_SNR_HIST_INTERVAL p v.toNat) s) (hlo : 10 ≤ v.toNat) (hhi : v.toNat ≤ 60000) :
    ∃ t, exec (.snrHistIntervalSet h p v) s = .next t ∧ attr t.dev PORT_SNR_HIST_INTERVAL p = v.toNat ∧ attr t.dev PORT_SNR_HIST_HEAD p = 0xFF
      ∧ block t.dev PORT_SNR_HISTORY p = List.replicate PORT_SNR_HISTORY.size 0#8
      ∧ Claims.KeepsAttrs [(PORT_SNR_HIST_INTERVAL.code, p.val), (PORT_SNR_HIST_HEAD.code, p.val)] s t ∧ t.mem = s.mem := by
  have row : (PORT_SNR_HIST_INTERVAL, 10, 60000, false) ∈ rangeTable := by simp [rangeTable]
  have range : valueOk s.dev PORT_SNR_HIST_INTERVAL p v.toNat = true := by
    refine valueOk_of_range row (by decide) ?_ fun h => absurd h (by decide)
    simp only [typedValue, PORT_SNR_HIST_INTERVAL]; omega
  have width : v.toNat % 2 ^ PORT_SNR_HIST_INTERVAL.width = v.toNat := Nat.mod_eq_of_lt v.isLt
  have done := issue_setRequest ht (addressed_of_mem (by simp [catalogue, catalogue4]) (instanceOk_port rfl p)) (by omega) rfl width
    (valueCheck_accepts (by decide) range (valueState_unconditioned (by decide)))
  rw [writeValue_snrHistInterval] at done
  refine ⟨_, congrArg Host.Outcome.next done, ?_, ?_, ?_, ?_, rfl⟩
  · rw [attr_answer, attr_congr (clearSnrHistory_attrs ..), attr_setAttr_ne _ _ _ _ (by decide) (by decide) (by decide), attr_setAttr, width]
  · rw [attr_answer, attr_congr (clearSnrHistory_attrs ..), attr_setAttr]
    rfl
  · exact (block_congr (answer_blocks ..) _ _).trans (clearSnrHistory_block ..)
  · exact keepsAttrs_answer (((keepsOthers_setAttr _ _ (by decide) (by simp)).trans (keepsOthers_setAttr _ _ (by decide) (by simp))).trans
      (keepsOthers_of_attrs (clearSnrHistory_attrs ..)))

/-! ### SET_BLOCKs (R58, R62) -/

theorem blockCheck_accepts {d : Dev} {a : Attr} {i off : Nat} {data : List Byte} (hr : a.acc ≠ .ro) (hs : off + data.length ≤ a.size)
    (ho : blockOk d a i (spliceBytes (block d a i) off data) = true) (he : a.code = PORT_TONE_MASK.code → engaged d i = false) :
    blockCheck d a i off data = none := by
  have state : ¬(a.code = PORT_TONE_MASK.code ∧ engaged d i = true) := fun h => by simp [he h.1] at h
  rw [blockCheck, if_neg hr, if_neg (Nat.not_lt.2 hs), ho, if_neg (by decide), if_neg state]

/-- R323: accepted bytes stand from the offset on, and no attribute and no memory changes. -/
theorem setBlock_writes {h : SetHead} {a : Attr} {p : Fin 128} {offset : BitVec 32} {data : List Byte} {s : State}
    (ht : Claims.Takes 0x13 (setBlockRequest h a p offset.toNat data) s) (ha : a ∈ catalogue) (hp : a.cls = clsPort) (hd : data ≠ [])
    (hl : data.length ≤ 1012) (hb : isBlock a = true) (hc : blockCheck s.dev a p offset.toNat data = none) :
    ∃ t, issueOut 0x13 bodySetBlock (setBlockRequest h a p offset.toNat data) s = .next t
      ∧ block t.dev a p = fitBytes (spliceBytes (block s.dev a p) offset.toNat data) a.size ∧ Claims.KeepsAttrs [] s t ∧ t.mem = s.mem := by
  have done := issue_setBlockRequest ht (addressed_of_mem ha (instanceOk_port hp p)) (by omega) offset.isLt hd hl hb hc
  refine ⟨_, congrArg Host.Outcome.next done, ?_, ?_, rfl⟩
  · rw [block_congr (answer_blocks ..), writeBytes, block_setBlock, block_takenDev]
  · exact keepsAttrs_answer (keepsOthers_of_attrs (setBlock_attrs ..))

theorem stageTable_mem (table : Fin 4) : stageTable table ∈ catalogue := by
  have staged : stageTable table ∈ catalogue0 := by
    unfold stageTable
    split_ifs <;> simp [catalogue0]
  simp [catalogue, staged]

theorem exec_stageTableWrite (h : SetHead) (p : Fin 128) (table : Fin 4) (offset : BitVec 32) (data : List Byte) (s : State) :
    exec (.stageTableWrite h p table offset data) s
      = issueOut 0x13 bodySetBlock (setBlockRequest h (stageTable table) p offset.toNat data) s := rfl

theorem exec_toneMaskSet (h : SetHead) (p : Fin 128) (offset : BitVec 32) (data : List Byte) (s : State) :
    exec (.toneMaskSet h p offset data) s = issueOut 0x13 bodySetBlock (setBlockRequest h PORT_TONE_MASK p offset.toNat data) s := rfl

section Blocks
variable {h : SetHead} {p : Fin 128} {offset : BitVec 32} {data : List Byte} {s : State}

theorem stageTableWrite_writes {table : Fin 4} (hd : data ≠ []) (hl : data.length ≤ 1012)
    (ht : Claims.Takes 0x13 (setBlockRequest h (stageTable table) p offset.toNat data) s)
    (hs : offset.toNat + data.length ≤ (stageTable table).size)
    (ho : blockOk s.dev (stageTable table) p (spliceBytes (block s.dev (stageTable table) p) offset.toNat data) = true) :
    ∃ t, exec (.stageTableWrite h p table offset data) s = .next t
      ∧ block t.dev (stageTable table) p = fitBytes (spliceBytes (block s.dev (stageTable table) p) offset.toNat data) (stageTable table).size
      ∧ Claims.KeepsAttrs [] s t ∧ t.mem = s.mem := by
  have fields : ∀ n : Fin 4, (stageTable n).cls = clsPort ∧ isBlock (stageTable n) = true ∧ (stageTable n).acc ≠ .ro
      ∧ (stageTable n).code ≠ PORT_TONE_MASK.code := by decide
  obtain ⟨hport, hblock, haccess, hcode⟩ := fields table
  rw [exec_stageTableWrite]
  exact setBlock_writes ht (stageTable_mem table) hport hd hl hblock (blockCheck_accepts haccess hs ho fun hmask => absurd hmask hcode)

theorem toneMaskSet_writes (hd : data ≠ []) (hl : data.length ≤ 1012)
    (ht : Claims.Takes 0x13 (setBlockRequest h PORT_TONE_MASK p offset.toNat data) s) (hs : offset.toNat + data.length ≤ 64)
    (he : engaged s.dev p = false) (ho : toneMaskOk (spliceBytes (block s.dev PORT_TONE_MASK p) offset.toNat data) = true) :
    ∃ t, exec (.toneMaskSet h p offset data) s = .next t
      ∧ block t.dev PORT_TONE_MASK p = fitBytes (spliceBytes (block s.dev PORT_TONE_MASK p) offset.toNat data) 64
      ∧ Claims.KeepsAttrs [] s t ∧ t.mem = s.mem := by
  have ok : blockOk s.dev PORT_TONE_MASK p (spliceBytes (block s.dev PORT_TONE_MASK p) offset.toNat data) = true := by
    rw [blockOk, if_pos rfl, ho]
  rw [exec_toneMaskSet]
  exact setBlock_writes ht (by simp [catalogue, catalogue1]) rfl hd hl rfl (blockCheck_accepts (by decide) hs ok fun _ => he)

end Blocks

/-! ### Records freed (R214) -/

/-- R214: one record given back: an armed snapshot ends, and the record is free. -/
def freeRecord (r : Nat) (d : Dev) : Dev :=
  match snapshotOf d r with
  | some _ => endSnapshot r stAborted endHost 0 d
  | none => setRecord r 0 d

theorem freeRecords_eq (v : Nat) (d : Dev) : freeRecords v d = forAll ((List.range 8).filter (bitOf v)) freeRecord d := rfl

theorem writeValue_snapReady (v : Nat) (d : Dev) : writeValue DEVICE_SNAP_READY 0 v d = freeRecords v d := by
  rw [writeValue, if_pos rfl]

/-- A clear bit set by addition moves no other bit. -/
theorem testBit_two_pow_add_of_clear {y r n : Nat} (hr : y.testBit r = false) (hn : n ≠ r) : (2 ^ r + y).testBit n = y.testBit n := by
  rcases hn.lt_or_gt with h | h
  · exact Nat.testBit_two_pow_add_gt h y
  · have upper : (2 ^ r + y) / 2 ^ (r + 1) = y / 2 ^ (r + 1) := by
      rw [Nat.testBit_eq_decide_div_mod_eq, decide_eq_false_iff_not] at hr
      rw [Nat.pow_succ, ← Nat.div_div_eq_div_mul, ← Nat.div_div_eq_div_mul, Nat.add_div_left _ (Nat.two_pow_pos r)]
      omega
    obtain ⟨k, rfl⟩ := Nat.exists_eq_add_of_le' (Nat.succ_le_of_lt h)
    rw [Nat.testBit_add, upper, Nat.testBit_add]

/-- A bit cleared is 0 and every other bit stands. -/
theorem bitOf_withBit_false (v r n : Nat) : bitOf (withBit v r false) n = (bitOf v n && n != r) := by
  have raised : (v ||| 2 ^ r).testBit r = true := by simp
  obtain ⟨y, hy⟩ := Nat.exists_eq_add_of_le (Nat.ge_two_pow_of_testBit raised)
  have value : withBit v r false = y := by simp [withBit, hy]
  have clear : y.testBit r = false := by
    rw [hy, Nat.testBit_two_pow_add_eq] at raised
    simpa using raised
  rw [value, bitOf, bitOf]
  by_cases h : n = r
  · simp [h, clear]
  · rw [← testBit_two_pow_add_of_clear clear h, ← hy, Nat.testBit_or, Nat.testBit_two_pow_of_ne (Ne.symm h)]
    simp [h]

theorem bitOf_setRecord_ready (r : Nat) (d : Dev) {n : Nat} (hn : n < 8) :
    bitOf (attr (setRecord r 0 d) DEVICE_SNAP_READY 0) n = (bitOf (attr d DEVICE_SNAP_READY 0) n && n != r) := by
  rw [← bitOf_withBit_false, setRecord, attr_setAttr, bitOf, show DEVICE_SNAP_READY.width = 8 from rfl, Nat.testBit_mod_two_pow,
    decide_eq_true hn, Bool.true_and]
  rfl

/-- R213, R214: the end of an armed snapshot leaves the flags of the records as its own record's new state makes them. -/
theorem attr_endSnapshot_ready {r : Nat} {d : Dev} {x : Snapshot} (h : snapshotOf d r = some x) (status cause st : Nat) :
    attr (endSnapshot r status cause st d) DEVICE_SNAP_READY 0 = attr (setRecord r st d) DEVICE_SNAP_READY 0 := by
  unfold endSnapshot
  rw [h]
  dsimp only
  rw [attr_complete _ _ _ _ _ _ _ _ _ (by unfold noEventAttr; decide)]
  split
  · exact (attr_setAttr_ne _ _ _ _ (by decide) (by decide) (by decide)).trans rfl
  · rfl

theorem bitOf_freeRecord_ready (r : Nat) (d : Dev) {n : Nat} (hn : n < 8) :
    bitOf (attr (freeRecord r d) DEVICE_SNAP_READY 0) n = (bitOf (attr d DEVICE_SNAP_READY 0) n && n != r) := by
  unfold freeRecord
  split
  · next x hx => rw [attr_endSnapshot_ready hx, bitOf_setRecord_ready r d hn]
  · exact bitOf_setRecord_ready r d hn

theorem bitOf_forAll_freeRecord (l : List Nat) (d : Dev) {n : Nat} (hn : n < 8) :
    bitOf (attr (forAll l freeRecord d) DEVICE_SNAP_READY 0) n = (bitOf (attr d DEVICE_SNAP_READY 0) n && !l.contains n) := by
  induction l generalizing d with
  | nil => simp [forAll]
  | cons r l ih =>
    have rest : forAll (r :: l) freeRecord d = forAll l freeRecord (freeRecord r d) := rfl
    rw [rest, ih, bitOf_freeRecord_ready r d hn, List.contains_cons, Bool.not_or, Bool.and_assoc]
    rfl

/-- R214: exactly the records written with 1 are no longer ready. -/
theorem bitOf_freeRecords_ready (v : Nat) (d : Dev) {n : Nat} (hn : n < 8) :
    bitOf (attr (freeRecords v d) DEVICE_SNAP_READY 0) n = (bitOf (attr d DEVICE_SNAP_READY 0) n && !bitOf v n) := by
  have written : ((List.range 8).filter (bitOf v)).contains n = bitOf v n := by
    rw [Bool.eq_iff_iff]
    simp [hn]
  rw [freeRecords_eq, bitOf_forAll_freeRecord _ _ hn, written]

/-- R214: with no snapshot armed, records freed change their flags alone. -/
theorem keepsOthers_forAll_freeRecord (l : List Nat) {d : Dev} (h : ∀ r, snapshotOf d r = none) :
    KeepsOthers [(DEVICE_SNAP_READY.code, 0)] d (forAll l freeRecord d) := by
  induction l generalizing d with
  | nil => exact fun _ _ _ _ _ => rfl
  | cons r l ih =>
    have freed : freeRecord r d = setRecord r 0 d := by rw [freeRecord, h r]
    have rest : forAll (r :: l) freeRecord d = forAll l freeRecord (setRecord r 0 d) := by rw [← freed]; rfl
    have flags : KeepsOthers [(DEVICE_SNAP_READY.code, 0)] d (setRecord r 0 d) :=
      KeepsOthers.trans (keepsOthers_of_attrs (setBlock_attrs ..)) (keepsOthers_setAttr _ _ (by decide) (by simp))
    rw [rest]
    exact flags.trans (ih h)

theorem keepsOthers_freeRecords (v : Nat) {d : Dev} (h : ∀ r, snapshotOf d r = none) :
    KeepsOthers [(DEVICE_SNAP_READY.code, 0)] d (freeRecords v d) := by
  rw [freeRecords_eq]
  exact keepsOthers_forAll_freeRecord _ h

theorem snapshotOf_takenDev (op : Nat) (r : Req) (s : State) (n : Nat) : snapshotOf (takenDev op r s) n = snapshotOf s.dev n := by
  rw [snapshotOf, takenDev_snapshots]
  rfl

theorem exec_snapReadyWrite (h : SetHead) (v : Byte) (s : State) :
    exec (.snapReadyWrite h v) s = issueOut 0x11 bodySet (setRequest h DEVICE_SNAP_READY 0 v.toNat) s := rfl

theorem snapReadyWrite_frees {h : SetHead} {s : State} {v : Byte} (ht : Claims.Takes 0x11 (setRequest h DEVICE_SNAP_READY 0 v.toNat) s) :
    ∃ t, exec (.snapReadyWrite h v) s = .next t
      ∧ (∀ n : Fin 8, bitOf (attr t.dev DEVICE_SNAP_READY 0) n = (bitOf (attr s.dev DEVICE_SNAP_READY 0) n && !bitOf v.toNat n))
      ∧ ((∀ n, snapshotOf s.dev n = none) → Claims.KeepsAttrs [(DEVICE_SNAP_READY.code, 0)] s t) ∧ t.mem = s.mem := by
  have range : valueOk s.dev DEVICE_SNAP_READY 0 v.toNat = true :=
    valueOk_of_unranged (by decide) (by decide) fun h => absurd h (by decide)
  have done := issue_setRequest ht (addressed_of_mem (by simp [catalogue, catalogue4]) (by decide)) (by omega) rfl (Nat.mod_eq_of_lt v.isLt)
    (valueCheck_accepts (by decide) range (valueState_unconditioned (by decide)))
  rw [writeValue_snapReady] at done
  refine ⟨_, congrArg Host.Outcome.next done, fun n => ?_, fun hn => ?_, rfl⟩
  · rw [attr_answer, bitOf_freeRecords_ready _ _ n.isLt, attr_takenDev _ _ _ _ _ (by decide) (by decide) (by decide)]
  · exact keepsAttrs_answer (keepsOthers_freeRecords _ fun r => (snapshotOf_takenDev ..).trans (hn r))

/-! ### O16 -/

/-- Settles O16. Each row is the SET or SET_BLOCK of its attribute, whose checks the hypotheses of its clause pass: four of them only
store; PRISM.PREFIX, the rate cap and the interval of the history have the effect that `writeValue` gives them (assumption 65 for the
history); a write to SNAP_READY frees records one after another. -/
theorem namedSetsWrite : Obligations.named_sets_write := by
  refine ⟨fun h s => ⟨?cyclic, ?psd, ?cap, ?history, ?retry, ?deadline, ?check, ?ready⟩, fun h p offset data s hd hl => ⟨?table, ?mask⟩⟩
  case cyclic => exact fun m v ht hv hp => prismPrefixSet_writes ht hv hp
  case psd => exact fun p v ht hlo hhi hstep => txPsdSet_stores ht hlo hhi hstep
  case cap => exact fun p v ht hlo hhi => rateCapSet_writes ht hlo hhi
  case history => exact fun p v ht hlo hhi => snrHistIntervalSet_writes ht hlo hhi
  case retry => exact fun p v ht hv => recastRetrySet_stores ht hv
  case deadline => exact fun p v ht hv => recastDeadlineSet_stores ht hv
  case check => exact fun u f v ht hs hv => checkParamSet_stores ht hs hv
  case ready => exact fun v ht => snapReadyWrite_frees ht
  case table => exact fun table ht hs ho => stageTableWrite_writes hd hl ht hs ho
  case mask => exact fun ht hs he ho => toneMaskSet_writes hd hl ht hs he ho

end Sys2Proof.Machine

namespace Sys2Proof.Machine

/-! ### Attributes that the upkeep of a line leaves alone -/

@[simp] theorem attr_modPort (p : Nat) (f : Port → Port) (d : Dev) (b : Attr) (i : Nat) : attr (modPort p f d) b i = attr d b i := rfl
@[simp] theorem attr_modRx (p : Nat) (f : PortRx → PortRx) (d : Dev) (b : Attr) (i : Nat) : attr (modRx p f d) b i = attr d b i := rfl
@[simp] theorem attr_modTx (p : Nat) (f : PortTx → PortTx) (d : Dev) (b : Attr) (i : Nat) : attr (modTx p f d) b i = attr d b i := rfl
@[simp] theorem attr_modRecast (p : Nat) (f : Recast → Recast) (d : Dev) (b : Attr) (i : Nat) : attr (modRecast p f d) b i = attr d b i := rfl
@[simp] theorem attr_modSvc (p : Nat) (f : Svc → Svc) (d : Dev) (b : Attr) (i : Nat) : attr (modSvc p f d) b i = attr d b i := rfl
@[simp] theorem attr_modPeer (p n : Nat) (f : SvcPeer → SvcPeer) (d : Dev) (b : Attr) (i : Nat) : attr (modPeer p n f d) b i = attr d b i := rfl
@[simp] theorem attr_modQuiet (p : Nat) (f : QuietState → QuietState) (d : Dev) (b : Attr) (i : Nat) : attr (modQuiet p f d) b i = attr d b i := rfl
@[simp] theorem attr_modPrism (m : Nat) (f : Prism → Prism) (d : Dev) (b : Attr) (i : Nat) : attr (modPrism m f d) b i = attr d b i := rfl
@[simp] theorem attr_modCal (f : Cal → Cal) (d : Dev) (b : Attr) (i : Nat) : attr (modCal f d) b i = attr d b i := rfl
@[simp] theorem attr_disarm (k j : Nat) (d : Dev) (b : Attr) (i : Nat) : attr (disarm k j d) b i = attr d b i := rfl
@[simp] theorem attr_setBlock (a : Attr) (j : Nat) (bs : List Byte) (d : Dev) (b : Attr) (i : Nat) : attr (setBlock a j bs d) b i = attr d b i := rfl
@[simp] theorem attr_setBlockByte (a : Attr) (j k v : Nat) (d : Dev) (b : Attr) (i : Nat) : attr (setBlockByte a j k v d) b i = attr d b i := rfl

@[simp] theorem attr_stopSlice (region : Nat) (d : Dev) (b : Attr) (i : Nat) : attr (stopSlice region d) b i = attr d b i := by
  obtain ⟨x, h⟩ := stopSlice_eq region d
  rw [h]
  rfl

/-- What each step of a list leaves alone, all of them do. -/
theorem attr_foldl {α : Type} {g : Dev → α → Dev} {b : Attr} {i : Nat} (h : ∀ e x, attr (g e x) b i = attr e b i) (l : List α) (d : Dev) :
    attr (l.foldl g d) b i = attr d b i := by
  induction l generalizing d with
  | nil => rfl
  | cons x l ih => exact (ih _).trans (h d x)

theorem attr_forAll {g : Nat → Dev → Dev} {b : Attr} {i : Nat} (h : ∀ k e, attr (g k e) b i = attr e b i) (l : List Nat) (d : Dev) :
    attr (forAll l g d) b i = attr d b i := attr_foldl (fun e k => h k e) l d

theorem attr_when {g : Dev → Dev} {b : Attr} {i : Nat} (h : ∀ e, attr (g e) b i = attr e b i) (c : Bool) (d : Dev) :
    attr (when c g d) b i = attr d b i := by
  unfold when
  split
  · exact h d
  · rfl

/-- The attributes written where a port falls silent (LISTEN, DOWN) and where containers are taken, but for the port's state, its counts of
losses and of accepted containers and the highest number received. -/
def upkeepAttrs : List Attr :=
  [DEVICE_EVENT_SEQ_NEXT, EVENTQ_QUEUED, EVENTQ_LOST, DEVICE_SNAP_READY, CAL_STALE, PRISM_ADMISSION_PORT, PRISM_CLOCK_SOURCE, PRISM_CLOCK_PORT,
   PRISM_CLOCK_SLEWING, FLOW_DROP_LINK, FLOW_DROP_LINE, FLOW_DROP_NO_PATH, FLOW_TS_RX, FLOW_TS_INVALID, FLOW_TS_TX_REPORTS, PORT_UNMAPPED_DROPS,
   PORT_EGRESS_FILL, PORT_OVERSUB, PORT_RESYNC_DISCARDS, PORT_FCS_DROPS, PORT_RECAST_DROPPED, PORT_NAK_IGNORED, PORT_NOTICE_REJECTS,
   PORT_CONT_CORRECTED, PORT_RS_SYMBOLS_CORRECTED, PORT_LOADING_GEN, PORT_QUIET_STATE, PORT_WAKE_PENDING, PORT_RX_STATE, PORT_SWAP_STATE,
   PORT_SWAP_SF, PORT_CLAIMS, PORT_LQ_RX, PORT_LQ_RX_AVG, PORT_MARGIN_RX, PORT_BITS_TX, PORT_BITS_RX, PORT_NET_RATE_TX, PORT_NET_RATE_RX,
   PORT_RETIRED_TX, PORT_RETIRED_RX, PORT_INTERLEAVE_NOW, PORT_OVER_CAP, PORT_CLASS_NOW, PORT_TRAIN_PHASE, SVC_ROLE, SVC_RX_QUEUE, SVC_TX_QUEUE,
   SVC_NODE_PRESENT]

/-- None of these attributes. -/
def Bystander (b : Attr) : Prop := b.code < 2 ^ 24 ∧ b.code ∉ upkeepAttrs.map Attr.code

theorem upkeep_code_lt : ∀ c ∈ upkeepAttrs.map Attr.code, c < 2 ^ 24 := by decide

namespace Bystander

variable {b : Attr}

theorem code_ne (hb : Bystander b) {a : Attr} (ha : a.code ∈ upkeepAttrs.map Attr.code) : b.code ≠ a.code := by
  obtain ⟨_, hn⟩ := hb
  intro h
  rw [h] at hn
  exact hn ha

theorem attr_setAttr (hb : Bystander b) {a : Attr} (ha : a.code ∈ upkeepAttrs.map Attr.code) (j v : Nat) (d : Dev) (i : Nat) :
    attr (setAttr a j v d) b i = attr d b i :=
  attr_setAttr_ne j v i d (hb.code_ne ha) (upkeep_code_lt _ ha) hb.1

theorem attr_bump (hb : Bystander b) {a : Attr} (ha : a.code ∈ upkeepAttrs.map Attr.code) (j n : Nat) (d : Dev) (i : Nat) :
    attr (bump a j n d) b i = attr d b i := hb.attr_setAttr ha j _ d i

theorem noEvent (hb : Bystander b) : noEventAttr b :=
  ⟨hb.1, hb.code_ne (by decide), hb.code_ne (by decide), hb.code_ne (by decide)⟩

theorem attr_raise (hb : Bystander b) (cls inst type detail : Nat) (d : Dev) (i : Nat) : attr (raise cls inst type detail d) b i = attr d b i :=
  Machine.attr_raise cls inst type detail d b i hb.noEvent

theorem attr_complete (hb : Bystander b) (j : JobRef) (cls inst type status : Nat) (result : List Byte) (d : Dev) (i : Nat) :
    attr (complete j cls inst type status result d) b i = attr d b i := Machine.attr_complete j cls inst type status result d b i hb.noEvent

theorem attr_resetAttrs (hb : Bystander b) {as : List Attr} (ha : ∀ a ∈ as, a.code ∈ upkeepAttrs.map Attr.code) (p : Nat) (d : Dev) (i : Nat) :
    attr (resetAttrs as p d) b i = attr d b i := by
  induction as generalizing d with
  | nil => rfl
  | cons a as ih => exact (ih (fun x hx => ha x (List.mem_cons_of_mem a hx)) _).trans (hb.attr_setAttr (ha a List.mem_cons_self) p _ d i)

/-! ### Losses on the line and the stores of a port (R273, R276, R295) -/

theorem attr_lineDrop (hb : Bystander b) (p cls n : Nat) (d : Dev) (i : Nat) : attr (lineDrop p cls n d) b i = attr d b i := by
  unfold lineDrop
  split
  · rfl
  · split
    · exact hb.attr_bump (a := FLOW_DROP_LINE) (by decide) _ _ _ i
    · exact hb.attr_bump (by decide) _ _ _ i

theorem attr_frameFromLine (hb : Bystander b) (p cls : Nat) (bytes : List Byte) (stamp : Option Nat) (d : Dev) (i : Nat) :
    attr (frameFromLine p cls bytes stamp d) b i = attr d b i := by
  unfold frameFromLine
  split
  · exact hb.attr_bump (by decide) _ _ _ i
  · dsimp only
    split
    · exact hb.attr_bump (a := FLOW_DROP_LINK) (by decide) _ _ _ i
    · split
      · split
        · exact hb.attr_bump (a := FLOW_TS_RX) (by decide) _ _ (innerPush _ _ _ d) i
        · exact hb.attr_bump (a := FLOW_TS_INVALID) (by decide) _ _ (innerPush _ _ _ d) i
      · rfl

theorem attr_reportDropped (hb : Bystander b) (f tsKind tag : Nat) (d : Dev) (i : Nat) : attr (reportDropped f tsKind tag d) b i = attr d b i := by
  unfold reportDropped
  split
  · exact hb.attr_bump (a := FLOW_TS_TX_REPORTS) (by decide) _ _ (innerPush _ _ _ d) i
  · rfl

theorem attr_setEgress (hb : Bystander b) (p : Nat) (l : List EgressFrame) (d : Dev) (i : Nat) : attr (setEgress p l d) b i = attr d b i :=
  hb.attr_setAttr (a := PORT_EGRESS_FILL) (by decide) ..

theorem attr_dropNoPath (hb : Bystander b) (f tsKind tag : Nat) (d : Dev) (i : Nat) :
    attr (dropFromHost FLOW_DROP_NO_PATH f tsKind tag d) b i = attr d b i := by
  rw [dropFromHost, hb.attr_reportDropped, hb.attr_bump (by decide)]

theorem attr_dropPortStores (hb : Bystander b) (p : Nat) (d : Dev) (i : Nat) : attr (dropPortStores p d) b i = attr d b i := by
  unfold dropPortStores
  dsimp only
  rw [hb.attr_setEgress, attr_modPort, attr_forAll fun f e => ?closed, attr_forAll fun f e => ?discarded,
    attr_foldl fun e x => hb.attr_dropNoPath .., attr_foldl fun e x => hb.attr_dropNoPath ..]
  case closed => rfl
  case discarded => rfl

end Bystander

/-! ### What goes on among containers leaves alone (R117 to R123) -/

theorem port_congr {d e : Dev} (h : e.ports = d.ports) (p : Nat) : port e p = port d p := by rw [port, port, h]

theorem bump_ports (a : Attr) (i n : Nat) (d : Dev) : (bump a i n d).ports = d.ports := rfl

theorem lineDrop_ports (p cls n : Nat) (d : Dev) : (lineDrop p cls n d).ports = d.ports := by
  unfold lineDrop
  split
  · rfl
  · split <;> rfl

theorem frameFromLine_ports (p cls : Nat) (bytes : List Byte) (stamp : Option Nat) (d : Dev) : (frameFromLine p cls bytes stamp d).ports = d.ports := by
  unfold frameFromLine
  split
  · rfl
  · dsimp only
    split
    · rfl
    · split
      · split <;> rfl
      · rfl

/-- Of port `p`, the quiet state and the run of rejected containers stand as before, and so do all attributes that containers, holes and
frames do not write. -/
structure RecastFrame (p : Nat) (d e : Dev) : Prop where
  attrs : ∀ b, Bystander b → ∀ i, attr e b i = attr d b i
  quiet : quiet e p = quiet d p
  rejects : (recast e p).rejects = (recast d p).rejects

namespace RecastFrame

variable {p : Nat} {d e f : Dev}

theorem refl (p : Nat) (d : Dev) : RecastFrame p d d := ⟨fun _ _ _ => rfl, rfl, rfl⟩

/-- Transitivity with the later step first, in the order in which the model writes its steps. -/
theorem after (k : RecastFrame p e f) (h : RecastFrame p d e) : RecastFrame p d f :=
  ⟨fun b hb i => (k.attrs b hb i).trans (h.attrs b hb i), k.quiet.trans h.quiet, k.rejects.trans h.rejects⟩

theorem of_ports (h : e.ports = d.ports) (ha : ∀ b, Bystander b → ∀ i, attr e b i = attr d b i) : RecastFrame p d e :=
  ⟨ha, congrArg Port.quiet (port_congr h p), congrArg (fun x => x.recast.rejects) (port_congr h p)⟩

theorem of_port (h : (port e p).quiet = (port d p).quiet) (hr : (port e p).recast.rejects = (port d p).recast.rejects) (ha : e.attrs = d.attrs) :
    RecastFrame p d e := ⟨fun b _ i => attr_congr ha b i, h, hr⟩

theorem modRecast {g : Recast → Recast} (hg : ∀ x, (g x).rejects = x.rejects := by exact fun _ => rfl) : RecastFrame p d (modRecast p g d) :=
  of_port (by rw [port_modRecast]) (by rw [port_modRecast]; exact hg _) rfl

theorem modRx (g : PortRx → PortRx) (p : Nat) (d : Dev) : RecastFrame p d (modRx p g d) :=
  of_port (by rw [port_modRx]) (by rw [port_modRx]) rfl

theorem modTrain (g : Training → Training) (p : Nat) (d : Dev) : RecastFrame p d (modTrain p g d) :=
  of_port (by rw [port_modTrain]) (by rw [port_modTrain]) rfl

theorem bump {a : Attr} (ha : a.code ∈ upkeepAttrs.map Attr.code) (j n p : Nat) (d : Dev) : RecastFrame p d (bump a j n d) :=
  of_ports rfl fun _ hb => hb.attr_bump ha j n d

theorem lineDrop (p q cls n : Nat) (d : Dev) : RecastFrame p d (lineDrop q cls n d) :=
  of_ports (lineDrop_ports ..) fun _ hb _ => hb.attr_lineDrop ..

theorem frameFromLine (p q cls : Nat) (bytes : List Byte) (stamp : Option Nat) (d : Dev) : RecastFrame p d (frameFromLine q cls bytes stamp d) :=
  of_ports (frameFromLine_ports ..) fun _ hb _ => hb.attr_frameFromLine ..

theorem foldl {α : Type} {g : Dev → α → Dev} (h : ∀ e x, RecastFrame p e (g e x)) (l : List α) (d : Dev) : RecastFrame p d (l.foldl g d) := by
  induction l generalizing d with
  | nil => exact refl p d
  | cons x l ih => exact after (ih _) (h d x)

theorem breakFrames (p : Nat) (d : Dev) : RecastFrame p d (breakFrames p d) := by
  unfold Machine.breakFrames
  exact after (foldl (fun _ _ => lineDrop ..) ..) modRecast

theorem appendSegment (p : Nat) (s : Segment) (d : Dev) : RecastFrame p d (appendSegment p s d) := by
  unfold Machine.appendSegment
  dsimp only
  split
  · exact breakFrames p d
  · split
    · split
      · exact after (lineDrop ..) (after (bump (by decide) ..) modRecast)
      · exact refl p d
    · split
      · split
        · exact after (frameFromLine ..) modRecast
        · exact after (lineDrop ..) (after (bump (by decide) ..) modRecast)
      · exact modRecast

theorem releaseReady (p : Nat) (d : Dev) : RecastFrame p d (releaseReady p d) := by
  unfold Machine.releaseReady
  exact after (foldl (fun _ _ => foldl (fun _ _ => appendSegment ..) ..) ..) modRecast

theorem dropHole (p s : Nat) (d : Dev) : RecastFrame p d (dropHole p s d) := by
  unfold Machine.dropHole
  split
  · exact after (releaseReady ..) (after (bump (by decide) ..) modRecast)
  · exact refl p d

theorem dropAllHoles (p : Nat) (d : Dev) : RecastFrame p d (dropAllHoles p d) := foldl (fun _ _ => dropHole ..) _ d

theorem dropFarHoles (p : Nat) (d : Dev) : RecastFrame p d (dropFarHoles p d) := foldl (fun _ _ => dropHole ..) _ d

theorem fitReorder (p n : Nat) (d : Dev) : RecastFrame p d (fitReorder p n d) := by
  induction n generalizing d with
  | zero => exact refl p d
  | succ n ih =>
    unfold Machine.fitReorder
    split
    · exact refl p d
    · split
      · exact refl p d
      · exact after (ih _) (dropHole ..)

/-- A container stored and counted, what may go released, and holes dropped until the rest fits. -/
theorem storeAccepted (p s : Nat) (segs : List Segment) (d : Dev) :
    RecastFrame p (Machine.bump PORT_CONT_ACCEPTED p 1 d) (storeAccepted p s segs d) := by
  unfold Machine.storeAccepted
  refine after (fitReorder ..) (after (releaseReady ..) ?_)
  exact modRecast (p := p) (d := Machine.bump PORT_CONT_ACCEPTED p 1 d) (g := fun x => { x with reorder := insertReorder s segs x.reorder })

theorem queueNak (p s : Nat) (d : Dev) : RecastFrame p d (queueNak p s d) :=
  modRecast fun x => by split <;> rfl

theorem makeHole (p s : Nat) (d : Dev) : RecastFrame p d (makeHole p s d) := by
  unfold Machine.makeHole
  dsimp only
  split
  · exact refl p d
  · split
    · exact modRecast
    · exact after (queueNak ..) modRecast

theorem makeHoles (p h n : Nat) (d : Dev) : RecastFrame p d (makeHoles p h n d) := foldl (fun _ _ => makeHole ..) _ d

/-! ### Feedback received (R88, R89, R120) -/

theorem takeNak (p s : Nat) (d : Dev) : RecastFrame p d (takeNak p s d) := by
  unfold Machine.takeNak
  split
  · exact modRecast
  · exact bump (by decide) ..

theorem partnerNotice (p set sf : Nat) (d : Dev) : RecastFrame p d (partnerNotice p set sf d) := by
  unfold Machine.partnerNotice
  dsimp only
  split
  · exact refl p d
  · split
    · exact modRx ..
    · exact after (bump (by decide) ..) (modRx ..)

theorem takeFeedback (p h : Nat) (d : Dev) : RecastFrame p d (takeFeedback p h d) := by
  have naks : RecastFrame p d (if nakRun h = [] then d
      else forAll (nakRun h) (Machine.takeNak p) (Machine.modRecast p (fun x => { x with partnerNakAt := d.elapsed + 1 }) d)) := by
    split
    · exact refl p d
    · exact after (foldl (fun _ _ => takeNak ..) ..) modRecast
  unfold Machine.takeFeedback
  dsimp only
  split
  · exact after (partnerNotice ..) naks
  · exact naks

theorem countGeneration (p : Nat) (before d : Dev) : RecastFrame p d (countGeneration p before d) := by
  unfold Machine.countGeneration
  split
  · exact refl p d
  · exact after (bump (by decide) ..) (modRx ..)

end RecastFrame

/-! ### Containers received (R109, R117, R118) -/

theorem bystander_portState : Bystander PORT_STATE := ⟨by decide, by decide⟩
theorem bystander_rxHighest : Bystander PORT_RX_HIGHEST := ⟨by decide, by decide⟩
theorem bystander_contAccepted : Bystander PORT_CONT_ACCEPTED := ⟨by decide, by decide⟩

/-- A trigger marks snapshots and stops their limits. -/
theorem fireSnapshots_eq (p trigger : Nat) (d : Dev) : ∃ ss ts, fireSnapshots p trigger d = { d with snapshots := ss, timers := ts } := by
  unfold fireSnapshots forAll
  induction List.range 8 generalizing d with
  | nil => exact ⟨d.snapshots, d.timers, rfl⟩
  | cons r l ih =>
    rw [List.foldl_cons]
    dsimp only
    split
    · split
      · obtain ⟨ss, ts, h⟩ := ih _
        exact ⟨ss, ts, h⟩
      · exact ih d
    · exact ih d

theorem fireSnapshots_attrs (p trigger : Nat) (d : Dev) : (fireSnapshots p trigger d).attrs = d.attrs := by
  obtain ⟨ss, ts, h⟩ := fireSnapshots_eq p trigger d
  rw [h]

theorem fireSnapshots_blocks (p trigger : Nat) (d : Dev) : (fireSnapshots p trigger d).blocks = d.blocks := by
  obtain ⟨ss, ts, h⟩ := fireSnapshots_eq p trigger d
  rw [h]

theorem fireSnapshots_ports (p trigger : Nat) (d : Dev) : (fireSnapshots p trigger d).ports = d.ports := by
  obtain ⟨ss, ts, h⟩ := fireSnapshots_eq p trigger d
  rw [h]

theorem bump_attrs {d e : Dev} (h : e.attrs = d.attrs) (a : Attr) (i n : Nat) : (bump a i n e).attrs = (bump a i n d).attrs := by
  simp [bump, setAttr, attr, h]

theorem queueNak_attrs (p s : Nat) (d : Dev) : (queueNak p s d).attrs = d.attrs := modRecast_attrs ..

theorem queueNak_blocks (p s : Nat) (d : Dev) : (queueNak p s d).blocks = d.blocks := modRecast_blocks ..

/-- A row that leaves the queue and the memory keeps the attributes that its block keeps. -/
theorem keepsAttrs_dev {changed : List (Nat × Nat)} {s : State} {d : Dev} (h : KeepsOthers changed s.dev d) :
    Claims.KeepsAttrs changed s { s with dev := d } := h

section Rejected
variable (p : Nat) (d : Dev)

/-- R118: of the attributes, a rejected container changes its count alone. -/
theorem rejectContainer_attrs : (rejectContainer p d).attrs = (bump PORT_CONT_REJECTED p 1 d).attrs := by
  rw [rejectContainer, fireSnapshots_attrs]
  exact bump_attrs ((queueNak_attrs ..).trans (modRecast_attrs ..)) ..

theorem rejectContainer_blocks : (rejectContainer p d).blocks = d.blocks := by
  rw [rejectContainer, fireSnapshots_blocks, bump, setAttr_blocks, queueNak_blocks, modRecast_blocks]

theorem port_rejectContainer : port (rejectContainer p d) p = { port d p with
    recast :=
      let s := (attr d PORT_RX_HIGHEST p + ((recast d p).rejects + 1)) % 16384
      let x : Recast := { recast d p with
        rejects := (recast d p).rejects + 1, spec := ((recast d p).spec.filter fun e => e.1 != s) ++ [(s, d.elapsed + retryInUse d p)] }
      if x.naks.contains s then x else { x with naks := x.naks ++ [s] } } := by
  rw [rejectContainer, port_congr (fireSnapshots_ports ..), port_congr (bump_ports ..), queueNak, port_modRecast, port_modRecast]
  rfl

theorem rejectContainer_quiet : quiet (rejectContainer p d) p = quiet d p := by
  rw [quiet, port_rejectContainer]
  rfl

theorem rejectContainer_rejects : (recast (rejectContainer p d) p).rejects = (recast d p).rejects + 1 := by
  rw [recast, port_rejectContainer]
  dsimp only
  split <;> rfl

/-- R118 step 1: the number after the highest, one further for each container rejected in a row, is asked for. -/
theorem mem_rejectContainer_naks : (attr d PORT_RX_HIGHEST p + (recast d p).rejects + 1) % 16384 ∈ (recast (rejectContainer p d) p).naks := by
  rw [recast, port_rejectContainer]
  dsimp only
  split
  · next h => exact List.elem_iff.1 h
  · exact List.mem_append_right _ List.mem_cons_self

end Rejected

/-- R154, R428: outside training and an exit, nothing follows from a container. -/
theorem exitAccepted_firstAccepted {p : Nat} {e : Dev} (hs : attr e PORT_STATE p = psCarry) (hq : (quiet e p).decidedAt = 0) :
    exitAccepted p (firstAccepted p e) = e := by
  have first : firstAccepted p e = e := by
    unfold firstAccepted
    exact if_neg fun h => absurd (hs.symm.trans h.1) (by decide)
  rw [first]
  unfold exitAccepted
  exact if_neg fun h => h.1 hq

/-- R67: what changes no table in effect counts no generation. -/
theorem countGeneration_same {p : Nat} {d e : Dev} (hb : e.blocks = d.blocks) (ht : attr e PORT_RETIRED_TX p = attr d PORT_RETIRED_TX p)
    (hr : attr e PORT_RETIRED_RX p = attr d PORT_RETIRED_RX p) : countGeneration p d e = e := by
  have same : tablesInEffect d p = tablesInEffect e p := by
    unfold tablesInEffect
    rw [block_congr hb, block_congr hb, block_congr hb, block_congr hb, ht, hr]
  unfold countGeneration
  exact if_pos (.inl same)

/-- R117: a container ahead: numbers skipped become holes, the highest number moves and the run of rejected containers ends, the container is
counted; what follows moves none of these. -/
theorem acceptAhead_frame (p s gap : Nat) (segs : List Segment) (d : Dev) :
    ∃ d1 g, RecastFrame p d d1 ∧ (∀ x : Recast, (g x).rejects = 0)
      ∧ RecastFrame p (bump PORT_CONT_ACCEPTED p 1 (modRecast p g (setAttr PORT_RX_HIGHEST p s d1))) (acceptAhead p s gap segs d) :=
  ⟨_, _, .makeHoles .., fun _ => rfl, .after (.dropFarHoles ..) (.storeAccepted ..)⟩

section Ahead
variable (p s gap : Nat) (segs : List Segment) (d : Dev)

theorem acceptAhead_rejects : (recast (acceptAhead p s gap segs d) p).rejects = 0 := by
  obtain ⟨d1, g, _, hg, hafter⟩ := acceptAhead_frame p s gap segs d
  rw [hafter.rejects, recast, port_congr (bump_ports ..), port_modRecast]
  exact hg _

theorem acceptAhead_quiet : quiet (acceptAhead p s gap segs d) p = quiet d p := by
  obtain ⟨d1, g, hbefore, _, hafter⟩ := acceptAhead_frame p s gap segs d
  rw [hafter.quiet, ← hbefore.quiet, quiet, port_congr (bump_ports ..), port_modRecast, port_congr (setAttr_ports ..)]
  rfl

theorem attr_acceptAhead_state : attr (acceptAhead p s gap segs d) PORT_STATE p = attr d PORT_STATE p := by
  obtain ⟨d1, g, hbefore, _, hafter⟩ := acceptAhead_frame p s gap segs d
  rw [hafter.attrs _ bystander_portState, ← hbefore.attrs _ bystander_portState, attr_bump_ne _ _ _ _ (by decide) (by decide) (by decide),
    attr_modRecast, attr_setAttr_ne _ _ _ _ (by decide) (by decide) (by decide)]

theorem attr_acceptAhead_highest : attr (acceptAhead p s gap segs d) PORT_RX_HIGHEST p = s % 2 ^ 16 := by
  obtain ⟨d1, g, _, _, hafter⟩ := acceptAhead_frame p s gap segs d
  rw [hafter.attrs _ bystander_rxHighest, attr_bump_ne _ _ _ _ (by decide) (by decide) (by decide), attr_modRecast, attr_setAttr]
  rfl

theorem attr_acceptAhead_accepted : attr (acceptAhead p s gap segs d) PORT_CONT_ACCEPTED p = (attr d PORT_CONT_ACCEPTED p + 1) % 2 ^ 32 := by
  obtain ⟨d1, g, hbefore, _, hafter⟩ := acceptAhead_frame p s gap segs d
  rw [hafter.attrs _ bystander_contAccepted, ← hbefore.attrs _ bystander_contAccepted, attr_bump, attr_modRecast,
    attr_setAttr_ne _ _ _ _ (by decide) (by decide) (by decide)]
  rfl

end Ahead

/-- R103, R104, R109: what an accepted header does before its container is taken. -/
theorem acceptedContainer_ahead {p : Nat} {c : Nat × List Byte × Nat} {d : Dev} (hk : hdrKind c.1 ≠ 2)
    (h1 : 1 ≤ sdiff (hdrSeq c.1) (attr d PORT_RX_HIGHEST p)) (h512 : sdiff (hdrSeq c.1) (attr d PORT_RX_HIGHEST p) ≤ 512) (times : List Nat) :
    ∃ d1 gap, RecastFrame p d d1 ∧ acceptedContainer p times c d = acceptAhead p (hdrSeq c.1) gap (segmentsOf c.1 c.2.1 times) d1 := by
  have corrected : RecastFrame p d (when (decide (0 < c.2.2)) (fun e => bump PORT_RS_SYMBOLS_CORRECTED p c.2.2 (bump PORT_CONT_CORRECTED p 1 e))
      (modTrain p (fun x => { x with accepted := true }) d)) := by
    unfold when
    split
    · exact .after (.bump (by decide) ..) (.after (.bump (by decide) ..) (.modTrain ..))
    · exact .modTrain ..
  have before := RecastFrame.after (.takeFeedback p c.1 _) corrected
  refine ⟨_, (sdiff (hdrSeq c.1) (attr d PORT_RX_HIGHEST p)).toNat, before, ?_⟩
  unfold acceptedContainer
  dsimp only
  rw [if_neg hk, takeContainer, before.attrs _ bystander_rxHighest]
  exact if_pos ⟨h1, h512⟩

theorem hdrSeq_lt (h : Nat) : hdrSeq h < 2 ^ 14 := Nat.mod_lt _ (by decide)

/-- The port as a container arrives, before the container is read. -/
def awaiting (p : Nat) (d : Dev) : Dev := modTrain p (fun x => { x with accepted := (attr d PORT_TRAIN_PHASE p == 5) && x.accepted }) d

section Arrives
variable {p : Nat} {d : Dev} {word : List Nat} (alt times : List Nat) (ha : (rx d p).arb = none)
include ha

theorem arb_awaiting : (rx (awaiting p d) p).arb = none := by
  rw [awaiting, rx, port_modTrain]
  exact ha

/-- R90, R109: with no arbitration open, a word that cannot be read is rejected. -/
theorem containerArrives_rejected (hw : readContainer word = none) :
    containerArrives p word alt times [] d = exitAccepted p (firstAccepted p (countGeneration p d (rejectContainer p (awaiting p d)))) := by
  have once : receiveContainer p word alt times (awaiting p d) = rejectContainer p (awaiting p d) := by
    unfold receiveContainer
    rw [arb_awaiting ha, hw]
  rw [← once]
  rfl

/-- R90, R109: with no arbitration open, a word that can be read is accepted. -/
theorem containerArrives_accepted {c : Nat × List Byte × Nat} (hw : readContainer word = some c) :
    containerArrives p word alt times [] d = exitAccepted p (firstAccepted p (countGeneration p d (acceptedContainer p times c (awaiting p d)))) := by
  have once : receiveContainer p word alt times (awaiting p d) = acceptedContainer p times c (awaiting p d) := by
    unfold receiveContainer
    rw [arb_awaiting ha, hw]
  rw [← once]
  rfl

end Arrives

theorem awaiting_attrs (p : Nat) (d : Dev) : (awaiting p d).attrs = d.attrs := rfl

theorem awaiting_blocks (p : Nat) (d : Dev) : (awaiting p d).blocks = d.blocks := rfl

theorem awaiting_frame (p : Nat) (d : Dev) : RecastFrame p d (awaiting p d) := .modTrain ..

theorem exec_containerReceived_carry {p : Fin 128} {s : State} (hc : attr s.dev PORT_STATE p = psCarry) (hh : inHoldover s.dev p = false)
    (word alt times : List Nat) :
    exec (.containerReceived p word alt times []) s = .next { s with dev := containerArrives p word alt times [] s.dev } := by
  have reads : decodes s.dev p = true := by simp [decodes, hc, hh]
  show onDev _ s = _
  rw [onDev, if_pos reads]

section InCarry
variable {p : Fin 128} {s : State} {word : List Nat}
  (hc : attr s.dev PORT_STATE p = psCarry) (hh : inHoldover s.dev p = false) (ha : (rx s.dev p).arb = none) (hq : (quiet s.dev p).decidedAt = 0)
include hc hh ha hq

/-- R109, R118 step 1. -/
theorem containerReceived_rejected (hw : readContainer word = none) (alt times : List Nat) :
    ∃ t, exec (.containerReceived p word alt times []) s = .next t
      ∧ attr t.dev PORT_CONT_REJECTED p = (attr s.dev PORT_CONT_REJECTED p + 1) % 2 ^ 32
      ∧ (recast t.dev p).rejects = (recast s.dev p).rejects + 1
      ∧ (attr s.dev PORT_RX_HIGHEST p + (recast s.dev p).rejects + 1) % 16384 ∈ (recast t.dev p).naks
      ∧ Claims.KeepsAttrs [(PORT_CONT_REJECTED.code, p.val)] s t ∧ t.mem = s.mem := by
  have counted : KeepsOthers [(PORT_CONT_REJECTED.code, p.val)] (awaiting p s.dev) (rejectContainer p (awaiting p s.dev)) :=
    (keepsOthers_setAttr _ _ (by decide) (by simp)).trans (keepsOthers_of_attrs (rejectContainer_attrs ..))
  have kept := (keepsOthers_of_attrs (awaiting_attrs p s.dev)).trans counted
  have same : countGeneration p s.dev (rejectContainer p (awaiting p s.dev)) = rejectContainer p (awaiting p s.dev) :=
    countGeneration_same ((rejectContainer_blocks ..).trans (awaiting_blocks ..)) (kept _ _ (by decide) (by decide) (by simp [Attr.code, PORT_RETIRED_TX, PORT_CONT_REJECTED]))
      (kept _ _ (by decide) (by decide) (by simp [Attr.code, PORT_RETIRED_RX, PORT_CONT_REJECTED]))
  have state : attr (rejectContainer p (awaiting p s.dev)) PORT_STATE p = psCarry := by
    rw [kept _ _ (by decide) (by decide) (by simp [Attr.code, PORT_STATE, PORT_CONT_REJECTED]), hc]
  have noExit : (quiet (rejectContainer p (awaiting p s.dev)) p).decidedAt = 0 := by
    rw [rejectContainer_quiet, (awaiting_frame p s.dev).quiet, hq]
  have run : exec (.containerReceived p word alt times []) s = .next { s with dev := rejectContainer p (awaiting p s.dev) } := by
    rw [exec_containerReceived_carry hc hh, containerArrives_rejected alt times ha hw, same, exitAccepted_firstAccepted state noExit]
  refine ⟨_, run, ?_, ?_, ?_, keepsAttrs_dev kept, rfl⟩
  · rw [attr_congr (rejectContainer_attrs ..), attr_bump, attr_congr (awaiting_attrs ..)]
    rfl
  · rw [rejectContainer_rejects, (awaiting_frame p s.dev).rejects]
  · have asked := mem_rejectContainer_naks p (awaiting p s.dev)
    dsimp only
    rwa [attr_congr (awaiting_attrs ..), (awaiting_frame p s.dev).rejects] at asked

/-- R117: a container with a new number up to 512 ahead. -/
theorem containerReceived_ahead {c : Nat × List Byte × Nat} (hw : readContainer word = some c) (hk : hdrKind c.1 ≠ 2)
    (h1 : 1 ≤ sdiff (hdrSeq c.1) (attr s.dev PORT_RX_HIGHEST p)) (h512 : sdiff (hdrSeq c.1) (attr s.dev PORT_RX_HIGHEST p) ≤ 512)
    (alt times : List Nat) :
    ∃ t, exec (.containerReceived p word alt times []) s = .next t ∧ attr t.dev PORT_RX_HIGHEST p = hdrSeq c.1
      ∧ attr t.dev PORT_CONT_ACCEPTED p = (attr s.dev PORT_CONT_ACCEPTED p + 1) % 2 ^ 32 ∧ (recast t.dev p).rejects = 0 ∧ t.mem = s.mem := by
  obtain ⟨d1, gap, before, taken⟩ := acceptedContainer_ahead (d := awaiting p s.dev) hk h1 h512 times
  have entry := RecastFrame.after before (awaiting_frame p s.dev)
  have counted := RecastFrame.countGeneration p s.dev (acceptedContainer p times c (awaiting p s.dev))
  rw [taken] at counted
  have state : attr (countGeneration p s.dev (acceptAhead p (hdrSeq c.1) gap (segmentsOf c.1 c.2.1 times) d1)) PORT_STATE p = psCarry := by
    rw [counted.attrs _ bystander_portState, attr_acceptAhead_state, entry.attrs _ bystander_portState, hc]
  have noExit : (quiet (countGeneration p s.dev (acceptAhead p (hdrSeq c.1) gap (segmentsOf c.1 c.2.1 times) d1)) p).decidedAt = 0 := by
    rw [counted.quiet, acceptAhead_quiet, entry.quiet, hq]
  have run : exec (.containerReceived p word alt times []) s
      = .next { s with dev := countGeneration p s.dev (acceptAhead p (hdrSeq c.1) gap (segmentsOf c.1 c.2.1 times) d1) } := by
    rw [exec_containerReceived_carry hc hh, containerArrives_accepted alt times ha hw, taken, exitAccepted_firstAccepted state noExit]
  refine ⟨_, run, ?_, ?_, ?_, rfl⟩
  · rw [counted.attrs _ bystander_rxHighest, attr_acceptAhead_highest]
    exact Nat.mod_eq_of_lt ((hdrSeq_lt c.1).trans (by decide))
  · rw [counted.attrs _ bystander_contAccepted, attr_acceptAhead_accepted, entry.attrs _ bystander_contAccepted]
  · rw [counted.rejects, acceptAhead_rejects]

end InCarry

/-! ### O27 -/

/-- Settles O27. The port is in CARRY with no exit under way, so nothing follows from a container but its rejection, or its place ahead of the
highest number; what is released, dropped or asked for then moves none of the attributes named. -/
theorem containersReceived : Obligations.containers_received := by
  intro p s word alt times hc hh ha hq
  refine ⟨fun hw => ?rejected, fun c hw hk h1 h512 => ?ahead⟩
  case rejected => exact containerReceived_rejected hc hh ha hq hw alt times
  case ahead => exact containerReceived_ahead hc hh ha hq hw hk h1 h512 alt times
end Sys2Proof.Machine

namespace Sys2Proof.Machine

/-! ### What a port that falls silent leaves alone (R132, R133) -/

@[simp] theorem attr_holdCoefficients (q : Nat) (d : Dev) (b : Attr) (i : Nat) : attr (holdCoefficients q d) b i = attr d b i := attr_arm ..
@[simp] theorem attr_setNextSlot (p k v : Nat) (d : Dev) (b : Attr) (i : Nat) : attr (setNextSlot p k v d) b i = attr d b i := attr_setBlockByte ..
@[simp] theorem attr_resetSeq (p n : Nat) (d : Dev) (b : Attr) (i : Nat) : attr (resetSeq p n d) b i = attr d b i := attr_modPeer ..
@[simp] theorem attr_clearTraining (p : Nat) (d : Dev) (b : Attr) (i : Nat) : attr (clearTraining p d) b i = attr d b i := by
  rw [clearTraining, attr_disarm, attr_modPeer, attr_modSvc]
@[simp] theorem attr_silenceSvc (p : Nat) (d : Dev) (b : Attr) (i : Nat) : attr (silenceSvc p d) b i = attr d b i := by
  rw [silenceSvc, attr_disarm, attr_disarm, attr_disarm, attr_disarm, attr_disarm, attr_modSvc]

/-- R81: a visit begun writes its slot and its limit. -/
@[simp] theorem attr_startSurvey (p : Nat) (d : Dev) (b : Attr) (i : Nat) : attr (startSurvey p d) b i = attr d b i := by
  unfold startSurvey
  dsimp only
  split
  · rw [attr_disarm, attr_setNextSlot]
  · rw [attr_arm, attr_setNextSlot]

/-- R85: an aggressor freed leaves slots and coefficients, which are no attributes of a value. -/
@[simp] theorem attr_freeAggressor (q : Nat) (d : Dev) (b : Attr) (i : Nat) : attr (freeAggressor q d) b i = attr d b i := by
  refine attr_forAll (fun p e => (attr_forAll (fun k e => ?_) _ _).trans (attr_modRx ..)) _ d
  split
  · exact attr_setNextSlot ..
  · rfl

/-- R84: a ramp that starts ECHO_FIT starts a limit. -/
@[simp] theorem attr_settleRamp (p : Nat) (d : Dev) (b : Attr) (i : Nat) : attr (settleRamp p d) b i = attr d b i := by
  unfold settleRamp
  split
  · rw [attr_arm, attr_modTrain]
  · rfl

/-- R136, R137: LISTEN entered starts limits. -/
@[simp] theorem attr_enterListen (p old : Nat) (d : Dev) (b : Attr) (i : Nat) : attr (enterListen p old d) b i = attr d b i := by
  unfold enterListen
  dsimp only
  split
  · rw [attr_arm, attr_modTrain, attr_arm]
  · rw [attr_modTrain, attr_arm]

theorem attr_ite {c : Prop} [Decidable c] {x y d : Dev} {b : Attr} {i : Nat} (hx : attr x b i = attr d b i) (hy : attr y b i = attr d b i) :
    attr (if c then x else y) b i = attr d b i := by
  split
  · exact hx
  · exact hy

namespace Bystander

variable {b : Attr}

/-! #### Swaps and containers -/

theorem attr_setSwap (hb : Bystander b) (p : Nat) (x : Option Swap) (d : Dev) (i : Nat) : attr (setSwap p x d) b i = attr d b i := by
  unfold setSwap
  dsimp only
  rw [hb.attr_setAttr (by decide), hb.attr_setAttr (by decide), attr_modPort]

theorem attr_finishSwap (hb : Bystander b) (p status : Nat) (d : Dev) (i : Nat) : attr (finishSwap p status d) b i = attr d b i := by
  unfold finishSwap
  split
  · rfl
  · dsimp only
    split
    · rw [hb.attr_complete, attr_disarm, hb.attr_setSwap]
    · split
      · rw [attr_disarm, hb.attr_setSwap]
      · rw [hb.attr_raise, attr_disarm, hb.attr_setSwap]

theorem attr_voidStamps (hb : Bystander b) (p : Nat) (d : Dev) (i : Nat) : attr (voidStamps p d) b i = attr d b i := by
  unfold voidStamps
  dsimp only
  rw [attr_foldl fun e s => hb.attr_reportDropped .., attr_modTx]

theorem attr_closeRecast (hb : Bystander b) (p : Nat) (dormant : Bool) (d : Dev) (i : Nat) : attr (closeRecast p dormant d) b i = attr d b i := by
  have released : attr (releaseReady p (dropAllHoles p d)) b i = attr d b i :=
    (RecastFrame.after (.releaseReady ..) (.dropAllHoles p d)).attrs b hb i
  unfold closeRecast
  dsimp only
  split
  · rw [attr_modRecast, hb.attr_voidStamps, released]
  · rw [attr_modRecast, hb.attr_voidStamps, attr_foldl fun e f => hb.attr_lineDrop .., released]

/-! #### Commands that wait for a port -/

theorem attr_finishMulti (hb : Bystander b) (x : MultiPort) (d : Dev) (i : Nat) : attr (finishMulti x d) b i = attr d b i := by
  unfold finishMulti
  split
  · rfl
  · dsimp only
    split
    · exact hb.attr_complete ..
    · split
      · exact hb.attr_complete ..
      · exact hb.attr_complete ..

theorem attr_portEnded (hb : Bystander b) (op p : Nat) (ok : Bool) (cause : Nat) (d : Dev) (i : Nat) :
    attr (portEnded op p ok cause d) b i = attr d b i := by
  unfold portEnded
  dsimp only
  rw [attr_foldl fun e x => hb.attr_finishMulti x e i]
  rfl

theorem attr_failQuiet (hb : Bystander b) (p cause : Nat) (d : Dev) (i : Nat) : attr (failQuiet p cause d) b i = attr d b i := by
  unfold failQuiet
  split
  · rw [hb.attr_portEnded, attr_disarm, attr_disarm, hb.attr_setAttr (by decide), attr_modRecast, attr_modQuiet]
  · rfl

theorem attr_stopOnState (hb : Bystander b) (p new : Nat) (d : Dev) (i : Nat) : attr (stopOnState p new d) b i = attr d b i := by
  unfold stopOnState
  split
  · rw [hb.attr_portEnded, attr_disarm, attr_modPort]
  · rfl

theorem attr_wakeOnState (hb : Bystander b) (p new : Nat) (d : Dev) (i : Nat) : attr (wakeOnState p new d) b i = attr d b i := by
  unfold wakeOnState
  split
  · exact hb.attr_portEnded ..
  · split
    · exact hb.attr_portEnded ..
    · split
      · exact hb.attr_portEnded ..
      · rfl

/-! #### The state left -/

theorem attr_clearTrained (hb : Bystander b) (p : Nat) (d : Dev) (i : Nat) : attr (clearTrained p d) b i = attr d b i := by
  unfold clearTrained
  dsimp only
  rw [attr_setBlock, hb.attr_resetAttrs (by decide), attr_setBlock, attr_setBlock, attr_setBlock, attr_setBlock]

theorem attr_clearMeasures (hb : Bystander b) (p : Nat) (d : Dev) (i : Nat) : attr (clearMeasures p d) b i = attr d b i := by
  rw [clearMeasures, attr_setBlock, hb.attr_resetAttrs (by decide)]

/-! #### Claims, snapshots and scans (R209 to R222) -/

theorem attr_setCapture (hb : Bystander b) (p h : Nat) (d : Dev) (i : Nat) : attr (setCapture p h d) b i = attr d b i :=
  hb.attr_setAttr (by decide) ..

theorem attr_setTx (hb : Bystander b) (p h : Nat) (d : Dev) (i : Nat) : attr (setTx p h d) b i = attr d b i := hb.attr_setAttr (by decide) ..

theorem attr_stateClaims (hb : Bystander b) (p new : Nat) (d : Dev) (i : Nat) : attr (stateClaims p new d) b i = attr d b i := by
  unfold stateClaims
  extract_lets traffic d1
  have tx : attr d1 b i = attr d b i := attr_ite (hb.attr_setTx ..) (attr_ite (hb.attr_setTx ..) (attr_ite (hb.attr_setTx ..) rfl))
  have capture : ∀ h, attr (setCapture p h d1) b i = attr d b i := fun h => (hb.attr_setCapture ..).trans tx
  exact attr_ite (capture _) (attr_ite (capture _) tx)

theorem attr_endSnapshot (hb : Bystander b) (r status cause st : Nat) (d : Dev) (i : Nat) : attr (endSnapshot r status cause st d) b i = attr d b i := by
  unfold endSnapshot
  split
  · rfl
  · next x _ =>
    have left : attr (disarm tkSnapArm r (setRecord r st { d with snapshots := bankPut none d.snapshots r none })) b i = attr d b i := by
      rw [attr_disarm, setRecord, hb.attr_setAttr (by decide), attr_setBlockByte]
      rfl
    dsimp only
    rw [hb.attr_complete]
    split
    · rw [hb.attr_setCapture, left]
    · exact left

theorem attr_abortSnapshots (hb : Bystander b) (p cause : Nat) (f : Snapshot → Bool) (d : Dev) (i : Nat) :
    attr (abortSnapshots p cause f d) b i = attr d b i := by
  refine attr_forAll (fun r e => ?_) _ d
  split
  · split
    · exact hb.attr_endSnapshot ..
    · rfl
  · rfl

/-! #### Admission ramps (R83, R84) -/

theorem attr_startRamp (hb : Bystander b) (p : Nat) (d : Dev) (i : Nat) : attr (startRamp p d) b i = attr d b i := by
  unfold startRamp
  dsimp only
  rw [attr_disarm, attr_forAll fun q e => ?surveyed, attr_modPrism, hb.attr_setAttr (by decide)]
  case surveyed => rw [attr_disarm, attr_setNextSlot, attr_modRx]

theorem attr_nextRamp (hb : Bystander b) (m : Nat) (d : Dev) (i : Nat) : attr (nextRamp m d) b i = attr d b i := by
  unfold nextRamp
  split
  · rfl
  · split
    · rfl
    · rw [attr_settleRamp, hb.attr_startRamp, attr_modPrism]

theorem attr_releaseRamp (hb : Bystander b) (m : Nat) (d : Dev) (i : Nat) : attr (releaseRamp m d) b i = attr d b i := by
  unfold releaseRamp
  dsimp only
  split
  · rfl
  · rw [hb.attr_nextRamp, attr_forAll fun q e => ?resumed, attr_modPrism, hb.attr_setAttr (by decide)]
    case resumed =>
      split
      · split
        · rw [attr_startSurvey, attr_setNextSlot, attr_modRx]
        · rw [attr_arm, attr_setNextSlot, attr_modRx]
      · rfl

theorem attr_cancelRamp (hb : Bystander b) (p : Nat) (d : Dev) (i : Nat) : attr (cancelRamp p d) b i = attr d b i := by
  unfold cancelRamp
  dsimp only
  split
  · rw [hb.attr_releaseRamp, attr_modPrism]
  · rw [hb.attr_nextRamp, attr_modPrism]

theorem attr_neighbours (hb : Bystander b) (p old new : Nat) (d : Dev) (i : Nat) : attr (neighbours p old new d) b i = attr d b i := by
  unfold neighbours
  dsimp only
  split
  · have given : attr (when (port d p).scan.isNone (cancelRamp p) (disarm tkSurvey p d)) b i = attr d b i := by
      rw [attr_when fun e => hb.attr_cancelRamp .., attr_disarm]
    split
    · rw [attr_holdCoefficients, given]
    · exact given
  · split
    · rw [attr_holdCoefficients, hb.attr_cancelRamp, attr_disarm]
    · split
      · exact attr_modRx ..
      · split
        · rw [attr_disarm, attr_freeAggressor]
        · rfl

theorem attr_finishScan (hb : Bystander b) (p status cause : Nat) (d : Dev) (i : Nat) : attr (finishScan p status cause d) b i = attr d b i := by
  unfold finishScan
  split
  · rfl
  · next x _ =>
    extract_lets d1 d2 d3 d4
    have capture : attr d2 b i = attr d b i := attr_ite (hb.attr_setCapture ..) rfl
    have tx : attr d3 b i = attr d b i := attr_ite ((hb.attr_setTx ..).trans capture) capture
    have ramp : attr d4 b i = attr d b i := by
      dsimp only [d4]
      split
      · rw [attr_holdCoefficients, hb.attr_cancelRamp, tx]
      · rw [attr_holdCoefficients, tx]
      · rw [hb.attr_cancelRamp, tx]
      · exact tx
    rw [hb.attr_complete, attr_disarm, attr_disarm, ramp]

theorem attr_abortScan (hb : Bystander b) (p cause : Nat) (d : Dev) (i : Nat) : attr (abortScan p cause d) b i = attr d b i := by
  unfold abortScan
  split
  · rw [hb.attr_finishScan, attr_setBlock]
  · rfl

theorem attr_endDiagnostics (hb : Bystander b) (p new : Nat) (d : Dev) (i : Nat) : attr (endDiagnostics p new d) b i = attr d b i := by
  have quieted : attr (if new = psQuiet then abortSnapshots p endPreempted (fun x => x.kind != 0) d else d) b i = attr d b i := by
    split
    · exact hb.attr_abortSnapshots ..
    · rfl
  unfold endDiagnostics
  dsimp only
  split
  · rw [hb.attr_abortSnapshots, quieted]
  · rw [hb.attr_abortScan, hb.attr_abortSnapshots, quieted]

/-! #### Calibration (R209, R451) -/

theorem attr_releaseCal (hb : Bystander b) (p : Nat) (d : Dev) (i : Nat) : attr (releaseCal p d) b i = attr d b i := hb.attr_setAttr (by decide) ..

theorem attr_endMeasure (hb : Bystander b) (x : Nat) (d : Dev) (i : Nat) : attr (endMeasure x d) b i = attr d b i := by
  unfold endMeasure
  dsimp only
  split
  · rw [hb.attr_releaseCal, hb.attr_setAttr (by decide)]
  · exact hb.attr_setAttr (by decide) ..

theorem attr_finishCalRun (hb : Bystander b) (r : CalRun) (status cause : Nat) (d : Dev) (i : Nat) :
    attr (finishCalRun r status cause d) b i = attr d b i := by
  unfold finishCalRun
  dsimp only
  rw [hb.attr_complete]
  split
  · rw [hb.attr_endMeasure, attr_modCal]
  · exact attr_modCal ..

theorem attr_abortFullRuns (hb : Bystander b) (item : Nat → Bool) (cause : Nat) (d : Dev) (i : Nat) :
    attr (abortFullRuns item cause d) b i = attr d b i := attr_foldl (fun e r => hb.attr_finishCalRun r stAborted cause e i) _ d

theorem attr_calOnPort (hb : Bystander b) (p new : Nat) (d : Dev) (i : Nat) : attr (calOnPort p new d) b i = attr d b i := by
  unfold calOnPort
  extract_lets d0 d1
  have released : attr d0 b i = attr d b i := attr_ite rfl ((hb.attr_releaseCal ..).trans (attr_ite (attr_stopSlice ..) rfl))
  have ended : attr d1 b i = attr d b i := attr_ite released ((hb.attr_abortFullRuns ..).trans released)
  exact attr_ite ended ((hb.attr_abortFullRuns ..).trans ended)

/-! #### The service channel (R191, R196, R198) -/

theorem attr_refreshSvc (hb : Bystander b) (p : Nat) (d : Dev) (i : Nat) : attr (refreshSvc p d) b i = attr d b i := by
  unfold refreshSvc
  dsimp only
  rw [hb.attr_setAttr (by decide), hb.attr_setAttr (by decide), hb.attr_setAttr (by decide)]

theorem attr_svcDone (hb : Bystander b) (p : Nat) (m : SvcMsg) (status : Nat) (d : Dev) (i : Nat) : attr (svcDone p m status d) b i = attr d b i := by
  unfold svcDone completeOpt
  split
  · exact hb.attr_complete ..
  · rfl

theorem attr_abortMessages (hb : Bystander b) (p : Nat) (d : Dev) (i : Nat) : attr (abortMessages p d) b i = attr d b i := by
  unfold abortMessages
  dsimp only
  rw [hb.attr_refreshSvc, attr_foldl fun e m => hb.attr_svcDone .., attr_forAll fun n e => attr_disarm .., attr_modSvc]

theorem attr_abortPolls (hb : Bystander b) (p : Nat) (d : Dev) (i : Nat) : attr (abortPolls p d) b i = attr d b i := by
  refine attr_foldl (fun e q => ?_) _ d
  rw [endPoll, hb.attr_complete, attr_disarm, attr_modSvc]

theorem attr_clearPresent (hb : Bystander b) (p : Nat) (d : Dev) (i : Nat) : attr (clearPresent p d) b i = attr d b i := by
  refine attr_forAll (fun n e => ?_) _ d
  unfold setPresent
  dsimp only
  split
  · rfl
  · rw [hb.attr_raise, hb.attr_setAttr (by decide)]

theorem attr_svcOnState (hb : Bystander b) (p new : Nat) (d : Dev) (i : Nat) : attr (svcOnState p new d) b i = attr d b i := by
  have restarted : attr (if new = psTrain ∨ new = psListen then resetSeq p 0 d else d) b i = attr d b i := by
    split
    · exact attr_resetSeq ..
    · rfl
  unfold svcOnState
  dsimp only
  rw [hb.attr_refreshSvc, attr_when fun e => attr_silenceSvc .., attr_when fun e => hb.attr_clearPresent .., attr_when fun e => hb.attr_abortPolls ..,
    attr_when fun e => hb.attr_abortMessages ..]
  split
  · exact restarted
  · rw [attr_clearTraining, restarted]

/-! #### Chords and rates (R164, R165, R286) -/

theorem attr_refreshChord (hb : Bystander b) (c : Nat) (carried : Bool) (d : Dev) (i : Nat) : attr (refreshChord c carried d) b i = attr d b i := by
  unfold refreshChord
  dsimp only
  generalize (if blockByte d LATTICE_CHORD_STATE 0 c = 4 ∧ carried = false then 4 else _) = new
  split
  · rfl
  · rw [hb.attr_raise]
    exact attr_setBlockByte ..

theorem attr_refreshClock (hb : Bystander b) (m : Nat) (d : Dev) (i : Nat) : attr (refreshClock m d) b i = attr d b i := by
  have moved : ∀ src q, attr (arm tkSlew m 0 (setAttr PRISM_CLOCK_SLEWING m 1 (setAttr PRISM_CLOCK_PORT m q (setAttr PRISM_CLOCK_SOURCE m src d)))) b i
      = attr d b i := fun src q => by
    rw [attr_arm, hb.attr_setAttr (by decide), hb.attr_setAttr (by decide), hb.attr_setAttr (by decide)]
  unfold refreshClock
  dsimp only
  split
  · exact attr_ite rfl (moved ..)
  · exact attr_ite rfl (moved ..)

theorem attr_refreshOversub (hb : Bystander b) (p : Nat) (d : Dev) (i : Nat) : attr (refreshOversub p d) b i = attr d b i := by
  unfold refreshOversub
  dsimp only
  split
  · rw [hb.attr_raise, hb.attr_setAttr (by decide)]
  · exact hb.attr_setAttr (by decide) ..

/-- R165, R166: a member that does not come into CARRY moves no flow. -/
theorem attr_chordOnState (hb : Bystander b) {new : Nat} (hn : new ≠ psCarry) (p old deadline : Nat) (d : Dev) (i : Nat) :
    attr (chordOnState p old new deadline d) b i = attr d b i := by
  unfold chordOnState
  extract_lets c d1 d2
  have waits : attr d1 b i = attr d b i := attr_ite (attr_arm ..) (attr_ite (attr_disarm ..) rfl)
  have stays : d2 = d1 := if_neg (by simp [hn])
  refine attr_ite rfl ?_
  rw [hb.attr_refreshClock, hb.attr_refreshChord, stays, waits]

/-! #### The state entered -/

theorem attr_leaveState (hb : Bystander b) (p old new : Nat) (d : Dev) (i : Nat) : attr (leaveState p old new d) b i = attr d b i := by
  unfold leaveState
  extract_lets d1 d2 d3 d4 d5 d6
  have carried : attr d1 b i = attr d b i := attr_ite (by rw [hb.attr_finishSwap, hb.attr_closeRecast, hb.attr_failQuiet]) rfl
  have untrained : attr d2 b i = attr d b i := (attr_when (fun e => hb.attr_clearTrained ..) ..).trans carried
  have silent : attr d3 b i = attr d b i := by
    refine attr_ite ?_ untrained
    rw [hb.attr_setAttr (by decide), hb.attr_setAttr (by decide), attr_modQuiet, attr_modRx, attr_modRecast, attr_modTx, untrained]
  have awake : attr d4 b i = attr d b i := attr_ite (by rw [hb.attr_setAttr (by decide), attr_disarm, silent]) silent
  have paged : attr d5 b i = attr d b i := attr_ite ((attr_modTx ..).trans awake) awake
  have legacy : attr d6 b i = attr d b i := attr_ite ((attr_modPort ..).trans paged) paged
  rw [attr_disarm, attr_disarm]
  exact attr_ite legacy ((attr_disarm ..).trans legacy)

theorem attr_enterState (hb : Bystander b) {new : Nat} (hn : new = psListen ∨ new = psDown) (p old : Nat) (d : Dev) (i : Nat) :
    attr (enterState p old new d) b i = attr d b i := by
  unfold enterState
  rcases hn with rfl | rfl
  · rw [if_pos rfl, attr_enterListen]
  · rw [if_neg (by decide), if_neg (by decide), if_neg (by decide), if_neg (by decide), if_neg (by decide), if_pos rfl, attr_disarm,
      hb.attr_dropPortStores, attr_modTrain]

end Bystander

/-! ### A port goes to LISTEN or DOWN (R132) -/

/-- R132: of the attributes beside those of its upkeep, a port that falls silent changes its state alone. -/
theorem attr_changeState_silent {b : Attr} (hb : Bystander b) {p wanted why new cause : Nat} {d : Dev} (ht : stopTarget d p wanted why = (new, cause))
    (hn : new = psListen ∨ new = psDown) (ho : stateOf d p ≠ new) (i : Nat) :
    attr (changeState p wanted why d) b i = attr (setAttr PORT_STATE p new (leaveState p (stateOf d p) new d)) b i := by
  have hc : new ≠ psCarry := by rcases hn with rfl | rfl <;> decide
  unfold changeState
  rw [ht]
  dsimp only
  rw [if_neg ho, hb.attr_wakeOnState, hb.attr_stopOnState, hb.attr_refreshOversub, hb.attr_chordOnState hc, hb.attr_svcOnState,
    hb.attr_enterState hn, attr_when fun e => hb.attr_clearMeasures .., hb.attr_neighbours, hb.attr_stateClaims, hb.attr_calOnPort,
    hb.attr_endDiagnostics, hb.attr_raise]

theorem attr_changeState_state {p wanted why new cause : Nat} {d : Dev} (ht : stopTarget d p wanted why = (new, cause))
    (hn : new = psListen ∨ new = psDown) (ho : stateOf d p ≠ new) : attr (changeState p wanted why d) PORT_STATE p = new := by
  rw [attr_changeState_silent bystander_portState ht hn ho, attr_setAttr]
  rcases hn with rfl | rfl <;> rfl

theorem attr_changeState_ne {b : Attr} (hb : Bystander b) (hs : b.code ≠ PORT_STATE.code) {p wanted why new cause : Nat} {d : Dev}
    (ht : stopTarget d p wanted why = (new, cause)) (hn : new = psListen ∨ new = psDown) (ho : stateOf d p ≠ new) (i : Nat) :
    attr (changeState p wanted why d) b i = attr d b i := by
  rw [attr_changeState_silent hb ht hn ho, attr_setAttr_ne _ _ _ _ hs (by decide) hb.1, hb.attr_leaveState]

/-! ### Hold-over that lasts (R87, R153) -/

theorem bystander_partnerLosses : Bystander PORT_PARTNER_LOSSES := ⟨by decide, by decide⟩
theorem bystander_lastFail : Bystander PORT_LAST_FAIL := ⟨by decide, by decide⟩

theorem exec_holdoverTimeout {p : Fin 128} {s : State} (hh : inHoldover s.dev p = true) (hn : 16 ≤ (rx s.dev p).holdSf) :
    exec (.holdoverTimeout p) s = .next { s with dev := partnerLost p causeHoldover s.dev } := by
  show onDev _ s = _
  rw [onDev, if_pos ⟨hh, hn⟩]

/-- R138: where a graceful stop is under way, a lost partner takes the port to DOWN (assumption 109). -/
theorem attr_partnerLost_stopped {p : Nat} {d : Dev} (hc : attr d PORT_STATE p = psCarry) (hs : (port d p).stop ≠ none) (cause : Nat) :
    attr (partnerLost p cause d) PORT_STATE p = psDown := by
  have stopping : (port d p).stop.isSome = true := Option.isSome_iff_ne_none.2 hs
  have target : stopTarget d p psListen cause = (psDown, causeHostStop) := if_pos ⟨stopping, hc, .inl rfl⟩
  unfold partnerLost
  rw [if_pos stopping]
  exact attr_changeState_state target (.inr rfl) (by rw [stateOf, hc]; decide)

section Lost
variable {p : Nat} {d : Dev} (hc : attr d PORT_STATE p = psCarry) (hs : (port d p).stop = none) (cause : Nat)
include hc hs

/-- R153: a partner lost in CARRY is counted and told of, and the port listens. -/
theorem partnerLost_carry : partnerLost p cause d = changeState p psListen cause
    (raise clsPort p evPartnerLost psCarry (bump PORT_PARTNER_LOSSES p 1 (setAttr PORT_LAST_FAIL p 2 d))) := by
  have running : ¬(port d p).stop.isSome = true := by simp [hs]
  have notTrain : ¬psCarry = psTrain := by decide
  have notLegacy : ¬psCarry = psLegacy := by decide
  unfold partnerLost
  rw [if_neg running]
  dsimp only
  rw [stateOf, hc, if_neg notTrain, if_neg notLegacy, if_neg notLegacy, Nat.zero_mul, Nat.zero_add, Nat.zero_add]

/-- R87, R153: the state, the count of losses and the cause of the last failure after it. -/
theorem attr_partnerLost : attr (partnerLost p cause d) PORT_STATE p = psListen
    ∧ attr (partnerLost p cause d) PORT_PARTNER_LOSSES p = (attr d PORT_PARTNER_LOSSES p + 1) % 2 ^ 32 ∧ attr (partnerLost p cause d) PORT_LAST_FAIL p = 2 := by
  rw [partnerLost_carry hc hs]
  generalize he : raise clsPort p evPartnerLost psCarry (bump PORT_PARTNER_LOSSES p 1 (setAttr PORT_LAST_FAIL p 2 d)) = e
  have told : ∀ b, Bystander b → attr e b p = attr (bump PORT_PARTNER_LOSSES p 1 (setAttr PORT_LAST_FAIL p 2 d)) b p := fun b hb => by
    rw [← he, hb.attr_raise]
  have carries : attr e PORT_STATE p = psCarry := by
    rw [told _ bystander_portState, attr_bump_ne _ _ _ _ (by decide) (by decide) (by decide), attr_setAttr_ne _ _ _ _ (by decide) (by decide) (by decide), hc]
  have target : stopTarget e p psListen cause = (psListen, cause) := by
    refine if_neg fun h => ?_
    rw [← he, port_congr (raise_ports ..), port_congr (bump_ports ..), port_congr (setAttr_ports ..), hs] at h
    exact absurd h.1 (by decide)
  have moves : stateOf e p ≠ psListen := by rw [stateOf, carries]; decide
  refine ⟨attr_changeState_state target (.inl rfl) moves, ?_, ?_⟩
  · rw [attr_changeState_ne bystander_partnerLosses (by decide) target (.inl rfl) moves, told _ bystander_partnerLosses, attr_bump,
      attr_setAttr_ne _ _ _ _ (by decide) (by decide) (by decide)]
    rfl
  · rw [attr_changeState_ne bystander_lastFail (by decide) target (.inl rfl) moves, told _ bystander_lastFail,
      attr_bump_ne _ _ _ _ (by decide) (by decide) (by decide), attr_setAttr]
    rfl

end Lost
end Sys2Proof.Machine

namespace Sys2Proof.Machine

/-! ### A received symbol (R76 to R78) -/

/-- The receiver without what adapts to the symbols received, and the last of them. -/
def unadapted (x : PortRx) : PortRx := { x with head := [], tail := [], eq := [], next := [], received := [] }

theorem applyStep_adapts (p slot : Nat) (x : AdaptStep) (d : Dev) :
    ∃ y, port (applyStep p slot x d) p = { port d p with rx := y } ∧ unadapted y = unadapted (rx d p) := by
  unfold applyStep
  dsimp only
  rw [port_modRx]
  refine ⟨_, rfl, ?_⟩
  split <;> rfl

/-- R76 to R78: of its port, a received symbol changes what adapts alone. -/
theorem receiveSymbol_adapts (p slot : Nat) (tones : List (Nat × Cx)) (steps : List AdaptStep) (d : Dev) :
    ∃ y, port (receiveSymbol p slot tones steps d) p = { port d p with rx := y } ∧ unadapted y = unadapted (rx d p) := by
  have fold : ∀ e : Dev, ∃ y, port (steps.foldl (fun e x => applyStep p slot x e) e) p = { port e p with rx := y } ∧ unadapted y = unadapted (rx e p) := by
    induction steps with
    | nil => exact fun e => ⟨_, rfl, rfl⟩
    | cons x steps ih =>
      intro e
      obtain ⟨y, hy, hyu⟩ := applyStep_adapts p slot x e
      obtain ⟨z, hz, hzu⟩ := ih (applyStep p slot x e)
      rw [rx, hy] at hzu
      rw [hy] at hz
      exact ⟨z, hz, hzu.trans hyu⟩
  unfold receiveSymbol
  dsimp only
  split
  · obtain ⟨y, hy, hyu⟩ := fold (modRx p (fun r => { r with received := demapped d p slot tones }) d)
    rw [rx, port_modRx] at hyu
    rw [port_modRx] at hy
    exact ⟨y, hy, hyu⟩
  · exact ⟨_, rfl, rfl⟩

section Received
variable (p slot : Nat) (tones : List (Nat × Cx)) (steps : List AdaptStep) (d : Dev)

theorem receiveSymbol_attrs : (receiveSymbol p slot tones steps d).attrs = d.attrs := by
  obtain ⟨⟨ps, h⟩, _⟩ := receiveSymbol_eq p slot tones steps d
  rw [h]

theorem receiveSymbol_chords : (receiveSymbol p slot tones steps d).chords = d.chords := by
  obtain ⟨⟨ps, h⟩, _⟩ := receiveSymbol_eq p slot tones steps d
  rw [h]

theorem receiveSymbol_missed : (rx (receiveSymbol p slot tones steps d) p).missed = (rx d p).missed := by
  obtain ⟨y, hy, hu⟩ := receiveSymbol_adapts p slot tones steps d
  have same : (unadapted y).missed = (unadapted (rx d p)).missed := by rw [hu]
  rw [rx, hy]
  exact same

theorem receiveSymbol_detected : (rx (receiveSymbol p slot tones steps d) p).detected = (rx d p).detected := by
  obtain ⟨y, hy, hu⟩ := receiveSymbol_adapts p slot tones steps d
  have same : (unadapted y).detected = (unadapted (rx d p)).detected := by rw [hu]
  rw [rx, hy]
  exact same

theorem receiveSymbol_quiet : (port (receiveSymbol p slot tones steps d) p).quiet = (port d p).quiet := by
  obtain ⟨y, hy, _⟩ := receiveSymbol_adapts p slot tones steps d
  rw [hy]

theorem swapOf_receiveSymbol : swapOf (receiveSymbol p slot tones steps d) p = swapOf d p := by
  obtain ⟨y, hy, _⟩ := receiveSymbol_adapts p slot tones steps d
  rw [swapOf, hy]
  rfl

end Received

/-- R42: the count of a port follows the attributes, the chords and the difference that its receiver holds. -/
theorem sfCount_congr {p : Nat} {d e : Dev} (ha : e.attrs = d.attrs) (hc : e.chords = d.chords) (hx : (port e p).rx.countDelta = (port d p).rx.countDelta) :
    sfCount e p = sfCount d p := by
  have partner : actsAsPartner e p = actsAsPartner d p := by
    unfold actsAsPartner remoteIndex
    rw [attr_congr ha, attr_congr ha, hc]
  rw [sfCount, sfCount, attr_congr ha, partner, hx]

section Received
variable (p slot : Nat) (tones : List (Nat × Cx)) (steps : List AdaptStep) (d : Dev)

theorem sfCount_receiveSymbol : sfCount (receiveSymbol p slot tones steps d) p = sfCount d p := by
  refine sfCount_congr (receiveSymbol_attrs ..) (receiveSymbol_chords ..) ?_
  obtain ⟨y, hy, hu⟩ := receiveSymbol_adapts p slot tones steps d
  have same : (unadapted y).countDelta = (unadapted (rx d p)).countDelta := by rw [hu]
  rw [hy]
  exact same

theorem quietDue_receiveSymbol : quietDue (receiveSymbol p slot tones steps d) p = quietDue d p := by
  unfold quietDue
  rw [receiveSymbol_quiet, sfCount_receiveSymbol]

theorem swapMarkerDue_receiveSymbol : swapMarkerDue (receiveSymbol p slot tones steps d) p = swapMarkerDue d p := by
  unfold swapMarkerDue swapNext
  rw [swapOf_receiveSymbol, sfCount_receiveSymbol]

end Received

/-! ### Hold-over begins and ends (R87) -/

section Enter
variable {p : Nat} {d : Dev} (hc : attr d PORT_STATE p = psCarry) (hh : inHoldover d p = false)
include hc hh

theorem enterHoldover_eq : enterHoldover p d =
    fireSnapshots p 2 (setAttr PORT_RX_STATE p 3 (modRx p (fun x => { x with holdSf := 0, detected := 0 }) d)) := by
  unfold enterHoldover
  exact if_neg (by simp [hc, hh])

theorem enterHoldover_attrs : (enterHoldover p d).attrs = (setAttr PORT_RX_STATE p 3 d).attrs := by
  rw [enterHoldover_eq hc hh, fireSnapshots_attrs]
  rfl

theorem enterHoldover_holdSf : (rx (enterHoldover p d) p).holdSf = 0 := by
  rw [enterHoldover_eq hc hh, rx, port_congr (fireSnapshots_ports ..), port_congr (setAttr_ports ..), port_modRx]

end Enter

theorem leaveHoldover_attrs (p : Nat) (d : Dev) :
    KeepsOthers [] (bump PORT_MICROBREAKS p 1 (setAttr PORT_RX_STATE p 2 d)) (leaveHoldover p d) := by
  unfold leaveHoldover
  dsimp only
  refine KeepsOthers.trans (keepsOthers_of_attrs (bump_attrs ?_ _ _ _)) (keepsOthers_raise _ _ _ _ _)
  rfl

theorem leaveHoldover_holdSf (p : Nat) (d : Dev) : (rx (leaveHoldover p d) p).holdSf = 0 := by
  unfold leaveHoldover
  dsimp only
  rw [rx, port_congr (raise_ports ..), port_congr (bump_ports ..), port_congr (setAttr_ports ..), port_modRx]

theorem inHoldover_congr {p : Nat} {d e : Dev} (h : e.attrs = d.attrs) : inHoldover e p = inHoldover d p := by
  rw [inHoldover, inHoldover, attr_congr h]

/-- What a row tells of hold-over begun on a port. -/
theorem holdover_begun {p : Nat} {s : State} {e : Dev} (ha : e.attrs = s.dev.attrs) (hc : attr s.dev PORT_STATE p = psCarry) (hh : inHoldover s.dev p = false) :
    attr (enterHoldover p e) PORT_RX_STATE p = 3 ∧ (rx (enterHoldover p e) p).holdSf = 0
      ∧ Claims.KeepsAttrs [(PORT_RX_STATE.code, p)] s { s with dev := enterHoldover p e } := by
  have carries : attr e PORT_STATE p = psCarry := by rw [attr_congr ha, hc]
  have outside : inHoldover e p = false := by rw [inHoldover_congr ha, hh]
  refine ⟨?_, enterHoldover_holdSf carries outside, keepsAttrs_dev ?_⟩
  · rw [attr_congr (enterHoldover_attrs carries outside), attr_setAttr]
    rfl
  · exact ((keepsOthers_of_attrs ha).trans (keepsOthers_setAttr _ _ (by decide) (by simp))).trans (keepsOthers_of_attrs (enterHoldover_attrs carries outside))

/-! ### Markers (R86, R87) -/

theorem measureSnr_attrs (p : Nat) (snrs : List (Nat × Nat)) (d : Dev) : (measureSnr p snrs d).attrs = d.attrs := by
  rw [measureSnr, modRx_attrs, refreshSnr, setBlock_attrs, modRx_attrs]

theorem measureSnr_detected (p : Nat) (snrs : List (Nat × Nat)) (d : Dev) : (rx (measureSnr p snrs d) p).detected = (rx d p).detected := by
  rw [measureSnr, rx, port_modRx, refreshSnr, port_congr (setBlock_ports ..), port_modRx]
  rfl

theorem takeCount_attrs (p count : Nat) (d : Dev) : (takeCount p count d).attrs = d.attrs := by
  unfold takeCount
  split <;> rfl

theorem takeCount_detected (p count : Nat) (d : Dev) : (rx (takeCount p count d) p).detected = (rx d p).detected := by
  unfold takeCount
  split
  · rw [rx, port_modRx]
    rfl
  · rfl

/-- R87: the second marker missed in a row starts hold-over, out of an entry agreed for this superframe. -/
theorem markerMissed_second {p : Nat} {d : Dev} (hm : 1 ≤ (rx d p).missed) (hq : quietDue d p = false) :
    ∃ e, markerMissed p d = enterHoldover p e ∧ e.attrs = d.attrs := by
  unfold markerMissed
  extract_lets e
  have second : 2 ≤ (rx e p).missed := by
    have count : (rx e p).missed = (rx d p).missed + 1 := by
      rw [rx, port_congr (fireSnapshots_ports ..), port_modRx]
      rfl
    omega
  rw [if_neg (by simp [hq]), if_pos second]
  exact ⟨e, rfl, fireSnapshots_attrs ..⟩

/-- R87: in hold-over, the second marker detected in a row ends it. -/
theorem markerSeen_second {p : Nat} {mk : MarkerFound} {d : Dev} (hd : 1 ≤ (rx d p).detected) (hh : inHoldover d p = true)
    (hs : swapMarkerDue d p = false) : ∃ e, markerSeen p mk d = leaveHoldover p e ∧ e.attrs = d.attrs := by
  have noSwap : ¬(mk.form.val = 1 ∧ swapMarkerDue d p = true) := by simp [hs]
  have holds : inHoldover (measureSnr p mk.snrs d) p = true := by rw [inHoldover_congr (measureSnr_attrs ..), hh]
  unfold markerSeen
  extract_lets d1 d2 d3
  have unswapped : d2 = d1 := if_neg noSwap
  have second : 2 ≤ (rx d3 p).detected := by
    have count : (rx d3 p).detected = (rx d1 p).detected + 1 := by
      rw [← unswapped, rx, port_modRx]
      rfl
    rw [count, measureSnr_detected]
    omega
  rw [unswapped, if_pos holds, if_pos second]
  exact ⟨d3, rfl, (modRx_attrs ..).trans (by rw [unswapped, measureSnr_attrs])⟩

/-- R78, R86: in CARRY a marker that is due is one seen or one missed. -/
theorem markerDue_carry {p : Nat} {d : Dev} (hc : attr d PORT_STATE p = psCarry) (mk : MarkerFound) (found : Bool)
    (hf : (decide (500 ≤ mk.corr) && decide (mk.form.val ≠ 3)) = found) :
    markerDue p mk d = (if found then markerSeen p mk (receiveSymbol p 0 mk.tones mk.steps (takeCount p mk.count.toNat d))
      else markerMissed p (receiveSymbol p 0 mk.tones mk.steps d)) := by
  have carries : ∀ e : Dev, e.attrs = d.attrs → stateOf (receiveSymbol p 0 mk.tones mk.steps e) p = psCarry := fun e he => by
    rw [stateOf, attr_congr (receiveSymbol_attrs ..), attr_congr he, hc]
  have notTrain : ¬psCarry = psTrain := by decide
  unfold markerDue
  dsimp only
  rw [hf]
  cases found with
  | true =>
    rw [if_pos rfl, carries _ (takeCount_attrs ..), if_neg notTrain, if_pos rfl]
    rfl
  | false =>
    rw [if_neg Bool.false_ne_true, carries _ rfl, if_neg notTrain, if_pos rfl, if_neg Bool.false_ne_true, if_neg Bool.false_ne_true]

theorem exec_markerDetection (p : Fin 128) (mk : MarkerFound) (s : State) :
    exec (.markerDetection p mk) s = .next { s with dev := markerDue p mk s.dev } := rfl

section Marker
variable {p : Fin 128} {s : State} {mk : MarkerFound} (hc : attr s.dev PORT_STATE p = psCarry)
include hc

theorem markerDetection_missed (hf : mk.corr < 500 ∨ mk.form = 3) (hm : 1 ≤ (rx s.dev p).missed) (hh : inHoldover s.dev p = false)
    (hq : quietDue s.dev p = false) :
    ∃ t, exec (.markerDetection p mk) s = .next t ∧ attr t.dev PORT_RX_STATE p = 3 ∧ (rx t.dev p).holdSf = 0
      ∧ Claims.KeepsAttrs [(PORT_RX_STATE.code, p.val)] s t ∧ t.mem = s.mem := by
  have missed : (decide (500 ≤ mk.corr) && decide (mk.form.val ≠ 3)) = false := by
    rcases hf with hf | hf
    · simp [hf]
    · simp [hf]
  obtain ⟨e, he, ha⟩ := markerMissed_second (d := receiveSymbol p 0 mk.tones mk.steps s.dev) (by rwa [receiveSymbol_missed])
    (by rwa [quietDue_receiveSymbol])
  obtain ⟨hstate, hsf, hkeep⟩ := holdover_begun (ha.trans (receiveSymbol_attrs ..)) hc hh
  have run : exec (.markerDetection p mk) s = .next { s with dev := enterHoldover p e } := by
    rw [exec_markerDetection, markerDue_carry hc mk false missed, if_neg Bool.false_ne_true, he]
  exact ⟨_, run, hstate, hsf, hkeep, rfl⟩

theorem markerDetection_recovered (h500 : 500 ≤ mk.corr) (h3 : mk.form ≠ 3) (hs : swapMarkerDue (takeCount p mk.count.toNat s.dev) p = false)
    (hd : 1 ≤ (rx s.dev p).detected) (hh : inHoldover s.dev p = true) :
    ∃ t, exec (.markerDetection p mk) s = .next t ∧ attr t.dev PORT_RX_STATE p = 2
      ∧ attr t.dev PORT_MICROBREAKS p = (attr s.dev PORT_MICROBREAKS p + 1) % 2 ^ 32 ∧ (rx t.dev p).holdSf = 0
      ∧ Claims.KeepsAttrs [(PORT_RX_STATE.code, p.val), (PORT_MICROBREAKS.code, p.val)] s t ∧ t.mem = s.mem := by
  have seen : (decide (500 ≤ mk.corr) && decide (mk.form.val ≠ 3)) = true := by
    have form : mk.form.val ≠ 3 := fun h => h3 (Fin.ext h)
    simp [h500, form]
  have same : (receiveSymbol p 0 mk.tones mk.steps (takeCount p mk.count.toNat s.dev)).attrs = s.dev.attrs :=
    (receiveSymbol_attrs ..).trans (takeCount_attrs ..)
  obtain ⟨e, he, ha⟩ := markerSeen_second (mk := mk) (d := receiveSymbol p 0 mk.tones mk.steps (takeCount p mk.count.toNat s.dev))
    (by rwa [receiveSymbol_detected, takeCount_detected]) (by rwa [inHoldover_congr same]) (by rwa [swapMarkerDue_receiveSymbol])
  have before : e.attrs = s.dev.attrs := ha.trans same
  have left := leaveHoldover_attrs p e
  have run : exec (.markerDetection p mk) s = .next { s with dev := leaveHoldover p e } := by
    rw [exec_markerDetection, markerDue_carry hc mk true seen, if_pos rfl, he]
  refine ⟨_, run, ?_, ?_, leaveHoldover_holdSf .., keepsAttrs_dev ?_, rfl⟩
  · dsimp only
    rw [left _ _ (by decide) (by decide) (by simp), attr_bump_ne _ _ _ _ (by decide) (by decide) (by decide), attr_setAttr]
    rfl
  · dsimp only
    rw [left _ _ (by decide) (by decide) (by simp), attr_bump, attr_setAttr_ne _ _ _ _ (by decide) (by decide) (by decide), attr_congr before]
    rfl
  · have counted : KeepsOthers [(PORT_RX_STATE.code, p.val), (PORT_MICROBREAKS.code, p.val)] e (bump PORT_MICROBREAKS p 1 (setAttr PORT_RX_STATE p 2 e)) :=
      (keepsOthers_setAttr _ _ (by decide) (by simp)).trans (keepsOthers_setAttr _ _ (by decide) (by simp))
    exact ((keepsOthers_of_attrs before).trans counted).trans fun b j hb hn _ => left b j hb hn (by simp)

theorem pilotPowerLoss_holds (hq : quietDue s.dev p = false) (hh : inHoldover s.dev p = false) :
    ∃ t, exec (.pilotPowerLoss p) s = .next t ∧ attr t.dev PORT_RX_STATE p = 3 ∧ (rx t.dev p).holdSf = 0
      ∧ Claims.KeepsAttrs [(PORT_RX_STATE.code, p.val)] s t ∧ t.mem = s.mem := by
  obtain ⟨hstate, hsf, hkeep⟩ := holdover_begun (e := s.dev) rfl hc hh
  have run : exec (.pilotPowerLoss p) s = .next { s with dev := enterHoldover p s.dev } := by
    show onDev (fun d => if quietDue d p then d else enterHoldover p d) s = _
    rw [onDev, if_neg (by simp [hq])]
  exact ⟨_, run, hstate, hsf, hkeep, rfl⟩

end Marker
end Sys2Proof.Machine

namespace Sys2Proof.Machine

/-! ### Saturated attributes (R7) -/

theorem unsignedOf_lt (w : Nat) (i : Int) : unsignedOf w i < 2 ^ w := by
  have pos : (0 : Int) < 2 ^ w := by positivity
  have below := Int.emod_lt_of_pos i pos
  have least := Int.emod_nonneg i pos.ne'
  unfold unsignedOf
  zify
  rwa [Int.toNat_of_nonneg least]

/-- A saturated value is not cut when it is written. -/
theorem attr_setAttrInt (a : Attr) (i : Nat) (v : Int) (d : Dev) : attr (setAttrInt a i v d) a i = saturateS a.width v := by
  rw [setAttrInt, attr_setAttr]
  exact Nat.mod_eq_of_lt (unsignedOf_lt _ _)

/-! ### Blocks retired are announced for restoration (R93, R96) -/

section Restore
variable {p : Fin 128} {s : State}

theorem exec_paceRestore {b : Nat} (hr : paceRestorable s.dev p = some b) (hb : bitOf (rxCause s.dev p b) 1 = false) :
    exec (.paceRestore p) s = .next { s with dev := issueNotice p (wantChange p ⟨b, rxCause s.dev p b, true, 0⟩ s.dev) } := by
  show execPaceRestore p s = _
  unfold execPaceRestore onDev
  dsimp only
  rw [hr]
  dsimp only
  rw [hb, Bool.false_and, if_neg Bool.false_ne_true]

theorem exec_ingressRestore {b : Fin 32} (h1 : bitOf (rxCause s.dev p b) 1 = true) (h0 : bitOf (rxCause s.dev p b) 0 = false)
    (ho : ingressOver s.dev p b = true) (hw : ∀ c ∈ (rx s.dev p).wanted ++ (rx s.dev p).announced, c.restore = false) :
    exec (.ingressRestore p b) s = .next { s with dev := issueNotice p (wantChange p ⟨b, rxCause s.dev p b, true, 0⟩ s.dev) } := by
  have noneDue : ((rx s.dev p).wanted ++ (rx s.dev p).announced).any (fun c => c.restore) = false :=
    List.any_eq_false.2 fun c hc => by simp [hw c hc]
  show execIngressRestore p b s = _
  unfold execIngressRestore onDev
  dsimp only
  rw [h1, h0, ho, noneDue]
  rfl

end Restore

/-! ### The filters of a receiver (R74, R77) -/

section Filters
variable {p : Fin 128} {s : State}

theorem exec_tsfComputed {f : TsfFilter} (hs : attr s.dev PORT_STATE p = psTrain) (hp : attr s.dev PORT_TRAIN_PHASE p = 3) :
    exec (.tsfComputed p f) s = .next { s with dev := setAttr PORT_TSF_UPDATES p 0 (setAttrInt PORT_TSF_RESIDUAL p f.residual
      (modRx p (fun x => { x with shadowAt := 0, shadow := none, tsf := f.taps }) s.dev)) } := by
  show execTsfComputed p f s = _
  unfold execTsfComputed onDev
  dsimp only
  rw [if_pos ⟨hs, hp⟩]

theorem tsfComputed_trains (taps : List Int) (residual : Int) (hs : attr s.dev PORT_STATE p = psTrain) (hp : attr s.dev PORT_TRAIN_PHASE p = 3) :
    ∃ t, exec (.tsfComputed p ⟨taps, residual⟩) s = .next t ∧ (rx t.dev p).tsf = taps ∧ attr t.dev PORT_TSF_RESIDUAL p = saturateS 16 residual
      ∧ attr t.dev PORT_TSF_UPDATES p = 0 ∧ Claims.KeepsAttrs [(PORT_TSF_RESIDUAL.code, p.val), (PORT_TSF_UPDATES.code, p.val)] s t ∧ t.mem = s.mem := by
  refine ⟨_, exec_tsfComputed hs hp, ?_, ?_, ?_, keepsAttrs_dev ?_, rfl⟩
  · dsimp only
    rw [rx, port_congr (setAttr_ports ..), setAttrInt, port_congr (setAttr_ports ..), port_modRx]
  · dsimp only
    rw [attr_setAttr_ne _ _ _ _ (by decide) (by decide) (by decide), attr_setAttrInt]
    rfl
  · dsimp only
    rw [attr_setAttr, Nat.zero_mod]
  · exact ((keepsOthers_of_attrs (modRx_attrs ..)).trans (keepsOthers_setAttr _ _ (by decide) (by simp))).trans
      (keepsOthers_setAttr _ _ (by decide) (by simp))

/-- R77: a filter computed in CARRY that is worth its gain waits in the shadow. -/
theorem tsfShadowInstall_waits (taps : List Int) (correction : List (Nat × Cx)) (gain residual : Int) (hs : attr s.dev PORT_STATE p = psCarry)
    (hh : inHoldover s.dev p = false) (ha : (rx s.dev p).shadowAt = 0) :
    ∃ t, exec (.tsfShadowInstall p ⟨taps, residual⟩ ⟨correction, gain⟩) s = .next t
      ∧ (rx t.dev p).shadow = (if 5 ≤ gain then some ⟨taps, correction, residual⟩ else (rx s.dev p).shadow) ∧ (rx t.dev p).shadowAt = s.dev.elapsed + 1
      ∧ Claims.KeepsAttrs [] s t ∧ t.mem = s.mem := by
  have run : exec (.tsfShadowInstall p ⟨taps, residual⟩ ⟨correction, gain⟩) s = .next { s with dev := modRx p (fun y => { y with
      shadowAt := s.dev.elapsed + 1, shadow := if 5 ≤ gain then some ⟨taps, correction, residual⟩ else y.shadow }) s.dev } := by
    show execTsfShadowInstall p ⟨taps, residual⟩ ⟨correction, gain⟩ s = _
    unfold execTsfShadowInstall onDev
    dsimp only
    rw [if_pos ⟨hs, hh, .inl ha⟩]
  refine ⟨_, run, ?_, ?_, keepsAttrs_dev (keepsOthers_of_attrs (modRx_attrs ..)), rfl⟩
  · dsimp only
    rw [rx, port_modRx]
    rfl
  · dsimp only
    rw [rx, port_modRx]

end Filters

/-- R77: the boundary installs the filter that waits. -/
theorem installShadow_installs {p : Nat} {d : Dev} {f : ShadowFilter} (hf : (rx d p).shadow = some f) (hs : attr d PORT_STATE p = psCarry)
    (hh : inHoldover d p = false) :
    attr (installShadow p d) PORT_TSF_RESIDUAL p = saturateS 16 f.residual
      ∧ attr (installShadow p d) PORT_TSF_UPDATES p = (attr d PORT_TSF_UPDATES p + 1) % 2 ^ PORT_TSF_UPDATES.width
      ∧ (rx (installShadow p d) p).tsf = f.taps ∧ (rx (installShadow p d) p).shadow = none := by
  have carries : ¬stateOf d p ≠ psCarry := not_not.2 hs
  have tracks : ¬inHoldover d p = true := by simp [hh]
  unfold installShadow
  rw [hf]
  dsimp only
  rw [if_neg carries, if_neg tracks, rx, port_congr (bump_ports ..), setAttrInt, port_congr (setAttr_ports ..), port_modRx, ← setAttrInt]
  refine ⟨?_, ?_, rfl, rfl⟩
  · rw [attr_bump_ne _ _ _ _ (by decide) (by decide) (by decide), attr_setAttrInt]
    rfl
  · rw [attr_bump, setAttrInt, attr_setAttr_ne _ _ _ _ (by decide) (by decide) (by decide), attr_congr (modRx_attrs ..)]

/-! ### Clocks, surveys, ramps, aggressors and intervals (R74, R81, R84, R85, R201) -/

theorem exec_onExpiry {kind inst : Nat} {f : Dev → Dev} {s : State} (hd : due s.dev kind inst = true) :
    onDev (onExpiry kind inst f) s = .next { s with dev := f (disarm kind inst s.dev) } := by
  rw [onDev, onExpiry, if_pos hd]

theorem prismClockSlewEnd_ends {m : Fin 8} {s : State} (h : attrInt s.dev PRISM_CLOCK_OFFSET m = (prism s.dev m).reference) :
    ∃ t, exec (.prismClockSlewEnd m) s = .next t ∧ attr t.dev PRISM_CLOCK_SLEWING m = 0 ∧ armed t.dev tkSlew m = false
      ∧ Claims.KeepsAttrs [(PRISM_CLOCK_SLEWING.code, m.val)] s t ∧ Claims.KeepsUnits s t := by
  have run : exec (.prismClockSlewEnd m) s = .next { s with dev := disarm tkSlew m (setAttr PRISM_CLOCK_SLEWING m 0 s.dev) } := by
    show execPrismClockSlewEnd m s = _
    unfold execPrismClockSlewEnd onDev
    dsimp only
    rw [if_pos h]
  refine ⟨_, run, ?_, armed_disarm .., keepsAttrs_dev ?_, ⟨_, s.dev.masters, _, s.dev.nextOrder, rfl⟩⟩
  · dsimp only
    rw [attr_disarm, attr_setAttr, Nat.zero_mod]
  · exact (keepsOthers_setAttr _ _ (by decide) (by simp)).trans fun b j _ _ _ => attr_disarm ..

theorem exec_admissionRampEnd {m : Fin 8} {s : State} (hp : attr s.dev PRISM_ADMISSION_PORT m < 128) (hr : 16 ≤ (prism s.dev m).rampSf)
    (hs : scanAt s.dev (attr s.dev PRISM_ADMISSION_PORT m) .ramp = false) :
    exec (.admissionRampEnd m) s = .next { s with
      dev := releaseRamp m (modTrain (attr s.dev PRISM_ADMISSION_PORT m) (fun x => { x with rampDone := true }) s.dev) } := by
  have settled : ¬(128 ≤ attr s.dev PRISM_ADMISSION_PORT m ∨ (prism s.dev m).rampSf < 16) := by omega
  have noScan : ¬scanAt s.dev (attr s.dev PRISM_ADMISSION_PORT m) .ramp = true := by simp [hs]
  show execAdmissionRampEnd m s = _
  unfold execAdmissionRampEnd onDev rampEnds
  dsimp only
  rw [if_neg settled, if_neg noScan]

section Upkeep
variable {p : Fin 128} {s : State}

theorem nextCoeffHoldExpiry_frees (hd : due s.dev tkCoeffHold p = true) :
    ∃ t, exec (.nextCoeffHoldExpiry p) s = .next t ∧ t.dev = freeAggressor p (disarm tkCoeffHold p s.dev) ∧ t.mem = s.mem ∧ Claims.KeepsAttrs [] s t := by
  have run : exec (.nextCoeffHoldExpiry p) s = .next { s with dev := freeAggressor p (disarm tkCoeffHold p s.dev) } := exec_onExpiry hd
  have kept : KeepsOthers [] s.dev (freeAggressor p (disarm tkCoeffHold p s.dev)) := fun b j _ _ _ => by
    rw [attr_freeAggressor, attr_disarm]
  refine ⟨_, run, ?_, ?_, keepsAttrs_dev kept⟩
  · dsimp only
  · dsimp only

theorem nextDormantRelaxEnd_ends (hr : (rx s.dev p).relax = some 0) :
    ∃ t, exec (.nextDormantRelaxEnd p) s = .next t ∧ (rx t.dev p).relax = none ∧ Claims.KeepsAttrs [] s t ∧ t.mem = s.mem := by
  have ends : (port s.dev p).rx.relax = some 0 := hr
  have run : exec (.nextDormantRelaxEnd p) s = .next { s with dev := modRx p (fun x => { x with relax := none }) s.dev } := by
    show execNextDormantRelaxEnd p s = _
    unfold execNextDormantRelaxEnd onDev
    dsimp only
    rw [if_pos ends]
  refine ⟨_, run, ?_, keepsAttrs_dev (keepsOthers_of_attrs (modRx_attrs ..)), rfl⟩
  dsimp only
  rw [rx, port_modRx]

/-- R201: the interval ended, before the next one is armed. -/
theorem endInterval_attrs (q : Nat) (d : Dev) :
    (endInterval q d).attrs = (setAttr PORT_SNR_HIST_HEAD q ((attr d PORT_SNR_HIST_HEAD q + 1) % 256 % 64) d).attrs := rfl

theorem endInterval_rx (q : Nat) (d : Dev) : rx (endInterval q d) q = { rx d q with histLow := List.replicate 32 0xFF, histSeen := false } := by
  unfold endInterval
  dsimp only
  rw [rx, port_congr (setAttr_ports ..), port_modRx, port_congr (setBlock_ports ..)]
  rfl

theorem snrHistoryIntervalEnd_enters (hd : due s.dev tkSnrInterval p = true) :
    ∃ t, exec (.snrHistoryIntervalEnd p) s = .next t
      ∧ attr t.dev PORT_SNR_HIST_HEAD p = (attr s.dev PORT_SNR_HIST_HEAD p + 1) % 256 % 64
      ∧ (rx t.dev p).histLow = List.replicate 32 0xFF ∧ (rx t.dev p).histSeen = false ∧ armed t.dev tkSnrInterval p = true
      ∧ Claims.KeepsAttrs [(PORT_SNR_HIST_HEAD.code, p.val)] s t ∧ t.mem = s.mem := by
  have run : exec (.snrHistoryIntervalEnd p) s = .next { s with dev := armInterval p (endInterval p s.dev) } := by
    show execSnrHistoryIntervalEnd p s = _
    unfold execSnrHistoryIntervalEnd onDev
    dsimp only
    rw [hd, Bool.not_true, Bool.and_false, if_neg Bool.false_ne_true]
  have held : rx (armInterval p (endInterval p s.dev)) p = rx (endInterval p s.dev) p := by
    rw [rx, armInterval, port_congr (arm_ports ..)]
    rfl
  refine ⟨_, run, ?_, ?_, ?_, ?_, keepsAttrs_dev ?_, rfl⟩
  · dsimp only
    rw [armInterval, attr_arm, attr_congr (endInterval_attrs ..), attr_setAttr]
    exact Nat.mod_eq_of_lt ((Nat.mod_lt _ (by decide)).trans (by decide))
  · dsimp only
    rw [held, endInterval_rx]
  · dsimp only
    rw [held, endInterval_rx]
  · dsimp only
    rw [armInterval, armed_arm]
  · exact ((keepsOthers_setAttr _ _ (by decide) (by simp)).trans (keepsOthers_of_attrs (endInterval_attrs ..))).trans fun b j _ _ _ => attr_arm ..

end Upkeep

/-- Settles O24. Hold-over begins and ends as `markerMissed`, `markerSeen` and `enterHoldover` say, and its end is the loss of the partner (R153),
which in a graceful stop leads to DOWN (assumption 109): of the attributes beside those of its upkeep, a port that falls silent changes its
state alone (`attr_changeState_silent`). Each piece of periodic work is one guarded update. -/
theorem receiverUpkeep : Obligations.receiver_upkeep := by
  unfold Obligations.receiver_upkeep
  refine ⟨fun p s hc => ⟨?missed, ?seen, ?pilots, ?lost, ?stopped⟩,
    fun p s => ⟨?pace, ?ingress, ?slew, ?computed, ?waits, ?installed, ?survey, ?ramp, ?aggressor, ?relaxed, ?interval⟩⟩
  case missed => exact fun mk hf hm hh hq => markerDetection_missed hc hf hm hh hq
  case seen => exact fun mk h500 h3 hs hd hh => markerDetection_recovered hc h500 h3 hs hd hh
  case pilots => exact pilotPowerLoss_holds hc
  case lost =>
    intro hh hn hs
    obtain ⟨state, losses, cause⟩ := attr_partnerLost hc hs causeHoldover
    exact ⟨_, exec_holdoverTimeout hh hn, state, losses, cause, rfl⟩
  case stopped => exact fun hh hn hs => ⟨_, exec_holdoverTimeout hh hn, attr_partnerLost_stopped hc hs causeHoldover, rfl⟩
  case pace => exact fun b hr hb => exec_paceRestore hr hb
  case ingress => exact fun b h1 h0 ho hw => exec_ingressRestore h1 h0 ho hw
  case slew => exact fun m h => prismClockSlewEnd_ends h
  case computed => exact fun taps residual hs hp => tsfComputed_trains taps residual hs hp
  case waits => exact fun taps correction gain residual hs hh ha => tsfShadowInstall_waits taps correction gain residual hs hh ha
  case installed => exact fun f hf hs hh => installShadow_installs hf hs hh
  case survey => exact fun surveyed active hd => exec_onExpiry hd
  case ramp => exact fun m hp hr hs => exec_admissionRampEnd hp hr hs
  case aggressor => exact nextCoeffHoldExpiry_frees
  case relaxed => exact nextDormantRelaxEnd_ends
  case interval => exact snrHistoryIntervalEnd_enters
end Sys2Proof.Machine

namespace Sys2Proof.Machine

/-! ### Holes asked for again and finally dropped (R118, R121) -/

@[simp] theorem recast_modRecast (p : Nat) (f : Recast → Recast) (d : Dev) : recast (modRecast p f d) p = f (recast d p) :=
  congrArg Port.recast (port_modRecast ..)

/-- Of port `p`, the holes stand as before, and of every port the count of holes dropped: what a release of containers leaves alone. -/
structure ReleaseFrame (p : Nat) (d e : Dev) : Prop where
  holes : (recast e p).holes = (recast d p).holes
  dropped : ∀ i, attr e PORT_RECAST_DROPPED i = attr d PORT_RECAST_DROPPED i

namespace ReleaseFrame

variable {p : Nat} {d e f : Dev}

theorem refl (p : Nat) (d : Dev) : ReleaseFrame p d d := ⟨rfl, fun _ => rfl⟩

/-- Transitivity with the later step first, in the order in which the model writes its steps. -/
theorem after (k : ReleaseFrame p e f) (h : ReleaseFrame p d e) : ReleaseFrame p d f :=
  ⟨k.holes.trans h.holes, fun i => (k.dropped i).trans (h.dropped i)⟩

theorem of_ports (h : e.ports = d.ports) (ha : ∀ i, attr e PORT_RECAST_DROPPED i = attr d PORT_RECAST_DROPPED i) : ReleaseFrame p d e :=
  ⟨congrArg (fun x => x.recast.holes) (port_congr h p), ha⟩

theorem modRecast {g : Recast → Recast} (hg : ∀ x, (g x).holes = x.holes := by exact fun _ => rfl) : ReleaseFrame p d (modRecast p g d) :=
  ⟨by rw [recast_modRecast, hg], fun _ => rfl⟩

theorem modFlow (f : Nat) (g : FlowRun → FlowRun) (p : Nat) (d : Dev) : ReleaseFrame p d (modFlow f g d) := of_ports rfl fun _ => rfl

theorem bump {a : Attr} (j n : Nat) (ha : PORT_RECAST_DROPPED.code ≠ a.code := by decide) (hlt : a.code < 2 ^ 24 := by decide) :
    ReleaseFrame p d (bump a j n d) := of_ports rfl fun i => attr_bump_ne j n i d ha hlt (by decide)

theorem foldl {α : Type} {g : Dev → α → Dev} (h : ∀ e x, ReleaseFrame p e (g e x)) (l : List α) (d : Dev) : ReleaseFrame p d (l.foldl g d) := by
  induction l generalizing d with
  | nil => exact refl p d
  | cons x l ih => exact after (ih _) (h d x)

theorem lineDrop (p q cls n : Nat) (d : Dev) : ReleaseFrame p d (lineDrop q cls n d) := by
  unfold Machine.lineDrop
  split
  · exact refl p d
  · split
    · exact after (modFlow ..) (bump ..)
    · exact bump ..

theorem frameFromLine (p q cls : Nat) (bytes : List Byte) (stamp : Option Nat) (d : Dev) : ReleaseFrame p d (frameFromLine q cls bytes stamp d) := by
  have pushed (g f : Nat) (us : List HubUnit) : ReleaseFrame p d (innerPush g f us d) := of_ports rfl fun _ => rfl
  unfold Machine.frameFromLine
  split
  · exact bump ..
  · dsimp only
    split
    · exact after (modFlow ..) (bump ..)
    · split
      · split
        · exact after (bump ..) (pushed ..)
        · exact after (bump ..) (pushed ..)
      · exact pushed ..

theorem breakFrames (p : Nat) (d : Dev) : ReleaseFrame p d (breakFrames p d) := by
  unfold Machine.breakFrames
  exact after (foldl (fun _ _ => lineDrop ..) ..) modRecast

theorem appendSegment (p : Nat) (s : Segment) (d : Dev) : ReleaseFrame p d (appendSegment p s d) := by
  unfold Machine.appendSegment
  dsimp only
  split
  · exact breakFrames p d
  · split
    · split
      · exact after (lineDrop ..) (after (bump ..) modRecast)
      · exact refl p d
    · split
      · split
        · exact after (frameFromLine ..) modRecast
        · exact after (lineDrop ..) (after (bump ..) modRecast)
      · exact modRecast

theorem releaseReady (p : Nat) (d : Dev) : ReleaseFrame p d (releaseReady p d) := by
  unfold Machine.releaseReady
  exact after (foldl (fun _ _ => foldl (fun _ _ => appendSegment ..) ..) ..) modRecast

end ReleaseFrame

section Hole
variable {p s : Nat} {d : Dev} {h : Hole} (hm : h ∈ (recast d p).holes) (hs : h.seq = s)
include hm hs

/-- R121: the hole dropped is counted and no hole any more; what it held back is released. -/
theorem dropHole_frame : ∃ d1, ReleaseFrame p d1 (dropHole p s d)
    ∧ (recast d1 p).holes = (recast d p).holes.filter (fun x => x.seq != s)
    ∧ attr d1 PORT_RECAST_DROPPED p = (attr d PORT_RECAST_DROPPED p + 1) % 2 ^ 32 := by
  have isHole : (recast d p).holes.any (fun x => x.seq == s) = true := List.any_eq_true.2 ⟨h, hm, beq_iff_eq.2 hs⟩
  rw [dropHole, if_pos isHole]
  refine ⟨_, .releaseReady .., ?_, ?_⟩
  · rw [recast, port_congr (bump_ports ..)]
    exact congrArg Recast.holes (recast_modRecast ..)
  · rw [attr_bump, attr_modRecast]
    rfl

theorem dropHole_holes : (recast (dropHole p s d) p).holes = (recast d p).holes.filter (fun x => x.seq != s) := by
  obtain ⟨d1, after, holes, _⟩ := dropHole_frame hm hs
  exact after.holes.trans holes

theorem attr_dropHole_dropped : attr (dropHole p s d) PORT_RECAST_DROPPED p = (attr d PORT_RECAST_DROPPED p + 1) % 2 ^ 32 := by
  obtain ⟨d1, after, _, dropped⟩ := dropHole_frame hm hs
  exact (after.dropped p).trans dropped

/-- R118 step 3: a hole whose retry has passed waits for the next retry and is asked for (assumption 29). -/
theorem renak_eq (hn : h.nakAt ≤ d.elapsed) : renak p s d = queueNak p s (modRecast p
    (fun x => { x with holes := x.holes.map fun y => if y.seq = s then { y with nakAt := d.elapsed + retryInUse d p } else y }) d) :=
  if_pos (List.any_eq_true.2 ⟨h, hm, by rw [Bool.and_eq_true, beq_iff_eq, decide_eq_true_eq]; exact ⟨hs, hn⟩⟩)

end Hole

theorem queueNak_holes (p s : Nat) (d : Dev) : (recast (queueNak p s d) p).holes = (recast d p).holes := by
  rw [queueNak, recast_modRecast]
  split <;> rfl

theorem mem_queueNak_naks (p s : Nat) (d : Dev) : s ∈ (recast (queueNak p s d) p).naks := by
  rw [queueNak, recast_modRecast]
  split
  · next h => exact List.elem_iff.1 h
  · exact List.mem_append_right _ List.mem_cons_self

section Rows
variable {p : Fin 128} {s : State}

theorem exec_containerSend (lost : List Nat) (hs : sendsContainers s.dev p = true) :
    exec (.containerSend p lost) s = .next { s with dev := sendBlock p lost s.dev } := by
  show onDev _ s = _
  rw [onDev, if_pos hs]

theorem renakTimer_asksAgain {q : Fin 16384} {h : Hole} (hm : h ∈ (recast s.dev p).holes) (hq : h.seq = q.val) (hn : h.nakAt ≤ s.dev.elapsed) :
    ∃ t, exec (.renakTimer p q) s = .next t ∧ q.val ∈ (recast t.dev p).naks
      ∧ (recast t.dev p).holes
        = (recast s.dev p).holes.map (fun x => if x.seq = q.val then { x with nakAt := s.dev.elapsed + retryInUse s.dev p } else x)
      ∧ Claims.KeepsAttrs [] s t ∧ t.mem = s.mem := by
  have run : exec (.renakTimer p q) s = .next { s with dev := renak p q s.dev } := rfl
  rw [renak_eq hm hq hn] at run
  refine ⟨_, run, mem_queueNak_naks .., ?_, keepsAttrs_dev (keepsOthers_of_attrs ((queueNak_attrs ..).trans (modRecast_attrs ..))), rfl⟩
  dsimp only
  rw [queueNak_holes, recast_modRecast]

theorem holeDeadline_drops {q : Fin 16384} {h : Hole} (hm : h ∈ (recast s.dev p).holes) (hq : h.seq = q.val) (hd : h.dropAt ≤ s.dev.elapsed) :
    ∃ t, exec (.holeDeadline p q) s = .next t ∧ (∀ x ∈ (recast t.dev p).holes, x.seq ≠ q.val)
      ∧ attr t.dev PORT_RECAST_DROPPED p = (attr s.dev PORT_RECAST_DROPPED p + 1) % 2 ^ 32 ∧ t.mem = s.mem := by
  have passed : (recast s.dev p).holes.any (fun x => x.seq == q.val && decide (x.dropAt ≤ s.dev.elapsed)) = true :=
    List.any_eq_true.2 ⟨h, hm, by rw [Bool.and_eq_true, beq_iff_eq, decide_eq_true_eq]; exact ⟨hq, hd⟩⟩
  have run : exec (.holeDeadline p q) s = .next { s with dev := dropHole p q s.dev } := by
    show onDev _ s = _
    rw [onDev, if_pos passed]
  refine ⟨_, run, fun x hx => ?_, attr_dropHole_dropped hm hq, rfl⟩
  dsimp only at hx
  rw [dropHole_holes hm hq, List.mem_filter, bne_iff_ne] at hx
  exact hx.2

/-- R127: the wait is over once no hole is left and no NAK came during the last retry. -/
theorem exec_recastDrained (hq : recastQuiet s.dev p = true) : exec (.recastDrained p) s = .next { s with dev := drainOver p s.dev } := by
  show onDev _ s = _
  rw [onDev, if_pos hq]

end Rows

section Drained
variable {p : Nat} {d : Dev}

/-- R127, R138: a graceful stop that still waits goes first. -/
theorem drainOver_stop {j : JobRef} (hs : (port d p).stop = some j) (hn : (port d p).stopSent = false) : drainOver p d = sendGracefulStop p d := by
  have stops : ((port d p).stop.isSome && !(port d p).stopSent) = true := by rw [hs, hn]; rfl
  exact if_pos stops

/-- R127, R421: with no stop, an entry of the host that waits names its superframe. -/
theorem drainOver_entry {e : QuietEntry} (hs : (port d p).stop = none) (he : (quiet d p).entry = some e) (hd : e.step = .draining)
    (hh : e.fromHost = true) : drainOver p d = sendQuietAt p d := by
  have noStop : ((port d p).stop.isSome && !(port d p).stopSent) = false := by rw [hs]; rfl
  have entry : (port d p).quiet.entry = some e := he
  unfold drainOver
  dsimp only
  rw [noStop, if_neg Bool.false_ne_true, entry]
  dsimp only
  rw [if_pos hd, if_pos hh]

end Drained

/-- Settles O28. Each row is one guarded update whose guard its clause meets. A hole asked for again restarts its retry timer as its NAK is queued
(assumption 29), and what the drop of a hole then releases changes neither the holes nor their count (`ReleaseFrame.releaseReady`). -/
theorem recastGoesOn : Obligations.recast_goes_on := by
  unfold Obligations.recast_goes_on
  refine fun p s => ⟨?send, ?again, ?deadline, ?stop, ?entry, ?timeout⟩
  case send => exact fun lost hs => exec_containerSend lost hs
  case again => exact fun q h hm hq hn => renakTimer_asksAgain hm hq hn
  case deadline => exact fun q h hm hq hd => holeDeadline_drops hm hq hd
  case stop =>
    intro j hq hs hn
    rw [exec_recastDrained hq, drainOver_stop hs hn]
  case entry =>
    intro e hq hs he hd hh
    rw [exec_recastDrained hq, drainOver_entry hs he hd hh]
  case timeout => exact fun hd => exec_onExpiry hd

end Sys2Proof.Machine

namespace Sys2Proof.Machine

/-! ### Commands of a master that is none of the four (O30, O32) -/

/-- R144: a resolution at a port in NEGOTIATE. -/
theorem exec_negotiateResolution {p : Fin 128} {s : State} (hn : attr s.dev PORT_STATE p = psNegotiate) (word : Option (BitVec 64))
    (legacy : Option Bool) :
    exec (.negotiateResolution p word legacy) s = .next { s with dev := resolve p (word.map (·.toNat)) legacy s.dev } := by
  show onDev _ s = _
  rw [onDev, if_pos hn]

/-- A port in NEGOTIATE for which a wake command waits, of a master with the number 9 · 2^16: the limit of a fence with its tag has then the
key of the port's dwell. -/
def strayWake : State :=
  { State.reset with
    dev := { setAttr PORT_STATE 5 psNegotiate State.reset.dev with
      jobs := [⟨⟨9 * 2 ^ 16, 5⟩, 0x33, [], 0, false, false, false⟩]
      multi := [⟨⟨9 * 2 ^ 16, 5⟩, [5], [], [], 0⟩] } }

/-- Refutes O30: the statement takes every list of outstanding commands, also of a master that is none of the four (R317), whose limits then
have keys of other limits. In `strayWake` a negotiation resolves to nothing and the port goes to LISTEN, where the wake that waits for it
completes: the limit that its completion stops is the port's dwell, which has just been started. The state is not one that steps lead to:
what the clause of `negotiateResolution` lacks is that outstanding commands are of masters 0 to 3. -/
theorem not_negotiation : ¬ Obligations.negotiation := by
  unfold Obligations.negotiation
  intro h
  obtain ⟨-, -, -, negotiates, -⟩ := h 5 strayWake
  have inNegotiate : attr strayWake.dev PORT_STATE (5 : Fin 128) = psNegotiate := by decide +kernel
  obtain ⟨-, -, ⟨t, ht, -, -, -, -, dwells, -⟩, -⟩ := negotiates inNegotiate
  rw [exec_negotiateResolution inNegotiate, Option.map_none] at ht
  obtain rfl := Host.Outcome.next.inj ht
  have stopped : armed (resolve (5 : Fin 128) none none strayWake.dev) tkDwell (5 : Fin 128) = false := by decide +kernel
  dsimp only at dwells
  rw [stopped] at dwells
  exact Bool.false_ne_true dwells

/-- A swap in both directions, of which the receive direction is asked about first. -/
def askedSwap (j : JobRef) : Swap where
  job := some j
  partner := false
  dirs := 3
  asked := [1, 0]
  agreed := 0
  changed := 0
  fresh := true
  tx := none
  rx := none
  sf := none
  attempts := 0
  atTime := none
  atDirs := 0
  marked := 0
  ending := none

/-- A port in CARRY whose swap was asked for by a master with the number 16 · 2^24 + 5: the limit of the signals of its queue has the key of
the limit of the port's swap. -/
def straySwap : State :=
  { State.reset with
    dev := { modPort 5 (fun x => { x with swap := some (askedSwap ⟨16 * 2 ^ 24 + 5, 7⟩) }) (setAttr PORT_STATE 5 psCarry State.reset.dev) with
      jobs := [⟨⟨16 * 2 ^ 24 + 5, 7⟩, 0x34, [], 0, false, false, false⟩] } }

theorem exec_swapReply (p : Fin 128) (code : Byte) (s : State) :
    exec (.swapReply p code) s = .next { s with dev := swapReply p code.toNat s.dev } := rfl

/-- Refutes O32: the statement takes every list of outstanding commands, also of a master that is none of the four (R317), whose limits then
have keys of other limits. In `straySwap` a request is refused, which ends the swap and stops its limit; the completion is queued for the
stray master, and the limit of its signals starts the limit of the swap again. The state is not one that steps lead to: what the clause of
a refusing `swapReply` lacks is that the swap's command is of a master 0 to 3. -/
theorem not_swapMessages : ¬ Obligations.swap_messages := by
  unfold Obligations.swap_messages
  intro h
  obtain ⟨-, -, refused, -⟩ := h 5 straySwap
  have pending : swapOf straySwap.dev (5 : Fin 128) = some (askedSwap ⟨16 * 2 ^ 24 + 5, 7⟩) := by decide +kernel
  obtain ⟨t, ht, -, -, ended, -⟩ := refused _ 1 [0] 4#8 pending rfl (by decide) rfl
  rw [exec_swapReply] at ht
  obtain rfl := Host.Outcome.next.inj ht
  have runs : armed (swapReply (5 : Fin 128) (4#8).toNat straySwap.dev) tkSwap (5 : Fin 128) = true := by decide +kernel
  exact Bool.false_ne_true (ended.symm.trans runs)

end Sys2Proof.Machine

namespace Sys2Proof.Machine

/-! ### What a change of a port's state leaves alone outside the state left and the state entered (R132) -/

/-- The attributes that diagnostics, claims, calibration, ramps, the service channel, chords, flows and rates write when a port changes its
state, and that an entry into CARRY counts anew. -/
def movedAttrs : List Attr :=
  lineCounters ++
  [DEVICE_EVENT_SEQ_NEXT, EVENTQ_QUEUED, EVENTQ_LOST, DEVICE_SNAP_READY, CAL_STALE, PRISM_ADMISSION_PORT, PRISM_CLOCK_SOURCE, PRISM_CLOCK_PORT,
   PRISM_CLOCK_SLEWING, FLOW_MEMBER, FLOW_DROP_LINK, FLOW_DROP_LINE, FLOW_DROP_NO_PATH, FLOW_DROP_EGRESS_RX, FLOW_TS_RX, FLOW_TS_INVALID,
   FLOW_TS_TX_REPORTS, GROUP_OVERSUB, GROUP_CHARGED, PORT_UNMAPPED_DROPS, PORT_EGRESS_FILL, PORT_OVERSUB, PORT_CHARGED_TX, PORT_CHARGED_RX,
   PORT_RESYNC_DISCARDS, PORT_FCS_DROPS, PORT_RECAST_DROPPED, PORT_COUNTER_EPOCH, PORT_WAKE_PENDING, PORT_SWAP_STATE, PORT_SWAP_SF, PORT_CLAIMS, PORT_LQ_RX,
   PORT_LQ_RX_AVG, PORT_MARGIN_RX, PORT_BITS_TX, PORT_BITS_RX, PORT_NET_RATE_TX, PORT_NET_RATE_RX, PORT_OVER_CAP, SVC_ROLE, SVC_RX_QUEUE,
   SVC_TX_QUEUE, SVC_NODE_PRESENT, SVC_BURSTS_TX]

/-- None of these attributes. -/
def Steady (b : Attr) : Prop := b.code < 2 ^ 24 ∧ b.code ∉ movedAttrs.map Attr.code

theorem moved_code_lt : ∀ c ∈ movedAttrs.map Attr.code, c < 2 ^ 24 := by decide

theorem Steady.code_ne {b : Attr} (hb : Steady b) {a : Attr} (ha : a.code ∈ movedAttrs.map Attr.code) : b.code ≠ a.code := by
  obtain ⟨_, hn⟩ := hb
  intro h
  rw [h] at hn
  exact hn ha

theorem Steady.noEvent {b : Attr} (hb : Steady b) : noEventAttr b :=
  ⟨hb.1, hb.code_ne (by decide), hb.code_ne (by decide), hb.code_ne (by decide)⟩

theorem steady_trainCount : Steady PORT_TRAIN_COUNT := ⟨by decide, by decide⟩

/-- All attributes but those moved, all graceful stops and all transmit loadings stand as before. -/
structure LinkFrame (d e : Dev) : Prop where
  attrs : ∀ b, Steady b → ∀ i, attr e b i = attr d b i
  stops : ∀ q, (port e q).stop = (port d q).stop
  loading : ∀ q, block e PORT_LOADING_TX q = block d PORT_LOADING_TX q

theorem raiseTo_blocks (ms : List Nat) (cls inst type detail : Nat) (d : Dev) : (raiseTo ms cls inst type detail d).blocks = d.blocks := by
  obtain ⟨⟨_, _, _, h⟩, _⟩ := eventFrame_raiseTo ms cls inst type detail d
  rw [h]

namespace LinkFrame

variable {d e f : Dev}

theorem refl (d : Dev) : LinkFrame d d := ⟨fun _ _ _ => rfl, fun _ => rfl, fun _ => rfl⟩

/-- Transitivity with the later step first, in the order in which the model writes its steps. -/
theorem after (k : LinkFrame e f) (h : LinkFrame d e) : LinkFrame d f :=
  ⟨fun b hb i => (k.attrs b hb i).trans (h.attrs b hb i), fun q => (k.stops q).trans (h.stops q), fun q => (k.loading q).trans (h.loading q)⟩

theorem of_same (ha : e.attrs = d.attrs) (hp : e.ports = d.ports) (hb : e.blocks = d.blocks) : LinkFrame d e :=
  ⟨fun b _ i => attr_congr ha b i, fun q => congrArg Port.stop (port_congr hp q), fun q => block_congr hb _ q⟩

theorem setAttr {a : Attr} (ha : a.code ∈ movedAttrs.map Attr.code) (i v : Nat) : LinkFrame d (setAttr a i v d) where
  attrs _ hb j := attr_setAttr_ne i v j d (hb.code_ne ha) (moved_code_lt _ ha) hb.1
  stops _ := rfl
  loading _ := rfl

theorem bump {a : Attr} (ha : a.code ∈ movedAttrs.map Attr.code) (i n : Nat) : LinkFrame d (bump a i n d) := setAttr ha i _

theorem attr_setAttr_key {a b : Attr} {i j : Nat} (hk : attrKey b j = attrKey a i) (v : Nat) (d : Dev) :
    attr (Machine.setAttr a i v d) b j = if v % 2 ^ a.width = a.reset i then b.reset j else v % 2 ^ a.width := by
  unfold attr Machine.setAttr bankPut
  rw [hk]
  split
  · exact bankGet_erase_same ..
  · rw [bankGet_insert _ _ _ _ _ bankErase_keys, if_pos rfl]

/-- One write on both sides. -/
theorem underSetAttr (h : LinkFrame d e) (a : Attr) (i v : Nat) : LinkFrame (Machine.setAttr a i v d) (Machine.setAttr a i v e) where
  attrs b hb j := by
    have same := h.attrs b hb j
    by_cases hk : attrKey b j = attrKey a i
    · rw [attr_setAttr_key hk, attr_setAttr_key hk]
    · unfold attr at same ⊢
      exact (bankGet_put_ne' _ _ _ _ hk).trans (same.trans (bankGet_put_ne' _ _ _ _ hk).symm)
  stops q := h.stops q
  loading q := h.loading q

/-- One steady counter raised on both sides. -/
theorem underBump (h : LinkFrame d e) {a : Attr} (ha : Steady a) (i n : Nat) : LinkFrame (Machine.bump a i n d) (Machine.bump a i n e) := by
  have counted := h.underSetAttr a i (attr d a i + n)
  unfold Machine.bump
  rw [h.attrs a ha i]
  exact counted

theorem setBlock {a : Attr} (ha : PORT_LOADING_TX.code ≠ a.code) (hlt : a.code < 2 ^ 24) (i : Nat) (bs : List Byte) :
    LinkFrame d (setBlock a i bs d) where
  attrs _ _ _ := rfl
  stops _ := rfl
  loading _ := bankGet_put_ne' _ _ _ _ fun h => ha (attrKey_inj (by decide) hlt h).2

theorem modPort {p : Nat} {g : Port → Port} (hg : ∀ x, (g x).stop = x.stop) : LinkFrame d (modPort p g d) where
  attrs _ _ _ := rfl
  stops q := by
    by_cases h : q = p
    · rw [h, port_modPort, hg]
    · rw [port_modPort_ne _ _ h]
  loading _ := rfl

theorem foldl {α : Type} {g : Dev → α → Dev} (h : ∀ e x, LinkFrame e (g e x)) (l : List α) (d : Dev) : LinkFrame d (l.foldl g d) := by
  induction l generalizing d with
  | nil => exact refl d
  | cons x l ih => exact after (ih _) (h d x)

theorem forAll {g : Nat → Dev → Dev} (h : ∀ k e, LinkFrame e (g k e)) (l : List Nat) (d : Dev) : LinkFrame d (forAll l g d) :=
  foldl (fun e k => h k e) l d

theorem ite {c : Prop} [Decidable c] {x y : Dev} (hx : LinkFrame d x) (hy : LinkFrame d y) : LinkFrame d (if c then x else y) := by
  split
  · exact hx
  · exact hy

theorem when {g : Dev → Dev} (h : ∀ e, LinkFrame e (g e)) (c : Bool) (d : Dev) : LinkFrame d (when c g d) := ite (h d) (refl d)

theorem resetAttrs {as : List Attr} (ha : ∀ a ∈ as, a.code ∈ movedAttrs.map Attr.code) (p : Nat) (d : Dev) : LinkFrame d (resetAttrs as p d) := by
  induction as generalizing d with
  | nil => exact refl d
  | cons a as ih => exact after (ih (fun x hx => ha x (List.mem_cons_of_mem a hx)) _) (setAttr (ha a List.mem_cons_self) p _)

/-! #### Events and completions -/

theorem raise (cls inst type detail : Nat) (d : Dev) : LinkFrame d (raise cls inst type detail d) where
  attrs b hb i := attr_raise cls inst type detail d b i hb.noEvent
  stops q := congrArg Port.stop (port_congr (raise_ports ..) q)
  loading q := block_congr (raise_blocks ..) _ q

theorem complete (j : JobRef) (cls inst type status : Nat) (result : List Byte) (d : Dev) : LinkFrame d (complete j cls inst type status result d) where
  attrs b hb i := attr_complete j cls inst type status result d b i hb.noEvent
  stops q := congrArg Port.stop (port_congr (complete_ports ..) q)
  loading q := by
    unfold Machine.complete completeBase
    split
    · rfl
    · have told := raiseTo_blocks [j.master] cls inst (128 + type) (j.tag + 256 * status)
      exact (block_congr (told _) _ q).trans ((setBlock (a := DEVICE_COMPLETION) (by decide) (by decide) _ _).loading q)


theorem completeOpt (j : Option JobRef) (cls inst type status : Nat) (result : List Byte) (d : Dev) :
    LinkFrame d (completeOpt j cls inst type status result d) := by
  unfold Machine.completeOpt
  split
  · exact complete ..
  · exact refl d

theorem arm (k i n : Nat) (d : Dev) : LinkFrame d (arm k i n d) := of_same rfl rfl rfl
theorem disarm (k i : Nat) (d : Dev) : LinkFrame d (disarm k i d) := of_same rfl rfl rfl
theorem modPrism (m : Nat) (g : Prism → Prism) (d : Dev) : LinkFrame d (modPrism m g d) := of_same rfl rfl rfl
theorem modFlow (n : Nat) (g : FlowRun → FlowRun) (d : Dev) : LinkFrame d (modFlow n g d) := of_same rfl rfl rfl
theorem closeFlow (g f : Nat) (d : Dev) : LinkFrame d (closeFlow g f d) := of_same rfl rfl rfl
theorem modRx (p : Nat) (g : PortRx → PortRx) (d : Dev) : LinkFrame d (modRx p g d) := modPort fun _ => rfl
theorem modTx (p : Nat) (g : PortTx → PortTx) (d : Dev) : LinkFrame d (modTx p g d) := modPort fun _ => rfl
theorem modSvc (p : Nat) (g : Svc → Svc) (d : Dev) : LinkFrame d (modSvc p g d) := modPort fun _ => rfl
theorem modTrain (p : Nat) (g : Training → Training) (d : Dev) : LinkFrame d (modTrain p g d) := modPort fun _ => rfl
theorem modRecast (p : Nat) (g : Recast → Recast) (d : Dev) : LinkFrame d (modRecast p g d) := modPort fun _ => rfl
theorem modQuiet (p : Nat) (g : QuietState → QuietState) (d : Dev) : LinkFrame d (modQuiet p g d) := modPort fun _ => rfl
theorem setNextSlot (p k v : Nat) (d : Dev) : LinkFrame d (setNextSlot p k v d) := setBlock (by decide) (by decide) ..
theorem setTx (p h : Nat) (d : Dev) : LinkFrame d (setTx p h d) := setAttr (by decide) ..
theorem setCapture (p h : Nat) (d : Dev) : LinkFrame d (setCapture p h d) := setAttr (by decide) ..

/-! #### Surveys and ramps (R81 to R85) -/

theorem startSurvey (p : Nat) (d : Dev) : LinkFrame d (startSurvey p d) := by
  unfold Machine.startSurvey
  exact ite (after (disarm ..) (setNextSlot ..)) (after (arm ..) (setNextSlot ..))

theorem joinSurvey (p : Nat) (d : Dev) : LinkFrame d (joinSurvey p d) := by
  unfold Machine.joinSurvey
  exact ite (refl d) (ite (refl d) (after (disarm ..) (after (setNextSlot ..) (modRx ..))))

theorem freeAggressor (q : Nat) (d : Dev) : LinkFrame d (freeAggressor q d) :=
  forAll (fun _ _ => after (forAll (fun _ e => ite (setNextSlot ..) (refl e)) ..) (modRx ..)) _ d

theorem startRamp (p : Nat) (d : Dev) : LinkFrame d (startRamp p d) := by
  unfold Machine.startRamp
  refine after (disarm ..) (after (forAll (fun _ _ => ?_) ..) (after (modPrism ..) (setAttr (by decide) ..)))
  exact after (disarm ..) (after (setNextSlot ..) (modRx ..))

theorem settleRamp (p : Nat) (d : Dev) : LinkFrame d (settleRamp p d) := by
  unfold Machine.settleRamp
  exact ite (after (arm ..) (modTrain ..)) (refl d)

theorem requestRamp (p : Nat) (d : Dev) : LinkFrame d (requestRamp p d) := by
  unfold Machine.requestRamp
  exact ite (modPrism ..) (startRamp ..)

theorem nextRamp (m : Nat) (d : Dev) : LinkFrame d (nextRamp m d) := by
  unfold Machine.nextRamp
  split
  · exact refl d
  · exact ite (refl d) (after (settleRamp ..) (after (startRamp ..) (modPrism ..)))

theorem releaseRamp (m : Nat) (d : Dev) : LinkFrame d (releaseRamp m d) := by
  unfold Machine.releaseRamp
  refine ite (refl d) (after (nextRamp ..) (after (forAll (fun q e => ?_) ..) (after (modPrism ..) (setAttr (by decide) ..))))
  split
  · exact ite (after (startSurvey ..) (after (setNextSlot ..) (modRx ..))) (after (arm ..) (after (setNextSlot ..) (modRx ..)))
  · exact refl e

theorem cancelRamp (p : Nat) (d : Dev) : LinkFrame d (cancelRamp p d) := by
  unfold Machine.cancelRamp
  exact ite (after (releaseRamp ..) (modPrism ..)) (after (nextRamp ..) (modPrism ..))

theorem holdCoefficients (q : Nat) (d : Dev) : LinkFrame d (holdCoefficients q d) := arm ..

theorem neighbours (p old new : Nat) (d : Dev) : LinkFrame d (neighbours p old new d) := by
  have given : LinkFrame d (Machine.when (port d p).scan.isNone (Machine.cancelRamp p) (Machine.disarm tkSurvey p d)) :=
    after (when (fun _ => cancelRamp ..) ..) (disarm ..)
  unfold Machine.neighbours
  refine ite (ite (after (holdCoefficients ..) given) given) (ite ?_ (ite (modRx ..) (ite ?_ (refl d))))
  · exact after (holdCoefficients ..) (after (cancelRamp ..) (disarm ..))
  · exact after (disarm ..) (freeAggressor ..)

/-! #### Claims, snapshots and scans (R209 to R222) -/

theorem stateClaims (p new : Nat) (d : Dev) : LinkFrame d (stateClaims p new d) := by
  unfold Machine.stateClaims
  extract_lets traffic d1
  have tx : LinkFrame d d1 := ite (setTx ..) (ite (setTx ..) (ite (setTx ..) (refl d)))
  exact ite (after (setCapture ..) tx) (ite (after (setCapture ..) tx) tx)

theorem endSnapshot (r status cause st : Nat) (d : Dev) : LinkFrame d (endSnapshot r status cause st d) := by
  unfold Machine.endSnapshot
  split
  · exact refl d
  · have left : ∀ e : Dev, LinkFrame e (setRecord r st e) := fun _ => after (setAttr (by decide) ..) (setBlock (by decide) (by decide) ..)
    have taken : LinkFrame d { d with snapshots := bankPut none d.snapshots r none } := of_same rfl rfl rfl
    exact after (complete ..) (ite (after (setCapture ..) (after (disarm ..) (after (left _) taken))) (after (disarm ..) (after (left _) taken)))

theorem abortSnapshots (p cause : Nat) (g : Snapshot → Bool) (d : Dev) : LinkFrame d (abortSnapshots p cause g d) := by
  refine forAll (fun r e => ?_) _ d
  split
  · exact ite (endSnapshot ..) (refl e)
  · exact refl e

theorem finishScan (p status cause : Nat) (d : Dev) : LinkFrame d (finishScan p status cause d) := by
  unfold Machine.finishScan
  split
  · exact refl d
  · extract_lets d1 d2 d3 d4
    have ended : LinkFrame d d1 := modPort fun _ => rfl
    have capture : LinkFrame d d2 := ite (after (setCapture ..) ended) ended
    have tx : LinkFrame d d3 := ite (after (setTx ..) capture) capture
    have ramp : LinkFrame d d4 := by
      dsimp only [d4]
      split
      · exact after (holdCoefficients ..) (after (cancelRamp ..) tx)
      · exact after (holdCoefficients ..) tx
      · exact after (cancelRamp ..) tx
      · exact tx
    exact after (complete ..) (after (disarm ..) (after (disarm ..) ramp))

theorem abortScan (p cause : Nat) (d : Dev) : LinkFrame d (abortScan p cause d) := by
  unfold Machine.abortScan
  exact ite (after (finishScan ..) (setBlock (by decide) (by decide) ..)) (refl d)

theorem endDiagnostics (p new : Nat) (d : Dev) : LinkFrame d (endDiagnostics p new d) := by
  unfold Machine.endDiagnostics
  extract_lets d1 d2
  have quieted : LinkFrame d d1 := ite (abortSnapshots ..) (refl d)
  have ended : LinkFrame d d2 := after (abortSnapshots ..) quieted
  exact ite ended (after (abortScan ..) ended)

theorem clearMeasures (p : Nat) (d : Dev) : LinkFrame d (clearMeasures p d) := after (setBlock (by decide) (by decide) ..) (resetAttrs (by decide) ..)

/-! #### Calibration (R209, R451) -/

theorem stopSlice (region : Nat) (d : Dev) : LinkFrame d (stopSlice region d) := by
  obtain ⟨_, h⟩ := stopSlice_eq region d
  rw [h]
  exact of_same rfl rfl rfl

theorem releaseCal (p : Nat) (d : Dev) : LinkFrame d (releaseCal p d) := setAttr (by decide) ..

theorem endMeasure (x : Nat) (d : Dev) : LinkFrame d (endMeasure x d) := by
  unfold Machine.endMeasure
  dsimp only
  split
  · exact after (releaseCal ..) (setAttr (by decide) ..)
  · exact setAttr (by decide) ..

theorem finishCalRun (r : CalRun) (status cause : Nat) (d : Dev) : LinkFrame d (finishCalRun r status cause d) := by
  unfold Machine.finishCalRun
  refine after (complete ..) ?_
  split
  · exact after (endMeasure ..) (of_same rfl rfl rfl)
  · exact of_same rfl rfl rfl

theorem abortFullRuns (item : Nat → Bool) (cause : Nat) (d : Dev) : LinkFrame d (abortFullRuns item cause d) :=
  foldl (fun _ _ => finishCalRun ..) _ d

theorem calOnPort (p new : Nat) (d : Dev) : LinkFrame d (calOnPort p new d) := by
  unfold Machine.calOnPort
  extract_lets d0 d1
  have released : LinkFrame d d0 := ite (refl d) (after (releaseCal ..) (ite (stopSlice ..) (refl d)))
  have ended : LinkFrame d d1 := ite released (after (abortFullRuns ..) released)
  exact ite ended (after (abortFullRuns ..) ended)

/-! #### The service channel (R191, R196, R198) -/

theorem refreshSvc (p : Nat) (d : Dev) : LinkFrame d (refreshSvc p d) := after (setAttr (by decide) ..) (after (setAttr (by decide) ..) (setAttr (by decide) ..))

theorem modPeer (p n : Nat) (g : SvcPeer → SvcPeer) (d : Dev) : LinkFrame d (modPeer p n g d) := modSvc ..

theorem clearTraining (p : Nat) (d : Dev) : LinkFrame d (clearTraining p d) := after (disarm ..) (after (modPeer ..) (modSvc ..))

theorem abortMessages (p : Nat) (d : Dev) : LinkFrame d (abortMessages p d) := by
  unfold Machine.abortMessages
  exact after (refreshSvc ..) (after (foldl (fun _ _ => completeOpt ..) ..) (after (forAll (fun _ _ => disarm ..) ..) (modSvc ..)))

theorem abortPolls (p : Nat) (d : Dev) : LinkFrame d (abortPolls p d) :=
  foldl (fun _ _ => after (complete ..) (after (disarm ..) (modSvc ..))) _ d

theorem clearPresent (p : Nat) (d : Dev) : LinkFrame d (clearPresent p d) := by
  refine forAll (fun n e => ?_) _ d
  unfold setPresent
  exact ite (refl e) (after (raise ..) (setAttr (by decide) ..))

theorem silenceSvc (p : Nat) (d : Dev) : LinkFrame d (silenceSvc p d) :=
  after (disarm ..) (after (disarm ..) (after (disarm ..) (after (disarm ..) (after (disarm ..) (modSvc ..)))))

theorem svcOnState (p new : Nat) (d : Dev) : LinkFrame d (svcOnState p new d) := by
  unfold Machine.svcOnState
  extract_lets d0 d1 d2 d3 d4
  have restarted : LinkFrame d d0 := ite (modPeer ..) (refl d)
  have cleared : LinkFrame d d1 := ite restarted (after (clearTraining ..) restarted)
  have aborted : LinkFrame d d3 := after (when (fun _ => abortPolls ..) ..) (after (when (fun _ => abortMessages ..) ..) cleared)
  exact after (refreshSvc ..) (after (when (fun _ => silenceSvc ..) ..) (after (when (fun _ => clearPresent ..) ..) aborted))

/-! #### Flows and chords (R164 to R166, R286) -/

theorem refreshOversub (p : Nat) (d : Dev) : LinkFrame d (refreshOversub p d) := by
  unfold Machine.refreshOversub
  exact ite (after (raise ..) (setAttr (by decide) ..)) (setAttr (by decide) ..)

theorem refreshRates (p : Nat) (d : Dev) : LinkFrame d (refreshRates p d) :=
  after (setAttr (by decide) ..) (after (setAttr (by decide) ..) (after (setAttr (by decide) ..) (after (setAttr (by decide) ..) (setAttr (by decide) ..))))

theorem ratesChanged (p : Nat) (d : Dev) : LinkFrame d (ratesChanged p d) := after (refreshOversub ..) (refreshRates ..)

theorem refreshCharges (ports : List Nat) (d : Dev) : LinkFrame d (refreshCharges ports d) := by
  refine after (forAll (fun _ _ => ?sums) ..) (forAll (fun _ _ => ?group) ..)
  case sums => exact after (refreshOversub ..) (after (setAttr (by decide) ..) (setAttr (by decide) ..))
  case group =>
    unfold refreshGroup
    exact ite (after (raise ..) (after (setAttr (by decide) ..) (setAttr (by decide) ..))) (after (setAttr (by decide) ..) (setAttr (by decide) ..))

theorem reportDropped (f tsKind tag : Nat) (d : Dev) : LinkFrame d (reportDropped f tsKind tag d) := by
  unfold Machine.reportDropped
  exact ite (after (bump (by decide) ..) (of_same rfl rfl rfl)) (refl d)

theorem dropFromHost {a : Attr} (ha : a.code ∈ movedAttrs.map Attr.code) (f tsKind tag : Nat) (d : Dev) :
    LinkFrame d (dropFromHost a f tsKind tag d) := after (reportDropped ..) (bump ha f 1)

theorem setEgress (p : Nat) (l : List EgressFrame) (d : Dev) : LinkFrame d (setEgress p l d) := after (setAttr (by decide) ..) (of_same rfl rfl rfl)

theorem moveLine (f new : Nat) (d : Dev) (x : LineFrame) : LinkFrame d (moveLine f new d x) := by
  unfold Machine.moveLine
  exact ite (modPort fun _ => rfl) (after (dropFromHost (by decide) ..) (ite (of_same rfl rfl rfl) (refl d)))

theorem moveHub (f new : Nat) (d : Dev) (x : EgressFrame) : LinkFrame d (moveHub f new d x) := by
  unfold Machine.moveHub
  exact ite (of_same rfl rfl rfl) (after (dropFromHost (by decide) ..) (ite (refl d) (of_same rfl rfl rfl)))

theorem moveMember (f : Nat) (d : Dev) : LinkFrame d (moveMember f d) := by
  unfold Machine.moveMember
  extract_lets old new line hub units d1 d2 d3
  have taken : LinkFrame d d1 := after (modPort fun _ => rfl) (setAttr (by decide) ..)
  have moved : LinkFrame d d2 := after (foldl (moveHub f new) ..) (after (foldl (moveLine f new) ..) (after (setEgress ..) taken))
  exact ite (refl d) (after (refreshCharges ..) (after (setAttr (by decide) ..) (after (of_same (d := d2) rfl rfl rfl) moved)))

theorem chordWaitOver (p : Nat) (d : Dev) : LinkFrame d (chordWaitOver p d) := by
  unfold Machine.chordWaitOver
  exact ite (disarm ..) (ite (after (forAll (fun _ _ => moveMember ..) ..) (disarm ..)) (refl d))

theorem refreshChord (c : Nat) (carried : Bool) (d : Dev) : LinkFrame d (refreshChord c carried d) := by
  unfold Machine.refreshChord
  exact ite (refl d) (after (raise ..) (setBlock (by decide) (by decide) ..))

theorem refreshClock (m : Nat) (d : Dev) : LinkFrame d (refreshClock m d) := by
  have moved : ∀ src q, LinkFrame d (Machine.arm tkSlew m 0 (Machine.setAttr PRISM_CLOCK_SLEWING m 1 (Machine.setAttr PRISM_CLOCK_PORT m q
      (Machine.setAttr PRISM_CLOCK_SOURCE m src d)))) := fun _ _ => after (arm ..) (after (setAttr (by decide) ..) (after (setAttr (by decide) ..) (setAttr (by decide) ..)))
  unfold Machine.refreshClock
  dsimp only
  split
  · exact ite (refl d) (moved ..)
  · exact ite (refl d) (moved ..)

theorem chordOnState (p old new deadline : Nat) (d : Dev) : LinkFrame d (chordOnState p old new deadline d) := by
  unfold Machine.chordOnState
  extract_lets c d1 d2
  have waits : LinkFrame d d1 := ite (arm ..) (ite (disarm ..) (refl d))
  have moved : LinkFrame d d2 := after (when (fun _ => forAll (fun _ _ => chordWaitOver ..) ..) ..) waits
  exact ite (refl d) (after (refreshClock ..) (after (refreshChord ..) moved))

/-! #### Commands that wait for a port -/

theorem portEnded (op p : Nat) (ok : Bool) (cause : Nat) (d : Dev) : LinkFrame d (portEnded op p ok cause d) := by
  refine after (foldl (fun e x => ?_) ..) (of_same rfl rfl rfl)
  unfold finishMulti
  split
  · exact refl e
  · exact ite (complete ..) (ite (complete ..) (complete ..))

theorem wakeOnState (p new : Nat) (d : Dev) : LinkFrame d (wakeOnState p new d) := by
  unfold Machine.wakeOnState
  exact ite (portEnded ..) (ite (portEnded ..) (ite (portEnded ..) (refl d)))

/-! #### Containers and stores (R120, R295) -/

theorem lineDrop (p cls n : Nat) (d : Dev) : LinkFrame d (lineDrop p cls n d) := by
  unfold Machine.lineDrop
  split
  · exact refl d
  · split
    · exact after (modFlow ..) (bump (by decide) ..)
    · exact bump (by decide) ..

theorem frameFromLine (p cls : Nat) (bytes : List Byte) (stamp : Option Nat) (d : Dev) : LinkFrame d (frameFromLine p cls bytes stamp d) := by
  unfold Machine.frameFromLine
  split
  · exact bump (by decide) ..
  · refine ite (after (modFlow ..) (bump (by decide) ..)) (ite ?_ (of_same rfl rfl rfl))
    split
    · exact after (bump (by decide) ..) (of_same rfl rfl rfl)
    · exact after (bump (by decide) ..) (of_same rfl rfl rfl)

theorem breakFrames (p : Nat) (d : Dev) : LinkFrame d (breakFrames p d) := after (foldl (fun _ _ => lineDrop ..) ..) (modRecast ..)

theorem appendSegment (p : Nat) (x : Segment) (d : Dev) : LinkFrame d (appendSegment p x d) := by
  unfold Machine.appendSegment
  refine ite (breakFrames ..) (ite (ite ?_ (refl d)) (ite (ite ?_ ?_) (modRecast ..)))
  · exact after (lineDrop ..) (after (bump (by decide) ..) (modRecast ..))
  · exact after (frameFromLine ..) (modRecast ..)
  · exact after (lineDrop ..) (after (bump (by decide) ..) (modRecast ..))

theorem releaseReady (p : Nat) (d : Dev) : LinkFrame d (releaseReady p d) :=
  after (foldl (fun _ _ => foldl (fun _ _ => appendSegment ..) ..) ..) (modRecast ..)

theorem dropHole (p n : Nat) (d : Dev) : LinkFrame d (dropHole p n d) := by
  unfold Machine.dropHole
  exact ite (after (releaseReady ..) (after (bump (by decide) ..) (modRecast ..))) (refl d)

theorem dropAllHoles (p : Nat) (d : Dev) : LinkFrame d (dropAllHoles p d) := foldl (fun _ _ => dropHole ..) _ d

theorem voidStamps (p : Nat) (d : Dev) : LinkFrame d (voidStamps p d) := after (foldl (fun _ _ => reportDropped ..) ..) (modTx ..)

theorem closeRecast (p : Nat) (dormant : Bool) (d : Dev) : LinkFrame d (closeRecast p dormant d) := by
  unfold Machine.closeRecast
  extract_lets d1 d2
  have released : LinkFrame d d1 := after (releaseReady ..) (dropAllHoles ..)
  have counted : LinkFrame d d2 := after (foldl (fun _ _ => lineDrop ..) ..) released
  exact ite (after (modRecast ..) (after (voidStamps ..) released)) (after (modRecast ..) (after (voidStamps ..) counted))

theorem setSwap (p : Nat) (x : Option Swap) (d : Dev) : LinkFrame d (setSwap p x d) := after (setAttr (by decide) ..) (after (setAttr (by decide) ..) (modPort fun _ => rfl))

theorem finishSwap (p status : Nat) (d : Dev) : LinkFrame d (finishSwap p status d) := by
  unfold Machine.finishSwap
  split
  · exact refl d
  · dsimp only
    split
    · exact after (complete ..) (after (disarm ..) (setSwap ..))
    · exact ite (after (disarm ..) (setSwap ..)) (after (raise ..) (after (disarm ..) (setSwap ..)))

theorem dropPortStores (p : Nat) (d : Dev) : LinkFrame d (dropPortStores p d) := by
  unfold Machine.dropPortStores
  exact after (setEgress ..) (after (modPort fun _ => rfl) (after (forAll (fun _ _ => closeFlow ..) ..) (after (forAll (fun _ _ => modFlow ..) ..)
    (after (foldl (fun _ _ => dropFromHost (by decide) ..) ..) (foldl (fun _ _ => dropFromHost (by decide) ..) ..)))))

theorem enterListen (p old : Nat) (d : Dev) : LinkFrame d (enterListen p old d) := by
  unfold Machine.enterListen
  exact ite (after (arm ..) (after (modTrain ..) (arm ..))) (after (modTrain ..) (arm ..))

/-! #### The state entered -/

/-- R154: training begun, before its survey and its admission ramp. -/
theorem enterTrain (p : Nat) (d : Dev) :
    LinkFrame (Machine.setAttr PORT_RX_STATE p 0 (Machine.setAttr PORT_TRAIN_PHASE p 1 (Machine.bump PORT_TRAIN_COUNT p 1 d))) (enterTrain p d) := by
  unfold Machine.enterTrain
  extract_lets ctrl busy before t d1 d2 d3 d4
  have fresh : LinkFrame d d1 := after (modRx ..) (modTrain ..)
  have begun : LinkFrame _ d2 := ((fresh.underBump steady_trainCount p 1).underSetAttr PORT_TRAIN_PHASE p 1).underSetAttr PORT_RX_STATE p 0
  have joined := after (joinSurvey p _) (after (modTx p (fun x => { x with pilotGen := pilotSeed d p, form := 0 }) _) (after (disarm tkNoPartner p _) begun))
  have ramped : LinkFrame _ d4 := ite (after (requestRamp p d3) joined) joined
  exact ite ramped (after (arm ..) ramped)

end LinkFrame

/-- R132, R206: CARRY entered at the end of training. -/
theorem enterCarry_trained (p : Nat) (d : Dev) : LinkFrame (setAttr PORT_TRAIN_PHASE p 0 (setAttr PORT_RX_STATE p 2 d)) (enterCarry p psTrain d) := by
  unfold enterCarry
  extract_lets d1 d2 d3
  have begun : LinkFrame _ (setAttr PORT_TRAIN_PHASE p 0 d1) := ((LinkFrame.modRx ..).underSetAttr ..).underSetAttr ..
  have counted : LinkFrame _ d2 := .after (.bump (by decide) ..) (.after (.resetAttrs (by decide) ..) (.after (.disarm ..) begun))
  have joined : LinkFrame _ d3 := .after (.joinSurvey ..) (.after (.ratesChanged ..) (.after (.modTrain ..) counted))
  rw [if_pos rfl]
  exact .ite (.after (.startSurvey ..) joined) joined

/-- R132, R426: CARRY entered from QUIET or DORMANT. -/
theorem enterCarry_woken {old : Nat} (ho : old ≠ psTrain) (p : Nat) (d : Dev) : LinkFrame (setAttr PORT_RX_STATE p 2 d) (enterCarry p old d) := by
  unfold enterCarry
  rw [if_neg ho]
  exact .after (.joinSurvey ..) ((LinkFrame.modRx ..).underSetAttr ..)

/-- R133: LISTEN and DOWN entered write nothing that the state left has not written. -/
theorem enterState_silent {new : Nat} (hn : new = psListen ∨ new = psDown) (p old : Nat) (d : Dev) : LinkFrame d (enterState p old new d) := by
  unfold enterState
  rcases hn with rfl | rfl
  · rw [if_pos rfl]
    exact .enterListen ..
  · rw [if_neg (by decide), if_neg (by decide), if_neg (by decide), if_neg (by decide), if_neg (by decide), if_pos rfl]
    exact .after (.disarm ..) (.after (.dropPortStores ..) (.modTrain ..))

theorem enterState_train (p old : Nat) (d : Dev) : enterState p old psTrain d = enterTrain p d := by
  unfold enterState
  rw [if_neg (by decide), if_neg (by decide), if_pos rfl]

theorem enterState_carry (p old : Nat) (d : Dev) : enterState p old psCarry d = enterCarry p old d := by
  unfold enterState
  rw [if_neg (by decide), if_neg (by decide), if_neg (by decide), if_pos rfl]

/-! ### The state left -/

theorem stops_failQuiet (p cause : Nat) (d : Dev) (q : Nat) : (port (failQuiet p cause d) q).stop = (port d q).stop := by
  unfold failQuiet
  split
  · rw [(LinkFrame.portEnded ..).stops, port_congr (disarm_ports ..), port_congr (disarm_ports ..), port_congr (setAttr_ports ..),
      (LinkFrame.modRecast ..).stops, (LinkFrame.modQuiet ..).stops]
  · rfl

theorem resetAttrs_ports (as : List Attr) (p : Nat) (d : Dev) : (resetAttrs as p d).ports = d.ports := by
  induction as generalizing d with
  | nil => rfl
  | cons a as ih => exact ih _

theorem clearTrained_ports (p : Nat) (d : Dev) : (clearTrained p d).ports = d.ports := by
  unfold clearTrained
  rw [setBlock_ports, resetAttrs_ports]
  simp only [setBlock_ports]

theorem port_stop_ite {c : Prop} [Decidable c] {x y d : Dev} {q : Nat} (hx : (port x q).stop = (port d q).stop)
    (hy : (port y q).stop = (port d q).stop) : (port (if c then x else y) q).stop = (port d q).stop := by
  split
  · exact hx
  · exact hy

/-- What a port leaves of CARRY and of its training, before what LISTEN and DOWN silence. -/
def endedLink (p old new : Nat) (d : Dev) : Dev :=
  when ((old == psTrain && new != psCarry) || new == psListen || new == psDown) (clearTrained p)
    (if old = psCarry ∧ new ≠ psQuiet then finishSwap p stAborted (closeRecast p (new == psDormant) (failQuiet p 3 d)) else d)

/-- R133: what LISTEN and DOWN silence. -/
def silencedLink (p : Nat) (d : Dev) : Dev :=
  setAttr PORT_QUIET_STATE p 0 (setAttr PORT_RX_STATE p 0 (modQuiet p (fun _ => {}) (modRx p (freshRx (List.replicate 64 0#8))
    (modRecast p (fun _ => {}) (modTx p (fun x => { pilotGen := x.pilotGen }) d)))))

theorem leaveState_frame (p old new : Nat) (d : Dev) :
    LinkFrame (if new = psListen ∨ new = psDown then silencedLink p (endedLink p old new d) else endedLink p old new d) (leaveState p old new d) := by
  unfold leaveState
  extract_lets d1 d2 d3 d4 d5 d6
  have awake : LinkFrame d3 d4 := .ite (.after (.setAttr (by decide) ..) (.disarm ..)) (.refl d3)
  have paged : LinkFrame d3 d5 := .ite (.after (.modTx ..) awake) awake
  have legacy : LinkFrame d3 d6 := .ite (.after (.modPort fun _ => rfl) paged) paged
  exact .after (.disarm ..) (.after (.disarm ..) (.ite legacy (.after (.disarm ..) legacy)))

theorem stops_endedLink (p old new : Nat) (d : Dev) (q : Nat) : (port (endedLink p old new d) q).stop = (port d q).stop := by
  have carried : (port (if old = psCarry ∧ new ≠ psQuiet then finishSwap p stAborted (closeRecast p (new == psDormant) (failQuiet p 3 d)) else d) q).stop
      = (port d q).stop :=
    port_stop_ite (((LinkFrame.after (.finishSwap ..) (.closeRecast ..)).stops q).trans (stops_failQuiet ..)) rfl
  unfold endedLink when
  exact (port_stop_ite (congrArg Port.stop (port_congr (clearTrained_ports ..) q)) rfl).trans carried

theorem stops_silencedLink (p : Nat) (d : Dev) (q : Nat) : (port (silencedLink p d) q).stop = (port d q).stop := by
  unfold silencedLink
  rw [port_congr (setAttr_ports ..), port_congr (setAttr_ports ..), (LinkFrame.modQuiet ..).stops, (LinkFrame.modRx ..).stops,
    (LinkFrame.modRecast ..).stops, (LinkFrame.modTx ..).stops]

/-- R138: no graceful stop is over because a port leaves its state. -/
theorem stops_leaveState (p old new : Nat) (d : Dev) (q : Nat) : (port (leaveState p old new d) q).stop = (port d q).stop := by
  rw [(leaveState_frame ..).stops]
  exact (port_stop_ite (stops_silencedLink ..) rfl).trans (stops_endedLink ..)

/-- R133: the receiver, the quiet state and the transmit loading of a port that falls silent. -/
structure Silenced (p : Nat) (d : Dev) : Prop where
  rx : attr d PORT_RX_STATE p = 0
  quiet : attr d PORT_QUIET_STATE p = 0
  loading : block d PORT_LOADING_TX p = List.replicate 256 0#8

theorem steady_portState : Steady PORT_STATE := ⟨by decide, by decide⟩
theorem steady_trainPhase : Steady PORT_TRAIN_PHASE := ⟨by decide, by decide⟩
theorem steady_rxState : Steady PORT_RX_STATE := ⟨by decide, by decide⟩
theorem steady_quietState : Steady PORT_QUIET_STATE := ⟨by decide, by decide⟩
theorem bystander_trainCount : Bystander PORT_TRAIN_COUNT := ⟨by decide, by decide⟩

theorem resetAttrs_blocks (as : List Attr) (p : Nat) (d : Dev) : (resetAttrs as p d).blocks = d.blocks := by
  induction as generalizing d with
  | nil => rfl
  | cons a as ih => exact ih _

theorem fitBytes_nil (n : Nat) : fitBytes [] n = List.replicate n 0#8 := by simp [fitBytes]

/-- R155: a port that trains no more loads no tone. -/
theorem loading_clearTrained (p : Nat) (d : Dev) : block (clearTrained p d) PORT_LOADING_TX p = List.replicate 256 0#8 := by
  unfold clearTrained
  extract_lets d1
  have cleared : block d1 PORT_LOADING_TX p = List.replicate 256 0#8 :=
    (((LinkFrame.setBlock (by decide) (by decide) ..).loading p).trans (((LinkFrame.setBlock (by decide) (by decide) ..).loading p).trans ((LinkFrame.setBlock (by decide) (by decide) ..).loading p))).trans
      ((block_setBlock ..).trans (fitBytes_nil 256))
  exact ((LinkFrame.setBlock (by decide) (by decide) ..).loading p).trans ((block_congr (resetAttrs_blocks ..) ..).trans cleared)

theorem silencedLink_blocks (p : Nat) (d : Dev) : (silencedLink p d).blocks = d.blocks := by
  simp only [silencedLink, setAttr_blocks, modQuiet_blocks, modRx_blocks, modRecast_blocks, modTx_blocks]

theorem leaveState_silences {new : Nat} (hn : new = psListen ∨ new = psDown) (p old : Nat) (d : Dev) : Silenced p (leaveState p old new d) := by
  have left := leaveState_frame p old new d
  rw [if_pos hn] at left
  obtain ⟨e, ended⟩ : ∃ e, endedLink p old new d = clearTrained p e := by
    unfold endedLink when
    refine ⟨_, if_pos ?_⟩
    rcases hn with rfl | rfl <;> simp
  exact {
    rx := (left.attrs _ steady_rxState p).trans ((attr_setAttr_ne _ _ _ _ (by decide) (by decide) (by decide)).trans (attr_setAttr ..))
    quiet := (left.attrs _ steady_quietState p).trans (attr_setAttr ..)
    loading := by rw [left.loading, block_congr (silencedLink_blocks ..), ended, loading_clearTrained] }

/-! ### A change of state, whole -/

/-- R138: the command that stops the port is over when the port is DOWN. -/
structure StopFrame (p new : Nat) (d e : Dev) : Prop where
  attrs : ∀ b, Steady b → ∀ i, attr e b i = attr d b i
  stops : ∀ q, (port e q).stop = if q = p ∧ new = psDown then none else (port d q).stop
  loading : ∀ q, block e PORT_LOADING_TX q = block d PORT_LOADING_TX q

theorem StopFrame.before {p new : Nat} {d e f : Dev} (h : StopFrame p new d e) (k : LinkFrame e f) : StopFrame p new d f :=
  ⟨fun b hb i => (k.attrs b hb i).trans (h.attrs b hb i), fun q => (k.stops q).trans (h.stops q), fun q => (k.loading q).trans (h.loading q)⟩

theorem stopOnState_frame (p new : Nat) (d : Dev) : StopFrame p new d (stopOnState p new d) := by
  unfold stopOnState
  split
  case isFalse hn => exact ⟨fun _ _ _ => rfl, fun _ => (if_neg fun h => hn h.2).symm, fun _ => rfl⟩
  case isTrue hn =>
    have ended : LinkFrame (modPort p (fun x => { x with stop := none, stopSent := false }) d) _ := .after (.portEnded 0x31 p true 0 _) (.disarm tkDrainWait p _)
    refine ⟨fun b hb i => (ended.attrs b hb i).trans (attr_modPort ..), fun q => (ended.stops q).trans ?_, fun q => (ended.loading q).trans rfl⟩
    by_cases hq : q = p
    · rw [hq, port_modPort, if_pos ⟨rfl, hn⟩]
    · rw [port_modPort_ne _ _ hq, if_neg fun h => hq h.1]

/-- R132: a change of state is the state left, the state written, the state entered and the end of a stop, with upkeep between. -/
theorem changeState_frame {p wanted why new cause : Nat} {d : Dev} (ht : stopTarget d p wanted why = (new, cause)) (ho : stateOf d p ≠ new) :
    ∃ d1 d2, LinkFrame (setAttr PORT_STATE p new (leaveState p (stateOf d p) new d)) d1 ∧
      LinkFrame (enterState p (stateOf d p) new d1) d2 ∧ StopFrame p new d2 (changeState p wanted why d) := by
  unfold changeState
  rw [ht]
  dsimp only
  rw [if_neg ho]
  have upkept : LinkFrame (setAttr PORT_STATE p new (leaveState p (stateOf d p) new d)) _ :=
    .after (.when (fun _ => .clearMeasures p _) (new != psCarry && new != psQuiet && new != psDormant) _)
      (.after (.neighbours p (stateOf d p) new _) (.after (.stateClaims p new _) (.after (.calOnPort p new _) (.after (.endDiagnostics p new _)
        (.raise clsPort p evPortState (stateOf d p * 4096 + new * 256 + cause) _)))))
  exact ⟨_, _, upkept, .after (.refreshOversub p _) (.after (.chordOnState p (stateOf d p) new (deadlineInUse d p) _) (.svcOnState p new _)),
    (stopOnState_frame p new _).before (.wakeOnState p new _)⟩

/-! ### What a change of state leads to (R132) -/

theorem stopTarget_of_none {d : Dev} {p : Nat} (h : (port d p).stop = none) (wanted why : Nat) : stopTarget d p wanted why = (wanted, why) :=
  if_neg fun hs => by simp [h] at hs

theorem stopTarget_down (d : Dev) (p why : Nat) : stopTarget d p psDown why = (psDown, why) := if_neg fun h => absurd h.2.2 (by decide)

theorem stopTarget_carry (d : Dev) (p why : Nat) : stopTarget d p psCarry why = (psCarry, why) := if_neg fun h => absurd h.2.2 (by decide)

/-- R138: a port that a graceful stop is to silence goes to DOWN. -/
theorem stopTarget_stopping {d : Dev} {p : Nat} (hs : (port d p).stop ≠ none) (hc : attr d PORT_STATE p = psCarry) {wanted : Nat}
    (hw : wanted = psListen ∨ wanted = psTrain) (why : Nat) : stopTarget d p wanted why = (psDown, causeHostStop) :=
  if_pos ⟨Option.isSome_iff_ne_none.2 hs, hc, hw⟩

/-- The attributes that tell of the state entered: training begun, CARRY begun; LISTEN and DOWN write none. -/
def enteredAttrs (p old new : Nat) (d : Dev) : Dev :=
  if new = psTrain then setAttr PORT_RX_STATE p 0 (setAttr PORT_TRAIN_PHASE p 1 (bump PORT_TRAIN_COUNT p 1 d))
  else if new = psCarry then
    if old = psTrain then setAttr PORT_TRAIN_PHASE p 0 (setAttr PORT_RX_STATE p 2 d) else setAttr PORT_RX_STATE p 2 d
  else d

/-- LISTEN, DOWN, TRAIN and CARRY. -/
def LinkState (new : Nat) : Prop := (new = psListen ∨ new = psDown) ∨ new = psTrain ∨ new = psCarry

theorem LinkState.listen : LinkState psListen := .inl (.inl rfl)
theorem LinkState.down : LinkState psDown := .inl (.inr rfl)
theorem LinkState.train : LinkState psTrain := .inr (.inl rfl)
theorem LinkState.carry : LinkState psCarry := .inr (.inr rfl)

theorem LinkState.lt {new : Nat} (hn : LinkState new) : new < 2 ^ PORT_STATE.width := by
  rcases hn with (rfl | rfl) | rfl | rfl <;> decide

theorem enteredAttrs_silent {new : Nat} (hn : new = psListen ∨ new = psDown) (p old : Nat) (d : Dev) : enteredAttrs p old new d = d := by
  rcases hn with rfl | rfl
  · rfl
  · rfl

theorem enterState_frame {new : Nat} (hn : LinkState new) (p old : Nat) (d : Dev) :
    LinkFrame (enteredAttrs p old new d) (enterState p old new d) := by
  rcases hn with hs | rfl | rfl
  · rw [enteredAttrs_silent hs]
    exact enterState_silent hs p old d
  · rw [enterState_train]
    exact .enterTrain p d
  · rw [enterState_carry, enteredAttrs, if_neg (by decide), if_pos rfl]
    split
    case isTrue ho =>
      rw [ho]
      exact enterCarry_trained p d
    case isFalse ho => exact enterCarry_woken ho p d

theorem enteredAttrs_ports (p old new : Nat) (d : Dev) : (enteredAttrs p old new d).ports = d.ports := by
  unfold enteredAttrs
  repeat' split
  all_goals rfl

/-- A change of state, by the attributes and the stops it writes. -/
theorem changeState_through {p wanted why new cause : Nat} {d : Dev} (ht : stopTarget d p wanted why = (new, cause)) (ho : stateOf d p ≠ new)
    (hn : LinkState new) :
    ∃ d1, LinkFrame (setAttr PORT_STATE p new (leaveState p (stateOf d p) new d)) d1 ∧
      StopFrame p new (enteredAttrs p (stateOf d p) new d1) (changeState p wanted why d) := by
  obtain ⟨d1, d2, left, upkept, stopped⟩ := changeState_frame ht ho
  have entered := upkept.after (enterState_frame hn p (stateOf d p) d1)
  exact ⟨d1, left, {
    attrs := fun b hb i => (stopped.attrs b hb i).trans (entered.attrs b hb i)
    stops := fun q => by rw [stopped.stops, entered.stops]
    loading := fun q => (stopped.loading q).trans (entered.loading q) }⟩

/-- The attributes that an entry writes. -/
def entryAttrs : List Attr := [PORT_TRAIN_COUNT, PORT_TRAIN_PHASE, PORT_RX_STATE]

theorem entryAttrs_code_lt : ∀ c ∈ entryAttrs.map Attr.code, c < 2 ^ 24 := by decide

theorem attr_enteredAttrs {b : Attr} (hb : b.code < 2 ^ 24) (hne : b.code ∉ entryAttrs.map Attr.code) (p old new : Nat) (d : Dev) (i : Nat) :
    attr (enteredAttrs p old new d) b i = attr d b i := by
  have other : ∀ a, a.code ∈ entryAttrs.map Attr.code → ∀ v e, attr (setAttr a p v e) b i = attr e b i := fun a ha v e =>
    attr_setAttr_ne p v i e (fun h => hne (by rwa [h])) (entryAttrs_code_lt _ ha) hb
  have count := other PORT_TRAIN_COUNT (by decide)
  have phase := other PORT_TRAIN_PHASE (by decide)
  have rx := other PORT_RX_STATE (by decide)
  unfold enteredAttrs bump
  split
  · rw [rx, phase, count]
  · split
    · split
      · rw [phase, rx]
      · rw [rx]
    · rfl

section Changed
variable {p wanted why new cause : Nat} {d : Dev} (ht : stopTarget d p wanted why = (new, cause)) (ho : stateOf d p ≠ new)
include ht ho

/-- R138: a change of state ends the stop of its port at DOWN, and no other. -/
theorem stop_changeState (hn : LinkState new) (q : Nat) :
    (port (changeState p wanted why d) q).stop = if q = p ∧ new = psDown then none else (port d q).stop := by
  obtain ⟨d1, left, stopped⟩ := changeState_through ht ho hn
  rw [stopped.stops, port_congr (enteredAttrs_ports ..), left.stops, port_congr (setAttr_ports ..), stops_leaveState]

/-- What neither the state left nor the state entered writes. -/
theorem attr_changeState_of_left (hn : LinkState new) {b : Attr} (hb : Steady b) (hne : b.code ∉ entryAttrs.map Attr.code) (i : Nat) :
    attr (changeState p wanted why d) b i = attr (setAttr PORT_STATE p new (leaveState p (stateOf d p) new d)) b i := by
  obtain ⟨d1, left, stopped⟩ := changeState_through ht ho hn
  rw [stopped.attrs b hb, attr_enteredAttrs hb.1 hne, left.attrs b hb]

/-- R132: the port's state is the one entered, and no other port's state moves. -/
theorem state_changeState (hn : LinkState new) (i : Nat) :
    attr (changeState p wanted why d) PORT_STATE i = if i = p then new else attr d PORT_STATE i := by
  rw [attr_changeState_of_left ht ho hn steady_portState (by decide)]
  split
  case isTrue hi => rw [hi, attr_setAttr, Nat.mod_eq_of_lt hn.lt]
  case isFalse hi => rw [attr_setAttr_inst _ _ _ hi, bystander_portState.attr_leaveState]

end Changed

/-- R154: training begun. -/
structure TrainBegun (p : Nat) (d e : Dev) : Prop where
  state : ∀ i, attr e PORT_STATE i = if i = p then psTrain else attr d PORT_STATE i
  phase : attr e PORT_TRAIN_PHASE p = 1
  count : ∀ i, attr e PORT_TRAIN_COUNT i = if i = p then (attr d PORT_TRAIN_COUNT p + 1) % 2 ^ 32 else attr d PORT_TRAIN_COUNT i
  stop : ∀ q, (port e q).stop = (port d q).stop

theorem changeState_train {p why : Nat} {d : Dev} (hs : (port d p).stop = none) (ho : stateOf d p ≠ psTrain) :
    TrainBegun p d (changeState p psTrain why d) := by
  have target := stopTarget_of_none hs psTrain why
  obtain ⟨d1, left, stopped⟩ := changeState_through target ho .train
  have before : ∀ i, attr d1 PORT_TRAIN_COUNT i = attr d PORT_TRAIN_COUNT i := fun i => by
    rw [left.attrs _ steady_trainCount, attr_setAttr_ne _ _ _ _ (by decide) (by decide) (by decide), bystander_trainCount.attr_leaveState]
  refine ⟨state_changeState target ho .train, ?_, fun i => ?_, fun q => ?_⟩
  · rw [stopped.attrs _ steady_trainPhase, enteredAttrs, if_pos rfl, attr_setAttr_ne _ _ _ _ (by decide) (by decide) (by decide), attr_setAttr]
    rfl
  · rw [stopped.attrs _ steady_trainCount, enteredAttrs, if_pos rfl, attr_setAttr_ne _ _ _ _ (by decide) (by decide) (by decide),
      attr_setAttr_ne _ _ _ _ (by decide) (by decide) (by decide)]
    split
    case isTrue hi => rw [hi, attr_bump, before]; rfl
    case isFalse hi => rw [bump, attr_setAttr_inst _ _ _ hi, before]
  · rw [stop_changeState target ho .train, if_neg fun h => absurd h.2 (by decide)]

/-- R133: a port that falls silent, seen after the whole change. -/
theorem changeState_silenced {p wanted why new cause : Nat} {d : Dev} (ht : stopTarget d p wanted why = (new, cause)) (ho : stateOf d p ≠ new)
    (hn : new = psListen ∨ new = psDown) : Silenced p (changeState p wanted why d) := by
  obtain ⟨d1, left, stopped⟩ := changeState_through ht ho (.inl hn)
  obtain ⟨rx, quiet, loading⟩ := leaveState_silences hn p (stateOf d p) d
  rw [enteredAttrs_silent hn] at stopped
  exact {
    rx := by rw [stopped.attrs _ steady_rxState, left.attrs _ steady_rxState, attr_setAttr_ne _ _ _ _ (by decide) (by decide) (by decide), rx]
    quiet := by rw [stopped.attrs _ steady_quietState, left.attrs _ steady_quietState, attr_setAttr_ne _ _ _ _ (by decide) (by decide) (by decide), quiet]
    loading := by rw [stopped.loading, left.loading, block_congr (setAttr_blocks ..), loading] }

/-- R132: CARRY entered at the end of training. -/
theorem changeState_trained {p why : Nat} {d : Dev} (ho : stateOf d p = psTrain) :
    attr (changeState p psCarry why d) PORT_TRAIN_PHASE p = 0 ∧ attr (changeState p psCarry why d) PORT_RX_STATE p = 2 := by
  have changed : stateOf d p ≠ psCarry := by rw [ho]; decide
  obtain ⟨d1, left, stopped⟩ := changeState_through (stopTarget_carry d p why) changed .carry
  rw [stopped.attrs _ steady_trainPhase, stopped.attrs _ steady_rxState, enteredAttrs, if_neg (by decide), if_pos rfl, if_pos ho]
  exact ⟨attr_setAttr .., (attr_setAttr_ne _ _ _ _ (by decide) (by decide) (by decide)).trans (attr_setAttr ..)⟩

/-! ### What a burst of the service channel leaves alone (R180 to R185) -/

/-- A port without its service channel and without the note of when SWAP_AT was sent. -/
def unserved (x : Port) : Port := { x with svc := {}, swap := x.swap.map fun s => { s with atTime := none } }

/-- A burst sent counts itself, moves the service channel of its port, notes a SWAP_AT and starts time limits. -/
structure SvcFrame (d e : Dev) : Prop where
  attrs : ∀ b : Attr, b.code < 2 ^ 24 → b.code ≠ SVC_BURSTS_TX.code → ∀ i, attr e b i = attr d b i
  ports : ∀ q, unserved (port e q) = unserved (port d q)
  armed : ∀ k i, armed d k i = true → armed e k i = true
  rest : e = { d with attrs := e.attrs, ports := e.ports, timers := e.timers }

namespace SvcFrame

variable {d e f : Dev}

theorem refl (d : Dev) : SvcFrame d d := ⟨fun _ _ _ _ => rfl, fun _ => rfl, fun _ _ h => h, rfl⟩

/-- Transitivity with the later step first. -/
theorem after (k : SvcFrame e f) (h : SvcFrame d e) : SvcFrame d f where
  attrs b hb hs i := (k.attrs b hb hs i).trans (h.attrs b hb hs i)
  ports q := (k.ports q).trans (h.ports q)
  armed l i hl := k.armed l i (h.armed l i hl)
  rest := by
    rw [k.rest]
    exact congrArg (fun x : Dev => { x with attrs := f.attrs, ports := f.ports, timers := f.timers }) h.rest

theorem ite {c : Prop} [Decidable c] {x y : Dev} (hx : SvcFrame d x) (hy : SvcFrame d y) : SvcFrame d (if c then x else y) := by
  split
  · exact hx
  · exact hy

theorem modPort {p : Nat} {g : Port → Port} (hg : ∀ x, unserved (g x) = unserved x) : SvcFrame d (modPort p g d) where
  attrs _ _ _ _ := rfl
  ports q := by
    by_cases h : q = p
    · rw [h, port_modPort, hg]
    · rw [port_modPort_ne _ _ h]
  armed _ _ h := h
  rest := rfl

theorem modSvc (p : Nat) (g : Svc → Svc) (d : Dev) : SvcFrame d (modSvc p g d) := modPort fun _ => rfl
theorem modPeer (p n : Nat) (g : SvcPeer → SvcPeer) (d : Dev) : SvcFrame d (modPeer p n g d) := modSvc ..

theorem arm (k i ns : Nat) (d : Dev) : SvcFrame d (arm k i ns d) where
  attrs _ _ _ _ := rfl
  ports _ := rfl
  armed l j h := by
    by_cases hk : timerKey l j = timerKey k i
    · simp [Machine.armed, Machine.arm, hk]
    · unfold Machine.armed Machine.arm
      rw [bankGet_put_ne _ _ _ hk]
      exact h
  rest := rfl

theorem bursts (p v : Nat) (d : Dev) : SvcFrame d (setAttr SVC_BURSTS_TX p v d) where
  attrs _ hb hs i := attr_setAttr_ne p v i d hs (by decide) hb
  ports _ := rfl
  armed _ _ h := h
  rest := rfl

theorem putBurst (p : Nat) (h : Head) (payload : List Byte) (d : Dev) : SvcFrame d (putBurst p h payload d) :=
  after (arm ..) (after (bursts ..) (modSvc ..))

theorem loadFragment (p n : Nat) (d : Dev) : SvcFrame d (loadFragment p n d) := by
  unfold Machine.loadFragment
  split
  · exact refl d
  · split
    · exact modPeer ..
    · exact refl d

theorem noteSwapAt (p : Nat) (x : SvcFragment) (ns : Nat) (d : Dev) : SvcFrame d (noteSwapAt p x ns d) := by
  unfold Machine.noteSwapAt
  refine ite (modPort fun x => ?_) (refl d)
  cases hx : x.swap with
  | none => simp [unserved, hx]
  | some s =>
    simp only [unserved, hx, Option.map_some]
    split
    · rfl
    · rfl

theorem burstFor (p n : Nat) (d : Dev) : SvcFrame d (burstFor p n d) := by
  unfold Machine.burstFor
  extract_lets d0 x ctrl ack d1 more base
  have begun : SvcFrame d d1 := after (modPeer ..) (loadFragment ..)
  split
  · refine ite ?_ (after (putBurst ..) begun)
    exact after (noteSwapAt ..) (after (arm ..) (after (putBurst ..) (after (modPeer ..) begun)))
  · exact after (putBurst ..) begun

theorem svcKick (p : Nat) (d : Dev) : SvcFrame d (svcKick p d) := by
  unfold Machine.svcKick
  refine ite (refl d) ?_
  split
  · split
    · exact after (arm ..) (after (modSvc ..) (after (burstFor ..) (modSvc ..)))
    · exact refl d
  · exact ite (ite (after (burstFor ..) (modSvc ..)) (after (putBurst ..) (after (modSvc ..) (modSvc ..)))) (refl d)
  · exact refl d

/-- R152: a training message queued and, where the channel is free, its first burst. -/
theorem sendTraining (p : Nat) (bytes : List Byte) (d : Dev) : SvcFrame d (sendTraining p bytes d) := after (svcKick ..) (modSvc ..)

theorem sendStopOnce (p : Nat) (d : Dev) : SvcFrame d (sendStopOnce p d) := ite (refl d) (putBurst ..)

theorem startWake (p : Nat) (d : Dev) : SvcFrame d (startWake p d) := ite (after (arm ..) (modSvc ..)) (after (arm ..) (after (modSvc ..) (putBurst ..)))

variable (h : SvcFrame d e)
include h

theorem train (q : Nat) : train e q = train d q := (congrArg Port.train (h.ports q) :)
theorem stop (q : Nat) : (port e q).stop = (port d q).stop := (congrArg Port.stop (h.ports q) :)
theorem quiet (q : Nat) : quiet e q = quiet d q := (congrArg Port.quiet (h.ports q) :)
theorem blocks : e.blocks = d.blocks := (congrArg Dev.blocks h.rest :)
theorem jobs : e.jobs = d.jobs := (congrArg Dev.jobs h.rest :)

end SvcFrame

theorem SvcFrame.steady {d e : Dev} (h : SvcFrame d e) {b : Attr} (hb : Steady b) (i : Nat) : attr e b i = attr d b i :=
  h.attrs b hb.1 (hb.code_ne (by decide)) i

/-! ### CARRY ends in training or DOWN (R139, R140) -/

theorem not_train_of_carry {d : Dev} {p : Nat} (hc : attr d PORT_STATE p = psCarry) : stateOf d p ≠ psTrain := by
  rw [stateOf, hc]
  decide

/-- R140: the message RETRAIN moves nothing that the change of state wrote. -/
theorem retrain_begins {p cause : Nat} {e : Dev} (hc : attr e PORT_STATE p = psCarry) (hs : (port e p).stop = none) : TrainBegun p e (retrain p cause e) := by
  obtain ⟨state, phase, count, stop⟩ := changeState_train (why := cause) hs (not_train_of_carry hc)
  have sent := SvcFrame.sendTraining p [0x0E#8] (changeState p psTrain cause e)
  exact {
    state := fun i => (sent.steady steady_portState i).trans (state i)
    phase := (sent.steady steady_trainPhase p).trans phase
    count := fun i => (sent.steady steady_trainCount i).trans (count i)
    stop := fun q => (sent.stop q).trans (stop q) }

/-- R138: where a graceful stop is under way, the port goes to DOWN instead, and the stop is over (assumption 109). -/
theorem stopped_changeState {p wanted why : Nat} {d : Dev} (hc : attr d PORT_STATE p = psCarry) (hs : (port d p).stop ≠ none)
    (hw : wanted = psListen ∨ wanted = psTrain) :
    attr (changeState p wanted why d) PORT_STATE p = psDown ∧ (port (changeState p wanted why d) p).stop = none := by
  have target := stopTarget_stopping hs hc hw why
  have changed : stateOf d p ≠ psDown := by rw [stateOf, hc]; decide
  exact ⟨(state_changeState target changed .down p).trans (if_pos rfl), (stop_changeState target changed .down p).trans (if_pos ⟨rfl, rfl⟩)⟩

theorem linkStop_changes {p : Nat} {d : Dev} (h : attr d PORT_STATE p = psTrain ∨ attr d PORT_STATE p = psCarry ∨ attr d PORT_STATE p = psQuiet) :
    linkStop p d = changeState p psListen causePartnerStop d := if_pos h

/-- R139: a link stopped by the partner listens, silenced. -/
theorem linkStop_listens {p : Nat} {d : Dev} (h : attr d PORT_STATE p = psTrain ∨ attr d PORT_STATE p = psCarry ∨ attr d PORT_STATE p = psQuiet)
    (hs : (port d p).stop = none) : attr (linkStop p d) PORT_STATE p = psListen ∧ Silenced p (linkStop p d) := by
  have target := stopTarget_of_none hs psListen causePartnerStop
  have changed : stateOf d p ≠ psListen := by
    rw [stateOf]
    rcases h with h | h | h <;> rw [h] <;> decide
  rw [linkStop_changes h]
  exact ⟨(state_changeState target changed .listen p).trans (if_pos rfl), changeState_silenced target changed (.inl rfl)⟩

/-- Settles O33, by what a change of state writes and what it leaves alone; the graceful stop is the model's choice (assumption 109). -/
theorem carryEnds : Obligations.carry_ends := by
  intro p s
  refine ⟨fun hc hs => ?_, fun hc ha he hs => ?_, fun h hs => ?_, fun c hcmd hc hs => ?_⟩
  · obtain ⟨state, phase, count, _⟩ := changeState_train (why := causePartnerRetrain) hs (not_train_of_carry hc)
    refine ⟨{ s with dev := changeState p psTrain causePartnerRetrain s.dev }, ?_, (state p).trans (if_pos rfl), phase, (count p).trans (if_pos rfl), rfl⟩
    show onDev (retrainReceived p) s = _
    rw [onDev, retrainReceived, if_pos hc]
  · obtain ⟨state, phase, count, _⟩ := retrain_begins (cause := causeEchoDrift) hc hs
    refine ⟨{ s with dev := retrain p causeEchoDrift s.dev }, ?_, (state p).trans (if_pos rfl), phase, (count p).trans (if_pos rfl), rfl⟩
    show onDev _ s = _
    rw [onDev, if_pos ⟨hc, ha, he⟩]
  · obtain ⟨state, rx, quiet, loading⟩ := linkStop_listens h hs
    exact ⟨{ s with dev := linkStop p s.dev }, rfl, state, quiet, rx, loading, rfl⟩
  · rcases hcmd with rfl | rfl
    · obtain ⟨state, stop⟩ := stopped_changeState (why := causePartnerRetrain) hc hs (.inr rfl)
      refine ⟨{ s with dev := changeState p psTrain causePartnerRetrain s.dev }, ?_, state, stop, rfl⟩
      show onDev (retrainReceived p) s = _
      rw [onDev, retrainReceived, if_pos hc]
    · obtain ⟨state, stop⟩ := stopped_changeState (why := causePartnerStop) hc hs (.inl rfl)
      refine ⟨{ s with dev := changeState p psListen causePartnerStop s.dev }, ?_, state, stop, rfl⟩
      show onDev (linkStop p) s = _
      rw [onDev, linkStop_changes (.inr (.inl hc))]

/-! ### A training phase begins (R154) -/

theorem steady_erle : Steady PORT_ERLE := ⟨by decide, by decide⟩
theorem steady_classNow : Steady PORT_CLASS_NOW := ⟨by decide, by decide⟩
theorem steady_interleaveNow : Steady PORT_INTERLEAVE_NOW := ⟨by decide, by decide⟩
theorem steady_trainFails : Steady PORT_TRAIN_FAILS := ⟨by decide, by decide⟩
theorem steady_lastFail : Steady PORT_LAST_FAIL := ⟨by decide, by decide⟩
theorem bystander_trainFails : Bystander PORT_TRAIN_FAILS := ⟨by decide, by decide⟩

/-- R154: what starts with phase `n`. -/
structure PhaseBegun (p n : Nat) (d e : Dev) : Prop where
  attrs : ∀ b, Steady b → b.code ≠ PORT_RX_STATE.code → ∀ i, attr e b i = attr d b i
  rx : attr e PORT_RX_STATE p = if n = 2 then 1 else attr d PORT_RX_STATE p
  repeated : (train e p).repeated = (train d p).repeated
  proposed : (train e p).proposed = (train d p).proposed
  running : armed e tkPhase p = true
  blocks : e.blocks = d.blocks

theorem PhaseBegun.sent {p n : Nat} {d e f : Dev} (h : PhaseBegun p n d e) (k : SvcFrame e f) : PhaseBegun p n d f where
  attrs b hb hr i := (k.steady hb i).trans (h.attrs b hb hr i)
  rx := (k.steady steady_rxState p).trans h.rx
  repeated := by rw [k.train, h.repeated]
  proposed := by rw [k.train, h.proposed]
  running := k.armed _ _ h.running
  blocks := k.blocks.trans h.blocks

theorem PhaseBegun.started {n : Nat} (p ns : Nat) (d : Dev) (hn : n ≠ 2) : PhaseBegun p n d (arm tkPhase p ns d) where
  attrs _ _ _ _ := rfl
  rx := (if_neg hn).symm
  repeated := rfl
  proposed := rfl
  running := armed_arm ..
  blocks := rfl

theorem PhaseBegun.modTrain {p n : Nat} {d e : Dev} (h : PhaseBegun p n d e) {g : Training → Training}
    (hr : ∀ x, (g x).repeated = x.repeated) (hp : ∀ x, (g x).proposed = x.proposed) : PhaseBegun p n d (modTrain p g e) where
  attrs := h.attrs
  rx := h.rx
  repeated := by rw [train, Machine.modTrain, port_modPort]; exact (hr _).trans h.repeated
  proposed := by rw [train, Machine.modTrain, port_modPort]; exact (hp _).trans h.proposed
  running := h.running
  blocks := h.blocks

theorem train_modTrain (p : Nat) (g : Training → Training) (d : Dev) : train (modTrain p g d) p = g (train d p) := by
  rw [train, modTrain, port_modPort]
  rfl

theorem train_modRx (p : Nat) (g : PortRx → PortRx) (d : Dev) (q : Nat) : train (modRx p g d) q = train d q := by
  by_cases h : q = p
  · rw [h, train, modRx, port_modPort]
    rfl
  · rw [train, modRx, port_modPort_ne _ _ h]
    rfl

theorem PhaseBegun.modRx {p n : Nat} {d e : Dev} (h : PhaseBegun p n d e) (g : PortRx → PortRx) : PhaseBegun p n d (Machine.modRx p g e) where
  attrs := h.attrs
  rx := h.rx
  repeated := by rw [train_modRx, h.repeated]
  proposed := by rw [train_modRx, h.proposed]
  running := h.running
  blocks := h.blocks

/-- R154: TIMING_LOCK: the receiver locks anew. -/
theorem PhaseBegun.locking (p ns : Nat) (g : PortRx → PortRx) (d : Dev) :
    PhaseBegun p 2 d (setAttr PORT_RX_STATE p 1 (Machine.modRx p g (arm tkPhase p ns d))) where
  attrs _ hb hr _ := attr_setAttr_ne _ _ _ _ hr (by decide) hb.1
  rx := attr_setAttr ..
  repeated := congrArg Training.repeated (train_modRx p g (arm tkPhase p ns d) p)
  proposed := congrArg Training.proposed (train_modRx p g (arm tkPhase p ns d) p)
  running := armed_arm ..
  blocks := rfl

theorem beginPhase_begins {p n : Nat} (hn : 1 ≤ n) (h5 : n ≤ 5) (d : Dev) : PhaseBegun p n d (beginPhase p n d) := by
  unfold beginPhase
  extract_lets d0 d1
  have started : n ≠ 2 → PhaseBegun p n d d0 := fun h => .started p _ d h
  split
  · exact (started (by decide)).modTrain (fun _ => rfl) (fun _ => rfl)
  · exact .locking ..
  · exact (started (by decide)).modRx _
  · have apart : PhaseBegun p 4 d (modTrain p (fun x => { x with rxAgreed := false, txAgreed := false }) d0) :=
      (started (by decide)).modTrain (fun _ => rfl) (fun _ => rfl)
    exact apart.sent (.sendTraining ..)
  · have fresh : PhaseBegun p 5 d d1 := (started (by decide)).modTrain (fun _ => rfl) (fun _ => rfl)
    split
    · have named : PhaseBegun p 5 d (modTrain p (fun x => { x with startSf := some (goTarget d p) }) d1) :=
        fresh.modTrain (fun _ => rfl) (fun _ => rfl)
      exact named.sent (.sendTraining ..)
    · exact fresh
  next h1 h2 h3 h4 h5 =>
    have none : ¬(n = 1 ∨ n = 2 ∨ n = 3 ∨ n = 4 ∨ n = 5) := by simp only [not_or]; exact ⟨h1, h2, h3, h4, h5⟩
    omega

/-- R154: LOADING_AGREE begins with no direction agreed. -/
theorem beginPhase_apart (p : Nat) (d : Dev) : (train (beginPhase p 4 d) p).rxAgreed = false ∧ (train (beginPhase p 4 d) p).txAgreed = false := by
  have begun : beginPhase p 4 d = sendTraining p (tablesMessage (train d p).proposed)
      (modTrain p (fun x => { x with rxAgreed := false, txAgreed := false }) (arm tkPhase p (phaseNs 4) d)) := rfl
  rw [begun, (SvcFrame.sendTraining ..).train, train_modTrain]
  exact ⟨rfl, rfl⟩

/-- R164: a choice of clock writes the prism's clock and starts its slew. -/
theorem refreshClock_eq (m : Nat) (d : Dev) : ∃ as ts, refreshClock m d = { d with attrs := as, timers := ts } := by
  unfold refreshClock
  dsimp only
  split
  · split
    · exact ⟨_, _, rfl⟩
    · exact ⟨_, _, rfl⟩
  · split
    · exact ⟨_, _, rfl⟩
    · exact ⟨_, _, rfl⟩

/-- R154: a phase started, whole. -/
structure PhaseStarted (p n : Nat) (d e : Dev) : Prop where
  phase : attr e PORT_TRAIN_PHASE p = n
  attrs : ∀ b, Steady b → b.code ≠ PORT_RX_STATE.code → b.code ≠ PORT_TRAIN_PHASE.code → ∀ i, attr e b i = attr d b i
  rx : attr e PORT_RX_STATE p = if n = 2 then 1 else attr d PORT_RX_STATE p
  proposed : (train e p).proposed = (train d p).proposed
  blocks : e.blocks = d.blocks

theorem startPhase_starts {p n : Nat} (hn : 1 ≤ n) (h5 : n ≤ 5) (d : Dev) : PhaseStarted p n d (startPhase p n d) := by
  have begun := beginPhase_begins (p := p) hn h5 (modTrain p (fun x => { x with repeated := false }) (setAttr PORT_TRAIN_PHASE p n d))
  obtain ⟨attrs, rx, _, proposed, _, blocks⟩ := begun
  have whole : PhaseStarted p n d (beginPhase p n (modTrain p (fun x => { x with repeated := false }) (setAttr PORT_TRAIN_PHASE p n d))) := {
    phase := by
      rw [attrs _ steady_trainPhase (by decide), attr_modTrain, attr_setAttr]
      exact Nat.mod_eq_of_lt (Nat.lt_of_le_of_lt h5 (by decide))
    attrs := fun b hb hr hp i => by rw [attrs b hb hr, attr_modTrain, attr_setAttr_ne _ _ _ _ hp (by decide) hb.1]
    rx := by rw [rx, attr_modTrain, attr_setAttr_ne _ _ _ _ (by decide) (by decide) (by decide)]
    proposed := by rw [proposed, train_modTrain]; rfl
    blocks := blocks.trans rfl }
  unfold startPhase
  dsimp only
  split
  · exact whole
  · have clock := LinkFrame.refreshClock (prismOf p) (beginPhase p n (modTrain p (fun x => { x with repeated := false }) (setAttr PORT_TRAIN_PHASE p n d)))
    obtain ⟨as, ts, same⟩ := refreshClock_eq (prismOf p) (beginPhase p n (modTrain p (fun x => { x with repeated := false }) (setAttr PORT_TRAIN_PHASE p n d)))
    exact {
      phase := by rw [clock.attrs _ steady_trainPhase, whole.phase]
      attrs := fun b hb hr hp i => by rw [clock.attrs _ hb, whole.attrs b hb hr hp]
      rx := by rw [clock.attrs _ steady_rxState, whole.rx]
      proposed := by rw [same, ← whole.proposed]; rfl
      blocks := by rw [same, ← whole.blocks] }

/-! ### A training phase fails (R155) -/

theorem train_congr {d e : Dev} (h : e.ports = d.ports) (q : Nat) : train e q = train d q := congrArg Port.train (port_congr h q)

/-- R155: a phase that fails for the first time is repeated. -/
structure PhaseRepeated (p : Nat) (d e : Dev) : Prop where
  repeated : (train e p).repeated = true
  attrs : ∀ b, Steady b → b.code ≠ PORT_RX_STATE.code → ∀ i, attr e b i = attr d b i
  running : armed e tkPhase p = true

theorem phaseFail_repeats {p why : Nat} {d : Dev} (hn : 1 ≤ attr d PORT_TRAIN_PHASE p) (h5 : attr d PORT_TRAIN_PHASE p ≤ 5)
    (hr : (train d p).repeated = false) : PhaseRepeated p d (phaseFail p why d) := by
  have again : phaseFail p why d
      = beginPhase p (attr d PORT_TRAIN_PHASE p) (modTrain p (fun x => { x with repeated := true }) (clearTraining p d)) := by
    unfold phaseFail phaseFailSaying
    dsimp only
    rw [if_neg (by simp [hr]), id]
  obtain ⟨attrs, _, repeated, _, running, _⟩ := beginPhase_begins (p := p) hn h5 (modTrain p (fun x => { x with repeated := true }) (clearTraining p d))
  rw [again]
  exact {
    repeated := by rw [repeated, train_modTrain]
    attrs := fun b hb hx i => by rw [attrs b hb hx, attr_modTrain, (LinkFrame.clearTraining ..).attrs b hb]
    running := running }

/-- R155: a phase that fails again ends the training. -/
theorem phaseFail_fails {p why : Nat} {d : Dev} (hr : (train d p).repeated = true) :
    phaseFail p why d = trainFail p (attr d PORT_TRAIN_PHASE p) why causeTrainFail d := by
  unfold phaseFail phaseFailSaying
  dsimp only
  rw [if_pos hr, id]

theorem stopTarget_of_not_carry {d : Dev} {p : Nat} (h : stateOf d p ≠ psCarry) (wanted why : Nat) : stopTarget d p wanted why = (wanted, why) :=
  if_neg fun hs => h hs.2.1

/-- R155: a training failed: LISTEN, with its cause and its count. -/
structure TrainFailed (p code : Nat) (d e : Dev) : Prop where
  state : attr e PORT_STATE p = psListen
  last : attr e PORT_LAST_FAIL p = code
  fails : attr e PORT_TRAIN_FAILS p = (attr d PORT_TRAIN_FAILS p + 1) % 2 ^ 32

theorem trainFail_fails {p phase why cause : Nat} {d : Dev} (ht : attr d PORT_STATE p = psTrain) (hc : phase * 256 + why < 2 ^ 16) :
    TrainFailed p (phase * 256 + why) d (trainFail p phase why cause d) := by
  unfold trainFail
  extract_lets h d1 d2
  have counted : ∀ b, noEventAttr b → attr d2 b p = attr d1 b p := fun b hb => (attr_modTrain ..).trans (attr_raise _ _ _ _ _ _ _ hb)
  have training : stateOf d2 p = psTrain := by
    rw [stateOf, counted _ steady_portState.noEvent, attr_bump_ne _ _ _ _ (by decide) (by decide) (by decide),
      attr_setAttr_ne _ _ _ _ (by decide) (by decide) (by decide), ht]
  have changed : stateOf d2 p ≠ psListen := by rw [training]; decide
  have target := stopTarget_of_not_carry (p := p) (d := d2) (by rw [training]; decide) psListen cause
  rw [if_neg changed]
  refine ⟨(state_changeState target changed .listen p).trans (if_pos rfl), ?_, ?_⟩
  · rw [attr_changeState_ne bystander_lastFail (by decide) target (.inl rfl) changed, counted _ steady_lastFail.noEvent,
      attr_bump_ne _ _ _ _ (by decide) (by decide) (by decide), attr_setAttr]
    exact Nat.mod_eq_of_lt hc
  · rw [attr_changeState_ne bystander_trainFails (by decide) target (.inl rfl) changed, counted _ steady_trainFails.noEvent, attr_bump,
      attr_setAttr_ne _ _ _ _ (by decide) (by decide) (by decide)]
    rfl

/-! ### ECHO_FIT (R75, R154) -/

/-- R75: half A ended on the controller's side. -/
structure HalfAEnded (p erle : Nat) (windows : List Nat) (e : Dev) : Prop where
  erle : attr e PORT_ERLE p = erle
  halfB : (train e p).halfB = true
  windows : block e PORT_ECHO_WINDOWS p = (List.range 8).flatMap fun k => toLE (windows.getD k 0xFFFF) 2
  running : armed e tkPhase p = true

theorem fitBytes_exact {bs : List Byte} {n : Nat} (h : bs.length = n) : fitBytes bs n = bs := by
  rw [fitBytes, List.take_append_of_le_length h.ge, List.take_of_length_le h.le]

theorem length_windows (windows : List Nat) : ((List.range 8).flatMap fun k => toLE (windows.getD k 0xFFFF) 2).length = 16 := by
  rw [List.length_flatMap]
  simp only [length_toLE]
  rfl

theorem echoFitted_controller {p erle : Nat} {d : Dev} (windows : List Nat) (he : erle < 2 ^ 16) (hc : (train d p).controller = true) :
    HalfAEnded p erle windows (echoFitted p erle windows d) := by
  unfold echoFitted
  extract_lets t d1
  rw [if_pos hc]
  have sent := SvcFrame.sendTraining p [0x01#8] (modTrain p (fun x => { x with halfB := true }) (modRx p (fun x => { x with erleRef := erle }) d1))
  exact {
    erle := by
      rw [attr_arm, sent.steady steady_erle, attr_modTrain, attr_modRx, attr_setAttr]
      exact Nat.mod_eq_of_lt he
    halfB := by
      rw [train_congr (arm_ports ..), sent.train, train_modTrain]
    windows := by
      rw [block_congr (arm_blocks ..), block_congr sent.blocks, block_congr (modTrain_blocks ..), block_congr (modRx_blocks ..),
        block_congr (setAttr_blocks ..), block_setBlock]
      exact fitBytes_exact (length_windows windows)
    running := armed_arm .. }

theorem echoFitted_partner {p erle : Nat} {d : Dev} (windows : List Nat) (he : erle < 2 ^ 16) (hc : (train d p).controller = false) :
    attr (echoFitted p erle windows d) PORT_ERLE p = erle ∧ attr (echoFitted p erle windows d) PORT_TRAIN_PHASE p = 2
      ∧ attr (echoFitted p erle windows d) PORT_RX_STATE p = 1 := by
  unfold echoFitted
  extract_lets t d1
  rw [if_neg (by simp [t, hc])]
  have sent := SvcFrame.sendTraining p [0x02#8] (modRx p (fun x => { x with erleRef := erle }) d1)
  obtain ⟨phase, attrs, rx, _, _⟩ := startPhase_starts (p := p) (n := 2) (by decide) (by decide)
    (sendTraining p [0x02#8] (modRx p (fun x => { x with erleRef := erle }) d1))
  refine ⟨?_, phase, rx.trans (if_pos rfl)⟩
  rw [attrs _ steady_erle (by decide) (by decide), sent.steady steady_erle, attr_modRx, attr_setAttr]
  exact Nat.mod_eq_of_lt he

theorem train_forAll {g : Nat → Dev → Dev} {p : Nat} (h : ∀ k e, train (g k e) p = train e p) (l : List Nat) (d : Dev) :
    train (forAll l g d) p = train d p := by
  induction l generalizing d with
  | nil => rfl
  | cons k l ih => exact (ih _).trans (h k d)

theorem setNextSlot_ports (p k v : Nat) (d : Dev) : (setNextSlot p k v d).ports = d.ports := rfl

/-- R84: a ramp leaves the training of every port alone. -/
theorem train_startRamp (p : Nat) (d : Dev) (q : Nat) : train (startRamp p d) q = train d q := by
  unfold startRamp
  dsimp only
  rw [train_congr (disarm_ports ..), train_forAll fun k e => ?victim]
  · rfl
  case victim =>
    rw [train_congr (disarm_ports ..), train_congr (setNextSlot_ports ..), train_modRx]

theorem train_requestRamp (p : Nat) (d : Dev) (q : Nat) : train (requestRamp p d) q = train d q := by
  unfold requestRamp
  split
  · rfl
  · exact train_startRamp ..

theorem inPhase_of {p n : Nat} {c : Bool} {f : Dev → Dev} {d : Dev} (hs : attr d PORT_STATE p = psTrain) (hn : attr d PORT_TRAIN_PHASE p = n)
    (hc : (train d p).controller = c) : inPhase p n c f d = f d := if_pos ⟨hs, hn, hc⟩

/-- R154: half B begun at the partner's side. -/
theorem echoReadyA_begins {p : Nat} {d : Dev} (hs : attr d PORT_STATE p = psTrain) (hn : attr d PORT_TRAIN_PHASE p = 1)
    (hc : (train d p).controller = false) (hb : (train d p).halfB = false) :
    (train (echoReadyA p d) p).halfB = true ∧ attr (echoReadyA p d) PORT_TRAIN_PHASE p = 1 := by
  rw [echoReadyA, inPhase_of hs hn hc, if_neg (by simp [hb])]
  split
  · rw [train_congr (arm_ports ..), train_modTrain, attr_arm, attr_modTrain]
    exact ⟨rfl, hn⟩
  · dsimp only
    have ramped := LinkFrame.requestRamp p (modTrain p (fun x => { x with halfB := true, waitRamp := rampBusy d p }) d)
    have phase := (ramped.attrs _ steady_trainPhase p).trans ((attr_modTrain ..).trans hn)
    split
    · rw [train_congr (disarm_ports ..), train_requestRamp, train_modTrain, attr_disarm]
      exact ⟨rfl, phase⟩
    · rw [train_congr (arm_ports ..), train_requestRamp, train_modTrain, attr_arm]
      exact ⟨rfl, phase⟩

theorem echoReadyB_starts {p : Nat} {d : Dev} (hs : attr d PORT_STATE p = psTrain) (hn : attr d PORT_TRAIN_PHASE p = 1)
    (hc : (train d p).controller = true) (hb : (train d p).halfB = true) : echoReadyB p d = startPhase p 2 d := by
  rw [echoReadyB, inPhase_of hs hn hc, if_pos hb]

/-! ### CHANNEL_PROBE (R154, R157) -/

/-- R157: a build rests on the receiver, the partner's word and the port's settings. -/
theorem buildFor_congr {d e : Dev} {p : Nat} (hp : e.ports = d.ports) (ha : attr e PORT_PARTNER_ABILITY p = attr d PORT_PARTNER_ABILITY p)
    (hr : attr e PORT_RATE_CAP p = attr d PORT_RATE_CAP p)
    (ht : attr e PRISM_SYMBOL_PERIOD (prismOf p) = attr d PRISM_SYMBOL_PERIOD (prismOf p))
    (hm : attr e PORT_TARGET_MARGIN p = attr d PORT_TARGET_MARGIN p) : buildFor e p = buildFor d p := by
  have heard : snrOf e p = snrOf d p := by
    funext t
    rw [snrOf, snrOf, port_congr hp]
  rw [buildFor, buildFor, partnerMaxBits, partnerMaxBits, heard, ha, hr, ht, hm, port_congr hp]

/-- R157: of the attributes, a proposal writes the margin alone. -/
structure Proposed (p : Nat) (d e : Dev) : Prop where
  attrs : ∀ b : Attr, b.code < 2 ^ 24 → b.code ≠ PORT_MARGIN_USED.code → ∀ i, attr e b i = attr d b i
  proposed : (train e p).proposed = (buildFor d p).map (·.1)

theorem proposeTables_proposes (p : Nat) (d : Dev) : Proposed p d (proposeTables p d) := by
  unfold proposeTables
  split
  case h_1 t m built =>
    refine ⟨fun b hb hm i => (attr_setAttr_ne _ _ _ _ hm (by decide) hb).trans (attr_modTrain ..), ?_⟩
    rw [train_congr (setAttr_ports ..), train_modTrain, built]
    rfl
  case h_2 built =>
    refine ⟨fun b hb hm i => (attr_setAttr_ne _ _ _ _ hm (by decide) hb).trans (attr_modTrain ..), ?_⟩
    rw [train_congr (setAttr_ports ..), train_modTrain, built]
    rfl

/-- R152: PROBE_DONE taken: class, depth and tables. -/
structure ProbeTaken (p cls depth : Nat) (d e : Dev) : Prop where
  phase : attr e PORT_TRAIN_PHASE p = 4
  cls : attr e PORT_CLASS_NOW p = cls
  depth : attr e PORT_INTERLEAVE_NOW p = depth
  proposed : (train e p).proposed = (buildFor d p).map (·.1)

theorem probeDone_takes {p cls depth : Nat} {d : Dev} (hs : attr d PORT_STATE p = psTrain) (hn : attr d PORT_TRAIN_PHASE p = 3)
    (hc : (train d p).controller = false) (hcls : cls < 3) (hdepth : depth < 3) : ProbeTaken p cls depth d (probeDone p cls depth d) := by
  rw [probeDone, inPhase_of hs hn hc]
  obtain ⟨attrs, proposed⟩ := proposeTables_proposes p (setAttr PORT_INTERLEAVE_NOW p depth (setAttr PORT_CLASS_NOW p cls d))
  obtain ⟨phase, kept, _, same, _⟩ := startPhase_starts (p := p) (n := 4) (by decide) (by decide)
    (proposeTables p (setAttr PORT_INTERLEAVE_NOW p depth (setAttr PORT_CLASS_NOW p cls d)))
  have untouched : ∀ b : Attr, b.code < 2 ^ 24 → b.code ≠ PORT_INTERLEAVE_NOW.code → b.code ≠ PORT_CLASS_NOW.code → ∀ i,
      attr (setAttr PORT_INTERLEAVE_NOW p depth (setAttr PORT_CLASS_NOW p cls d)) b i = attr d b i := fun b hb hi hk i =>
    (attr_setAttr_ne _ _ _ _ hi (by decide) hb).trans (attr_setAttr_ne _ _ _ _ hk (by decide) hb)
  refine ⟨phase, ?_, ?_, ?_⟩
  · rw [kept _ steady_classNow (by decide) (by decide), attrs _ (by decide) (by decide), attr_setAttr_ne _ _ _ _ (by decide) (by decide) (by decide),
      attr_setAttr]
    exact Nat.mod_eq_of_lt (Nat.lt_trans hcls (by decide))
  · rw [kept _ steady_interleaveNow (by decide) (by decide), attrs _ (by decide) (by decide), attr_setAttr]
    exact Nat.mod_eq_of_lt (Nat.lt_trans hdepth (by decide))
  · have built := buildFor_congr (d := d) (p := p) (e := setAttr PORT_INTERLEAVE_NOW p depth (setAttr PORT_CLASS_NOW p cls d)) rfl
      (untouched PORT_PARTNER_ABILITY (by decide) (by decide) (by decide) p) (untouched PORT_RATE_CAP (by decide) (by decide) (by decide) p)
      (untouched PRISM_SYMBOL_PERIOD (by decide) (by decide) (by decide) _) (untouched PORT_TARGET_MARGIN (by decide) (by decide) (by decide) p)
    rw [same, proposed, built]

/-! ### LOADING_AGREE (R154, R155) -/

theorem agreed_once {p : Nat} {d : Dev} (h : ((train d p).rxAgreed && (train d p).txAgreed) = false) : agreed p d = d :=
  if_neg (by simp [h])

theorem agreed_both {p : Nat} {d : Dev} (h : ((train d p).rxAgreed && (train d p).txAgreed) = true) : agreed p d = startPhase p 5 d := if_pos h

/-- R154: the partner's tables in use. -/
structure TablesTaken (p : Nat) (msg : List Byte) (d e : Dev) : Prop where
  loading : block e PORT_LOADING_TX p = (messageTables msg).1
  gains : block e PORT_GAIN_TX p = (messageTables msg).2
  phase : attr e PORT_TRAIN_PHASE p = if (train d p).rxAgreed = true then 5 else 4

theorem length_messageTables {msg : List Byte} (h : msg.length = 769) : (messageTables msg).1.length = 256 ∧ (messageTables msg).2.length = 512 := by
  simp [messageTables, h]

/-- The tables of a message that breaks no rule, written and answered with TABLES_OK. -/
def tablesInUse (p : Nat) (t : List Byte × List Byte) (d : Dev) : Dev :=
  modTrain p (fun x => { x with txAgreed := true }) (sendTraining p [0x07#8] (setBlock PORT_GAIN_TX p t.2 (setBlock PORT_LOADING_TX p t.1 d)))

theorem tablesReceived_agrees {p : Nat} {msg : List Byte} {d : Dev} (hs : attr d PORT_STATE p = psTrain) (hn : attr d PORT_TRAIN_PHASE p = 4)
    (hl : msg.length = 769) (he : emptyLoad (messageTables msg).1 = false) (hb : brokenAt d p (messageTables msg).1 (messageTables msg).2 = 0) :
    tablesReceived p msg d = agreed p (tablesInUse p (messageTables msg) d) := by
  have loaded : ¬floorTables msg = true := by simp [floorTables, he]
  unfold tablesReceived
  dsimp only
  rw [if_neg (by rw [stateOf, hs, hn]; simp), if_neg loaded, if_pos hl, if_pos hb]
  rfl

theorem tablesReceived_taken {p : Nat} {msg : List Byte} {d : Dev} (hs : attr d PORT_STATE p = psTrain) (hn : attr d PORT_TRAIN_PHASE p = 4)
    (hl : msg.length = 769) (he : emptyLoad (messageTables msg).1 = false) (hb : brokenAt d p (messageTables msg).1 (messageTables msg).2 = 0) :
    TablesTaken p msg d (tablesReceived p msg d) := by
  obtain ⟨load, gains⟩ := length_messageTables hl
  have sent := SvcFrame.sendTraining p [0x07#8] (setBlock PORT_GAIN_TX p (messageTables msg).2 (setBlock PORT_LOADING_TX p (messageTables msg).1 d))
  have answered : train (tablesInUse p (messageTables msg) d) p = { train d p with txAgreed := true } := by
    rw [tablesInUse, train_modTrain, sent.train]
    rfl
  have phase : attr (tablesInUse p (messageTables msg) d) PORT_TRAIN_PHASE p = 4 := (attr_modTrain ..).trans ((sent.steady steady_trainPhase p).trans hn)
  have loading : block (tablesInUse p (messageTables msg) d) PORT_LOADING_TX p = (messageTables msg).1 := by
    rw [tablesInUse, block_congr (modTrain_blocks ..), block_congr sent.blocks, (LinkFrame.setBlock (by decide) (by decide) ..).loading, block_setBlock]
    exact fitBytes_exact load
  have gain : block (tablesInUse p (messageTables msg) d) PORT_GAIN_TX p = (messageTables msg).2 := by
    rw [tablesInUse, block_congr (modTrain_blocks ..), block_congr sent.blocks, block_setBlock]
    exact fitBytes_exact gains
  rw [tablesReceived_agrees hs hn hl he hb]
  cases hr : (train d p).rxAgreed with
  | true =>
    obtain ⟨started, _, _, _, blocks⟩ := startPhase_starts (p := p) (n := 5) (by decide) (by decide) (tablesInUse p (messageTables msg) d)
    rw [agreed_both (by rw [answered]; simp [hr])]
    exact ⟨(block_congr blocks ..).trans loading, (block_congr blocks ..).trans gain, by rw [started, hr]; rfl⟩
  | false =>
    rw [agreed_once (by rw [answered]; simp [hr])]
    exact ⟨loading, gain, by rw [phase, hr]; rfl⟩

/-- The tables proposed, in use for the receive direction. -/
def proposedInUse (p : Nat) (d : Dev) : Dev :=
  modTrain p (fun x => { x with rxAgreed := true }) (setBlock PORT_GAIN_RX p ((train d p).proposed.getD ([], [])).2
    (setBlock PORT_LOADING_RX p ((train d p).proposed.getD ([], [])).1 d))

theorem tablesOk_agrees {p : Nat} {d : Dev} (hs : attr d PORT_STATE p = psTrain) (hn : attr d PORT_TRAIN_PHASE p = 4) :
    tablesOk p d = agreed p (proposedInUse p d) := by
  unfold tablesOk
  rw [if_neg (by rw [stateOf, hs, hn]; simp)]
  rfl

theorem train_proposedInUse (p : Nat) (d : Dev) : train (proposedInUse p d) p = { train d p with rxAgreed := true } := by
  rw [proposedInUse, train_modTrain]
  rfl

theorem phase_proposedInUse (p : Nat) (d : Dev) : attr (proposedInUse p d) PORT_TRAIN_PHASE p = attr d PORT_TRAIN_PHASE p := attr_modTrain ..

/-! ### RECAST_START (R154, R132) -/

theorem recastGo_names {p sf : Nat} {d : Dev} (hs : attr d PORT_STATE p = psTrain) (hn : attr d PORT_TRAIN_PHASE p = 5)
    (hc : (train d p).controller = false) : recastGo p sf d = modTrain p (fun x => { x with startSf := some sf }) d := by
  unfold recastGo
  rw [if_pos ⟨hs, .inl hn, hc⟩]
  dsimp only
  rw [if_neg (by simp [hn])]

theorem recastOk_carries {p : Nat} {d : Dev} (hs : attr d PORT_STATE p = psTrain) (hn : attr d PORT_TRAIN_PHASE p = 5)
    (hc : (train d p).controller = true) (h1 : (train d p).started = true) (h2 : (train d p).accepted = true) :
    recastOk p d = changeState p psCarry causeTrained (modTrain p (fun x => { x with recastOk := true }) d) := by
  rw [recastOk, inPhase_of hs hn hc]
  unfold carryIfReady
  dsimp only
  rw [train_modTrain]
  exact if_pos ⟨hs, hn, h1, h2, rfl⟩

theorem recastOk_waits {p : Nat} {d : Dev} (hs : attr d PORT_STATE p = psTrain) (hn : attr d PORT_TRAIN_PHASE p = 5)
    (hc : (train d p).controller = true) (h : ((train d p).started && (train d p).accepted) = false) :
    recastOk p d = modTrain p (fun x => { x with recastOk := true }) d := by
  rw [recastOk, inPhase_of hs hn hc]
  unfold carryIfReady
  dsimp only
  rw [train_modTrain]
  refine if_neg fun ready => ?_
  obtain ⟨_, _, started, accepted, _⟩ := ready
  simp [show (train d p).started = true from started, show (train d p).accepted = true from accepted] at h

/-! ### A phase's timeout (R155) -/

theorem phaseTimeout_halfA {p erle : Nat} {windows : List Nat} {d : Dev} (hs : attr d PORT_STATE p = psTrain) (hn : attr d PORT_TRAIN_PHASE p = 1)
    (hc : (train d p).controller = true) (hb : (train d p).halfB = false) :
    phaseTimeout p erle windows d = if erle < 450 then phaseFail p 3 (setAttr PORT_ERLE p erle d) else echoFitted p erle windows d := by
  unfold phaseTimeout
  dsimp only
  rw [if_neg (fun h => h hs), if_pos hn, if_pos (by simp [hc, hb])]

theorem phaseTimeout_later {p erle : Nat} {windows : List Nat} {d : Dev} (hs : attr d PORT_STATE p = psTrain) (hn : 2 ≤ attr d PORT_TRAIN_PHASE p) :
    phaseTimeout p erle windows d = phaseFail p 1 d := by
  unfold phaseTimeout
  dsimp only
  rw [if_neg (fun h => h hs), if_neg (by omega)]

/-! ### The statement -/

section Rows
variable {p : Fin 128} {s : State}

theorem exec_echoFitHalfAEnd {erle : Nat} (windows : List Nat) (h : mayEndEcho s.dev p erle = true) :
    exec (.echoFitHalfAEnd p erle windows false) s = .next { s with dev := echoFitted p erle windows s.dev } := by
  show execEchoFitHalfAEnd p erle windows false s = _
  rw [execEchoFitHalfAEnd, onDev, if_neg (by decide), if_pos h]

theorem exec_trainPhaseTimeout (erle : Nat) (windows : List Nat) (h : due s.dev tkPhase p = true) :
    exec (.trainPhaseTimeout p ⟨erle, windows⟩) s = .next { s with dev := phaseTimeout p erle windows (disarm tkPhase p s.dev) } :=
  exec_onExpiry h

theorem exec_tablesBad (rule : Byte) (hs : attr s.dev PORT_STATE p = psTrain) (hn : attr s.dev PORT_TRAIN_PHASE p = 4) :
    exec (.tablesBad p rule) s = .next { s with dev := phaseFail p 7 s.dev } := by
  show onDev _ s = _
  rw [onDev, if_pos ⟨hs, hn⟩]

theorem exec_channelProbeDone (snrs : List (Nat × Nat)) (hs : attr s.dev PORT_STATE p = psTrain) (hn : attr s.dev PORT_TRAIN_PHASE p = 3) :
    exec (.channelProbeDone p snrs) s = .next { s with dev := probed p snrs s.dev } := by
  show onDev _ s = _
  rw [onDev, if_pos ⟨hs, hn⟩]

end Rows

/-- R155: a phase that fails for the second time ends the training. -/
theorem phaseFail_again {p : Nat} {d : Dev} (hs : attr d PORT_STATE p = psTrain) (h5 : attr d PORT_TRAIN_PHASE p ≤ 5)
    (hr : (train d p).repeated = true) : TrainFailed p (attr d PORT_TRAIN_PHASE p * 256 + 1) d (phaseFail p 1 d) := by
  rw [phaseFail_fails hr]
  exact trainFail_fails hs (by omega)

/-- R154: TABLES_BAD for the first time: LOADING_AGREE begins again. -/
theorem phaseFail_apart {p why : Nat} {d : Dev} (hn : attr d PORT_TRAIN_PHASE p = 4) (hr : (train d p).repeated = false) :
    (train (phaseFail p why d) p).rxAgreed = false ∧ (train (phaseFail p why d) p).txAgreed = false := by
  unfold phaseFail phaseFailSaying
  dsimp only
  rw [if_neg (by simp [hr]), hn]
  exact beginPhase_apart ..

theorem advanceReceived_sets {p ps : Nat} {d : Dev} (hs : attr d PORT_STATE p = psTrain) (hn : attr d PORT_TRAIN_PHASE p = 2)
    (hc : (train d p).controller = false) : advanceReceived p ps d = setAttr PORT_RT_DELAY p ps d := inPhase_of hs hn hc

theorem lockedReceived_starts {p : Nat} {d : Dev} (hs : attr d PORT_STATE p = psTrain) (hn : attr d PORT_TRAIN_PHASE p = 2)
    (hc : (train d p).controller = false) : lockedReceived p d = startPhase p 3 (setAttr PORT_RX_STATE p 2 d) := inPhase_of hs hn hc

/-- Settles O31, phase by phase. -/
theorem trainingPhases : Obligations.training_phases := by
  refine ⟨fun p s hs => ⟨fun erle windows he hw hc => ?_, fun erle windows he hw hc => ?_, fun hn hc hb => ?_, fun hn hc hb => ?_, fun hn hc => ⟨fun ps fine => ?_, ?_⟩,
    fun hn => ⟨fun snrs => exec_channelProbeDone snrs hs hn, fun hc cls depth => ?_⟩, fun erle windows hd hn hc hb => ⟨fun h450 hw => ?_, fun h450 hr => ?_⟩,
    fun erle windows hd h2 h5 => ⟨fun hr => ?_, fun hr => ?_⟩⟩,
    fun p s hs => ⟨fun hn => ⟨fun msg hl he hb => ?_, fun hr => ?_, fun hr => ?_, fun rule hr => ?_⟩, fun hn => ⟨fun sf hc => ?_, fun hc h1 h2 => ?_, fun hc h => ?_⟩⟩⟩
  · obtain ⟨fitted, half, _, running⟩ := echoFitted_controller windows hw hc
    exact ⟨_, exec_echoFitHalfAEnd windows he, fitted, half, running, rfl⟩
  · obtain ⟨fitted, phase, rx⟩ := echoFitted_partner windows hw hc
    exact ⟨_, exec_echoFitHalfAEnd windows he, fitted, phase, rx, rfl⟩
  · obtain ⟨half, phase⟩ := echoReadyA_begins hs hn hc hb
    exact ⟨{ s with dev := echoReadyA p s.dev }, rfl, half, phase, rfl⟩
  · obtain ⟨phase, _, rx, _, _⟩ := startPhase_starts (p := p) (n := 2) (by decide) (by decide) s.dev
    refine ⟨{ s with dev := startPhase p 2 s.dev }, ?_, phase, rx.trans (if_pos rfl), rfl⟩
    show onDev (echoReadyB p) s = _
    rw [onDev, echoReadyB_starts hs hn hc hb]
  · refine ⟨{ s with dev := setAttr PORT_RT_DELAY p ps.toNat s.dev }, ?_, ?_, ?_, _, _, _, _, rfl⟩
    · show onDev (advanceReceived p ps.toNat) s = _
      rw [onDev, advanceReceived_sets hs hn hc]
    · exact (attr_setAttr ..).trans (Nat.mod_eq_of_lt ps.isLt)
    · exact keepsAttrs_dev (keepsOthers_setAttr _ _ (by decide) List.mem_cons_self)
  · obtain ⟨phase, _, rx, _, _⟩ := startPhase_starts (p := p) (n := 3) (by decide) (by decide) (setAttr PORT_RX_STATE p 2 s.dev)
    refine ⟨{ s with dev := startPhase p 3 (setAttr PORT_RX_STATE p 2 s.dev) }, ?_, phase, rx.trans (attr_setAttr ..), rfl⟩
    show onDev (lockedReceived p) s = _
    rw [onDev, lockedReceived_starts hs hn hc]
  · obtain ⟨phase, class_now, depth_now, proposed⟩ := probeDone_takes hs hn hc cls.isLt depth.isLt
    exact ⟨{ s with dev := probeDone p cls depth s.dev }, rfl, phase, class_now, depth_now, proposed, rfl⟩
  · obtain ⟨fitted, half, placed, running⟩ := echoFitted_controller (d := disarm tkPhase p s.dev) windows hw hc
    refine ⟨{ s with dev := echoFitted p erle windows (disarm tkPhase p s.dev) }, ?_, fitted, half, placed, running, rfl⟩
    rw [exec_trainPhaseTimeout erle windows hd, phaseTimeout_halfA (d := disarm tkPhase p s.dev) hs hn hc hb, if_neg (by omega)]
  · have before : attr (setAttr PORT_ERLE p erle (disarm tkPhase p s.dev)) PORT_TRAIN_PHASE p = 1 :=
      (attr_setAttr_ne _ _ _ _ (by decide) (by decide) (by decide)).trans hn
    obtain ⟨repeated, attrs, running⟩ := phaseFail_repeats (why := 3) (d := setAttr PORT_ERLE p erle (disarm tkPhase p s.dev))
      (by rw [before]) (by rw [before]; decide) hr
    refine ⟨{ s with dev := phaseFail p 3 (setAttr PORT_ERLE p erle (disarm tkPhase p s.dev)) }, ?_, repeated,
      (attrs _ steady_trainPhase (by decide) p).trans before, running, rfl⟩
    rw [exec_trainPhaseTimeout erle windows hd, phaseTimeout_halfA (d := disarm tkPhase p s.dev) hs hn hc hb, if_pos h450]
  · obtain ⟨repeated, attrs, running⟩ := phaseFail_repeats (p := p) (why := 1) (d := disarm tkPhase p s.dev) (Nat.le_trans (by decide) h2) h5 hr
    refine ⟨{ s with dev := phaseFail p 1 (disarm tkPhase p s.dev) }, ?_, (attrs _ steady_portState (by decide) p).trans hs,
      attrs _ steady_trainPhase (by decide) p, repeated, running, rfl⟩
    rw [exec_trainPhaseTimeout erle windows hd, phaseTimeout_later (d := disarm tkPhase p s.dev) hs h2]
  · obtain ⟨state, last, fails⟩ := phaseFail_again (p := p) (d := disarm tkPhase p s.dev) hs h5 hr
    refine ⟨{ s with dev := phaseFail p 1 (disarm tkPhase p s.dev) }, ?_, state, last, fails, rfl⟩
    rw [exec_trainPhaseTimeout erle windows hd, phaseTimeout_later (d := disarm tkPhase p s.dev) hs h2]
  · obtain ⟨loading, gains, phase⟩ := tablesReceived_taken hs hn hl he hb
    exact ⟨{ s with dev := tablesReceived p msg s.dev }, rfl, loading, gains, phase, rfl⟩
  · obtain ⟨phase, _, _, _, _⟩ := startPhase_starts (p := p) (n := 5) (by decide) (by decide) (proposedInUse p s.dev)
    refine ⟨{ s with dev := startPhase p 5 (proposedInUse p s.dev) }, ?_, phase, rfl⟩
    show onDev (tablesOk p) s = _
    rw [onDev, tablesOk_agrees hs hn, agreed_both (by rw [train_proposedInUse]; simp [hr])]
  · refine ⟨{ s with dev := proposedInUse p s.dev }, ?_, (phase_proposedInUse ..).trans hn, congrArg Training.rxAgreed (train_proposedInUse p s.dev), rfl⟩
    show onDev (tablesOk p) s = _
    rw [onDev, tablesOk_agrees hs hn, agreed_once (by rw [train_proposedInUse]; simp [hr])]
  · obtain ⟨repeated, attrs, _⟩ := phaseFail_repeats (p := p) (why := 7) (d := s.dev) (by rw [hn]; decide) (by rw [hn]; decide) hr
    obtain ⟨rx, tx⟩ := phaseFail_apart (why := 7) hn hr
    exact ⟨_, exec_tablesBad rule hs hn, (attrs _ steady_trainPhase (by decide) p).trans hn, repeated, rx, tx, rfl⟩
  · refine ⟨{ s with dev := modTrain p (fun x => { x with startSf := some sf.toNat }) s.dev }, ?_, congrArg Training.startSf (train_modTrain p _ s.dev),
      fun b i _ _ _ => attr_modTrain .., rfl⟩
    show onDev (recastGo p sf.toNat) s = _
    rw [onDev, recastGo_names hs hn hc]
  · obtain ⟨phase, rx⟩ := changeState_trained (p := p) (why := causeTrained) (d := modTrain p (fun x => { x with recastOk := true }) s.dev) hs
    have changed : stateOf (modTrain p (fun x => { x with recastOk := true }) s.dev) p ≠ psCarry := fun h => absurd (hs.symm.trans h) (by decide)
    refine ⟨{ s with dev := changeState p psCarry causeTrained (modTrain p (fun x => { x with recastOk := true }) s.dev) }, ?_,
      (state_changeState (stopTarget_carry ..) changed .carry p).trans (if_pos rfl), phase, rx, rfl⟩
    show onDev (recastOk p) s = _
    rw [onDev, recastOk_carries hs hn hc h1 h2]
  · refine ⟨{ s with dev := modTrain p (fun x => { x with recastOk := true }) s.dev }, ?_, hs, congrArg Training.recastOk (train_modTrain p _ s.dev),
      fun b i _ _ _ => attr_modTrain .., rfl⟩
    show onDev (recastOk p) s = _
    rw [onDev, recastOk_waits hs hn hc h]

/-! ### A command taken (R309 to R311) -/

section Taken
variable {op : Nat} {f : Body} {r : Req} {s : State} {x : List Byte} {d : Dev}

/-- R310: the reply stands as the stored one; nothing else of the block differs from what the command came to. -/
theorem replied_answer (hf : r.flags = 0#8) (st : Nat) (x : List Byte) (d : Dev) :
    ∃ xs, answer (takenCall op r s) st x d = { d with masters := xs } ∧ Claims.Replied op st r x s { s with dev := { d with masters := xs } } := by
  obtain ⟨xs, hx⟩ := answer_eq (takenCall op r s) st x d
  have stored := answer_stored (takenCall op r s) st x d
  have flags : r.flags.toNat = 0 := by rw [hf]; rfl
  rw [hx, takenCall, requestBytes, flags] at stored
  exact ⟨xs, hx, stored⟩

theorem issueOut_done (ht : Claims.Takes op r s) (hl : (paramRange op).1 ≤ r.params.length ∧ r.params.length ≤ (paramRange op).2)
    (hb : f s.mem (takenCall op r s) (takenDev op r s) = .done x d .keep) :
    ∃ xs, issueOut op f r s = .next { s with dev := { d with masters := xs } } ∧ Claims.Replied op stOk r x s { s with dev := { d with masters := xs } } := by
  obtain ⟨took, hf, owner, free, room⟩ := ht
  obtain ⟨xs, answered, replied⟩ := replied_answer (op := op) (s := s) hf stOk x d
  refine ⟨xs, ?_, replied⟩
  rw [issueOut, issue_done took hf owner free room hl hb, answered]
  rfl

theorem issueOut_accept (ht : Claims.Takes op r s) (hl : (paramRange op).1 ≤ r.params.length ∧ r.params.length ≤ (paramRange op).2)
    (hb : f s.mem (takenCall op r s) (takenDev op r s) = .accept x d) :
    ∃ xs, issueOut op f r s = .next { s with dev := { d with masters := xs } }
      ∧ Claims.Replied op stAccepted r x s { s with dev := { d with masters := xs } } := by
  obtain ⟨took, hf, owner, free, room⟩ := ht
  obtain ⟨xs, answered, replied⟩ := replied_answer (op := op) (s := s) hf stAccepted x d
  refine ⟨xs, ?_, replied⟩
  rw [issueOut, issue_accept took hf owner free room hl hb, answered]

theorem need_of {c : Bool} (h : c = true) (st : Nat) (v : Verdict) : need c st v = v := if_pos h

theorem state_takenDev (op : Nat) (r : Req) (s : State) (p : Nat) : attr (takenDev op r s) PORT_STATE p = attr s.dev PORT_STATE p :=
  attr_takenDev op r s _ p (by decide) (by decide) (by decide)

/-- R317: the job of a command just accepted is found by its reference. -/
theorem findJob_addJob {c : Call} (h : findJob d (callRef c) = none) : (findJob (addJob c d) (callRef c)).map (·.opcode) = some c.op := by
  have before : d.jobs.find? (fun x => x.ref == callRef c) = none := h
  rw [findJob, addJob, List.find?_append, before]
  simp

end Taken

/-! ### One step for each port named -/

section Each
variable {g : Nat → Dev → Dev}

theorem foldl_keeps {α : Type} {β : Sort*} (f : Dev → β) {g : Dev → α → Dev} (h : ∀ e x, f (g e x) = f e) (l : List α) (d : Dev) :
    f (l.foldl g d) = f d := by
  induction l generalizing d with
  | nil => rfl
  | cons x l ih => exact (ih _).trans (h d x)

theorem forAll_keeps {β : Sort*} (f : Dev → β) (h : ∀ k e, f (g k e) = f e) (l : List Nat) (d : Dev) : f (forAll l g d) = f d :=
  foldl_keeps f (fun e k => h k e) l d

/-- A step that is done at once, and that no other step undoes. -/
theorem forAll_sets {Done : Nat → Dev → Prop} (step : ∀ p e, Done p (g p e)) (keep : ∀ p q e, Done q e → Done q (g p e)) (l : List Nat) (d : Dev) :
    ∀ q ∈ l, Done q (forAll l g d) := by
  have stays : ∀ (l : List Nat) d q, Done q d → Done q (forAll l g d) := fun l => by
    induction l with
    | nil => exact fun _ _ h => h
    | cons k l ih => exact fun d q h => ih _ q (keep k q d h)
  induction l generalizing d with
  | nil => exact fun q hq => absurd hq List.not_mem_nil
  | cons p l ih =>
    intro q hq
    rcases List.mem_cons.1 hq with rfl | hq
    · exact stays l _ q (step q d)
    · exact ih _ q hq

/-- A step that sets the state of its port, for each of several ports. -/
theorem states_forAll {v : Nat} {R : Nat → Prop}
    (h : ∀ p e, R (attr e PORT_STATE p) → ∀ i, attr (g p e) PORT_STATE i = if i = p then v else attr e PORT_STATE i)
    {l : List Nat} (hl : l.Nodup) (d : Dev) (hr : ∀ p ∈ l, R (attr d PORT_STATE p)) (i : Nat) :
    attr (forAll l g d) PORT_STATE i = if i ∈ l then v else attr d PORT_STATE i := by
  induction l generalizing d with
  | nil => rfl
  | cons p l ih =>
    obtain ⟨hp, tail⟩ := List.nodup_cons.1 hl
    have step := h p d (hr p List.mem_cons_self)
    have later : ∀ q ∈ l, R (attr (g p d) PORT_STATE q) := fun q hq => by
      have other : q ≠ p := fun e => hp (e ▸ hq)
      rw [step, if_neg other]
      exact hr q (List.mem_cons_of_mem p hq)
    refine (ih tail (g p d) later).trans ?_
    by_cases hi : i = p
    · rw [if_neg (hi ▸ hp), step, if_pos hi, if_pos (hi ▸ List.mem_cons_self)]
    · simp [step, hi]

variable {Ready Done : Nat → Dev → Prop} (ready : ∀ p q e, q ≠ p → Ready p e → Ready q e → Ready q (g p e))
  (done : ∀ p q e, q ≠ p → Ready p e → Done q e → Done q (g p e))
include ready done

theorem forAll_stays {l : List Nat} (hl : l.Nodup) {d : Dev} (hr : ∀ p ∈ l, Ready p d) {q : Nat} (hq : q ∉ l) (hd : Done q d) :
    Done q (forAll l g d) := by
  induction l generalizing d with
  | nil => exact hd
  | cons p l ih =>
    obtain ⟨hp, tail⟩ := List.nodup_cons.1 hl
    obtain ⟨hqp, hq⟩ := not_or.1 (mt List.mem_cons.2 hq)
    have rp := hr p List.mem_cons_self
    exact ih tail (fun k hk => ready p k d (fun e => hp (e ▸ hk)) rp (hr k (List.mem_cons_of_mem p hk))) hq (done p q d hqp rp hd)

/-- Every port whose step is ready at the start is done at the end. -/
theorem forAll_done (step : ∀ p e, Ready p e → Done p (g p e)) {l : List Nat} (hl : l.Nodup) {d : Dev} (hr : ∀ p ∈ l, Ready p d) :
    ∀ q ∈ l, Done q (forAll l g d) := by
  induction l generalizing d with
  | nil => exact fun q hq => absurd hq List.not_mem_nil
  | cons p l ih =>
    obtain ⟨hp, tail⟩ := List.nodup_cons.1 hl
    have rp := hr p List.mem_cons_self
    have rest : ∀ k ∈ l, Ready k (g p d) := fun k hk => ready p k d (fun e => hp (e ▸ hk)) rp (hr k (List.mem_cons_of_mem p hk))
    intro q hq
    rcases List.mem_cons.1 hq with rfl | hq
    · exact forAll_stays ready done tail rest hp (step q d rp)
    · exact ih tail rest q hq

end Each

theorem maskPorts_nodup (ps : List Byte) (off : Nat) : (maskPorts ps off).Nodup := List.nodup_range.filter _

/-! ### PORT_START, PORT_STOP and PORT_RETRAIN (R134, R138, R141) -/

/-- R132: a port is in the state that its change leads to, whether it was there already or not. -/
theorem state_after_change {p wanted why new cause : Nat} {d : Dev} (ht : stopTarget d p wanted why = (new, cause)) (hn : LinkState new) (i : Nat) :
    attr (changeState p wanted why d) PORT_STATE i = if i = p then new else attr d PORT_STATE i := by
  by_cases ho : stateOf d p = new
  · have unchanged : changeState p wanted why d = d := by
      unfold changeState
      rw [ht]
      exact if_pos ho
    rw [unchanged]
    split
    case isTrue hi => rw [hi]; exact ho
    case isFalse => rfl
  · exact state_changeState ht ho hn i

theorem state_start {p : Nat} {e : Dev} (h : attr e PORT_STATE p = psDown) (i : Nat) :
    attr (changeState p psListen causeHostStart e) PORT_STATE i = if i = p then psListen else attr e PORT_STATE i :=
  state_after_change (stopTarget_of_not_carry (by rw [stateOf, h]; decide) _ _) .listen i

theorem state_stopNow (p : Nat) (e : Dev) (i : Nat) : attr (stopNow p e) PORT_STATE i = if i = p then psDown else attr e PORT_STATE i := by
  have told : SvcFrame e (when (stateOf e p == psTrain || stateOf e p == psCarry || stateOf e p == psQuiet) (sendStopOnce p) e) :=
    .ite (.sendStopOnce ..) (.refl e)
  rw [stopNow, state_after_change (stopTarget_down ..) .down, told.steady steady_portState]

theorem domainOn_takenDev (op : Nat) (r : Req) (s : State) (i : Nat) : domainOn (takenDev op r s) i = domainOn s.dev i := by
  rw [domainOn, domainOn, attrOn, attrOn, attr_takenDev op r s DOMAIN_STATE i (by decide) (by decide) (by decide),
    attr_takenDev op r s DOMAIN_PADS_LATCHED i (by decide) (by decide) (by decide), takenDev_power]

theorem pathOn_takenDev (op : Nat) (r : Req) (s : State) (p : Nat) : pathOn (takenDev op r s) p = pathOn s.dev p :=
  congrArg ((pathDomains p).all) (funext (domainOn_takenDev op r s))

/-- R134, R135. -/
theorem portStart_starts {r : Req} {s : State} (hm : maskPorts r.params 0 ≠ []) (ht : Claims.Takes 0x30 r s) (hl : r.params.length = 16)
    (hp : ∀ p ∈ maskPorts r.params 0, pathOn s.dev p = true) (ho : s.dev.startOwed = false) :
    ∃ t, exec (.portStart r) s = .next t
      ∧ Claims.Replied 0x30 stOk r (maskBytes ((maskPorts r.params 0).filter fun p => stateOf s.dev p == psDown) 16) s t
      ∧ (∀ p, p < 128 → attr t.dev PORT_STATE p
          = (if p ∈ maskPorts r.params 0 ∧ attr s.dev PORT_STATE p = psDown then psListen else attr s.dev PORT_STATE p)) ∧ t.mem = s.mem := by
  have down : (fun p => stateOf (takenDev 0x30 r s) p == psDown) = fun p => stateOf s.dev p == psDown := by
    funext p
    rw [stateOf, stateOf, state_takenDev]
  have powered : ((maskPorts r.params 0).all (pathOn (takenDev 0x30 r s)) && !(takenDev 0x30 r s).startOwed) = true := by
    rw [takenDev_startOwed, ho, Bool.and_eq_true, List.all_eq_true]
    exact ⟨fun p h => (pathOn_takenDev ..).trans (hp p h), rfl⟩
  have body : bodyPortStart s.mem (takenCall 0x30 r s) (takenDev 0x30 r s)
      = .done (maskBytes ((maskPorts r.params 0).filter fun p => stateOf s.dev p == psDown) 16)
          (forAll ((maskPorts r.params 0).filter fun p => stateOf s.dev p == psDown) (fun p => changeState p psListen causeHostStart) (takenDev 0x30 r s)) .keep := by
    unfold bodyPortStart
    dsimp only [takenCall]
    rw [need_of (by simpa using hm), need_of powered, down]
    rfl
  obtain ⟨xs, answered, replied⟩ := issueOut_done ht (by rw [hl]; decide) body
  refine ⟨_, answered, replied, fun p _ => ?_, rfl⟩
  have ready : ∀ q ∈ (maskPorts r.params 0).filter fun p => stateOf s.dev p == psDown, attr (takenDev 0x30 r s) PORT_STATE q = psDown := fun q hq =>
    (state_takenDev ..).trans (by simpa [stateOf] using (List.mem_filter.1 hq).2)
  have states := states_forAll (R := (· = psDown)) (fun p e h => state_start h) ((maskPorts_nodup r.params 0).filter _) (takenDev 0x30 r s) ready p
  refine states.trans ?_
  rw [state_takenDev]
  simp [stateOf]

/-- R138: an immediate PORT_STOP. -/
theorem portStop_silences {r : Req} {s : State} (hm : maskPorts r.params 0 ≠ []) (ht : Claims.Takes 0x31 r s) (hl : r.params.length = 20)
    (h1 : byteAt r.params 16 = 1) (h0 : leAt r.params 17 3 = 0) :
    ∃ t, exec (.portStop r) s = .next t ∧ Claims.Replied 0x31 stOk r [] s t
      ∧ (∀ p, p < 128 → attr t.dev PORT_STATE p = (if p ∈ maskPorts r.params 0 then psDown else attr s.dev PORT_STATE p)) ∧ t.mem = s.mem := by
  have body : bodyPortStop s.mem (takenCall 0x31 r s) (takenDev 0x31 r s) = .done [] (forAll (maskPorts r.params 0) stopNow (takenDev 0x31 r s)) .keep := by
    unfold bodyPortStop
    dsimp only [takenCall]
    rw [need_of (by simp [hm, h1, h0, reservedZero])]
    simp [h1, okDev]
  obtain ⟨xs, answered, replied⟩ := issueOut_done ht (by rw [hl]; decide) body
  refine ⟨_, answered, replied, fun p _ => ?_, rfl⟩
  have states := states_forAll (R := fun _ => True) (fun p e _ => state_stopNow p e) (maskPorts_nodup r.params 0) (takenDev 0x31 r s) (fun _ _ => trivial) p
  exact states.trans (by rw [state_takenDev])

theorem LinkFrame.endSwap (p status : Nat) (d : Dev) : LinkFrame d (endSwap p status d) := by
  unfold Machine.endSwap
  split
  · exact .refl d
  · exact .ite (.finishSwap ..) (.setSwap ..)

/-- R138: a graceful stop begun on a port. -/
structure StopBegun (p : Nat) (j : JobRef) (d e : Dev) : Prop where
  attrs : ∀ b, Steady b → ∀ i, attr e b i = attr d b i
  stops : ∀ q, (port e q).stop = if q = p then some j else (port d q).stop

theorem stopGraceful_begins (c : Call) (p : Nat) (d : Dev) : StopBegun p (callRef c) d (stopGraceful c p d) := by
  have swap := LinkFrame.endSwap p stAborted d
  have begun : StopBegun p (callRef c) d (modPort p (fun x => { x with stop := some (callRef c) }) (endSwap p stAborted d)) := {
    attrs := fun b hb i => (attr_modPort ..).trans (swap.attrs b hb i)
    stops := fun q => by
      by_cases h : q = p
      · rw [h, port_modPort, if_pos rfl]
      · rw [port_modPort_ne _ _ h, swap.stops, if_neg h] }
  unfold stopGraceful
  dsimp only
  split
  · exact begun
  · exact ⟨begun.attrs, begun.stops⟩

/-- R138: a graceful PORT_STOP of ports in CARRY. -/
theorem portStop_waits {r : Req} {s : State} (hm : maskPorts r.params 0 ≠ []) (ht : Claims.Takes 0x31 r s) (hl : r.params.length = 20)
    (h1 : byteAt r.params 16 = 0) (h0 : leAt r.params 17 3 = 0) (hc : ∀ p ∈ maskPorts r.params 0, attr s.dev PORT_STATE p = psCarry) :
    ∃ t, exec (.portStop r) s = .next t ∧ Claims.Replied 0x31 stAccepted r [] s t
      ∧ (∀ p ∈ maskPorts r.params 0, (port t.dev p).stop = some ⟨r.master, r.tag.toNat⟩ ∧ attr t.dev PORT_STATE p = psCarry) ∧ t.mem = s.mem := by
  have carries : ∀ p ∈ maskPorts r.params 0, attr (takenDev 0x31 r s) PORT_STATE p = psCarry := fun p hp => (state_takenDev ..).trans (hc p hp)
  have soft : ((maskPorts r.params 0).filter fun p => byteAt r.params 16 == 0 && stateOf (takenDev 0x31 r s) p == psCarry) = maskPorts r.params 0 :=
    List.filter_eq_self.2 fun p hp => by simp [h1, stateOf, carries p hp]
  have hard : ((maskPorts r.params 0).filter fun p => !(maskPorts r.params 0).contains p) = [] := List.filter_eq_nil_iff.2 fun p hp => by simp [hp]
  have body : bodyPortStop s.mem (takenCall 0x31 r s) (takenDev 0x31 r s) = .accept [] (forAll (maskPorts r.params 0) (stopGraceful (takenCall 0x31 r s))
      (startMulti (takenCall 0x31 r s) (maskPorts r.params 0) (takenDev 0x31 r s))) := by
    unfold bodyPortStop
    dsimp only [takenCall]
    rw [need_of (by simp [hm, h1, h0, reservedZero]), soft, hard, if_neg (by simpa using hm)]
    rfl
  obtain ⟨xs, answered, replied⟩ := issueOut_accept ht (by rw [hl]; decide) body
  refine ⟨_, answered, replied, fun p hp => ⟨?_, ?_⟩, rfl⟩
  · exact forAll_sets (Done := fun p e => (port e p).stop = some ⟨r.master, r.tag.toNat⟩)
      (fun p e => ((stopGraceful_begins _ p e).stops p).trans (if_pos rfl))
      (fun p q e h => ((stopGraceful_begins _ p e).stops q).trans (by split; exacts [rfl, h])) _ _ p hp
  · exact (forAll_keeps (fun e => attr e PORT_STATE p) (fun q e => (stopGraceful_begins _ q e).attrs _ steady_portState p) _ _).trans (carries p hp)

/-- R140, R141: a port trained again at the host's word. -/
structure RetrainReady (d : Dev) (p : Nat) (e : Dev) : Prop where
  state : attr e PORT_STATE p = psCarry
  stop : (port e p).stop = none
  count : attr e PORT_TRAIN_COUNT p = attr d PORT_TRAIN_COUNT p

structure RetrainDone (d : Dev) (p : Nat) (e : Dev) : Prop where
  state : attr e PORT_STATE p = psTrain
  count : attr e PORT_TRAIN_COUNT p = (attr d PORT_TRAIN_COUNT p + 1) % 2 ^ 32

theorem retrain_each {ps : List Nat} (hp : ps.Nodup) {d e : Dev} (h : ∀ p ∈ ps, RetrainReady d p e) (cause : Nat) :
    ∀ p ∈ ps, RetrainDone d p (forAll ps (fun p => retrain p cause) e) := by
  refine forAll_done (fun p q e hq hr hs => ?ready) (fun p q e hq hr hd => ?done) (fun p e hr => ?step) hp h
  all_goals obtain ⟨state, _, count, stop⟩ := retrain_begins (cause := cause) hr.state hr.stop
  case ready => exact ⟨(state q).trans ((if_neg hq).trans hs.state), (stop q).trans hs.stop, (count q).trans ((if_neg hq).trans hs.count)⟩
  case done => exact ⟨(state q).trans ((if_neg hq).trans hd.state), (count q).trans ((if_neg hq).trans hd.count)⟩
  case step => exact ⟨(state p).trans (if_pos rfl), (count p).trans ((if_pos rfl).trans (by rw [hr.count]))⟩

/-- R141: PORT_RETRAIN. -/
theorem portRetrain_trains {r : Req} {s : State} (hm : maskPorts r.params 0 ≠ []) (ht : Claims.Takes 0x36 r s) (hl : r.params.length = 16)
    (hp : ∀ p ∈ maskPorts r.params 0, attr s.dev PORT_STATE p = psCarry ∧ pathOn s.dev p = true ∧ (port s.dev p).stop = none) :
    ∃ t, exec (.portRetrain r) s = .next t ∧ Claims.Replied 0x36 stOk r [] s t
      ∧ (∀ p ∈ maskPorts r.params 0, attr t.dev PORT_STATE p = psTrain
          ∧ attr t.dev PORT_TRAIN_COUNT p = (attr s.dev PORT_TRAIN_COUNT p + 1) % 2 ^ 32) ∧ t.mem = s.mem := by
  have checked : ((maskPorts r.params 0).all fun p => stateOf (takenDev 0x36 r s) p == psCarry && pathOn (takenDev 0x36 r s) p) = true :=
    List.all_eq_true.2 fun p h => by
      obtain ⟨state, path, _⟩ := hp p h
      simp [stateOf, state_takenDev, pathOn_takenDev, state, path]
  have body : bodyPortRetrain s.mem (takenCall 0x36 r s) (takenDev 0x36 r s)
      = .done [] (forAll (maskPorts r.params 0) (fun p => retrain p causeHostRetrain) (takenDev 0x36 r s)) .keep := by
    unfold bodyPortRetrain
    dsimp only [takenCall]
    rw [need_of (by simpa using hm), need_of checked]
    rfl
  obtain ⟨xs, answered, replied⟩ := issueOut_done ht (by rw [hl]; decide) body
  have count : ∀ p, attr (takenDev 0x36 r s) PORT_TRAIN_COUNT p = attr s.dev PORT_TRAIN_COUNT p := fun p =>
    attr_takenDev _ _ _ _ _ (by decide) (by decide) (by decide)
  have ready : ∀ p ∈ maskPorts r.params 0, RetrainReady s.dev p (takenDev 0x36 r s) := fun p h => by
    obtain ⟨state, _, stop⟩ := hp p h
    exact ⟨(state_takenDev ..).trans state, by rw [port_congr (takenDev_ports ..), stop], count p⟩
  refine ⟨_, answered, replied, fun p h => ?_, rfl⟩
  obtain ⟨state, count⟩ := retrain_each (maskPorts_nodup r.params 0) ready causeHostRetrain p h
  exact ⟨state, count⟩

/-! ### LOADING_SWAP (R158) -/

/-- A burst keeps a swap but for the note of when SWAP_AT was sent. -/
theorem SvcFrame.swap_some {d e : Dev} (h : SvcFrame d e) {q : Nat} {x : Swap} (hx : swapOf d q = some x) :
    ∃ t, swapOf e q = some { x with atTime := t } := by
  have same : (swapOf e q).map (fun s => { s with atTime := none }) = (swapOf d q).map (fun s => { s with atTime := none }) :=
    (congrArg Port.swap (h.ports q) :)
  rw [hx] at same
  obtain ⟨y, hy, fields⟩ := Option.map_eq_some_iff.1 same
  refine ⟨y.atTime, hy.trans (congrArg some ?_)⟩
  cases x
  cases y
  simp only [Swap.mk.injEq] at fields ⊢
  simp only [fields, and_self]

/-- R158: a fresh swap of a command, under way. -/
structure SwapBegun (p : Nat) (j : JobRef) (dirs : Nat) (d e : Dev) : Prop where
  swap : ∃ x, swapOf e p = some x ∧ x.job = some j ∧ x.dirs = dirs ∧ x.fresh = true ∧ x.changed = 0 ∧ x.partner = false
  running : armed e tkSwap p = true
  jobs : e.jobs = d.jobs

theorem SwapBegun.sent {p : Nat} {j : JobRef} {dirs : Nat} {d e f : Dev} (h : SwapBegun p j dirs d e) (k : SvcFrame e f) : SwapBegun p j dirs d f := by
  obtain ⟨⟨x, swap, job, named, fresh, changed, own⟩, running, jobs⟩ := h
  obtain ⟨t, kept⟩ := k.swap_some swap
  exact ⟨⟨_, kept, job, named, fresh, changed, own⟩, k.armed _ _ running, k.jobs.trans jobs⟩

theorem swapOf_setSwap (p : Nat) (x : Option Swap) (d : Dev) : swapOf (setSwap p x d) p = x := by
  have stored : swapOf (setSwap p x d) p = swapOf (modPort p (fun y => { y with swap := x }) d) p := rfl
  rw [stored, swapOf, port_modPort]

theorem SwapBegun.set {p : Nat} {x : Swap} (ns : Nat) (d : Dev) {j : JobRef} (hj : x.job = some j) (hf : x.fresh = true) (hc : x.changed = 0)
    (hp : x.partner = false) : SwapBegun p j x.dirs d (setSwap p (some x) (arm tkSwap p ns d)) where
  swap := ⟨x, swapOf_setSwap .., hj, rfl, hf, hc, hp⟩
  running := armed_arm tkSwap p ns d
  jobs := rfl

theorem beginSwap_begins {p : Nat} {j : JobRef} {dirs : Nat} {d : Dev} (hb : bitOf dirs 1 = true → (buildFor d p).isSome = true) :
    SwapBegun p j dirs d (beginSwap p j dirs true d) := by
  unfold beginSwap
  extract_lets stageTx stageRx base d0 rx d1 d2
  have built : ¬(bitOf dirs 1 = true ∧ rx.isNone = true) := fun h => by
    obtain ⟨named, empty⟩ := h
    have full := hb named
    simp [rx, named] at empty
    simp [empty] at full
  rw [if_pos rfl, if_neg built]
  have begun : SwapBegun p j dirs d d1 :=
    SwapBegun.set (x := { base with rx := rx, asked := if bitOf dirs 1 then [1] else [] }) (20 * nsPerMs) d rfl rfl rfl rfl
  have asked : SwapBegun p j dirs d d2 := by
    clear_value rx
    cases rx with
    | none => exact begun
    | some t => exact begun.sent (.sendTraining ..)
  split
  · exact asked.sent (.sendTraining ..)
  · exact asked

theorem reservedZero_one {ps : List Byte} {i : Nat} (h : byteAt ps i = 0) : reservedZero ps i 1 = true := by
  simp [reservedZero, leAt, h]

theorem takenDev_jobless {op : Nat} {r : Req} {s : State} (h : findJob s.dev ⟨r.master.val, r.tag.toNat⟩ = none) :
    findJob (takenDev op r s) (callRef (takenCall op r s)) = none := by
  rw [findJob, takenDev_jobs]
  exact h

theorem buildFor_takenDev (op : Nat) (r : Req) (s : State) (p : Nat) : buildFor (takenDev op r s) p = buildFor s.dev p :=
  buildFor_congr (takenDev_ports ..) (attr_takenDev op r s PORT_PARTNER_ABILITY p (by decide) (by decide) (by decide))
    (attr_takenDev op r s PORT_RATE_CAP p (by decide) (by decide) (by decide))
    (attr_takenDev op r s PRISM_SYMBOL_PERIOD _ (by decide) (by decide) (by decide))
    (attr_takenDev op r s PORT_TARGET_MARGIN p (by decide) (by decide) (by decide))

theorem loadingSwap_begins {r : Req} {s : State} (ht : Claims.Takes 0x34 r s) (hl : r.params.length = 4) (hp : byteAt r.params 0 ≤ 127)
    (h1 : 1 ≤ byteAt r.params 1) (h3 : byteAt r.params 1 ≤ 3) (hm : byteAt r.params 2 = 1) (h0 : byteAt r.params 3 = 0)
    (hc : attr s.dev PORT_STATE (byteAt r.params 0) = psCarry) (hs : swapOf s.dev (byteAt r.params 0) = none)
    (hq : (quiet s.dev (byteAt r.params 0)).entry = none) (hb : byteAt r.params 1 = 1 ∨ (buildFor s.dev (byteAt r.params 0)).isSome = true) :
    ∃ t x, exec (.loadingSwap r) s = .next t ∧ Claims.Replied 0x34 stAccepted r [] s t ∧ swapOf t.dev (byteAt r.params 0) = some x
      ∧ x.job = some ⟨r.master, r.tag.toNat⟩ ∧ x.dirs = byteAt r.params 1 ∧ x.fresh = true ∧ x.changed = 0 ∧ x.partner = false
      ∧ armed t.dev tkSwap (byteAt r.params 0) = true ∧ (findJob t.dev ⟨r.master, r.tag.toNat⟩).map (·.opcode) = some 0x34 ∧ t.mem = s.mem := by
  have free : ((swapOf (takenDev 0x34 r s) (byteAt r.params 0)).isNone && (port (takenDev 0x34 r s) (byteAt r.params 0)).quiet.entry.isNone) = true := by
    rw [swapOf, port_congr (takenDev_ports ..), Bool.and_eq_true]
    exact ⟨Option.isNone_iff_eq_none.2 hs, Option.isNone_iff_eq_none.2 hq⟩
  have body : bodyLoadingSwap s.mem (takenCall 0x34 r s) (takenDev 0x34 r s) = .accept [] (beginSwap (byteAt r.params 0) (callRef (takenCall 0x34 r s))
      (byteAt r.params 1) true (addJob (takenCall 0x34 r s) (takenDev 0x34 r s))) := by
    unfold bodyLoadingSwap
    dsimp only [takenCall]
    rw [need_of (by simp [hp, h1, h3, hm, reservedZero_one h0]), need_of (by rw [state_takenDev, hc]; rfl), need_of free, need_of (by simp [hm]),
      need_of (by simp [hm]), hm]
    rfl
  obtain ⟨⟨x, swap, job, named, fresh, changed, own⟩, running, jobs⟩ := beginSwap_begins (p := byteAt r.params 0) (j := callRef (takenCall 0x34 r s))
    (dirs := byteAt r.params 1) (d := addJob (takenCall 0x34 r s) (takenDev 0x34 r s)) (fun named => by
      have full : (buildFor s.dev (byteAt r.params 0)).isSome = true := hb.resolve_left fun one => by
        rw [one] at named
        exact absurd named (by decide)
      rw [← buildFor_takenDev 0x34 r s] at full
      exact full)
  obtain ⟨xs, answered, replied⟩ := issueOut_accept ht (by rw [hl]; decide) body
  obtain ⟨_, _, _, jobless, _⟩ := ht
  refine ⟨_, x, answered, replied, swap, job, named, fresh, changed, own, running, ?_, rfl⟩
  exact (congrArg (fun js => (js.find? fun y => y.ref == (⟨r.master, r.tag.toNat⟩ : JobRef)).map (·.opcode)) jobs).trans
    (findJob_addJob (takenDev_jobless jobless))

/-! ### CHORD_BIND (R162) -/

theorem steady_chord : Steady PORT_CHORD := ⟨by decide, by decide⟩

theorem setFlowEntry_attrs (p cls v : Nat) (d : Dev) : (setFlowEntry p cls v d).attrs = d.attrs := rfl
theorem setFlowEntry_chords (p cls v : Nat) (d : Dev) : (setFlowEntry p cls v d).chords = d.chords := rfl
theorem refreshSvc_chords (p : Nat) (d : Dev) : (refreshSvc p d).chords = d.chords := rfl
theorem resetAttr_chords (a : Attr) (p : Nat) (d : Dev) : (resetAttr a p d).chords = d.chords := rfl

theorem setChordState_attrs (c v : Nat) (d : Dev) : (setChordState c v d).attrs = d.attrs := rfl
theorem setChordState_chords (c v : Nat) (d : Dev) : (setChordState c v d).chords = d.chords := rfl

theorem enterChordFlows_attrs (c : Nat) (ps : List Nat) (bound : Bool) (d : Dev) : (enterChordFlows c ps bound d).attrs = d.attrs :=
  forAll_keeps Dev.attrs (fun _ _ => forAll_keeps Dev.attrs (fun _ _ => setFlowEntry_attrs ..) _ _) _ _

theorem enterChordFlows_chords (c : Nat) (ps : List Nat) (bound : Bool) (d : Dev) : (enterChordFlows c ps bound d).chords = d.chords :=
  forAll_keeps Dev.chords (fun _ _ => forAll_keeps Dev.chords (fun _ _ => setFlowEntry_chords ..) _ _) _ _

theorem forAll_refreshSvc_chords (ps : List Nat) (d : Dev) : (forAll ps refreshSvc d).chords = d.chords :=
  forAll_keeps Dev.chords refreshSvc_chords ps d

theorem chord_refreshSvc (ps : List Nat) (d : Dev) (p : Nat) : attr (forAll ps refreshSvc d) PORT_CHORD p = attr d PORT_CHORD p :=
  (LinkFrame.forAll (fun _ _ => .refreshSvc ..) ps d).attrs _ steady_chord p

/-- R162: the members of a chord numbered, one after the other. -/
def numberMembers (c : Nat) (l : List (Nat × Nat)) (d : Dev) : Dev :=
  l.foldl (fun e x => setAttr PORT_CHORD_MEMBER x.1 x.2 (setAttr PORT_CHORD x.1 c e)) d

theorem chord_numberMembers {c : Nat} (hc : c < 256) (l : List (Nat × Nat)) (d : Dev) {p : Nat} (h : p ∈ l.map Prod.fst ∨ attr d PORT_CHORD p = c) :
    attr (numberMembers c l d) PORT_CHORD p = c := by
  induction l generalizing d with
  | nil => exact h.resolve_left List.not_mem_nil
  | cons x l ih =>
    have member : ∀ e, attr (setAttr PORT_CHORD_MEMBER x.1 x.2 e) PORT_CHORD p = attr e PORT_CHORD p := fun e =>
      attr_setAttr_ne _ _ _ _ (by decide) (by decide) (by decide)
    refine ih _ ?_
    by_cases hx : p = x.1
    · rw [member, hx, attr_setAttr]
      exact .inr (Nat.mod_eq_of_lt hc)
    · rw [member, attr_setAttr_inst _ _ _ hx]
      exact h.imp_left fun named => (List.mem_cons.1 named).resolve_left hx

theorem numberMembers_chords (c : Nat) (l : List (Nat × Nat)) (d : Dev) : (numberMembers c l d).chords = d.chords :=
  foldl_keeps Dev.chords (fun _ _ => (setAttr_chords ..).trans (setAttr_chords ..)) l d

theorem bindChord_eq (c remote : Nat) (ps : List Nat) (d : Dev) : bindChord c remote ps d = setChordState c 1 (forAll ps refreshSvc
    (enterChordFlows c ps true (numberMembers c (ps.zip (List.range 4)) { d with chords := bankPut none d.chords c (some (ps, remote)) }))) := rfl

theorem bindChord_chords (c remote : Nat) (ps : List Nat) (d : Dev) : (bindChord c remote ps d).chords = bankPut none d.chords c (some (ps, remote)) := by
  rw [bindChord_eq]
  exact (setChordState_chords ..).trans ((forAll_refreshSvc_chords ..).trans ((enterChordFlows_chords ..).trans (numberMembers_chords ..)))

theorem chord_bindChord {c : Nat} (hc : c < 256) (remote : Nat) {ps : List Nat} (h4 : ps.length ≤ 4) (d : Dev) {p : Nat} (hp : p ∈ ps) :
    attr (bindChord c remote ps d) PORT_CHORD p = c := by
  have numbered : p ∈ (ps.zip (List.range 4)).map Prod.fst := by
    rw [List.map_fst_zip (by simpa using h4)]
    exact hp
  rw [bindChord_eq]
  refine (attr_congr (setChordState_attrs ..) ..).trans ((chord_refreshSvc ..).trans ((attr_congr (enterChordFlows_attrs ..) ..).trans ?_))
  exact chord_numberMembers hc _ _ (.inl numbered)

/-- R162: a chord unbound, before its clock and its service channels follow. -/
def loosened (c : Nat) (d : Dev) : Dev :=
  enterChordFlows c (chordPorts d c) false (forAll (chordPorts d c) (fun p e => resetAttrs [PORT_CHORD, PORT_CHORD_MEMBER] p e)
    { d with chords := bankPut none d.chords c none, clashed := d.clashed.filter (· != c) })

theorem loosened_chords (c : Nat) (d : Dev) : (loosened c d).chords = bankPut none d.chords c none :=
  (enterChordFlows_chords ..).trans (forAll_keeps Dev.chords (fun _ _ => (resetAttr_chords ..).trans (resetAttr_chords ..)) _ _)

theorem chord_loosened {c : Nat} {d : Dev} {p : Nat} (hp : p ∈ chordPorts d c) : attr (loosened c d) PORT_CHORD p = 0xFF := by
  have member : ∀ q r e, attr (resetAttrs [PORT_CHORD, PORT_CHORD_MEMBER] q e) PORT_CHORD r = attr (resetAttr PORT_CHORD q e) PORT_CHORD r := fun q r e =>
    attr_setAttr_ne _ _ _ _ (by decide) (by decide) (by decide)
  refine (attr_congr (enterChordFlows_attrs ..) ..).trans (forAll_sets (Done := fun q e => attr e PORT_CHORD q = 0xFF) (fun q e => ?_) (fun q r e h => ?_) _ _ p hp)
  · exact (member q q e).trans (attr_setAttr ..)
  · by_cases hr : r = q
    · rw [hr]
      exact (member q q e).trans (attr_setAttr ..)
    · exact (member q r e).trans ((attr_setAttr_inst _ _ _ hr).trans h)

/-- R27, R162: with the last clash gone, LATTICE.CLASH is cleared. -/
def declashed (c : Nat) (d : Dev) : Dev :=
  if (d.clashed.filter (· != c)).isEmpty then setAttr LATTICE_CLASH 0 0 (loosened c d) else loosened c d

theorem unbindChord_eq (c : Nat) (d : Dev) : unbindChord c d =
    forAll (chordPorts d c) refreshSvc (refreshClock (prismOf ((chordPorts d c).headD 0)) (setChordState c 0 (declashed c d))) := rfl

theorem refreshClock_chords (m : Nat) (d : Dev) : (refreshClock m d).chords = d.chords := by
  obtain ⟨_, _, h⟩ := refreshClock_eq m d
  rw [h]

theorem declashed_chords (c : Nat) (d : Dev) : (declashed c d).chords = (loosened c d).chords := by
  unfold declashed
  split
  · exact setAttr_chords ..
  · rfl

theorem chord_declashed (c : Nat) (d : Dev) (p : Nat) : attr (declashed c d) PORT_CHORD p = attr (loosened c d) PORT_CHORD p := by
  unfold declashed
  split
  · exact attr_setAttr_ne _ _ _ _ (by decide) (by decide) (by decide)
  · rfl

theorem unbindChord_chords (c : Nat) (d : Dev) : (unbindChord c d).chords = bankPut none d.chords c none := by
  rw [unbindChord_eq, forAll_refreshSvc_chords, refreshClock_chords, setChordState_chords, declashed_chords, loosened_chords]

theorem chord_unbindChord {c : Nat} {d : Dev} {p : Nat} (hp : p ∈ chordPorts d c) : attr (unbindChord c d) PORT_CHORD p = 0xFF := by
  rw [unbindChord_eq, chord_refreshSvc, (LinkFrame.refreshClock ..).attrs _ steady_chord, attr_congr (setChordState_attrs ..), chord_declashed,
    chord_loosened hp]

theorem latticeIndex_takenDev (op : Nat) (r : Req) (s : State) : attr (takenDev op r s) LATTICE_INDEX 0 = attr s.dev LATTICE_INDEX 0 :=
  attr_takenDev op r s _ 0 (by decide) (by decide) (by decide)

theorem chordPorts_takenDev (op : Nat) (r : Req) (s : State) (c : Nat) : chordPorts (takenDev op r s) c = chordPorts s.dev c := by
  rw [chordPorts, takenDev_chords]
  rfl

theorem chordBound_takenDev (op : Nat) (r : Req) (s : State) (c : Nat) : chordBound (takenDev op r s) c = chordBound s.dev c := by
  rw [chordBound, takenDev_chords]
  rfl

theorem hasUpstream_takenDev (op : Nat) (r : Req) (s : State) (m : Nat) : hasUpstream (takenDev op r s) m = hasUpstream s.dev m := by
  rw [hasUpstream, takenDev_chords, latticeIndex_takenDev]
  rfl

/-- R162: BIND. -/
theorem chordBind_binds {r : Req} {s : State} (ht : Claims.Takes 0x35 r s) (hl : r.params.length = 20) (hc : byteAt r.params 0 ≤ 31)
    (ha : byteAt r.params 1 = 0) (h7 : byteAt r.params 2 ≤ 7) (h0 : byteAt r.params 3 = 0) (hi : byteAt r.params 2 ≠ attr s.dev LATTICE_INDEX 0)
    (h2 : 2 ≤ (maskPorts r.params 4).length) (h4 : (maskPorts r.params 4).length ≤ 4)
    (hp : ∀ p ∈ maskPorts r.params 4, prismOf p = prismOf ((maskPorts r.params 4).headD 0) ∧ attr s.dev PORT_CHORD p = 0xFF ∧ attr s.dev PORT_STATE p = psDown)
    (hb : chordBound s.dev (byteAt r.params 0) = false)
    (hu : byteAt r.params 2 < attr s.dev LATTICE_INDEX 0 → hasUpstream s.dev (prismOf ((maskPorts r.params 4).headD 0)) = false) :
    ∃ t, exec (.chordBind r) s = .next t ∧ Claims.Replied 0x35 stOk r [] s t
      ∧ bankGet none t.dev.chords (byteAt r.params 0) = some (maskPorts r.params 4, byteAt r.params 2)
      ∧ (∀ p ∈ maskPorts r.params 4, attr t.dev PORT_CHORD p = byteAt r.params 0) ∧ t.mem = s.mem := by
  have chord : ∀ p, attr (takenDev 0x35 r s) PORT_CHORD p = attr s.dev PORT_CHORD p := fun p =>
    attr_takenDev _ _ _ _ _ (by decide) (by decide) (by decide)
  have aligned : (decide (2 ≤ (maskPorts r.params 4).length) && decide ((maskPorts r.params 4).length ≤ 4)
      && (maskPorts r.params 4).all (fun p => prismOf p == prismOf ((maskPorts r.params 4).headD 0))
      && byteAt r.params 2 != attr (takenDev 0x35 r s) LATTICE_INDEX 0) = true := by
    rw [latticeIndex_takenDev]
    simpa [h2, h4, hi] using fun p h => (hp p h).1
  have upstream : (decide (byteAt r.params 2 < attr s.dev LATTICE_INDEX 0) && hasUpstream s.dev (prismOf ((maskPorts r.params 4).headD 0))) = false := by
    by_cases h : byteAt r.params 2 < attr s.dev LATTICE_INDEX 0
    · rw [hu h, Bool.and_false]
    · simp [h]
  have free : (!chordBound (takenDev 0x35 r s) (byteAt r.params 0) && (maskPorts r.params 4).all (fun p => attr (takenDev 0x35 r s) PORT_CHORD p == 0xFF)
      && !(decide (byteAt r.params 2 < attr (takenDev 0x35 r s) LATTICE_INDEX 0)
        && hasUpstream (takenDev 0x35 r s) (prismOf ((maskPorts r.params 4).headD 0)))) = true := by
    rw [latticeIndex_takenDev, hasUpstream_takenDev, chordBound_takenDev, hb, upstream]
    simpa [chord] using fun p h => (hp p h).2.1
  have down : ((maskPorts r.params 4).all fun p => stateOf (takenDev 0x35 r s) p == psDown) = true := by
    simpa [stateOf, state_takenDev] using fun p h => (hp p h).2.2
  have body : bodyChordBind s.mem (takenCall 0x35 r s) (takenDev 0x35 r s)
      = .done [] (bindChord (byteAt r.params 0) (byteAt r.params 2) (maskPorts r.params 4) (takenDev 0x35 r s)) .keep := by
    unfold bodyChordBind
    dsimp only [takenCall]
    rw [need_of (by simp [hc, ha, h7, reservedZero_one h0]), if_neg (by rw [ha]; decide), need_of aligned, need_of free, need_of down]
    rfl
  obtain ⟨xs, answered, replied⟩ := issueOut_done ht (by rw [hl]; decide) body
  refine ⟨_, answered, replied, ?_, fun p h => chord_bindChord (by omega) _ h4 _ h, rfl⟩
  exact (congrArg (fun l => bankGet none l (byteAt r.params 0)) (bindChord_chords ..)).trans (bankGet_put_same ..)

/-- R162: UNBIND. -/
theorem chordBind_unbinds {r : Req} {s : State} (ht : Claims.Takes 0x35 r s) (hl : r.params.length = 20) (hc : byteAt r.params 0 ≤ 31)
    (ha : byteAt r.params 1 = 1) (h7 : byteAt r.params 2 ≤ 7) (h0 : byteAt r.params 3 = 0) (hb : chordBound s.dev (byteAt r.params 0) = true)
    (hp : ∀ p ∈ chordPorts s.dev (byteAt r.params 0), attr s.dev PORT_STATE p = psDown) :
    ∃ t, exec (.chordBind r) s = .next t ∧ Claims.Replied 0x35 stOk r [] s t ∧ chordBound t.dev (byteAt r.params 0) = false
      ∧ (∀ p ∈ chordPorts s.dev (byteAt r.params 0), attr t.dev PORT_CHORD p = 0xFF) ∧ t.mem = s.mem := by
  have down : ((chordPorts (takenDev 0x35 r s) (byteAt r.params 0)).all fun p => stateOf (takenDev 0x35 r s) p == psDown) = true := by
    rw [chordPorts_takenDev]
    simpa [stateOf, state_takenDev] using hp
  have body : bodyChordBind s.mem (takenCall 0x35 r s) (takenDev 0x35 r s) = .done [] (unbindChord (byteAt r.params 0) (takenDev 0x35 r s)) .keep := by
    unfold bodyChordBind
    dsimp only [takenCall]
    rw [need_of (by simp [hc, ha, h7, reservedZero_one h0]), if_pos ha, if_neg (by simp [chordBound_takenDev, hb]), need_of down]
    rfl
  obtain ⟨xs, answered, replied⟩ := issueOut_done ht (by rw [hl]; decide) body
  refine ⟨_, answered, replied, ?_, fun p h => chord_unbindChord (by rw [chordPorts_takenDev]; exact h), rfl⟩
  exact (congrArg (fun l => (bankGet none l (byteAt r.params 0)).isSome) (unbindChord_chords ..)).trans (congrArg Option.isSome (bankGet_put_same ..))

/-! ### PORT_QUIET (R420, R421) -/

theorem quiet_modQuiet (p : Nat) (g : QuietState → QuietState) (d : Dev) : quiet (modQuiet p g d) p = g (quiet d p) := by
  rw [quiet, modQuiet, port_modPort]
  rfl

theorem quiet_modQuiet_ne {p q : Nat} (h : q ≠ p) (g : QuietState → QuietState) (d : Dev) : quiet (modQuiet p g d) q = quiet d q := by
  rw [quiet, modQuiet, port_modPort_ne _ _ h]
  rfl

theorem quiet_congr {d e : Dev} (h : e.ports = d.ports) (q : Nat) : quiet e q = quiet d q := congrArg Port.quiet (port_congr h q)

/-- R421: QUIET_REQ moves the step of an entry, and neither begins nor ends one. -/
theorem entry_kickQuiet (p : Nat) (d : Dev) (q : Nat) : (quiet (kickQuiet p d) q).entry.isSome = (quiet d q).entry.isSome := by
  unfold kickQuiet
  split
  · split
    · rw [(SvcFrame.sendTraining ..).quiet, setQuietStep]
      by_cases hq : q = p
      · rw [hq, quiet_modQuiet, quiet_congr (setAttr_ports ..), Option.isSome_map]
      · rw [quiet_modQuiet_ne hq, quiet_congr (setAttr_ports ..)]
    · rfl
  · rfl

theorem jobs_kickQuiet (p : Nat) (d : Dev) : (kickQuiet p d).jobs = d.jobs := by
  unfold kickQuiet
  split
  · split
    · exact (SvcFrame.sendTraining ..).jobs
    · rfl
  · rfl

theorem entry_beginQuiet (dormant : Bool) (p : Nat) (d : Dev) : (quiet (beginQuiet dormant p d) p).entry.isSome = true := by
  unfold beginQuiet
  split
  case isTrue h => exact h
  case isFalse =>
    dsimp only
    rw [entry_kickQuiet, quiet_congr (arm_ports ..), quiet_congr (setAttr_ports ..), quiet_modQuiet]
    rfl

theorem entry_beginQuiet_ne (dormant : Bool) {p q : Nat} (hq : q ≠ p) (d : Dev) :
    (quiet (beginQuiet dormant p d) q).entry.isSome = (quiet d q).entry.isSome := by
  unfold beginQuiet
  split
  · rfl
  · dsimp only
    rw [entry_kickQuiet, quiet_congr (arm_ports ..), quiet_congr (setAttr_ports ..), quiet_modQuiet_ne hq]

theorem jobs_beginQuiet (dormant : Bool) (p : Nat) (d : Dev) : (beginQuiet dormant p d).jobs = d.jobs := by
  unfold beginQuiet
  split
  · rfl
  · exact (jobs_kickQuiet ..).trans rfl

theorem captureFailed_takenDev (op : Nat) (r : Req) (s : State) (p : Nat) : captureFailed (takenDev op r s) p = captureFailed s.dev p := by
  rw [captureFailed, takenDev_bist]
  rfl

theorem portQuiet_begins {r : Req} {s : State} (ht : Claims.Takes 0x32 r s) (hl : r.params.length = 20) (hm : maskPorts r.params 0 ≠ [])
    (h1 : byteAt r.params 16 ≤ 1) (h0 : leAt r.params 17 3 = 0)
    (hp : ∀ p ∈ maskPorts r.params 0, attr s.dev PORT_STATE p = psCarry ∧ captureFailed s.dev p = false
      ∧ bitOf (attr s.dev PORT_PARTNER_ABILITY p) (35 - byteAt r.params 16) = true) :
    ∃ t, exec (.portQuiet r) s = .next t ∧ Claims.Replied 0x32 stAccepted r [] s t
      ∧ (∀ p ∈ maskPorts r.params 0, (quiet t.dev p).entry.isSome = true)
      ∧ (findJob t.dev ⟨r.master, r.tag.toNat⟩).map (·.opcode) = some 0x32 ∧ t.mem = s.mem := by
  have able : ((maskPorts r.params 0).all fun p => stateOf (takenDev 0x32 r s) p == psCarry && !captureFailed (takenDev 0x32 r s) p
      && bitOf (attr (takenDev 0x32 r s) PORT_PARTNER_ABILITY p) (35 - byteAt r.params 16)) = true :=
    List.all_eq_true.2 fun p h => by
      obtain ⟨state, capture, ability⟩ := hp p h
      rw [stateOf, state_takenDev, captureFailed_takenDev, attr_takenDev _ _ _ PORT_PARTNER_ABILITY _ (by decide) (by decide) (by decide), state, capture,
        ability]
      rfl
  have body : bodyPortQuiet s.mem (takenCall 0x32 r s) (takenDev 0x32 r s) = .accept [] (forAll (maskPorts r.params 0)
      (beginQuiet (byteAt r.params 16 == 1)) (startMulti (takenCall 0x32 r s) (maskPorts r.params 0) (takenDev 0x32 r s))) := by
    unfold bodyPortQuiet
    dsimp only [takenCall]
    rw [need_of (by simp [hm, h1, h0, reservedZero]), need_of able]
  obtain ⟨xs, answered, replied⟩ := issueOut_accept ht (by rw [hl]; decide) body
  obtain ⟨_, _, _, jobless, _⟩ := ht
  refine ⟨_, answered, replied, fun p h => ?_, ?_, rfl⟩
  · refine forAll_sets (Done := fun q e => (quiet e q).entry.isSome = true) (entry_beginQuiet _) (fun p q e hd => ?_) _ _ p h
    by_cases hq : q = p
    · rw [hq]
      exact entry_beginQuiet ..
    · exact (entry_beginQuiet_ne _ hq e).trans hd
  · have jobs := forAll_keeps Dev.jobs (jobs_beginQuiet (byteAt r.params 16 == 1)) (maskPorts r.params 0)
      (startMulti (takenCall 0x32 r s) (maskPorts r.params 0) (takenDev 0x32 r s))
    exact (congrArg (fun js => (js.find? fun y => y.ref == (⟨r.master, r.tag.toNat⟩ : JobRef)).map (·.opcode)) jobs).trans
      (findJob_addJob (takenDev_jobless jobless))

/-! ### PORT_WAKE (R432) -/

theorem LinkFrame.startBurst (p : Nat) (d : Dev) : LinkFrame d (startBurst p d) :=
  .after (.when (fun _ => .setTx ..) ..) (.after (.modTx ..) (.modQuiet ..))

theorem wakePort_quiet {p : Nat} {d : Dev} (h : attr d PORT_STATE p = psQuiet) (i : Nat) :
    attr (wakePort p d) PORT_STATE i = if i = p then psCarry else attr d PORT_STATE i := by
  have burst := LinkFrame.startBurst p (setAttr PORT_QUIET_STATE p 0 (modQuiet p (fun _ => { decidedAt := d.elapsed + 1 }) d))
  rw [wakePort, stateOf, if_pos h, exitQuiet, state_after_change (stopTarget_carry ..) .carry, burst.attrs _ steady_portState,
    attr_setAttr_ne _ _ _ _ (by decide) (by decide) (by decide), attr_modQuiet]

theorem attr_startMulti (c : Call) (ps : List Nat) (d : Dev) (b : Attr) (i : Nat) : attr (startMulti c ps d) b i = attr d b i := rfl
theorem startMulti_ports (c : Call) (ps : List Nat) (d : Dev) : (startMulti c ps d).ports = d.ports := rfl

/-- The wakes of a PORT_WAKE, one for each port named. -/
def wokenPorts (r : Req) (s : State) : Dev :=
  forAll (maskPorts r.params 0) wakePort (startMulti (takenCall 0x33 r s) (maskPorts r.params 0) (takenDev 0x33 r s))

theorem portWake_accepts {r : Req} {s : State} (ht : Claims.Takes 0x33 r s) (hl : r.params.length = 16) (hm : maskPorts r.params 0 ≠ [])
    (hp : ∀ p ∈ maskPorts r.params 0, (attr s.dev PORT_STATE p = psQuiet ∨ attr s.dev PORT_STATE p = psDormant) ∧ pathOn s.dev p = true) :
    ∃ xs, exec (.portWake r) s = .next { s with dev := { wokenPorts r s with masters := xs } }
      ∧ Claims.Replied 0x33 stAccepted r [] s { s with dev := { wokenPorts r s with masters := xs } } := by
  have asleep : ((maskPorts r.params 0).all fun p => (stateOf (takenDev 0x33 r s) p == psQuiet || stateOf (takenDev 0x33 r s) p == psDormant)
      && pathOn (takenDev 0x33 r s) p) = true :=
    List.all_eq_true.2 fun p h => by
      obtain ⟨state, path⟩ := hp p h
      rw [stateOf, state_takenDev, pathOn_takenDev, path]
      rcases state with state | state
      · rw [state]; rfl
      · rw [state]; rfl
  have body : bodyPortWake s.mem (takenCall 0x33 r s) (takenDev 0x33 r s) = .accept [] (wokenPorts r s) := by
    unfold bodyPortWake
    dsimp only [takenCall]
    rw [need_of (by simpa using hm), need_of asleep]
    rfl
  exact issueOut_accept ht (by rw [hl]; decide) body

theorem portWake_quiet {r : Req} {s : State} (ht : Claims.Takes 0x33 r s) (hl : r.params.length = 16) (hm : maskPorts r.params 0 ≠ [])
    (hp : ∀ p ∈ maskPorts r.params 0, attr s.dev PORT_STATE p = psQuiet ∧ pathOn s.dev p = true) :
    ∃ t, exec (.portWake r) s = .next t ∧ Claims.Replied 0x33 stAccepted r [] s t
      ∧ (∀ p ∈ maskPorts r.params 0, attr t.dev PORT_STATE p = psCarry) ∧ t.mem = s.mem := by
  obtain ⟨xs, answered, replied⟩ := portWake_accepts ht hl hm fun p h => ⟨.inl (hp p h).1, (hp p h).2⟩
  refine ⟨_, answered, replied, fun p h => ?_, rfl⟩
  have states := states_forAll (R := (· = psQuiet)) (fun p e h => wakePort_quiet h) (maskPorts_nodup r.params 0)
    (startMulti (takenCall 0x33 r s) (maskPorts r.params 0) (takenDev 0x33 r s)) (fun q hq => (attr_startMulti ..).trans ((state_takenDev ..).trans (hp q hq).1)) p
  exact states.trans (if_pos h)

/-- R438: a port in DORMANT that may be woken, with no exit begun. -/
structure WakeReady (p : Nat) (e : Dev) : Prop where
  state : attr e PORT_STATE p = psDormant
  undecided : (quiet e p).decidedAt = 0

/-- R438: a port in DORMANT that has asked its partner to wake. -/
structure WakeAsked (p : Nat) (e : Dev) : Prop where
  state : attr e PORT_STATE p = psDormant
  asked : attr e PORT_QUIET_STATE p = 5

/-- R438: what an exit from DORMANT writes. -/
structure ExitBegun (p : Nat) (d e : Dev) : Prop where
  state : ∀ i, attr e PORT_STATE i = attr d PORT_STATE i
  quietState : ∀ i, attr e PORT_QUIET_STATE i = if i = p then 5 else attr d PORT_QUIET_STATE i
  others : ∀ q, q ≠ p → quiet e q = quiet d q

theorem quiet_modTx (p : Nat) (g : PortTx → PortTx) (d : Dev) (q : Nat) : quiet (modTx p g d) q = quiet d q := by
  by_cases h : q = p
  · rw [h, quiet, modTx, port_modPort]
    rfl
  · rw [quiet, modTx, port_modPort_ne _ _ h]
    rfl

theorem wakePort_dormant {p : Nat} {d : Dev} (h : WakeReady p d) : ExitBegun p d (wakePort p d) := by
  obtain ⟨state, undecided⟩ := h
  rw [wakePort, stateOf, if_neg (by rw [state]; decide), exitDormant, if_neg (fun hn => hn undecided)]
  extract_lets e d1 d2
  have woken : SvcFrame d1 d2 := .startWake ..
  exact {
    state := fun i => by
      rw [attr_arm, attr_modTx, woken.steady steady_portState, attr_modQuiet, attr_setAttr_ne _ _ _ _ (by decide) (by decide) (by decide),
        attr_setAttr_ne _ _ _ _ (by decide) (by decide) (by decide)]
    quietState := fun i => by
      rw [attr_arm, attr_modTx, woken.steady steady_quietState, attr_modQuiet]
      split
      case isTrue hi => rw [hi, attr_setAttr]; rfl
      case isFalse hi => rw [attr_setAttr_inst _ _ _ hi, attr_setAttr_ne _ _ _ _ (by decide) (by decide) (by decide)]
    others := fun q hq => by
      rw [quiet_congr (arm_ports ..), quiet_modTx, woken.quiet, quiet_modQuiet_ne hq, quiet_congr (setAttr_ports ..), quiet_congr (setAttr_ports ..)] }

theorem portWake_dormant {r : Req} {s : State} (ht : Claims.Takes 0x33 r s) (hl : r.params.length = 16) (hm : maskPorts r.params 0 ≠ [])
    (hp : ∀ p ∈ maskPorts r.params 0, attr s.dev PORT_STATE p = psDormant ∧ pathOn s.dev p = true ∧ (quiet s.dev p).decidedAt = 0) :
    ∃ t, exec (.portWake r) s = .next t ∧ Claims.Replied 0x33 stAccepted r [] s t
      ∧ (∀ p ∈ maskPorts r.params 0, attr t.dev PORT_STATE p = psDormant ∧ attr t.dev PORT_QUIET_STATE p = 5) ∧ t.mem = s.mem := by
  obtain ⟨xs, answered, replied⟩ := portWake_accepts ht hl hm fun p h => ⟨.inr (hp p h).1, (hp p h).2.1⟩
  have ready : ∀ p ∈ maskPorts r.params 0, WakeReady p (startMulti (takenCall 0x33 r s) (maskPorts r.params 0) (takenDev 0x33 r s)) := fun p h => by
    obtain ⟨state, _, undecided⟩ := hp p h
    exact ⟨by rw [attr_startMulti, state_takenDev, state], by rw [quiet_congr (startMulti_ports ..), quiet_congr (takenDev_ports ..), undecided]⟩
  refine ⟨_, answered, replied, fun p h => ?_, rfl⟩
  have woken : WakeAsked p (wokenPorts r s) := by
    refine forAll_done (fun p q e hq hr hs => ?ready) (fun p q e hq hr hd => ?done) (fun p e hr => ?step) (maskPorts_nodup r.params 0) ready p h
    all_goals obtain ⟨state, quietState, others⟩ := wakePort_dormant hr
    case ready => exact ⟨(state q).trans hs.state, by rw [others q hq, hs.undecided]⟩
    case done => exact ⟨(state q).trans hd.state, (quietState q).trans ((if_neg hq).trans hd.asked)⟩
    case step => exact ⟨(state p).trans hr.state, (quietState p).trans (if_pos rfl)⟩
  exact ⟨woken.state, woken.asked⟩

/-! ### The statement -/

/-- Settles O29, command by command. -/
theorem portCommands : Obligations.port_commands := by
  refine ⟨fun r s hm => ⟨portStart_starts hm, portStop_silences hm, portStop_waits hm, portRetrain_trains hm⟩,
    fun r s => ⟨loadingSwap_begins, chordBind_binds, chordBind_unbinds, portQuiet_begins, portWake_quiet, portWake_dormant⟩⟩

end Sys2Proof.Machine

namespace Sys2Proof.Machine

/-! ### The service channel of a port, read and written -/

@[simp] theorem svc_modSvc (p : Nat) (g : Svc → Svc) (d : Dev) : svc (modSvc p g d) p = g (svc d p) := by simp [svc]

theorem svc_congr {d e : Dev} (h : e.ports = d.ports) (p : Nat) : svc e p = svc d p := congrArg Port.svc (port_congr h p)

theorem svc_takenDev (op : Nat) (r : Req) (s : State) (p : Nat) : svc (takenDev op r s) p = svc s.dev p := svc_congr (takenDev_ports ..) p

/-! ### What a burst sent leaves of the channel of its port (R180 to R185) -/

/-- R198: a poll without its progress. -/
def pollOf (q : SvcPoll) : Nat × JobRef := (q.node, q.job)

/-- The messages queued and the nodes polled stand as before, a free receiver stays free, and of the attributes the port's count of bursts
sent alone moves. -/
structure BurstFrame (p : Nat) (d e : Dev) : Prop where
  queue : (svc e p).queue = (svc d p).queue
  polls : (svc e p).polls.map pollOf = (svc d p).polls.map pollOf
  rx : (svc d p).rx = none → (svc e p).rx = none
  attrs : KeepsOthers [(SVC_BURSTS_TX.code, p)] d e

namespace BurstFrame

variable {p : Nat} {d e f : Dev}

theorem refl (p : Nat) (d : Dev) : BurstFrame p d d := ⟨rfl, rfl, id, keepsOthers_of_attrs rfl⟩

/-- Transitivity with the later step first. -/
theorem after (k : BurstFrame p e f) (h : BurstFrame p d e) : BurstFrame p d f where
  queue := k.queue.trans h.queue
  polls := k.polls.trans h.polls
  rx := k.rx ∘ h.rx
  attrs := h.attrs.trans k.attrs

theorem ite {c : Prop} [Decidable c] {x y : Dev} (hx : BurstFrame p d x) (hy : BurstFrame p d y) : BurstFrame p d (if c then x else y) := by
  split
  · exact hx
  · exact hy

theorem of_svc (h : svc e p = svc d p) (ha : e.attrs = d.attrs) : BurstFrame p d e where
  queue := by rw [h]
  polls := by rw [h]
  rx free := by rw [h, free]
  attrs := keepsOthers_of_attrs ha

theorem modSvc {g : Svc → Svc} (d : Dev) (hq : ∀ x, (g x).queue = x.queue := by exact fun _ => rfl)
    (hp : ∀ x, (g x).polls.map pollOf = x.polls.map pollOf := by exact fun _ => rfl) (hr : ∀ x, x.rx = none → (g x).rx = none := by exact fun _ => id) :
    BurstFrame p d (modSvc p g d) where
  queue := by rw [svc_modSvc, hq]
  polls := by rw [svc_modSvc, hp]
  rx free := by rw [svc_modSvc, hr _ free]
  attrs := keepsOthers_of_attrs rfl

theorem modPeer (p n : Nat) (g : SvcPeer → SvcPeer) (d : Dev) : BurstFrame p d (modPeer p n g d) := modSvc d

theorem arm (p k i ns : Nat) (d : Dev) : BurstFrame p d (arm k i ns d) := of_svc rfl rfl

theorem disarm (p k i : Nat) (d : Dev) : BurstFrame p d (disarm k i d) := of_svc rfl rfl

theorem putBurst (p : Nat) (h : Head) (payload : List Byte) (d : Dev) : BurstFrame p d (putBurst p h payload d) := by
  have counted : ∀ e : Dev, BurstFrame p e (bump SVC_BURSTS_TX p 1 e) := fun _ => ⟨rfl, rfl, id, keepsOthers_setAttr _ _ (by decide) (by simp)⟩
  exact after (arm ..) (after (counted _) (modSvc d (hr := fun _ _ => rfl)))

theorem loadFragment (p n : Nat) (d : Dev) : BurstFrame p d (loadFragment p n d) := by
  unfold Machine.loadFragment
  split
  · exact refl p d
  · split
    · exact modPeer ..
    · exact refl p d

theorem noteSwapAt (p : Nat) (x : SvcFragment) (ns : Nat) (d : Dev) : BurstFrame p d (noteSwapAt p x ns d) := by
  unfold Machine.noteSwapAt
  exact ite (of_svc (by rw [svc, port_modPort]; rfl) rfl) (refl p d)

theorem burstFor (p n : Nat) (d : Dev) : BurstFrame p d (burstFor p n d) := by
  unfold Machine.burstFor
  extract_lets d0 x ctrl ack d1 more base
  have begun : BurstFrame p d d1 := after (modPeer ..) (loadFragment ..)
  split
  · refine ite ?_ (after (putBurst ..) begun)
    exact after (noteSwapAt ..) (after (arm ..) (after (putBurst ..) (after (modPeer ..) begun)))
  · exact after (putBurst ..) begun

/-- R198: a grant counted is the poll's progress. -/
theorem countGrant (p n : Nat) (d : Dev) : BurstFrame p d (countGrant p n d) := by
  refine modSvc d (hp := fun x => ?_)
  rw [List.map_map]
  refine List.map_congr_left fun q _ => ?_
  simp only [Function.comp_apply]
  split
  · rfl
  · rfl

theorem svcKick (p : Nat) (d : Dev) : BurstFrame p d (svcKick p d) := by
  unfold Machine.svcKick
  refine ite (refl p d) ?_
  split
  · split
    · exact after (arm ..) (after (modSvc _) (after (burstFor ..) (countGrant ..)))
    · exact refl p d
  · exact ite (ite (after (burstFor ..) (modSvc _)) (after (putBurst ..) (after (modSvc _) (modSvc _)))) (refl p d)
  · exact refl p d

/-- Every attribute but the count of bursts sent and the counts of events stands as before. -/
theorem attr_other (h : BurstFrame p d e) {b : Attr} (hb : b.code < 2 ^ 24) (hc : ¬Claims.counting b) (hn : b.code ≠ SVC_BURSTS_TX.code) (i : Nat) :
    attr e b i = attr d b i := h.attrs b i hb hc fun hm => hn (congrArg Prod.fst (List.mem_singleton.1 hm))

end BurstFrame

/-- A frame holds with more attributes named. -/
theorem KeepsOthers.weaken {l m : List (Nat × Nat)} {d e : Dev} (h : KeepsOthers l d e) (hs : ∀ x ∈ l, x ∈ m) : KeepsOthers m d e :=
  fun b j hb hc hn => h b j hb hc fun hx => hn (hs _ hx)

/-! ### SVC_SEND (R196) -/

theorem reservedZero_of {ps : List Byte} {i n : Nat} (h : leAt ps i n = 0) : reservedZero ps i n = true := by simp [reservedZero, h]

/-- R187: SVC.TX_QUEUE tells how many messages wait. -/
theorem attr_refreshSvc_txQueue {p : Nat} {d : Dev} (h : (svc d p).queue.length < 256) :
    attr (refreshSvc p d) SVC_TX_QUEUE p = (svc d p).queue.length := by
  unfold refreshSvc
  dsimp only
  rw [attr_setAttr_ne _ _ _ _ (by decide) (by decide) (by decide), attr_setAttr_ne _ _ _ _ (by decide) (by decide) (by decide), attr_setAttr]
  exact Nat.mod_eq_of_lt h

/-- R187: SVC.RX_QUEUE tells how many messages SVC_RECV can take. -/
theorem attr_refreshSvc_rxQueue {p : Nat} {d : Dev} (h : (svc d p).received.length < 256) :
    attr (refreshSvc p d) SVC_RX_QUEUE p = (svc d p).received.length := by
  unfold refreshSvc
  dsimp only
  rw [attr_setAttr_ne _ _ _ _ (by decide) (by decide) (by decide), attr_setAttr]
  exact Nat.mod_eq_of_lt h

theorem svc_refreshSvc (p : Nat) (d : Dev) (q : Nat) : svc (refreshSvc p d) q = svc d q := rfl

/-- R196: the message that SVC_SEND queues. -/
def sentMessage (c : Call) (d : Dev) : SvcMsg :=
  ⟨byteAt c.params 1, hostClass (byteAt c.params 1), d.msgId, c.params.drop 4, 0, some (callRef c), (svc d (byteAt c.params 0)).arrivals⟩

/-- R196: the block with a message queued, before the burst that it may start. -/
def messageQueued (c : Call) (d : Dev) : Dev :=
  refreshSvc (byteAt c.params 0) (modSvc (byteAt c.params 0) (fun x => { x with queue := x.queue ++ [sentMessage c d] })
    (addJob c { (nextArrival (byteAt c.params 0) d).2 with msgId := (d.msgId + 1) % 65536 }))

/-- R196: where and in which states of its port a node is served. -/
def sendServed (d : Dev) (p n : Nat) : Prop :=
  (n = 0 ∧ (attr d PORT_STATE p = psTrain ∨ attr d PORT_STATE p = psCarry) ∧ bitOf (attr d PORT_PARTNER_ABILITY p) 33 = true)
    ∨ (1 ≤ n ∧ n ≤ 4 ∧ attr d PORT_STATE p ∈ [psListen, psNegotiate, psTrain, psCarry])

theorem bodySvcSend_accepts {mem : List Host.Cell} {c : Call} {d : Dev} (h5 : 5 ≤ c.params.length) (hl : c.params.length ≤ 1004)
    (hp : byteAt c.params 0 ≤ 127) (h0 : leAt c.params 2 2 = 0) (hs : sendServed d (byteAt c.params 0) (byteAt c.params 1))
    (hq : (svc d (byteAt c.params 0)).queue.length < 4) :
    bodySvcSend mem c d = .accept (toLE d.msgId 2) (svcKick (byteAt c.params 0) (messageQueued c d)) := by
  have long : ¬c.params.length ≤ 4 := by omega
  have short : c.params.length - 4 ≤ 1000 := by omega
  have node : byteAt c.params 1 ≤ 4 := by
    rcases hs with ⟨hn, _⟩ | ⟨_, hn, _⟩
    · omega
    · exact hn
  have served : (if byteAt c.params 1 = 0 then
        (stateOf d (byteAt c.params 0) == psTrain || stateOf d (byteAt c.params 0) == psCarry) && bitOf (attr d PORT_PARTNER_ABILITY (byteAt c.params 0)) 33
      else stateOf d (byteAt c.params 0) == psListen || stateOf d (byteAt c.params 0) == psNegotiate || stateOf d (byteAt c.params 0) == psTrain
        || stateOf d (byteAt c.params 0) == psCarry) = true := by
    rcases hs with ⟨hn, state, able⟩ | ⟨hn, _, state⟩
    · rw [if_pos hn, able]
      simpa [stateOf] using state
    · rw [if_neg (by omega)]
      simpa [stateOf, or_assoc] using state
  unfold bodySvcSend
  dsimp only
  rw [need_of (by simp [hp, node, reservedZero_of h0, short, long]), need_of served, need_of (by simpa using hq)]
  rfl

theorem queue_nextArrival (p : Nat) (d : Dev) : (svc (nextArrival p d).2 p).queue = (svc d p).queue := by
  rw [nextArrival, svc_modSvc]

theorem queue_messageQueued (c : Call) (d : Dev) :
    (svc (messageQueued c d) (byteAt c.params 0)).queue = (svc d (byteAt c.params 0)).queue ++ [sentMessage c d] := by
  rw [messageQueued, svc_refreshSvc, svc_modSvc]
  exact congrArg (· ++ [sentMessage c d]) (queue_nextArrival ..)

theorem mem_messageQueued (c : Call) (d : Dev) : sentMessage c d ∈ (svc (messageQueued c d) (byteAt c.params 0)).queue := by
  rw [queue_messageQueued]
  exact List.mem_append_right _ List.mem_cons_self

theorem attr_messageQueued_txQueue {c : Call} {d : Dev} (hq : (svc d (byteAt c.params 0)).queue.length < 4) :
    attr (messageQueued c d) SVC_TX_QUEUE (byteAt c.params 0) = (svc d (byteAt c.params 0)).queue.length + 1 := by
  have length : (svc (messageQueued c d) (byteAt c.params 0)).queue.length = (svc d (byteAt c.params 0)).queue.length + 1 := by
    rw [queue_messageQueued, List.length_append]
    rfl
  rw [messageQueued, svc_refreshSvc] at length
  rw [messageQueued, attr_refreshSvc_txQueue (by omega), length]

/-- R196. -/
theorem svcSend_queues {r : Req} {s : State} (ht : Claims.Takes 0xA0 r s) (h5 : 5 ≤ r.params.length) (hl : r.params.length ≤ 1004)
    (hp : byteAt r.params 0 ≤ 127) (h0 : leAt r.params 2 2 = 0) (hs : sendServed s.dev (byteAt r.params 0) (byteAt r.params 1))
    (hq : (svc s.dev (byteAt r.params 0)).queue.length < 4) :
    ∃ t, exec (.svcSend r) s = .next t ∧ Claims.Replied 0xA0 stAccepted r (toLE s.dev.msgId 2) s t
      ∧ (∃ m ∈ (svc t.dev (byteAt r.params 0)).queue, m.node = byteAt r.params 1 ∧ m.bytes = r.params.drop 4 ∧ m.id = s.dev.msgId)
      ∧ attr t.dev SVC_TX_QUEUE (byteAt r.params 0) = (svc s.dev (byteAt r.params 0)).queue.length + 1
      ∧ (findJob t.dev ⟨r.master, r.tag.toNat⟩).map (·.opcode) = some 0xA0 ∧ t.mem = s.mem := by
  have served : sendServed (takenDev 0xA0 r s) (byteAt r.params 0) (byteAt r.params 1) := by
    rw [sendServed, state_takenDev, attr_takenDev _ _ _ PORT_PARTNER_ABILITY _ (by decide) (by decide) (by decide)]
    exact hs
  have queued : ∃ e, bodySvcSend s.mem (takenCall 0xA0 r s) (takenDev 0xA0 r s) = .accept (toLE s.dev.msgId 2) e
      ∧ SvcFrame (messageQueued (takenCall 0xA0 r s) (takenDev 0xA0 r s)) e
      ∧ BurstFrame (byteAt r.params 0) (messageQueued (takenCall 0xA0 r s) (takenDev 0xA0 r s)) e := by
    rw [← takenDev_msgId 0xA0 r s]
    exact ⟨_, bodySvcSend_accepts h5 hl hp h0 served (by rw [svc_takenDev]; exact hq), .svcKick .., .svcKick ..⟩
  obtain ⟨e, body, sent, kicked⟩ := queued
  have waits : sentMessage (takenCall 0xA0 r s) (takenDev 0xA0 r s) ∈ (svc e (byteAt r.params 0)).queue := by
    rw [kicked.queue]
    exact mem_messageQueued ..
  have counted : attr e SVC_TX_QUEUE (byteAt r.params 0) = (svc s.dev (byteAt r.params 0)).queue.length + 1 := by
    rw [kicked.attr_other (by decide) (by unfold Claims.counting; decide) (by decide), ← svc_takenDev 0xA0 r s]
    exact attr_messageQueued_txQueue (c := takenCall 0xA0 r s) (by rw [svc_takenDev]; exact hq)
  obtain ⟨xs, answered, replied⟩ := issueOut_accept ht ⟨by change 4 ≤ _; omega, by change _ ≤ 1024; omega⟩ body
  obtain ⟨_, _, _, jobless, _⟩ := ht
  refine ⟨_, answered, replied, ⟨_, waits, rfl, rfl, takenDev_msgId 0xA0 r s⟩, counted, ?_, rfl⟩
  refine (congrArg (fun js => (js.find? fun y => y.ref == (⟨r.master, r.tag.toNat⟩ : JobRef)).map (·.opcode)) sent.jobs).trans ?_
  exact findJob_addJob (takenDev_jobless jobless)

/-! ### SVC_RECV (R197) -/

theorem recvPort_takenDev (op : Nat) (r : Req) (s : State) (p : Nat) : recvPort (takenDev op r s) p = recvPort s.dev p := by
  rw [recvPort, svc_takenDev, takenDev_ports]
  rfl

theorem recvPort_of_waiting {d : Dev} {p : Nat} {m : SvcReceived} {ms : List SvcReceived} (hp : p ≤ 127) (hm : (svc d p).received = m :: ms) :
    recvPort d p = some p := by
  rw [recvPort, if_pos (by omega), hm]
  rfl

theorem svcRecv_finds_none {r : Req} {s : State} (ht : Claims.Takes 0xA1 r s) (hl : r.params.length = 4) (h0 : leAt r.params 1 3 = 0)
    (hp : byteAt r.params 0 ≤ 127 ∨ byteAt r.params 0 = 0xFF) (hn : recvPort s.dev (byteAt r.params 0) = none) :
    ∃ t, exec (.svcRecv r) s = .next t ∧ Claims.Replied 0xA1 stOk r [] s t ∧ Claims.KeepsAttrs [] s t ∧ Claims.KeepsUnits s t := by
  have body : bodySvcRecv s.mem (takenCall 0xA1 r s) (takenDev 0xA1 r s) = .done [] (takenDev 0xA1 r s) .keep := by
    unfold bodySvcRecv
    dsimp only [takenCall]
    rw [need_of (by simpa [reservedZero_of h0] using hp), recvPort_takenDev, hn]
    rfl
  obtain ⟨took, hf, owner, free, room⟩ := ht
  have done := issue_done took hf owner free room (by rw [hl]; decide) body
  obtain ⟨xs, answered, replied⟩ := replied_answer (op := 0xA1) (s := s) hf stOk [] (takenDev 0xA1 r s)
  refine ⟨_, congrArg Host.Outcome.next done, ?_, keepsAttrs_answer (fun _ _ _ _ _ => rfl), keepsUnits_answer ⟨_, _, _, rfl⟩⟩
  rw [answered]
  exact replied

/-- R197: the result of SVC_RECV. -/
def recvResult (p : Nat) (m : SvcReceived) (ms : List SvcReceived) : List Byte :=
  [byteOf p, byteOf m.node, byteOf m.tclass, byteOf (bitNat (!ms.isEmpty))] ++ toLE m.bytes.length 2 ++ toLE m.time 6 ++ m.bytes

/-- R187, R197: the block once the oldest message of a port has been taken. -/
def messageTaken (p : Nat) (ms : List SvcReceived) (d : Dev) : Dev :=
  refreshSvc p (modSvc p (fun x => { x with received := ms, fullRaised := false }) d)

theorem received_messageTaken (p : Nat) (ms : List SvcReceived) (d : Dev) : (svc (messageTaken p ms d) p).received = ms := by
  rw [messageTaken, svc_refreshSvc, svc_modSvc]

theorem attr_messageTaken_rxQueue {ms : List SvcReceived} (p : Nat) (d : Dev) (hs : ms.length < 256) :
    attr (messageTaken p ms d) SVC_RX_QUEUE p = ms.length := by
  rw [messageTaken, attr_refreshSvc_rxQueue (by rwa [svc_modSvc]), svc_modSvc]

theorem bodySvcRecv_takes {mem : List Host.Cell} {c : Call} {d : Dev} {m : SvcReceived} {ms : List SvcReceived} (h0 : leAt c.params 1 3 = 0)
    (hp : byteAt c.params 0 ≤ 127) (hm : (svc d (byteAt c.params 0)).received = m :: ms) :
    bodySvcRecv mem c d = .done (recvResult (byteAt c.params 0) m ms) (messageTaken (byteAt c.params 0) ms d) .keep := by
  unfold bodySvcRecv
  dsimp only
  rw [need_of (by simp [hp, reservedZero_of h0]), recvPort_of_waiting hp hm]
  dsimp only
  rw [hm]
  rfl

theorem svcRecv_takes {r : Req} {s : State} (ht : Claims.Takes 0xA1 r s) (hl : r.params.length = 4) (h0 : leAt r.params 1 3 = 0)
    (m : SvcReceived) (ms : List SvcReceived) (hp : byteAt r.params 0 ≤ 127) (hm : (svc s.dev (byteAt r.params 0)).received = m :: ms)
    (hs : ms.length < 256) :
    ∃ t, exec (.svcRecv r) s = .next t ∧ (svc t.dev (byteAt r.params 0)).received = ms ∧ attr t.dev SVC_RX_QUEUE (byteAt r.params 0) = ms.length
      ∧ Claims.Replied 0xA1 stOk r (recvResult (byteAt r.params 0) m ms) s t ∧ t.mem = s.mem := by
  obtain ⟨e, body, taken, left⟩ : ∃ e, bodySvcRecv s.mem (takenCall 0xA1 r s) (takenDev 0xA1 r s) = .done (recvResult (byteAt r.params 0) m ms) e .keep
      ∧ (svc e (byteAt r.params 0)).received = ms ∧ attr e SVC_RX_QUEUE (byteAt r.params 0) = ms.length :=
    ⟨_, bodySvcRecv_takes (c := takenCall 0xA1 r s) h0 hp (by rw [svc_takenDev]; exact hm), received_messageTaken .., attr_messageTaken_rxQueue _ _ hs⟩
  obtain ⟨xs, answered, replied⟩ := issueOut_done ht (by rw [hl]; decide) body
  exact ⟨_, answered, taken, left, replied, rfl⟩

/-! ### SEGMENT_POLL (R198) -/

/-- R198: the block with a poll begun, before the burst that it may start. -/
def pollBegun (c : Call) (d : Dev) : Dev :=
  modSvc (byteAt c.params 0)
    (fun x => { x with polls := x.polls ++ [⟨byteAt c.params 1, callRef c, 0, 0, false, false, (svc d (byteAt c.params 0)).arrivals⟩] })
    (addJob c (nextArrival (byteAt c.params 0) d).2)

theorem mem_pollBegun (c : Call) (d : Dev) : (byteAt c.params 1, callRef c) ∈ (svc (pollBegun c d) (byteAt c.params 0)).polls.map pollOf := by
  rw [pollBegun, svc_modSvc, List.map_append]
  exact List.mem_append_right _ List.mem_cons_self

theorem bodySegmentPoll_accepts {mem : List Host.Cell} {c : Call} {d : Dev} (hp : byteAt c.params 0 ≤ 127) (h1 : 1 ≤ byteAt c.params 1)
    (h4 : byteAt c.params 1 ≤ 4) (h0 : leAt c.params 2 2 = 0)
    (hs : attr d PORT_STATE (byteAt c.params 0) ∈ [psListen, psNegotiate, psTrain, psCarry])
    (hq : ∀ q ∈ (svc d (byteAt c.params 0)).polls, q.node ≠ byteAt c.params 1) :
    bodySegmentPoll mem c d = .accept [] (svcKick (byteAt c.params 0) (pollBegun c d)) := by
  unfold bodySegmentPoll
  dsimp only
  rw [need_of (by simp [hp, h1, h4, reservedZero_of h0]), need_of (by simpa [stateOf, or_assoc] using hs), need_of (by simpa using hq)]
  rfl

theorem segmentPoll_begins {r : Req} {s : State} (ht : Claims.Takes 0xA2 r s) (hl : r.params.length = 4) (hp : byteAt r.params 0 ≤ 127)
    (h1 : 1 ≤ byteAt r.params 1) (h4 : byteAt r.params 1 ≤ 4) (h0 : leAt r.params 2 2 = 0)
    (hs : attr s.dev PORT_STATE (byteAt r.params 0) ∈ [psListen, psNegotiate, psTrain, psCarry])
    (hq : ∀ q ∈ (svc s.dev (byteAt r.params 0)).polls, q.node ≠ byteAt r.params 1) :
    ∃ t, exec (.segmentPoll r) s = .next t ∧ Claims.Replied 0xA2 stAccepted r [] s t
      ∧ (∃ q ∈ (svc t.dev (byteAt r.params 0)).polls, q.node = byteAt r.params 1 ∧ q.job = ⟨r.master, r.tag.toNat⟩) ∧ t.mem = s.mem := by
  obtain ⟨e, body, kicked⟩ : ∃ e, bodySegmentPoll s.mem (takenCall 0xA2 r s) (takenDev 0xA2 r s) = .accept [] e
      ∧ BurstFrame (byteAt r.params 0) (pollBegun (takenCall 0xA2 r s) (takenDev 0xA2 r s)) e :=
    ⟨_, bodySegmentPoll_accepts hp h1 h4 h0 (by rw [state_takenDev]; exact hs) (by rw [svc_takenDev]; exact hq), .svcKick ..⟩
  have polled : (byteAt r.params 1, (⟨r.master, r.tag.toNat⟩ : JobRef)) ∈ (svc e (byteAt r.params 0)).polls.map pollOf := by
    rw [kicked.polls]
    exact mem_pollBegun (takenCall 0xA2 r s) _
  obtain ⟨q, stands, same⟩ := List.mem_map.1 polled
  obtain ⟨xs, answered, replied⟩ := issueOut_accept ht (by rw [hl]; decide) body
  exact ⟨_, answered, replied, ⟨q, stands, congrArg Prod.fst same, congrArg Prod.snd same⟩, rfl⟩

/-! ### The statement -/

/-- Settles O36, command by command. -/
theorem svcCommands : Obligations.svc_commands := fun _ _ =>
  ⟨svcSend_queues, fun ht hl h0 => ⟨svcRecv_finds_none ht hl h0, svcRecv_takes ht hl h0⟩, segmentPoll_begins⟩

/-! ### What a port that turns to LISTEN or NEGOTIATE leaves alone (R132, R191) -/

/-- What a port that goes to LISTEN or NEGOTIATE outside CARRY writes: of what its upkeep writes, the nodes present stand (R191). -/
def turnAttrs : List Attr :=
  [PORT_STATE, PORT_PARTNER_LOSSES, PORT_LAST_FAIL] ++ upkeepAttrs.filter fun a => a.code != SVC_NODE_PRESENT.code

theorem turnAttrs_code_lt : ∀ c ∈ turnAttrs.map Attr.code, c < 2 ^ 24 := by decide

/-- None of these attributes differs. -/
structure TurnFrame (d e : Dev) : Prop where
  attrs : ∀ b : Attr, b.code < 2 ^ 24 → b.code ∉ turnAttrs.map Attr.code → ∀ i, attr e b i = attr d b i

namespace TurnFrame

variable {d e f : Dev}

theorem of_attrs (h : e.attrs = d.attrs) : TurnFrame d e := ⟨fun b _ _ i => attr_congr h b i⟩

theorem of_all (h : ∀ b i, attr e b i = attr d b i) : TurnFrame d e := ⟨fun b _ _ i => h b i⟩

theorem refl (d : Dev) : TurnFrame d d := of_attrs rfl

/-- Transitivity with the later step first, in the order in which the model writes its steps. -/
theorem after (k : TurnFrame e f) (h : TurnFrame d e) : TurnFrame d f := ⟨fun b hb hn i => (k.attrs b hb hn i).trans (h.attrs b hb hn i)⟩

theorem ite {c : Prop} [Decidable c] {x y : Dev} (hx : TurnFrame d x) (hy : TurnFrame d y) : TurnFrame d (if c then x else y) := by
  split
  · exact hx
  · exact hy

theorem when {g : Dev → Dev} (h : ∀ e, TurnFrame e (g e)) (c : Bool) (d : Dev) : TurnFrame d (when c g d) := ite (h d) (refl d)

theorem foldl {α : Type} {g : Dev → α → Dev} (h : ∀ e x, TurnFrame e (g e x)) (l : List α) (d : Dev) : TurnFrame d (l.foldl g d) :=
  ⟨fun b hb hn i => attr_foldl (fun e x => (h e x).attrs b hb hn i) l d⟩

theorem forAll {g : Nat → Dev → Dev} (h : ∀ k e, TurnFrame e (g k e)) (l : List Nat) (d : Dev) : TurnFrame d (forAll l g d) :=
  foldl (fun e k => h k e) l d

theorem setAttr {a : Attr} (ha : a.code ∈ turnAttrs.map Attr.code) (i v : Nat) (d : Dev) : TurnFrame d (setAttr a i v d) :=
  ⟨fun _ hb hn j => attr_setAttr_ne i v j d (fun h => hn (by rwa [h])) (turnAttrs_code_lt _ ha) hb⟩

theorem resetAttrs {as : List Attr} (ha : ∀ a ∈ as, a.code ∈ turnAttrs.map Attr.code) (p : Nat) (d : Dev) : TurnFrame d (resetAttrs as p d) := by
  induction as generalizing d with
  | nil => exact refl d
  | cons a as ih => exact after (ih (fun x hx => ha x (List.mem_cons_of_mem a hx)) _) (setAttr (ha a List.mem_cons_self) p _ d)

theorem arm (k i n : Nat) (d : Dev) : TurnFrame d (arm k i n d) := of_attrs rfl
theorem disarm (k i : Nat) (d : Dev) : TurnFrame d (disarm k i d) := of_attrs rfl
theorem setBlock (a : Attr) (i : Nat) (bs : List Byte) (d : Dev) : TurnFrame d (setBlock a i bs d) := of_attrs rfl
theorem setNextSlot (p k v : Nat) (d : Dev) : TurnFrame d (setNextSlot p k v d) := of_attrs rfl
theorem holdCoefficients (q : Nat) (d : Dev) : TurnFrame d (holdCoefficients q d) := arm ..
theorem modPrism (m : Nat) (g : Prism → Prism) (d : Dev) : TurnFrame d (modPrism m g d) := of_attrs rfl
theorem modPort (p : Nat) (g : Port → Port) (d : Dev) : TurnFrame d (modPort p g d) := of_attrs rfl
theorem modRx (p : Nat) (g : PortRx → PortRx) (d : Dev) : TurnFrame d (modRx p g d) := of_attrs rfl
theorem modTx (p : Nat) (g : PortTx → PortTx) (d : Dev) : TurnFrame d (modTx p g d) := of_attrs rfl
theorem modSvc (p : Nat) (g : Svc → Svc) (d : Dev) : TurnFrame d (modSvc p g d) := of_attrs rfl
theorem modQuiet (p : Nat) (g : QuietState → QuietState) (d : Dev) : TurnFrame d (modQuiet p g d) := of_attrs rfl
theorem modRecast (p : Nat) (g : Recast → Recast) (d : Dev) : TurnFrame d (modRecast p g d) := of_attrs rfl

/-! #### Events and completions -/

theorem noEvent {b : Attr} (hb : b.code < 2 ^ 24) (hn : b.code ∉ turnAttrs.map Attr.code) : noEventAttr b :=
  ⟨hb, fun h => hn (by rw [h]; decide), fun h => hn (by rw [h]; decide), fun h => hn (by rw [h]; decide)⟩

theorem raise (cls inst type detail : Nat) (d : Dev) : TurnFrame d (raise cls inst type detail d) :=
  ⟨fun b hb hn i => attr_raise cls inst type detail d b i (noEvent hb hn)⟩

theorem complete (j : JobRef) (cls inst type status : Nat) (result : List Byte) (d : Dev) : TurnFrame d (complete j cls inst type status result d) :=
  ⟨fun b hb hn i => attr_complete j cls inst type status result d b i (noEvent hb hn)⟩

theorem completeOpt (j : Option JobRef) (cls inst type status : Nat) (result : List Byte) (d : Dev) :
    TurnFrame d (completeOpt j cls inst type status result d) := by
  unfold Machine.completeOpt
  split
  · exact complete ..
  · exact refl d

theorem portEnded (op p : Nat) (ok : Bool) (cause : Nat) (d : Dev) : TurnFrame d (portEnded op p ok cause d) := by
  refine after (foldl (fun e x => ?_) ..) (of_attrs rfl)
  unfold finishMulti
  split
  · exact refl e
  · exact ite (complete ..) (ite (complete ..) (complete ..))

/-! #### Surveys and ramps (R81 to R85) -/

theorem startRamp (p : Nat) (d : Dev) : TurnFrame d (startRamp p d) := by
  unfold Machine.startRamp
  exact after (disarm ..) (after (forAll (fun _ _ => after (disarm ..) (after (setNextSlot ..) (modRx ..))) ..) (after (modPrism ..) (setAttr (by decide) ..)))

theorem nextRamp (m : Nat) (d : Dev) : TurnFrame d (nextRamp m d) := by
  unfold Machine.nextRamp
  split
  · exact refl d
  · exact ite (refl d) (after (of_all fun _ _ => attr_settleRamp ..) (after (startRamp ..) (modPrism ..)))

theorem releaseRamp (m : Nat) (d : Dev) : TurnFrame d (releaseRamp m d) := by
  unfold Machine.releaseRamp
  refine ite (refl d) (after (nextRamp ..) (after (forAll (fun q e => ?_) ..) (after (modPrism ..) (setAttr (by decide) ..))))
  split
  · exact ite (after (of_all fun _ _ => attr_startSurvey ..) (after (setNextSlot ..) (modRx ..))) (after (arm ..) (after (setNextSlot ..) (modRx ..)))
  · exact refl e

theorem cancelRamp (p : Nat) (d : Dev) : TurnFrame d (cancelRamp p d) := by
  unfold Machine.cancelRamp
  exact ite (after (releaseRamp ..) (modPrism ..)) (after (nextRamp ..) (modPrism ..))

theorem neighbours (p old new : Nat) (d : Dev) : TurnFrame d (neighbours p old new d) := by
  have given : TurnFrame d (Machine.when (port d p).scan.isNone (Machine.cancelRamp p) (Machine.disarm tkSurvey p d)) :=
    after (when (fun _ => cancelRamp ..) ..) (disarm ..)
  unfold Machine.neighbours
  refine ite (ite (after (holdCoefficients ..) given) given) (ite ?gives (ite (modRx ..) (ite ?frees (refl d))))
  case gives => exact after (holdCoefficients ..) (after (cancelRamp ..) (disarm ..))
  case frees => exact after (disarm ..) (of_all fun _ _ => attr_freeAggressor ..)

/-! #### Claims, snapshots, scans and calibration (R209 to R222, R451) -/

theorem setTx (p h : Nat) (d : Dev) : TurnFrame d (setTx p h d) := setAttr (by decide) ..
theorem setCapture (p h : Nat) (d : Dev) : TurnFrame d (setCapture p h d) := setAttr (by decide) ..
theorem releaseCal (p : Nat) (d : Dev) : TurnFrame d (releaseCal p d) := setAttr (by decide) ..

theorem stateClaims (p new : Nat) (d : Dev) : TurnFrame d (stateClaims p new d) := by
  unfold Machine.stateClaims
  extract_lets traffic d1
  have tx : TurnFrame d d1 := ite (setTx ..) (ite (setTx ..) (ite (setTx ..) (refl d)))
  exact ite (after (setCapture ..) tx) (ite (after (setCapture ..) tx) tx)

theorem endSnapshot (r status cause st : Nat) (d : Dev) : TurnFrame d (endSnapshot r status cause st d) := by
  unfold Machine.endSnapshot
  split
  · exact refl d
  · have left : ∀ e : Dev, TurnFrame e (setRecord r st e) := fun _ => after (setAttr (by decide) ..) (setBlock ..)
    have taken : TurnFrame d { d with snapshots := bankPut none d.snapshots r none } := of_attrs rfl
    exact after (complete ..) (ite (after (setCapture ..) (after (disarm ..) (after (left _) taken))) (after (disarm ..) (after (left _) taken)))

theorem abortSnapshots (p cause : Nat) (g : Snapshot → Bool) (d : Dev) : TurnFrame d (abortSnapshots p cause g d) := by
  refine forAll (fun r e => ?_) _ d
  split
  · exact ite (endSnapshot ..) (refl e)
  · exact refl e

theorem finishScan (p status cause : Nat) (d : Dev) : TurnFrame d (finishScan p status cause d) := by
  unfold Machine.finishScan
  split
  · exact refl d
  · extract_lets d1 d2 d3 d4
    have ended : TurnFrame d d1 := modPort ..
    have capture : TurnFrame d d2 := ite (after (setCapture ..) ended) ended
    have tx : TurnFrame d d3 := ite (after (setTx ..) capture) capture
    have ramp : TurnFrame d d4 := by
      dsimp only [d4]
      split
      · exact after (holdCoefficients ..) (after (cancelRamp ..) tx)
      · exact after (holdCoefficients ..) tx
      · exact after (cancelRamp ..) tx
      · exact tx
    exact after (complete ..) (after (disarm ..) (after (disarm ..) ramp))

theorem abortScan (p cause : Nat) (d : Dev) : TurnFrame d (abortScan p cause d) := by
  unfold Machine.abortScan
  exact ite (after (finishScan ..) (setBlock ..)) (refl d)

theorem endDiagnostics (p new : Nat) (d : Dev) : TurnFrame d (endDiagnostics p new d) := by
  unfold Machine.endDiagnostics
  extract_lets d1 d2
  have ended : TurnFrame d d2 := after (abortSnapshots ..) (ite (abortSnapshots ..) (refl d))
  exact ite ended (after (abortScan ..) ended)

theorem finishCalRun (r : CalRun) (status cause : Nat) (d : Dev) : TurnFrame d (finishCalRun r status cause d) := by
  have measured : ∀ x e, TurnFrame e (endMeasure x e) := fun x e => by
    unfold endMeasure
    dsimp only
    split
    · exact after (releaseCal ..) (setAttr (by decide) ..)
    · exact setAttr (by decide) ..
  unfold Machine.finishCalRun
  refine after (complete ..) ?_
  split
  · exact after (measured ..) (of_attrs rfl)
  · exact of_attrs rfl

theorem calOnPort (p new : Nat) (d : Dev) : TurnFrame d (calOnPort p new d) := by
  have aborted : ∀ item e, TurnFrame e (abortFullRuns item 2 e) := fun _ e => foldl (fun _ _ => finishCalRun ..) _ e
  unfold Machine.calOnPort
  extract_lets d0 d1
  have released : TurnFrame d d0 := ite (refl d) (after (releaseCal ..) (ite (of_all fun _ _ => attr_stopSlice ..) (refl d)))
  have ended : TurnFrame d d1 := ite released (after (aborted ..) released)
  exact ite ended (after (aborted ..) ended)

/-! #### The service channel, chords and rates (R164, R165, R196, R286) -/

theorem refreshSvc (p : Nat) (d : Dev) : TurnFrame d (refreshSvc p d) :=
  after (setAttr (by decide) ..) (after (setAttr (by decide) ..) (setAttr (by decide) ..))

theorem abortMessages (p : Nat) (d : Dev) : TurnFrame d (abortMessages p d) := by
  unfold Machine.abortMessages
  exact after (refreshSvc ..) (after (foldl (fun _ _ => completeOpt ..) ..) (after (forAll (fun _ _ => disarm ..) ..) (modSvc ..)))

/-- R191, R198: in LISTEN and NEGOTIATE the nodes present and the polls stand. -/
theorem svcOnState {new : Nat} (hn : new = psListen ∨ new = psNegotiate) (p : Nat) (d : Dev) : TurnFrame d (svcOnState p new d) := by
  have stands : (new == psDown || new == psQuiet || new == psDormant || new == psLegacy) = false ∧ (new == psDown || new == psLegacy) = false := by
    rcases hn with rfl | rfl <;> decide
  obtain ⟨loud, present⟩ := stands
  unfold Machine.svcOnState
  rw [loud, present]
  extract_lets d0 d1 d2 d3 d4
  have restarted : TurnFrame d d0 := ite (of_all fun _ _ => attr_resetSeq ..) (refl d)
  have cleared : TurnFrame d d1 := ite restarted (after (of_all fun _ _ => attr_clearTraining ..) restarted)
  exact after (refreshSvc ..) (after (when (fun _ => abortMessages ..) ..) cleared)

theorem refreshOversub (p : Nat) (d : Dev) : TurnFrame d (refreshOversub p d) := by
  unfold Machine.refreshOversub
  exact ite (after (raise ..) (setAttr (by decide) ..)) (setAttr (by decide) ..)

theorem refreshClock (m : Nat) (d : Dev) : TurnFrame d (refreshClock m d) := by
  have moved : ∀ src q, TurnFrame d (Machine.arm tkSlew m 0 (Machine.setAttr PRISM_CLOCK_SLEWING m 1 (Machine.setAttr PRISM_CLOCK_PORT m q
      (Machine.setAttr PRISM_CLOCK_SOURCE m src d)))) := fun _ _ =>
    after (arm ..) (after (setAttr (by decide) ..) (after (setAttr (by decide) ..) (setAttr (by decide) ..)))
  unfold Machine.refreshClock
  dsimp only
  split
  · exact ite (refl d) (moved ..)
  · exact ite (refl d) (moved ..)

theorem chordOnState {new : Nat} (hn : new ≠ psCarry) (p old deadline : Nat) (d : Dev) : TurnFrame d (chordOnState p old new deadline d) := by
  unfold Machine.chordOnState
  extract_lets c d1 d2
  have waits : TurnFrame d d1 := ite (arm ..) (ite (disarm ..) (refl d))
  have stays : d2 = d1 := if_neg (by simp [hn])
  have told : TurnFrame d2 (refreshChord c (new == psCarry) d2) := by
    unfold refreshChord
    exact ite (refl _) (after (raise ..) (setBlock ..))
  rw [stays] at told ⊢
  exact ite (refl d) (after (refreshClock ..) (after told waits))

/-! #### The state left and the state entered -/

theorem clearTrained (p : Nat) (d : Dev) : TurnFrame d (clearTrained p d) := by
  unfold Machine.clearTrained
  exact after (setBlock ..) (after (resetAttrs (by decide) ..) (after (setBlock ..) (after (setBlock ..) (after (setBlock ..) (setBlock ..)))))

theorem clearMeasures (p : Nat) (d : Dev) : TurnFrame d (clearMeasures p d) := after (setBlock ..) (resetAttrs (by decide) ..)

theorem leaveState {old : Nat} (ho : old ≠ psCarry) (p new : Nat) (d : Dev) : TurnFrame d (leaveState p old new d) := by
  unfold Machine.leaveState
  extract_lets d1 d2 d3 d4 d5 d6
  have carried : d1 = d := if_neg fun h => ho h.1
  have untrained : TurnFrame d d2 := by
    dsimp only [d2]
    rw [carried]
    exact when (fun _ => clearTrained ..) ..
  have silent : TurnFrame d d3 := ite (after (setAttr (by decide) ..) (after (setAttr (by decide) ..) (after (modQuiet ..) (after (modRx ..)
    (after (modRecast ..) (after (modTx ..) untrained)))))) untrained
  have awake : TurnFrame d d4 := ite (after (setAttr (by decide) ..) (after (disarm ..) silent)) silent
  have paged : TurnFrame d d5 := ite (after (modTx ..) awake) awake
  have legacy : TurnFrame d d6 := ite (after (modPort ..) paged) paged
  exact after (disarm ..) (after (disarm ..) (ite legacy (after (disarm ..) legacy)))

theorem enterState {new : Nat} (hn : new = psListen ∨ new = psNegotiate) (p old : Nat) (d : Dev) : TurnFrame d (enterState p old new d) := by
  unfold Machine.enterState
  rcases hn with rfl | rfl
  · rw [if_pos rfl]
    exact of_all fun _ _ => attr_enterListen ..
  · rw [if_neg (by decide), if_pos rfl]
    exact after (modTx ..) (arm ..)

/-- R132: a change to LISTEN or NEGOTIATE of a port that is not in CARRY. -/
theorem changeState {p new : Nat} {d : Dev} (hn : new = psListen ∨ new = psNegotiate) (ho : stateOf d p ≠ psCarry) (why : Nat) :
    TurnFrame d (changeState p new why d) := by
  have target : stopTarget d p new why = (new, why) := if_neg fun h => ho h.2.1
  have hc : new ≠ psCarry := by rcases hn with rfl | rfl <;> decide
  have hd : new ≠ psDown := by rcases hn with rfl | rfl <;> decide
  unfold Machine.changeState
  rw [target]
  dsimp only
  have left : TurnFrame d (Machine.setAttr PORT_STATE p new (Machine.leaveState p (stateOf d p) new d)) := after (setAttr (by decide) ..) (leaveState ho ..)
  have upkept := after (neighbours p (stateOf d p) new _) (after (stateClaims p new _) (after (calOnPort p new _) (after (endDiagnostics p new _)
    (after (raise clsPort p evPortState (stateOf d p * 4096 + new * 256 + why) _) left))))
  have entered := after (enterState hn p (stateOf d p) _) (after (when (fun _ => clearMeasures p _) (new != psCarry && new != psQuiet && new != psDormant) _) upkept)
  have turned := after (refreshOversub p _) (after (chordOnState hc p (stateOf d p) (deadlineInUse d p) _) (after (svcOnState hn p _) entered))
  refine ite (refl d) ?_
  rw [stopOnState, if_neg hd, wakeOnState]
  exact ite (after (portEnded ..) turned) (ite (after (portEnded ..) turned) (ite (after (portEnded ..) turned) turned))

end TurnFrame

/-! ### Preambles (R192, R193) -/

section Preamble
variable {p corr snr : Nat} {power : Int} {d : Dev}

theorem preamble_faint (h : corr < 600) : preamble p corr power snr d = d := if_pos (.inr h)

theorem preamble_opens (hc : 600 ≤ corr) (hl : svcListens d p = true) (hr : (svc d p).rx = none) :
    preamble p corr power snr d
      = disarm tkGrantLapse p (modSvc p (fun x => { x with rx := some { power := power, snr := snr, header := none } }) d) := by
  unfold preamble
  dsimp only
  rw [if_neg (by simp [hl, hc]), hr]

theorem preamble_captures {r : SvcReception} (hc : 600 ≤ corr) (hl : svcListens d p = true) (hr : (svc d p).rx = some r) (hp : r.power + 6 ≤ power) :
    preamble p corr power snr d
      = bump SVC_CAPTURES p 1 (modSvc p (fun x => { x with rx := some { power := power, snr := snr, header := none } }) d) := by
  unfold preamble
  dsimp only
  rw [if_neg (by simp [hl, hc]), hr]
  exact if_pos hp

end Preamble

/-! ### Headers (R177, R191, R194) -/

theorem attr_setPresent_ne {b : Attr} (hb : noEventAttr b) (hn : b.code ≠ SVC_NODE_PRESENT.code) (p n : Nat) (on : Bool) (d : Dev) (i : Nat) :
    attr (setPresent p n on d) b i = attr d b i := by
  unfold setPresent
  exact attr_ite rfl ((attr_raise _ _ _ _ _ _ _ hb).trans (attr_setAttr_ne _ _ _ _ hn (by decide) hb.1))

/-- R191: a node heard is marked present. -/
theorem bitOf_setPresent {n : Nat} (hn : n < 8) (p : Nat) (d : Dev) : bitOf (attr (setPresent p n true d) SVC_NODE_PRESENT p) n = true := by
  unfold setPresent
  dsimp only
  split
  case isTrue h => exact h
  case isFalse =>
    rw [attr_raise_ne _ _ _ _ _ _ _ (by decide) (by decide) (by decide) (by decide), attr_setAttr, show SVC_NODE_PRESENT.width = 8 from rfl, bitOf,
      Nat.testBit_mod_two_pow, decide_eq_true hn, withBit, if_pos rfl]
    simp

/-- R191: what a valid burst marks, before the moment of R136 that it may be. -/
def nodeMarked (p snr : Nat) (h : Head) (d : Dev) : Dev :=
  if h.ctrl = false then setPresent p h.addr true (setBlockByte SVC_NODE_SNR p h.addr snr d)
  else if actsAsPartner d p then setBlockByte SVC_NODE_SNR p 0 snr d
  else d

theorem attr_nodeMarked_ne {b : Attr} (hb : noEventAttr b) (hn : b.code ≠ SVC_NODE_PRESENT.code) (p snr : Nat) (h : Head) (d : Dev) (i : Nat) :
    attr (nodeMarked p snr h d) b i = attr d b i :=
  attr_ite ((attr_setPresent_ne hb hn ..).trans (attr_setBlockByte ..)) (attr_ite (attr_setBlockByte ..) rfl)

theorem TurnFrame.negotiateOn (p cause : Nat) (d : Dev) : TurnFrame d (negotiateOn p cause d) := by
  unfold Machine.negotiateOn
  dsimp only
  split
  case isTrue h =>
    obtain ⟨state, _⟩ := h
    exact changeState (.inr rfl) (by rw [state]; decide) cause
  case isFalse => exact refl d

/-- R153: a port in DORMANT that loses its partner. -/
theorem TurnFrame.partnerLost {p : Nat} {d : Dev} (h : stateOf d p = psDormant) (cause : Nat) : TurnFrame d (partnerLost p cause d) := by
  have away : ∀ e, attr e PORT_STATE p = attr d PORT_STATE p → TurnFrame e (Machine.changeState p psListen cause e) := fun e he =>
    changeState (.inl rfl) (by rw [stateOf, he.trans h]; decide) cause
  unfold Machine.partnerLost
  refine ite (away d rfl) (after (away _ ?state) (after (raise ..) (after (setAttr (by decide) ..) (setAttr (by decide) ..))))
  rw [attr_raise_ne _ _ _ _ _ _ _ (by decide) (by decide) (by decide) (by decide), attr_bump_ne _ _ _ _ (by decide) (by decide) (by decide),
    attr_setAttr_ne _ _ _ _ (by decide) (by decide) (by decide)]

/-- R136, R191, R431: the moment that a burst is takes no mark away. -/
theorem nodeHeard_turns (p snr : Nat) (h : Head) (d : Dev) : TurnFrame (nodeMarked p snr h d) (nodeHeard p snr h d) := by
  have state : stateOf (nodeMarked p snr h d) p = stateOf d p := attr_nodeMarked_ne (by unfold noEventAttr; decide) (by decide) ..
  show TurnFrame _ (if fromPeer d p h = false ∨ (h.ctrl = false ∧ h.addr ≠ 0) then nodeMarked p snr h d
    else if stateOf d p = psDormant ∧ h.ty ≠ 3 then partnerLost p causePartnerReset (nodeMarked p snr h d)
    else negotiateOn p causePartnerBurst (nodeMarked p snr h d))
  split
  · exact .refl _
  · split
    case isTrue asleep => exact .partnerLost (state.trans asleep.1) _
    case isFalse => exact .negotiateOn ..

theorem attr_nodeHeard_burstsRx (p snr : Nat) (h : Head) (d : Dev) : attr (nodeHeard p snr h d) SVC_BURSTS_RX p = attr d SVC_BURSTS_RX p :=
  ((nodeHeard_turns p snr h d).attrs _ (by decide) (by decide) p).trans (attr_nodeMarked_ne (by unfold noEventAttr; decide) (by decide) ..)

theorem bitOf_nodeHeard_present {h : Head} (hc : h.ctrl = false) (ha : h.addr < 8) (p snr : Nat) (d : Dev) :
    bitOf (attr (nodeHeard p snr h d) SVC_NODE_PRESENT p) h.addr = true := by
  rw [(nodeHeard_turns p snr h d).attrs _ (by decide) (by decide), nodeMarked, if_pos hc]
  exact bitOf_setPresent ha ..

/-- R177: a header names one of the nodes 0 to 4 where it is valid. -/
theorem addr_of_headValid {v : Nat} (h : headValid v = true) : (readHead v).addr ≤ 4 := by
  unfold headValid at h
  simp only [Bool.and_eq_true, decide_eq_true_eq] at h
  obtain ⟨⟨⟨⟨⟨⟨_, addr⟩, _⟩, _⟩, _⟩, _⟩, _⟩ := h
  exact addr

/-- R177, R194: the block once a valid header has been counted. -/
def headerTaken (p v : Nat) (r : SvcReception) (d : Dev) : Dev :=
  let d1 := bump SVC_BURSTS_RX p 1 (modSvc p (fun x => { x with rx := some { r with header := some v }, pendingRx := none, heardAt := d.elapsed + 1 }) d)
  if r.recovered then bump SVC_RECOVERED p 1 d1 else d1

theorem headerEnd_valid {p v : Nat} {r : SvcReception} {d : Dev} (hr : (svc d p).rx = some r) (hh : r.header = none) (hv : headValid v = true) :
    headerEnd p v d = nodeHeard p r.snr (readHead v) (headerTaken p v r d) := by
  unfold headerEnd
  rw [hr]
  dsimp only
  rw [if_neg (by simp [hh]), if_pos hv]
  rfl

theorem attr_headerTaken (p v : Nat) (r : SvcReception) (d : Dev) :
    attr (headerTaken p v r d) SVC_BURSTS_RX p = (attr d SVC_BURSTS_RX p + 1) % 2 ^ 32 := by
  have counted : attr (bump SVC_BURSTS_RX p 1 (modSvc p (fun x => { x with rx := some { r with header := some v }, pendingRx := none, heardAt := d.elapsed + 1 }) d))
      SVC_BURSTS_RX p = (attr d SVC_BURSTS_RX p + 1) % 2 ^ 32 := attr_bump ..
  unfold headerTaken
  dsimp only
  split
  · exact (attr_bump_ne _ _ _ _ (by decide) (by decide) (by decide)).trans counted
  · exact counted

/-! ### A reception that fails at its header (R177) -/

theorem attr_endPoll {b : Attr} (hb : noEventAttr b) (p : Nat) (q : SvcPoll) (status : Nat) (d : Dev) (i : Nat) :
    attr (endPoll p q status d) b i = attr d b i := by
  rw [endPoll, attr_complete _ _ _ _ _ _ _ _ _ hb, attr_disarm, attr_modSvc]

theorem attr_grantUnanswered {b : Attr} (hb : noEventAttr b) (hn : b.code ≠ SVC_NODE_PRESENT.code) (p : Nat) (d : Dev) (i : Nat) :
    attr (grantUnanswered p d) b i = attr d b i := by
  have polled : ∀ n e, attr (pollUnanswered p n e) b i = attr e b i := fun n e => by
    unfold pollUnanswered
    split
    · rfl
    · exact attr_ite (attr_arm ..) (attr_ite (attr_endPoll hb ..) ((attr_setPresent_ne hb hn ..).trans (attr_endPoll hb ..)))
  unfold grantUnanswered
  split
  · exact (polled ..).trans ((attr_modPeer ..).trans (attr_modSvc ..))
  · rfl

/-- R180: the end of a reception frees the receiver, and changes no attribute but the count of a burst that may start. -/
theorem attr_receptionOver {b : Attr} (hb : b.code < 2 ^ 24) (hc : ¬Claims.counting b) (hn : b.code ≠ SVC_BURSTS_TX.code) (p : Nat) (d : Dev) (i : Nat) :
    attr (receptionOver p d) b i = attr d b i := (BurstFrame.svcKick ..).attr_other hb hc hn i

theorem rx_receptionOver (p : Nat) (d : Dev) : (svc (receptionOver p d) p).rx = none := by
  refine (BurstFrame.svcKick ..).rx ?_
  rw [svc_congr (disarm_ports ..), svc_modSvc]

theorem headerEnd_invalid {p v : Nat} {r : SvcReception} {d : Dev} (hr : (svc d p).rx = some r) (hh : r.header = none) (hv : headValid v = false)
    (hp : (svc d p).pendingRx = none) : headerEnd p v d = receptionOver p (grantUnanswered p (bump SVC_HEADER_FAILS p 1 d)) := by
  unfold headerEnd
  rw [hr]
  dsimp only
  rw [if_neg (by simp [hh]), if_neg (by simp [hv]), hp]

theorem attr_headerEnd_fails (p : Nat) (d : Dev) :
    attr (receptionOver p (grantUnanswered p (bump SVC_HEADER_FAILS p 1 d))) SVC_HEADER_FAILS p = (attr d SVC_HEADER_FAILS p + 1) % 2 ^ 32 := by
  rw [attr_receptionOver (by decide) (by unfold Claims.counting; decide) (by decide), attr_grantUnanswered (by unfold noEventAttr; decide) (by decide)]
  exact attr_bump ..

/-! ### Time limits (R180 to R198) -/

/-- R182: a periodic grant that has not begun, or whose period is over, falls due. -/
theorem periodicGrant_due {kind p ns : Nat} {d : Dev} (h : armed d kind p = false ∨ due d kind p = true) :
    periodicGrant kind p ns d = arm kind p ns (svcKick p (modSvc p (fun x => { x with grantDue := true }) d)) := by
  refine if_neg fun waits => ?_
  rcases h with h | h
  · simp [h] at waits
  · simp [h] at waits

theorem attr_putBurst (p : Nat) (h : Head) (payload : List Byte) (d : Dev) :
    attr (putBurst p h payload d) SVC_BURSTS_TX p = (attr d SVC_BURSTS_TX p + 1) % 2 ^ 32 :=
  (attr_arm ..).trans ((attr_bump ..).trans (by rw [attr_modSvc]; rfl))

theorem svc_putBurst (p : Nat) (h : Head) (payload : List Byte) (d : Dev) : svc (putBurst p h payload d) p
    = { svc d p with blanked := true, rx := none, pendingRx := none, lastBurst := some ⟨headBits h, payload⟩ } := by
  unfold putBurst
  dsimp only
  rw [svc_congr (arm_ports ..), bump, svc_congr (setAttr_ports ..), svc_modSvc]

/-- R195: a burst starts no limit but that of its blanking. -/
theorem armed_putBurst {k p : Nat} (hk : k ≠ tkBlank) (hp : p < 2 ^ 24) (h : Head) (payload : List Byte) (d : Dev) :
    armed (putBurst p h payload d) k p = armed d k p := (armed_arm_ne _ _ hk hp hp).trans (armed_congr rfl ..)

section Rows
variable {p : Fin 128} {s : State}

theorem port_lt (p : Fin 128) : p.val < 2 ^ 24 := by omega

/-- R181. -/
theorem svcUnsolicitedHello_sends (hr : svcRole s.dev p = 2) (hf : channelFree s.dev p = true) (hh : heardNothing s.dev p = true)
    (hs : attr s.dev PORT_STATE p ≠ psNegotiate) (hd : armed s.dev tkHello p = false ∨ due s.dev tkHello p = true) :
    ∃ t, exec (.svcUnsolicitedHello p) s = .next t ∧ attr t.dev SVC_BURSTS_TX p = (attr s.dev SVC_BURSTS_TX p + 1) % 2 ^ 32
      ∧ (svc t.dev p).lastBurst = some ⟨headBits { ctrl := false, ty := 2 }, []⟩ ∧ (svc t.dev p).blanked = true
      ∧ Claims.KeepsAttrs [(SVC_BURSTS_TX.code, p)] s t ∧ t.mem = s.mem := by
  have mayStart : ¬(svcRole s.dev p ≠ 2 ∨ channelFree s.dev p = false ∨ heardNothing s.dev p = false ∨ stateOf s.dev p = psNegotiate
      ∨ (armed s.dev tkHello p && !due s.dev tkHello p) = true) := by
    rcases hd with hd | hd <;> simp [hr, hf, hh, hs, hd]
  have run : exec (.svcUnsolicitedHello p) s = .next { s with dev := arm tkHello p nsPerMs (sendHello p s.dev) } := by
    show execSvcUnsolicitedHello p s = _
    rw [execSvcUnsolicitedHello, onDev, if_neg mayStart]
  have sent := svc_putBurst p { ctrl := false, ty := 2 } [] (modSvc p (fun x => { x with helloSent := true }) s.dev)
  refine ⟨_, run, (attr_arm ..).trans (attr_putBurst ..), ?_, ?_, keepsAttrs_dev ?_, rfl⟩
  · exact congrArg Svc.lastBurst ((svc_congr (arm_ports ..) _).trans sent)
  · exact congrArg Svc.blanked ((svc_congr (arm_ports ..) _).trans sent)
  · exact (BurstFrame.after (.arm ..) (.after (.putBurst ..) (.modSvc _))).attrs

/-- R186. -/
theorem svcFragmentResend_resends (n : Fin 5) (f : SvcFragment) (hd : due s.dev tkResend (8 * p.val + n.val) = true)
    (ho : (peer (svc s.dev p) n).out = some f) (hr : svcRole s.dev p ≠ 3) (ht : f.tries < 3) :
    ∃ t, exec (.svcFragmentResend p n) s = .next t ∧ attr t.dev SVC_RESENDS p = (attr s.dev SVC_RESENDS p + 1) % 2 ^ 32
      ∧ Claims.KeepsAttrs [(SVC_RESENDS.code, p), (SVC_BURSTS_TX.code, p)] s t ∧ t.mem = s.mem := by
  have resent : fragmentResend p n (disarm tkResend (8 * p.val + n.val) s.dev) = svcKick p (bump SVC_RESENDS p 1
      (modPeer p n (fun x => { x with out := some { f with due := true } }) (disarm tkResend (8 * p.val + n.val) s.dev))) := by
    have out : (peer (svc (disarm tkResend (8 * p.val + n.val) s.dev) p) n).out = some f := ho
    unfold fragmentResend
    rw [out]
    dsimp only
    rw [if_neg (by omega)]
    exact if_neg hr
  have run := exec_onExpiry (f := fragmentResend p n) hd
  rw [resent] at run
  have kicked := BurstFrame.svcKick p (bump SVC_RESENDS p 1
    (modPeer p n (fun x => { x with out := some { f with due := true } }) (disarm tkResend (8 * p.val + n.val) s.dev)))
  refine ⟨_, run, ?_, keepsAttrs_dev ?_, rfl⟩
  · exact (kicked.attr_other (by decide) (by unfold Claims.counting; decide) (by decide) _).trans (attr_bump ..)
  · refine KeepsOthers.trans ?_ (kicked.attrs.weaken (by simp))
    exact (keepsOthers_of_attrs rfl).trans (keepsOthers_setAttr (d := modPeer p n _ (disarm tkResend (8 * p.val + n.val) s.dev)) _ (by decide) (by simp))

/-- R189: one of the WAKE bursts left. -/
def wakeSent (p : Nat) (d : Dev) : Dev := modSvc p (fun x => { x with wakeLeft := x.wakeLeft - 1 }) (sendWake p d)

theorem wakeLeft_wakeSent (p : Nat) (d : Dev) : (svc (wakeSent p d) p).wakeLeft = (svc d p).wakeLeft - 1 := by
  rw [wakeSent, svc_modSvc, sendWake, svc_putBurst]

theorem attr_wakeSent (p : Nat) (d : Dev) : attr (wakeSent p d) SVC_BURSTS_TX p = (attr d SVC_BURSTS_TX p + 1) % 2 ^ 32 := by
  rw [wakeSent, attr_modSvc, sendWake, attr_putBurst]

theorem armed_wakeSent {p : Nat} (hp : p < 2 ^ 24) (d : Dev) : armed (wakeSent p d) tkWakeNext p = armed d tkWakeNext p := by
  rw [wakeSent, armed_congr (modSvc_timers ..), sendWake, armed_putBurst (by decide) hp]

theorem BurstFrame.wakeSent (p : Nat) (d : Dev) : BurstFrame p d (wakeSent p d) := .after (.modSvc _) (.putBurst ..)

theorem wakeSequenceNext_sends (n : Nat) (hd : due s.dev tkWakeNext p = true) (hn : (svc s.dev p).wakeLeft = n + 1) :
    ∃ t, exec (.wakeSequenceNext p) s = .next t ∧ (svc t.dev p).wakeLeft = n
      ∧ attr t.dev SVC_BURSTS_TX p = (attr s.dev SVC_BURSTS_TX p + 1) % 2 ^ 32 ∧ armed t.dev tkWakeNext p = decide (n ≠ 0)
      ∧ Claims.KeepsAttrs [(SVC_BURSTS_TX.code, p)] s t ∧ t.mem = s.mem := by
  obtain ⟨e, sent⟩ : ∃ e, wakeSent p (disarm tkWakeNext p s.dev) = e := ⟨_, rfl⟩
  have left : (svc e p).wakeLeft = n := by
    rw [← sent, wakeLeft_wakeSent, svc_congr (disarm_ports ..), hn]
    rfl
  have counted : attr e SVC_BURSTS_TX p = (attr s.dev SVC_BURSTS_TX p + 1) % 2 ^ 32 := by rw [← sent, attr_wakeSent, attr_disarm]
  have stopped : armed e tkWakeNext p = false := by rw [← sent, armed_wakeSent (port_lt p), armed_disarm]
  have kept : KeepsOthers [(SVC_BURSTS_TX.code, p.val)] s.dev e := by
    rw [← sent]
    exact (BurstFrame.after (.wakeSent ..) (.disarm ..)).attrs
  have run : exec (.wakeSequenceNext p) s = .next { s with dev := if n = 0 then e else arm tkWakeNext p (50 * nsPerUs) e } := by
    have waits : (svc (disarm tkWakeNext p s.dev) p).wakeLeft = n + 1 := hn
    refine (exec_onExpiry hd).trans ?_
    rw [if_neg (by omega), ← left, ← sent]
    rfl
  by_cases hz : n = 0
  · rw [if_pos hz] at run
    exact ⟨_, run, left, counted, stopped.trans (by simp [hz]), keepsAttrs_dev kept, rfl⟩
  · rw [if_neg hz] at run
    exact ⟨_, run, (congrArg Svc.wakeLeft (svc_congr (arm_ports ..) _)).trans left, (attr_arm ..).trans counted,
      (armed_arm ..).trans (by simp [hz]), keepsAttrs_dev (kept.trans (keepsOthers_of_attrs rfl)), rfl⟩

theorem peer_modPeer (p n : Nat) (g : SvcPeer → SvcPeer) (d : Dev) : peer (svc (modPeer p n g d) p) n = g (peer (svc d p) n) := by
  rw [modPeer, svc_modSvc, peer]
  exact bankGet_put_same ..

/-- R186: only parts of training messages outlast the limit. -/
theorem svcPartialDiscard_drops (n : Fin 5) (hd : due s.dev tkPartial (8 * p.val + n.val) = true) :
    ∃ t, exec (.svcPartialDiscard p n) s = .next t ∧ (∀ y ∈ (peer (svc t.dev p) n).partials, y.1 = 0) ∧ Claims.KeepsAttrs [] s t ∧ t.mem = s.mem := by
  refine ⟨_, exec_onExpiry hd, fun y hy => ?_, keepsAttrs_dev (keepsOthers_of_attrs rfl), rfl⟩
  rw [peer_modPeer] at hy
  simpa using (List.mem_filter.1 hy).2

/-! ### Receptions (R177 to R194) -/

theorem exec_svcPreambleDetected (x : PreamblePeak) (snr : Fin 256) :
    exec (.svcPreambleDetected p x snr) s = .next { s with dev := preamble p x.corr x.power snr s.dev } := rfl

theorem svcPreambleDetected_opens (corr : Nat) (power : Int) (snr : Fin 256) (hc : 600 ≤ corr) (hl : svcListens s.dev p = true)
    (hr : (svc s.dev p).rx = none) :
    ∃ t, exec (.svcPreambleDetected p ⟨corr, power⟩ snr) s = .next t ∧ (svc t.dev p).rx = some { power := power, snr := snr.val, header := none }
      ∧ armed t.dev tkGrantLapse p = false ∧ Claims.KeepsAttrs [] s t ∧ t.mem = s.mem := by
  rw [exec_svcPreambleDetected, preamble_opens hc hl hr]
  refine ⟨_, rfl, ?_, armed_disarm .., keepsAttrs_dev (keepsOthers_of_attrs rfl), rfl⟩
  exact congrArg Svc.rx ((svc_congr (disarm_ports ..) _).trans (svc_modSvc ..))

theorem svcPreambleDetected_faint (corr : Nat) (power : Int) (snr : Fin 256) (h : corr < 600) :
    exec (.svcPreambleDetected p ⟨corr, power⟩ snr) s = .next s := by
  rw [exec_svcPreambleDetected, preamble_faint h]

theorem svcPreambleDetected_captures (corr : Nat) (power : Int) (snr : Fin 256) (r : SvcReception) (hc : 600 ≤ corr) (hl : svcListens s.dev p = true)
    (hr : (svc s.dev p).rx = some r) (hp : r.power + 6 ≤ power) :
    ∃ t, exec (.svcPreambleDetected p ⟨corr, power⟩ snr) s = .next t ∧ (svc t.dev p).rx = some { power := power, snr := snr.val, header := none }
      ∧ attr t.dev SVC_CAPTURES p = (attr s.dev SVC_CAPTURES p + 1) % 2 ^ 32 ∧ Claims.KeepsAttrs [(SVC_CAPTURES.code, p)] s t ∧ t.mem = s.mem := by
  rw [exec_svcPreambleDetected, preamble_captures hc hl hr hp]
  refine ⟨_, rfl, ?_, attr_bump .., keepsAttrs_dev ?_, rfl⟩
  · exact congrArg Svc.rx ((svc_congr (setAttr_ports ..) _).trans (svc_modSvc ..))
  · exact (keepsOthers_of_attrs (modSvc_attrs ..)).trans (keepsOthers_setAttr _ _ (by decide) (by simp))

theorem exec_svcHeaderEnd (v : BitVec 36) : exec (.svcHeaderEnd p v) s = .next { s with dev := headerEnd p v.toNat s.dev } := rfl

/-- R191, R194. -/
theorem svcHeaderEnd_counts (v : BitVec 36) (r : SvcReception) (hr : (svc s.dev p).rx = some r) (hh : r.header = none) (hv : headValid v.toNat = true) :
    ∃ t, exec (.svcHeaderEnd p v) s = .next t ∧ attr t.dev SVC_BURSTS_RX p = (attr s.dev SVC_BURSTS_RX p + 1) % 2 ^ 32
      ∧ ((readHead v.toNat).ctrl = false → bitOf (attr t.dev SVC_NODE_PRESENT p) (readHead v.toNat).addr = true) ∧ t.mem = s.mem := by
  have addr : (readHead v.toNat).addr < 8 := Nat.lt_of_le_of_lt (addr_of_headValid hv) (by decide)
  rw [exec_svcHeaderEnd, headerEnd_valid hr hh hv]
  exact ⟨_, rfl, (attr_nodeHeard_burstsRx ..).trans (attr_headerTaken ..), fun hc => bitOf_nodeHeard_present hc addr .., rfl⟩

/-- R177. -/
theorem svcHeaderEnd_fails (v : BitVec 36) (r : SvcReception) (hr : (svc s.dev p).rx = some r) (hh : r.header = none) (hv : headValid v.toNat = false)
    (hp : (svc s.dev p).pendingRx = none) :
    ∃ t, exec (.svcHeaderEnd p v) s = .next t ∧ attr t.dev SVC_HEADER_FAILS p = (attr s.dev SVC_HEADER_FAILS p + 1) % 2 ^ 32
      ∧ (svc t.dev p).rx = none ∧ t.mem = s.mem := by
  rw [exec_svcHeaderEnd, headerEnd_invalid hr hh hv hp]
  exact ⟨_, rfl, attr_headerEnd_fails .., rx_receptionOver .., rfl⟩

theorem exec_svcEmptyBurst {h : Head} (hh : headOf s.dev p 0 = some h) :
    exec (.svcEmptyBurst p) s = .next { s with dev := burstOver p h (burstFields p h s.dev) } := by
  show execSvcEmptyBurst p s = _
  rw [execSvcEmptyBurst, onDev, hh]

theorem exec_svcDataFragment {h : Head} (payload : List Byte) (hh : headOf s.dev p 1 = some h) :
    exec (.svcDataFragment p payload) s = .next { s with dev := burstOver p h (dataFragment p h payload (burstFields p h s.dev)) } := by
  show execSvcDataFragment p payload s = _
  rw [execSvcDataFragment, onDev, hh]

theorem exec_svcHello {h : Head} (hh : headOf s.dev p 2 = some h) : exec (.svcHello p) s
    = .next { s with dev := burstOver p h ((if fromPeer s.dev p h then helloFrom p h.addr else id) (burstFields p h s.dev)) } := by
  show execSvcHello p s = _
  rw [execSvcHello, onDev, hh]

/-! ### Periodic grants (R182) -/

theorem exec_svcBeacon (hs : attr s.dev PORT_STATE p = psListen) (hr : svcRole s.dev p = 1)
    (hd : armed s.dev tkBeacon p = false ∨ due s.dev tkBeacon p = true) : exec (.svcBeacon p) s
      = .next { s with dev := arm tkBeacon p 1000000 (svcKick p (modSvc p (fun x => { x with grantDue := true }) s.dev)) } := by
  show execSvcBeacon p s = _
  rw [execSvcBeacon, onDev, if_pos ⟨hs, hr⟩, periodicGrant_due hd]

theorem exec_svcPollGrant_train (hs : attr s.dev PORT_STATE p = psTrain) (hr : svcRole s.dev p = 1)
    (hd : armed s.dev tkPollGrant p = false ∨ due s.dev tkPollGrant p = true) : exec (.svcPollGrant p) s
      = .next { s with dev := arm tkPollGrant p 100000 (svcKick p (modSvc p (fun x => { x with grantDue := true }) s.dev)) } := by
  show execSvcPollGrant p s = _
  rw [execSvcPollGrant, onDev, if_neg (by simp [hr]), if_pos hs, periodicGrant_due hd]
  rfl

theorem exec_svcPollGrant_carry (hs : attr s.dev PORT_STATE p = psCarry) (hr : svcRole s.dev p = 1)
    (hd : armed s.dev tkPollGrant p = false ∨ due s.dev tkPollGrant p = true) : exec (.svcPollGrant p) s = .next { s with
      dev := arm tkPollGrant p (attr s.dev SVC_POLL_INTERVAL p * 1000) (svcKick p (modSvc p (fun x => { x with grantDue := true }) s.dev)) } := by
  show execSvcPollGrant p s = _
  rw [execSvcPollGrant, onDev, if_neg (by simp [hr]), if_neg (by rw [stateOf, hs]; decide), if_pos hs, periodicGrant_due hd]

end Rows

/-! ### The statement -/

/-- Settles O35: the receptions of a port, then its time limits. -/
theorem svcReceives : Obligations.svc_receives :=
  ⟨fun _ _ => ⟨svcPreambleDetected_opens, svcPreambleDetected_faint, svcPreambleDetected_captures, svcHeaderEnd_counts, svcHeaderEnd_fails,
      fun _ => exec_svcEmptyBurst, fun _ payload => exec_svcDataFragment payload, fun _ => exec_svcHello⟩,
    fun _ _ => ⟨exec_onExpiry, exec_svcBeacon, exec_svcPollGrant_train, exec_svcPollGrant_carry, svcUnsolicitedHello_sends, svcFragmentResend_resends,
      svcPartialDiscard_drops, exec_onExpiry, wakeSequenceNext_sends, fun _ => exec_onExpiry⟩⟩

end Sys2Proof.Machine

namespace Sys2Proof.Machine

/-! ### Requests answered without an effect, and requests held (R207, R310, R311) -/

section Read
variable {op : Nat} {f : Body} {r : Req} {s : State}

/-- R306: with FLAGS 0 the block that a command's definition sees is the one whose sequence has advanced. -/
theorem takenDev_eq_advanced (hf : r.flags = 0#8) : takenDev op r s = Claims.Advanced op r s := by
  have flags : r.flags.toNat = 0 := by rw [hf]; rfl
  rw [takenDev, requestBytes, flags]

/-- R310: a request done with no effect of its own changes no more than its sequence and its reply. -/
theorem issueOut_okResult {x : List Byte} (ht : Claims.Takes op r s) (hl : (paramRange op).1 ≤ r.params.length ∧ r.params.length ≤ (paramRange op).2)
    (hb : f s.mem (takenCall op r s) (takenDev op r s) = okResult x (takenDev op r s)) :
    ∃ t, issueOut op f r s = .next t ∧ Claims.KeepsAttrs [] s t ∧ Claims.KeepsUnits s t ∧ Claims.Replied op stOk r x s t := by
  obtain ⟨took, hf, owner, free, room⟩ := ht
  have done := issue_done took hf owner free room hl hb
  obtain ⟨xs, answered, replied⟩ := replied_answer (op := op) (s := s) hf stOk x (takenDev op r s)
  refine ⟨_, congrArg Host.Outcome.next done, keepsAttrs_answer (fun _ _ _ _ _ => rfl), keepsUnits_answer ⟨_, _, _, rfl⟩, ?_⟩
  rw [answered]
  exact replied

/-- R207: a request whose reply waits stands last among those held. -/
theorem issueOut_hold {h : HeldRead} (ht : Claims.Takes op r s) (hl : (paramRange op).1 ≤ r.params.length ∧ r.params.length ≤ (paramRange op).2)
    (hb : f s.mem (takenCall op r s) (takenDev op r s) = .hold h) :
    issueOut op f r s = .next { s with dev := { takenDev op r s with held := s.dev.held ++ [h] } } := by
  obtain ⟨took, hf, owner, free, room⟩ := ht
  rw [issueOut, issue_body took hf owner free room hl, hb, settle, takenDev_held]

end Read

/-! ### COUNTERS_READ (R207) -/

section Counters
variable {mem : List Host.Cell} {c : Call} {d : Dev} {r : Req} {s : State} {as : List Attr}

/-- R207: the checks of COUNTERS_READ passed, the clock of the unit's prism decides. -/
theorem bodyCountersRead_checked (hc : countersOf (addrAt c.params).cls (addrAt c.params).id (byteAt c.params 1) = some as)
    (h1 : 1 ≤ byteAt c.params 1) (h64 : byteAt c.params 1 ≤ 64) (hi : ∀ a ∈ as, instanceOk a (addrAt c.params).inst = true)
    (h0 : leAt c.params 6 2 = 0) :
    bodyCountersRead mem c d =
      if (addrAt c.params).cls = clsPort ∧ attr d DOMAIN_STATE (160 + prismOf (addrAt c.params).inst) = 0 then
        .hold ⟨c, prismOf (addrAt c.params).inst, false⟩
      else okResult (countersResult d (addrAt c.params).cls (addrAt c.params).inst as) d := by
  have inst : as.all (fun a => instanceOk a (addrAt c.params).inst) = true := List.all_eq_true.2 hi
  unfold bodyCountersRead
  dsimp only
  rw [hc]
  exact need_of (by simp [h1, h64, inst, reservedZero_of h0]) ..

theorem domainState_takenDev (op : Nat) (r : Req) (s : State) (k : Nat) : attr (takenDev op r s) DOMAIN_STATE k = attr s.dev DOMAIN_STATE k :=
  attr_takenDev op r s _ k (by decide) (by decide) (by decide)

theorem countersRead_answers (ht : Claims.Takes 0x92 r s) (hl : r.params.length = 8)
    (hc : countersOf (addrAt r.params).cls (addrAt r.params).id (byteAt r.params 1) = some as) (h1 : 1 ≤ byteAt r.params 1)
    (h64 : byteAt r.params 1 ≤ 64) (hi : ∀ a ∈ as, instanceOk a (addrAt r.params).inst = true) (h0 : leAt r.params 6 2 = 0)
    (hn : ¬((addrAt r.params).cls = clsPort ∧ attr s.dev DOMAIN_STATE (160 + prismOf (addrAt r.params).inst) = 0)) :
    ∃ t, exec (.countersRead r) s = .next t ∧ Claims.KeepsAttrs [] s t ∧ Claims.KeepsUnits s t
      ∧ Claims.Replied 0x92 stOk r (countersResult (Claims.Advanced 0x92 r s) (addrAt r.params).cls (addrAt r.params).inst as) s t := by
  obtain ⟨_, hf, _⟩ := id ht
  rw [← takenDev_eq_advanced hf]
  refine issueOut_okResult ht (by rw [hl]; decide) ?_
  rw [bodyCountersRead_checked (c := takenCall 0x92 r s) hc h1 h64 hi h0, domainState_takenDev]
  exact if_neg hn

theorem countersRead_waits (ht : Claims.Takes 0x92 r s) (hl : r.params.length = 8)
    (hc : countersOf (addrAt r.params).cls (addrAt r.params).id (byteAt r.params 1) = some as) (h1 : 1 ≤ byteAt r.params 1)
    (h64 : byteAt r.params 1 ≤ 64) (hi : ∀ a ∈ as, instanceOk a (addrAt r.params).inst = true) (h0 : leAt r.params 6 2 = 0)
    (hp : (addrAt r.params).cls = clsPort) (hk : attr s.dev DOMAIN_STATE (160 + prismOf (addrAt r.params).inst) = 0) :
    ∃ t h, exec (.countersRead r) s = .next t ∧ t.dev.held = s.dev.held ++ [h] ∧ h.prism = prismOf (addrAt r.params).inst ∧ h.void = false
      ∧ h.call.master = r.master.val ∧ h.call.tag = r.tag.toNat ∧ h.call.params = r.params ∧ Claims.KeepsAttrs [] s t ∧ t.mem = s.mem := by
  have body : bodyCountersRead s.mem (takenCall 0x92 r s) (takenDev 0x92 r s)
      = .hold ⟨takenCall 0x92 r s, prismOf (addrAt r.params).inst, false⟩ := by
    rw [bodyCountersRead_checked (c := takenCall 0x92 r s) hc h1 h64 hi h0, domainState_takenDev]
    exact if_pos ⟨hp, hk⟩
  refine ⟨_, ⟨takenCall 0x92 r s, _, false⟩, issueOut_hold ht (by rw [hl]; decide) body, rfl, rfl, rfl, rfl, rfl, rfl, ?_, rfl⟩
  exact (keepsAttrs_iff ..).2 (keepsOthers_takenDev 0x92 r s)

/-- R207: the boundary of its prism answers the only request held. -/
theorem sampleCounters_answers {m : Nat} {h : HeldRead} (hh : d.held = [h]) (hm : h.prism = m) (hv : h.void = false)
    (hc : countersOf (byteAt h.call.params 0) (leAt h.call.params 4 2) (byteAt h.call.params 1) = some as) :
    sampleCounters m d = answer h.call stOk
      (countersResult { d with held := [] } (byteAt h.call.params 0) (leAt h.call.params 2 2) as) { d with held := [] } := by
  have sampled : d.held.filter (fun x => x.prism == m) = [h] := by simp [hh, hm]
  have left : d.held.filter (fun x => x.prism != m) = [] := by simp [hh, hm]
  simp only [sampleCounters, sampled, left, List.foldl_cons, List.foldl_nil, hv, Bool.false_eq_true, if_false, hc, Option.getD_some]

end Counters

/-- R207: the COUNTERS_SAMPLE row. -/
theorem exec_countersSample (m : Fin 8) (s : State) : exec (.countersSample m) s = .next { s with dev := sampleCounters m s.dev } := rfl

/-- Settles O25: the clock of the prism decides between an answer and a place among the requests held; the boundary answers there. -/
theorem countersAreSampled : Obligations.counters_are_sampled := by
  refine fun s => ⟨fun r as ht hl hc h1 h64 hi h0 => ⟨?answers, ?waits⟩, fun m h as hh hm hv hc => ?sampled⟩
  case answers => exact countersRead_answers ht hl hc h1 h64 hi h0
  case waits => exact countersRead_waits ht hl hc h1 h64 hi h0
  case sampled => rw [exec_countersSample, sampleCounters_answers hh hm hv hc]

/-! ### Tables that list less or more than their attribute holds (R7) -/

/-- R213: a snapshot of the tones of port 5 whose trigger has occurred. -/
def firedTones : Snapshot := ⟨⟨0, 9⟩, 5, 1, 0, 3, true, false⟩

/-- The block after reset, with `firedTones` in record 0 and DEVICE.SNAP_STATE, a block of eight bytes, listed with none. -/
def shortStates : State :=
  { State.reset with
    dev := { State.reset.dev with blocks := [(attrKey DEVICE_SNAP_STATE 0, [])], snapshots := [(0, some firedTones)] } }

/-- Refutes O37: the statement takes every table of blocks, also one that lists fewer bytes than a block has, where a byte written past the
listed ones is lost (`setBlockByte`). In `shortStates` the capture of record 0 frees the record and leaves its state 0, not 2; the clause of
`snapshot` has the same gap. The state is not one that writes lead to: each write of a block stores its whole size (`block_setBlock`). What
the statement lacks is the length of DEVICE.SNAP_STATE as a hypothesis. -/
theorem not_snapshots : ¬ Obligations.snapshots := by
  intro h
  obtain ⟨-, captured, -⟩ := h shortStates
  obtain ⟨t, ht, -, hstate, -⟩ := captured 0 firedTones 0 0#8 [] rfl rfl (by decide)
  obtain rfl := Host.Outcome.next.inj ht
  exact absurd hstate (by decide +kernel)

/-- R218: a scan whose symbols have been sent and correlated. -/
def correlatedScan : Scan := ⟨⟨0, 9⟩, 16, .correlating, 0, 0⟩

/-- The block after reset, with `correlatedScan` on port 5 at its end and PORT.CLAIMS, an attribute of sixteen bits, listed with 2^16. -/
def wideClaims : State :=
  { State.reset with
    dev := arm tkScan 5 0 (modPort 5 (fun x => { x with scan := some correlatedScan })
      { State.reset.dev with attrs := [(attrKey PORT_CLAIMS 5, 2 ^ 16)] }) }

/-- Refutes O38: the statement takes every list of attributes, also one that holds more than an attribute's width, where a write cuts the
value (R7). In `wideClaims` the capture buffer's holder reads 256, and the end of the correlation, which gives back the transmitter alone,
stores it in the upper eight bits of PORT.CLAIMS as 0. The state is not one that writes lead to (`attr_setAttr`): what the statement lacks is
the width of PORT.CLAIMS as a hypothesis of the clause of `cableScanCorrelationEnd`. -/
theorem not_cableScans : ¬ Obligations.cable_scans := by
  intro h
  obtain ⟨-, -, -, correlated, -⟩ := h 5 wideClaims
  obtain ⟨t, ht, -, -, hcapture, -⟩ := correlated correlatedScan (by decide +kernel) (by decide +kernel) rfl
  obtain rfl := Host.Outcome.next.inj ht
  exact absurd hcapture (by decide +kernel)

end Sys2Proof.Machine

namespace Sys2Proof.Machine

/-! ### Training frames (R244) -/

theorem reverseOf_ne (g : Nat) : reverseOf g ≠ g := by
  unfold reverseOf
  repeat' split
  all_goals omega

theorem laneOf_reverse_ne (g k : Nat) : laneOf (reverseOf g) k ≠ laneOf g k := by
  have := reverseOf_ne g
  unfold laneOf
  omega

theorem attr_setTaps_pre (l pre post : Nat) (d : Dev) : attr (setTaps l pre post d) LANE_TX_PRE l = pre % 2 ^ 8 := by
  rw [setTaps, attr_setAttr_ne _ _ _ _ (by decide) (by decide) (by decide), attr_setAttr_ne _ _ _ _ (by decide) (by decide) (by decide), attr_setAttr]
  rfl

theorem attr_setTaps_inst {l i : Nat} (h : i ≠ l) (pre post : Nat) (d : Dev) : attr (setTaps l pre post d) LANE_TX_PRE i = attr d LANE_TX_PRE i := by
  rw [setTaps, attr_setAttr_ne _ _ _ _ (by decide) (by decide) (by decide), attr_setAttr_ne _ _ _ _ (by decide) (by decide) (by decide),
    attr_setAttr_inst _ _ _ h]

/-- R243: a frame sent stands with its lane. `sendFrame` is unfolded as a function and not on its arguments, so that no frame is computed. -/
theorem sendFrame_eq : ∀ (g k : Nat) (d : Dev), ∃ f, sendFrame g k d = modLane (laneOf g k) f d := by
  obtain ⟨send, hsend, h⟩ : ∃ send, sendFrame = send ∧ ∀ (g k : Nat) (d : Dev), ∃ f, send g k d = modLane (laneOf g k) f d := by
    refine ⟨_, by delta sendFrame; exact Eq.refl _, fun g k d => ?_⟩
    extract_lets l
    cases trainingFrameOf (controlWord d g k) (lane d l).status (lane d l).prbs
    exact ⟨_, rfl⟩
  exact hsend ▸ h

theorem sendFrame_attrs (g k : Nat) (d : Dev) : (sendFrame g k d).attrs = d.attrs := by
  obtain ⟨f, h⟩ := sendFrame_eq g k d
  rw [h, modLane_attrs]

theorem attr_sendReverse (g k : Nat) (d : Dev) (b : Attr) (i : Nat) : attr (trainingFrame.sendReverse g k d) b i = attr d b i := by
  unfold trainingFrame.sendReverse
  split
  · exact attr_congr (sendFrame_attrs ..) b i
  · rfl

/-- R244: the tap that a training frame leaves at the transmitter of the reverse direction, cut to the width of LANE.TX_PRE (R7). -/
theorem attr_trainingFrame_pre {g k : Nat} (control status next : Nat) {d : Dev} (hr : groupReceives g = true) (he : inEqualise d g k = true)
    (hs : groupSends (reverseOf g) = true) :
    attr (trainingFrame g k control status next d) LANE_TX_PRE (laneOf (reverseOf g) k)
      = (applyRequest (attr d LANE_TX_PRE (laneOf (reverseOf g) k)) (attr d LANE_TX_POST (laneOf (reverseOf g) k)) control
          (lane d (laneOf (reverseOf g) k)).lastControl (lane d (laneOf (reverseOf g) k)).status).1.1 % 2 ^ 8 := by
  have here : (groupReceives g && inEqualise d g k) = true := by rw [hr, he]; rfl
  unfold trainingFrame
  rw [if_pos here]
  extract_lets l v d1 held d2
  have set : attr d1 LANE_TX_PRE v = _ := (congrArg (attr · LANE_TX_PRE v) (if_pos hs)).trans (attr_setTaps_pre ..)
  refine (attr_sendReverse ..).trans ((attr_congr (modLane_attrs ..) _ _).trans (Eq.trans ?_ set))
  split
  · refine (attr_congr (modLane_attrs ..) _ _).trans ?_
    unfold d2
    split
    · rfl
    · dsimp only
      split
      · exact attr_setTaps_inst (laneOf_reverse_ne g k) ..
      · rfl
  · split <;> rfl

/-- R244: the tap after the TRAINING_FRAME row. -/
theorem attr_of_exec_trainingFrame {l : Fin 256} {control status request : BitVec 16} {s t : State}
    (h : exec (.trainingFrame l control status request) s = .next t) (hr : groupReceives (l / 8) = true) (he : inEqualise s.dev (l / 8) (l % 8) = true)
    (hs : groupSends (reverseOf (l / 8)) = true) :
    attr t.dev LANE_TX_PRE (laneOf (reverseOf (l / 8)) (l % 8))
      = (applyRequest (attr s.dev LANE_TX_PRE (laneOf (reverseOf (l / 8)) (l % 8))) (attr s.dev LANE_TX_POST (laneOf (reverseOf (l / 8)) (l % 8)))
          control.toNat (lane s.dev (laneOf (reverseOf (l / 8)) (l % 8))).lastControl (lane s.dev (laneOf (reverseOf (l / 8)) (l % 8))).status).1.1
        % 2 ^ 8 := by
  obtain rfl := Host.Outcome.next.inj h
  exact attr_trainingFrame_pre _ _ _ hr he hs

/-- R242: a FULL training of one lane that has come to EQUALISE. -/
def equalising : LaneTraining := ⟨.farExit, false, [0], 2, false, [], [], 0, 0⟩

/-- The block after reset, with `equalising` on pair 0 and LANE.TX_PRE of its transmitter's lane 0, an attribute of eight bits, listed with
2^8. -/
def widePre : State :=
  { State.reset with
    dev := setTraining 0 (some equalising) { State.reset.dev with attrs := [(attrKey LANE_TX_PRE 0, 2 ^ 8)] } }

/-- Refutes O43: the statement takes every list of attributes, also one that holds more than an attribute's width, where a write cuts the
value (R7). In `widePre` a training frame received on lane 0 of group 8 asks for no change, so `applyRequest` leaves the tap of 256 at 256,
and the write stores it in the eight bits of LANE.TX_PRE as 0. The state is not one that writes lead to (`attr_setAttr`): what the statement
lacks is the widths of LANE.TX_PRE and LANE.TX_POST as hypotheses of the clause of `trainingFrame`. -/
theorem not_laneTraining : ¬ Obligations.lane_training := by
  intro h
  obtain ⟨-, -, -, frame, -⟩ := h.1 widePre
  have equalise : inEqualise widePre.dev ((64 : Fin 256) / 8) ((64 : Fin 256) % 8) = true := by decide +kernel
  obtain ⟨t, ht, taps, -⟩ := frame 64 0#16 0#16 0#16 (by decide) equalise (by decide)
  have stored := attr_of_exec_trainingFrame ht (by decide) equalise (by decide)
  have asked := (congrArg Prod.fst taps).symm.trans stored
  exact absurd asked (by decide +kernel)

end Sys2Proof.Machine

namespace Sys2Proof.Machine

/-! ### Parts of the groups that an update leaves alone (R225) -/

theorem link_congr {d e : Dev} (h : e.links = d.links) (g : Nat) : link e g = link d g := by simp [link, h]

theorem lane_congr {d e : Dev} (h : e.lanes = d.lanes) (l : Nat) : lane e l = lane d l := by simp [lane, h]

/-- A part of every group is as before. -/
structure KeepsLinks {β : Type} (v : Link → β) (d e : Dev) : Prop where
  part : ∀ g, v (link e g) = v (link d g)

namespace KeepsLinks
variable {β : Type} {v : Link → β} {d e x y : Dev}

theorem of_links (h : e.links = d.links) : KeepsLinks v d e := ⟨fun g => congrArg v (link_congr h g)⟩

theorem refl (d : Dev) : KeepsLinks v d d := of_links rfl

/-- Transitivity with the later step first, in the order in which the model writes its steps. -/
theorem after (k : KeepsLinks v d e) (h : KeepsLinks v x d) : KeepsLinks v x e := ⟨fun g => (k.part g).trans (h.part g)⟩

theorem ite {c : Prop} [Decidable c] (hx : KeepsLinks v d x) (hy : KeepsLinks v d y) : KeepsLinks v d (if c then x else y) := by
  split
  · exact hx
  · exact hy

theorem forAll {s : Nat → Dev → Dev} (h : ∀ k e, KeepsLinks v e (s k e)) (l : List Nat) (d : Dev) : KeepsLinks v d (forAll l s d) := by
  unfold Machine.forAll
  induction l generalizing d with
  | nil => exact refl d
  | cons k l ih => exact after (ih _) (h k d)

end KeepsLinks

section Sent
variable {β : Type} {v : Link → β}

theorem keeps_modLink (g : Nat) (f : Link → Link) (d : Dev) (h : ∀ x, v (f x) = v x := by exact fun _ => rfl) : KeepsLinks v d (modLink g f d) := by
  refine ⟨fun i => ?_⟩
  by_cases hi : i = g
  · rw [hi, link_modLink, h]
  · rw [link_modLink_ne _ _ hi]

theorem keeps_bump (a : Attr) (i n : Nat) (d : Dev) : KeepsLinks v d (bump a i n d) := .of_links (setAttr_links ..)

theorem keeps_modMaster (m : Nat) (f : Master → Master) (d : Dev) : KeepsLinks v d (modMaster m f d) := .of_links (setMaster_links ..)

theorem keeps_usedFree (d : Dev) : KeepsLinks v d (usedFree d) := .of_links rfl

theorem keeps_countInjection (l : Nat) (align : Bool) (d : Dev) : KeepsLinks v d (countInjection l align d) := .of_links (modLane_links ..)

/-- The part is none of what a group sends or has still to send as a tangent burst. -/
structure NotSent {β : Type} (v : Link → β) : Prop where
  levels : ∀ x l, v { x with sent := l } = v x
  burst : ∀ x b, v { x with tangent := b } = v x

variable (hv : NotSent v)
include hv

theorem keeps_putLevels (g k : Nat) (l : List Int) (d : Dev) : KeepsLinks v d (putLevels g k l d) := keeps_modLink g _ d fun x => hv.levels x _

/-- R259: a tangent burst stands on the lanes and is owed no longer. -/
theorem keeps_sendTangent (g : Nat) (d : Dev) : KeepsLinks v d (sendTangent g d) := by
  unfold sendTangent
  refine .after (.forAll (fun k e => ?lane) _ _) (keeps_modLink g _ d fun x => hv.burst x _)
  case lane =>
    generalize tangentLevels _ = x
    obtain ⟨levels, seed⟩ := x
    exact .after (keeps_putLevels hv ..) (.of_links (modLane_links ..))

theorem keeps_putCodeword (g k : Nat) (w : List Nat) (d : Dev) : KeepsLinks v d (putCodeword g k w d) := by
  have put : ∀ l e, KeepsLinks v e (putLevels g k l (countInjection (laneOf g k) false e)) :=
    fun l e => .after (keeps_putLevels hv ..) (keeps_countInjection ..)
  unfold putCodeword
  split
  · exact .ite (.after (keeps_usedFree _) (put ..)) (put ..)
  · exact keeps_putLevels hv ..

/-- R231, R254: a row moves what its lanes send and their scramblers. -/
theorem keeps_putRow (hs : ∀ x l, v { x with scrTx := l } = v x) (g : Nat) (lanes : List (List Bool)) (d : Dev) :
    KeepsLinks v d (putRow g lanes d) := by
  unfold putRow
  refine .after (.forAll (fun k e => ?lane) _ _) (keeps_modLink g _ d fun x => hv.levels x _)
  case lane =>
    extract_lets seed bits
    generalize scramble bits seed = x
    obtain ⟨out, next⟩ := x
    have moved : KeepsLinks v e (modLink g (fun x => { x with scrTx := x.scrTx.set k next }) e) := keeps_modLink g _ e fun x => hs x _
    exact .ite (.after (keeps_putCodeword hv ..) moved) moved

end Sent

/-! ### Row slots (R229, R234) -/

theorem lanesIdle_links (g : Nat) (idle : Bool) (d : Dev) : (lanesIdle g idle d).links = d.links :=
  forAll_keeps (·.links) (fun k e => by
    split
    · split <;> rfl
    · split <;> rfl) _ d

theorem enterL0s_links (g : Nat) (d : Dev) : (enterL0s g d).links = d.links := by
  unfold enterL0s
  split
  · rfl
  · rw [bump, setAttr_links, setAttr_links, lanesIdle_links]

theorem dwell_links (g : Nat) (carried : Bool) (d : Dev) : (dwell g carried d).links = d.links := by
  unfold dwell
  repeat' split
  all_goals rfl

/-- Every transmitter is at the row slot it was at. -/
abbrev KeepsSlots : Dev → Dev → Prop := KeepsLinks (·.slot)

theorem slot_notSent : NotSent (·.slot) := ⟨fun _ _ => rfl, fun _ _ => rfl⟩

theorem keepsSlots_makeControl (g kind rseq idle : Nat) (d : Dev) : KeepsSlots d (makeControl g kind rseq idle d).2 := by
  unfold makeControl
  extract_lets v y x rq fault c d1
  have taken : KeepsSlots d d1 := keeps_modLink v _ d
  exact .ite (.after (keeps_bump ..) taken) taken

theorem keepsSlots_sendRow (g kind rseq idle : Nat) (payload : List Byte) (d : Dev) : KeepsSlots d (sendRow g kind rseq idle payload d) := by
  unfold sendRow
  have control := keepsSlots_makeControl g kind rseq idle d
  generalize makeControl g kind rseq idle d = x at control
  obtain ⟨c, d1⟩ := x
  exact .after (keeps_putRow slot_notSent (fun _ _ => rfl) ..) control

theorem keepsSlots_commandRow (g m width : Nat) (d : Dev) : KeepsSlots d (commandRow g m width d).2 := by
  unfold commandRow
  extract_lets x
  split
  · dsimp only
    exact keeps_modMaster m _ d
  · extract_lets part fin d1 d2
    have rest : KeepsSlots d d1 := keeps_modLink g _ d
    have taken : KeepsSlots d1 d2 := keeps_modMaster m _ d1
    exact taken.after rest

theorem egressUnits_links (d : Dev) (g : Nat) : (egressUnits d g).2.links = d.links := by
  unfold egressUnits
  extract_lets die ps
  split
  · rfl
  · extract_lets frames
    split <;> rfl

theorem refreshFill_links (g : Nat) (d : Dev) : (refreshFill g d).links = d.links := by
  unfold refreshFill
  split <;> rfl

theorem keepsSlots_dataRow (g width : Nat) (d : Dev) : KeepsSlots d (dataRow g width d).2 := by
  unfold dataRow
  generalize hx : (if 16 ≤ g ∧ 4 ≤ (g - 16) % 8 ∧ (link d g).store = [] then egressUnits d g else ([], d)) = x
  have taken : x.2.links = d.links := by
    rw [← hx]
    split
    · exact egressUnits_links d g
    · rfl
  obtain ⟨more, d0⟩ := x
  exact .after (.of_links (refreshFill_links ..)) (.after (keeps_modLink g _ d0) (.of_links taken))

theorem keepsSlots_sendNew (g kind : Nat) (payload : List Byte) (units : List HubUnit) (d : Dev) : KeepsSlots d (sendNew g kind payload units d) :=
  .after (keeps_bump ..) (.after (keeps_modLink g _ _) (keepsSlots_sendRow ..))

theorem keepsSlots_sendAgain (g : Nat) (r : SentRow) (d : Dev) : KeepsSlots d (sendAgain g r d) :=
  .after (keeps_bump ..) (.after (keeps_modLink g _ _) (keepsSlots_sendRow ..))

theorem keepsSlots_sendIdle (g : Nat) (d : Dev) : KeepsSlots d (sendIdle g d) := by
  have row : ∀ c, KeepsSlots d (modLink g (fun y => { y with idleRows := y.idleRows - 1 }) (sendRow g 1 0 c [] d)) :=
    fun c => .after (keeps_modLink ..) (keepsSlots_sendRow ..)
  unfold sendIdle
  exact .ite (.ite (.after (.of_links (enterL0s_links ..)) (row _)) (row _)) (.after (.of_links (dwell_links ..)) (keepsSlots_sendRow ..))

theorem keepsSlots_sendNext (g : Nat) (d : Dev) : KeepsSlots d (sendNext g d) := by
  have busy : ∀ {e f : Dev}, KeepsSlots e f → KeepsSlots e (dwell g true f) := fun h => .after (.of_links (dwell_links ..)) h
  unfold sendNext
  extract_lets x w d0
  have clear : KeepsSlots d d0 := keeps_modLink g _ d
  have command := keepsSlots_commandRow g ((channelOf g).getD 2) w d0
  have data := keepsSlots_dataRow g w d0
  generalize commandRow g _ w d0 = c at command
  generalize dataRow g w d0 = r at data
  obtain ⟨p, d1⟩ := c
  obtain ⟨us, d2⟩ := r
  refine .ite (keepsSlots_sendIdle g d) ?_
  split
  · exact busy (keepsSlots_sendAgain ..)
  · refine .ite (.after (keepsSlots_sendIdle ..) clear) (.ite (busy (.after (keepsSlots_sendNew ..) (.after command clear))) ?_)
    cases us with
    | nil => exact .after (keepsSlots_sendIdle ..) (.after data clear)
    | cons => exact busy (.after (keepsSlots_sendNew ..) (.after data clear))

theorem txChangeDue_eq {g : Nat} {d : Dev} (h : ∀ c, (link d g).subAnn = some c → c.slot ≠ txSlot d g) : txChangeDue g d = d := by
  unfold txChangeDue
  split
  next c hc => exact if_neg fun now => h c hc now.2
  · rfl

theorem slot_nextTxSlot {g : Nat} {d e : Dev} (h : KeepsSlots d e) : (link (nextTxSlot g e) g).slot = (link d g).slot + 1 := by
  rw [nextTxSlot, link_modLink, h.part]

/-- R229: a row slot is counted, whatever its lanes carry. -/
theorem slot_rowSlot {g : Nat} {d : Dev} (hs : groupSends g = true) (hr : groupRuns d g = true) (hn : (link d g).slot < 1024)
    (hc : ∀ c, (link d g).subAnn = some c → c.slot ≠ txSlot d g) : (link (rowSlot g d) g).slot = (link d g).slot + 1 := by
  have free : ¬ (groupSends g = false ∨ 1024 ≤ (link d g).slot) := by simp [hs, hn]
  have clear : KeepsSlots d (modLink g (fun x => { x with sent := [] }) d) := keeps_modLink g _ d
  rw [rowSlot, if_neg free, if_pos hr, txChangeDue_eq hc]
  extract_lets d0
  split
  · exact slot_nextTxSlot (.after (keeps_sendTangent slot_notSent ..) clear)
  · split
    · exact slot_nextTxSlot clear
    · exact slot_nextTxSlot (.after (keepsSlots_sendNext ..) clear)

/-! ### Alignment slots (R229, R230) -/

section Alignment
variable {β : Type} {v : Link → β}

theorem keeps_putAlignment (hv : NotSent v) (g k ab : Nat) (d : Dev) : KeepsLinks v d (putAlignment g k ab d) := by
  unfold putAlignment
  extract_lets x l bits hit out d1
  have counted : KeepsLinks v d d1 := keeps_countInjection l true d
  exact .ite counted (.after (keeps_putLevels hv ..) counted)

/-- R242: a lane that aligns in a group that carries rows takes part in the group's own alignment slots. -/
theorem keeps_alignStep (hv : NotSent v) {g : Nat} {d : Dev} (hr : groupRuns d g = true) (words : List (List Nat)) : KeepsLinks v d (alignStep g words d) := by
  unfold alignStep
  extract_lets ks alone d1
  have inRows : alone = true := hr
  have sent : KeepsLinks v d d1 :=
    .ite (.after (.forAll (fun k e => keeps_putAlignment hv ..) _ _) (keeps_modLink g _ d fun x => by rw [if_pos inRows]; exact hv.levels x _)) (.refl d)
  exact .ite (.refl d) (.ite (.after (.forAll (fun k e => .of_links (modLane_links ..)) _ _) sent) sent)

end Alignment

theorem sendTangent_attrs (g : Nat) (d : Dev) : (sendTangent g d).attrs = d.attrs := by
  unfold sendTangent
  refine (forAll_keeps (·.attrs) (fun k e => ?lane) _ _).trans (modLink_attrs ..)
  case lane =>
    generalize tangentLevels _ = x
    obtain ⟨levels, seed⟩ := x
    exact (modLink_attrs ..).trans (modLane_attrs ..)

theorem putAlignment_attrs (g k ab : Nat) (d : Dev) : (putAlignment g k ab d).attrs = d.attrs := by
  unfold putAlignment
  extract_lets x l bits hit out d1
  have counted : d1.attrs = d.attrs := modLane_attrs ..
  split
  · exact counted
  · exact (modLink_attrs ..).trans counted

theorem alignStep_attrs (g : Nat) (words : List (List Nat)) (d : Dev) : (alignStep g words d).attrs = d.attrs := by
  unfold alignStep
  extract_lets ks alone d1
  have sent : d1.attrs = d.attrs := by
    unfold d1
    split
    · exact (forAll_keeps (·.attrs) (fun k e => putAlignment_attrs ..) _ _).trans (modLink_attrs ..)
    · rfl
  split
  · rfl
  · split
    · exact (forAll_keeps (·.attrs) (fun k e => modLane_attrs ..) _ _).trans sent
    · exact sent

theorem alignTx_attrs (g : Nat) (d : Dev) : (alignTx g d).attrs = d.attrs := by
  unfold alignTx
  extract_lets d1
  have started : d1.attrs = d.attrs := modLink_attrs ..
  repeat' split
  · rfl
  · exact (sendTangent_attrs ..).trans started
  · exact started
  · exact (forAll_keeps (·.attrs) (fun k e => putAlignment_attrs ..) _ _).trans started

theorem groupRuns_congr {d e : Dev} (h : e.attrs = d.attrs) (g : Nat) : groupRuns e g = groupRuns d g := by
  rw [groupRuns, attr_congr h]; rfl

/-- Where a transmitter is: the period, the slot and the scramblers of its lanes. -/
def txPlace (x : Link) : Nat × Nat × List Nat := (x.ab, x.slot, x.scrTx)

/-- Where a receiver is: the slot and the descramblers of its lanes. -/
def rxPlace (x : Link) : Nat × List Nat := (x.rxSlot, x.scrRx)

theorem txPlace_notSent : NotSent txPlace := ⟨fun _ _ => rfl, fun _ _ => rfl⟩

theorem rxPlace_notSent : NotSent rxPlace := ⟨fun _ _ => rfl, fun _ _ => rfl⟩

/-- R229: the transmitter's next period, with the scramblers of its lanes seeded. -/
theorem txPlace_alignTx {g : Nat} {d : Dev} (hs : groupSends g = true) (hr : groupRuns d g = true) (hn : (link d g).slot = 1024) :
    txPlace (link (alignTx g d) g) = (((link d g).ab + 1) % 65536, 0, laneSeeds (pairOf g)) := by
  have now : ¬ (groupSends g = false ∨ (groupRuns d g || inLinkInit d g || patternsOut d g) = false ∨ (link d g).slot ≠ 1024) := by simp [hs, hr, hn]
  rw [alignTx, if_neg now]
  extract_lets d1
  have started : txPlace (link d1 g) = (((link d g).ab + 1) % 65536, 0, laneSeeds (pairOf g)) := by rw [link_modLink]; rfl
  have sent : KeepsLinks txPlace d1 (if (link d g).tangent then sendTangent g d1
      else if attr d GROUP_STATE g = 4 then d1 else forAll (alignedLanes d g) (fun k e => putAlignment g k (link e g).ab e) d1) :=
    .ite (keeps_sendTangent txPlace_notSent ..) (.ite (.refl d1) (.forAll (fun k e => keeps_putAlignment txPlace_notSent ..) _ _))
  exact (sent.part g).trans started

/-- An alignment slot of the transmitter moves no receiver. -/
theorem keeps_alignTx (g : Nat) (d : Dev) : KeepsLinks rxPlace d (alignTx g d) := by
  unfold alignTx
  extract_lets d1
  have started : KeepsLinks rxPlace d d1 := keeps_modLink g _ d
  exact .ite (.refl d) (.ite (.after (keeps_sendTangent rxPlace_notSent ..) started)
    (.ite started (.after (.forAll (fun k e => keeps_putAlignment rxPlace_notSent ..) _ _) started)))

theorem countCodeword_links (l : Nat) (r : Option (List Bool × Nat)) (d : Dev) : (countCodeword l r d).links = d.links := by
  unfold countCodeword
  split <;> rfl

/-- R229: the receiver's next period, with the descramblers of its lanes seeded. -/
theorem rxPlace_alignRx {g : Nat} {d : Dev} (words : List (List Nat)) (hs : groupReceives g = true) (hr : groupRuns d g = true)
    (hn : (link d g).rxSlot = 1024) : rxPlace (link (alignRx g words d) g) = (0, laneSeeds (pairOf g)) := by
  have now : ¬ (groupReceives g = false ∨ (groupRuns d g || inLinkInit d g || hasPattern d g) = false ∨ (link d g).rxSlot ≠ 1024) := by simp [hs, hr, hn]
  rw [alignRx, if_neg now]
  extract_lets ab d1
  have started : rxPlace (link d1 g) = (0, laneSeeds (pairOf g)) := by rw [link_modLink]; rfl
  split
  · exact started
  · exact (congrArg rxPlace (link_congr (forAll_keeps (·.links) (fun k e => countCodeword_links ..) _ _) g)).trans started

/-- An alignment slot of the receiver moves no transmitter. -/
theorem keeps_alignRx (g : Nat) (words : List (List Nat)) (d : Dev) : KeepsLinks txPlace d (alignRx g words d) := by
  unfold alignRx
  extract_lets ab d1
  have started : KeepsLinks txPlace d d1 := keeps_modLink g _ d
  exact .ite (.refl d) (.ite started (.after (.of_links (forAll_keeps (·.links) (fun k e => countCodeword_links ..) _ _)) started))

theorem trackReceiver_links (m : LaneMeasure) (d : Dev) : (trackReceiver m d).links = d.links := by
  unfold trackReceiver
  extract_lets l now
  split <;> rfl

/-- The groups after an alignment slot: what the receivers of the lanes follow (R239) is none of theirs. -/
theorem alignSlot_links (g : Nat) (words : List (List Nat)) (ms : List LaneMeasure) (d : Dev) :
    (alignSlot g words ms d).links = (alignRx g words (alignTx g (alignStep g words d))).links := by
  unfold alignSlot
  extract_lets d1
  split
  · exact foldl_keeps (·.links) (fun e m => trackReceiver_links m e) _ d1
  · rfl

theorem txPlace_alignSlot {g : Nat} {d : Dev} (words : List (List Nat)) (ms : List LaneMeasure) (hs : groupSends g = true)
    (hr : groupRuns d g = true) (hn : (link d g).slot = 1024) :
    txPlace (link (alignSlot g words ms d) g) = (((link d g).ab + 1) % 65536, 0, laneSeeds (pairOf g)) := by
  have step := (keeps_alignStep txPlace_notSent hr words).part g
  obtain ⟨hab, hslot, -⟩ : _ ∧ _ ∧ _ := by simpa [txPlace] using step
  rw [link_congr (alignSlot_links ..), (keeps_alignRx ..).part,
    txPlace_alignTx hs ((groupRuns_congr (alignStep_attrs ..) g).trans hr) (hslot.trans hn), hab]

theorem rxPlace_alignSlot {g : Nat} {d : Dev} (words : List (List Nat)) (ms : List LaneMeasure) (hs : groupReceives g = true)
    (hr : groupRuns d g = true) (hn : (link d g).rxSlot = 1024) : rxPlace (link (alignSlot g words ms d) g) = (0, laneSeeds (pairOf g)) := by
  have step := ((keeps_alignTx g _).after (keeps_alignStep rxPlace_notSent hr words)).part g
  obtain ⟨hslot, -⟩ : _ ∧ _ := by simpa [rxPlace] using step
  rw [link_congr (alignSlot_links ..),
    rxPlace_alignRx words hs ((groupRuns_congr ((alignTx_attrs ..).trans (alignStep_attrs ..)) g).trans hr) (hslot.trans hn)]

/-! ### L0s and L2 (R259, R260) -/

theorem rxChangeDue_eq {g : Nat} {d : Dev} (ha : (link d g).rxAnn = none) (hr : (link d g).subReq = none) : rxChangeDue g d = d := by
  unfold rxChangeDue
  extract_lets x
  split
  · rfl
  · rw [show x.rxAnn = none from ha, show x.subReq = none from hr]

/-- R259: in L0s a silent row slot is counted and changes no attribute. -/
theorem countL0s_attrs {g : Nat} {d : Dev} (h : attr d GROUP_STATE g = 4) (silent : Bool) : (countL0s g silent d).attrs = d.attrs := by
  unfold countL0s
  extract_lets n d1
  split
  · rfl
  · split
    · rw [enterL0s, if_pos (show attr d1 GROUP_STATE g = 4 from h), modLink_attrs]
    · exact modLink_attrs ..

theorem keeps_countL0s (g : Nat) (silent : Bool) (d : Dev) : KeepsLinks (·.rxSlot) d (countL0s g silent d) := by
  unfold countL0s
  extract_lets n d1
  have counted : KeepsLinks (·.rxSlot) d d1 := keeps_modLink g _ d
  exact .ite (.refl d) (.ite (.after (.of_links (enterL0s_links ..)) counted) counted)

theorem rowReceived_silent {g : Nat} {d : Dev} {words : List (List Nat)} (hg : groupReceives g = true) (h : attr d GROUP_STATE g = 4)
    (hn : (link d g).rxSlot < 1024) (ha : (link d g).rxAnn = none) (hr : (link d g).subReq = none) (hw : ∀ w ∈ words, w = []) :
    rowReceived g words d = (none, nextRxSlot g (countL0s g true d)) := by
  have takes : ¬ (groupReceives g = false ∨ 1024 ≤ (link d g).rxSlot) := by simp [hg, hn]
  have runs : groupRuns d g = true := by simp [groupRuns, h]
  have silent : words.all (· == []) = true := List.all_eq_true.2 fun w hm => by rw [hw w hm]; rfl
  rw [rowReceived, if_neg takes, if_pos runs, if_pos ⟨.inl h, silent⟩, rxChangeDue_eq ha hr]

theorem exec_rowReceived_none {g : Fin 32} {words : List (List Nat)} {ls : List Nat} {s : State} {d : Dev}
    (h : rowReceived g (words ++ [ls]) s.dev = (none, d)) : exec (.rowReceived g words ls) s = .next { s with dev := d } := by
  change execRowReceived g words ls s = _
  rw [execRowReceived, h]

theorem lanesIdle_keeps {b : Attr} (hb : b.code ≠ LANE_STATE.code) (hlt : b.code < 2 ^ 24) (g : Nat) (idle : Bool) (d : Dev) (i : Nat) :
    attr (lanesIdle g idle d) b i = attr d b i := by
  have lane : ∀ k v e, attr (setLaneState g k v e) b i = attr e b i := fun k v e => attr_setAttr_ne _ _ _ _ hb (by decide) hlt
  refine forAll_keeps (fun e => attr e b i) (fun k e => ?_) _ d
  split
  · split
    · exact lane ..
    · rfl
  · split
    · exact lane ..
    · rfl

theorem leaveL0s_links (g : Nat) (d : Dev) : (leaveL0s g d).links = d.links := by
  unfold leaveL0s
  split
  · rw [setAttr_links, lanesIdle_links]
  · rfl

/-- R259: the state to which a group leaves L0s, by its width. -/
theorem attr_leaveL0s {g : Nat} {d : Dev} (h : attr d GROUP_STATE g = 4) :
    attr (leaveL0s g d) GROUP_STATE g = if attr d GROUP_WIDTH g = 3 then 3 else 2 := by
  rw [leaveL0s, if_pos h, attr_setAttr]
  split <;> rfl

/-- R259: an L0s exit owes a tangent burst. -/
theorem exitL0s_leaves {g : Nat} {d : Dev} (hs : groupSends g = true) (h : attr d GROUP_STATE g = 4) :
    (link (exitL0s g d) g).tangent = true ∧ attr (exitL0s g d) GROUP_STATE g = if attr d GROUP_WIDTH g = 3 then 3 else 2 := by
  rw [exitL0s, if_pos ⟨hs, h⟩]
  exact ⟨by rw [link_congr (leaveL0s_links ..), link_modLink], attr_leaveL0s h⟩

/-- R259: after a tangent burst rows are decoded from the next slot. -/
theorem tangentBurst_leaves {g : Nat} {d : Dev} (hg : groupReceives g = true) (h : attr d GROUP_STATE g = 4) :
    attr (tangentBurst g [] d) GROUP_STATE g = (if attr d GROUP_WIDTH g = 3 then 3 else 2)
      ∧ (link (tangentBurst g [] d) g).rxSlot = if (link d g).rxSlot = 1024 then 0 else (link d g).rxSlot + 1 := by
  rw [tangentBurst, if_pos ⟨hg, .inl h⟩]
  refine ⟨attr_leaveL0s h, ?_⟩
  rw [forAll, List.foldl_nil, link_modLink, link_congr (leaveL0s_links ..)]
  split <;> rfl

/-- R260: the pair's L2 entry is no longer waited for. -/
def l2Settled (pair : Nat) (d : Dev) : Dev := disarm tkL2 pair (modLink (pairTx pair) (fun x => { x with l2 := none }) d)

theorem l2_l2Settled (pair : Nat) (d : Dev) : (link (l2Settled pair d) (pairTx pair)).l2 = none := by
  rw [l2Settled, link_congr (disarm_links ..), link_modLink]

theorem groupState_noEvent : noEventAttr GROUP_STATE := by
  unfold noEventAttr
  decide

/-- R260: the command that asked for L2 completes after the lanes have stopped, or with a failure. -/
theorem endL2Entry_eq {pair : Nat} {d : Dev} {j : JobRef} (hl : (link d (pairTx pair)).l2 = some j) (status : Nat) :
    ∃ result, endL2Entry pair status d = complete j clsGroup (pairTx pair) evGroupIdle status result
      (if status = stOk then enterL2 pair (l2Settled pair d) else l2Settled pair d) := by
  unfold endL2Entry
  extract_lets tx
  rw [show (link d tx).l2 = some j from hl]
  exact ⟨_, rfl⟩

/-- R260: an L2 entry that does not succeed leaves the states of the groups. -/
theorem endL2Entry_fails {pair status : Nat} {d : Dev} {j : JobRef} (hl : (link d (pairTx pair)).l2 = some j) (hs : status ≠ stOk) :
    (link (endL2Entry pair status d) (pairTx pair)).l2 = none
      ∧ attr (endL2Entry pair status d) GROUP_STATE (pairTx pair) = attr d GROUP_STATE (pairTx pair) := by
  obtain ⟨result, h⟩ := endL2Entry_eq hl status
  rw [h, if_neg hs, attr_complete _ _ _ _ _ _ _ _ _ groupState_noEvent, link_congr (complete_links ..), l2_l2Settled]
  exact ⟨rfl, rfl⟩

theorem replayTimer_eq {g : Nat} {d : Dev} {r : SentRow} {rs : List SentRow} (h : (link d g).replay = r :: rs) (hr : groupRuns d g = true)
    (hn : (link d g).resend = none) (hd : r.sentAt + attr d GROUP_REPLAY_TIMER g ≤ d.elapsed) :
    replayTimer g d = bump GROUP_REPLAYS g 1 (modLink g (fun y => { y with resend := some r.seq }) d) := by
  unfold replayTimer
  extract_lets x
  rw [show x.replay = r :: rs from h]
  exact if_pos ⟨hr, hn, hd⟩

/-- Settles O44. The two slots of a transmitter and of a receiver are followed through all that a slot sends and counts (`KeepsLinks`); a
group that carries rows takes the branches of the other clauses at once. -/
theorem rowsAndIdle : Obligations.rows_and_idle := by
  unfold Obligations.rows_and_idle
  intro g s
  refine ⟨?row, ?alignTx, ?alignRx, ?silent, ?received, ?replay, ?dwell, ?exit, ?burst, ?l2⟩
  case row => exact fun hs hr hn hc => ⟨_, rfl, slot_rowSlot hs hr hn hc, rfl⟩
  case alignTx =>
    intro words ms hs hr hn
    obtain ⟨hab, hslot, hscr⟩ : _ ∧ _ ∧ _ := by simpa [txPlace] using txPlace_alignSlot words ms hs hr hn
    exact ⟨_, rfl, hslot, hab, hscr, rfl⟩
  case alignRx =>
    intro words ms hs hr hn
    obtain ⟨hslot, hscr⟩ : _ ∧ _ := by simpa [rxPlace] using rxPlace_alignSlot words ms hs hr hn
    exact ⟨_, rfl, hslot, hscr, rfl⟩
  case silent =>
    intro hg h hn ha hr words hw
    have all : ∀ w ∈ words ++ [[]], w = [] := by simpa [or_imp, forall_and] using hw
    refine ⟨_, exec_rowReceived_none (rowReceived_silent hg h hn ha hr all), ?_, ?_, rfl⟩
    · rw [nextRxSlot, link_modLink, (keeps_countL0s ..).part]
    · exact keepsAttrs_dev (keepsOthers_of_attrs ((modLink_attrs ..).trans (countL0s_attrs h true)))
  case received => exact fun words ls d h => exec_rowReceived_none h
  case replay =>
    intro r rs h hr hn hd
    have ran : exec (.replayTimer g) s = .next { s with dev := replayTimer g s.dev } := rfl
    rw [replayTimer_eq h hr hn hd] at ran
    refine ⟨_, ran, ?_, attr_bump .., ?_, rfl⟩
    · rw [bump, link_congr (setAttr_links ..), link_modLink]
    · exact keepsAttrs_dev ((keepsOthers_of_attrs (modLink_attrs ..)).trans (keepsOthers_setAttr _ _ (by decide) (by simp)))
  case dwell =>
    intro hd hm
    have ran : exec (.l0sDwell g) s = .next { s with
        dev := if due s.dev tkL0s g ∧ mayIdle s.dev g = true then modLink g (fun x => { x with idleRows := 4, idleCode := 1 }) (disarm tkL0s g s.dev) else s.dev } := rfl
    rw [if_pos ⟨hd, hm⟩] at ran
    refine ⟨_, ran, congrArg Link.idleRows (link_modLink ..), congrArg Link.idleCode (link_modLink ..), ?_, ?_, rfl⟩
    · exact (armed_congr (modLink_timers ..) _ _).trans (armed_disarm ..)
    · exact keepsAttrs_dev (keepsOthers_of_attrs (modLink_attrs ..))
  case exit =>
    intro hs h hn ho
    have ran : exec (.l0sExit g) s = .next { s with
        dev := if (link s.dev g).idleRows = 0 ∧ (rowOwed s.dev g || owesFeedback s.dev g) = true then exitL0s g s.dev else s.dev } := rfl
    rw [if_pos ⟨hn, ho⟩] at ran
    obtain ⟨hburst, hst⟩ := exitL0s_leaves hs h
    exact ⟨_, ran, hburst, hst, rfl⟩
  case burst =>
    intro hg h
    obtain ⟨hst, hslot⟩ := tangentBurst_leaves hg h
    exact ⟨_, rfl, hst, hslot, rfl⟩
  case l2 =>
    intro pair j hd hl
    obtain ⟨hnone, hst⟩ := endL2Entry_fails (status := stTimeout) (d := disarm tkL2 pair s.dev) hl (by decide)
    exact ⟨_, exec_onExpiry hd, hnone, hst, rfl⟩

end Sys2Proof.Machine

namespace Sys2Proof.Machine
/-! ### What a pair is, as a command finds it (R241, R257, R260) -/

theorem filterMap_bankErase {α β : Type} {f : Nat × α → Option β} {k : Nat} (h : ∀ x, f (k, x) = none) (m : List (Nat × α)) :
    (bankErase m k).filterMap f = m.filterMap f := by
  induction m with
  | nil => rfl
  | cons e m ih =>
    obtain ⟨j, x⟩ := e
    by_cases hj : j = k
    · subst hj
      rw [List.filterMap_cons_none (h x), ← ih]
      simp [bankErase]
    · have kept : bankErase ((j, x) :: m) k = (j, x) :: bankErase m k := by simp [bankErase, hj]
      rw [kept, List.filterMap_cons, List.filterMap_cons, ih]

theorem filterMap_bankInsert {α β : Type} {f : Nat × α → Option β} {k : Nat} {x : α} (h : f (k, x) = none) (m : List (Nat × α)) :
    (bankInsert k x m).filterMap f = m.filterMap f := by
  induction m with
  | nil => exact List.filterMap_cons_none h
  | cons e m ih =>
    unfold bankInsert
    split
    · exact List.filterMap_cons_none h
    · rw [List.filterMap_cons, List.filterMap_cons, ih]

/-- A table read for other entries. -/
theorem filterMap_bankPut {α β : Type} [DecidableEq α] {f : Nat × α → Option β} {k : Nat} (h : ∀ x, f (k, x) = none) (d x : α) (m : List (Nat × α)) :
    (bankPut d m k x).filterMap f = m.filterMap f := by
  unfold bankPut
  split
  · exact filterMap_bankErase h m
  · exact (filterMap_bankInsert (h x) _).trans (filterMap_bankErase h m)

theorem usedFlows_setAttr {a : Attr} (h : a.code ≠ FLOW_STATE.code) (hlt : a.code < 2 ^ 24) (i v : Nat) (d : Dev) :
    usedFlows (setAttr a i v d) = usedFlows d := by
  refine filterMap_bankPut (fun x => if_neg ?_) ..
  change (i * 2 ^ 24 + a.code) % 2 ^ 24 ≠ _
  rwa [Nat.add_comm, Nat.add_mul_mod_self_right, Nat.mod_eq_of_lt hlt]

section Taken
variable (op : Nat) (r : Req) (s : State)

theorem takenDev_attrs : (takenDev op r s).attrs
    = (bump DEVICE_CMD_EXECUTED r.master.val 1 (setAttr DEVICE_CMD_SEQ_NEXT r.master.val ((attr s.dev DEVICE_CMD_SEQ_NEXT r.master.val + 1) % 65536) s.dev)).attrs := by
  unfold takenDev advance restartLease
  dsimp only
  split <;> rfl

theorem usedFlows_takenDev : usedFlows (takenDev op r s) = usedFlows s.dev := by
  have same : usedFlows (takenDev op r s) = _ := congrArg (List.filterMap _) (takenDev_attrs op r s)
  exact same.trans ((usedFlows_setAttr (by decide) (by decide) ..).trans (usedFlows_setAttr (by decide) (by decide) ..))

theorem groupState_takenDev (g : Nat) : attr (takenDev op r s) GROUP_STATE g = attr s.dev GROUP_STATE g :=
  attr_takenDev op r s _ g (by decide) (by decide) (by decide)

theorem groupRuns_takenDev (g : Nat) : groupRuns (takenDev op r s) g = groupRuns s.dev g := by rw [groupRuns, groupState_takenDev]; rfl

theorem flowMap_takenDev (f k : Nat) : flowMap (takenDev op r s) f k = flowMap s.dev f k := by
  rw [flowMap, attr_takenDev op r s FLOW_MAP f (by decide) (by decide) (by decide)]; rfl

theorem innerTx_takenDev (f : Nat) : innerTx (takenDev op r s) f = innerTx s.dev f := by
  rw [innerTx, flowDie, flowPort, attr_takenDev op r s FLOW_KIND f (by decide) (by decide) (by decide),
    attr_takenDev op r s FLOW_TARGET f (by decide) (by decide) (by decide), attr_takenDev op r s FLOW_MEMBER f (by decide) (by decide) (by decide),
    attr_takenDev op r s FLOW_INNER f (by decide) (by decide) (by decide)]
  rfl

theorem pairMapped_takenDev (pair : Nat) : pairMapped (takenDev op r s) pair = pairMapped s.dev pair := by
  simp only [pairMapped, usedFlows_takenDev, flowMap_takenDev, innerTx_takenDev]

theorem pairIn_takenDev (pair st : Nat) : pairIn (takenDev op r s) pair st = pairIn s.dev pair st := by
  simp only [pairIn, groupState_takenDev]

theorem pairOn_takenDev (pair : Nat) : pairOn (takenDev op r s) pair = pairOn s.dev pair :=
  congrArg ((pairDomains pair).all) (funext (domainOn_takenDev op r s))

theorem lcOpen_takenDev : lcOpen (takenDev op r s) = lcOpen s.dev := by
  rw [lcOpen, attr_takenDev op r s DEVICE_LC_STATE 0 (by decide) (by decide) (by decide)]; rfl

theorem namesCarrying_takenDev (pair : Nat) (lanes : List Nat) : namesCarrying (takenDev op r s) pair lanes = namesCarrying s.dev pair lanes := by
  have map : ∀ g, attr (takenDev op r s) GROUP_LANE_MAP g = attr s.dev GROUP_LANE_MAP g := fun g =>
    attr_takenDev op r s _ g (by decide) (by decide) (by decide)
  simp only [namesCarrying, groupRuns_takenDev, map]

theorem link_takenDev (g : Nat) : link (takenDev op r s) g = link s.dev g := link_congr (takenDev_links op r s) g

theorem pairTraining_takenDev (pair : Nat) : pairTraining (takenDev op r s) pair = pairTraining s.dev pair := by
  rw [pairTraining, training, link_takenDev]; rfl

theorem sliceRegion_takenDev (region : Nat) : sliceRegion (takenDev op r s) region = sliceRegion s.dev region := by
  rw [sliceRegion, takenDev_bist]; rfl

theorem laneSliced_takenDev (pair : Nat) (lanes : List Nat) : laneSliced (takenDev op r s) pair lanes = laneSliced s.dev pair lanes := by
  simp only [laneSliced, sliceRegion_takenDev]

theorem patternPlace_takenDev (l pattern : Nat) : patternPlace (takenDev op r s) l pattern = patternPlace s.dev l pattern := by
  have state : attr (takenDev op r s) LANE_STATE l = attr s.dev LANE_STATE l := attr_takenDev op r s _ l (by decide) (by decide) (by decide)
  simp only [patternPlace, groupState_takenDev, state, pairTraining_takenDev, lane_congr (takenDev_lanes op r s)]

end Taken
/-! ### Trainings (R241, R242) -/

theorem training_setTraining (pair : Nat) (t : Option LaneTraining) (d : Dev) : training (setTraining pair t d) pair = t := by
  rw [training, setTraining, link_modLink]

theorem training_congr {d e : Dev} (h : e.links = d.links) (pair : Nat) : training e pair = training d pair := by rw [training, link_congr h]; rfl

/-- R242: a training in its first phase. -/
theorem beginLanePhase_first {pair : Nat} {t : LaneTraining} (h : t.phase = 1) (d : Dev) :
    training (beginLanePhase pair t d) pair = some t ∧ armed (beginLanePhase pair t d) tkLanePhase pair = true := by
  rw [beginLanePhase, if_neg (by simp [h]), if_neg (by simp [h])]
  exact ⟨(training_congr (arm_links ..) pair).trans (training_setTraining ..), armed_arm ..⟩

theorem startTraining_begins (pair : Nat) (why : TrainWhy) (quick : Bool) (lanes : List Nat) (d : Dev) :
    training (startTraining pair why quick lanes d) pair = some ⟨why, quick, lanes, 1, false, [], [], 0, 0⟩
      ∧ armed (startTraining pair why quick lanes d) tkLanePhase pair = true := by
  unfold startTraining
  exact beginLanePhase_first rfl _

theorem training_dropTraining (pair : Nat) (d : Dev) : training (dropTraining pair d) pair = none := by
  unfold dropTraining
  split
  next h => exact h
  next t h =>
    extract_lets d1
    have gone : training d1 pair = none := (training_congr (disarm_links ..) pair).trans (training_setTraining ..)
    split
    · exact (training_congr (setAttr_links ..) pair).trans gone
    · exact gone

/-- R241: LANE_TRAIN. -/
theorem laneTrain_begins {pair : Nat} {r : Req} {s : State} (hp : pair ≤ 15) (h0 : byteAt r.params 0 = pair) (ht : Claims.Takes 0x50 r s)
    (hl : r.params.length = 4) (hq : byteAt r.params 1 ≤ 1) (hlanes : byteAt r.params 2 < 32) (hz : byteAt r.params 3 = 0)
    (hlc : pair < 8 ∨ lcOpen s.dev = true ∨ namedLanes (byteAt r.params 2) = [4])
    (hn : (namesCarrying s.dev pair (namedLanes (byteAt r.params 2)) && pairMapped s.dev pair) = false) (h6 : pairIn s.dev pair 6 = false)
    (h5 : pairIn s.dev pair 5 = false) (hon : pairOn s.dev pair = true) (hso : s.dev.startOwed = false) (htr : pairTraining s.dev pair = false)
    (hsl : laneSliced s.dev pair (namedLanes (byteAt r.params 2)) = false) :
    ∃ t, exec (.laneTrain r) s = .next t ∧ Claims.Replied 0x50 stAccepted r [] s t
      ∧ training t.dev pair = some ⟨.command ⟨r.master, r.tag.toNat⟩, byteAt r.params 1 == 1, namedLanes (byteAt r.params 2), 1, false, [], [], 0, 0⟩
      ∧ armed t.dev tkLanePhase pair = true ∧ t.mem = s.mem := by
  subst h0
  have body : bodyLaneTrain s.mem (takenCall 0x50 r s) (takenDev 0x50 r s) = .accept [] (startTraining (byteAt r.params 0)
      (.command ⟨r.master, r.tag.toNat⟩) (byteAt r.params 1 == 1) (namedLanes (byteAt r.params 2))
      (dropTraining (byteAt r.params 0) (addJob (takenCall 0x50 r s) (takenDev 0x50 r s)))) := by
    have opened : (decide (byteAt r.params 0 < 8) || lcOpen s.dev || namedLanes (byteAt r.params 2) == [4]) = true := by
      simpa [or_assoc] using hlc
    unfold bodyLaneTrain
    rw [show (takenCall 0x50 r s).params = r.params from rfl]
    extract_lets pair lanes
    rw [need_of (by simp [hp, hq, hlanes, reservedZero_one hz, pair]), lcOpen_takenDev, need_of opened, namesCarrying_takenDev, pairMapped_takenDev,
      pairIn_takenDev, pairIn_takenDev, pairOn_takenDev, takenDev_startOwed, need_of (by simp [hn, h6, h5, hon, hso, pair, lanes]),
      pairTraining_takenDev, need_of (by simp [htr, pair]), laneSliced_takenDev, hsl]
    rfl
  obtain ⟨xs, answered, replied⟩ := issueOut_accept ht (by rw [hl]; decide) body
  obtain ⟨began, limit⟩ := startTraining_begins (byteAt r.params 0) (.command ⟨r.master, r.tag.toNat⟩) (byteAt r.params 1 == 1)
    (namedLanes (byteAt r.params 2)) (dropTraining (byteAt r.params 0) (addJob (takenCall 0x50 r s) (takenDev 0x50 r s)))
  exact ⟨_, answered, replied, began, limit, rfl⟩
/-! ### Loops (R257) -/

/-- Every group is in the state, the loop and the training it was in. -/
structure KeepsLoops (d e : Dev) : Prop where
  state : ∀ g, attr e GROUP_STATE g = attr d GROUP_STATE g
  links : KeepsLinks (fun x => (x.loop, x.train)) d e

namespace KeepsLoops
variable {d e x y : Dev}

theorem of_same (ha : e.attrs = d.attrs) (hl : e.links = d.links) : KeepsLoops d e := ⟨attr_congr ha _, .of_links hl⟩

theorem refl (d : Dev) : KeepsLoops d d := of_same rfl rfl

/-- Transitivity with the later step first, in the order in which the model writes its steps. -/
theorem after (k : KeepsLoops d e) (h : KeepsLoops x d) : KeepsLoops x e := ⟨fun g => (k.state g).trans (h.state g), .after k.links h.links⟩

theorem ite {c : Prop} [Decidable c] (hx : KeepsLoops d x) (hy : KeepsLoops d y) : KeepsLoops d (if c then x else y) := by
  split
  · exact hx
  · exact hy

theorem foldl {α : Type} {s : Dev → α → Dev} (h : ∀ e x, KeepsLoops e (s e x)) (l : List α) (d : Dev) : KeepsLoops d (l.foldl s d) := by
  induction l generalizing d with
  | nil => exact refl d
  | cons x l ih => exact after (ih _) (h d x)

theorem forAll {s : Nat → Dev → Dev} (h : ∀ k e, KeepsLoops e (s k e)) (l : List Nat) (d : Dev) : KeepsLoops d (forAll l s d) :=
  foldl (fun e k => h k e) l d

theorem loop (h : KeepsLoops d e) (g : Nat) : (link e g).loop = (link d g).loop := congrArg Prod.fst (h.links.part g)

theorem train (h : KeepsLoops d e) (g : Nat) : (link e g).train = (link d g).train := congrArg Prod.snd (h.links.part g)

end KeepsLoops

theorem keepsLoops_setAttr {a : Attr} (i v : Nat) (d : Dev) (h : GROUP_STATE.code ≠ a.code := by decide) (hlt : a.code < 2 ^ 24 := by decide) :
    KeepsLoops d (setAttr a i v d) := ⟨fun g => attr_setAttr_ne i v g d h hlt (by decide), .of_links (setAttr_links ..)⟩

theorem keepsLoops_bump {a : Attr} (i n : Nat) (d : Dev) (h : GROUP_STATE.code ≠ a.code := by decide) (hlt : a.code < 2 ^ 24 := by decide) :
    KeepsLoops d (bump a i n d) := keepsLoops_setAttr i _ d h hlt

theorem keepsLoops_modLink (g : Nat) (f : Link → Link) (d : Dev) (h : ∀ x, ((f x).loop, (f x).train) = (x.loop, x.train) := by exact fun _ => rfl) :
    KeepsLoops d (modLink g f d) := ⟨fun i => attr_congr (modLink_attrs ..) _ i, keeps_modLink g f d h⟩

theorem keepsLoops_disarm (k i : Nat) (d : Dev) : KeepsLoops d (disarm k i d) := .of_same rfl rfl

theorem keepsLoops_modLane (l : Nat) (f : LaneRun → LaneRun) (d : Dev) : KeepsLoops d (modLane l f d) := .of_same rfl rfl

theorem keepsLoops_modMaster (m : Nat) (f : Master → Master) (d : Dev) : KeepsLoops d (modMaster m f d) := .of_same rfl rfl

theorem keepsLoops_raise (cls inst type detail : Nat) (d : Dev) : KeepsLoops d (raise cls inst type detail d) :=
  ⟨fun g => (eventFrame_raise cls inst type detail d).2 GROUP_STATE g groupState_noEvent, .of_links (raise_links ..)⟩

theorem keepsLoops_setLaneState (g k v : Nat) (d : Dev) : KeepsLoops d (setLaneState g k v d) := keepsLoops_setAttr (a := LANE_STATE) ..

theorem keepsLoops_refreshFill (g : Nat) (d : Dev) : KeepsLoops d (refreshFill g d) := .ite (keepsLoops_setAttr ..) (.refl d)

theorem keepsLoops_unitDropped (u : HubUnit) (d : Dev) : KeepsLoops d (unitDropped u d) := by
  unfold unitDropped reportDropped sendReport innerPush linkPush
  exact .ite (.after (keepsLoops_bump ..) (keepsLoops_modLink _ _ d)) (.refl d)

theorem keepsLoops_dropReplay (g : Nat) (d : Dev) : KeepsLoops d (dropReplay g d) := by
  unfold dropReplay
  extract_lets x us tails d1 begun d2
  have counted : KeepsLoops d d1 := .foldl (fun e f => keepsLoops_bump ..) _ d
  have answered : KeepsLoops d d2 :=
    .ite counted (.ite (.after (.foldl (fun e u => .of_same (modFlow_attrs ..) (modFlow_links ..)) begun d1) counted)
      (.after (.foldl (fun e u => keepsLoops_unitDropped u e) begun d1) counted))
  exact .after (keepsLoops_refreshFill ..) (.after (keepsLoops_modLink g _ _) (.after (keepsLoops_bump ..) answered))

theorem keepsLoops_quietGroup (g : Nat) (d : Dev) : KeepsLoops d (quietGroup g d) := by
  unfold quietGroup
  refine .after (.forAll (fun k e => ?lane) _ _) (.after (keepsLoops_modLink g _ _) (keepsLoops_disarm tkL0s g d))
  case lane =>
    extract_lets l e1
    have quiet : KeepsLoops e e1 := 
      .after (keepsLoops_disarm ..) (.after (keepsLoops_disarm ..) (.after (keepsLoops_modLane l _ _) (keepsLoops_setAttr l 0xFF e)))
    exact .ite quiet (.after (keepsLoops_setLaneState ..) quiet)

theorem keepsLoops_refreshCharges (ports : List Nat) (d : Dev) : KeepsLoops d (refreshCharges ports d) := by
  refine .after (.forAll (fun p e => ?sums) ports _) (.forAll (fun g e => ?group) _ d)
  case sums =>
    unfold refreshPortSums refreshOversub
    extract_lets carry rx tx d1
    have summed : KeepsLoops e d1 := .after (keepsLoops_setAttr ..) (.after (keepsLoops_setAttr ..) (keepsLoops_setAttr ..))
    exact .ite (.after (keepsLoops_raise ..) summed) summed
  case group =>
    unfold refreshGroup
    extract_lets c short d1
    have charged : KeepsLoops e d1 := .after (keepsLoops_setAttr ..) (keepsLoops_setAttr ..)
    exact .ite (.after (keepsLoops_raise ..) charged) charged

theorem keepsLoops_channelDown (pair : Nat) (d : Dev) : KeepsLoops d (channelDown pair d) := by
  unfold channelDown
  extract_lets m d1
  have held : KeepsLoops d d1 := .of_same rfl rfl
  exact .ite (.after (keepsLoops_disarm ..) (.after (keepsLoops_modMaster m _ _) (.after (keepsLoops_modLink pair _ d1) held))) (.refl d)

/-- LANE_LOOP on one group of a pair. -/
def loopGroup (mode g : Nat) (d : Dev) : Dev :=
  let d1 := quietGroup g (if groupSends g then dropReplay g d else d)
  let d2 := setAttr GROUP_LANE_MAP g 0x3210 (setAttr GROUP_SPARE_STATE g 0 (setWidth g 0 d1))
  let d3 := modLink g (fun x => { x with loop := mode }) d2
  let d4 := if laneState d3 g 5 = 5 then d3 else setLaneState g 5 (if mode = 3 then 7 else 2) d3
  if mode = 0 then d4
  else forAll (List.range 5) (fun k y => if laneState y g k = 6 then y else setLaneState g k 7 y) (setAttr GROUP_STATE g 6 d4)

/-- The training that a LANE_LOOP ends (assumption 56), with the command or repair that it was for. -/
def loopEnds (pair : Nat) (d : Dev) : Dev :=
  match training d pair with
  | some t => (match t.why with
    | .command j => complete j clsGroup (pairTx pair) evGroupTrained stTimeout [byteOf pair, 0#8, 0#8, 0#8] (dropTraining pair d)
    | .idleExit j => complete j clsGroup (pairTx pair) evGroupIdle stTimeout [byteOf pair, 0#8, 0#8, 0#8] (dropTraining pair d)
    | .repair _ l => (match repairOn d clsGroup (l / 8) with | some r => endRepair r stAborted (dropTraining pair d) | none => dropTraining pair d)
    | _ => dropTraining pair d)
  | none => d

theorem setLoop_eq (pair mode : Nat) (d : Dev) : setLoop pair mode d = channelDown pair (refreshCharges []
    (forAll [pairTx pair, pairRx pair] (loopGroup mode) (disarm tkQuickRetrain pair (disarm tkStartPair pair (loopEnds pair d))))) := rfl

theorem training_loopEnds (pair : Nat) (d : Dev) : training (loopEnds pair d) pair = none := by
  have dropped := training_dropTraining pair d
  unfold loopEnds
  split
  · split
    · exact (training_congr (complete_links ..) pair).trans dropped
    · exact (training_congr (complete_links ..) pair).trans dropped
    · split
      · exact (training_congr (complete_links ..) pair).trans dropped
      · exact dropped
    · exact dropped
  next h => exact h

theorem attr_setAttr_at (a : Attr) (i v : Nat) (d : Dev) (j : Nat) : attr (setAttr a i v d) a j = if j = i then v % 2 ^ a.width else attr d a j := by
  split
  next h => rw [h, attr_setAttr]
  next h => exact attr_setAttr_inst a v d h

theorem state_setWidth_zero (g : Nat) (d : Dev) (h : Nat) : attr (setWidth g 0 d) GROUP_STATE h = if h = g then 0 else attr d GROUP_STATE h := by
  unfold setWidth
  rw [attr_setAttr_at, attr_setAttr_ne _ _ _ _ (by decide) (by decide) (by decide), attr_setAttr_ne _ _ _ _ (by decide) (by decide) (by decide)]
  rfl

theorem setWidth_links (g w : Nat) (d : Dev) : (setWidth g w d).links = d.links := by rw [setWidth, setAttr_links, setAttr_links, setAttr_links]

theorem link_writeLoop (mode g : Nat) (d : Dev) (h : Nat) :
    (link (modLink g (fun x => { x with loop := mode }) d) h).loop = (if h = g then mode else (link d h).loop)
      ∧ (link (modLink g (fun x => { x with loop := mode }) d) h).train = (link d h).train := by
  by_cases hg : h = g
  · rw [hg, link_modLink, if_pos rfl]
    exact ⟨rfl, rfl⟩
  · rw [link_modLink_ne _ _ hg, if_neg hg]
    exact ⟨rfl, rfl⟩

section LoopGroup
variable (mode g : Nat) (d : Dev)

theorem keepsLoops_quieted : KeepsLoops d (quietGroup g (if groupSends g then dropReplay g d else d)) :=
  .after (keepsLoops_quietGroup ..) (.ite (keepsLoops_dropReplay g d) (.refl d))

/-- A group in a loop is in state LOOP, one out of it is DOWN; the other groups are as they were. -/
theorem state_loopGroup (h : Nat) :
    attr (loopGroup mode g d) GROUP_STATE h = if h = g then (if mode = 0 then 0 else 6) else attr d GROUP_STATE h := by
  unfold loopGroup
  extract_lets d1 d2 d3 d4
  have down : attr d2 GROUP_STATE h = if h = g then 0 else attr d GROUP_STATE h := by
    rw [((keepsLoops_setAttr ..).after (keepsLoops_setAttr g 0 _)).state, state_setWidth_zero, (keepsLoops_quieted g d).state]
  have lc : KeepsLoops d3 d4 := .ite (.refl d3) (keepsLoops_setLaneState ..)
  have looped : attr d4 GROUP_STATE h = attr d2 GROUP_STATE h := (lc.state h).trans (attr_congr (modLink_attrs ..) _ h)
  split
  · rw [looped, down]
  · have lanes : KeepsLoops (setAttr GROUP_STATE g 6 d4) (forAll (List.range 5) (fun k y => if laneState y g k = 6 then y else setLaneState g k 7 y) (setAttr GROUP_STATE g 6 d4)) :=
      .forAll (fun k e => .ite (.refl e) (keepsLoops_setLaneState ..)) _ _
    rw [lanes.state, attr_setAttr_at, looped, down]
    split <;> rfl

/-- Of the loops and trainings, LANE_LOOP on a group changes this group's loop. -/
theorem links_loopGroup (h : Nat) : (link (loopGroup mode g d) h).loop = (if h = g then mode else (link d h).loop)
    ∧ (link (loopGroup mode g d) h).train = (link d h).train := by
  unfold loopGroup
  extract_lets d1 d2 d3 d4
  have quiet : KeepsLoops d d1 := keepsLoops_quieted g d
  have off : d2.links = d1.links := (setAttr_links ..).trans ((setAttr_links ..).trans (setWidth_links ..))
  have lc : KeepsLoops d3 d4 := .ite (.refl d3) (keepsLoops_setLaneState ..)
  have looped : (link d4 h).loop = (if h = g then mode else (link d h).loop) ∧ (link d4 h).train = (link d h).train := by
    have written : (link d3 h).loop = _ ∧ (link d3 h).train = _ := link_writeLoop mode g d2 h
    rw [link_congr off, quiet.loop, quiet.train] at written
    rwa [lc.loop, lc.train]
  split
  · exact looped
  · have lanes : KeepsLoops (setAttr GROUP_STATE g 6 d4) (forAll (List.range 5) (fun k y => if laneState y g k = 6 then y else setLaneState g k 7 y) (setAttr GROUP_STATE g 6 d4)) :=
      .forAll (fun k e => .ite (.refl e) (keepsLoops_setLaneState ..)) _ _
    rw [lanes.loop, lanes.train, link_congr (setAttr_links ..)]
    exact looped

end LoopGroup

/-- R257: a pair after LANE_LOOP. -/
structure Looped (pair mode : Nat) (d : Dev) : Prop where
  state : ∀ g ∈ [pairTx pair, pairRx pair], attr d GROUP_STATE g = if mode = 0 then 0 else 6
  loop : (link d (pairTx pair)).loop = mode
  train : training d pair = none

theorem looped_setLoop (pair mode : Nat) (d : Dev) : Looped pair mode (setLoop pair mode d) := by
  rw [setLoop_eq]
  generalize he : disarm tkQuickRetrain pair (disarm tkStartPair pair (loopEnds pair d)) = e
  have ended : training e pair = none := by
    rw [← he]
    exact (training_congr (disarm_links ..) pair).trans ((training_congr (disarm_links ..) pair).trans (training_loopEnds ..))
  have after : KeepsLoops (forAll [pairTx pair, pairRx pair] (loopGroup mode) e) _ := .after (keepsLoops_channelDown pair _) (keepsLoops_refreshCharges [] _)
  have other : pairTx pair ≠ pairRx pair := (reverseOf_ne (pairTx pair)).symm
  refine ⟨fun g hg => ?_, ?_, ?_⟩
  · rw [after.state]
    refine forAll_sets (Done := fun g x => attr x GROUP_STATE g = if mode = 0 then 0 else 6) (fun p x => ?_) (fun p q x hx => ?_) _ e g hg
    · rw [state_loopGroup, if_pos rfl]
    · rw [state_loopGroup, hx, ite_self]
  · rw [after.loop, forAll, List.foldl_cons, List.foldl_cons, List.foldl_nil, (links_loopGroup ..).1, if_neg other, (links_loopGroup ..).1, if_pos rfl]
  · exact (after.train _).trans (((links_loopGroup ..).2.trans (links_loopGroup ..).2).trans ended)

/-- R257: LANE_LOOP. -/
theorem laneLoop_loops {pair : Nat} {r : Req} {s : State} (hp : pair ≤ 15) (h0 : byteAt r.params 0 = pair) (ht : Claims.Takes 0x51 r s)
    (hl : r.params.length = 4) (hm : byteAt r.params 1 ≤ 3) (hz : leAt r.params 2 2 = 0) (hpm : pairMapped s.dev pair = false)
    (h5 : pairIn s.dev pair 5 = false) (hown : ownChannel r.master.val pair = false) (hlc : pair < 8 ∨ lcOpen s.dev = true) :
    ∃ t, exec (.laneLoop r) s = .next t ∧ Claims.Replied 0x51 stOk r [] s t ∧ Looped pair (byteAt r.params 1) t.dev ∧ t.mem = s.mem := by
  subst h0
  have body : bodyLaneLoop s.mem (takenCall 0x51 r s) (takenDev 0x51 r s)
      = .done [] (setLoop (byteAt r.params 0) (byteAt r.params 1) (takenDev 0x51 r s)) .keep := by
    unfold bodyLaneLoop
    rw [show (takenCall 0x51 r s).params = r.params from rfl, show (takenCall 0x51 r s).master = r.master.val from rfl]
    extract_lets pair
    rw [need_of (by simp [hp, hm, reservedZero_of hz, pair]), pairMapped_takenDev, pairIn_takenDev, need_of (by simp [hpm, h5, hown, pair]),
      lcOpen_takenDev, need_of (by simpa [pair] using hlc)]
    rfl
  obtain ⟨xs, answered, replied⟩ := issueOut_done ht (by rw [hl]; decide) body
  obtain ⟨state, loop, train⟩ := looped_setLoop (byteAt r.params 0) (byteAt r.params 1) (takenDev 0x51 r s)
  exact ⟨_, answered, replied, ⟨state, loop, train⟩, rfl⟩

/-! ### Idle modes (R258 to R260) -/

theorem idleMode_setIdleMode {pair mode g : Nat} (hm : mode ≤ 2) (d : Dev) (hg : g ∈ [pairTx pair, pairRx pair]) :
    attr (setIdleMode pair mode d) GROUP_IDLE_MODE g = mode := by
  have cut : mode % 2 ^ GROUP_IDLE_MODE.width = mode := Nat.mod_eq_of_lt (Nat.lt_of_le_of_lt hm (by decide))
  refine forAll_sets (Done := fun g x => attr x GROUP_IDLE_MODE g = mode) (fun p x => ?_) (fun p q x hx => ?_) _ d g hg
  · rw [attr_setAttr, cut]
  · rw [attr_setAttr_at, cut, hx, ite_self]

theorem idleMode_exitL0s (g : Nat) (d : Dev) (h : Nat) : attr (exitL0s g d) GROUP_IDLE_MODE h = attr d GROUP_IDLE_MODE h := by
  unfold exitL0s leaveL0s
  split
  · split
    · rw [attr_setAttr_ne _ _ _ _ (by decide) (by decide) (by decide), lanesIdle_keeps (by decide) (by decide), attr_congr (modLink_attrs ..)]
    · exact attr_congr (modLink_attrs ..) _ h
  · rfl

/-- R258: LANE_IDLE ON at a pair that is not in L2. -/
theorem idleOn_sets {pair : Nat} {d : Dev} (h5 : pairIn d pair 5 = false) (c : Call) :
    ∃ e, idleOn pair c d = .done [] e .keep ∧ ∀ g ∈ [pairTx pair, pairRx pair], attr e GROUP_IDLE_MODE g = 0 := by
  unfold idleOn
  extract_lets d1 d2
  have left : ∀ g, attr d2 GROUP_IDLE_MODE g = attr d1 GROUP_IDLE_MODE g := fun g =>
    forAll_keeps (fun e => attr e GROUP_IDLE_MODE g) (fun p e => (idleMode_exitL0s p _ g).trans (attr_disarm tkL0s p e _ g)) _ d1
  rw [h5, if_neg Bool.false_ne_true]
  exact ⟨_, rfl, fun g hg => (left g).trans (idleMode_setIdleMode (by decide) _ hg)⟩

/-- R258: LANE_IDLE ON and L0S set the mode of both groups. -/
theorem laneIdle_sets {pair mode : Nat} {r : Req} {s : State} (hp : pair ≤ 15) (h0 : byteAt r.params 0 = pair) (hm : mode ≤ 1)
    (ht : Claims.Takes 0x53 r s) (hl : r.params.length = 4) (h1 : byteAt r.params 1 = mode) (hz : leAt r.params 2 2 = 0)
    (hon : pairOn s.dev pair = true) (h5 : pairIn s.dev pair 5 = false) :
    ∃ t, exec (.laneIdle r) s = .next t ∧ Claims.Replied 0x53 stOk r [] s t
      ∧ (∀ g ∈ [pairTx pair, pairRx pair], attr t.dev GROUP_IDLE_MODE g = mode) ∧ t.mem = s.mem := by
  obtain ⟨d, body, set⟩ : ∃ d, bodyLaneIdle s.mem (takenCall 0x53 r s) (takenDev 0x53 r s) = .done [] d .keep
      ∧ ∀ g ∈ [pairTx pair, pairRx pair], attr d GROUP_IDLE_MODE g = mode := by
    unfold bodyLaneIdle
    rw [show (takenCall 0x53 r s).params = r.params from rfl, h0, h1]
    have other : (mode != 2) = true := bne_iff_ne.2 (by omega)
    have listed : mode ≤ 2 := by omega
    rw [need_of (by simp [hp, listed, reservedZero_of hz]), pairOn_takenDev, need_of (by simp [hon, other]), need_of (by simp [other]),
      need_of (by simp [other])]
    split
    next h =>
      subst h
      exact idleOn_sets ((pairIn_takenDev ..).trans h5) _
    next h =>
      obtain rfl : mode = 1 := by omega
      rw [if_pos rfl]
      exact ⟨_, rfl, fun g hg => idleMode_setIdleMode (by decide) _ hg⟩
  obtain ⟨xs, answered, replied⟩ := issueOut_done ht (by rw [hl]; decide) body
  exact ⟨_, answered, replied, set, rfl⟩

/-- R260: one group of a pair that stops every lane. -/
def l2Group (g : Nat) (d : Dev) : Dev :=
  let d1 := modLink g (fun x => { x with loop := 0, idleRows := 0, idleCode := 0, tangent := false, sent := [], l2 := none, subReq := none, subAnn := none, rxAnn := none }) (disarm tkL0s g d)
  setLaneState g 5 4 (forAll (List.range 5) (fun k x => if laneState x g k = 6 then x else setLaneState g k 4 x) (setAttr GROUP_STATE g 5 d1))

theorem enterL2_eq (pair : Nat) (d : Dev) : enterL2 pair d = forAll [pairTx pair, pairRx pair] l2Group d := rfl

theorem setAttr_attrs_congr {d e : Dev} (h : e.attrs = d.attrs) (a : Attr) (i v : Nat) : (setAttr a i v e).attrs = (setAttr a i v d).attrs := by
  rw [setAttr, setAttr, h]

/-- A group in L2 is in state 5, and no other group and no other attribute but the states of lanes is changed. -/
theorem attr_l2Group {b : Attr} (hb : b.code ≠ LANE_STATE.code) (hlt : b.code < 2 ^ 24) (g : Nat) (d : Dev) (i : Nat) :
    attr (l2Group g d) b i = attr (setAttr GROUP_STATE g 5 d) b i := by
  have lane : ∀ k v e, attr (setLaneState g k v e) b i = attr e b i := fun k v e => attr_setAttr_ne _ _ _ _ hb (by decide) hlt
  unfold l2Group
  extract_lets d1
  have stopped : attr (setAttr GROUP_STATE g 5 d1) b i = attr (setAttr GROUP_STATE g 5 d) b i := attr_congr (setAttr_attrs_congr (modLink_attrs ..) ..) b i
  refine (lane ..).trans ((forAll_keeps (fun e => attr e b i) (fun k e => ?_) _ _).trans stopped)
  split
  · rfl
  · exact lane ..

theorem state_enterL2 {pair g : Nat} (d : Dev) (hg : g ∈ [pairTx pair, pairRx pair]) : attr (enterL2 pair d) GROUP_STATE g = 5 := by
  rw [enterL2_eq]
  refine forAll_sets (Done := fun g x => attr x GROUP_STATE g = 5) (fun p x => ?_) (fun p q x hx => ?_) _ d g hg
  · rw [attr_l2Group (by decide) (by decide), attr_setAttr]; rfl
  · rw [attr_l2Group (by decide) (by decide), attr_setAttr_at, hx]; exact ite_self 5

theorem idleMode_enterL2 (pair : Nat) (d : Dev) (h : Nat) : attr (enterL2 pair d) GROUP_IDLE_MODE h = attr d GROUP_IDLE_MODE h :=
  forAll_keeps (fun e => attr e GROUP_IDLE_MODE h)
    (fun g e => (attr_l2Group (by decide) (by decide) g e h).trans (attr_setAttr_ne _ _ _ _ (by decide) (by decide) (by decide))) _ d

theorem idleMode_dropTraining (pair : Nat) (d : Dev) (h : Nat) : attr (dropTraining pair d) GROUP_IDLE_MODE h = attr d GROUP_IDLE_MODE h := by
  unfold dropTraining
  split
  · rfl
  · extract_lets d1
    have gone : d1.attrs = d.attrs := (disarm_attrs ..).trans (modLink_attrs ..)
    split
    · exact (attr_setAttr_ne _ _ _ _ (by decide) (by decide) (by decide)).trans (attr_congr gone _ h)
    · exact attr_congr gone _ h

theorem keeps_dropTraining (pair : Nat) (d : Dev) : KeepsLinks (·.l2) d (dropTraining pair d) := by
  unfold dropTraining
  split
  · exact .refl d
  · extract_lets d1
    have gone : KeepsLinks (·.l2) d d1 := .after (.of_links (disarm_links ..)) (keeps_modLink _ _ d)
    split
    · exact .after (.of_links (setAttr_links ..)) gone
    · exact gone

theorem idleMode_noEvent : noEventAttr GROUP_IDLE_MODE := by
  unfold noEventAttr
  decide

/-- R260: an L2 entry that succeeds takes both groups to L2. -/
theorem endL2Entry_enters {pair : Nat} {d : Dev} {j : JobRef} (hl : (link d (pairTx pair)).l2 = some j) :
    (∀ g ∈ [pairTx pair, pairRx pair], attr (endL2Entry pair stOk d) GROUP_STATE g = 5)
      ∧ ∀ g, attr (endL2Entry pair stOk d) GROUP_IDLE_MODE g = attr d GROUP_IDLE_MODE g := by
  obtain ⟨result, h⟩ := endL2Entry_eq hl stOk
  rw [h, if_pos rfl]
  refine ⟨fun g hg => ?_, fun g => ?_⟩
  · exact (attr_complete _ _ _ _ _ _ _ _ _ groupState_noEvent).trans (state_enterL2 _ hg)
  · exact (attr_complete _ _ _ _ _ _ _ _ _ idleMode_noEvent).trans (idleMode_enterL2 ..)

/-- R260: a pair that carries no rows enters L2 at once. -/
theorem idleL2_enters {pair : Nat} {c : Call} {d : Dev} (hr : groupRuns d (pairTx pair) = false) :
    ∃ e, idleL2 pair c d = .accept [] e ∧ (∀ g ∈ [pairTx pair, pairRx pair], attr e GROUP_STATE g = 5) ∧ attr e GROUP_IDLE_MODE (pairTx pair) = 2 := by
  unfold idleL2
  extract_lets tx d1 d2 d3
  have mode : attr d1 GROUP_IDLE_MODE tx = 2 := idleMode_setIdleMode (by decide) _ List.mem_cons_self
  have asked : (link d2 tx).l2 = some (callRef c) := congrArg Link.l2 (link_modLink tx _ d1)
  have marked : d3.attrs = d2.attrs ∧ KeepsLinks (·.l2) d2 d3 := by
    unfold d3
    split
    · exact ⟨rfl, .refl d2⟩
    · exact ⟨modLink_attrs .., keeps_modLink tx _ d2⟩
  have hmode : attr d3 GROUP_IDLE_MODE tx = 2 := (attr_congr (marked.1.trans (modLink_attrs ..)) _ tx).trans mode
  have hl2 : (link d3 tx).l2 = some (callRef c) := (marked.2.part tx).trans asked
  have hl : (link (dropTraining pair d3) tx).l2 = some (callRef c) := ((keeps_dropTraining pair d3).part tx).trans hl2
  obtain ⟨state, kept⟩ := endL2Entry_enters hl
  rw [hr, if_neg Bool.false_ne_true]
  exact ⟨_, rfl, state, ((kept _).trans (idleMode_dropTraining ..)).trans hmode⟩

/-- R260: LANE_IDLE L2 on a pair that carries no rows. -/
theorem laneIdle_l2 {pair : Nat} {r : Req} {s : State} (hp : pair ≤ 15) (h0 : byteAt r.params 0 = pair) (ht : Claims.Takes 0x53 r s)
    (hl : r.params.length = 4) (h1 : byteAt r.params 1 = 2) (hz : leAt r.params 2 2 = 0) (hon : pairOn s.dev pair = true)
    (hpm : pairMapped s.dev pair = false) (h6 : pairIn s.dev pair 6 = false) (htr : pairTraining s.dev pair = false)
    (hl2 : (link s.dev (pairTx pair)).l2 = none) (hown : ownChannel r.master.val pair = false) (hr : groupRuns s.dev (pairTx pair) = false) :
    ∃ t, exec (.laneIdle r) s = .next t ∧ Claims.Replied 0x53 stAccepted r [] s t
      ∧ (∀ g ∈ [pairTx pair, pairRx pair], attr t.dev GROUP_STATE g = 5) ∧ attr t.dev GROUP_IDLE_MODE (pairTx pair) = 2 ∧ t.mem = s.mem := by
  obtain ⟨d, entered, state, mode⟩ := idleL2_enters (c := takenCall 0x53 r s) ((groupRuns_takenDev 0x53 r s (pairTx pair)).trans hr)
  have body : bodyLaneIdle s.mem (takenCall 0x53 r s) (takenDev 0x53 r s) = .accept [] d := by
    unfold bodyLaneIdle
    rw [show (takenCall 0x53 r s).params = r.params from rfl, show (takenCall 0x53 r s).master = r.master.val from rfl, h0, h1]
    rw [need_of (by simp [hp, reservedZero_of hz]), pairOn_takenDev, pairMapped_takenDev, pairIn_takenDev, need_of (by simp [hon, hpm, h6]),
      pairTraining_takenDev, link_takenDev, need_of (by simp [htr, hl2]), need_of (by simp [hown])]
    exact entered
  obtain ⟨xs, answered, replied⟩ := issueOut_accept ht (by rw [hl]; decide) body
  exact ⟨_, answered, replied, state, mode, rfl⟩

/-! ### Pattern runs (R255, R256) -/

/-- The run that a PATTERN_RUN asks for. -/
def requestedRun (r : Req) : PatternRun :=
  ⟨⟨r.master, r.tag.toNat⟩, byteAt r.params 2, byteAt r.params 3, byteAt r.params 4, leAt r.params 6 2, 0, 0, 0, 0, 0, 0, 0⟩

/-- A run begins on a lane for a time. -/
def startRun (l : Nat) (run : PatternRun) (seed ns : Nat) (d : Dev) : Dev :=
  arm tkPattern l ns (setAttr LANE_STATE l 3 (modLane l (fun x => { x with pattern := some run, prbs := seed }) d))

section StartRun
variable (l : Nat) (run : PatternRun) (seed ns : Nat) (d : Dev)

theorem pattern_startRun : (lane (startRun l run seed ns d) l).pattern = some run := by
  rw [startRun, lane_congr (arm_lanes ..), lane_congr (setAttr_lanes ..), lane_modLane]

theorem laneState_startRun : attr (startRun l run seed ns d) LANE_STATE l = 3 := by
  rw [startRun, attr_arm, attr_setAttr]
  rfl

theorem keepsOthers_startRun : KeepsOthers [(LANE_STATE.code, l)] d (startRun l run seed ns d) :=
  ((keepsOthers_of_attrs (modLane_attrs ..)).trans (keepsOthers_setAttr 3 _ (by decide) List.mem_cons_self)).trans (keepsOthers_of_attrs (arm_attrs ..))

end StartRun

theorem bodyPatternRun_starts {l : Nat} {r : Req} {s : State} (h0 : leAt r.params 0 2 = l) (hf : patternFieldsOk r.params = true)
    (hlc : l < 128 ∨ lcOpen s.dev = true ∨ l % 8 = 4) (hp : patternPlace s.dev l (byteAt r.params 2) = true)
    (hs : sliceRegion s.dev (0x300 + l) = false) :
    ∃ seed ns d, bodyPatternRun s.mem (takenCall 0x52 r s) (takenDev 0x52 r s) = .accept [] (startRun l (requestedRun r) seed ns d)
      ∧ d.attrs = (takenDev 0x52 r s).attrs := by
  subst h0
  unfold bodyPatternRun
  rw [show (takenCall 0x52 r s).params = r.params from rfl]
  extract_lets ps l run seed d1
  rw [need_of hf, lcOpen_takenDev, need_of (by simpa [or_assoc] using hlc), patternPlace_takenDev, need_of hp, sliceRegion_takenDev, hs,
    if_neg Bool.false_ne_true]
  exact ⟨seed, _, d1, rfl, modLane_attrs ..⟩

/-- R255: PATTERN_RUN. -/
theorem patternRun_begins {l : Nat} {r : Req} {s : State} (ht : Claims.Takes 0x52 r s) (hlen : r.params.length = 12) (h0 : leAt r.params 0 2 = l)
    (hf : patternFieldsOk r.params = true) (hlc : l < 128 ∨ lcOpen s.dev = true ∨ l % 8 = 4) (hp : patternPlace s.dev l (byteAt r.params 2) = true)
    (hs : sliceRegion s.dev (0x300 + l) = false) :
    ∃ t, exec (.patternRun r) s = .next t ∧ Claims.Replied 0x52 stAccepted r [] s t ∧ (lane t.dev l).pattern = some (requestedRun r)
      ∧ attr t.dev LANE_STATE l = 3 ∧ armed t.dev tkPattern l = true ∧ Claims.KeepsAttrs [(LANE_STATE.code, l)] s t ∧ t.mem = s.mem := by
  obtain ⟨seed, ns, d, body, held⟩ := bodyPatternRun_starts h0 hf hlc hp hs
  obtain ⟨xs, answered, replied⟩ := issueOut_accept ht (by rw [hlen]; decide) body
  have kept : KeepsOthers [(LANE_STATE.code, l)] s.dev (startRun l (requestedRun r) seed ns d) :=
    (keepsOthers_takenDev 0x52 r s).trans ((keepsOthers_of_attrs held).trans (keepsOthers_startRun l _ seed ns d))
  exact ⟨_, answered, replied, pattern_startRun l (requestedRun r) seed ns d, laneState_startRun l (requestedRun r) seed ns d,
    armed_arm tkPattern l ns _, kept, rfl⟩

/-- LANE.STATE of a lane whose pattern run ends: as its group has it (assumption 124). -/
def stateAfterRun (d : Dev) (l : Nat) : Nat :=
  if groupRuns d (l / 8) = false ∧ attr d LANE_STATE l = 3 then (if attr d GROUP_STATE (l / 8) = 6 then 7 else 0) else attr d LANE_STATE l

theorem laneState_noEvent : noEventAttr LANE_STATE := by
  unfold noEventAttr
  decide

/-- R255: a run that ends leaves its lane to the group. -/
theorem endPattern_ends {l : Nat} {d : Dev} {run : PatternRun} (h : (lane d l).pattern = some run) (status cause : Nat) :
    (lane (endPattern l status cause d) l).pattern = none ∧ attr (endPattern l status cause d) LANE_STATE l = stateAfterRun d l := by
  unfold endPattern
  rw [h]
  extract_lets d1 d2
  have off : (lane d1 l).pattern = none := by rw [lane_congr (disarm_lanes ..), lane_modLane]
  have same : d1.attrs = d.attrs := (disarm_attrs ..).trans (modLane_attrs ..)
  have left : d2.lanes = d1.lanes ∧ attr d2 LANE_STATE l = stateAfterRun d l := by
    unfold d2
    split
    next runs => exact ⟨rfl, by rw [stateAfterRun, if_neg (by simp [runs]), attr_congr same]⟩
    next stopped =>
      split
      next ran =>
        refine ⟨setAttr_lanes .., ?_⟩
        rw [stateAfterRun, if_pos (And.intro (Bool.eq_false_of_not_eq_true stopped) ran), attr_setAttr]
        split <;> rfl
      next other => exact ⟨rfl, by rw [stateAfterRun, if_neg fun both => other both.2, attr_congr same]⟩
  exact ⟨by rw [lane_congr (complete_lanes ..), lane_congr left.1, off], (attr_complete _ _ _ _ _ _ _ _ _ laneState_noEvent).trans left.2⟩


/-- R255: the time of a run ends it, with what the far end found added (R256). -/
theorem patternRunEnd_ends {l : Fin 256} {s : State} {run : PatternRun} (found : PatternFound) (hd : due s.dev tkPattern l = true)
    (h : (lane s.dev l).pattern = some run) :
    ∃ t, exec (.patternRunEnd l found) s = .next t ∧ (lane t.dev l).pattern = none ∧ attr t.dev LANE_STATE l = stateAfterRun s.dev l ∧ t.mem = s.mem := by
  have ran : exec (.patternRunEnd l found) s = execPatternRunEnd l found s := rfl
  rw [execPatternRunEnd, exec_onExpiry hd] at ran
  have held : ∀ f : PatternRun → PatternRun,
      (lane (modLane l (fun x => { x with pattern := x.pattern.map f }) (disarm tkPattern l s.dev)) l).pattern = some (f run) := fun f => by
    rw [lane_modLane, lane_congr (disarm_lanes ..), h]
    rfl
  obtain ⟨gone, state⟩ := endPattern_ends (held _) stOk 0
  exact ⟨_, ran, gone, state, rfl⟩
/-- Settles O42. Each command's body is followed on its clause's conditions to one function of the block, whose lemma says what it leaves: a
training in its first phase, a loop (which ends a training under way, assumption 56), the idle mode, L2, or a run; the end of a run leaves its
lane as its group is (assumption 124). -/
theorem pairCommands : Obligations.pair_commands := by
  unfold Obligations.pair_commands
  refine ⟨fun r s pair hp h0 => ⟨?train, ?loop, ?unloop, ?idle, ?l2⟩, fun l s => ⟨?run, ?ends⟩⟩
  case train => exact laneTrain_begins hp h0
  case loop =>
    intro ht hl h1 hm hz hpm h5 hown hlc
    obtain ⟨t, ran, replied, ⟨state, loop, train⟩, hmem⟩ := laneLoop_loops hp h0 ht hl hm hz hpm h5 hown hlc
    have on : byteAt r.params 1 ≠ 0 := by omega
    exact ⟨t, ran, replied, (state _ (by simp)).trans (if_neg on), (state _ (by simp)).trans (if_neg on), loop, train, hmem⟩
  case unloop =>
    intro ht hl h1 hz hpm h5 hown hlc
    obtain ⟨t, ran, replied, ⟨state, loop, train⟩, hmem⟩ := laneLoop_loops hp h0 ht hl (by omega) hz hpm h5 hown hlc
    exact ⟨t, ran, replied, (state _ (by simp)).trans (if_pos h1), (state _ (by simp)).trans (if_pos h1), loop.trans h1, train, hmem⟩
  case idle =>
    intro mode hm ht hl h1 hz hon h5
    obtain ⟨t, ran, replied, set, hmem⟩ := laneIdle_sets hp h0 hm ht hl h1 hz hon h5
    exact ⟨t, ran, replied, set _ (by simp), set _ (by simp), hmem⟩
  case l2 =>
    intro ht hl h1 hz hon hpm h6 htr hl2 hown hr
    obtain ⟨t, ran, replied, state, mode, hmem⟩ := laneIdle_l2 hp h0 ht hl h1 hz hon hpm h6 htr hl2 hown hr
    exact ⟨t, ran, replied, state _ (by simp), state _ (by simp), mode, hmem⟩
  case run => exact fun r ht hl h0 hf hlc hp hs => patternRun_begins ht hl h0 hf hlc hp hs
  case ends => exact fun run found hd h => patternRunEnd_ends found hd h
end Sys2Proof.Machine

namespace Sys2Proof.Machine
/-! ### The provisioning of flows, as a command finds it (R283 to R285) -/

section Taken
variable (op : Nat) (r : Req) (s : State)

theorem flowPort_takenDev (f : Nat) : flowPort (takenDev op r s) f = flowPort s.dev f := by
  simp (disch := decide) only [flowPort, attr_takenDev]

theorem flowDie_takenDev (f : Nat) : flowDie (takenDev op r s) f = flowDie s.dev f := by rw [flowDie, flowPort_takenDev]; rfl

theorem flowCharges_takenDev (f : Nat) : flowCharges (takenDev op r s) f = flowCharges s.dev f := by
  simp (disch := decide) only [flowCharges, flowMap_takenDev, flowDie_takenDev, attr_takenDev]

theorem groupCharged_takenDev (g : Nat) : groupCharged (takenDev op r s) g = groupCharged s.dev g := by
  simp only [groupCharged, usedFlows_takenDev, flowCharges_takenDev]

theorem groupReference_takenDev (g : Nat) : groupReference (takenDev op r s) g = groupReference s.dev g := by
  simp (disch := decide) only [groupReference, attr_takenDev]

theorem hasPath_takenDev (g : Nat) : hasPath (takenDev op r s) g = hasPath s.dev g := by
  simp (disch := decide) only [hasPath, attr_takenDev]

theorem wantedCharges_takenDev (ps : List Byte) (inner die : Nat) : wantedCharges (takenDev op r s) ps inner die = wantedCharges s.dev ps inner die := by
  simp only [wantedCharges, wantedCharges.firstActive, hasPath_takenDev]

theorem shortfall_takenDev (old new : List (Nat × Nat)) (g : Nat) : shortfall (takenDev op r s) old new g = shortfall s.dev old new g := by
  simp only [shortfall, groupCharged_takenDev, groupReference_takenDev]

theorem hostShort_takenDev (old new : List (Nat × Nat)) (ps : List Byte) : hostShort (takenDev op r s) old new ps = hostShort s.dev old new ps := by
  simp only [hostShort, shortfall_takenDev]

theorem innerShort_takenDev (old new : List (Nat × Nat)) (die pair : Nat) (larger : Bool) :
    innerShort (takenDev op r s) old new die pair larger = innerShort s.dev old new die pair larger := by
  simp only [innerShort, shortfall_takenDev]

theorem fittingPairs_takenDev (ps : List Byte) (die : Nat) : fittingPairs (takenDev op r s) ps die = fittingPairs s.dev ps die := by
  simp only [fittingPairs, openPairs, groupState_takenDev, wantedCharges_takenDev, innerShort_takenDev]

theorem choosePair_takenDev (die : Nat) (pairs : List Nat) : choosePair (takenDev op r s) die pairs = choosePair s.dev die pairs := by
  cases pairs with
  | nil => rfl
  | cons q qs => simp only [choosePair, groupCharged_takenDev]

theorem flowOfTarget_takenDev (kind target cls : Nat) : flowOfTarget (takenDev op r s) kind target cls = flowOfTarget s.dev kind target cls := by
  simp (disch := decide) only [flowOfTarget, usedFlows_takenDev, attr_takenDev]

theorem groupsClosed_takenDev (ps : List Byte) : groupsClosed (takenDev op r s) ps = groupsClosed s.dev ps := by
  simp only [groupsClosed, groupState_takenDev]

end Taken

/-! ### What the reply to a command leaves of the block (R310) -/

/-- The state after a reply: attributes, flows and limits are as the command's definition left them, and memory is as it was. -/
structure Answered (d : Dev) (s t : State) : Prop where
  attrs : t.dev.attrs = d.attrs
  flows : t.dev.flows = d.flows
  timers : t.dev.timers = d.timers
  mem : t.mem = s.mem

theorem Answered.attr {d : Dev} {s t : State} (h : Answered d s t) (a : Attr) (i : Nat) : attr t.dev a i = attr d a i := attr_congr h.attrs a i

section Commands
variable {op : Nat} {f : Body} {r : Req} {s : State} {x : List Byte} {d : Dev}

theorem issueOut_done_answered (ht : Claims.Takes op r s) (hl : (paramRange op).1 ≤ r.params.length ∧ r.params.length ≤ (paramRange op).2)
    (hb : f s.mem (takenCall op r s) (takenDev op r s) = .done x d .keep) :
    ∃ t, issueOut op f r s = .next t ∧ Claims.Replied op stOk r x s t ∧ Answered d s t := by
  obtain ⟨xs, answered, replied⟩ := issueOut_done ht hl hb
  exact ⟨_, answered, replied, rfl, rfl, rfl, rfl⟩

theorem issueOut_accept_answered (ht : Claims.Takes op r s) (hl : (paramRange op).1 ≤ r.params.length ∧ r.params.length ≤ (paramRange op).2)
    (hb : f s.mem (takenCall op r s) (takenDev op r s) = .accept x d) :
    ∃ t, issueOut op f r s = .next t ∧ Claims.Replied op stAccepted r x s t ∧ Answered d s t := by
  obtain ⟨xs, answered, replied⟩ := issueOut_accept ht hl hb
  exact ⟨_, answered, replied, rfl, rfl, rfl, rfl⟩

end Commands

/-! ### What a change of the charges leaves alone (R284, R286, R287) -/

/-- The charges are written as attributes and told as events: what both keep, a change of the charges keeps. -/
theorem refreshCharges_preserves {P : Dev → Prop} (hset : ∀ a i v e, P e → P (setAttr a i v e)) (hraise : ∀ cls i type x e, P e → P (raise cls i type x e))
    (ports : List Nat) {d : Dev} (h : P d) : P (refreshCharges ports d) := by
  have each : ∀ {g : Nat → Dev → Dev}, (∀ k e, P e → P (g k e)) → ∀ (l : List Nat) e, P e → P (forAll l g e) := by
    intro g hg l
    induction l with
    | nil => exact fun _ he => he
    | cons k l ih => exact fun e he => ih _ (hg k e he)
  refine each (fun p e he => ?sums) ports _ (each (fun g e he => ?group) _ d h)
  case sums =>
    unfold refreshPortSums refreshOversub
    extract_lets carry rx tx d1
    have summed : P d1 := hset _ _ _ _ (hset _ _ _ _ (hset _ _ _ _ he))
    split
    · exact hraise _ _ _ _ _ summed
    · exact summed
  case group =>
    unfold refreshGroup
    extract_lets c short d1
    have charged : P d1 := hset _ _ _ _ (hset _ _ _ _ he)
    split
    · exact hraise _ _ _ _ _ charged
    · exact charged

@[simp] theorem refreshCharges_flows (ports : List Nat) (d : Dev) : (refreshCharges ports d).flows = d.flows :=
  refreshCharges_preserves (P := fun e => e.flows = d.flows) (fun _ _ _ _ he => he) (fun _ _ _ _ _ he => (raise_flows ..).trans he) ports rfl

theorem keepsLimits_refreshCharges (ports : List Nat) (d : Dev) : KeepsLimits d (refreshCharges ports d) :=
  refreshCharges_preserves (P := KeepsLimits d) (fun _ _ _ _ he => he.trans (keepsLimits_of_timers rfl))
    (fun cls i type x e he => he.trans (keepsLimits_raise cls i type x e)) ports (KeepsLimits.refl d)

/-- An attribute that a change of the charges does not write. -/
theorem attr_refreshCharges {b : Attr} (hb : Steady b) (ports : List Nat) (d : Dev) (i : Nat) : attr (refreshCharges ports d) b i = attr d b i :=
  (LinkFrame.refreshCharges ports d).attrs b hb i

theorem flow_congr {d e : Dev} (h : e.flows = d.flows) (f : Nat) : flow e f = flow d f := by rw [flow, flow, h]

theorem steady_flowState : Steady FLOW_STATE := ⟨by decide, by decide⟩
theorem steady_flowKind : Steady FLOW_KIND := ⟨by decide, by decide⟩
theorem steady_flowTarget : Steady FLOW_TARGET := ⟨by decide, by decide⟩
theorem steady_flowClass : Steady FLOW_CLASS := ⟨by decide, by decide⟩
theorem steady_flowMap : Steady FLOW_MAP := ⟨by decide, by decide⟩
theorem steady_flowActiveHost : Steady FLOW_ACTIVE_HOST := ⟨by decide, by decide⟩
theorem steady_flowInner : Steady FLOW_INNER := ⟨by decide, by decide⟩
theorem steady_flowFlags : Steady FLOW_FLAGS := ⟨by decide, by decide⟩
theorem steady_flowFrameHint : Steady FLOW_FRAME_HINT := ⟨by decide, by decide⟩
theorem steady_flowRateToHost : Steady FLOW_RATE_TO_HOST := ⟨by decide, by decide⟩
theorem steady_flowRateFromHost : Steady FLOW_RATE_FROM_HOST := ⟨by decide, by decide⟩
theorem steady_flowFramesToHost : Steady FLOW_FRAMES_TO_HOST := ⟨by decide, by decide⟩

/-! ### The map of a flow (R291, R292) -/

theorem byteAt_lt (ps : List Byte) (i : Nat) : byteAt ps i < 256 := (ps.getD i 0#8).isLt

theorem leAt_lt (ps : List Byte) (i n : Nat) : leAt ps i n < 256 ^ n := by
  induction n generalizing i with
  | zero => exact Nat.one_pos
  | succ n ih =>
    have low := byteAt_lt ps i
    have high := ih (i + 1)
    rw [leAt, Nat.pow_succ]
    omega

/-- The attributes that hold the map of a flow and what follows from it. -/
def mapAttrs : List Attr :=
  [FLOW_MAP, FLOW_FLAGS, FLOW_FRAME_HINT, FLOW_RATE_TO_HOST, FLOW_RATE_FROM_HOST, FLOW_CHARGE_TO_HOST, FLOW_CHARGE_FROM_HOST, FLOW_ACTIVE_HOST]

/-- The map of a flow as bytes 5 to 19 of FLOW_OPEN and FLOW_MAP give it. -/
structure Mapped (ps : List Byte) (f : Nat) (d : Dev) : Prop where
  map : attr d FLOW_MAP f = leAt ps 5 4
  flags : attr d FLOW_FLAGS f = byteAt ps 9
  hint : attr d FLOW_FRAME_HINT f = leAt ps 10 2
  toHost : attr d FLOW_RATE_TO_HOST f = leAt ps 12 4
  fromHost : attr d FLOW_RATE_FROM_HOST f = leAt ps 16 4

theorem mapped_writeMap (ps : List Byte) (f : Nat) (d : Dev) : Mapped ps f (writeMap ps f d) := by
  constructor <;> simp (disch := decide) only [writeMap, attr_setAttr_ne, attr_setAttr]
  · exact Nat.mod_eq_of_lt (leAt_lt ps 5 4)
  · exact Nat.mod_eq_of_lt (byteAt_lt ps 9)
  · exact Nat.mod_eq_of_lt (leAt_lt ps 10 2)
  · exact Nat.mod_eq_of_lt (leAt_lt ps 12 4)
  · exact Nat.mod_eq_of_lt (leAt_lt ps 16 4)

theorem attr_writeMap {b : Attr} (hb : b.code < 2 ^ 24) (hn : b.code ∉ mapAttrs.map Attr.code) (ps : List Byte) (f : Nat) (d : Dev) (i : Nat) :
    attr (writeMap ps f d) b i = attr d b i := by
  simp only [mapAttrs, List.map_cons, List.map_nil, List.mem_cons, List.not_mem_nil, or_false, not_or] at hn
  obtain ⟨h1, h2, h3, h4, h5, h6, h7, h8⟩ := hn
  unfold writeMap
  rw [attr_setAttr_ne _ _ _ _ h8 (by decide) hb, attr_setAttr_ne _ _ _ _ h7 (by decide) hb, attr_setAttr_ne _ _ _ _ h6 (by decide) hb,
    attr_setAttr_ne _ _ _ _ h5 (by decide) hb, attr_setAttr_ne _ _ _ _ h4 (by decide) hb, attr_setAttr_ne _ _ _ _ h3 (by decide) hb,
    attr_setAttr_ne _ _ _ _ h2 (by decide) hb, attr_setAttr_ne _ _ _ _ h1 (by decide) hb]

theorem Mapped.congr {ps : List Byte} {f : Nat} {d e : Dev} (h : Mapped ps f d) (he : ∀ b, Steady b → attr e b f = attr d b f) : Mapped ps f e where
  map := (he _ steady_flowMap).trans h.map
  flags := (he _ steady_flowFlags).trans h.flags
  hint := (he _ steady_flowFrameHint).trans h.hint
  toHost := (he _ steady_flowRateToHost).trans h.toHost
  fromHost := (he _ steady_flowRateFromHost).trans h.fromHost

/-! ### FLOW_OPEN (R291) -/

/-- The conditions under which FLOW_OPEN takes context `f`, the pairs that fit being `q :: qs` of a die. -/
structure Openable (d : Dev) (ps : List Byte) (f q : Nat) (qs : List Nat) (die : Nat) : Prop where
  context : f < 1024
  wanted : leAt ps 0 2 = f ∨ leAt ps 0 2 = 0xFFFF ∧ ∀ g < f, attr d FLOW_STATE g ≠ 0
  free : attr d FLOW_STATE f = 0
  target : byteAt ps 2 = 0 ∧ byteAt ps 3 ≤ 127 ∧ byteAt ps 4 ≤ 8 ∧ die = dieOf (byteAt ps 3)
    ∨ byteAt ps 2 = 1 ∧ byteAt ps 3 ≤ 31 ∧ 9 ≤ byteAt ps 4 ∧ byteAt ps 4 ≤ 12 ∧ chordBound d (byteAt ps 3) = true
      ∧ die = dieOf ((chordPorts d (byteAt ps 3)).headD 0)
  fields : mapFieldsOk ps = true
  groups : groupsClosed d ps = false
  unopened : flowOfTarget d (byteAt ps 2) (byteAt ps 3) (byteAt ps 4) = none
  host : hostShort d [] (wantedCharges d ps 0xFF die) ps = none
  pairs : fittingPairs d ps die = q :: qs

namespace Openable
variable {d : Dev} {ps : List Byte} {f q die : Nat} {qs : List Nat}

theorem taken {s : State} (h : Openable s.dev ps f q qs die) (op : Nat) (r : Req) : Openable (takenDev op r s) ps f q qs die := by
  have state : ∀ g, attr (takenDev op r s) FLOW_STATE g = attr s.dev FLOW_STATE g := fun g => attr_takenDev op r s _ g (by decide) (by decide) (by decide)
  refine { h with wanted := ?_, free := (state f).trans h.free, target := ?_, groups := ?_, unopened := ?_, host := ?_, pairs := ?_ }
  · simpa only [state] using h.wanted
  · simpa only [chordBound_takenDev, chordPorts_takenDev] using h.target
  · rw [groupsClosed_takenDev, h.groups]
  · rw [flowOfTarget_takenDev, h.unopened]
  · rw [hostShort_takenDev, wantedCharges_takenDev, h.host]
  · rw [fittingPairs_takenDev, h.pairs]

/-- R291: the context asked for, or the lowest free one. -/
theorem found (h : Openable d ps f q qs die) : ¬(leAt ps 0 2 ≠ 0xFFFF ∧ attr d FLOW_STATE (leAt ps 0 2) ≠ 0)
    ∧ (if leAt ps 0 2 = 0xFFFF then (List.range 1024).find? fun g => attr d FLOW_STATE g == 0 else some (leAt ps 0 2)) = some f := by
  have small := h.context
  rcases h.wanted with named | ⟨any, lower⟩
  · have given : leAt ps 0 2 ≠ 0xFFFF := by omega
    exact ⟨fun k => k.2 (by rw [named, h.free]), by rw [if_neg given, named]⟩
  · refine ⟨fun k => k.1 any, ?_⟩
    rw [if_pos any, List.find?_range_eq_some]
    exact ⟨by simp [h.free], List.mem_range.2 small, fun g hg => by simpa using lower g hg⟩

theorem die_eq (h : Openable d ps f q qs die) : dieOf (if byteAt ps 2 = 0 then byteAt ps 3 else (chordPorts d (byteAt ps 3)).headD 0) = die := by
  rcases h.target with ⟨port, -, -, hd⟩ | ⟨chord, -, -, -, -, hd⟩
  · rw [if_pos port, hd]
  · rw [if_neg (by omega), hd]

/-- R291: the fields in range. -/
theorem inRange (h : Openable d ps f q qs die) :
    ((decide (leAt ps 0 2 ≤ 1023) || leAt ps 0 2 == 0xFFFF) && decide (byteAt ps 2 ≤ 1) && mapFieldsOk ps
      && (if byteAt ps 2 = 0 then decide (byteAt ps 3 ≤ 127) && decide (byteAt ps 4 ≤ 8)
          else decide (byteAt ps 3 ≤ 31) && decide (9 ≤ byteAt ps 4) && decide (byteAt ps 4 ≤ 12))) = true := by
  have small := h.context
  have context : (decide (leAt ps 0 2 ≤ 1023) || leAt ps 0 2 == 0xFFFF) = true := by
    rcases h.wanted with named | ⟨any, -⟩
    · rw [decide_eq_true (by omega), Bool.true_or]
    · rw [any]; rfl
  rw [context, h.fields]
  rcases h.target with ⟨port, hp, hc, -⟩ | ⟨chord, hp, hl, hc, -⟩
  · simp [port, hp, hc]
  · simp [chord, hp, hl, hc]

/-- R291: the chord bound, the groups named open, and an inner pair of the die out of L2. -/
theorem ready (h : Openable d ps f q qs die) :
    ((byteAt ps 2 == 0 || chordBound d (byteAt ps 3)) && !groupsClosed d ps && !(openPairs d die).isEmpty) = true := by
  have bound : (byteAt ps 2 == 0 || chordBound d (byteAt ps 3)) = true := by
    rcases h.target with ⟨port, -⟩ | ⟨-, -, -, -, bound, -⟩
    · simp [port]
    · simp [bound]
  have pair : q ∈ openPairs d die := List.mem_of_mem_filter (by rw [← fittingPairs, h.pairs]; exact List.mem_cons_self)
  rw [bound, h.groups, List.isEmpty_eq_false_iff.2 (List.ne_nil_of_mem pair)]
  rfl

theorem bodyFlowOpen_eq {c : Call} (h : Openable d c.params f q qs die) (mem : List Host.Cell) :
    bodyFlowOpen mem c d = okResult (toLE f 2 ++ [byteOf (choosePair d die (q :: qs)),
      byteOf (attr (openFlow c.params f (choosePair d die (q :: qs)) d) FLOW_MEMBER f)]) (openFlow c.params f (choosePair d die (q :: qs)) d) := by
  obtain ⟨free, context⟩ := h.found
  unfold bodyFlowOpen
  extract_lets ps want kind target cls chosen
  rw [need_of h.inRange, h.die_eq, need_of h.ready, if_neg free, h.unopened]
  dsimp only
  rw [context]
  dsimp only
  rw [show chosen = die from h.die_eq, h.host]
  dsimp only
  rw [h.pairs]

end Openable

/-- A new context before its map is written. -/
def newContext (ps : List Byte) (f pair : Nat) (d : Dev) : Dev :=
  setAttr FLOW_INNER f pair (setAttr FLOW_CLASS f (byteAt ps 4) (setAttr FLOW_TARGET f (byteAt ps 3) (setAttr FLOW_KIND f (byteAt ps 2)
    (setAttr FLOW_STATE f 1 (modFlow f (fun _ => {}) (resetAttrs flowAttrs f d))))))

/-- What FLOW_OPEN writes is in the new context, or is its member of a chord or its map. -/
theorem attr_openFlow {b : Attr} (hb : Steady b) (hn : b.code ∉ mapAttrs.map Attr.code) (ps : List Byte) (f pair : Nat) (d : Dev) :
    attr (openFlow ps f pair d) b f = attr (newContext ps f pair d) b f := by
  have code : b.code ≠ FLOW_MEMBER.code := hb.code_ne (by decide)
  unfold openFlow
  extract_lets kind target d1 d2 d3 d4
  rw [attr_refreshCharges hb, attr_congr (forAll_keeps Dev.attrs (fun p e => setFlowEntry_attrs p _ f e) _ d4), attr_writeMap hb.1 hn]
  exact attr_ite (attr_setAttr_ne _ _ _ _ code (by decide) hb.1) rfl

theorem mapped_openFlow (ps : List Byte) (f pair : Nat) (d : Dev) : Mapped ps f (openFlow ps f pair d) := by
  unfold openFlow
  extract_lets kind target d1 d2 d3 d4
  refine (mapped_writeMap ps f d3).congr fun b hb => ?_
  rw [attr_refreshCharges hb, attr_congr (forAll_keeps Dev.attrs (fun p e => setFlowEntry_attrs p _ f e) _ d4)]

/-- R291: the context of a flow just opened. -/
theorem openFlow_opens (ps : List Byte) (f pair : Nat) (d : Dev) :
    attr (openFlow ps f pair d) FLOW_STATE f = 1 ∧ attr (openFlow ps f pair d) FLOW_KIND f = byteAt ps 2
      ∧ attr (openFlow ps f pair d) FLOW_TARGET f = byteAt ps 3 ∧ attr (openFlow ps f pair d) FLOW_CLASS f = byteAt ps 4
      ∧ attr (openFlow ps f pair d) FLOW_INNER f = pair % 256 := by
  rw [attr_openFlow steady_flowState (by decide), attr_openFlow steady_flowKind (by decide), attr_openFlow steady_flowTarget (by decide),
    attr_openFlow steady_flowClass (by decide), attr_openFlow steady_flowInner (by decide)]
  simp (disch := decide) only [newContext, attr_setAttr_ne, attr_setAttr]
  exact ⟨rfl, Nat.mod_eq_of_lt (byteAt_lt ps 2), Nat.mod_eq_of_lt (byteAt_lt ps 3), Nat.mod_eq_of_lt (byteAt_lt ps 4), rfl⟩

/-- R291: FLOW_OPEN. -/
theorem flowOpen_opens {r : Req} {s : State} {f q die : Nat} {qs : List Nat} (ht : Claims.Takes 0x40 r s) (hl : r.params.length = 20)
    (h : Openable s.dev r.params f q qs die) :
    ∃ t, exec (.flowOpen r) s = .next t ∧ attr t.dev FLOW_STATE f = 1 ∧ attr t.dev FLOW_KIND f = byteAt r.params 2
      ∧ attr t.dev FLOW_TARGET f = byteAt r.params 3 ∧ attr t.dev FLOW_CLASS f = byteAt r.params 4 ∧ attr t.dev FLOW_MAP f = leAt r.params 5 4
      ∧ attr t.dev FLOW_FLAGS f = byteAt r.params 9 ∧ attr t.dev FLOW_INNER f = choosePair s.dev die (q :: qs) % 256
      ∧ Claims.Replied 0x40 stOk r (toLE f 2 ++ [byteOf (choosePair s.dev die (q :: qs)), byteOf (attr t.dev FLOW_MEMBER f)]) s t ∧ t.mem = s.mem := by
  have body := (h.taken 0x40 r).bodyFlowOpen_eq (c := takenCall 0x40 r s) s.mem
  rw [choosePair_takenDev, show (takenCall 0x40 r s).params = r.params from rfl] at body
  obtain ⟨t, ran, replied, after⟩ := issueOut_done_answered ht (by rw [hl]; decide) body
  obtain ⟨state, kind, target, cls, inner⟩ := openFlow_opens r.params f (choosePair s.dev die (q :: qs)) (takenDev 0x40 r s)
  have mapped := mapped_openFlow r.params f (choosePair s.dev die (q :: qs)) (takenDev 0x40 r s)
  rw [← after.attr] at state kind target cls inner replied
  exact ⟨t, ran, state, kind, target, cls, (after.attr ..).trans mapped.map, (after.attr ..).trans mapped.flags, inner, replied, after.mem⟩

/-! ### FLOW_MAP (R292) -/

theorem returnTimer_attrs (g f : Nat) (d : Dev) : (returnTimer g f d).attrs = d.attrs := by
  unfold returnTimer
  split_ifs
  · exact disarm_attrs ..
  · rfl
  · exact arm_attrs ..
  · rfl

/-- R292: a flow with another map; its frames begin anew where a group is active for it no more. -/
def remapped (ps : List Byte) (f : Nat) (d : Dev) : Dev :=
  let gone := ((activeSet d f).filter fun g => decide (g < 8)).filter fun g => !(activeSet (writeMap ps f d) f).contains g
  refreshCharges [flowPort d f] (returnTimer (flowMap (writeMap ps f d) f 0) f (disarm tkFailover f
    (if gone = [] then writeMap ps f d else modFlow f (fun x => { x with hostEra := x.hostEra + 1 }) (writeMap ps f d))))

theorem attr_remapped {b : Attr} (hb : Steady b) (ps : List Byte) (f : Nat) (d : Dev) (i : Nat) :
    attr (remapped ps f d) b i = attr (writeMap ps f d) b i := by
  unfold remapped
  extract_lets gone
  rw [attr_refreshCharges hb, attr_congr (returnTimer_attrs ..), attr_disarm]
  exact attr_ite rfl (attr_congr (modFlow_attrs ..) b i)

theorem bodyFlowMap_maps {c : Call} {d : Dev} {f : Nat} (hf : f < 1024) (h0 : leAt c.params 0 2 = f) (hz : leAt c.params 2 3 = 0)
    (hm : mapFieldsOk c.params = true) (hg : groupsClosed d c.params = false) (hs : attr d FLOW_STATE f = 1)
    (hh : hostShort d (flowCharges d f) (wantedCharges d c.params (attr d FLOW_INNER f) (flowDie d f)) c.params = none)
    (hi : innerShort d (flowCharges d f) (wantedCharges d c.params (attr d FLOW_INNER f) (flowDie d f)) (flowDie d f) (attr d FLOW_INNER f) false = none)
    (mem : List Host.Cell) : bodyFlowMap mem c d = okDev (remapped c.params f d) := by
  have small : f ≤ 1023 := by omega
  unfold bodyFlowMap
  dsimp only
  rw [h0, need_of (by simp [small, reservedZero_of hz, hm]), need_of (by simp [hg, hs]), hh]
  dsimp only
  rw [hi]
  rfl

/-- R292: FLOW_MAP. -/
theorem flowMap_maps {r : Req} {s : State} {f : Nat} (hf : f < 1024) (ht : Claims.Takes 0x42 r s) (hl : r.params.length = 20)
    (h0 : leAt r.params 0 2 = f) (hz : leAt r.params 2 3 = 0) (hm : mapFieldsOk r.params = true) (hg : groupsClosed s.dev r.params = false)
    (hs : attr s.dev FLOW_STATE f = 1)
    (hh : hostShort s.dev (flowCharges s.dev f) (wantedCharges s.dev r.params (attr s.dev FLOW_INNER f) (flowDie s.dev f)) r.params = none)
    (hi : innerShort s.dev (flowCharges s.dev f) (wantedCharges s.dev r.params (attr s.dev FLOW_INNER f) (flowDie s.dev f)) (flowDie s.dev f)
      (attr s.dev FLOW_INNER f) false = none) :
    ∃ t, exec (.flowMap r) s = .next t ∧ Claims.Replied 0x42 stOk r [] s t ∧ attr t.dev FLOW_STATE f = 1 ∧ Mapped r.params f t.dev ∧ t.mem = s.mem := by
  have state : attr (takenDev 0x42 r s) FLOW_STATE f = 1 := (attr_takenDev 0x42 r s _ f (by decide) (by decide) (by decide)).trans hs
  have inner : attr (takenDev 0x42 r s) FLOW_INNER f = attr s.dev FLOW_INNER f := attr_takenDev 0x42 r s _ f (by decide) (by decide) (by decide)
  have body := bodyFlowMap_maps (c := takenCall 0x42 r s) (d := takenDev 0x42 r s) hf h0 hz hm ((groupsClosed_takenDev ..).trans hg) state
    (by rw [hostShort_takenDev, flowCharges_takenDev, wantedCharges_takenDev, inner, flowDie_takenDev]; exact hh)
    (by rw [innerShort_takenDev, flowCharges_takenDev, wantedCharges_takenDev, inner, flowDie_takenDev]; exact hi) s.mem
  obtain ⟨t, ran, replied, after⟩ := issueOut_done_answered ht (by rw [hl]; decide) body
  have kept : attr (remapped r.params f (takenDev 0x42 r s)) FLOW_STATE f = 1 :=
    (attr_remapped steady_flowState ..).trans ((attr_writeMap (by decide) (by decide) ..).trans state)
  have mapped : Mapped r.params f t.dev := (mapped_writeMap r.params f (takenDev 0x42 r s)).congr fun b hb =>
    (after.attr b f).trans (attr_remapped hb ..)
  exact ⟨t, ran, replied, (after.attr ..).trans kept, mapped, after.mem⟩

/-! ### FLOW_CLOSE and the end of a drain (R293) -/

theorem attr_resetAttrs_ne {as : List Attr} {a : Attr} (ha : a.code < 2 ^ 24) (hlt : ∀ b ∈ as, b.code < 2 ^ 24) (hn : a.code ∉ as.map Attr.code)
    (i : Nat) (d : Dev) : attr (resetAttrs as i d) a i = attr d a i := by
  induction as generalizing d with
  | nil => rfl
  | cons b as ih =>
    rw [List.map_cons, List.mem_cons, not_or] at hn
    obtain ⟨first, rest⟩ := hn
    exact (ih (fun x hx => hlt x (List.mem_cons_of_mem b hx)) rest _).trans (attr_setAttr_ne _ _ _ _ first (hlt b List.mem_cons_self) ha)

/-- Each attribute of a list of different ones reads its Reset column once the list is reset. -/
theorem attr_resetAttrs_mem {as : List Attr} {a : Attr} (ha : a ∈ as) (hlt : ∀ b ∈ as, b.code < 2 ^ 24) (hd : (as.map Attr.code).Nodup) (i : Nat) (d : Dev) :
    attr (resetAttrs as i d) a i = a.reset i % 2 ^ a.width := by
  induction as generalizing d with
  | nil => exact absurd ha List.not_mem_nil
  | cons b as ih =>
    have later : ∀ x ∈ as, x.code < 2 ^ 24 := fun x hx => hlt x (List.mem_cons_of_mem b hx)
    obtain ⟨alone, rest⟩ := List.nodup_cons.1 hd
    rcases List.mem_cons.1 ha with rfl | ha
    · exact (attr_resetAttrs_ne (hlt a List.mem_cons_self) later alone i _).trans (attr_setAttr ..)
    · exact ih ha later rest _

theorem flowAttrs_code_lt : ∀ a ∈ flowAttrs, a.code < 2 ^ 24 := by decide

theorem flowAttrs_nodup : (flowAttrs.map Attr.code).Nodup := by decide

/-- R293: a context that is free again reads its Reset column, in what no later change of the charges can touch. -/
theorem attr_freeFlow {a : Attr} (ha : a ∈ flowAttrs) (hs : Steady a) (f : Nat) (d : Dev) : attr (freeFlow f d) a f = a.reset f % 2 ^ a.width := by
  unfold freeFlow
  extract_lets cls p ps d1 d2
  rw [attr_refreshCharges hs, attr_resetAttrs_mem ha flowAttrs_code_lt flowAttrs_nodup]

theorem mem_flowAttrs {a : Attr} (h : a ∈ catalogue6) (hc : a.cls = clsFlow) : a ∈ flowAttrs :=
  List.mem_filter.2 ⟨by simp [catalogue, h], by simp [hc]⟩

theorem flowState_mem : FLOW_STATE ∈ flowAttrs := mem_flowAttrs (by simp [catalogue6]) rfl

theorem flowFramesToHost_mem : FLOW_FRAMES_TO_HOST ∈ flowAttrs := mem_flowAttrs (by simp [catalogue6]) rfl

theorem state_freeFlow (f : Nat) (d : Dev) : attr (freeFlow f d) FLOW_STATE f = 0 := attr_freeFlow flowState_mem steady_flowState f d

/-- R293: a drain ends with its context free. -/
theorem state_endDrain {f : Nat} {d : Dev} (h : attr d FLOW_STATE f = 2) (status : Nat) : attr (endDrain f status d) FLOW_STATE f = 0 := by
  rw [endDrain, if_pos h, state_freeFlow]

/-- R293: a flow that drains. -/
def draining (c : Call) (f : Nat) (d : Dev) : Dev :=
  arm tkDrain f (10 * nsPerMs) (modFlow f (fun x => { x with drain := some (callRef c) }) (setAttr FLOW_STATE f 2 (addJob c d)))

section Close
variable {r : Req} {s : State} {f : Nat}

theorem attr_draining (c : Call) (f : Nat) (d : Dev) (a : Attr) (i : Nat) : attr (draining c f d) a i = attr (setAttr FLOW_STATE f 2 (addJob c d)) a i := by
  rw [draining, attr_arm, attr_congr (modFlow_attrs ..)]

theorem keepsOthers_draining (c : Call) (f : Nat) (d : Dev) : KeepsOthers [(FLOW_STATE.code, f)] d (draining c f d) := by
  have jobs : KeepsOthers [(FLOW_STATE.code, f)] d (addJob c d) := keepsOthers_of_attrs rfl
  intro a i ha hc hn
  rw [attr_draining]
  exact (jobs.trans (keepsOthers_setAttr 2 _ (by decide) List.mem_cons_self)) a i ha hc hn

theorem bodyFlowClose_eq {c : Call} {d : Dev} (hf : f < 1024) (h0 : leAt c.params 0 2 = f) (h2 : byteAt c.params 2 ≤ 1) (h3 : byteAt c.params 3 = 0)
    (hs : attr d FLOW_STATE f = 1) (mem : List Host.Cell) :
    bodyFlowClose mem c d = if byteAt c.params 2 = 1 then okDev (freeFlow f d) else .accept [] (draining c f d) := by
  have small : f ≤ 1023 := by omega
  unfold bodyFlowClose
  dsimp only
  rw [h0, need_of (by simp [small, h2, reservedZero_one h3]), need_of (by simp [hs])]
  rfl

theorem flowClose_drains (hf : f < 1024) (ht : Claims.Takes 0x41 r s) (hl : r.params.length = 4) (h0 : leAt r.params 0 2 = f)
    (h3 : byteAt r.params 3 = 0) (hs : attr s.dev FLOW_STATE f = 1) (h2 : byteAt r.params 2 = 0) :
    ∃ t, exec (.flowClose r) s = .next t ∧ Claims.Replied 0x41 stAccepted r [] s t ∧ attr t.dev FLOW_STATE f = 2
      ∧ armed t.dev tkDrain f = true ∧ (flow t.dev f).drain = some ⟨r.master, r.tag.toNat⟩ ∧ Claims.KeepsAttrs [(FLOW_STATE.code, f)] s t ∧ t.mem = s.mem := by
  have state : attr (takenDev 0x41 r s) FLOW_STATE f = 1 := (attr_takenDev 0x41 r s _ f (by decide) (by decide) (by decide)).trans hs
  have body := bodyFlowClose_eq (c := takenCall 0x41 r s) hf h0 (h2.trans_le (by decide)) h3 state s.mem
  rw [show (takenCall 0x41 r s).params = r.params from rfl, if_neg (by omega)] at body
  obtain ⟨t, ran, replied, after⟩ := issueOut_accept_answered ht (by rw [hl]; decide) body
  have kept : KeepsOthers [(FLOW_STATE.code, f)] s.dev (draining (takenCall 0x41 r s) f (takenDev 0x41 r s)) :=
    (keepsOthers_takenDev 0x41 r s).trans (keepsOthers_draining (takenCall 0x41 r s) f (takenDev 0x41 r s))
  refine ⟨t, ran, replied, ?_, ?_, ?_, kept.trans (keepsOthers_of_attrs after.attrs), after.mem⟩
  · rw [after.attr, attr_draining, attr_setAttr]
    rfl
  · rw [armed_congr after.timers, draining, armed_arm]
  · rw [flow_congr after.flows, draining, flow_congr (arm_flows ..), flow_modFlow]
    rfl

theorem flowClose_frees (hf : f < 1024) (ht : Claims.Takes 0x41 r s) (hl : r.params.length = 4) (h0 : leAt r.params 0 2 = f)
    (h3 : byteAt r.params 3 = 0) (hs : attr s.dev FLOW_STATE f = 1) (h2 : byteAt r.params 2 = 1) :
    ∃ t, exec (.flowClose r) s = .next t ∧ Claims.Replied 0x41 stOk r [] s t ∧ attr t.dev FLOW_STATE f = 0
      ∧ attr t.dev FLOW_FRAMES_TO_HOST f = 0 ∧ t.mem = s.mem := by
  have state : attr (takenDev 0x41 r s) FLOW_STATE f = 1 := (attr_takenDev 0x41 r s _ f (by decide) (by decide) (by decide)).trans hs
  have body := bodyFlowClose_eq (c := takenCall 0x41 r s) hf h0 h2.le h3 state s.mem
  rw [show (takenCall 0x41 r s).params = r.params from rfl, if_pos h2] at body
  obtain ⟨t, ran, replied, after⟩ := issueOut_done_answered ht (by rw [hl]; decide) body
  exact ⟨t, ran, replied, (after.attr ..).trans (state_freeFlow ..),
    (after.attr ..).trans (attr_freeFlow flowFramesToHost_mem steady_flowFramesToHost ..), after.mem⟩

end Close

section Drain
variable {s : State} {f : Fin 1024}

theorem flowDrainComplete_frees (hs : attr s.dev FLOW_STATE f = 2) (hh : flowHolds s.dev f = false) :
    ∃ t, exec (.flowDrainComplete f) s = .next t ∧ attr t.dev FLOW_STATE f = 0 ∧ t.mem = s.mem := by
  have ran : exec (.flowDrainComplete f) s = execFlowDrainComplete f s := rfl
  rw [execFlowDrainComplete, onDev, if_pos ⟨hs, hh⟩] at ran
  exact ⟨_, ran, state_endDrain hs stOk, rfl⟩

theorem flowDrainTimeout_frees (hs : attr s.dev FLOW_STATE f = 2) (hd : due s.dev tkDrain f = true) :
    ∃ t, exec (.flowDrainTimeout f) s = .next t ∧ attr t.dev FLOW_STATE f = 0 ∧ t.mem = s.mem := by
  have ran : exec (.flowDrainTimeout f) s = execFlowDrainTimeout f s := rfl
  rw [execFlowDrainTimeout, exec_onExpiry hd] at ran
  exact ⟨_, ran, state_endDrain ((attr_disarm ..).trans hs) stTimeout, rfl⟩

end Drain

/-! ### The return to group A (R288) -/

/-- R288: a flow active on another group, its frames beginning anew there, with no return under way. -/
theorem failTo_moves {f g : Nat} (hg : g < 256) (d : Dev) :
    attr (failTo f g d) FLOW_ACTIVE_HOST f = g ∧ (flow (failTo f g d) f).hostEra = (flow d f).hostEra + 1 ∧ armed (failTo f g d) tkFailover f = false := by
  unfold failTo
  refine ⟨?_, ?_, armed_disarm ..⟩
  · rw [attr_disarm, attr_raise _ _ _ _ _ _ _ steady_flowActiveHost.noEvent, attr_congr (modFlow_attrs ..), attr_setAttr]
    exact Nat.mod_eq_of_lt hg
  · rw [flow_congr (disarm_flows ..), flow_congr (raise_flows ..), flow_modFlow]
    rfl

theorem flowMap_lt (d : Dev) (f k : Nat) : flowMap d f k < 256 := Nat.mod_lt _ (by decide)

section Return
variable {s : State} {f : Fin 1024}

theorem exec_failoverReturn (hd : due s.dev tkFailover f = true) (hs : attr s.dev FLOW_STATE f ≠ 0) (hm : flowMap s.dev f 2 = 2)
    (ha : attr s.dev FLOW_ACTIVE_HOST f ≠ flowMap s.dev f 0) (hu : groupUp s.dev (flowMap s.dev f 0) = true) :
    exec (.failoverReturn f) s = .next { s with dev := refreshCharges [] (failTo f (flowMap s.dev f 0) (disarm tkFailover f s.dev)) } := by
  have ran : exec (.failoverReturn f) s = execFailoverReturn f s := rfl
  have returns : failoverReturn f (disarm tkFailover f s.dev) = refreshCharges [] (failTo f (flowMap s.dev f 0) (disarm tkFailover f s.dev)) :=
    if_pos ⟨hs, hm, ha, hu⟩
  rw [ran, execFailoverReturn, exec_onExpiry hd, returns]

theorem failoverReturn_returns (hd : due s.dev tkFailover f = true) (hs : attr s.dev FLOW_STATE f ≠ 0) (hm : flowMap s.dev f 2 = 2)
    (ha : attr s.dev FLOW_ACTIVE_HOST f ≠ flowMap s.dev f 0) (hu : groupUp s.dev (flowMap s.dev f 0) = true) :
    ∃ t, exec (.failoverReturn f) s = .next t ∧ attr t.dev FLOW_ACTIVE_HOST f = flowMap s.dev f 0
      ∧ (flow t.dev f).hostEra = (flow s.dev f).hostEra + 1 ∧ armed t.dev tkFailover f = false ∧ t.mem = s.mem := by
  obtain ⟨active, era, idle⟩ := failTo_moves (f := f) (flowMap_lt s.dev f 0) (disarm tkFailover f s.dev)
  refine ⟨_, exec_failoverReturn hd hs hm ha hu, ?_, ?_, ?_, rfl⟩
  · rw [attr_refreshCharges steady_flowActiveHost, active]
  · rw [flow_congr (refreshCharges_flows ..), era, flow_congr (disarm_flows ..)]
  · rw [keepsLimits_refreshCharges [] _ tkFailover f (by decide) (by omega), idle]

end Return

/-! ### Moves (R15, R166) -/

/-- R15: a flow on another inner pair, where its frames begin anew. -/
def onPair (f pair : Nat) (d : Dev) : Dev := setAttr FLOW_INNER f pair (modFlow f (fun x => { x with innerEra := x.innerEra + 1 }) d)

/-- R15: what waits for the old pair waits for the new one; attributes and flows change by the pair alone. -/
theorem moveInner_eq {f q : Nat} {qs : List Nat} {d : Dev} (hs : attr d FLOW_STATE f ≠ 0) (hb : innerBroken d f = true)
    (hq : ((List.range 4).filter fun x => groupCarries d (16 + 8 * flowDie d f + x) && groupCarries d (20 + 8 * flowDie d f + x)) = q :: qs) :
    ∃ e, moveInner f d = refreshCharges [] e ∧ e.attrs = (onPair f (choosePair d (flowDie d f) (q :: qs)) d).attrs
      ∧ e.flows = (onPair f (choosePair d (flowDie d f) (q :: qs)) d).flows := by
  have broken : ¬(attr d FLOW_STATE f = 0 ∨ innerBroken d f = false) := by simp [hs, hb]
  unfold moveInner
  dsimp only
  rw [if_neg broken, hq]
  dsimp only
  refine ⟨_, rfl, ?_⟩
  split
  · exact ⟨rfl, rfl⟩
  · exact ⟨rfl, rfl⟩

theorem innerGroupFlowMove_moves {s : State} {f : Fin 1024} {q : Nat} {qs : List Nat} (hs : attr s.dev FLOW_STATE f ≠ 0) (hb : innerBroken s.dev f = true)
    (hq : ((List.range 4).filter fun x => groupCarries s.dev (16 + 8 * flowDie s.dev f + x) && groupCarries s.dev (20 + 8 * flowDie s.dev f + x)) = q :: qs) :
    ∃ t, exec (.innerGroupFlowMove f) s = .next t ∧ attr t.dev FLOW_INNER f = choosePair s.dev (flowDie s.dev f) (q :: qs) % 256
      ∧ (flow t.dev f).innerEra = (flow s.dev f).innerEra + 1 ∧ t.mem = s.mem := by
  have ran : exec (.innerGroupFlowMove f) s = onDev (moveInner f) s := rfl
  obtain ⟨e, moved, attrs, flows⟩ := moveInner_eq hs hb hq
  rw [onDev, moved] at ran
  refine ⟨_, ran, ?_, ?_, rfl⟩
  · rw [attr_refreshCharges steady_flowInner, attr_congr attrs, onPair, attr_setAttr]
    rfl
  · rw [flow_congr (refreshCharges_flows ..), flow_congr flows, onPair, flow_congr (setAttr_flows ..), flow_modFlow]

theorem exec_chordFlowMove {p : Fin 128} {s : State} (hd : due s.dev tkChordMove p = true) (hc : attr s.dev PORT_STATE p ≠ psCarry) :
    exec (.chordFlowMove p) s = .next { s with
      dev :=
        if (chordPorts s.dev (attr s.dev PORT_CHORD p)).any fun q => attr s.dev PORT_STATE q == psCarry then
          forAll (memberFlows s.dev p) moveMember (disarm tkChordMove p s.dev)
        else s.dev } := by
  have ran : exec (.chordFlowMove p) s = execChordFlowMove p s := rfl
  rw [ran, execChordFlowMove, onDev, if_pos hd, chordWaitOver, if_neg hc]

/-- Settles O40. Each command's body is followed on its clause's conditions to what it makes of its context: a new context with its map, another
map, a drain begun, or a context free again. What the charges of groups and ports then become leaves the context alone. The pair that a flow moves to
is assumption 119, and the wait of a chord's flows for a member in CARRY assumption 123. -/
theorem flows : Obligations.flows := by
  unfold Obligations.flows
  refine ⟨fun r s f hf => ⟨?opens, ?map, ?close⟩, fun s => ⟨?drain, ?failover, ?inner, ?chord⟩⟩
  case opens =>
    intro q qs die ht hl wanted free target fields groups unopened host pairs
    exact flowOpen_opens ht hl ⟨hf, wanted, free, target, fields, groups, unopened, host, pairs⟩
  case map =>
    intro ht hl h0 hz hm hg hs hh hi
    obtain ⟨t, ran, replied, state, mapped, mem⟩ := flowMap_maps hf ht hl h0 hz hm hg hs hh hi
    exact ⟨t, ran, replied, state, mapped.map, mapped.flags, mapped.hint, mapped.toHost, mapped.fromHost, mem⟩
  case close => exact fun ht hl h0 h3 hs => ⟨flowClose_drains hf ht hl h0 h3 hs, flowClose_frees hf ht hl h0 h3 hs⟩
  case drain => exact fun f hs => ⟨flowDrainComplete_frees hs, flowDrainTimeout_frees hs⟩
  case failover => exact fun f hd hs hm ha hu => failoverReturn_returns hd hs hm ha hu
  case inner => exact fun f q qs hs hb hq => innerGroupFlowMove_moves hs hb hq
  case chord => exact fun p hd hc => exec_chordFlowMove hd hc

end Sys2Proof.Machine

namespace Sys2Proof.Machine

/-! ### Check values fit their fields (R301, R303) -/

theorem crcBit_lt {w poly : Nat} (hp : poly < 2 ^ w) (reg : Nat) (b : Bool) : crcBit w poly reg b < 2 ^ w := by
  have shifted : reg * 2 % 2 ^ w < 2 ^ w := Nat.mod_lt _ (Nat.two_pow_pos w)
  unfold crcBit
  dsimp only
  split
  · exact Nat.xor_lt_two_pow shifted hp
  · exact shifted

theorem crcBits_lt {w poly reg : Nat} (hp : poly < 2 ^ w) (hr : reg < 2 ^ w) (bs : List Bool) : crcBits w poly reg bs < 2 ^ w := by
  induction bs generalizing reg with
  | nil => exact hr
  | cons b bs ih => exact ih (crcBit_lt hp reg b)

theorem length_bitsMsb (v n : Nat) : (bitsMsb v n).length = n := by
  induction n with
  | zero => rfl
  | succ n ih => rw [bitsMsb, List.length_cons, ih]

/-- A bit string read onto a number extends it by as many bits. -/
theorem foldl_bits_lt (bs : List Bool) {a k : Nat} (ha : a < 2 ^ k) : bs.foldl (fun a b => 2 * a + bitNat b) a < 2 ^ (k + bs.length) := by
  induction bs generalizing a k with
  | nil => exact ha
  | cons b bs ih =>
    have bit : bitNat b ≤ 1 := by cases b <;> decide
    have grown : 2 * a + bitNat b < 2 ^ (k + 1) := by rw [Nat.pow_succ]; omega
    rw [List.length_cons, Nat.add_comm bs.length, ← Nat.add_assoc]
    exact ih grown

theorem reflectBits_lt (v w : Nat) : reflectBits v w < 2 ^ w := by
  have bound := foldl_bits_lt (bitsLsb v w) (a := 0) (k := 0) (by decide)
  rwa [bitsLsb, List.length_reverse, length_bitsMsb, Nat.zero_add] at bound

theorem crc32c_lt (bs : List Byte) : crc32c bs < 2 ^ 32 := by
  have mask : 2 ^ 32 - 1 < 2 ^ 32 := by decide
  exact Nat.xor_lt_two_pow (reflectBits_lt _ 32) mask

theorem pcrc_lt (seq m tag : Nat) (ps : List Byte) : pcrc seq m tag ps < 2 ^ 32 := crc32c_lt _

/-- R301: the value from which the header check of a request, or of a reply, with a tag starts. -/
def hcrcSeed (tag : Nat) (reply : Bool) : Nat := if reply then tag * 256 + 0xFF else 0xFF00 + tag

theorem hcrc_eq (header : List Byte) (reply : Bool) :
    hcrc header reply = crcBits 16 0x1021 (hcrcSeed (byteAt header 3) reply) (bytesToBits (header.take 6)) := rfl

theorem hcrcSeed_lt {tag : Nat} (h : tag < 256) (reply : Bool) : hcrcSeed tag reply < 2 ^ 16 := by
  unfold hcrcSeed
  split <;> omega

theorem hcrc_lt (header : List Byte) (reply : Bool) : hcrc header reply < 2 ^ 16 :=
  crcBits_lt (by decide) (hcrcSeed_lt (byteAt_lt header 3) reply) _

/-! ### The fields of a packet (R299 to R304) -/

theorem length_headerBase (op second m tag len : Nat) : (headerBase op second m tag len).length = 6 := by simp [headerBase]

/-- The header check of a packet reads its first six bytes alone. -/
theorem hcrc_take_append {h : List Byte} (hl : h.length = 6) (rest : List Byte) (reply : Bool) : hcrc ((h ++ rest).take 8) reply = hcrc h reply := by
  have tag : byteAt ((h ++ rest).take 8) 3 = byteAt h 3 := by
    simp [byteAt, List.getD_eq_getElem?_getD, List.getElem?_append, hl]
  have six : ((h ++ rest).take 8).take 6 = h.take 6 := by
    rw [List.take_take, Nat.min_eq_left (by decide), List.take_append_of_le_length (by omega)]
  rw [hcrc_eq, hcrc_eq, tag, six]

section Packet
variable (reply : Bool) (op second m tag seq : Nat) (ps : List Byte)

theorem buildPacket_eq : buildPacket reply op second m tag seq ps =
    headerBase op second m tag ps.length
      ++ (toLE (hcrc (headerBase op second m tag ps.length) reply) 2 ++ (ps ++ toLE (pcrc seq m tag ps) 4)) := by
  simp only [buildPacket, List.append_assoc]

theorem length_buildPacket : (buildPacket reply op second m tag seq ps).length = 12 + ps.length := by
  simp only [buildPacket_eq, List.length_append, length_headerBase, length_toLE]
  omega

theorem byteAt_buildPacket_opcode : byteAt (buildPacket reply op second m tag seq ps) 0 = op % 256 := rfl

theorem byteAt_buildPacket_second : byteAt (buildPacket reply op second m tag seq ps) 1 = second % 256 := rfl

theorem byteAt_buildPacket_master : byteAt (buildPacket reply op second m tag seq ps) 2 = m % 256 := rfl

theorem byteAt_buildPacket_tag : byteAt (buildPacket reply op second m tag seq ps) 3 = tag % 256 := rfl

theorem packetLength_buildPacket : packetLength (buildPacket reply op second m tag seq ps) = ps.length % 2 ^ 16 := by
  rw [packetLength, buildPacket_eq, headerBase, List.append_assoc, leAt_append (k := 4) rfl _ 0, leAt_toLE]

theorem leAt_buildPacket_hcrc : leAt (buildPacket reply op second m tag seq ps) 6 2 = hcrc (headerBase op second m tag ps.length) reply := by
  rw [buildPacket_eq, leAt_append (length_headerBase ..) _ 0, leAt_toLE]
  exact Nat.mod_eq_of_lt (hcrc_lt ..)

/-- R301: a packet passes the header check of a request where the check it was built with is that of a request. -/
theorem headerGood_buildPacket : headerGood (buildPacket reply op second m tag seq ps) =
    (hcrc (headerBase op second m tag ps.length) reply == hcrc (headerBase op second m tag ps.length) false) := by
  rw [headerGood, leAt_buildPacket_hcrc, buildPacket_eq, hcrc_take_append (length_headerBase ..)]

variable {ps} (hl : ps.length ≤ 1024)
include hl

theorem packetLength_buildPacket_of_le : packetLength (buildPacket reply op second m tag seq ps) = ps.length := by
  rw [packetLength_buildPacket, Nat.mod_eq_of_lt (by omega)]

theorem packetParams_buildPacket : packetParams (buildPacket reply op second m tag seq ps) = ps := by
  rw [packetParams, packetLength_buildPacket_of_le _ _ _ _ _ _ hl, buildPacket_eq, ← List.append_assoc,
    List.drop_left' (by simp [length_headerBase]), List.take_left' rfl]

theorem packetPcrc_buildPacket : packetPcrc (buildPacket reply op second m tag seq ps) = pcrc seq m tag ps := by
  rw [packetPcrc, packetLength_buildPacket_of_le _ _ _ _ _ _ hl, buildPacket_eq, ← List.append_assoc, ← List.append_assoc,
    ← Nat.add_zero (8 + ps.length), leAt_append (by simp [length_headerBase]; omega), ← List.append_nil (toLE _ 4), leAt_toLE]
  exact Nat.mod_eq_of_lt (pcrc_lt ..)

end Packet

/-! ### O6 -/

section Request
variable {op flags m tag seq : Nat} {ps : List Byte}

theorem delimitCheck_buildRequest (hl : ps.length ≤ 1024) : delimitCheck (buildRequest op flags m tag seq ps) = none := by
  have good : headerGood (buildRequest op flags m tag seq ps) = true := by rw [buildRequest, headerGood_buildPacket, beq_self_eq_true]
  have length : (buildRequest op flags m tag seq ps).length = 12 + ps.length := length_buildPacket ..
  have field : packetLength (buildRequest op flags m tag seq ps) = ps.length := packetLength_buildPacket_of_le _ _ _ _ _ _ hl
  rw [delimitCheck, length, field, good, if_neg (by omega), if_neg (by decide), if_neg (by omega)]

/-- R303: a request matches the sequence numbers for which the parameter check is the one it carries. -/
theorem pcrcMatches_buildRequest (ht : tag < 256) (hl : ps.length ≤ 1024) (n : Nat) :
    pcrcMatches m n (buildRequest op flags m tag seq ps) = (pcrc seq m tag ps == pcrc n m tag ps) := by
  rw [pcrcMatches, buildRequest, packetPcrc_buildPacket _ _ _ _ _ _ hl, packetParams_buildPacket _ _ _ _ _ _ hl, byteAt_buildPacket_tag,
    Nat.mod_eq_of_lt ht]

/-- Settles O6, field by field: each field of `buildPacket` is cut to its bytes, which are wide enough for it. -/
theorem requestReadsBack : Obligations.request_reads_back := by
  intro op flags m tag seq ps hop hflags hm htag hl
  refine ⟨length_buildPacket .., ?opcode, ?flags, ?master, ?tag, packetLength_buildPacket_of_le _ _ _ _ _ _ hl,
    packetParams_buildPacket _ _ _ _ _ _ hl, delimitCheck_buildRequest hl, ?own, ?other⟩
  case opcode => exact (byteAt_buildPacket_opcode ..).trans (Nat.mod_eq_of_lt hop)
  case flags => exact (byteAt_buildPacket_second ..).trans (Nat.mod_eq_of_lt hflags)
  case master => exact (byteAt_buildPacket_master ..).trans (Nat.mod_eq_of_lt (by omega))
  case tag => exact (byteAt_buildPacket_tag ..).trans (Nat.mod_eq_of_lt htag)
  case own => rw [pcrcMatches_buildRequest htag hl, beq_self_eq_true]
  case other =>
    intro n hn
    rw [pcrcMatches_buildRequest htag hl, beq_iff_eq] at hn
    exact hn.symm

end Request

/-! ### O7 -/

/-- The lowest bit of a register after one bit tells whether the polynomial was added. -/
theorem testBit_zero_crcBit {w poly : Nat} (hp : poly.testBit 0 = true) (reg : Nat) (b : Bool) :
    (crcBit w poly reg b).testBit 0 = (reg.testBit (w - 1) != b) := by
  have shifted : (reg * 2 % 2 ^ w).testBit 0 = false := by
    rw [Nat.testBit_mod_two_pow, Nat.testBit_zero, Nat.mul_mod_left]
    simp
  unfold crcBit
  dsimp only
  split
  · next h => rw [Nat.testBit_xor, shifted, hp, h]; rfl
  · next h => rw [shifted, Bool.eq_false_iff.2 h]

theorem testBit_shifted {w i : Nat} (x : Nat) (hi : i + 1 < w) : (x * 2 % 2 ^ w).testBit (i + 1) = x.testBit i := by
  rw [Nat.testBit_mod_two_pow, decide_eq_true hi, Bool.true_and, Nat.testBit_succ, Nat.mul_div_cancel _ Nat.two_pos]

/-- R482: with a polynomial that has its lowest bit, one bit taken in leaves different registers different. -/
theorem crcBit_injective {w poly : Nat} (hp : poly.testBit 0 = true) {x y : Nat} (hx : x < 2 ^ w) (hy : y < 2 ^ w) {b : Bool}
    (h : crcBit w poly x b = crcBit w poly y b) : x = y := by
  have top : x.testBit (w - 1) = y.testBit (w - 1) := by
    have low := congrArg (Nat.testBit · 0) h
    simp only [testBit_zero_crcBit hp] at low
    revert low
    cases x.testBit (w - 1) <;> cases y.testBit (w - 1) <;> cases b <;> decide
  have shifted : x * 2 % 2 ^ w = y * 2 % 2 ^ w := by
    unfold crcBit at h
    dsimp only at h
    rw [top] at h
    split at h
    · exact Nat.xor_left_injective h
    · exact h
  refine Nat.eq_of_testBit_eq fun i => ?_
  rcases Nat.lt_trichotomy i (w - 1) with hi | rfl | hi
  · rw [← testBit_shifted x (show i + 1 < w by omega), shifted, testBit_shifted y (by omega)]
  · exact top
  · have high : 2 ^ w ≤ 2 ^ i := Nat.pow_le_pow_right (by decide) (by omega)
    rw [Nat.testBit_lt_two_pow (by omega), Nat.testBit_lt_two_pow (by omega)]

theorem crcBits_injective {w poly : Nat} (hp : poly.testBit 0 = true) (hlt : poly < 2 ^ w) {x y : Nat} (hx : x < 2 ^ w)
    (hy : y < 2 ^ w) {bs : List Bool} (h : crcBits w poly x bs = crcBits w poly y bs) : x = y := by
  induction bs generalizing x y with
  | nil => exact h
  | cons b bs ih => exact crcBit_injective hp hx hy (ih (crcBit_lt hlt x b) (crcBit_lt hlt y b) h)

/-- R301: for every tag but 0xFF a reply's header check is not that of a request. -/
theorem hcrc_reply_ne_request {header : List Byte} (ht : byteAt header 3 < 255) : hcrc header true ≠ hcrc header false := by
  intro h
  have seeds : hcrcSeed (byteAt header 3) true = hcrcSeed (byteAt header 3) false :=
    crcBits_injective (by decide) (by decide) (hcrcSeed_lt (by omega) true) (hcrcSeed_lt (by omega) false) h
  simp only [hcrcSeed, if_true, Bool.false_eq_true, if_false] at seeds
  omega

/-- Settles O7. A step of the check is injective in its register, so the two seeds, different for every tag but 0xFF, end in two different
checks of the same header. -/
theorem replyIsNoRequest : Obligations.reply_is_no_request := by
  intro op status m tag seq result ht
  have tagged : byteAt (headerBase op status m tag result.length) 3 = tag % 256 := rfl
  rw [buildReply, headerGood_buildPacket, beq_eq_false_iff_ne]
  exact hcrc_reply_ne_request (by rw [tagged]; omega)

/-! ### O8 -/

/-- R306, R309: a packet that passes the checks of its header and matches the expected number is taken with it. -/
theorem takeRaw_expected {m : Nat} {raw : List Byte} {s : State} (hd : delimitCheck raw = none) (hf : byteAt raw 1 % 2 = 0)
    (hp : pcrcMatches m (attr s.dev DEVICE_CMD_SEQ_NEXT m) raw = true) :
    takeRaw m raw s = takePacket m (attr s.dev DEVICE_CMD_SEQ_NEXT m) raw s := by
  simp [takeRaw, hd, hf, hp]

/-- Settles O8. The packet reads back as the request's fields, so both ways hand the same call to `takeCall`. -/
theorem packetRunsItsRow : Obligations.packet_runs_its_row := by
  intro op body r s hop hbody hflags hl htake
  have zero : r.flags.toNat = 0 := by rw [hflags]; rfl
  have opcode := (byteAt_buildPacket_opcode false op 0 r.master r.tag.toNat (attr s.dev DEVICE_CMD_SEQ_NEXT r.master) r.params).trans
    (Nat.mod_eq_of_lt hop)
  have flags := byteAt_buildPacket_second false op 0 r.master r.tag.toNat (attr s.dev DEVICE_CMD_SEQ_NEXT r.master) r.params
  have tag := (byteAt_buildPacket_tag false op 0 r.master r.tag.toNat (attr s.dev DEVICE_CMD_SEQ_NEXT r.master) r.params).trans
    (Nat.mod_eq_of_lt r.tag.isLt)
  have params := packetParams_buildPacket false op 0 r.master r.tag.toNat (attr s.dev DEVICE_CMD_SEQ_NEXT r.master) hl
  have matched : pcrcMatches r.master (attr s.dev DEVICE_CMD_SEQ_NEXT r.master)
      (buildRequest op 0 r.master r.tag.toNat (attr s.dev DEVICE_CMD_SEQ_NEXT r.master) r.params) = true := by
    rw [pcrcMatches_buildRequest r.tag.isLt hl, beq_self_eq_true]
  rw [takeRaw_expected (delimitCheck_buildRequest hl) (by rw [buildRequest, flags]) matched, takePacket, buildRequest, opcode, flags, tag, params,
    hbody, issue, if_pos htake, zero]
  rfl

end Sys2Proof.Machine

namespace Sys2Proof.Machine

/-! ### A master's own state after signals and replies (R332, R333, R359) -/

/-- R333, R359: a signal leaves an in-band interrupt or a notice with a master, and nothing else of any. -/
theorem master_signal (m k : Nat) (d : Dev) : ∃ i n, master (signal m d) k = { master d k with ibi := i, notice := n } := by
  have put : ∀ i n, ∃ i' n', master (setMaster m { master d m with ibi := i, notice := n } d) k = { master d k with ibi := i', notice := n' } := by
    intro i n
    by_cases h : k = m
    · subst h
      exact ⟨i, n, master_setMaster ..⟩
    · exact ⟨_, _, master_setMaster_ne _ d h⟩
  unfold signal
  dsimp only
  split
  · exact ⟨_, _, rfl⟩
  · split
    · split
      · exact put _ (master d m).notice
      · exact ⟨_, _, rfl⟩
    · exact put (master d m).ibi _

theorem signal_replies (m k : Nat) (d : Dev) : (master (signal m d) k).replies = (master d k).replies := by
  obtain ⟨_, _, h⟩ := master_signal m k d
  rw [h]

theorem signal_events (m k : Nat) (d : Dev) : (master (signal m d) k).events = (master d k).events := by
  obtain ⟨_, _, h⟩ := master_signal m k d
  rw [h]

/-- A reply placed is kept with its master. -/
theorem placeReply_eq (m : Nat) (bytes : List Byte) (d : Dev) : ∃ xs, placeReply m bytes d = { d with masters := xs } := by
  unfold placeReply
  dsimp only
  split
  · split
    · obtain ⟨xs, h⟩ := signal_eq m (setMaster m { master d m with replies := (master d m).replies ++ [⟨bytes, 0, false, d.elapsed⟩] } d)
      exact ⟨xs, h⟩
    · exact ⟨_, rfl⟩
  · exact ⟨_, rfl⟩

theorem attr_placeReply (m : Nat) (bytes : List Byte) (d : Dev) (b : Attr) (i : Nat) : attr (placeReply m bytes d) b i = attr d b i := by
  obtain ⟨xs, h⟩ := placeReply_eq m bytes d
  rw [h]
  rfl

/-- R332: a reply placed stands last in its queue where the transport is up. -/
theorem placeReply_replies {m : Nat} {d : Dev} (hu : transportUp d m = true) (bytes : List Byte) :
    (master (placeReply m bytes d) m).replies = (master d m).replies ++ [⟨bytes, 0, false, d.elapsed⟩] := by
  unfold placeReply
  dsimp only
  rw [if_pos hu]
  split
  · rw [signal_replies, master_setMaster]
  · rw [master_setMaster]

theorem placeReply_stored (m : Nat) (bytes : List Byte) (d : Dev) : (master (placeReply m bytes d) m).stored = (master d m).stored := by
  unfold placeReply
  dsimp only
  split
  · split
    · rw [signal_stored, master_setMaster]
    · rw [master_setMaster]
  · rfl

theorem master_congr {d e : Dev} (h : e.masters = d.masters) (m : Nat) : master e m = master d m := by simp [master, h]

/-- R337, R338: whether a transport is up shows in its host pair alone. -/
theorem transportUp_congr {d e : Dev} (h : ∀ g, attr e GROUP_STATE g = attr d GROUP_STATE g) (m : Nat) : transportUp e m = transportUp d m := by
  simp only [transportUp, h]

/-! ### Requests turned away (R304, R309 steps 1 to 4, R338) -/

/-- R338: a refusal changes a counter of its master alone. -/
theorem countRefusal_eq (m st : Nat) (d : Dev) : ∃ as, countRefusal m st d = { d with attrs := as } := by
  unfold countRefusal
  split
  · exact ⟨_, rfl⟩
  · split
    · exact ⟨_, rfl⟩
    · split
      · exact ⟨_, rfl⟩
      · exact ⟨_, rfl⟩

/-- The attributes that count refusals (R338). -/
abbrev refusalCounters : List Nat := [DEVICE_CMD_BAD_CHECK.code, DEVICE_CMD_BAD_LENGTH.code, DEVICE_CMD_SEQUENCE.code]

theorem attr_countRefusal {b : Attr} (hb : b.code < 2 ^ 24) (hn : b.code ∉ refusalCounters) (m st : Nat) (d : Dev) (i : Nat) :
    attr (countRefusal m st d) b i = attr d b i := by
  simp only [List.mem_cons, List.not_mem_nil, or_false, not_or] at hn
  obtain ⟨check, length, sequence⟩ := hn
  unfold countRefusal
  split
  · exact attr_bump_ne _ _ _ _ check (by decide) hb
  · split
    · exact attr_bump_ne _ _ _ _ length (by decide) hb
    · split
      · exact attr_bump_ne _ _ _ _ sequence (by decide) hb
      · rfl

theorem refuseRaw_eq (m st : Nat) (raw : List Byte) (d : Dev) : ∃ as xs, refuseRaw m st raw d = { d with attrs := as, masters := xs } := by
  obtain ⟨as, counted⟩ := countRefusal_eq m st d
  obtain ⟨xs, placed⟩ := placeReply_eq m
    (buildReply (byteAt raw 0) st m (byteAt raw 3) (attr (countRefusal m st d) DEVICE_CMD_SEQ_NEXT m) []) (countRefusal m st d)
  refine ⟨as, xs, ?_⟩
  rw [refuseRaw, replyUnsequenced, placed, counted]

theorem attr_refuseRaw (m st : Nat) (raw : List Byte) (d : Dev) (b : Attr) (i : Nat) :
    attr (refuseRaw m st raw d) b i = attr (countRefusal m st d) b i := attr_placeReply ..

/-- R304, R309: a request refused before the sequence advances is turned away. -/
theorem turnedAway_refuseRaw (m st : Nat) (raw : List Byte) (s : State) :
    Claims.TurnedAway m st raw s { s with dev := refuseRaw m st raw s.dev } := by
  obtain ⟨as, counted⟩ := countRefusal_eq m st s.dev
  have masters : (countRefusal m st s.dev).masters = s.dev.masters := by rw [counted]
  have seqNext : attr (countRefusal m st s.dev) DEVICE_CMD_SEQ_NEXT m = attr s.dev DEVICE_CMD_SEQ_NEXT m :=
    attr_countRefusal (by decide) (by decide) m st s.dev m
  have up : transportUp (countRefusal m st s.dev) m = transportUp s.dev m :=
    transportUp_congr (attr_countRefusal (by decide) (by decide) m st s.dev) m
  refine ⟨?_, ?_, fun hu => ?_, ?_⟩
  · exact (placeReply_stored ..).trans (by rw [master_congr masters])
  · exact (attr_refuseRaw ..).trans seqNext
  · rw [← up] at hu
    rw [refuseRaw, replyUnsequenced, placeReply_replies hu, seqNext, master_congr masters, List.map_append]
    rfl
  · obtain ⟨_, _, h⟩ := refuseRaw_eq m st raw s.dev
    rw [h]
    exact ⟨_, _, _, _, rfl⟩

theorem attr_refuseRaw_badCheck (m : Nat) (raw : List Byte) (d : Dev) :
    attr (refuseRaw m stBadCheck raw d) DEVICE_CMD_BAD_CHECK m = (attr d DEVICE_CMD_BAD_CHECK m + 1) % 2 ^ 32 := by
  rw [attr_refuseRaw, countRefusal, if_pos rfl, attr_bump]
  rfl

theorem attr_refuseRaw_sequence (m : Nat) (raw : List Byte) (d : Dev) :
    attr (refuseRaw m stSequence raw d) DEVICE_CMD_SEQUENCE m = (attr d DEVICE_CMD_SEQUENCE m + 1) % 2 ^ 32 := by
  rw [attr_refuseRaw, countRefusal, if_neg (by decide), if_neg (by decide), if_pos rfl, attr_bump]
  rfl

/-! ### The path of a packet (R306 to R309) -/

section TakeRaw
variable {m : Nat} {raw : List Byte} {s : State}

theorem takeRaw_malformed {st : Nat} (hd : delimitCheck raw = some st) : takeRaw m raw s = { s with dev := refuseRaw m st raw s.dev } := by
  simp [takeRaw, hd]

theorem takeRaw_sync_mismatch (hd : delimitCheck raw = none) (hf : byteAt raw 1 % 2 = 1) (hp : pcrcMatches m 0 raw = false) :
    takeRaw m raw s = { s with dev := refuseRaw m stBadCheck raw s.dev } := by
  simp [takeRaw, hd, hf, hp]

theorem takeRaw_sync_other (hd : delimitCheck raw = none) (hf : byteAt raw 1 % 2 = 1) (hp : pcrcMatches m 0 raw = true) (h0 : byteAt raw 0 ≠ 0) :
    takeRaw m raw s = { s with dev := refuseRaw m stOutOfRange raw s.dev } := by
  simp [takeRaw, hd, hf, hp, h0]

theorem takeRaw_sync_nop (hd : delimitCheck raw = none) (hf : byteAt raw 1 % 2 = 1) (hp : pcrcMatches m 0 raw = true) (h0 : byteAt raw 0 = 0) :
    takeRaw m raw s = takePacket m 0 raw s := by
  simp [takeRaw, hd, hf, hp, h0]

variable (hd : delimitCheck raw = none) (hf : byteAt raw 1 % 2 = 0) (he : pcrcMatches m (attr s.dev DEVICE_CMD_SEQ_NEXT m) raw = false)
include hd hf he

theorem takeRaw_previous (hp : pcrcMatches m ((attr s.dev DEVICE_CMD_SEQ_NEXT m + 65535) % 65536) raw = true) :
    takeRaw m raw s = { s with dev := takeDuplicate m raw s.dev } := by
  simp [takeRaw, hd, hf, he, hp]

theorem takeRaw_neither (hp : pcrcMatches m ((attr s.dev DEVICE_CMD_SEQ_NEXT m + 65535) % 65536) raw = false) :
    takeRaw m raw s = { s with dev := refuseRaw m stBadCheck raw s.dev } := by
  simp [takeRaw, hd, hf, he, hp]

end TakeRaw

section Duplicate
variable {m : Nat} {raw req rep : List Byte} {d : Dev}

theorem takeDuplicate_none (h : (master d m).stored = none) : takeDuplicate m raw d = refuseRaw m stBadCheck raw d := by
  simp [takeDuplicate, h]

theorem takeDuplicate_other (h : (master d m).stored = some (req, rep)) (hne : req ≠ raw) : takeDuplicate m raw d = refuseRaw m stSequence raw d := by
  simp [takeDuplicate, h, hne]

/-- R308: the stored request again: its reply is placed once more, unless it still waits. -/
theorem takeDuplicate_same (h : (master d m).stored = some (raw, rep)) (hr : rep ≠ []) (hw : ∀ x ∈ (master d m).replies, x.bytes ≠ rep) :
    takeDuplicate m raw d = placeReply m rep (bump DEVICE_CMD_DUPLICATES m 1 d) := by
  have unwaited : (master d m).replies.any (fun x => x.bytes == rep) = false := by
    rw [List.any_eq_false]
    intro x hx
    simp [hw x hx]
  simp [takeDuplicate, h, hr, unwaited]

end Duplicate

/-! ### O11 -/

/-- R308: the stored request comes again: its reply is placed once more and counted, and nothing is executed. -/
theorem duplicate_answered {m : Nat} {raw rep : List Byte} {s : State} (h : (master s.dev m).stored = some (raw, rep)) (hr : rep ≠ [])
    (hw : ∀ x ∈ (master s.dev m).replies, x.bytes ≠ rep) (hu : transportUp s.dev m = true) :
    Claims.KeepsUnits s { s with dev := takeDuplicate m raw s.dev }
      ∧ Claims.KeepsAttrs [(DEVICE_CMD_DUPLICATES.code, m)] s { s with dev := takeDuplicate m raw s.dev }
      ∧ attr (takeDuplicate m raw s.dev) DEVICE_CMD_SEQ_NEXT m = attr s.dev DEVICE_CMD_SEQ_NEXT m
      ∧ attr (takeDuplicate m raw s.dev) DEVICE_CMD_DUPLICATES m = (attr s.dev DEVICE_CMD_DUPLICATES m + 1) % 2 ^ 32
      ∧ (master (takeDuplicate m raw s.dev) m).replies.map (·.bytes) = (master s.dev m).replies.map (·.bytes) ++ [rep] := by
  have counted : KeepsOthers [(DEVICE_CMD_DUPLICATES.code, m)] s.dev (bump DEVICE_CMD_DUPLICATES m 1 s.dev) :=
    keepsOthers_setAttr _ _ (by decide) (by simp)
  have up : transportUp (bump DEVICE_CMD_DUPLICATES m 1 s.dev) m = true := by
    rw [transportUp_congr fun g => attr_bump_ne m 1 g s.dev (by decide) (by decide) (by decide), hu]
  obtain ⟨xs, placed⟩ := placeReply_eq m rep (bump DEVICE_CMD_DUPLICATES m 1 s.dev)
  rw [takeDuplicate_same h hr hw]
  refine ⟨?_, ?_, ?_, ?_, ?_⟩
  · rw [placed]
    exact ⟨_, _, _, _, rfl⟩
  · exact keepsAttrs_dev (counted.trans fun b j _ _ _ => attr_placeReply ..)
  · rw [attr_placeReply, attr_bump_ne _ _ _ _ (by decide) (by decide) (by decide)]
  · rw [attr_placeReply, attr_bump]
    rfl
  · rw [placeReply_replies up, List.map_append]
    rfl

/-- Settles O11. A packet that fails steps 1 or 2, that repeats a number without being the stored request, or that matches neither number is
refused before its opcode is looked at; the stored request again only has its reply placed. -/
theorem duplicatesAndBadPackets : Obligations.duplicates_and_bad_packets := by
  intro m raw s
  refine ⟨fun st hd => ?malformed, fun hd hf he => ⟨fun hprev => ?bad, fun req rep hp hs => ⟨fun hne => ?other, fun heq hr hw hu => ?same⟩⟩⟩
  case malformed =>
    rw [takeRaw_malformed hd]
    exact ⟨turnedAway_refuseRaw .., (attr_refuseRaw ..).trans (attr_countRefusal (by decide) (by decide) ..)⟩
  case bad =>
    have refused : takeRaw m raw s = { s with dev := refuseRaw m stBadCheck raw s.dev } := by
      cases hp : pcrcMatches m ((attr s.dev DEVICE_CMD_SEQ_NEXT m + 65535) % 65536) raw with
      | false => exact takeRaw_neither hd hf he hp
      | true =>
        have unstored : (master s.dev m).stored = none := hprev.resolve_left (by simp [hp])
        rw [takeRaw_previous hd hf he hp, takeDuplicate_none unstored]
    rw [refused]
    exact ⟨turnedAway_refuseRaw .., attr_refuseRaw_badCheck ..⟩
  case other =>
    rw [takeRaw_previous hd hf he hp, takeDuplicate_other hs hne]
    exact ⟨turnedAway_refuseRaw .., attr_refuseRaw_sequence ..⟩
  case same =>
    subst heq
    rw [takeRaw_previous hd hf he hp]
    exact duplicate_answered hs hr hw hu

end Sys2Proof.Machine

namespace Sys2Proof.Machine

/-! ### The block after the sequence has advanced (R306, R342) -/

/-- R306: what a command's definition sees of a request taken with the number `seq`. -/
def advancedDev (m seq : Nat) (raw : List Byte) (d : Dev) : Dev := { advance m seq raw d with nextOrder := d.nextOrder + 1 }

section Advanced
variable (m seq : Nat) (raw : List Byte) (d : Dev)

/-- The attributes that an advance writes. -/
theorem advancedDev_attrs : (advancedDev m seq raw d).attrs = (bump DEVICE_CMD_EXECUTED m 1 (setAttr DEVICE_CMD_SEQ_NEXT m ((seq + 1) % 65536) d)).attrs := by
  unfold advancedDev advance
  dsimp only
  split <;> rfl

theorem attr_advancedDev_seqNext : attr (advancedDev m seq raw d) DEVICE_CMD_SEQ_NEXT m = (seq + 1) % 65536 := by
  rw [attr_congr (advancedDev_attrs m seq raw d), attr_bump_ne _ _ _ _ (by decide) (by decide) (by decide), attr_setAttr]
  exact Nat.mod_mod _ _

theorem attr_advancedDev_executed :
    attr (advancedDev m seq raw d) DEVICE_CMD_EXECUTED m = (attr d DEVICE_CMD_EXECUTED m + 1) % 2 ^ 32 := by
  rw [attr_congr (advancedDev_attrs m seq raw d), attr_bump, attr_setAttr_ne _ _ _ _ (by decide) (by decide) (by decide)]
  rfl

theorem keepsOthers_advancedDev {changed : List (Nat × Nat)} : KeepsOthers changed d (advancedDev m seq raw d) := fun b j hb hc _ =>
  attr_advance m seq raw d b j hb (fun h => hc (.inr (.inl h))) (fun h => hc (.inl h))

theorem advancedDev_jobs : (advancedDev m seq raw d).jobs = d.jobs := by
  obtain ⟨_, _, _, h⟩ := advance_eq m seq raw d
  rw [advancedDev, h]

/-- R342: a request of the owner restarts its lease. -/
theorem armed_advancedDev_lease {m : Nat} {d : Dev} (h : attr d DEVICE_OWNER 0 = m) : armed (advancedDev m seq raw d) tkLease 0 = true := by
  have restarted : ∃ e, (advancedDev m seq raw d).timers = (restartLease e).timers := by
    rw [advancedDev, advance, if_pos h]
    exact ⟨_, rfl⟩
  obtain ⟨e, timers⟩ := restarted
  rw [armed_congr timers, restartLease, armed_arm]

/-- A reply to a request that had no effect of its own leaves every unit. -/
theorem keepsUnits_advancedDev (s : State) (c : Call) (st : Nat) (x : List Byte) :
    Claims.KeepsUnits s { s with dev := answer c st x (advancedDev m seq raw s.dev) } := by
  obtain ⟨_, _, _, advanced⟩ := advance_eq m seq raw s.dev
  obtain ⟨_, answered⟩ := answer_eq c st x (advancedDev m seq raw s.dev)
  rw [answered, advancedDev, advanced]
  exact ⟨_, _, _, _, rfl⟩

end Advanced

/-! ### NOP (R314) -/

/-- R309: a call that passed steps 1 to 4 meets its checks on the block whose sequence has advanced. -/
theorem takeCall_eq (flags : Nat) (body : Option Body) (c : Call) (s : State) :
    takeCall flags body c s =
      settle { c with order := s.dev.nextOrder } (judge s.mem flags body { c with order := s.dev.nextOrder } (advancedDev c.master c.seq c.raw s.dev))
        { s with dev := advancedDev c.master c.seq c.raw s.dev } := by
  unfold takeCall advancedDev
  simp only [advance_nextOrder]

/-- R314: NOP whose FLAGS and tag are in order: OK without parameters, BAD_LENGTH with any. -/
theorem judge_nop {mem : List Host.Cell} {flags : Nat} {c : Call} {d : Dev} (hf : flags ≤ 1) (h0 : c.op = 0) (hj : findJob d (callRef c) = none) :
    judge mem flags (some bodyNop) c d = if c.params = [] then okDev d else .refuse stBadLength [] := by
  have half : ¬(flags / 2 ≠ 0 ∨ (flags % 2 = 1 ∧ c.op ≠ 0)) := by omega
  have may : ¬(attr d DEVICE_OWNER 0 ≠ c.master ∧ nonOwnerMay c.op c.params = false) := by
    rw [h0]
    exact fun h => absurd h.2 (by simp [nonOwnerMay])
  have range : paramRange c.op = (0, 0) := by rw [h0]; rfl
  simp only [judge, half, may, hj, range, if_false, bodyNop, okDev, Nat.not_lt_zero, false_or]
  cases c.params <;> simp

theorem settle_nop (c : Call) (d : Dev) (s : State) :
    settle c (if c.params = [] then okDev d else .refuse stBadLength []) { s with dev := d }
      = { s with dev := answer c (if c.params = [] then stOk else stBadLength) [] d } := by
  split <;> rfl

/-- Whatever NOP answers, its reply is all that it leaves. -/
theorem settle_judge_nop {flags : Nat} {c : Call} {s : State} (h0 : c.op = 0) :
    ∃ st x, settle c (judge s.mem flags (some bodyNop) c s.dev) s = { s with dev := answer c st x s.dev } := by
  have may : ¬(attr s.dev DEVICE_OWNER 0 ≠ c.master ∧ nonOwnerMay c.op c.params = false) := by
    rw [h0]
    exact fun h => absurd h.2 (by simp [nonOwnerMay])
  unfold judge
  by_cases hf : flags / 2 ≠ 0 ∨ (flags % 2 = 1 ∧ c.op ≠ 0)
  · rw [if_pos hf]
    exact ⟨_, _, rfl⟩
  · rw [if_neg hf]
    dsimp only
    rw [if_neg may]
    cases findJob s.dev (callRef c) with
    | some job => exact ⟨_, _, rfl⟩
    | none =>
      dsimp only
      split
      · exact ⟨_, _, rfl⟩
      · exact ⟨_, _, rfl⟩

/-- R307: a packet with SEQ_SYNC that is taken is a NOP: the number becomes 1 and its reply is stored with it. -/
theorem takePacket_nop {m : Nat} {raw : List Byte} (s : State) (h0 : byteAt raw 0 = 0) :
    ∃ c : Call, ∃ st x, c.master = m ∧ c.raw = raw ∧ c.op = 0 ∧
      takePacket m 0 raw s = { s with dev := answer c st x (advancedDev m 0 raw s.dev) } := by
  have body : bodyOf (byteAt raw 0) = some bodyNop := by rw [h0]; rfl
  obtain ⟨st, x, settled⟩ := settle_judge_nop (flags := byteAt raw 1)
    (c := ⟨m, byteAt raw 3, byteAt raw 0, packetParams raw, s.dev.nextOrder, raw, 0⟩) (s := { s with dev := advancedDev m 0 raw s.dev }) h0
  refine ⟨⟨m, byteAt raw 3, byteAt raw 0, packetParams raw, s.dev.nextOrder, raw, 0⟩, st, x, rfl, rfl, h0, ?_⟩
  rw [takePacket, body, takeCall_eq]
  exact settled

/-- Settles O10. A request with SEQ_SYNC is either refused before its opcode counts, or a NOP taken with the number 0. -/
theorem resynchronisation : Obligations.resynchronisation := by
  intro m raw s hd hf
  refine ⟨?jobs, fun hp => ?mismatch, fun hp h0 => ?other, fun hp h0 => ?nop⟩
  case mismatch =>
    rw [takeRaw_sync_mismatch hd hf hp]
    exact turnedAway_refuseRaw ..
  case other =>
    rw [takeRaw_sync_other hd hf hp h0]
    exact turnedAway_refuseRaw ..
  case nop =>
    obtain ⟨c, st, x, hm, hraw, hop, taken⟩ := takePacket_nop (m := m) s h0
    rw [takeRaw_sync_nop hd hf hp h0, taken]
    refine ⟨(attr_answer ..).trans (attr_advancedDev_seqNext ..), _, by rw [← hm, answer_stored, hraw], ?_⟩
    rw [hop]
    rfl
  case jobs =>
    have refused : ∀ st, (refuseRaw m st raw s.dev).jobs = s.dev.jobs := by
      intro st
      obtain ⟨_, _, h⟩ := refuseRaw_eq m st raw s.dev
      rw [h]
    cases hp : pcrcMatches m 0 raw with
    | false =>
      rw [takeRaw_sync_mismatch hd hf hp]
      exact refused _
    | true =>
      by_cases h0 : byteAt raw 0 = 0
      · obtain ⟨c, st, x, -, -, -, taken⟩ := takePacket_nop (m := m) s h0
        rw [takeRaw_sync_nop hd hf hp h0, taken]
        exact (answer_jobs ..).trans (advancedDev_jobs ..)
      · rw [takeRaw_sync_other hd hf hp h0]
        exact refused _

/-- R314: the NOP row, with or without SEQ_SYNC: what its reply says, and that its sequence is all it advances. -/
theorem exec_nop {r : Req} {s : State} (ht : canTake s.dev r.master.val = true) (hj : findJob s.dev ⟨r.master.val, r.tag.toNat⟩ = none)
    (hf : r.flags = 0#8 ∨ r.flags = 1#8) :
    ∃ seq raw, seq = (if r.flags = 1#8 then 0 else attr s.dev DEVICE_CMD_SEQ_NEXT r.master)
      ∧ raw = buildRequest 0 r.flags.toNat r.master r.tag.toNat seq r.params
      ∧ exec (.nop r) s = .next { s with
          dev := answer ⟨r.master, r.tag.toNat, 0, r.params, s.dev.nextOrder, raw, seq⟩ (if r.params = [] then stOk else stBadLength) []
            (advancedDev r.master seq raw s.dev) } := by
  have low : r.flags.toNat ≤ 1 := by rcases hf with h | h <;> rw [h] <;> decide
  have number : (if r.flags.toNat % 2 = 1 then 0 else attr s.dev DEVICE_CMD_SEQ_NEXT r.master)
      = if r.flags = 1#8 then 0 else attr s.dev DEVICE_CMD_SEQ_NEXT r.master := by
    rcases hf with h | h <;> rw [h] <;> rfl
  refine ⟨_, _, rfl, rfl, ?_⟩
  have free : ∀ raw seq, findJob (advancedDev r.master seq raw s.dev) ⟨r.master, r.tag.toNat⟩ = none := by
    intro raw seq
    rw [findJob, advancedDev_jobs]
    exact hj
  show Host.Outcome.next (issue 0x00 bodyNop r s) = _
  rw [issue, if_pos ht, if_neg (by simp), takeCall_eq, number, judge_nop low rfl (free _ _), settle_nop]

/-- Settles O9. Beyond its reply a NOP does what every taken request does: the sequence and the lease (R306, R342). -/
theorem nopAnswersOk : Obligations.nop_answers_ok := by
  intro r s ht hj _ hf
  obtain ⟨seq, raw, hseq, hraw, ran⟩ := exec_nop ht hj hf
  refine ⟨_, ran, ?attrs, keepsUnits_advancedDev .., ?number, ?count, fun h0 => ?reply, fun howner => ?lease⟩
  case attrs => exact keepsAttrs_dev (KeepsOthers.trans (keepsOthers_advancedDev _ _ _ _) (keepsOthers_of_attrs (answer_attrs ..)))
  case number =>
    rw [attr_answer, attr_advancedDev_seqNext, hseq]
    split <;> rfl
  case count => exact (attr_answer ..).trans (attr_advancedDev_executed ..)
  case reply =>
    have plain : seq = attr s.dev DEVICE_CMD_SEQ_NEXT r.master := by rw [hseq, h0]; rfl
    have flags : r.flags.toNat = 0 := by rw [h0]; rfl
    exact (answer_stored ..).trans (by rw [hraw, plain, flags])
  case lease =>
    obtain ⟨_, answered⟩ := answer_eq ⟨r.master, r.tag.toNat, 0, r.params, s.dev.nextOrder, raw, seq⟩ (if r.params = [] then stOk else stBadLength) []
      (advancedDev r.master seq raw s.dev)
    rw [answered]
    exact armed_advancedDev_lease _ _ howner

/-! ### Requests that only read (R320, R322, R502) -/

theorem attr_takenDev_seqNext (op : Nat) (r : Req) (s : State) :
    attr (takenDev op r s) DEVICE_CMD_SEQ_NEXT r.master = (attr s.dev DEVICE_CMD_SEQ_NEXT r.master + 1) % 65536 :=
  attr_advancedDev_seqNext ..

/-- R306, R310: a request done with a result and no effect of its own advances its sequence and leaves the rest. -/
theorem issueOut_reads {op : Nat} {f : Body} {r : Req} {s : State} {x : List Byte} (ht : Claims.Takes op r s)
    (hl : (paramRange op).1 ≤ r.params.length ∧ r.params.length ≤ (paramRange op).2)
    (hb : f s.mem (takenCall op r s) (takenDev op r s) = okResult x (takenDev op r s)) :
    ∃ t, issueOut op f r s = .next t ∧ Claims.Replied op stOk r x s t
      ∧ attr t.dev DEVICE_CMD_SEQ_NEXT r.master = (attr s.dev DEVICE_CMD_SEQ_NEXT r.master + 1) % 65536
      ∧ Claims.KeepsAttrs [] s t ∧ Claims.KeepsUnits s t := by
  obtain ⟨t, ran, attrs, units, replied⟩ := issueOut_okResult ht hl hb
  obtain ⟨xs, done, -⟩ := issueOut_done ht hl hb
  obtain rfl := Host.Outcome.next.inj (ran.symm.trans done)
  exact ⟨_, ran, replied, attr_takenDev_seqNext .., attrs, units⟩

theorem identRecord_takenDev (op : Nat) (r : Req) (s : State) : identRecord (takenDev op r s) = identRecord s.dev := by
  simp (disch := decide) only [identRecord, attr_takenDev]

theorem readBlock_takenDev (op : Nat) (r : Req) (s : State) (a : Attr) (i : Nat) : readBlock (takenDev op r s) a i = readBlock s.dev a i := by
  rw [readBlock, block_takenDev, readBlock]

theorem bodyGet_reads {mem : List Host.Cell} {c : Call} {d : Dev} {a : Attr} (h1 : byteAt c.params 1 = 0)
    (ha : addressed (addrAt c.params) = some a) (hb : isBlock a = false) :
    bodyGet mem c d = okResult (byteOf (typeCode a) :: toLE (readValue d a (addrAt c.params).inst) (a.width / 8)) d := by
  rw [bodyGet, reservedZero_one h1, ha]
  dsimp only
  rw [hb]
  rfl

theorem bodyGetBlock_reads {mem : List Host.Cell} {c : Call} {d : Dev} {a : Attr} (h1 : byteAt c.params 1 = 0)
    (ha : addressed (addrAt c.params) = some a) (hb : isBlock a = true) (hn : 1 ≤ leAt c.params 6 2) (hm : leAt c.params 6 2 ≤ 1020)
    (hs : leAt c.params 8 4 + leAt c.params 6 2 ≤ a.size) :
    bodyGetBlock mem c d
      = okResult (toLE a.size 4 ++ ((readBlock d a (addrAt c.params).inst).drop (leAt c.params 8 4)).take (leAt c.params 6 2)) d := by
  rw [bodyGetBlock, reservedZero_one h1, ha]
  dsimp only
  rw [hb, decide_eq_true hn, decide_eq_true hm, decide_eq_true hs]
  rfl

/-- Settles O13. Each of the four is a request that is done with its result and no effect. -/
theorem readsComplete : Obligations.reads_complete := by
  intro r s
  refine ⟨fun ht hp => ?nop, fun ht hp => ?ident, fun a ht hl h1 ha hb => ?get, fun a ht hl h1 ha hb hn hm hs => ?block⟩
  case nop => exact issueOut_reads (f := bodyNop) ht (by rw [hp]; decide) rfl
  case ident =>
    exact issueOut_reads (f := bodyIdent) ht (by rw [hp]; decide) (by rw [bodyIdent, identRecord_takenDev])
  case get =>
    have flags : r.flags = 0#8 := ht.2.1
    rw [← takenDev_eq_advanced flags]
    exact issueOut_reads (f := bodyGet) ht (by rw [hl]; decide) (bodyGet_reads h1 ha hb)
  case block =>
    rw [← readBlock_takenDev 0x12 r]
    exact issueOut_reads (f := bodyGetBlock) ht (by rw [hl]; decide) (bodyGetBlock_reads h1 ha hb hn hm hs)

end Sys2Proof.Machine

namespace Sys2Proof.Machine

/-! ### The effect of a SET (R321) -/

theorem addressed_instanceOk {x : AttrAddr} {a : Attr} (h : addressed x = some a) : instanceOk a x.inst = true := by
  unfold addressed at h
  split at h
  · split at h
    · next b hb hi =>
      obtain rfl := Option.some.inj h
      exact hi
    · cases h
  · cases h

/-- R319: an attribute of the catalogue is known by its class and ID. -/
theorem eq_of_code {a b : Attr} (ha : a ∈ catalogue) (hb : b ∈ catalogue) (h : a.code = b.code) : a = b :=
  List.inj_on_of_nodup_map catalogue_distinct ha hb h

theorem code_lt {a : Attr} (ha : a ∈ catalogue) : a.code < 2 ^ 24 := by
  obtain ⟨hcls, hid, -⟩ := catalogue_fields a ha
  simp only [Attr.code]
  omega

/-- R320: a value read from a request fits its attribute. -/
theorem leAt_lt_width {a : Attr} (ha : a ∈ catalogue) (ps : List Byte) (i : Nat) : leAt ps i (a.width / 8) < 2 ^ a.width := by
  obtain ⟨-, -, hwidth, -⟩ := catalogue_fields a ha
  have bound := leAt_lt ps i (a.width / 8)
  rwa [show (256 : Nat) = 2 ^ 8 from rfl, ← Nat.pow_mul, hwidth] at bound

/-- The attributes that follow a SET of an attribute: the rates with the cap (R67), the head of a history begun again (R201), and the
validity of a pulse whose period is another (R30). -/
abbrev followers (a : Attr) (i : Nat) : List (Nat × Nat) :=
  if a.code = PORT_RATE_CAP.code then Claims.rateAttrs i
  else if a.code = PORT_SNR_HIST_INTERVAL.code then [(PORT_SNR_HIST_HEAD.code, i)]
  else if a.code = TIME_PULSE_IN_PERIOD.code then [(LATTICE_PULSE_VALID.code, 0)] else []

theorem followers_rateCap (p : Nat) : followers PORT_RATE_CAP p = Claims.rateAttrs p := if_pos rfl

theorem followers_snrHistInterval (p : Nat) : followers PORT_SNR_HIST_INTERVAL p = [(PORT_SNR_HIST_HEAD.code, p)] :=
  (if_neg (by decide)).trans (if_pos rfl)

/-- What an accepted SET of a value does: the attribute holds it, and of the rest only the attributes that follow it, and the history of a
port, may differ. -/
structure Written (a : Attr) (i v : Nat) (d e : Dev) : Prop where
  value : attr e a i = v
  others : KeepsOthers ((a.code, i) :: followers a i) d e
  jobs : e.jobs = d.jobs
  blocks : a.code ≠ PORT_SNR_HIST_INTERVAL.code → e.blocks = d.blocks

section Written
variable {a : Attr} {i v : Nat}

theorem written_setAttr (ha : a ∈ catalogue) (hv : v < 2 ^ a.width) (d : Dev) : Written a i v d (setAttr a i v d) where
  value := by rw [attr_setAttr, Nat.mod_eq_of_lt hv]
  others := keepsOthers_setAttr v d (code_lt ha) (List.mem_cons_self ..)
  jobs := rfl
  blocks _ := rfl

/-- A further change that leaves attributes, commands and blocks alone adds nothing to what a SET does. -/
theorem Written.of_same {d e f : Dev} (h : Written a i v d e) (hattrs : f.attrs = e.attrs) (hjobs : f.jobs = e.jobs) (hblocks : f.blocks = e.blocks) :
    Written a i v d f where
  value := (attr_congr hattrs a i).trans h.value
  others := h.others.trans (keepsOthers_of_attrs hattrs)
  jobs := hjobs.trans h.jobs
  blocks hn := hblocks.trans (h.blocks hn)

theorem written_setRateCap (p : Nat) (hv : v < 2 ^ PORT_RATE_CAP.width) (d : Dev) : Written PORT_RATE_CAP p v d (setRateCap p v d) := by
  obtain ⟨_, _, _, same⟩ := sameUnits_setRateCap p v d
  exact
    { value := by rw [attr_setRateCap, Nat.mod_eq_of_lt hv]
      others := by
        rw [followers_rateCap]
        exact keepsOthers_setRateCap p v d
      jobs := by rw [same]
      blocks := fun _ => by rw [same] }

theorem written_clearSnrHistory (p : Nat) (hv : v < 2 ^ PORT_SNR_HIST_INTERVAL.width) (d : Dev) :
    Written PORT_SNR_HIST_INTERVAL p v d (clearSnrHistory p (setAttr PORT_SNR_HIST_INTERVAL p v d)) where
  value := by
    rw [attr_congr (clearSnrHistory_attrs ..), attr_setAttr_ne _ _ _ _ (by decide) (by decide) (by decide), attr_setAttr, Nat.mod_eq_of_lt hv]
  others := by
    rw [followers_snrHistInterval]
    exact ((keepsOthers_setAttr _ _ (by decide) (by simp)).trans (keepsOthers_setAttr _ _ (by decide) (by simp))).trans
      (keepsOthers_of_attrs (clearSnrHistory_attrs ..))
  jobs := rfl
  blocks h := absurd rfl h

theorem written_newPulsePeriod (hv : v < 2 ^ TIME_PULSE_IN_PERIOD.width) (d : Dev) : Written TIME_PULSE_IN_PERIOD 0 v d (newPulsePeriod v d) := by
  unfold newPulsePeriod
  split
  · next h => exact ⟨h.symm, fun _ _ _ _ _ => rfl, rfl, fun _ => rfl⟩
  · have valid : (LATTICE_PULSE_VALID.code, 0) ∈ (TIME_PULSE_IN_PERIOD.code, 0) :: followers TIME_PULSE_IN_PERIOD 0 := by decide
    exact
      { value := by rw [attr_setAttr, Nat.mod_eq_of_lt hv]
        others := KeepsOthers.trans (keepsOthers_of_attrs (e := disarm tkPulseIn 0 { d with time := { d.time with pulseGood := 0 } }) rfl)
          ((keepsOthers_setAttr _ _ (by decide) valid).trans (keepsOthers_setAttr _ _ (by decide) (List.mem_cons_self ..)))
        jobs := rfl
        blocks := fun _ => rfl }

/-- R321: the SET of any value attribute but DEVICE.SNAP_READY stores its value. -/
theorem written_writeValue (ha : a ∈ catalogue) (hi : instanceOk a i = true) (hn : a.code ≠ DEVICE_SNAP_READY.code) (hv : v < 2 ^ a.width) (d : Dev) :
    Written a i v d (writeValue a i v d) := by
  have stored := written_setAttr (i := i) ha hv d
  rw [writeValue, if_neg hn]
  split
  · exact stored.of_same rfl rfl rfl
  · split
    · next h =>
      obtain rfl := eq_of_code ha (by simp [catalogue, catalogue1]) h
      exact written_setRateCap i hv d
    · split
      · next h =>
        obtain rfl := eq_of_code ha (by simp [catalogue, catalogue4]) h
        exact written_clearSnrHistory i hv d
      · split
        · next h =>
          obtain rfl := eq_of_code ha (by simp [catalogue, catalogue11]) h
          obtain rfl : i = 0 := beq_iff_eq.1 hi
          exact written_newPulsePeriod hv d
        · split
          · exact stored.of_same rfl rfl rfl
          · split
            · exact stored.of_same rfl rfl rfl
            · exact stored

end Written

/-- R310: a request that is done keeps the reply with OK as its stored one. -/
theorem replied_done {op : Nat} {r : Req} (hf : r.flags = 0#8) (st : Nat) (x : List Byte) (s t : State) (d : Dev)
    (ht : t.dev = answer (takenCall op r s) st x d) : Claims.Replied op st r x s t := by
  obtain ⟨xs, answered, replied⟩ := replied_answer (op := op) (s := s) hf st x d
  rw [Claims.Replied, ht, answered]
  exact replied

/-- Settles O14. The effect of `writeValue` on the attribute, on those that follow it, and on the rest is `Written`. -/
theorem setWritesValue : Obligations.set_writes_value := by
  intro r s a ht hl h1 h6 ha hb hn hc
  have listed := addressed_mem ha
  obtain ⟨value, others, jobs, blocks⟩ := written_writeValue listed (addressed_instanceOk ha) hn (leAt_lt_width listed r.params 8) (takenDev 0x11 r s)
  have done := issue_set ht hl h1 h6 ha hb hc
  refine ⟨_, congrArg Host.Outcome.next done, replied_done ht.2.1 _ _ _ _ _ rfl, ?_, rfl, ?_, fun b j hcode => ?_, keepsAttrs_answer others⟩
  · rw [attr_answer, value]
  · rw [answer_jobs, jobs, takenDev_jobs]
  · rw [block_congr (answer_blocks ..), block_congr (blocks hcode), block_takenDev]

/-! ### O15 -/

/-- Another block is left alone. -/
theorem block_setBlock_ne {a b : Attr} {i j : Nat} (bs : List Byte) (d : Dev) (ha : a.code < 2 ^ 24) (hb : b.code < 2 ^ 24)
    (h : (b.code, j) ≠ (a.code, i)) : block (setBlock a i bs d) b j = block d b j := by
  unfold block setBlock
  refine bankGet_put_ne' (blockReset a i) (blockReset b j) d.blocks _ fun key => h ?_
  obtain ⟨rfl, hcode⟩ := attrKey_inj hb ha key
  rw [hcode]

/-- Settles O15. -/
theorem setBlockWritesBytes : Obligations.set_block_writes_bytes := by
  intro r s a ht hl hm h1 h6 ha hb hc
  have done := issue_setBlock ht hl hm h1 h6 ha hb hc
  refine ⟨_, congrArg Host.Outcome.next done, replied_done ht.2.1 _ _ _ _ _ rfl, ?_, fun b j hcode hne => ?_,
    keepsAttrs_answer (keepsOthers_of_attrs (setBlock_attrs ..)), rfl⟩
  · rw [block_congr (answer_blocks ..), writeBytes, block_setBlock, block_takenDev]
  · rw [block_congr (answer_blocks ..), writeBytes, block_setBlock_ne _ _ (code_lt (addressed_mem ha)) hcode hne, block_takenDev]

end Sys2Proof.Machine

namespace Sys2Proof.Machine

/-! ### Changes of one master (R325, R327) -/

/-- A row that writes the state of one master leaves everything else. -/
theorem onlyMaster_setMaster (m : Nat) (x : Master) (s : State) : Claims.OnlyMaster m s { s with dev := setMaster m x s.dev } := by
  rw [Claims.OnlyMaster, master_setMaster]

/-- A block whose one master is written answers with that master as given. -/
theorem writes_master (m : Nat) (x : Master) (s : State) :
    ∃ t, Host.Outcome.next (φ := Fault) (ρ := Refusal) { s with dev := setMaster m x s.dev } = .next t ∧ Claims.OnlyMaster m s t ∧ master t.dev m = x :=
  ⟨_, rfl, onlyMaster_setMaster m x s, master_setMaster ..⟩

/-! ### Common command codes (R325 to R327) -/

section Ccc
variable {p : Nat} {f : Master → Master} {s : State} {o : Out}

/-- R325: a port in HDR-DDR does not see a common command code. -/
theorem onCcc_hdr (hh : (master s.dev p).hdr = true) : onCcc p f s = .next s := by
  simp [onCcc, onDev, hh]

/-- R325, R327: a common command code changes its own port alone. -/
theorem onCcc_writes (ho : o = onCcc p f s) (hr : s.dev.phase ≠ .held) (hh : (master s.dev p).hdr = false) {x : Master} (hx : f (Claims.told (master s.dev p)) = x) :
    ∃ t, o = .next t ∧ Claims.OnlyMaster p s t ∧ master t.dev p = x := by
  have seen : ¬(s.dev.phase = .held ∨ (master s.dev p).hdr = true) := by simp [hr, hh]
  have ran : onCcc p f s = .next { s with dev := setMaster p (f (Claims.told (master s.dev p))) s.dev } := by
    rw [onCcc, onDev, if_neg seen]
    rfl
  rw [ho, ran, hx]
  exact writes_master p x s

/-- R327: a direct code reaches a port that has a dynamic address. -/
theorem onDirect_writes (ho : o = onDirect p f s) (hr : s.dev.phase ≠ .held) (hh : (master s.dev p).hdr = false) (ha : (master s.dev p).dynAddr ≠ none) {x : Master}
    (hx : f (Claims.told (master s.dev p)) = x) :
    ∃ t, o = .next t ∧ Claims.OnlyMaster p s t ∧ master t.dev p = x :=
  onCcc_writes ho hr hh ((if_pos (Option.isSome_iff_ne_none.2 ha)).trans hx)

/-- R327: a port without a dynamic address does not acknowledge a direct code. -/
theorem onDirect_nacks (ho : o = onDirect p f s) (hr : s.dev.phase ≠ .held) (hh : (master s.dev p).hdr = false) (ha : (master s.dev p).dynAddr = none) :
    ∃ t, o = .next t ∧ Claims.OnlyMaster p s t ∧ master t.dev p = { Claims.told (master s.dev p) with busAck := false } :=
  onCcc_writes ho hr hh (if_neg (by simp [ha]))

end Ccc

/-! ### What each code makes of its port (R326, R327) -/

section Codes
variable (p : Fin 2) (s : State)

theorem exec_enec (events : Byte) : exec (.enec p events) s = onCcc p (fun x => { x with enint := x.enint || events.toNat.testBit 0 }) s := rfl

theorem exec_disec (events : Byte) : exec (.disec p events) s =
    onCcc p (fun x => if events.toNat.testBit 0 then { x with enint := false, ibi := none } else x) s := rfl

theorem exec_rstdaa : exec (.rstdaa p) s = onCcc p (fun x => { x with dynAddr := none, hdr := false, ibi := none }) s := rfl

theorem exec_entdaa (addr : Fin 128) : exec (.entdaa p addr) s =
    onCcc p (fun x => if x.dynAddr.isSome then x else { x with dynAddr := some addr, busOut := toBE (provisionalId p) 6 ++ [0x26#8, 0x00#8] }) s := rfl

theorem exec_setmwl (v : BitVec 16) : exec (.setmwl p v) s = onCcc p (fun x => if 16 ≤ v.toNat then { x with mwl := v.toNat } else x) s := rfl

theorem exec_setmrl (v : BitVec 16) : exec (.setmrl p v) s = onCcc p (fun x => if 16 ≤ v.toNat then { x with mrl := v.toNat } else x) s := rfl

theorem exec_enthdr0 : exec (.enthdr0 p) s = onCcc p (fun x => if x.dynAddr.isSome then { x with hdr := true } else x) s := rfl

theorem exec_rstact (action : Byte) : exec (.rstact p action) s = onCcc p (fun x => { x with rstact := action.toNat }) s := rfl

theorem exec_setdasa (addr : Fin 128) : exec (.setdasa p addr) s =
    onCcc p (fun x => if x.dynAddr.isSome then { x with busAck := false } else { x with dynAddr := some addr }) s := rfl

theorem exec_setnewda (addr : Fin 128) : exec (.setnewda p addr) s = onDirect p (fun x => { x with dynAddr := some addr }) s := rfl

theorem exec_getmwl : exec (.getmwl p) s = onDirect p (fun x => { x with busOut := toBE x.mwl 2 }) s := rfl

theorem exec_getmrl : exec (.getmrl p) s = onDirect p (fun x => { x with busOut := toBE x.mrl 2 ++ [0x01#8] }) s := rfl

theorem exec_getpid : exec (.getpid p) s = onDirect p (fun x => { x with busOut := toBE (provisionalId p) 6 }) s := rfl

theorem exec_getbcr : exec (.getbcr p) s = onDirect p (fun x => { x with busOut := [0x26#8] }) s := rfl

theorem exec_getdcr : exec (.getdcr p) s = onDirect p (fun x => { x with busOut := [0x00#8] }) s := rfl

theorem exec_getstatus : exec (.getstatus p) s = onDirect p (fun x => { x with busOut := toBE (statusWord x) 2, protoErr := false }) s := rfl

theorem exec_getmxds : exec (.getmxds p) s = onDirect p (fun x => { x with busOut := [0x00#8, 0x20#8] }) s := rfl

theorem exec_getcaps : exec (.getcaps p) s = onDirect p (fun x => { x with busOut := [0x01#8, 0x00#8] }) s := rfl

end Codes

/-- Settles O19. Each code is its change of the port that has seen it (`onCcc_writes`). -/
theorem commonCommandCodesWrite : Obligations.common_command_codes_write := by
  intro p s hr hh
  refine ⟨fun ev => ?enec, fun ev => ?disec, ?rstdaa, fun a ha => ?entdaa, fun v => ?setmwl, fun v => ?setmrl, ?enthdr0, fun a => ?rstact,
    fun a ha => ?setdasa, fun a ha => ?setnewda⟩
  case enec => exact onCcc_writes (exec_enec p s ev) hr hh rfl
  case disec => exact onCcc_writes (exec_disec p s ev) hr hh rfl
  case rstdaa => exact onCcc_writes (exec_rstdaa p s) hr hh rfl
  case entdaa => exact onCcc_writes (exec_entdaa p s a) hr hh (if_neg (by rw [ha]; decide))
  case setmwl =>
    refine onCcc_writes (exec_setmwl p s v) hr hh ?_
    split <;> rfl
  case setmrl =>
    refine onCcc_writes (exec_setmrl p s v) hr hh ?_
    split <;> rfl
  case enthdr0 =>
    refine onCcc_writes (exec_enthdr0 p s) hr hh ?_
    by_cases ha : (master s.dev p).dynAddr.isSome = true
    · rw [if_pos ha, ha]
    · rw [if_neg ha, Bool.eq_false_iff.2 ha, ← hh]
  case rstact => exact onCcc_writes (exec_rstact p s a) hr hh rfl
  case setdasa => exact onCcc_writes (exec_setdasa p s a) hr hh (if_neg (by rw [ha]; decide))
  case setnewda => exact onDirect_writes (exec_setnewda p s a) hr hh ha rfl

/-- Settles O20. The codes that read are direct (`onDirect_writes`, `onDirect_nacks`); the bytes of GETCAPS, GETMWL and GETMRL are those of
assumptions 9 and 22, and that a port in HDR-DDR sees no code (`onCcc_hdr`) is the model's choice, assumption 125. -/
theorem commonCommandCodesRead : Obligations.common_command_codes_read := by
  refine ⟨fun p s hr hh ha => ?reads, fun p s hr => ⟨?exit, fun hh c hc => ?hdr, fun hh ha a => ⟨?entdaa, ?setdasa⟩, fun hh ha c hc => ?nack⟩⟩
  case reads =>
    exact ⟨onDirect_writes (exec_getmwl p s) hr hh ha rfl, onDirect_writes (exec_getmrl p s) hr hh ha rfl,
      onDirect_writes (exec_getpid p s) hr hh ha rfl, onDirect_writes (exec_getbcr p s) hr hh ha rfl,
      onDirect_writes (exec_getdcr p s) hr hh ha rfl, onDirect_writes (exec_getstatus p s) hr hh ha rfl,
      onDirect_writes (exec_getmxds p s) hr hh ha rfl, onDirect_writes (exec_getcaps p s) hr hh ha rfl⟩
  case exit =>
    have ran : exec (.hdrExit p) s = execHdrExit p s := rfl
    rw [ran, execHdrExit, onDev, if_neg hr]
    exact writes_master p _ s
  case hdr =>
    rcases hc with rfl | rfl | rfl | rfl | ⟨x, rfl⟩ | ⟨x, rfl⟩ | ⟨x, rfl⟩ | ⟨x, rfl⟩ | ⟨x, rfl⟩ | ⟨x, rfl⟩ | ⟨x, rfl⟩ | ⟨x, rfl⟩
    · exact (exec_rstdaa p s).trans (onCcc_hdr hh)
    · exact (exec_enthdr0 p s).trans (onCcc_hdr hh)
    · exact (exec_getpid p s).trans (onCcc_hdr hh)
    · exact (exec_getstatus p s).trans (onCcc_hdr hh)
    · exact (exec_enec p s x).trans (onCcc_hdr hh)
    · exact (exec_disec p s x).trans (onCcc_hdr hh)
    · exact (exec_setmwl p s x).trans (onCcc_hdr hh)
    · exact (exec_setmrl p s x).trans (onCcc_hdr hh)
    · exact (exec_rstact p s x).trans (onCcc_hdr hh)
    · exact (exec_entdaa p s x).trans (onCcc_hdr hh)
    · exact (exec_setdasa p s x).trans (onCcc_hdr hh)
    · exact (exec_setnewda p s x).trans (onCcc_hdr hh)
  case entdaa => exact onCcc_writes (exec_entdaa p s a) hr hh (if_pos (Option.isSome_iff_ne_none.2 ha))
  case setdasa => exact onCcc_writes (exec_setdasa p s a) hr hh (if_pos (Option.isSome_iff_ne_none.2 ha))
  case nack =>
    rcases hc with rfl | rfl | rfl | rfl | rfl | rfl | rfl | rfl | ⟨a, rfl⟩
    · exact onDirect_nacks (exec_getmwl p s) hr hh ha
    · exact onDirect_nacks (exec_getmrl p s) hr hh ha
    · exact onDirect_nacks (exec_getpid p s) hr hh ha
    · exact onDirect_nacks (exec_getbcr p s) hr hh ha
    · exact onDirect_nacks (exec_getdcr p s) hr hh ha
    · exact onDirect_nacks (exec_getstatus p s) hr hh ha
    · exact onDirect_nacks (exec_getmxds p s) hr hh ha
    · exact onDirect_nacks (exec_getcaps p s) hr hh ha
    · exact onDirect_nacks (exec_setnewda p s a) hr hh ha

end Sys2Proof.Machine

namespace Sys2Proof.Machine

/-! ### Writes of one master, one after another -/

section Bank
variable {α : Type}

theorem bankErase_insert (k : Nat) (x : α) (m : List (Nat × α)) : bankErase (bankInsert k x m) k = bankErase m k := by
  induction m with
  | nil => simp [bankErase, bankInsert]
  | cons e r ih =>
    obtain ⟨j, v⟩ := e
    unfold bankErase at ih
    unfold bankInsert bankErase
    split
    · simp
    · rw [List.filter_cons, List.filter_cons, ih]

variable [DecidableEq α]

theorem bankErase_put (d : α) (m : List (Nat × α)) (k : Nat) (x : α) : bankErase (bankPut d m k x) k = bankErase m k := by
  have again : bankErase (bankErase m k) k = bankErase m k := List.filter_filter.trans (by simp only [Bool.and_self]; rfl)
  unfold bankPut
  split
  · exact again
  · rw [bankErase_insert, again]

/-- The later of two writes to one place stands. -/
theorem bankPut_put (d : α) (m : List (Nat × α)) (k : Nat) (x y : α) : bankPut d (bankPut d m k x) k y = bankPut d m k y := by
  rw [bankPut, bankErase_put, bankPut]

end Bank

theorem setMaster_setMaster (m : Nat) (x y : Master) (d : Dev) : setMaster m y (setMaster m x d) = setMaster m y d := by
  simp only [setMaster, bankPut_put]

theorem modMaster_setMaster (m : Nat) (f : Master → Master) (x : Master) (d : Dev) : modMaster m f (setMaster m x d) = setMaster m (f x) d := by
  rw [modMaster, master_setMaster, setMaster_setMaster]

/-! ### Transfers on a mailbox (R330 to R333) -/

/-- R312: the Vertex has nothing to take. -/
theorem pumpAll_idle {s : State} (h : s.dev.waiting = []) : pumpAll s = s := by
  simp [pumpAll, pump, h]

section Private
variable {p : Nat} {s : State}

/-- R331: a write to the mailbox whose header is acknowledged meets the port as the transfer found it. -/
theorem privateWrite_acked (ha : writeAcked s.dev p = true) (f : State → State) :
    privateWrite p f s = f { s with dev := setMaster p (Claims.heard (master s.dev p)) s.dev } := by
  rw [privateWrite, ha, if_pos rfl]
  rfl

/-- R330: an acknowledged write that changes its port alone. -/
theorem privateWrite_modMaster (ha : writeAcked s.dev p = true) (f : Master → Master) :
    privateWrite p (fun t => { t with dev := modMaster p f t.dev }) s = { s with dev := setMaster p (f (Claims.heard (master s.dev p))) s.dev } := by
  rw [privateWrite_acked ha]
  exact congrArg (fun d => { s with dev := d }) (modMaster_setMaster ..)

/-- R331: bytes that do not yet end a request are kept; the limit runs from the first of them. -/
theorem feed_unended {acc bytes : List Byte} (h : requestEnd p (acc ++ bytes) = none) (s : State) :
    feed p acc bytes s = { s with
      dev :=
        if acc.isEmpty && !bytes.isEmpty then arm tkRequest p (10 * nsPerMs) (modMaster p (fun x => { x with partialReq := some (acc ++ bytes) }) s.dev)
        else modMaster p (fun x => { x with partialReq := some (acc ++ bytes) }) s.dev } := by
  rw [feed, h]

/-- R331: a request that ends is handed over, and the port is free for the next one. -/
theorem feed_ended {acc bytes raw : List Byte} {extra : Bool} (h : requestEnd p (acc ++ bytes) = some (raw, extra)) (s : State) :
    feed p acc bytes s = submit p raw { s with
      dev := disarm tkRequest p (modMaster p (fun x => { x with partialReq := none, errFraming := x.errFraming || extra }) s.dev) } := by
  rw [feed, h]

/-! ### REQ_START and REQ_CONT (R331) -/

/-- R331, R332: a port at a REQ_START: replies read in full leave, and a request is assembled anew; one that was begun is a framing error. -/
abbrev requestBegun (x : Master) : Master :=
  { Claims.heard x with
    partialReq := some [], errFraming := x.errFraming || x.partialReq.isSome, replies := x.replies.dropWhile fun r => r.readFull }

theorem reqStart_good {port : Fin 2} (ha : writeAcked s.dev port = true) (bytes : List Byte) :
    exec (.reqStart port bytes false) s
      = .next (pumpAll (feed port [] bytes { s with dev := disarm tkRequest port (setMaster port (requestBegun (master s.dev port)) s.dev) })) := by
  have ran : exec (.reqStart port bytes false) s = execReqStart port bytes false s := rfl
  rw [ran, execReqStart, privateWrite_acked ha]
  simp only [dropRead, modMaster_setMaster, badWord, Bool.false_and, Bool.false_eq_true, if_false, master_setMaster]

theorem reqStart_bad {port : Fin 2} (ha : writeAcked s.dev port = true) (hh : (master s.dev port).hdr = true) (bytes : List Byte) :
    exec (.reqStart port bytes true) s
      = .next (pumpAll { s with dev := discardBad port (disarm tkRequest port (setMaster port (requestBegun (master s.dev port)) s.dev)) }) := by
  have ran : exec (.reqStart port bytes true) s = execReqStart port bytes true s := rfl
  have bad : badWord (disarm tkRequest port (setMaster port (requestBegun (master s.dev port)) s.dev)) port true = true :=
    (congrArg Master.hdr (master_setMaster port (requestBegun (master s.dev port)) s.dev)).trans hh
  rw [ran, execReqStart, privateWrite_acked ha]
  simp only [dropRead, modMaster_setMaster, master_setMaster]
  rw [if_pos bad]

/-! R334: the timer of a request stands beside the masters. -/

theorem master_disarm (k i m : Nat) (d : Dev) : master (disarm k i d) m = master d m := rfl

theorem master_arm (k i ns m : Nat) (d : Dev) : master (arm k i ns d) m = master d m := rfl

theorem modMaster_disarm (m k i : Nat) (f : Master → Master) (d : Dev) : modMaster m f (disarm k i d) = disarm k i (modMaster m f d) := rfl

/-- R331: a request begun anew keeps its bytes, and its limit runs where there are any. -/
theorem feed_fresh {bytes : List Byte} (he : requestEnd p bytes = none) {x : Master} (d : Dev) :
    ∃ e, feed p [] bytes { s with dev := disarm tkRequest p (setMaster p x d) } = { s with dev := e }
      ∧ master e p = { x with partialReq := some bytes } ∧ armed e tkRequest p = !bytes.isEmpty
      ∧ e = { d with masters := e.masters, timers := e.timers } := by
  have begins : requestEnd p ([] ++ bytes) = none := he
  rw [feed_unended begins]
  simp only [List.isEmpty_nil, Bool.true_and, List.nil_append, modMaster_disarm, modMaster_setMaster]
  cases bytes.isEmpty with
  | true => exact ⟨_, rfl, (master_disarm ..).trans (master_setMaster ..), armed_disarm .., rfl⟩
  | false => exact ⟨_, rfl, (master_arm ..).trans ((master_disarm ..).trans (master_setMaster ..)), armed_arm .., rfl⟩

theorem reqStart_keeps {port : Fin 2} (ha : writeAcked s.dev port = true) (hw : s.dev.waiting = []) {bytes : List Byte} (he : requestEnd port bytes = none) :
    ∃ t, exec (.reqStart port bytes false) s = .next t
      ∧ master t.dev port = { requestBegun (master s.dev port) with partialReq := some bytes }
      ∧ armed t.dev tkRequest port = !bytes.isEmpty ∧ Claims.KeepsAttrs [] s t ∧ Claims.KeepsUnits s t := by
  obtain ⟨e, fed, written, limit, rest⟩ := feed_fresh (s := s) he (x := requestBegun (master s.dev port)) s.dev
  have idle : e.waiting = [] := by rw [rest]; exact hw
  rw [reqStart_good ha, fed, pumpAll_idle idle]
  refine ⟨_, rfl, written, limit, keepsAttrs_dev (keepsOthers_of_attrs ?_), ?_⟩
  · rw [rest]
  · exact ⟨_, e.masters, e.timers, _, congrArg (fun d => { s with dev := d }) rest⟩

theorem reqStart_discards {port : Fin 2} (ha : writeAcked s.dev port = true) (hw : s.dev.waiting = []) (hh : (master s.dev port).hdr = true)
    (bytes : List Byte) :
    ∃ t, exec (.reqStart port bytes true) s = .next t ∧ (master t.dev port).partialReq = none ∧ (master t.dev port).errFraming = true
      ∧ armed t.dev tkRequest port = false ∧ Claims.KeepsAttrs [] s t ∧ Claims.KeepsUnits s t := by
  rw [reqStart_bad ha hh, discardBad, modMaster_disarm, modMaster_setMaster, pumpAll_idle (h := by exact hw)]
  have written : ∀ x, master (disarm tkRequest port (disarm tkRequest port (setMaster port x s.dev))) port = x := fun x => master_setMaster ..
  refine ⟨_, rfl, ?_, ?_, armed_disarm .., keepsAttrs_dev (keepsOthers_of_attrs rfl), _, _, _, _, rfl⟩
  · exact congrArg Master.partialReq (written _)
  · exact congrArg Master.errFraming (written _)

/-- R331: the bytes of a REQ_CONT with no bad word follow the request that was begun. -/
theorem reqCont_begun {port : Fin 2} (ha : writeAcked s.dev port = true) {acc : List Byte} (hp : (master s.dev port).partialReq = some acc)
    (bytes : List Byte) :
    exec (.reqCont port bytes false) s
      = .next (feed port acc bytes { s with dev := setMaster port (Claims.heard (master s.dev port)) s.dev }) := by
  have ran : exec (.reqCont port bytes false) s = execReqCont port bytes false s := rfl
  rw [ran, execReqCont, privateWrite_acked ha]
  simp only [master_setMaster, hp, badWord, Bool.false_and, Bool.false_eq_true, if_false]

/-- R331: a REQ_CONT with no request begun is a framing error. -/
theorem reqCont_unbegun {port : Fin 2} (ha : writeAcked s.dev port = true) (hp : (master s.dev port).partialReq = none) (bytes : List Byte) :
    exec (.reqCont port bytes false) s
      = .next { s with dev := setMaster port { Claims.heard (master s.dev port) with errFraming := true } s.dev } := by
  have ran : exec (.reqCont port bytes false) s = execReqCont port bytes false s := rfl
  rw [ran, execReqCont, privateWrite_acked ha]
  simp only [master_setMaster, hp, modMaster_setMaster]

theorem reqCont_keeps {port : Fin 2} (ha : writeAcked s.dev port = true) {acc bytes : List Byte}
    (hp : (master s.dev port).partialReq = some acc) (he : requestEnd port (acc ++ bytes) = none) (hn : acc ≠ []) :
    exec (.reqCont port bytes false) s
      = .next { s with dev := setMaster port { Claims.heard (master s.dev port) with partialReq := some (acc ++ bytes) } s.dev } := by
  have begun : (acc.isEmpty && !bytes.isEmpty) = false := by simp [hn]
  rw [reqCont_begun ha hp, feed_unended he, begun, if_neg Bool.false_ne_true, modMaster_setMaster]

theorem reqCont_ends {port : Fin 2} (ha : writeAcked s.dev port = true) {acc bytes raw : List Byte} {extra : Bool}
    (hp : (master s.dev port).partialReq = some acc) (he : requestEnd port (acc ++ bytes) = some (raw, extra)) :
    exec (.reqCont port bytes false) s = .next (submit port raw { s with
      dev := disarm tkRequest port (setMaster port
        { Claims.heard (master s.dev port) with partialReq := none, errFraming := (master s.dev port).errFraming || extra } s.dev) }) := by
  rw [reqCont_begun ha hp, feed_ended he, modMaster_setMaster]

/-! ### MBX_CONTROL (R332) -/

theorem clearErr_acked {port : Fin 2} (ha : writeAcked s.dev port = true) :
    exec (.clearErr port) s = .next { s with
      dev := setMaster port { Claims.heard (master s.dev port) with errTimeout := false, errFraming := false, errDiscard := false } s.dev } :=
  congrArg _ (privateWrite_modMaster ha _)

theorem replyDone_acked {port : Fin 2} (ha : writeAcked s.dev port = true) (hw : s.dev.waiting = []) :
    exec (.replyDone port) s = .next { s with
      dev := setMaster port { Claims.heard (master s.dev port) with replies := (master s.dev port).replies.drop 1 } s.dev } :=
  congrArg _ ((congrArg pumpAll (privateWrite_modMaster ha _)).trans (pumpAll_idle hw))

theorem reqAbort_acked {port : Fin 2} (ha : writeAcked s.dev port = true) :
    exec (.reqAbort port) s = .next { s with
      dev := disarm tkRequest port (setMaster port { Claims.heard (master s.dev port) with partialReq := none } s.dev) } := by
  have ran : exec (.reqAbort port) s = execReqAbort port s := rfl
  rw [ran, execReqAbort, privateWrite_acked ha]
  simp only [modMaster_setMaster]

/-! ### Reading a reply (R332) -/

/-- R332: what a read of `count` bytes gives a port that has been heard. -/
abbrev portRead (fromStart : Bool) (count : Nat) (x : Master) : Master :=
  match x.replies with
  | [] => { x with busOut := [0x00#8] }
  | r :: rest =>
    let off := if fromStart then 0 else r.read
    let out := (r.bytes.drop off).take (min count x.mrl)
    { x with busOut := out, replies := { r with read := off + out.length, readFull := r.readFull || decide (r.bytes.length ≤ off + out.length) } :: rest }

theorem privateRead_acked (hr : isReady s.dev = true) (hv : s.dev.vertex ≠ .halted) (fromStart : Bool) (count : Nat) :
    onDev (privateRead p fromStart count) s
      = .next { s with dev := setMaster p (portRead fromStart count (Claims.heard (master s.dev p))) s.dev } := by
  have ack : (isReady s.dev && s.dev.vertex != .halted) = true := by simp [hr, hv]
  have read : privateRead p fromStart count s.dev = setMaster p (portRead fromStart count (Claims.heard (master s.dev p))) s.dev := by
    rw [privateRead, ack, if_pos rfl]
    exact modMaster_setMaster ..
  rw [onDev, read]

/-- R332: the bytes taken end the reply where as many as may be read reach its end. -/
theorem portRead_fromStart {x : Master} {r : Reply} {rest : List Reply} (h : x.replies = r :: rest) (count : Nat) :
    portRead true count x = { x with
      busOut := r.bytes.take (min count x.mrl),
      replies := { r with read := min (min count x.mrl) r.bytes.length,
                          readFull := r.readFull || decide (r.bytes.length ≤ min count x.mrl) } :: rest } := by
  have ends : r.bytes.length ≤ min (min count x.mrl) r.bytes.length ↔ r.bytes.length ≤ min count x.mrl := by omega
  simp only [portRead, h, if_true, List.drop_zero, Nat.zero_add, List.length_take, decide_eq_decide.mpr ends]

theorem portRead_continued {x : Master} {r : Reply} {rest : List Reply} (h : x.replies = r :: rest) (count : Nat) :
    (portRead false count x).busOut = (r.bytes.drop r.read).take (min count x.mrl) := by
  simp only [portRead, h, Bool.false_eq_true, if_false]

end Private

/-- Settles O21. A transfer that is acknowledged is one write of its port (`privateWrite_acked`, `privateRead_acked`), and with no request waiting the
Vertex has nothing to take (`pumpAll_idle`). Assumptions 8, 16 and 18 of the log are the model's choices behind it: a requested interrupt goes before the
next transfer (`Claims.heard`), the header is acknowledged by `writeAcked`, and a bad HDR-DDR word discards the request with its error bits. -/
theorem mailboxTransfers : Obligations.mailbox_transfers := by
  refine ⟨fun p s ha hw => ⟨?reqStart, ?badStart, ?reqCont, ?ended, ?unbegun, ?clearErr, ?replyDone, ?reqAbort⟩, fun p n s hr hv => ⟨?reads, ?empty⟩⟩
  case reqStart => exact fun bytes he => reqStart_keeps ha hw he
  case badStart => exact fun bytes hh => reqStart_discards ha hw hh bytes
  case reqCont =>
    intro acc bytes hp he hn
    rw [reqCont_keeps ha hp he hn]
    exact writes_master ..
  case ended => exact fun acc bytes raw extra hp he => reqCont_ends ha hp he
  case unbegun =>
    intro bytes hp
    rw [reqCont_unbegun ha hp]
    exact writes_master ..
  case clearErr =>
    rw [clearErr_acked ha]
    exact writes_master ..
  case replyDone =>
    rw [replyDone_acked ha hw]
    exact writes_master ..
  case reqAbort =>
    rw [reqAbort_acked ha]
    exact ⟨_, rfl, master_setMaster .., armed_disarm .., keepsAttrs_dev (keepsOthers_of_attrs rfl), _, _, _, _, rfl⟩
  case reads =>
    intro r rest h
    refine ⟨⟨_, privateRead_acked hr hv true n, onlyMaster_setMaster .., ?_⟩, ⟨_, privateRead_acked hr hv false n, onlyMaster_setMaster .., ?_⟩⟩
    · exact (master_setMaster ..).trans (portRead_fromStart (x := Claims.heard (master s.dev p)) h n)
    · exact (congrArg Master.busOut (master_setMaster ..)).trans (portRead_continued (x := Claims.heard (master s.dev p)) h n)
  case empty =>
    intro h
    refine ⟨_, privateRead_acked hr hv true n, onlyMaster_setMaster .., (master_setMaster ..).trans ?_⟩
    simp only [portRead, h]

end Sys2Proof.Machine

namespace Sys2Proof.Machine

/-! ### Limits of the transports (R331 to R336) -/

/-- R332, R336: an unfinished request or packet that is dropped is counted for its master; only its limit stands beside. -/
theorem drop_counts {s : State} (m : Nat) (f : Master → Master) (ts : List (Nat × Nat)) :
    let t : State := { s with dev := { bump DEVICE_CMD_XFER_TIMEOUTS m 1 (modMaster m f s.dev) with timers := ts } }
    master t.dev m = f (master s.dev m)
      ∧ attr t.dev DEVICE_CMD_XFER_TIMEOUTS m = (attr s.dev DEVICE_CMD_XFER_TIMEOUTS m + 1) % 2 ^ 32
      ∧ Claims.KeepsAttrs [(DEVICE_CMD_XFER_TIMEOUTS.code, m)] s t ∧ Claims.KeepsUnits s t :=
  ⟨master_setMaster .., attr_bump .., keepsAttrs_dev (keepsOthers_setAttr _ _ (by decide) (by simp)), _, _, _, _, rfl⟩

theorem master_modMaster (m : Nat) (f : Master → Master) (d : Dev) : master (modMaster m f d) m = f (master d m) := master_setMaster ..

/-- R336: a packet that begins starts its limit. -/
theorem begin_limits {s : State} (k m ns : Nat) (f : Master → Master) :
    let t : State := { s with dev := arm k m ns (modMaster m f s.dev) }
    master t.dev m = f (master s.dev m) ∧ armed t.dev k m = true ∧ Claims.KeepsAttrs [] s t ∧ Claims.KeepsUnits s t :=
  ⟨(master_arm ..).trans (master_modMaster ..), armed_arm .., keepsAttrs_dev (keepsOthers_of_attrs rfl), _, _, _, _, rfl⟩

section Row
variable {s : State}

theorem mbxRequestTimeout_drops {port : Fin 2} (hd : due s.dev tkRequest port = true) :
    exec (.mbxRequestTimeout port) s = .next { s with
      dev := { bump DEVICE_CMD_XFER_TIMEOUTS port 1 (modMaster port (fun x => { x with partialReq := none, errTimeout := true }) s.dev) with
        timers := (disarm tkRequest port s.dev).timers } } :=
  exec_onExpiry hd

theorem commandPacketTimeout_drops {ch : Fin 2} (hd : due s.dev tkPacket (2 + ch.val) = true) :
    ∃ ts, exec (.commandPacketTimeout ch) s = .next { s with
      dev := { bump DEVICE_CMD_XFER_TIMEOUTS (2 + ch.val) 1 (modMaster (2 + ch.val) (fun x => { x with partialReq := none }) s.dev) with timers := ts } } := by
  have ran : exec (.commandPacketTimeout ch) s = execCommandPacketTimeout ch s := rfl
  rw [ran, execCommandPacketTimeout, onDev, if_pos hd]
  exact ⟨_, rfl⟩

theorem replyHoldExpiry_drops {port : Fin 2} (hw : s.dev.waiting = []) (ho : (master s.dev port).replies.any (overdueReply s.dev port) = true) :
    exec (.replyHoldExpiry port) s = .next { s with
      dev := setMaster port { master s.dev port with
        replies := eraseFirst (overdueReply s.dev port) (master s.dev port).replies, errDiscard := true } s.dev } := by
  have ran : exec (.replyHoldExpiry port) s = execReplyHoldExpiry port s := rfl
  rw [ran, execReplyHoldExpiry, if_pos ho, pumpAll_idle (h := by exact hw)]
  rfl

/-- R334: a bus that stalls waits for a START where the port is on it. -/
theorem i3cSclStall_waits {port : Fin 2} (ha : (master s.dev port).dynAddr ≠ none) :
    exec (.i3cSclStall port) s = .next { s with dev := setMaster port { master s.dev port with waitStart := true } s.dev } := by
  have ran : exec (.i3cSclStall port) s = execI3cSclStall port s := rfl
  rw [ran, execI3cSclStall, onDev, modMaster, if_pos (Option.isSome_iff_ne_none.mpr ha)]

theorem i2cSclLowTimeout_waits {port : Fin 2} (ha : (master s.dev port).dynAddr = none) :
    exec (.i2cSclLowTimeout port) s = .next { s with dev := setMaster port { master s.dev port with waitStart := true } s.dev } := by
  have ran : exec (.i2cSclLowTimeout port) s = execI2cSclLowTimeout port s := rfl
  rw [ran, execI2cSclLowTimeout, onDev, modMaster, if_pos (Option.isNone_iff_eq_none.mpr ha)]

/-! ### Target reset (R328) -/

theorem targetReset_ignored {port : Fin 2} (hp : s.dev.phase ≠ .held) (hr : 3 ≤ (master s.dev port).rstact) :
    exec (.targetReset port) s = .next { s with dev := setMaster port { master s.dev port with rstact := 0 } s.dev } := by
  have ran : exec (.targetReset port) s = execTargetReset port s := rfl
  rw [ran, execTargetReset, onDev, if_neg hp, if_neg (by omega)]
  rfl

theorem targetReset_taken {port : Fin 2} (hp : s.dev.phase ≠ .held) (hr : (master s.dev port).rstact ≤ 2) :
    exec (.targetReset port) s = .next { s with dev := modMaster port (fun x => { x with rstact := 0 }) (targetReset port s.dev) } := by
  have ran : exec (.targetReset port) s = execTargetReset port s := rfl
  rw [ran, execTargetReset, onDev, if_neg hp, if_pos hr]

theorem master_targetReset (m : Nat) (d : Dev) :
    master (targetReset m d) m = { master d m with partialReq := none, replies := [], stored := none } := master_setMaster ..

theorem seqNext_targetReset (m : Nat) (d : Dev) : attr (targetReset m d) DEVICE_CMD_SEQ_NEXT m = 0 :=
  attr_setAttr DEVICE_CMD_SEQ_NEXT m 0 _

theorem waitingOf_targetReset (m : Nat) (d : Dev) : waitingOf (targetReset m d) m = [] := by
  have gone : (d.waiting.filter fun w => w.1 != m).filter (fun w => w.1 == m) = [] := by
    rw [List.filter_filter, List.filter_eq_nil_iff]
    simp
  exact congrArg (List.map _) gone

theorem keepsOthers_targetReset (m : Nat) (d : Dev) : KeepsOthers [(DEVICE_CMD_SEQ_NEXT.code, m)] d (targetReset m d) :=
  keepsOthers_setAttr (a := DEVICE_CMD_SEQ_NEXT) 0 d (by decide) (by simp)

end Row

/-! ### Fragments on a command channel (R336) -/

section Channel
variable {s : State} {ch : Fin 2} {payload : List Byte}

/-- R336: the header of a payload that is whole and not too long for its channel. -/
abbrev WholeFragment (s : State) (ch : Nat) (payload : List Byte) : Prop :=
  transportUp s.dev (2 + ch) = true ∧ 1 ≤ fieldOf (ofBE (payload.take 4)) 25 16 ∧
    fieldOf (ofBE (payload.take 4)) 25 16 ≤ channelLimit s.dev (2 + ch) ∧ 4 + fieldOf (ofBE (payload.take 4)) 25 16 ≤ payload.length

theorem commandRowReceived_whole (h : WholeFragment s ch payload) :
    exec (.commandRowReceived ch payload) s = .next (takeFragment (2 + ch.val) (bitOf (ofBE (payload.take 4)) 31) (bitOf (ofBE (payload.take 4)) 30)
      ((payload.drop 4).take (fieldOf (ofBE (payload.take 4)) 25 16)) s) := by
  obtain ⟨up, least, most, whole⟩ := h
  have ran : exec (.commandRowReceived ch payload) s = execCommandRowReceived ch payload s := rfl
  rw [ran, execCommandRowReceived, commandPayload, if_neg (by simp [up]), if_neg (by omega)]

theorem takeFragment_starts {m : Nat} (hn : (master s.dev m).partialReq = none) (bytes : List Byte) :
    takeFragment m true false bytes s = { s with dev := arm tkPacket m (1 * nsPerMs) (modMaster m (fun x => { x with partialReq := some bytes }) s.dev) } := by
  simp [takeFragment, hn]

theorem takeFragment_ends {m : Nat} {acc : List Byte} (hp : (master s.dev m).partialReq = some acc) (bytes : List Byte) :
    takeFragment m false true bytes s
      = submit m (acc ++ bytes) { s with dev := disarm tkPacket m (modMaster m (fun x => { x with partialReq := none }) s.dev) } := by
  simp [takeFragment, hp]

end Channel

/-- Settles O22. Each limit is its change of the master whose transport it is. That an action of RSTACT above 2 resets nothing, and 2 as much as 1, is the
model's choice (assumption 19). -/
theorem transportLimits : Obligations.transport_limits := by
  intro s
  refine ⟨?request, ?hold, ?stall, ?low, ?ignored, ?reset, ?starts, ?ends, ?packet⟩
  case request => exact fun p hd => ⟨_, mbxRequestTimeout_drops hd, drop_counts ..⟩
  case hold =>
    intro p hw ho
    rw [replyHoldExpiry_drops hw ho]
    exact writes_master ..
  case stall =>
    intro p ha
    rw [i3cSclStall_waits ha]
    exact writes_master ..
  case low =>
    intro p ha
    rw [i2cSclLowTimeout_waits ha]
    exact writes_master ..
  case ignored =>
    intro p hp hr
    rw [targetReset_ignored hp hr]
    exact writes_master ..
  case reset =>
    intro p hp hr
    refine ⟨_, targetReset_taken hp hr, (master_setMaster ..).trans ?_, seqNext_targetReset .., waitingOf_targetReset .., rfl,
      keepsAttrs_dev (KeepsOthers.trans (keepsOthers_targetReset p s.dev) (keepsOthers_of_attrs rfl)), rfl⟩
    rw [master_targetReset]
  case starts =>
    intro ch payload up least most whole start fin free
    rw [commandRowReceived_whole ⟨up, least, most, whole⟩, start, fin, takeFragment_starts free]
    obtain ⟨kept, limit, attrs, units⟩ := begin_limits (s := s) tkPacket (2 + ch.val) (1 * nsPerMs)
      fun x => { x with partialReq := some ((payload.drop 4).take (fieldOf (ofBE (payload.take 4)) 25 16)) }
    exact ⟨_, rfl, congrArg Master.partialReq kept, limit, attrs, units⟩
  case ends =>
    intro ch payload acc up least most whole start fin held
    rw [commandRowReceived_whole ⟨up, least, most, whole⟩, start, fin, takeFragment_ends held]
    rfl
  case packet =>
    intro ch hd
    obtain ⟨ts, ran⟩ := commandPacketTimeout_drops hd
    exact ⟨_, ran, drop_counts ..⟩

end Sys2Proof.Machine

namespace Sys2Proof.Machine

/-! ### Event queues (R349 to R356) -/

/-- What an event may change of a master's queue: its records and the count of those lost. -/
abbrev queueOf (d : Dev) (m : Nat) : List EventRec × Nat := ((master d m).events, attr d EVENTQ_LOST m)

theorem attr_signal (m : Nat) (d : Dev) (b : Attr) (i : Nat) : attr (signal m d) b i = attr d b i := by
  obtain ⟨xs, h⟩ := signal_eq m d
  rw [h]
  rfl

theorem master_bump (a : Attr) (i n : Nat) (d : Dev) (m : Nat) : master (bump a i n d) m = master d m := rfl

theorem attr_setMaster (m : Nat) (x : Master) (d : Dev) (b : Attr) (i : Nat) : attr (setMaster m x d) b i = attr d b i := rfl

theorem queueOf_signal (m k : Nat) (d : Dev) : queueOf (signal m d) k = queueOf d k := by
  rw [queueOf, signal_events, attr_signal]

/-- R356: the number of records queued is no part of the queue itself. -/
theorem queueOf_queued (m k : Nat) (d : Dev) : queueOf (bump EVENTQ_QUEUED m 1 d) k = queueOf d k :=
  congrArg (Prod.mk _) (attr_bump_ne m 1 k d (by decide) (by decide) (by decide))

/-- R352: an event goes to the end of a queue that has room. -/
theorem enqueue_room {m : Nat} {d : Dev} (h : (master d m).events.length < 255) (r : EventRec) :
    (master (enqueue m r d) m).events = (master d m).events ++ [r] := by
  have put : ∀ x, (master (bump EVENTQ_QUEUED m 1 (setMaster m x d)) m).events = x.events := fun x => congrArg Master.events (master_setMaster ..)
  unfold enqueue
  dsimp only
  rw [if_pos h]
  split
  · rw [master_arm, signal_events, put]
  · rw [put]

/-- R352: the first event that finds no room becomes an OVERFLOW record, and is counted. -/
theorem enqueue_overflows {m : Nat} {d : Dev} {x : EventRec} (h : 255 ≤ (master d m).events.length) (hx : (master d m).events.getLast? = some x)
    (ht : x.type ≠ evOverflow) (r : EventRec) :
    queueOf (enqueue m r d) m
      = ((master d m).events ++ [⟨r.seq, r.time, clsEventq, m, evOverflow, 1⟩], (attr d EVENTQ_LOST m + 1) % 2 ^ EVENTQ_LOST.width) := by
  unfold enqueue
  dsimp only
  rw [if_neg (by omega), hx]
  dsimp only
  rw [if_neg ht, queueOf_signal, queueOf_queued, queueOf, attr_bump, attr_setMaster, master_bump, master_setMaster]

/-- R352: each further one is counted in the OVERFLOW record. -/
theorem enqueue_counts {m : Nat} {d : Dev} {x : EventRec} (h : 255 ≤ (master d m).events.length) (hx : (master d m).events.getLast? = some x)
    (ht : x.type = evOverflow) (r : EventRec) :
    (master (enqueue m r d) m).events = (master d m).events.dropLast ++ [{ x with detail := min 0xFFFF (x.detail + 1) }] := by
  unfold enqueue
  dsimp only
  rw [if_neg (by omega), hx]
  dsimp only
  rw [if_pos ht, master_bump, master_setMaster]

/-- An event for one master leaves the queue of another. -/
theorem queueOf_enqueue_ne {m k : Nat} (h : k ≠ m) (r : EventRec) (d : Dev) : queueOf (enqueue m r d) k = queueOf d k := by
  have put : ∀ x, queueOf (setMaster m x d) k = queueOf d k := fun x => by rw [queueOf, master_setMaster_ne _ _ h, attr_setMaster]
  have lost : ∀ e, queueOf (bump EVENTQ_LOST m 1 e) k = queueOf e k := fun e => congrArg (Prod.mk _) (attr_setAttr_inst _ _ _ h)
  have timed : ∀ n e, queueOf (arm tkSignal m n e) k = queueOf e k := fun _ _ => rfl
  unfold enqueue
  dsimp only
  split
  · split
    · rw [timed, queueOf_signal, queueOf_queued, put]
    · rw [queueOf_queued, put]
  · split
    · split
      · rw [lost, put]
      · rw [queueOf_signal, queueOf_queued, lost, put]
    · rfl

/-- R350: an event's number is taken once, whoever takes the event. -/
theorem seq_enqueue (m : Nat) (r : EventRec) (d : Dev) : attr (enqueue m r d) DEVICE_EVENT_SEQ_NEXT 0 = attr d DEVICE_EVENT_SEQ_NEXT 0 := by
  have queued : ∀ e, attr (bump EVENTQ_QUEUED m 1 e) DEVICE_EVENT_SEQ_NEXT 0 = attr e DEVICE_EVENT_SEQ_NEXT 0 := fun e =>
    attr_bump_ne m 1 0 e (by decide) (by decide) (by decide)
  have lost : ∀ e, attr (bump EVENTQ_LOST m 1 e) DEVICE_EVENT_SEQ_NEXT 0 = attr e DEVICE_EVENT_SEQ_NEXT 0 := fun e =>
    attr_bump_ne m 1 0 e (by decide) (by decide) (by decide)
  unfold enqueue
  dsimp only
  split
  · split
    · rw [attr_arm, attr_signal, queued, attr_setMaster]
    · rw [queued, attr_setMaster]
  · split
    · split
      · rw [lost, attr_setMaster]
      · rw [attr_signal, queued, lost, attr_setMaster]
    · rfl

section ForAll
variable {β : Type} {g : Nat → Dev → Dev} {f : Dev → β} {m : Nat}

theorem forAll_untouched (keep : ∀ k e, k ≠ m → f (g k e) = f e) {l : List Nat} (h : m ∉ l) (d : Dev) : f (forAll l g d) = f d := by
  induction l generalizing d with
  | nil => rfl
  | cons k r ih =>
    obtain ⟨hk, hr⟩ := List.ne_and_not_mem_of_not_mem_cons h
    exact (ih hr (g k d)).trans (keep k d (Ne.symm hk))

/-- A member is treated once, in a block that agrees with the first on all that only its own turn changes. -/
theorem forAll_once (keep : ∀ k e, k ≠ m → f (g k e) = f e) {l : List Nat} (hn : l.Nodup) (hm : m ∈ l) (d : Dev) :
    ∃ e, f e = f d ∧ f (forAll l g d) = f (g m e) := by
  induction l generalizing d with
  | nil => exact absurd hm List.not_mem_nil
  | cons k r ih =>
    obtain ⟨hk, hr⟩ := List.nodup_cons.mp hn
    by_cases h : k = m
    · subst h
      exact ⟨d, rfl, forAll_untouched keep hk (g k d)⟩
    · obtain ⟨e, same, turn⟩ := ih hr ((List.mem_cons.mp hm).resolve_left (Ne.symm h)) (g k d)
      exact ⟨e, same.trans (keep k d h), turn⟩

end ForAll

/-! ### Raising an event (R349, R350) -/

theorem queueOf_numbered (m : Nat) (d : Dev) : queueOf (bump DEVICE_EVENT_SEQ_NEXT 0 1 d) m = queueOf d m :=
  congrArg (Prod.mk _) (attr_bump_ne 0 1 m d (by decide) (by decide) (by decide))

section Raise
variable {ms : List Nat} {m : Nat} {d : Dev} (hv : d.vertex ≠ .halted) (cls inst type detail : Nat)
include hv

theorem seq_raiseTo : attr (raiseTo ms cls inst type detail d) DEVICE_EVENT_SEQ_NEXT 0 = (attr d DEVICE_EVENT_SEQ_NEXT 0 + 1) % 2 ^ 32 := by
  rw [raiseTo, if_neg hv]
  exact (forAll_keeps (fun e => attr e DEVICE_EVENT_SEQ_NEXT 0) (fun k e => seq_enqueue k _ e) ms _).trans (attr_bump ..)

/-- R350: an event leaves the queue of a master that it is not for. -/
theorem queueOf_raiseTo_other (hm : m ∉ ms) : queueOf (raiseTo ms cls inst type detail d) m = queueOf d m := by
  rw [raiseTo, if_neg hv]
  exact (forAll_untouched (f := fun e => queueOf e m) (fun k e h => queueOf_enqueue_ne (Ne.symm h) _ e) hm _).trans (queueOf_numbered ..)

/-- R350: a master it is for takes it once, into the queue as it stood. -/
theorem queueOf_raiseTo (hn : ms.Nodup) (hm : m ∈ ms) :
    ∃ e, queueOf e m = queueOf d m ∧ queueOf (raiseTo ms cls inst type detail d) m = queueOf (enqueue m (makeEvent d cls inst type detail) e) m := by
  rw [raiseTo, if_neg hv]
  obtain ⟨e, same, turn⟩ := forAll_once (g := fun k => enqueue k (makeEvent d cls inst type detail)) (f := fun e => queueOf e m)
    (fun k e h => queueOf_enqueue_ne (Ne.symm h) _ e) hn hm (bump DEVICE_EVENT_SEQ_NEXT 0 1 d)
  exact ⟨e, same.trans (queueOf_numbered ..), turn⟩

theorem events_raiseTo_room (hn : ms.Nodup) (hm : m ∈ ms) (hl : (master d m).events.length < 255) :
    (master (raiseTo ms cls inst type detail d) m).events = (master d m).events ++ [makeEvent d cls inst type detail] := by
  obtain ⟨e, same, turn⟩ := queueOf_raiseTo hv cls inst type detail hn hm
  have before : (master e m).events = (master d m).events := congrArg Prod.fst same
  exact (congrArg Prod.fst turn).trans ((enqueue_room (by rwa [before]) _).trans (by rw [before]))

theorem queueOf_raiseTo_overflows (hn : ms.Nodup) (hm : m ∈ ms) (hl : 255 ≤ (master d m).events.length) {x : EventRec}
    (hx : (master d m).events.getLast? = some x) (ht : x.type ≠ evOverflow) :
    queueOf (raiseTo ms cls inst type detail d) m
      = ((master d m).events ++ [⟨attr d DEVICE_EVENT_SEQ_NEXT 0, d.devTime % 2 ^ 48, clsEventq, m, evOverflow, 1⟩],
          (attr d EVENTQ_LOST m + 1) % 2 ^ EVENTQ_LOST.width) := by
  obtain ⟨e, same, turn⟩ := queueOf_raiseTo hv cls inst type detail hn hm
  have before : (master e m).events = (master d m).events := congrArg Prod.fst same
  have lost : attr e EVENTQ_LOST m = attr d EVENTQ_LOST m := congrArg Prod.snd same
  rw [turn, enqueue_overflows (by rwa [before]) (by rwa [before]) ht, before, lost]
  rfl

theorem events_raiseTo_counts (hn : ms.Nodup) (hm : m ∈ ms) (hl : 255 ≤ (master d m).events.length) {x : EventRec}
    (hx : (master d m).events.getLast? = some x) (ht : x.type = evOverflow) :
    (master (raiseTo ms cls inst type detail d) m).events = (master d m).events.dropLast ++ [{ x with detail := min 0xFFFF (x.detail + 1) }] := by
  obtain ⟨e, same, turn⟩ := queueOf_raiseTo hv cls inst type detail hn hm
  have before : (master e m).events = (master d m).events := congrArg Prod.fst same
  exact (congrArg Prod.fst turn).trans ((enqueue_counts (by rwa [before]) (by rwa [before]) ht _).trans (by rw [before]))

end Raise

theorem subscribers_nodup (d : Dev) (type : Nat) : (subscribers d type).Nodup := List.nodup_range.filter _

/-- R350: the filter of its queue says whether a master takes an event. -/
theorem mem_subscribers {m : Fin 4} {d : Dev} {type : Nat} : m.val ∈ subscribers d type ↔ bitOf (attr d EVENTQ_FILTER m) (category type) = true := by
  simp [subscribers, m.isLt]

/-! ### Completion (R316 to R318) -/

section Complete
variable {j : JobRef} {d : Dev} {job : Job} (h : findJob d j = some job) (cls inst type status : Nat) (result : List Byte)
include h

theorem complete_frees : findJob (complete j cls inst type status result d) j = none := by
  rw [findJob, complete_jobs h, List.find?_eq_none]
  intro x hx
  simpa using (List.mem_filter.mp hx).2

theorem complete_keeps_others {k : JobRef} (hk : k ≠ j) : findJob (complete j cls inst type status result d) k = findJob d k := by
  rw [findJob, complete_jobs h, findJob, List.find?_filter]
  congr 1
  funext x
  by_cases hx : x.ref = k
  · simp [hx, hk]
  · simp [hx]

theorem complete_queueOf (m : Nat) :
    ∃ e : Dev, e.vertex = d.vertex ∧ e.devTime = d.devTime ∧ (∀ b i, attr e b i = attr d b i) ∧ (∀ k, master e k = master d k)
      ∧ queueOf (complete j cls inst type status result d) m = queueOf (raiseTo [j.master] cls inst (128 + type) (j.tag + 256 * status) e) m := by
  rw [complete, completeBase, h]
  exact ⟨{ setBlock DEVICE_COMPLETION (256 * j.master + j.tag) (completionRecord d job.opcode status j result) d with
    jobs := d.jobs.filter fun x => !(x.ref == j) }, rfl, rfl, fun _ _ => rfl, fun _ => rfl, rfl⟩

end Complete

/-- Settles O12. An event reaches each queue that takes it once (`queueOf_raiseTo`), and what a queue does with it rests on its room (`enqueue_room`,
`enqueue_overflows`, `enqueue_counts`). That the first loss leaves an OVERFLOW record with DETAIL 1 and that LOST counts it is assumption 15 of the log. -/
theorem eventsAndCompletions : Obligations.events_and_completions := by
  intro d hv
  refine ⟨fun cls inst type detail => ⟨seq_raiseTo hv .., ?room, ?other, ?overflows, ?counts⟩, ?completes⟩
  case room => exact fun m hf hl => events_raiseTo_room hv _ _ _ _ (subscribers_nodup ..) (mem_subscribers.mpr hf) hl
  case other =>
    intro m hf
    exact congrArg Prod.fst (queueOf_raiseTo_other hv cls inst type detail (by simp [mem_subscribers, hf]))
  case overflows =>
    intro m x hf hl hx ht
    have full := queueOf_raiseTo_overflows hv cls inst type detail (subscribers_nodup ..) (mem_subscribers.mpr hf) (Nat.le_of_eq hl.symm) hx ht
    exact ⟨congrArg Prod.fst full, congrArg Prod.snd full⟩
  case counts =>
    intro m x hf hl hx ht
    exact events_raiseTo_counts hv _ _ _ _ (subscribers_nodup ..) (mem_subscribers.mpr hf) (by omega) hx ht
  case completes =>
    intro m tag cls inst type status result job _ _ _ hj
    refine ⟨complete_frees hj .., ?_, fun k hk => complete_keeps_others hj _ _ _ _ _ hk, ?_, ?_⟩
    · rw [block_congr (complete_block hj ..), block_setBlock]
    · intro hl
      obtain ⟨e, hve, ht, ha, hx, run⟩ := complete_queueOf hj cls inst type status result m
      refine ((congrArg Prod.fst run).trans (events_raiseTo_room (by rwa [hve]) _ _ _ _ (by simp) (by simp) (by rwa [hx]))).trans ?_
      rw [hx, makeEvent, ha, ht]
    · intro k hk
      obtain ⟨e, hve, ht, ha, hx, run⟩ := complete_queueOf hj cls inst type status result k
      have others : k.val ∉ [m.val] := by simpa [Fin.ext_iff] using hk
      exact (congrArg Prod.fst (run.trans (queueOf_raiseTo_other (by rwa [hve]) _ _ _ _ others))).trans (congrArg Master.events (hx k))

end Sys2Proof.Machine

namespace Sys2Proof.Machine

/-! ### Commands that leave the addressed memory (R310, R483) -/

/-- The change to memory that a verdict carries. -/
def memOpOf : Verdict → MemOp
  | .done _ _ w => w
  | .ended _ _ _ w => w
  | _ => .keep

/-- The verdict leaves the memory. -/
abbrev Keeps (v : Verdict) : Prop := memOpOf v = .keep

/-- The command leaves the memory, whatever its parameters and the block. -/
abbrev KeepsMemory (f : Body) : Prop := ∀ mem c d, Keeps (f mem c d)

theorem keeps_need {c : Bool} {st : Nat} {v : Verdict} (h : Keeps v) : Keeps (need c st v) := by
  cases c
  · rfl
  · exact h

theorem keeps_ite {p : Prop} [Decidable p] {v w : Verdict} (hv : Keeps v) (hw : Keeps w) : Keeps (if p then v else w) := by
  split
  · exact hv
  · exact hw

theorem keeps_nop : KeepsMemory bodyNop := fun _ _ _ => rfl
theorem keeps_ident : KeepsMemory bodyIdent := fun _ _ _ => rfl

theorem keeps_get : KeepsMemory bodyGet := fun _ _ _ => keeps_need (by
  split
  · rfl
  · exact keeps_need rfl)

theorem keeps_set : KeepsMemory bodySet := fun _ _ _ => keeps_need (keeps_need (by
  split
  · rfl
  · refine keeps_need (keeps_need ?_)
    dsimp only
    split <;> rfl))

theorem keeps_getBlock : KeepsMemory bodyGetBlock := fun _ _ _ => keeps_need (by
  split
  · rfl
  · exact keeps_need rfl)

theorem keeps_setBlock : KeepsMemory bodySetBlock := fun _ _ _ => keeps_need (keeps_need (by
  split
  · rfl
  · refine keeps_need (keeps_need ?_)
    dsimp only
    split <;> rfl))

theorem keeps_countersRead : KeepsMemory bodyCountersRead := by
  intro mem c d
  unfold bodyCountersRead
  dsimp only
  split
  · rfl
  · exact keeps_need (keeps_ite rfl rfl)

theorem keeps_claim : KeepsMemory bodyClaim := fun _ _ _ => keeps_need (keeps_ite rfl (keeps_ite rfl (keeps_ite rfl rfl)))
theorem keeps_renew : KeepsMemory bodyRenew := fun _ _ _ => keeps_need rfl
theorem keeps_yield : KeepsMemory bodyYield := fun _ _ _ => keeps_need (keeps_ite rfl (keeps_need rfl))
theorem keeps_accept : KeepsMemory bodyAccept := fun _ _ _ => keeps_need (keeps_need rfl)
theorem keeps_eventsRead : KeepsMemory bodyEventsRead := fun _ _ _ => keeps_need rfl
theorem keeps_fence : KeepsMemory bodyFence := fun _ _ _ => keeps_need rfl

theorem keeps_portStart : KeepsMemory bodyPortStart := fun _ _ _ => keeps_need (keeps_need rfl)
theorem keeps_portStop : KeepsMemory bodyPortStop := fun _ _ _ => keeps_need (keeps_ite rfl rfl)
theorem keeps_portQuiet : KeepsMemory bodyPortQuiet := fun _ _ _ => keeps_need (keeps_need rfl)
theorem keeps_portWake : KeepsMemory bodyPortWake := fun _ _ _ => keeps_need (keeps_need rfl)
theorem keeps_loadingSwap : KeepsMemory bodyLoadingSwap := fun _ _ _ => keeps_need (keeps_need (keeps_need (keeps_need (keeps_need rfl))))
theorem keeps_portRetrain : KeepsMemory bodyPortRetrain := fun _ _ _ => keeps_need (keeps_need rfl)

theorem keeps_chordBind : KeepsMemory bodyChordBind := fun _ _ _ =>
  keeps_need (keeps_ite (keeps_ite rfl (keeps_need rfl)) (keeps_need (keeps_need (keeps_need rfl))))

theorem keeps_flowOpen : KeepsMemory bodyFlowOpen := fun _ _ _ => keeps_need (keeps_need (keeps_ite rfl (by
  split
  · rfl
  · split
    · rfl
    · dsimp only
      split
      · rfl
      · split <;> rfl)))

theorem keeps_flowClose : KeepsMemory bodyFlowClose := fun _ _ _ => keeps_need (keeps_need (keeps_ite rfl rfl))

theorem keeps_flowMap : KeepsMemory bodyFlowMap := fun _ _ _ => keeps_need (keeps_need (by
  dsimp only
  split
  · rfl
  · split <;> rfl))

theorem keeps_laneTrain : KeepsMemory bodyLaneTrain := fun _ _ _ => keeps_need (keeps_need (keeps_need (keeps_need (keeps_ite rfl rfl))))
theorem keeps_laneLoop : KeepsMemory bodyLaneLoop := fun _ _ _ => keeps_need (keeps_need (keeps_need rfl))
theorem keeps_patternRun : KeepsMemory bodyPatternRun := fun _ _ _ => keeps_need (keeps_need (keeps_need (keeps_ite rfl rfl)))

theorem keeps_laneIdle : KeepsMemory bodyLaneIdle := fun _ _ _ =>
  keeps_need (keeps_need (keeps_need (keeps_need (keeps_ite (keeps_ite rfl rfl) (keeps_ite rfl (keeps_ite rfl rfl))))))

theorem keeps_powerSet : KeepsMemory bodyPowerSet := fun _ _ _ => keeps_need (keeps_ite rfl (by
  split
  · rfl
  · exact keeps_need rfl))

theorem keeps_padRelease : KeepsMemory bodyPadRelease := fun _ _ _ => keeps_need (keeps_need rfl)

theorem keeps_wakeArm : KeepsMemory bodyWakeArm := fun _ _ _ => keeps_need (by split <;> rfl)

theorem keeps_calRun (energy : List (Fin 128)) : KeepsMemory (bodyCalRun energy) := fun _ _ _ => keeps_need (keeps_need (keeps_need (by
  split
  · rfl
  · split
    · rfl
    · exact keeps_need (keeps_need (keeps_ite rfl rfl)))))

theorem keeps_calStore : KeepsMemory bodyCalStore := fun _ _ _ => keeps_need (keeps_need (keeps_need (keeps_need (keeps_ite rfl (by
  dsimp only
  split <;> rfl)))))

theorem keeps_calReport : KeepsMemory bodyCalReport := fun _ _ _ => keeps_need rfl
theorem keeps_bistRun : KeepsMemory bodyBistRun := fun _ _ _ => keeps_need (keeps_need (keeps_need (keeps_need (keeps_need (keeps_ite rfl rfl)))))
theorem keeps_bistResult : KeepsMemory bodyBistResult := fun _ _ _ => keeps_need (keeps_need rfl)
theorem keeps_checkScan : KeepsMemory bodyCheckScan := fun _ _ _ => keeps_need (keeps_need (keeps_need (keeps_ite rfl rfl)))
theorem keeps_checkResult : KeepsMemory bodyCheckResult := fun _ _ _ => keeps_need rfl
theorem keeps_cableScan : KeepsMemory bodyCableScan := fun _ _ _ => keeps_need (keeps_need (keeps_ite rfl (keeps_ite rfl (keeps_ite rfl rfl))))

theorem keeps_snapshot : KeepsMemory bodySnapshot := fun _ _ _ => keeps_need (keeps_need (keeps_ite rfl (by split <;> rfl)))

theorem keeps_svcSend : KeepsMemory bodySvcSend := fun _ _ _ => keeps_need (keeps_need (keeps_need rfl))

theorem keeps_svcRecv : KeepsMemory bodySvcRecv := fun _ _ _ => keeps_need (by
  split
  · rfl
  · split <;> rfl)

theorem keeps_segmentPoll : KeepsMemory bodySegmentPoll := fun _ _ _ => keeps_need (keeps_need (keeps_need rfl))
theorem keeps_faultLog : KeepsMemory bodyFaultLog := fun _ _ _ => keeps_need (keeps_ite rfl (keeps_ite rfl (keeps_need (keeps_need rfl))))
theorem keeps_repair : KeepsMemory bodyRepair := fun _ _ _ => keeps_need (keeps_need (keeps_need rfl))
theorem keeps_fwCommit : KeepsMemory bodyFwCommit := fun _ _ _ => keeps_need (keeps_need (keeps_need (keeps_need rfl)))
theorem keeps_lcAdvance : KeepsMemory bodyLcAdvance := fun _ _ _ => keeps_need (keeps_need (keeps_need (keeps_ite rfl (keeps_ite rfl rfl))))
theorem keeps_timeSet : KeepsMemory bodyTimeSet := fun _ _ _ => keeps_need (keeps_need (keeps_ite rfl rfl))

end Sys2Proof.Machine

namespace Sys2Proof.Machine

/-! ### The queue of commands and the memory after a request (R309 to R313) -/

theorem settle_pending (c : Call) (v : Verdict) (s : State) : (settle c v s).pending = s.pending := by cases v <;> rfl

/-- R311: a verdict commits its change to memory. -/
theorem settle_mem (c : Call) (v : Verdict) (s : State) : (settle c v s).mem = applyMemOp s.mem (memOpOf v) := by cases v <;> rfl

/-- R309: the checks before a command's own store nothing. -/
theorem keeps_judge {f : Body} (h : KeepsMemory f) (mem : List Host.Cell) (flags : Nat) (c : Call) (d : Dev) : Keeps (judge mem flags (some f) c d) := by
  have body := h mem c d
  unfold judge
  refine keeps_ite rfl ?_
  dsimp only
  refine keeps_ite rfl ?_
  split
  · rfl
  · refine keeps_ite rfl ?_
    split
    · exact keeps_ite rfl rfl
    · exact keeps_ite rfl rfl
    · exact body

theorem takeCall_pending (flags : Nat) (body : Option Body) (c : Call) (s : State) : (takeCall flags body c s).pending = s.pending :=
  settle_pending ..

theorem takeCall_mem {f : Body} (h : KeepsMemory f) (flags : Nat) (c : Call) (s : State) : (takeCall flags (some f) c s).mem = s.mem :=
  (settle_mem ..).trans (by rw [keeps_judge h]; rfl)

theorem issue_pending (op : Nat) (body : Body) (r : Req) (s : State) : (issue op body r s).pending = s.pending := by
  unfold issue
  dsimp only
  split
  · split
    · rfl
    · exact takeCall_pending ..
  · split
    · rfl
    · split <;> rfl

theorem issue_mem {body : Body} (h : KeepsMemory body) (op : Nat) (r : Req) (s : State) : (issue op body r s).mem = s.mem := by
  unfold issue
  dsimp only
  split
  · split
    · rfl
    · exact takeCall_mem h ..
  · split
    · rfl
    · split <;> rfl

/-! ### Packets and fragments handed over by a transport (R331, R336) -/

theorem takeRaw_pending (m : Nat) (raw : List Byte) (s : State) : (takeRaw m raw s).pending = s.pending := by
  unfold takeRaw
  dsimp only
  split
  · rfl
  · split
    · split
      · rfl
      · split
        · rfl
        · exact takeCall_pending ..
    · split
      · exact takeCall_pending ..
      · split <;> rfl

theorem pump_pending (n : Nat) (s : State) : (pump n s).pending = s.pending := by
  induction n generalizing s with
  | zero => rfl
  | succ n ih =>
    unfold pump
    split
    · rfl
    · exact (ih _).trans (takeRaw_pending ..)

theorem pumpAll_pending (s : State) : (pumpAll s).pending = s.pending := pump_pending 8 s

theorem submit_pending (m : Nat) (raw : List Byte) (s : State) : (submit m raw s).pending = s.pending := by
  unfold submit
  dsimp only
  split
  · rfl
  · split
    · rfl
    · exact pumpAll_pending _

theorem feed_pending (m : Nat) (acc bytes : List Byte) (s : State) : (feed m acc bytes s).pending = s.pending := by
  unfold feed
  dsimp only
  split
  · exact submit_pending ..
  · rfl

theorem takeFragment_pending (m : Nat) (start fin : Bool) (bytes : List Byte) (s : State) : (takeFragment m start fin bytes s).pending = s.pending := by
  have dropped : (if start && (master s.dev m).partialReq.isSome then { s with dev := discardPartial m s.dev } else s).pending = s.pending := by
    split <;> rfl
  unfold takeFragment
  dsimp only
  split
  · exact dropped
  · split
    · exact (submit_pending ..).trans dropped
    · exact dropped

theorem commandPayload_pending (ch : Nat) (payload : List Byte) (s : State) : (commandPayload ch payload s).pending = s.pending := by
  unfold commandPayload
  dsimp only
  split
  · rfl
  · split
    · split <;> rfl
    · exact takeFragment_pending ..

/-- Both the queue of commands and the memory stay. -/
def Untouched (s t : State) : Prop := t.pending = s.pending ∧ t.mem = s.mem

section Private
variable {p : Nat} {f : State → State} {s : State}

theorem privateWrite_pending (h : ∀ t, (f t).pending = t.pending) : (privateWrite p f s).pending = s.pending := by
  unfold privateWrite
  dsimp only
  split
  · exact h _
  · rfl

theorem privateWrite_mem (h : ∀ t, (f t).mem = t.mem) : (privateWrite p f s).mem = s.mem := by
  unfold privateWrite
  dsimp only
  split
  · exact h _
  · rfl

theorem privateWrite_untouched (h : ∀ t, Untouched t (f t)) : Untouched s (privateWrite p f s) :=
  ⟨privateWrite_pending fun t => (h t).1, privateWrite_mem fun t => (h t).2⟩

end Private

/-! ### Stores of the units -/

theorem writeRecord_pending (s : State) : (writeRecord s).pending = s.pending := by
  unfold writeRecord
  dsimp only
  split
  · rfl
  · split <;> rfl

theorem eraseEnd_pending (s : State) : (eraseEnd s).pending = s.pending := by
  unfold eraseEnd
  split <;> rfl

theorem storeEnd_pending (good : Bool) (s : State) : (storeEnd good s).pending = s.pending := by
  unfold storeEnd
  split <;> rfl

theorem scanEnd_pending (unit : Nat) (data partner : List Byte) (corrected : Nat) (written readBack : Bool) (s : State) :
    (scanEnd unit data partner corrected written readBack s).pending = s.pending := by
  unfold scanEnd
  split <;> rfl

theorem lcEraseEnd_pending (s : State) : (lcEraseEnd s).pending = s.pending := by
  unfold lcEraseEnd
  split
  · rfl
  · dsimp only
    split <;> rfl

theorem verifyEnd_pending (written : Bool) (s : State) : (verifyEnd written s).pending = s.pending := by
  unfold verifyEnd
  split
  · rfl
  · dsimp only
    split <;> rfl

/-! ### Start-up (R518 to R531) -/

theorem startSteps_untouched (s : State) : Untouched s (startSteps s) := by
  unfold startSteps
  exact ⟨rfl, rfl⟩

theorem nextPatch_untouched (n : Nat) (s : State) : Untouched s (nextPatch n s) := by
  induction n generalizing s with
  | zero => exact startSteps_untouched s
  | succ n ih =>
    unfold nextPatch
    split
    · exact startSteps_untouched s
    · split
      · exact ⟨rfl, rfl⟩
      · exact ih _

theorem patchRuns_untouched (slot : Nat) (s : State) : Untouched s (patchRuns slot s) := by
  unfold patchRuns
  exact ⟨(startSteps_untouched _).1, (startSteps_untouched _).2⟩

theorem release_pending (pins : Nat) (romGood : Bool) (s : State) : (release pins romGood s).pending = s.pending := by
  unfold release
  dsimp only
  split
  · rfl
  · split
    · rfl
    · split
      · refine (startSteps_untouched _).1.trans ?_
        split <;> rfl
      · refine (nextPatch_untouched 2 _).1.trans ?_
        split <;> rfl

/-! ### A deferred command (R475) -/

theorem takeUp_untouched (r : JobRef) (s : State) : Untouched s (takeUp r s) := by
  unfold takeUp
  dsimp only
  split
  · exact ⟨rfl, rfl⟩
  · split
    · exact ⟨rfl, rfl⟩
    · split
      · exact ⟨rfl, rfl⟩
      · split <;> exact ⟨rfl, rfl⟩

/-! ### Every command -/

/-- A command answers with a next state, with its queue, and with its memory unless it may store. -/
def Answers (stores : Bool) (s : State) (o : Out) : Prop := ∃ t, o = .next t ∧ t.pending = s.pending ∧ (stores = false → t.mem = s.mem)

section Answers
variable {b : Bool} {s t : State}

theorem answers_untouched (h : Untouched s t) : Answers b s (.next t) := ⟨t, rfl, h.1, fun _ => h.2⟩

theorem answers_stores (h : t.pending = s.pending) : Answers true s (.next t) := ⟨t, rfl, h, nofun⟩

theorem answers_issue {body : Body} (h : KeepsMemory body) (op : Nat) (r : Req) (s : State) : Answers b s (issueOut op body r s) :=
  ⟨_, rfl, issue_pending .., fun _ => issue_mem h ..⟩

end Answers

end Sys2Proof.Machine

namespace Sys2Proof.Machine

section Rows
variable {s : State}

theorem execReqStart_answers (port : Fin 2) (bytes : List Byte) (bad : Bool) : Answers true s (execReqStart port bytes bad s) := by
  refine answers_stores ((pumpAll_pending _).trans (privateWrite_pending fun t => ?_))
  dsimp only
  split
  · rfl
  · exact feed_pending ..

theorem execReqCont_answers (port : Fin 2) (bytes : List Byte) (bad : Bool) : Answers true s (execReqCont port bytes bad s) := by
  refine answers_stores (privateWrite_pending fun t => ?_)
  split
  · rfl
  · split
    · rfl
    · exact feed_pending ..

theorem execReplyDone_answers (port : Fin 2) : Answers true s (execReplyDone port s) :=
  answers_stores ((pumpAll_pending _).trans (privateWrite_pending fun _ => rfl))

theorem execReplyHoldExpiry_answers (port : Fin 2) : Answers true s (execReplyHoldExpiry port s) := by
  refine answers_stores ?_
  split
  · exact pumpAll_pending _
  · rfl

theorem execRowReceived_answers (g : Fin 32) (words : List (List Nat)) (ls : List Nat) : Answers true s (execRowReceived g words ls s) := by
  refine answers_stores ?_
  split
  · exact commandPayload_pending ..
  · rfl

theorem execFaultLogEraseEnd_answers : Answers true s (execFaultLogEraseEnd s) := by
  refine answers_stores ?_
  split
  · rfl
  · exact eraseEnd_pending s

theorem execCalStoreEnd_answers (good : Bool) : Answers true s (execCalStoreEnd good s) := by
  refine answers_stores ?_
  split
  · rfl
  · exact storeEnd_pending good s

theorem execCheckScanEnd_answers (unit : Fin 4) (data partner : List Byte) (corrected : Nat) (written readBack : Bool) :
    Answers true s (execCheckScanEnd unit data partner corrected written readBack s) := by
  refine answers_stores ?_
  split
  · rfl
  · exact scanEnd_pending ..

theorem execFwVerifyEnd_answers (written : Bool) : Answers true s (execFwVerifyEnd written s) := by
  refine answers_stores ?_
  split
  · rfl
  · exact verifyEnd_pending written s

theorem execPatchStartTimeout_answers {b : Bool} : Answers b s (execPatchStartTimeout s) := by
  refine answers_untouched ?_
  split
  · split
    · exact ⟨(nextPatch_untouched 2 _).1, (nextPatch_untouched 2 _).2⟩
    · exact ⟨rfl, rfl⟩
  · exact ⟨rfl, rfl⟩

theorem execPatchInitDone_answers {b : Bool} : Answers b s (execPatchInitDone s) := by
  refine answers_untouched ?_
  split
  · split
    · exact patchRuns_untouched _ s
    · exact ⟨rfl, rfl⟩
  · exact ⟨rfl, rfl⟩

end Rows

/-- Where no case is named, the command changes the block alone. -/
theorem exec_answers (c : Instr) (s : State) : Answers (Claims.mayStore c) s (exec c s) := by
  cases c with
  | nop r => exact answers_issue keeps_nop ..
  | ident r => exact answers_issue keeps_ident ..
  | get r => exact answers_issue keeps_get ..
  | set r => exact answers_issue keeps_set ..
  | getBlock r => exact answers_issue keeps_getBlock ..
  | setBlock r => exact answers_issue keeps_setBlock ..
  | prismPrefixSet h m v => exact answers_issue keeps_set ..
  | txPsdSet h p v => exact answers_issue keeps_set ..
  | rateCapSet h p v => exact answers_issue keeps_set ..
  | toneMaskSet h p offset data => exact answers_issue keeps_setBlock ..
  | stageTableWrite h p table offset data => exact answers_issue keeps_setBlock ..
  | snrHistIntervalSet h p v => exact answers_issue keeps_set ..
  | snapReadyWrite h v => exact answers_issue keeps_set ..
  | recastTimerSet h p deadline v => exact answers_issue keeps_set ..
  | checkParamSet h unit field v => exact answers_issue keeps_set ..
  | claim r => exact answers_issue keeps_claim ..
  | renew r => exact answers_issue keeps_renew ..
  | yield r => exact answers_issue keeps_yield ..
  | accept r => exact answers_issue keeps_accept ..
  | eventsRead r => exact answers_issue keeps_eventsRead ..
  | fence r => exact answers_issue keeps_fence ..
  | portStart r => exact answers_issue keeps_portStart ..
  | portStop r => exact answers_issue keeps_portStop ..
  | portQuiet r => exact answers_issue keeps_portQuiet ..
  | portWake r => exact answers_issue keeps_portWake ..
  | loadingSwap r => exact answers_issue keeps_loadingSwap ..
  | chordBind r => exact answers_issue keeps_chordBind ..
  | portRetrain r => exact answers_issue keeps_portRetrain ..
  | flowOpen r => exact answers_issue keeps_flowOpen ..
  | flowClose r => exact answers_issue keeps_flowClose ..
  | flowMap r => exact answers_issue keeps_flowMap ..
  | laneTrain r => exact answers_issue keeps_laneTrain ..
  | laneLoop r => exact answers_issue keeps_laneLoop ..
  | patternRun r => exact answers_issue keeps_patternRun ..
  | laneIdle r => exact answers_issue keeps_laneIdle ..
  | powerSet r => exact answers_issue keeps_powerSet ..
  | padRelease r => exact answers_issue keeps_padRelease ..
  | wakeArm r => exact answers_issue keeps_wakeArm ..
  | calRun r energy => exact answers_issue (keeps_calRun _) ..
  | calStore r => exact answers_issue keeps_calStore ..
  | calReport r => exact answers_issue keeps_calReport ..
  | bistRun r => exact answers_issue keeps_bistRun ..
  | bistResult r => exact answers_issue keeps_bistResult ..
  | checkScan r => exact answers_issue keeps_checkScan ..
  | checkResult r => exact answers_issue keeps_checkResult ..
  | cableScan r => exact answers_issue keeps_cableScan ..
  | snapshot r => exact answers_issue keeps_snapshot ..
  | countersRead r => exact answers_issue keeps_countersRead ..
  | svcSend r => exact answers_issue keeps_svcSend ..
  | svcRecv r => exact answers_issue keeps_svcRecv ..
  | segmentPoll r => exact answers_issue keeps_segmentPoll ..
  | faultLog r => exact answers_issue keeps_faultLog ..
  | repair r => exact answers_issue keeps_repair ..
  | fwCommit r => exact answers_issue keeps_fwCommit ..
  | lcAdvance r => exact answers_issue keeps_lcAdvance ..
  | timeSet r => exact answers_issue keeps_timeSet ..
  | fwStage r lost => exact answers_stores (t := issue 0xC0 (bodyFwStage lost) r s) (issue_pending ..)
  | reqStart port bytes bad => exact execReqStart_answers ..
  | reqCont port bytes bad => exact execReqCont_answers ..
  | replyDone port => exact execReplyDone_answers ..
  | replyHoldExpiry port => exact execReplyHoldExpiry_answers ..
  | clearErr port => exact answers_untouched (privateWrite_untouched fun _ => ⟨rfl, rfl⟩)
  | reqAbort port => exact answers_untouched (privateWrite_untouched fun _ => ⟨rfl, rfl⟩)
  | commandRowReceived ch payload => exact answers_stores (t := commandPayload ch payload s) (commandPayload_pending ..)
  | rowReceived g words ls => exact execRowReceived_answers ..
  | vertexReloadDone => exact answers_stores (t := pumpAll { s with dev := reloadDone s.dev }) (pumpAll_pending _)
  | coreTrialEnd first second => exact answers_stores (t := pumpAll { s with dev := trialEnd first second s.dev }) (pumpAll_pending _)
  | supplyRestored rail => exact answers_stores (t := pumpAll { s with dev := supplyRestored rail s.dev }) (pumpAll_pending _)
  | logRecordWrite => exact answers_stores (t := writeRecord s) (writeRecord_pending s)
  | faultLogEraseEnd => exact execFaultLogEraseEnd_answers
  | calStoreEnd good => exact execCalStoreEnd_answers good
  | checkScanEnd unit data partner corrected written readBack => exact execCheckScanEnd_answers ..
  | lcEraseEnd => exact answers_stores (t := lcEraseEnd s) (lcEraseEnd_pending s)
  | fwVerifyEnd written => exact execFwVerifyEnd_answers written
  | railReset rail coreOff => exact answers_stores (t := enterReset (latchRail rail coreOff) s) rfl
  | resetNLow => exact answers_stores (t := enterReset latchResetN s) rfl
  | resetRelease pins romGood => exact answers_stores (t := release pins.toNat romGood s) (release_pending ..)
  | deferredTakeUp m tag => exact answers_untouched (t := takeUp ⟨m, tag.toNat⟩ s) (takeUp_untouched _ s)
  | patchStartTimeout => exact execPatchStartTimeout_answers
  | patchInitDone => exact execPatchInitDone_answers
  | _ => exact ⟨_, rfl, rfl, fun _ => rfl⟩

/-- Settles O5. Most commands change the block alone; a request stores what its verdict carries, and every command but FW_STAGE carries nothing
(`KeepsMemory`); the units that store, and the transports that make the Vertex take waiting packets, keep the queue of commands. -/
theorem commandsAnswerAndKeepMemory : Obligations.commands_answer_and_keep_memory := fun c s => exec_answers c s

end Sys2Proof.Machine

namespace Sys2Proof.Machine

/-! ### The canonical form of the addressed memory (R483) -/

/-- Settles O1. A step with a command waiting is that command's meaning by definition. -/
theorem stepRunsFront : Obligations.step_runs_front := fun _ _ _ => rfl

/-- The canonical form of the memory outlives the change from `s` to `t`. -/
structure KeepsForm (s t : State) : Prop where
  wf : memWf s.mem = true → memWf t.mem = true

theorem memWf_ite {p : Prop} [Decidable p] {m n : List Host.Cell} (hm : memWf m = true) (hn : memWf n = true) : memWf (if p then m else n) = true := by
  split
  · exact hm
  · exact hn

/-- R505: the erase empties the patch, calibration and configuration region. -/
theorem eraseStores_mem (s : State) : (eraseStores s).mem = memErase s.mem 0 lcErased := rfl

/-- R508: the verification seals the header of a good image and zeroes that of another. -/
theorem verifyEnd_mem {s : State} {j : JobRef} (h : s.dev.life.commit = some j) (written : Bool) :
    (verifyEnd written s).mem = if imageFault s.mem s.dev written = 0 then memWrite s.mem (patchBase (stageSlot s.dev)) (sealedHeader s.mem s.dev)
      else memErase s.mem (patchBase (stageSlot s.dev)) 256 := by
  rw [verifyEnd, h]
  dsimp only
  split <;> dsimp only

namespace KeepsForm
variable {s t u : State}

theorem of_mem (h : t.mem = s.mem) : KeepsForm s t := ⟨fun w => by rw [h]; exact w⟩

theorem trans (h : KeepsForm s t) (g : KeepsForm t u) : KeepsForm s u := ⟨fun w => g.wf (h.wf w)⟩

/-- A change of the block before, or after, does not matter. -/
theorem after (g : KeepsForm t u) (h : t.mem = s.mem) : KeepsForm s u := (of_mem h).trans g

theorem before (g : KeepsForm s t) (h : u.mem = t.mem) : KeepsForm s u := g.trans (of_mem h)

/-- R311: a verdict commits one change of memory. -/
theorem settle (c : Call) (v : Verdict) (s : State) : KeepsForm s (settle c v s) :=
  ⟨fun w => by rw [settle_mem]; exact memWf_apply _ _ w⟩

theorem takeCall (flags : Nat) (body : Option Body) (c : Call) (s : State) : KeepsForm s (takeCall flags body c s) :=
  after (settle ..) rfl

theorem issue (op : Nat) (body : Body) (r : Req) (s : State) : KeepsForm s (issue op body r s) := by
  unfold Machine.issue
  dsimp only
  split
  · split
    · exact of_mem rfl
    · exact takeCall ..
  · split
    · exact of_mem rfl
    · split <;> exact of_mem rfl

/-! #### Packets and fragments handed over by a transport (R331, R336) -/

theorem takeRaw (m : Nat) (raw : List Byte) (s : State) : KeepsForm s (takeRaw m raw s) := by
  unfold Machine.takeRaw
  dsimp only
  split
  · exact of_mem rfl
  · split
    · split
      · exact of_mem rfl
      · split
        · exact of_mem rfl
        · exact takeCall ..
    · split
      · exact takeCall ..
      · split <;> exact of_mem rfl

theorem pump (n : Nat) (s : State) : KeepsForm s (pump n s) := by
  induction n generalizing s with
  | zero => exact of_mem rfl
  | succ n ih =>
    unfold Machine.pump
    split
    · exact of_mem rfl
    · exact after ((takeRaw ..).trans (ih _)) rfl

theorem pumpAll (h : t.mem = s.mem) : KeepsForm s (pumpAll t) := (of_mem h).trans (pump 8 t)

theorem submit (m : Nat) (raw : List Byte) (s : State) : KeepsForm s (submit m raw s) := by
  unfold Machine.submit
  dsimp only
  split
  · exact of_mem rfl
  · split
    · exact of_mem rfl
    · exact pumpAll rfl

theorem feed (m : Nat) (acc bytes : List Byte) (s : State) : KeepsForm s (feed m acc bytes s) := by
  unfold Machine.feed
  dsimp only
  split
  · exact after (submit ..) rfl
  · exact of_mem rfl

theorem takeFragment (m : Nat) (start fin : Bool) (bytes : List Byte) (s : State) : KeepsForm s (takeFragment m start fin bytes s) := by
  have dropped : KeepsForm s (if start && (master s.dev m).partialReq.isSome then { s with dev := discardPartial m s.dev } else s) := by
    split <;> exact of_mem rfl
  unfold Machine.takeFragment
  dsimp only
  split
  · exact dropped
  · split
    · exact dropped.trans (after (submit ..) rfl)
    · exact dropped.trans (of_mem rfl)

theorem commandPayload (ch : Nat) (payload : List Byte) (s : State) : KeepsForm s (commandPayload ch payload s) := by
  unfold Machine.commandPayload
  dsimp only
  split
  · exact of_mem rfl
  · split
    · split <;> exact of_mem rfl
    · exact takeFragment ..

theorem privateWrite {p : Nat} {f : State → State} (h : ∀ t, KeepsForm t (f t)) : KeepsForm s (privateWrite p f s) := by
  unfold Machine.privateWrite
  dsimp only
  split
  · exact after (h _) rfl
  · exact of_mem rfl

/-! #### Stores of the units (R393, R457, R489, R505, R508) -/

theorem writeRecord (s : State) : KeepsForm s (writeRecord s) := by
  unfold Machine.writeRecord
  dsimp only
  split
  · exact of_mem rfl
  · split
    · exact of_mem rfl
    · refine ⟨fun w => memWf_write _ _ _ ?_⟩
      split
      · split
        · exact w
        · exact memWf_write _ _ _ w
      · exact w

theorem eraseEnd (s : State) : KeepsForm s (eraseEnd s) := by
  unfold Machine.eraseEnd
  split
  · exact of_mem rfl
  · exact ⟨fun w => memWf_erase _ _ _ w⟩

theorem storeEnd (good : Bool) (s : State) : KeepsForm s (storeEnd good s) := by
  unfold Machine.storeEnd
  split
  · exact of_mem rfl
  · exact ⟨fun w => memWf_write _ _ _ w⟩

theorem scanEnd (unit : Nat) (data partner : List Byte) (corrected : Nat) (written readBack : Bool) (s : State) :
    KeepsForm s (scanEnd unit data partner corrected written readBack s) := by
  unfold Machine.scanEnd
  split
  · exact of_mem rfl
  · exact ⟨fun w => memWf_ite (memWf_write _ _ _ w) w⟩

theorem eraseStores (s : State) : KeepsForm s (eraseStores s) :=
  ⟨fun w => by rw [eraseStores_mem]; exact memWf_erase s.mem 0 lcErased w⟩

theorem lcEraseEnd (s : State) : KeepsForm s (lcEraseEnd s) := by
  unfold Machine.lcEraseEnd
  split
  · exact of_mem rfl
  · dsimp only
    split
    · exact (eraseStores s).before rfl
    · exact eraseStores s

theorem verifyEnd (written : Bool) (s : State) : KeepsForm s (verifyEnd written s) := by
  cases waits : s.dev.life.commit with
  | none => exact of_mem (by rw [Machine.verifyEnd, waits])
  | some j => exact ⟨fun w => by rw [verifyEnd_mem waits]; exact memWf_ite (memWf_write _ _ _ w) (memWf_erase _ _ _ w)⟩

/-! #### Reset and release (R455, R518, R523) -/

theorem enterReset (latch : Dev → Dev) (s : State) : KeepsForm s (enterReset latch s) := by
  have cut : memWf s.mem = true → memWf (cutStore s) = true := fun w => by
    unfold cutStore
    split
    · exact memWf_erase _ _ _ w
    · exact w
  exact ⟨cut⟩

theorem release (pins : Nat) (romGood : Bool) (s : State) : KeepsForm s (release pins romGood s) := by
  have erased : ∀ d : Dev, KeepsForm s (if s.dev.life.erasePending then
      (let e := Machine.eraseStores { s with dev := d }; { e with dev := startFlag 7 e.dev }) else { s with dev := d }) := by
    intro d
    split
    · exact ⟨fun w => (eraseStores { s with dev := d }).wf w⟩
    · exact of_mem rfl
  unfold Machine.release
  dsimp only
  split
  · exact of_mem rfl
  · split
    · exact of_mem rfl
    · split
      · exact (erased _).trans (of_mem (startSteps_untouched _).2)
      · exact (erased _).trans (of_mem (nextPatch_untouched 2 _).2)

/-! #### Rows -/

theorem reqStart (port : Fin 2) (bytes : List Byte) (bad : Bool) (h : execReqStart port bytes bad s = .next t) : KeepsForm s t := by
  obtain rfl := Host.Outcome.next.inj h
  refine KeepsForm.trans (privateWrite fun u => ?_) (pump ..)
  dsimp only
  split
  · exact of_mem rfl
  · exact after (feed ..) rfl

theorem reqCont (port : Fin 2) (bytes : List Byte) (bad : Bool) (h : execReqCont port bytes bad s = .next t) : KeepsForm s t := by
  obtain rfl := Host.Outcome.next.inj h
  refine privateWrite fun u => ?_
  split
  · exact of_mem rfl
  · split
    · exact of_mem rfl
    · exact feed ..

theorem replyDone (port : Fin 2) (h : execReplyDone port s = .next t) : KeepsForm s t := by
  obtain rfl := Host.Outcome.next.inj h
  exact (privateWrite (f := fun t => { t with dev := dropReply port t.dev }) fun _ => of_mem rfl).trans (pump ..)

theorem replyHoldExpiry (port : Fin 2) (h : execReplyHoldExpiry port s = .next t) : KeepsForm s t := by
  obtain rfl := Host.Outcome.next.inj h
  split
  · exact pumpAll rfl
  · exact of_mem rfl

theorem rowReceived (g : Fin 32) (words : List (List Nat)) (ls : List Nat) (h : execRowReceived g words ls s = .next t) : KeepsForm s t := by
  obtain rfl := Host.Outcome.next.inj h
  split
  · exact after (commandPayload ..) rfl
  · exact of_mem rfl

/-- A row that waits in a brownout (R391). -/
theorem unlessBrownout (h : KeepsForm s t) : KeepsForm s (if s.dev.brownout.isSome then s else t) := by
  split
  · exact of_mem rfl
  · exact h

end KeepsForm

/-- R483: the commands that may store keep the canonical form; every other keeps the memory itself (O5). -/
theorem exec_keepsForm (c : Instr) {s t : State} (h : exec c s = .next t) : KeepsForm s t := by
  by_cases stores : Claims.mayStore c = false
  · obtain ⟨u, next, -, same⟩ := commandsAnswerAndKeepMemory c s
    obtain rfl := Host.Outcome.next.inj (h.symm.trans next)
    exact .of_mem (same stores)
  · cases c with
    | fwStage r lost => exact Host.Outcome.next.inj h ▸ .issue ..
    | reqStart port bytes bad => exact .reqStart port bytes bad h
    | reqCont port bytes bad => exact .reqCont port bytes bad h
    | replyDone port => exact .replyDone port h
    | replyHoldExpiry port => exact .replyHoldExpiry port h
    | commandRowReceived ch payload => exact Host.Outcome.next.inj h ▸ .commandPayload ..
    | rowReceived g words ls => exact .rowReceived g words ls h
    | vertexReloadDone => exact Host.Outcome.next.inj h ▸ .pumpAll rfl
    | coreTrialEnd first second => exact Host.Outcome.next.inj h ▸ .pumpAll rfl
    | supplyRestored rail => exact Host.Outcome.next.inj h ▸ .pumpAll rfl
    | railReset rail coreOff => exact Host.Outcome.next.inj h ▸ .enterReset ..
    | resetNLow => exact Host.Outcome.next.inj h ▸ .enterReset ..
    | resetRelease pins romGood => exact Host.Outcome.next.inj h ▸ .release ..
    | logRecordWrite => exact Host.Outcome.next.inj h ▸ .writeRecord s
    | faultLogEraseEnd => exact Host.Outcome.next.inj h ▸ .unlessBrownout (.eraseEnd s)
    | calStoreEnd good => exact Host.Outcome.next.inj h ▸ .unlessBrownout (.storeEnd good s)
    | checkScanEnd unit data partner corrected written readBack => exact Host.Outcome.next.inj h ▸ .unlessBrownout (.scanEnd ..)
    | lcEraseEnd => exact Host.Outcome.next.inj h ▸ .lcEraseEnd s
    | fwVerifyEnd written => exact Host.Outcome.next.inj h ▸ .unlessBrownout (.verifyEnd written s)
    | _ => exact absurd rfl stores

theorem tick_mem (s : State) : (tick s).mem = s.mem := by
  unfold tick
  split <;> rfl

/-- Settles O4. A step is a nanosecond, which leaves the memory, or a command (`exec_keepsForm`). -/
theorem memoryStaysCanonical : Obligations.memory_stays_canonical := by
  intro s t wf h
  unfold step at h
  split at h
  · obtain rfl := Host.Outcome.next.inj h
    rwa [tick_mem]
  · exact (exec_keepsForm _ h).wf wf

end Sys2Proof.Machine

namespace Sys2Proof.Machine

/-! ### Limits that have not ended (R511, R342) -/

/-- A row that stands for the end of a limit does nothing before it. -/
theorem onExpiry_early {s : State} {k i : Nat} {l : Nat × Nat} {g : Dev → Dev} (hl : some (k, i) = some l) (hd : due s.dev l.1 l.2 = false) :
    onDev (onExpiry k i g) s = .next s := by
  obtain rfl := Option.some.inj hl
  have early : onExpiry k i g s.dev = s.dev := by simp [onExpiry, hd]
  rw [onDev, early]

/-- R511: every row that stands for the end of a limit does nothing before it: three are guarded in their own way, the others alike. -/
theorem exec_before_limit (c : Instr) (s : State) (l : Nat × Nat) (hl : Claims.limitOf c = some l) (hd : due s.dev l.1 l.2 = false) :
    exec c s = .next s := by
  cases c with
  | listenDwellEnd p =>
    have ran : exec (.listenDwellEnd p) s = execListenDwellEnd p s := rfl
    have early : onExpiry tkDwell p (negotiateOn p causeDwell) s.dev = s.dev := by
      obtain rfl := Option.some.inj hl
      simp [onExpiry, hd]
    rw [ran, execListenDwellEnd, onDev, early, ite_self]
  | chordFlowMove p =>
    obtain rfl := Option.some.inj hl
    have ran : exec (.chordFlowMove p) s = execChordFlowMove p s := rfl
    rw [ran, execChordFlowMove, onDev, hd, if_neg Bool.false_ne_true]
  | patchStartTimeout =>
    obtain rfl := Option.some.inj hl
    have ran : exec .patchStartTimeout s = execPatchStartTimeout s := rfl
    rw [ran, execPatchStartTimeout]
    split
    · rw [hd, if_neg Bool.false_ne_true]
    · rfl
  | leaseExpiry | handoverWindowExpiry | eventSignalRepeat _ | fenceTimeout _ _ | mbxRequestTimeout _ | negotiateTimeout _ | noPartnerTimer _
  | trainPhaseTimeout _ _ | swapTimeLimit _ | snapshotArmTimeout _ | cableScanListenEnd _ _ | nextSurveyVisitEnd _ _ _ | nextCoeffHoldExpiry _
  | quickRetrainTimeout _ | sparePatternClean _ | laneTrainPhaseTimeout _ _ _ | patternRunEnd _ _ | l2EntryTimeout _ | startPairRetry _
  | sourceStallRecheck _ | failoverReturn _ | flowDrainTimeout _ | powerPrepareTimeout | wakeSetTimer _ | wakeOutPulseEnd | drainWaitTimeout _
  | quietEntryTimeout _ | wakeUnanswered _ | svcGrantLapse _ | svcFragmentResend _ _ | svcPartialDiscard _ _ | svcBlankingEnd _
  | wakeSequenceNext _ | segmentPollRetry _ _ | timepulseInLost | atPulseTimeout _ _ | timepulseOutWidthEnd => exact onExpiry_early hl hd
  | _ => cases hl

/-! ### A nanosecond (R509, R510, assumption 2) -/

/-- What a nanosecond leaves alone, and the clock that it moves. -/
structure Ticked (d e : Dev) : Prop where
  elapsed : e.elapsed = d.elapsed + 1
  timers : e.timers = d.timers
  masters : e.masters = d.masters
  jobs : e.jobs = d.jobs

theorem setSlew_ticked {left : Int} {d e : Dev} (h : Ticked d e) : Ticked d (setSlew left e) := ⟨h.elapsed, h.timers, h.masters, h.jobs⟩

theorem tickTime_ticked (d : Dev) : Ticked d (tickTime d) := by
  unfold tickTime
  dsimp only
  split
  · exact ⟨rfl, rfl, rfl, rfl⟩
  · split
    · exact ⟨rfl, rfl, rfl, rfl⟩
    · split
      · exact setSlew_ticked ⟨rfl, rfl, rfl, rfl⟩
      · exact setSlew_ticked ⟨rfl, rfl, rfl, rfl⟩

/-- R510: with nothing to slew, device time goes with elapsed time. -/
theorem tickTime_steady {d : Dev} (h : d.time.slewLeft = 0) : tickTime d = { d with elapsed := d.elapsed + 1, devTime := (d.devTime + 1) % timeSpan } := by
  unfold tickTime
  dsimp only
  rw [if_pos h]

section Ticked
variable {d e : Dev} (h : Ticked d e)
include h

theorem Ticked.due_stays {k i : Nat} (hd : due d k i = true) : due e k i = true := by
  simp only [due, armed, h.timers, h.elapsed, Bool.and_eq_true, decide_eq_true_eq] at hd ⊢
  exact ⟨hd.1, by omega⟩

/-- A limit that has not ended a nanosecond later had two nanoseconds left. -/
theorem Ticked.two_left {k i : Nat} (ha : armed d k i = true) (hd : due e k i = false) : 2 ≤ timeLeft d k i := by
  have running : armed e k i = true := by rwa [armed, h.timers]
  rw [due, running, Bool.true_and, decide_eq_false_iff_not, h.timers, h.elapsed] at hd
  unfold timeLeft
  omega

end Ticked

/-- Settles O2. A limit's row is guarded by its end (`exec_before_limit`), and a step with nothing waiting moves the clocks alone (`Ticked`), by a
nanosecond: that a step is a nanosecond is the model's choice (assumption 2). -/
theorem limitsEndInTime : Obligations.limits_end_in_time := by
  refine ⟨fun c s k i hl hd => exec_before_limit c s (k, i) hl hd, fun s hp => ?_⟩
  have ran : step s = .next (tick s) := by rw [step, hp]
  refine ⟨fun held => ?_, fun out => ?_⟩
  · rw [ran, tick, if_pos held]
  · have ticked : tick s = { s with dev := tickTime s.dev } := by rw [tick, if_neg out]
    have moved := tickTime_ticked s.dev
    rw [ran, ticked]
    refine ⟨_, rfl, hp, rfl, moved.elapsed, moved.timers, moved.masters, moved.jobs, fun k i => moved.due_stays, fun k i => moved.two_left, fun steady => ?_⟩
    rw [show ({ s with dev := tickTime s.dev } : State).dev = tickTime s.dev from rfl, tickTime_steady steady]
    exact ⟨rfl, rfl⟩

end Sys2Proof.Machine

namespace Sys2Proof.Machine

/-! ### Frames of attributes, built a step at a time -/

section Frames
variable {changed : List (Nat × Nat)} {d e f : Dev}

theorem KeepsOthers.refl : KeepsOthers changed d d := fun _ _ _ _ _ => rfl

theorem KeepsOthers.same (h : KeepsOthers changed d e) (hf : f.attrs = e.attrs) : KeepsOthers changed d f := h.trans (keepsOthers_of_attrs hf)

theorem KeepsOthers.timed (h : KeepsOthers changed d e) {k i n : Nat} : KeepsOthers changed d (arm k i n e) := h.same rfl

theorem KeepsOthers.untimed (h : KeepsOthers changed d e) {k i : Nat} : KeepsOthers changed d (disarm k i e) := h.same rfl

theorem KeepsOthers.wrote (h : KeepsOthers changed d e) {a : Attr} {i v : Nat} (ha : a.code < 2 ^ 24 := by decide)
    (hm : (a.code, i) ∈ changed := by simp) : KeepsOthers changed d (setAttr a i v e) := h.trans (keepsOthers_setAttr v e ha hm)

theorem KeepsOthers.counted (h : KeepsOthers changed d e) {a : Attr} {i n : Nat} (ha : a.code < 2 ^ 24 := by decide)
    (hm : (a.code, i) ∈ changed := by simp) : KeepsOthers changed d (bump a i n e) := h.wrote ha hm

theorem KeepsOthers.framed (h : KeepsOthers changed d e) (g : EventFrame e f) : KeepsOthers changed d f := h.trans (keepsOthers_of_eventFrame g)

theorem KeepsOthers.raised {cls inst type detail : Nat} (h : KeepsOthers changed d e) : KeepsOthers changed d (raise cls inst type detail e) :=
  h.framed (eventFrame_raise ..)

theorem KeepsOthers.raisedAll {cls inst type detail : Nat} (h : KeepsOthers changed d e) :
    KeepsOthers changed d (raiseAll cls inst type detail e) := h.framed (eventFrame_raiseAll ..)

/-- A completion touches no attribute other than those that count events. -/
theorem KeepsOthers.completed {j : JobRef} {cls inst type status : Nat} {result : List Byte} (h : KeepsOthers changed d e) :
    KeepsOthers changed d (complete j cls inst type status result e) := h.trans fun b i hb hc _ => attr_complete j cls inst type status result e b i
  ⟨hb, fun k => hc (.inr (.inr (.inl k))), fun k => hc (.inr (.inr (.inr (.inl k)))), fun k => hc (.inr (.inr (.inr (.inr k))))⟩

theorem KeepsOthers.branch {p : Prop} [Decidable p] (h : KeepsOthers changed d e) (g : KeepsOthers changed d f) :
    KeepsOthers changed d (if p then e else f) := by
  split
  · exact h
  · exact g

theorem KeepsOthers.guarded (h : KeepsOthers changed d e) {g : Dev → Dev} (hg : KeepsOthers changed e (g e)) (c : Bool) :
    KeepsOthers changed d (when c g e) := by
  rw [when]
  exact (h.trans hg).branch h

/-- An attribute that the frame does not name reads as before. -/
theorem KeepsOthers.read (h : KeepsOthers changed d e) (b : Attr) (i : Nat)
    (hn : b.code ∉ changed.map Prod.fst := by simp only [List.map_cons, List.map_nil]; decide)
    (hb : b.code < 2 ^ 24 := by decide) (hc : ¬Claims.counting b := by decide) : attr e b i = attr d b i :=
  h b i hb hc fun hm => hn (List.mem_map_of_mem hm)

end Frames

section SameUnits
variable {d e f : Dev}

theorem SameUnits.refl (d : Dev) : SameUnits d d := ⟨d.attrs, d.masters, d.timers, rfl⟩

theorem sameUnits_arm (k i n : Nat) (d : Dev) : SameUnits d (arm k i n d) := ⟨d.attrs, d.masters, _, rfl⟩

theorem sameUnits_disarm (k i : Nat) (d : Dev) : SameUnits d (disarm k i d) := ⟨d.attrs, d.masters, _, rfl⟩

theorem sameUnits_setMaster (m : Nat) (x : Master) (d : Dev) : SameUnits d (setMaster m x d) := ⟨d.attrs, _, d.timers, rfl⟩

theorem SameUnits.branch {p : Prop} [Decidable p] (h : SameUnits d e) (g : SameUnits d f) : SameUnits d (if p then e else f) := by
  split
  · exact h
  · exact g

/-- A row that leaves the memory and every unit of its block. -/
theorem SameUnits.keepsUnits {s : State} (h : SameUnits s.dev d) : Claims.KeepsUnits s { s with dev := d } := by
  obtain ⟨as, xs, ts, rfl⟩ := h
  exact ⟨as, xs, ts, s.dev.nextOrder, rfl⟩

end SameUnits

/-! ### The state that a taken request leaves (R309 to R311) -/

/-- The state `t` is `s` with the block `d`, in which the reply stands among the masters. -/
structure CameTo (d : Dev) (s t : State) : Prop where
  replied : ∃ xs, t = { s with dev := { d with masters := xs } }

namespace CameTo
variable {d : Dev} {s t : State}

/-- What does not speak of the masters is as the command left it. -/
theorem field {β : Sort*} (h : CameTo d s t) (f : Dev → β) (hf : ∀ xs e, f { e with masters := xs } = f e := by exact fun _ _ => rfl) : f t.dev = f d := by
  obtain ⟨xs, rfl⟩ := h
  exact hf xs d

theorem attr (h : CameTo d s t) (a : Attr) (i : Nat) : attr t.dev a i = Machine.attr d a i := h.field fun e => Machine.attr e a i

theorem block (h : CameTo d s t) (a : Attr) (i : Nat) : block t.dev a i = Machine.block d a i := h.field fun e => Machine.block e a i

theorem armed (h : CameTo d s t) (k i : Nat) : armed t.dev k i = Machine.armed d k i := h.field fun e => Machine.armed e k i

theorem findJob (h : CameTo d s t) (j : JobRef) : findJob t.dev j = Machine.findJob d j := h.field fun e => Machine.findJob e j

theorem mem (h : CameTo d s t) : t.mem = s.mem := by
  obtain ⟨xs, rfl⟩ := h
  rfl

/-- A request taken keeps the attributes that its effect keeps. -/
theorem keepsAttrs {changed : List (Nat × Nat)} {op : Nat} {r : Req} (h : CameTo d s t) (k : KeepsOthers changed (takenDev op r s) d) :
    Claims.KeepsAttrs changed s t :=
  (keepsAttrs_iff ..).2 (((keepsOthers_takenDev op r s).trans k).same (h.field Dev.attrs))

/-- A request taken keeps every unit where its effect does. -/
theorem keepsUnits {op : Nat} {r : Req} (h : CameTo d s t) (k : SameUnits (takenDev op r s) d) : Claims.KeepsUnits s t := by
  obtain ⟨xs, rfl⟩ := h
  obtain ⟨as, ys, ts, rfl⟩ := k
  obtain ⟨_, _, _, took⟩ := advance_eq r.master.val (Machine.attr s.dev DEVICE_CMD_SEQ_NEXT r.master.val) (requestBytes op r s) s.dev
  rw [takenDev, took]
  exact ⟨as, xs, ts, s.dev.nextOrder + 1, rfl⟩

end CameTo

section Outcomes
variable {op : Nat} {f : Body} {r : Req} {s : State} {x : List Byte} {d : Dev}

theorem issueOut_ends (ht : Claims.Takes op r s) (hl : (paramRange op).1 ≤ r.params.length ∧ r.params.length ≤ (paramRange op).2)
    (hb : f s.mem (takenCall op r s) (takenDev op r s) = .done x d .keep) :
    ∃ t, issueOut op f r s = .next t ∧ Claims.Replied op stOk r x s t ∧ CameTo d s t := by
  obtain ⟨xs, ran, replied⟩ := issueOut_done ht hl hb
  exact ⟨_, ran, replied, xs, rfl⟩

theorem issueOut_starts (ht : Claims.Takes op r s) (hl : (paramRange op).1 ≤ r.params.length ∧ r.params.length ≤ (paramRange op).2)
    (hb : f s.mem (takenCall op r s) (takenDev op r s) = .accept x d) :
    ∃ t, issueOut op f r s = .next t ∧ Claims.Replied op stAccepted r x s t ∧ CameTo d s t := by
  obtain ⟨xs, ran, replied⟩ := issueOut_accept ht hl hb
  exact ⟨_, ran, replied, xs, rfl⟩

/-- R310: a taken request that its own checks refuse has its reply and no effect. -/
theorem issueOut_refuses {st : Nat} (ht : Claims.Takes op r s) (hl : (paramRange op).1 ≤ r.params.length ∧ r.params.length ≤ (paramRange op).2)
    (hb : f s.mem (takenCall op r s) (takenDev op r s) = .refuse st x) :
    ∃ t, issueOut op f r s = .next t ∧ Claims.Replied op st r x s t ∧ Claims.KeepsAttrs [] s t ∧ Claims.KeepsUnits s t := by
  obtain ⟨took, hf, owner, free, room⟩ := ht
  obtain ⟨xs, answered, replied⟩ := replied_answer (op := op) (s := s) hf st x (takenDev op r s)
  have came : CameTo (takenDev op r s) s { s with dev := { takenDev op r s with masters := xs } } := ⟨xs, rfl⟩
  refine ⟨_, congrArg Host.Outcome.next (issue_refuse took hf owner free room hl hb), ?_⟩
  rw [answered]
  exact ⟨replied, came.keepsAttrs KeepsOthers.refl, came.keepsUnits (SameUnits.refl _)⟩

end Outcomes

/-- An attribute of the block as a request finds it. -/
theorem takenDev_read (op : Nat) (r : Req) (s : State) (b : Attr) (i : Nat) (hb : b.code < 2 ^ 24 := by decide)
    (hc : ¬Claims.counting b := by decide) : attr (takenDev op r s) b i = attr s.dev b i :=
  (keepsOthers_takenDev (changed := []) op r s).read b i (by simp) hb hc

end Sys2Proof.Machine

namespace Sys2Proof.Machine

-- In order, so that no thread waits for the lemmas before it.
set_option Elab.async false

/-! ### Ownership passed (R347, R348) -/

/-- The attributes that a change of the owner writes. -/
abbrev ownerAttrs : List (Nat × Nat) :=
  [(DEVICE_OWNER.code, 0), (DEVICE_OWNER_PRIORITY.code, 0), (DEVICE_LEASE.code, 0), (DEVICE_OWNER_EPOCH.code, 0)]

/-- The attributes that a change of the owner writes where it ends a handover. -/
abbrev passAttrs : List (Nat × Nat) :=
  [(DEVICE_OWNER.code, 0), (DEVICE_OWNER_PRIORITY.code, 0), (DEVICE_LEASE.code, 0), (DEVICE_OWNER_EPOCH.code, 0), (DEVICE_HANDOVER_TARGET.code, 0)]

section EndHandover
variable (status : Nat) (d : Dev)

theorem owner_widths : DEVICE_OWNER.width = 8 ∧ DEVICE_OWNER_PRIORITY.width = 8 ∧ DEVICE_LEASE.width = 32 ∧ DEVICE_OWNER_EPOCH.width = 32 :=
  ⟨rfl, rfl, rfl, rfl⟩

theorem endHandover_none (h : d.handover = none) : endHandover status d = d := by rw [endHandover, h]

theorem endHandover_some {j : JobRef} (h : d.handover = some j) : endHandover status d = complete j clsDevice 0 evYieldDone status []
    (disarm tkHandover 0 (setAttr DEVICE_HANDOVER_TARGET 0 0xFF { d with handover := none })) := by rw [endHandover, h]

theorem keepsOthers_endHandover {changed : List (Nat × Nat)} (hm : (DEVICE_HANDOVER_TARGET.code, 0) ∈ changed) :
    KeepsOthers changed d (endHandover status d) := by
  cases h : d.handover with
  | none => exact (endHandover_none status d h).symm ▸ KeepsOthers.refl
  | some j =>
    rw [endHandover_some status d h]
    have freed : KeepsOthers changed d { d with handover := none } := keepsOthers_of_attrs rfl
    exact KeepsOthers.completed (freed.wrote (by decide) hm).untimed

theorem endHandover_handover : (endHandover status d).handover = none := by
  cases h : d.handover with
  | none => rw [endHandover_none status d h, h]
  | some j => rw [endHandover_some status d h, complete_handover]; rfl

theorem endHandover_target {j : JobRef} (h : d.handover = some j) : attr (endHandover status d) DEVICE_HANDOVER_TARGET 0 = 0xFF := by
  rw [endHandover_some status d h, attr_complete _ _ _ _ _ _ _ _ _ (by unfold noEventAttr; decide), attr_disarm, attr_setAttr]
  rfl

end EndHandover

/-- R348: the block whose owner has changed, before a pending handover ends with it. -/
def ownerPassed (new prio lease : Nat) (c : OwnerCause) (d : Dev) : Dev :=
  let d1 := setAttr DEVICE_LEASE 0 lease (setAttr DEVICE_OWNER_PRIORITY 0 prio (setAttr DEVICE_OWNER 0 new d))
  raiseAll clsDevice 0 evOwnerChange (ownerDetail (attr d DEVICE_OWNER 0) new prio c)
    (bump DEVICE_OWNER_EPOCH 0 1 (if new = noOwner then disarm tkLease 0 d1 else restartLease d1))

section Passed
variable (new prio lease : Nat) (c : OwnerCause) (d : Dev)

theorem setOwner_passed : ∃ st, setOwner new prio lease c d = endHandover st (ownerPassed new prio lease c d) := by
  unfold setOwner ownerPassed
  exact ⟨_, rfl⟩

/-- R348: the attributes of the owner once ownership has passed. -/
theorem ownerPassed_reads : attr (ownerPassed new prio lease c d) DEVICE_OWNER 0 = new % 2 ^ 8
    ∧ attr (ownerPassed new prio lease c d) DEVICE_OWNER_PRIORITY 0 = prio % 2 ^ 8
    ∧ attr (ownerPassed new prio lease c d) DEVICE_LEASE 0 = lease % 2 ^ 32
    ∧ attr (ownerPassed new prio lease c d) DEVICE_OWNER_EPOCH 0 = (attr d DEVICE_OWNER_EPOCH 0 + 1) % 2 ^ 32 := by
  have told : ∀ (b : Attr) (cls inst type detail : Nat) (e : Dev), noEventAttr b → attr (raiseAll cls inst type detail e) b 0 = attr e b 0 :=
    fun b cls inst type detail e h => attr_raiseAll cls inst type detail e b 0 h
  have limit : ∀ (b : Attr) (e : Dev), attr (if new = noOwner then disarm tkLease 0 e else restartLease e) b 0 = attr e b 0 := fun b e =>
    attr_ite (attr_disarm ..) (attr_arm ..)
  refine ⟨?_, ?_, ?_, ?_⟩ <;> rw [ownerPassed, told _ _ _ _ _ _ (by unfold noEventAttr; decide)]
  all_goals simp (disch := decide) only [attr_bump, attr_bump_ne, limit, attr_setAttr_ne, attr_setAttr, owner_widths]

theorem keepsOthers_ownerPassed {changed : List (Nat × Nat)} (hs : ownerAttrs ⊆ changed) :
    KeepsOthers changed d (ownerPassed new prio lease c d) := by
  have d1 : KeepsOthers changed d (setAttr DEVICE_LEASE 0 lease (setAttr DEVICE_OWNER_PRIORITY 0 prio (setAttr DEVICE_OWNER 0 new d))) :=
    ((KeepsOthers.refl.wrote (by decide) (hs (by simp))).wrote (by decide) (hs (by simp))).wrote (by decide) (hs (by simp))
  exact ((d1.untimed.branch d1.timed).counted (by decide) (hs (by simp))).raisedAll

theorem sameUnits_ownerPassed : SameUnits d (ownerPassed new prio lease c d) := by
  have d1 : SameUnits d (setAttr DEVICE_LEASE 0 lease (setAttr DEVICE_OWNER_PRIORITY 0 prio (setAttr DEVICE_OWNER 0 new d))) :=
    ((sameUnits_setAttr ..).trans (sameUnits_setAttr ..)).trans (sameUnits_setAttr ..)
  exact (((d1.trans (sameUnits_disarm ..)).branch (d1.trans (sameUnits_arm ..))).trans (sameUnits_setAttr ..)).trans (eventFrame_raiseAll ..).1

theorem ownerPassed_handover : (ownerPassed new prio lease c d).handover = d.handover := by
  obtain ⟨_, _, _, same⟩ := sameUnits_ownerPassed new prio lease c d
  rw [same]

/-- R348: the attributes of the owner are the same once a pending handover has ended. -/
theorem setOwner_reads : attr (setOwner new prio lease c d) DEVICE_OWNER 0 = new % 2 ^ 8
    ∧ attr (setOwner new prio lease c d) DEVICE_OWNER_PRIORITY 0 = prio % 2 ^ 8
    ∧ attr (setOwner new prio lease c d) DEVICE_LEASE 0 = lease % 2 ^ 32
    ∧ attr (setOwner new prio lease c d) DEVICE_OWNER_EPOCH 0 = (attr d DEVICE_OWNER_EPOCH 0 + 1) % 2 ^ 32 := by
  obtain ⟨st, passed⟩ := setOwner_passed new prio lease c d
  have kept : KeepsOthers [(DEVICE_HANDOVER_TARGET.code, 0)] (ownerPassed new prio lease c d) (setOwner new prio lease c d) :=
    passed ▸ keepsOthers_endHandover st _ (by simp)
  rw [kept.read DEVICE_OWNER 0, kept.read DEVICE_OWNER_PRIORITY 0, kept.read DEVICE_LEASE 0, kept.read DEVICE_OWNER_EPOCH 0]
  exact ownerPassed_reads ..

theorem keepsOthers_setOwner : KeepsOthers passAttrs d (setOwner new prio lease c d) :=
  (keepsOthers_ownerPassed new prio lease c d (by simp)).trans (keepsOthers_endHandover _ _ (by simp))

/-- R347, R348: with no handover pending no unit changes with the owner. -/
theorem setOwner_alone (h : d.handover = none) :
    KeepsOthers ownerAttrs d (setOwner new prio lease c d) ∧ SameUnits d (setOwner new prio lease c d) := by
  obtain ⟨st, passed⟩ := setOwner_passed new prio lease c d
  rw [passed, endHandover_none st _ ((ownerPassed_handover ..).trans h)]
  exact ⟨keepsOthers_ownerPassed _ _ _ _ _ (List.Subset.refl _), sameUnits_ownerPassed ..⟩

theorem setOwner_handover : (setOwner new prio lease c d).handover = none := endHandover_handover ..

theorem setOwner_target {j : JobRef} (h : d.handover = some j) : attr (setOwner new prio lease c d) DEVICE_HANDOVER_TARGET 0 = 0xFF :=
  endHandover_target _ _ ((ownerPassed_handover ..).trans h)

end Passed

/-! ### CLAIM (R340, R341) -/

theorem claimResult_congr {d e : Dev} (h : ∀ a, a = DEVICE_OWNER ∨ a = DEVICE_OWNER_PRIORITY ∨ a = DEVICE_OWNER_EPOCH → attr e a 0 = attr d a 0) :
    claimResult e = claimResult d := by
  rw [claimResult, claimResult, h _ (.inl rfl), h _ (.inr (.inl rfl)), h _ (.inr (.inr rfl))]

theorem claimResult_takenDev (op : Nat) (r : Req) (s : State) : claimResult (takenDev op r s) = claimResult s.dev :=
  claimResult_congr fun a h => by
    obtain rfl | rfl | rfl := h <;> exact takenDev_read op r s _ 0

theorem outranks_takenDev (op : Nat) (r : Req) (s : State) (m prio : Nat) : outranks (takenDev op r s) m prio = outranks s.dev m prio := by
  rw [outranks, takenDev_read _ _ _ DEVICE_OWNER_PRIORITY, takenDev_read _ _ _ DEVICE_OWNER, outranks]

/-- R341: the fields of a CLAIM in range fit their attributes. -/
theorem claimOk_bounds {ps : List Byte} (h : claimOk ps = true) : byteAt ps 0 ≤ 7 ∧ leaseOf (leAt ps 2 4) ≤ 60000 := by
  rw [claimOk, Bool.and_eq_true, Bool.and_eq_true, Bool.and_eq_true] at h
  obtain ⟨⟨⟨-, priority⟩, -⟩, lease⟩ := h
  exact ⟨of_decide_eq_true priority, of_decide_eq_true lease⟩

/-- R341: the block of an owner that claims again: the fields are the new ones, and the lease restarts. -/
def claimedAgain (prio lease : Nat) (d : Dev) : Dev := restartLease (setAttr DEVICE_LEASE 0 lease (setAttr DEVICE_OWNER_PRIORITY 0 prio d))

section ClaimedAgain
variable (prio lease : Nat) (d : Dev)

theorem keepsOthers_claimedAgain {changed : List (Nat × Nat)} (hs : ownerAttrs ⊆ changed) : KeepsOthers changed d (claimedAgain prio lease d) :=
  ((KeepsOthers.refl.wrote (by decide) (hs (by simp))).wrote (by decide) (hs (by simp))).timed

theorem claimedAgain_reads : attr (claimedAgain prio lease d) DEVICE_OWNER 0 = attr d DEVICE_OWNER 0
    ∧ attr (claimedAgain prio lease d) DEVICE_OWNER_PRIORITY 0 = prio % 2 ^ 8 ∧ attr (claimedAgain prio lease d) DEVICE_LEASE 0 = lease % 2 ^ 32
    ∧ attr (claimedAgain prio lease d) DEVICE_OWNER_EPOCH 0 = attr d DEVICE_OWNER_EPOCH 0 := by
  have limit : ∀ (b : Attr) (e : Dev), attr (restartLease e) b 0 = attr e b 0 := fun b e => attr_arm ..
  refine ⟨?_, ?_, ?_, ?_⟩ <;> rw [claimedAgain, limit]
  all_goals simp (disch := decide) only [attr_setAttr_ne, attr_setAttr, owner_widths]

theorem sameUnits_claimedAgain : SameUnits d (claimedAgain prio lease d) :=
  ((sameUnits_setAttr ..).trans (sameUnits_setAttr ..)).trans (sameUnits_arm ..)

end ClaimedAgain

end Sys2Proof.Machine

namespace Sys2Proof.Machine

-- In order, so that no thread waits for the lemmas before it.
set_option Elab.async false

section Ownership
variable {r : Req} {s : State}

/-- R341: what the clause on a CLAIM that is taken says, of the block that the command came to. -/
theorem claim_takes {e : Dev} (ht : Claims.Takes 0x20 r s) (hl : r.params.length = 6) (hc : claimOk r.params = true)
    (body : bodyClaim s.mem (takenCall 0x20 r s) (takenDev 0x20 r s) = okResult (claimResult e) e)
    (reads : attr e DEVICE_OWNER 0 = r.master.val % 2 ^ 8 ∧ attr e DEVICE_OWNER_PRIORITY 0 = byteAt r.params 0 % 2 ^ 8
      ∧ attr e DEVICE_LEASE 0 = leaseOf (leAt r.params 2 4) % 2 ^ 32)
    (kept : KeepsOthers passAttrs (takenDev 0x20 r s) e)
    (alone : s.dev.handover = none → KeepsOthers ownerAttrs (takenDev 0x20 r s) e ∧ SameUnits (takenDev 0x20 r s) e) :
    ∃ t, exec (.claim r) s = .next t
      ∧ attr t.dev DEVICE_OWNER 0 = r.master.val ∧ attr t.dev DEVICE_OWNER_PRIORITY 0 = byteAt r.params 0
      ∧ attr t.dev DEVICE_LEASE 0 = leaseOf (leAt r.params 2 4)
      ∧ attr t.dev DEVICE_OWNER_EPOCH 0 = attr e DEVICE_OWNER_EPOCH 0
      ∧ Claims.Replied 0x20 stOk r (claimResult t.dev) s t ∧ Claims.KeepsAttrs passAttrs s t ∧ t.mem = s.mem
      ∧ (s.dev.handover = none → Claims.KeepsAttrs ownerAttrs s t ∧ Claims.KeepsUnits s t) := by
  obtain ⟨owner, priority, lease⟩ := reads
  obtain ⟨hpriority, hlease⟩ := claimOk_bounds hc
  obtain ⟨t, ran, replied, came⟩ := issueOut_ends (f := bodyClaim) ht ⟨by rw [hl]; decide, by rw [hl]; decide⟩ body
  rw [Nat.mod_eq_of_lt (by omega)] at owner priority lease
  refine ⟨t, ran, (came.attr ..).trans owner, (came.attr ..).trans priority, (came.attr ..).trans lease, came.attr .., ?_, came.keepsAttrs kept, came.mem,
    fun h => ?_⟩
  · rwa [claimResult_congr fun a _ => came.attr a 0]
  · obtain ⟨attrs, units⟩ := alone h
    exact ⟨came.keepsAttrs attrs, came.keepsUnits units⟩

theorem owner_takenDev (op : Nat) (r : Req) (s : State) : attr (takenDev op r s) DEVICE_OWNER 0 = attr s.dev DEVICE_OWNER 0 := takenDev_read ..

theorem bodyClaim_ok (hc : claimOk r.params = true) : bodyClaim s.mem (takenCall 0x20 r s) (takenDev 0x20 r s) =
    if attr s.dev DEVICE_OWNER 0 = noOwner then
      okResult (claimResult (setOwner r.master (byteAt r.params 0) (leaseOf (leAt r.params 2 4)) .claim (takenDev 0x20 r s)))
        (setOwner r.master (byteAt r.params 0) (leaseOf (leAt r.params 2 4)) .claim (takenDev 0x20 r s))
    else if attr s.dev DEVICE_OWNER 0 = r.master then
      okResult (claimResult (claimedAgain (byteAt r.params 0) (leaseOf (leAt r.params 2 4)) (takenDev 0x20 r s)))
        (claimedAgain (byteAt r.params 0) (leaseOf (leAt r.params 2 4)) (takenDev 0x20 r s))
    else if outranks s.dev r.master (byteAt r.params 0) then
      okResult (claimResult (setOwner r.master (byteAt r.params 0) (leaseOf (leAt r.params 2 4)) .preempt (takenDev 0x20 r s)))
        (setOwner r.master (byteAt r.params 0) (leaseOf (leAt r.params 2 4)) .preempt (takenDev 0x20 r s))
    else .refuse stConflict (claimResult s.dev) := by
  rw [← owner_takenDev 0x20 r s, ← outranks_takenDev 0x20 r s, ← claimResult_takenDev 0x20 r s]
  exact need_of hc ..

/-- R341: a CLAIM that ownership passes by, of a free device or over an outranked owner. -/
theorem claim_passes {c : OwnerCause} (ht : Claims.Takes 0x20 r s) (hl : r.params.length = 6) (hc : claimOk r.params = true)
    (body : bodyClaim s.mem (takenCall 0x20 r s) (takenDev 0x20 r s)
      = okResult (claimResult (setOwner r.master (byteAt r.params 0) (leaseOf (leAt r.params 2 4)) c (takenDev 0x20 r s)))
        (setOwner r.master (byteAt r.params 0) (leaseOf (leAt r.params 2 4)) c (takenDev 0x20 r s))) :
    ∃ t, exec (.claim r) s = .next t
      ∧ attr t.dev DEVICE_OWNER 0 = r.master.val ∧ attr t.dev DEVICE_OWNER_PRIORITY 0 = byteAt r.params 0
      ∧ attr t.dev DEVICE_LEASE 0 = leaseOf (leAt r.params 2 4)
      ∧ attr t.dev DEVICE_OWNER_EPOCH 0 = (attr s.dev DEVICE_OWNER_EPOCH 0 + 1) % 2 ^ 32
      ∧ Claims.Replied 0x20 stOk r (claimResult t.dev) s t ∧ Claims.KeepsAttrs passAttrs s t ∧ t.mem = s.mem
      ∧ (s.dev.handover = none → Claims.KeepsAttrs ownerAttrs s t ∧ Claims.KeepsUnits s t) := by
  obtain ⟨owner, priority, lease, epoch⟩ := setOwner_reads r.master (byteAt r.params 0) (leaseOf (leAt r.params 2 4)) c (takenDev 0x20 r s)
  rw [takenDev_read _ _ _ DEVICE_OWNER_EPOCH] at epoch
  rw [← epoch]
  exact claim_takes ht hl hc body ⟨owner, priority, lease⟩ (keepsOthers_setOwner _ _ _ _ _) fun h =>
    setOwner_alone _ _ _ _ _ ((takenDev_handover ..).trans h)

theorem claim_claims (ht : Claims.Takes 0x20 r s) (hl : r.params.length = 6) (hc : claimOk r.params = true)
    (ho : attr s.dev DEVICE_OWNER 0 = noOwner ∨ attr s.dev DEVICE_OWNER 0 = r.master.val ∨ outranks s.dev r.master.val (byteAt r.params 0) = true) :
    ∃ t, exec (.claim r) s = .next t
      ∧ attr t.dev DEVICE_OWNER 0 = r.master.val ∧ attr t.dev DEVICE_OWNER_PRIORITY 0 = byteAt r.params 0
      ∧ attr t.dev DEVICE_LEASE 0 = leaseOf (leAt r.params 2 4)
      ∧ attr t.dev DEVICE_OWNER_EPOCH 0
          = (if attr s.dev DEVICE_OWNER 0 = r.master.val then attr s.dev DEVICE_OWNER_EPOCH 0 else (attr s.dev DEVICE_OWNER_EPOCH 0 + 1) % 2 ^ 32)
      ∧ Claims.Replied 0x20 stOk r (claimResult t.dev) s t ∧ Claims.KeepsAttrs passAttrs s t ∧ t.mem = s.mem
      ∧ (s.dev.handover = none → Claims.KeepsAttrs ownerAttrs s t ∧ Claims.KeepsUnits s t) := by
  have body := bodyClaim_ok (s := s) hc
  have master := r.master.isLt
  by_cases free : attr s.dev DEVICE_OWNER 0 = noOwner
  · have other : attr s.dev DEVICE_OWNER 0 ≠ r.master.val := by rw [free, noOwner]; omega
    rw [if_pos free] at body
    rw [if_neg other]
    exact claim_passes ht hl hc body
  rw [if_neg free] at body
  by_cases own : attr s.dev DEVICE_OWNER 0 = r.master.val
  · rw [if_pos own] at body
    obtain ⟨owner, priority, lease, epoch⟩ := claimedAgain_reads (byteAt r.params 0) (leaseOf (leAt r.params 2 4)) (takenDev 0x20 r s)
    have again : r.master.val % 2 ^ 8 = r.master.val := Nat.mod_eq_of_lt (by omega)
    rw [owner_takenDev, own, ← again] at owner
    rw [takenDev_read _ _ _ DEVICE_OWNER_EPOCH] at epoch
    rw [if_pos own, ← epoch]
    exact claim_takes ht hl hc body ⟨owner, priority, lease⟩ (keepsOthers_claimedAgain _ _ _ (by simp)) fun _ =>
      ⟨keepsOthers_claimedAgain _ _ _ (List.Subset.refl _), sameUnits_claimedAgain ..⟩
  · have ranked := (ho.resolve_left free).resolve_left own
    rw [if_neg own, if_pos ranked] at body
    rw [if_neg own]
    exact claim_passes ht hl hc body

theorem claim_conflicts (ht : Claims.Takes 0x20 r s) (hl : r.params.length = 6) (hc : claimOk r.params = true)
    (free : attr s.dev DEVICE_OWNER 0 ≠ noOwner) (own : attr s.dev DEVICE_OWNER 0 ≠ r.master.val)
    (ranked : outranks s.dev r.master.val (byteAt r.params 0) = false) :
    ∃ t, exec (.claim r) s = .next t ∧ Claims.Replied 0x20 stConflict r (claimResult s.dev) s t ∧ Claims.KeepsAttrs [] s t ∧ Claims.KeepsUnits s t := by
  have body := bodyClaim_ok (s := s) hc
  rw [if_neg free, if_neg own, ranked, if_neg Bool.false_ne_true] at body
  exact issueOut_refuses (f := bodyClaim) ht ⟨by rw [hl]; decide, by rw [hl]; decide⟩ body

/-! ### RENEW, YIELD and ACCEPT (R343, R345, R346) -/

/-- R343: the block with a new lease, 0 keeping the one it has, before the lease restarts. -/
def leased (v : Nat) (d : Dev) : Dev := if v = 0 then d else setAttr DEVICE_LEASE 0 v d

theorem attr_leased {v : Nat} (h : v < 2 ^ 32) (d : Dev) :
    attr (leased v d) DEVICE_LEASE 0 = if v = 0 then attr d DEVICE_LEASE 0 else v := by
  obtain ⟨-, -, width, -⟩ := owner_widths
  rw [leased, apply_ite fun e => attr e DEVICE_LEASE 0, attr_setAttr, width, Nat.mod_eq_of_lt h]

theorem keepsOthers_leased (v : Nat) (d : Dev) : KeepsOthers [(DEVICE_LEASE.code, 0)] d (leased v d) := KeepsOthers.refl.branch KeepsOthers.refl.wrote

theorem sameUnits_leased (v : Nat) (d : Dev) : SameUnits d (leased v d) := (SameUnits.refl d).branch (sameUnits_setAttr ..)

theorem attr_restartLease (d : Dev) (b : Attr) (i : Nat) : attr (restartLease d) b i = attr d b i := attr_arm ..

theorem armed_restartLease (d : Dev) : armed (restartLease d) tkLease 0 = true := armed_arm ..

theorem renew_renews (ht : Claims.Takes 0x21 r s) (hl : r.params.length = 4)
    (hv : leAt r.params 0 4 = 0 ∨ 10 ≤ leAt r.params 0 4 ∧ leAt r.params 0 4 ≤ 60000) :
    ∃ t, exec (.renew r) s = .next t
      ∧ attr t.dev DEVICE_LEASE 0 = (if leAt r.params 0 4 = 0 then attr s.dev DEVICE_LEASE 0 else leAt r.params 0 4)
      ∧ Claims.Replied 0x21 stOk r (toLE (attr t.dev DEVICE_LEASE 0) 4) s t ∧ armed t.dev tkLease 0 = true
      ∧ Claims.KeepsAttrs [(DEVICE_LEASE.code, 0)] s t ∧ Claims.KeepsUnits s t := by
  have ok : (leAt r.params 0 4 == 0 || (decide (10 ≤ leAt r.params 0 4) && decide (leAt r.params 0 4 ≤ 60000))) = true := by
    simpa using hv
  have body : bodyRenew s.mem (takenCall 0x21 r s) (takenDev 0x21 r s)
      = okResult (toLE (attr (restartLease (leased (leAt r.params 0 4) (takenDev 0x21 r s))) DEVICE_LEASE 0) 4)
        (restartLease (leased (leAt r.params 0 4) (takenDev 0x21 r s))) := by
    unfold bodyRenew leased
    dsimp only [takenCall]
    rw [need_of ok]
  obtain ⟨t, ran, replied, came⟩ := issueOut_ends (f := bodyRenew) ht ⟨by rw [hl]; decide, by rw [hl]; decide⟩ body
  refine ⟨t, ran, ?_, ?_, (came.armed ..).trans (armed_restartLease _), came.keepsAttrs (keepsOthers_leased _ _).timed,
    came.keepsUnits ((sameUnits_leased _ _).trans (sameUnits_arm ..))⟩
  · rw [came.attr, attr_restartLease, attr_leased (by omega), takenDev_read _ _ _ DEVICE_LEASE]
  · rwa [came.attr]

/-- R345: the fields of a YIELD in range. -/
def yieldOk (ps : List Byte) (owner : Nat) : Bool :=
  reservedZero ps 1 1 && decide (byteAt ps 0 ≠ owner) && (decide (byteAt ps 0 ≤ 3) || byteAt ps 0 == 0xFF)
    && decide (10 ≤ if leAt ps 2 2 = 0 then 100 else leAt ps 2 2) && decide ((if leAt ps 2 2 = 0 then 100 else leAt ps 2 2) ≤ 10000)

theorem yieldOk_of {ps : List Byte} {owner : Nat} (hz : byteAt ps 1 = 0) (ho : byteAt ps 0 ≠ owner) (ht : byteAt ps 0 ≤ 3 ∨ byteAt ps 0 = 0xFF)
    (hw : leAt ps 2 2 = 0 ∨ 10 ≤ leAt ps 2 2 ∧ leAt ps 2 2 ≤ 10000) : yieldOk ps owner = true := by
  have zero : reservedZero ps 1 1 = true := reservedZero_of (by simpa [leAt] using hz)
  have target : (decide (byteAt ps 0 ≤ 3) || byteAt ps 0 == 0xFF) = true := by simpa using ht
  have least : 10 ≤ if leAt ps 2 2 = 0 then 100 else leAt ps 2 2 := by split <;> omega
  have most : (if leAt ps 2 2 = 0 then 100 else leAt ps 2 2) ≤ 10000 := by split <;> omega
  rw [yieldOk, zero, target, decide_eq_true ho, decide_eq_true least, decide_eq_true most]
  rfl

/-- R345: the window of an offer, 0 meaning 100 ms. -/
def windowOf (v : Nat) : Nat := if v = 0 then 100 else v

theorem bodyYield_releases (hz : byteAt r.params 1 = 0) (ho : byteAt r.params 0 ≠ attr s.dev DEVICE_OWNER 0) (ht : byteAt r.params 0 = 0xFF)
    (hw : leAt r.params 2 2 = 0 ∨ 10 ≤ leAt r.params 2 2 ∧ leAt r.params 2 2 ≤ 10000) :
    bodyYield s.mem (takenCall 0x22 r s) (takenDev 0x22 r s) = okDev (setOwner noOwner 0xFF 0 .released (takenDev 0x22 r s)) := by
  have ok := yieldOk_of hz ho (.inr ht) hw
  unfold yieldOk at ok
  unfold bodyYield
  dsimp only [takenCall]
  rw [owner_takenDev, need_of ok, if_pos ht]

/-- R345: the block of an offer under way, before the event that tells the master of it. -/
def offered (c : Call) (d : Dev) : Dev :=
  arm tkHandover 0 (windowOf (leAt c.params 2 2) * nsPerMs)
    (setAttr DEVICE_HANDOVER_TARGET 0 (byteAt c.params 0) { addJob c d with handover := some (callRef c) })

theorem bodyYield_offers (hz : byteAt r.params 1 = 0) (ho : byteAt r.params 0 ≠ attr s.dev DEVICE_OWNER 0) (ht : byteAt r.params 0 ≤ 3)
    (hw : leAt r.params 2 2 = 0 ∨ 10 ≤ leAt r.params 2 2 ∧ leAt r.params 2 2 ≤ 10000) (hn : s.dev.handover = none) :
    ∃ detail, bodyYield s.mem (takenCall 0x22 r s) (takenDev 0x22 r s)
      = .accept [] (raiseTo [byteAt r.params 0] clsDevice 0 evHandoverOffer detail (offered (takenCall 0x22 r s) (takenDev 0x22 r s))) := by
  have ok := yieldOk_of hz ho (.inl ht) hw
  have idle : (takenDev 0x22 r s).handover.isNone = true := by rw [takenDev_handover, hn]; rfl
  have target : byteAt r.params 0 ≠ 0xFF := by omega
  unfold yieldOk at ok
  unfold bodyYield offered windowOf
  dsimp only [takenCall] at idle ⊢
  rw [owner_takenDev, need_of ok, if_neg target, need_of idle]
  exact ⟨_, rfl⟩

theorem yield_releases (ht : Claims.Takes 0x22 r s) (hl : r.params.length = 4) (hff : byteAt r.params 0 = 0xFF) (hz : byteAt r.params 1 = 0)
    (hw : leAt r.params 2 2 = 0 ∨ 10 ≤ leAt r.params 2 2 ∧ leAt r.params 2 2 ≤ 10000) :
    ∃ t, exec (.yield r) s = .next t ∧ Claims.Replied 0x22 stOk r [] s t ∧ attr t.dev DEVICE_OWNER 0 = noOwner
      ∧ attr t.dev DEVICE_OWNER_PRIORITY 0 = 0xFF ∧ attr t.dev DEVICE_LEASE 0 = 0
      ∧ attr t.dev DEVICE_OWNER_EPOCH 0 = (attr s.dev DEVICE_OWNER_EPOCH 0 + 1) % 2 ^ 32 ∧ Claims.KeepsAttrs passAttrs s t ∧ t.mem = s.mem := by
  have owned : attr s.dev DEVICE_OWNER 0 = r.master.val := ht.2.2.1.resolve_right (by simp [nonOwnerMay])
  have other : byteAt r.params 0 ≠ attr s.dev DEVICE_OWNER 0 := by omega
  obtain ⟨owner, priority, lease, epoch⟩ := setOwner_reads noOwner 0xFF 0 .released (takenDev 0x22 r s)
  rw [takenDev_read _ _ _ DEVICE_OWNER_EPOCH] at epoch
  obtain ⟨t, ran, replied, came⟩ := issueOut_ends (f := bodyYield) ht ⟨by rw [hl]; decide, by rw [hl]; decide⟩ (bodyYield_releases hz other hff hw)
  exact ⟨t, ran, replied, (came.attr ..).trans owner, (came.attr ..).trans priority, (came.attr ..).trans lease, (came.attr ..).trans epoch,
    came.keepsAttrs (keepsOthers_setOwner _ _ _ _ _), came.mem⟩

section Offered
variable (c : Call) (d : Dev)

theorem keepsOthers_offered : KeepsOthers [(DEVICE_HANDOVER_TARGET.code, 0)] d (offered c d) := by
  have waits : KeepsOthers [(DEVICE_HANDOVER_TARGET.code, 0)] d { addJob c d with handover := some (callRef c) } := keepsOthers_of_attrs rfl
  exact waits.wrote.timed

theorem attr_offered_target : attr (offered c d) DEVICE_HANDOVER_TARGET 0 = byteAt c.params 0 := by
  have width : DEVICE_HANDOVER_TARGET.width = 8 := rfl
  rw [offered, attr_arm, attr_setAttr, width]
  exact Nat.mod_eq_of_lt (byteAt_lt ..)

theorem armed_offered : armed (offered c d) tkHandover 0 = true := armed_arm ..

theorem findJob_offered (h : findJob d (callRef c) = none) : (findJob (offered c d) (callRef c)).map (·.opcode) = some c.op := findJob_addJob h

end Offered

end Ownership

/-- The same block but for queues, their counters and their signal limits: jobs, handover and other limits stand. -/
theorem EventFrame.handover {d e : Dev} (h : EventFrame d e) : e.handover = d.handover := by
  obtain ⟨⟨_, _, _, rfl⟩, -⟩ := h
  rfl

theorem EventFrame.findJob {d e : Dev} (h : EventFrame d e) (j : JobRef) : findJob e j = Machine.findJob d j := by
  obtain ⟨⟨_, _, _, rfl⟩, -⟩ := h
  rfl

theorem keepsLimits_raiseTo {ms : List Nat} (h : ∀ m ∈ ms, m < 2 ^ 24) (cls inst type detail : Nat) (d : Dev) :
    KeepsLimits d (raiseTo ms cls inst type detail d) := by
  unfold raiseTo
  split
  · exact KeepsLimits.refl d
  · exact (keepsLimits_of_timers rfl).trans (keepsLimits_forAll (fun m hm _ => keepsLimits_enqueue (h m hm) _ _) _)

section Ownership
variable {r : Req} {s : State}

theorem yield_offers (ht : Claims.Takes 0x22 r s) (hl : r.params.length = 4) (h3 : byteAt r.params 0 ≤ 3)
    (ho : byteAt r.params 0 ≠ attr s.dev DEVICE_OWNER 0) (hz : byteAt r.params 1 = 0)
    (hw : leAt r.params 2 2 = 0 ∨ 10 ≤ leAt r.params 2 2 ∧ leAt r.params 2 2 ≤ 10000) (hn : s.dev.handover = none) :
    ∃ t, exec (.yield r) s = .next t ∧ Claims.Replied 0x22 stAccepted r [] s t ∧ attr t.dev DEVICE_HANDOVER_TARGET 0 = byteAt r.params 0
      ∧ t.dev.handover = some ⟨r.master.val, r.tag.toNat⟩ ∧ armed t.dev tkHandover 0 = true
      ∧ attr t.dev DEVICE_OWNER 0 = attr s.dev DEVICE_OWNER 0 ∧ (findJob t.dev ⟨r.master.val, r.tag.toNat⟩).map (·.opcode) = some 0x22
      ∧ Claims.KeepsAttrs [(DEVICE_HANDOVER_TARGET.code, 0)] s t ∧ t.mem = s.mem := by
  obtain ⟨detail, body⟩ := bodyYield_offers (s := s) hz ho h3 hw hn
  obtain ⟨t, ran, replied, came⟩ := issueOut_starts (f := bodyYield) ht ⟨by rw [hl]; decide, by rw [hl]; decide⟩ body
  have told := eventFrame_raiseTo [byteAt r.params 0] clsDevice 0 evHandoverOffer detail (offered (takenCall 0x22 r s) (takenDev 0x22 r s))
  have attrs := (keepsOthers_offered (takenCall 0x22 r s) (takenDev 0x22 r s)).framed told
  have limits := keepsLimits_raiseTo (ms := [byteAt r.params 0]) (by simp; omega) clsDevice 0 evHandoverOffer detail
    (offered (takenCall 0x22 r s) (takenDev 0x22 r s))
  have free := takenDev_jobless (op := 0x22) ht.2.2.2.1
  refine ⟨t, ran, replied, ?_, (came.field Dev.handover).trans told.handover, ?_, ?_, ?_, came.keepsAttrs attrs, came.mem⟩
  · exact (came.attr ..).trans ((told.2 _ _ (by unfold noEventAttr; decide)).trans (attr_offered_target ..))
  · exact (came.armed ..).trans ((limits _ _ (by decide) (by decide)).trans (armed_offered ..))
  · exact (came.attr ..).trans ((attrs.read DEVICE_OWNER 0).trans (owner_takenDev ..))
  · exact (congrArg _ ((came.findJob _).trans (told.findJob _))).trans (findJob_offered _ _ free)

theorem accept_accepts (ht : Claims.Takes 0x23 r s) (hl : r.params.length = 6) (hc : claimOk r.params = true) (ho : s.dev.handover.isSome = true)
    (hm : attr s.dev DEVICE_HANDOVER_TARGET 0 = r.master.val) :
    ∃ t, exec (.accept r) s = .next t ∧ attr t.dev DEVICE_OWNER 0 = r.master.val ∧ attr t.dev DEVICE_OWNER_PRIORITY 0 = byteAt r.params 0
      ∧ attr t.dev DEVICE_LEASE 0 = leaseOf (leAt r.params 2 4) ∧ t.dev.handover = none ∧ Claims.Replied 0x23 stOk r (claimResult t.dev) s t
      ∧ attr t.dev DEVICE_OWNER_EPOCH 0 = (attr s.dev DEVICE_OWNER_EPOCH 0 + 1) % 2 ^ 32 ∧ attr t.dev DEVICE_HANDOVER_TARGET 0 = 0xFF
      ∧ Claims.KeepsAttrs passAttrs s t ∧ t.mem = s.mem := by
  obtain ⟨j, offer⟩ := Option.isSome_iff_exists.1 ho
  have pending : ((takenDev 0x23 r s).handover.isSome && decide (attr (takenDev 0x23 r s) DEVICE_HANDOVER_TARGET 0 = r.master.val)) = true := by
    rw [takenDev_handover, takenDev_read _ _ _ DEVICE_HANDOVER_TARGET, ho, decide_eq_true hm]
    rfl
  have body : bodyAccept s.mem (takenCall 0x23 r s) (takenDev 0x23 r s)
      = okResult (claimResult (setOwner r.master (byteAt r.params 0) (leaseOf (leAt r.params 2 4)) .handover (takenDev 0x23 r s)))
        (setOwner r.master (byteAt r.params 0) (leaseOf (leAt r.params 2 4)) .handover (takenDev 0x23 r s)) := by
    unfold bodyAccept
    dsimp only [takenCall]
    rw [need_of hc]
    exact need_of pending ..
  obtain ⟨owner, priority, lease, epoch⟩ := setOwner_reads r.master (byteAt r.params 0) (leaseOf (leAt r.params 2 4)) .handover (takenDev 0x23 r s)
  obtain ⟨hpriority, hlease⟩ := claimOk_bounds hc
  have master := r.master.isLt
  rw [Nat.mod_eq_of_lt (by omega)] at owner priority lease
  rw [takenDev_read _ _ _ DEVICE_OWNER_EPOCH] at epoch
  obtain ⟨t, ran, replied, came⟩ := issueOut_ends (f := bodyAccept) ht ⟨by rw [hl]; decide, by rw [hl]; decide⟩ body
  refine ⟨t, ran, (came.attr ..).trans owner, (came.attr ..).trans priority, (came.attr ..).trans lease,
    (came.field Dev.handover).trans (setOwner_handover ..), ?_, (came.attr ..).trans epoch,
    (came.attr ..).trans (setOwner_target _ _ _ _ _ ((takenDev_handover ..).trans offer)), came.keepsAttrs (keepsOthers_setOwner _ _ _ _ _), came.mem⟩
  rwa [claimResult_congr fun a _ => came.attr a 0]

/-! ### The lease and the window (R344, R347) -/

theorem leaseExpiry_releases (hd : due s.dev tkLease 0 = true) (ho : attr s.dev DEVICE_OWNER 0 ≠ noOwner) :
    ∃ t, exec .leaseExpiry s = .next t ∧ attr t.dev DEVICE_OWNER 0 = noOwner ∧ attr t.dev DEVICE_OWNER_PRIORITY 0 = 0xFF
      ∧ attr t.dev DEVICE_LEASE 0 = 0 ∧ attr t.dev DEVICE_OWNER_EPOCH 0 = (attr s.dev DEVICE_OWNER_EPOCH 0 + 1) % 2 ^ 32
      ∧ Claims.KeepsAttrs passAttrs s t ∧ t.mem = s.mem := by
  have released : expireLease (disarm tkLease 0 s.dev) = setOwner noOwner 0xFF 0 .expired (disarm tkLease 0 s.dev) := if_neg ho
  have ran : exec .leaseExpiry s = onDev (onExpiry tkLease 0 expireLease) s := rfl
  rw [ran, exec_onExpiry hd, released]
  obtain ⟨owner, priority, lease, epoch⟩ := setOwner_reads noOwner 0xFF 0 .expired (disarm tkLease 0 s.dev)
  exact ⟨_, rfl, owner, priority, lease, epoch, keepsAttrs_dev (KeepsOthers.trans KeepsOthers.refl.untimed (keepsOthers_setOwner _ _ _ _ _)), rfl⟩

theorem handoverWindowExpiry_ends {j : JobRef} (hd : due s.dev tkHandover 0 = true) (ho : s.dev.handover = some j)
    (hj : (findJob s.dev j).isSome = true) :
    ∃ t, exec .handoverWindowExpiry s = .next t ∧ t.dev.handover = none ∧ attr t.dev DEVICE_HANDOVER_TARGET 0 = 0xFF ∧ findJob t.dev j = none
      ∧ Claims.KeepsAttrs [(DEVICE_HANDOVER_TARGET.code, 0)] s t ∧ t.mem = s.mem := by
  obtain ⟨job, found⟩ := Option.isSome_iff_exists.1 hj
  have ran : exec .handoverWindowExpiry s = onDev (onExpiry tkHandover 0 (endHandover stTimeout)) s := rfl
  rw [ran, exec_onExpiry hd]
  refine ⟨_, rfl, endHandover_handover .., endHandover_target _ _ ho, ?_,
    keepsAttrs_dev (KeepsOthers.trans KeepsOthers.refl.untimed (keepsOthers_endHandover _ _ (by simp))), rfl⟩
  dsimp only
  rw [endHandover_some stTimeout (disarm tkHandover 0 s.dev) ho]
  refine complete_frees (job := job) ?_ ..
  exact found

end Ownership

/-- Settles O17. Ownership passes through `setOwner`, whose attributes and frame `setOwner_reads`, `keepsOthers_setOwner` and `setOwner_alone` state once;
each row is a use of them. -/
theorem ownershipTakenAndPassed : Obligations.ownership_taken_and_passed :=
  ⟨fun _ _ => claim_claims, fun _ _ => claim_conflicts, fun _ =>
    ⟨fun _ => renew_renews, fun _ => yield_releases, fun _ => yield_offers, fun _ => accept_accepts, leaseExpiry_releases,
      fun _ => handoverWindowExpiry_ends⟩⟩

end Sys2Proof.Machine

namespace Sys2Proof.Machine

-- In order, so that no thread waits for the lemmas before it.
set_option Elab.async false

/-! ### The queue of a master that a request is taken from (R357) -/

theorem master_modMaster_events {m : Nat} {f : Master → Master} (h : ∀ x, (f x).events = x.events) (k : Nat) (d : Dev) :
    (master (modMaster m f d) k).events = (master d k).events := by
  by_cases hk : k = m
  · subst hk
    rw [modMaster, master_setMaster, h]
  · rw [modMaster, master_setMaster_ne _ _ hk]

theorem master_restartLease (d : Dev) (k : Nat) : master (restartLease d) k = master d k := master_arm ..

theorem advance_events (m seq : Nat) (raw : List Byte) (d : Dev) (k : Nat) : (master (advance m seq raw d) k).events = (master d k).events := by
  have stored := master_modMaster_events (m := m) (f := fun x => { x with stored := some (raw, []) }) (fun _ => rfl) k
    (bump DEVICE_CMD_EXECUTED m 1 (setAttr DEVICE_CMD_SEQ_NEXT m ((seq + 1) % 65536) d))
  rw [master_bump, master_congr (setAttr_masters ..)] at stored
  unfold advance
  dsimp only
  split
  · rw [master_restartLease]; exact stored
  · exact stored

theorem takenDev_events (op : Nat) (r : Req) (s : State) (k : Nat) : (master (takenDev op r s) k).events = (master s.dev k).events :=
  advance_events ..

theorem answer_events (c : Call) (st : Nat) (x : List Byte) (d : Dev) (k : Nat) : (master (answer c st x d) k).events = (master d k).events := by
  have placed : ∀ (m : Nat) (bytes : List Byte) (e : Dev), (master (placeReply m bytes e) k).events = (master e k).events := by
    intro m bytes e
    have queued := master_modMaster_events (m := m) (f := fun x => { x with replies := x.replies ++ [⟨bytes, 0, false, e.elapsed⟩] }) (fun _ => rfl) k e
    unfold placeReply
    dsimp only
    split
    · split
      · rw [signal_events]; exact queued
      · exact queued
    · rfl
  rw [answer, placed]
  refine master_modMaster_events ?_ ..
  exact fun _ => rfl

/-- R310: a request that is done leaves every queue as its effect left it. -/
theorem issueOut_ends_events {op : Nat} {f : Body} {r : Req} {s t : State} {x : List Byte} {d : Dev} (ht : Claims.Takes op r s)
    (hl : (paramRange op).1 ≤ r.params.length ∧ r.params.length ≤ (paramRange op).2)
    (hb : f s.mem (takenCall op r s) (takenDev op r s) = .done x d .keep) (ran : issueOut op f r s = .next t) (k : Nat) :
    (master t.dev k).events = (master d k).events := by
  obtain ⟨took, hf, owner, free, room⟩ := ht
  rw [issueOut, issue_done took hf owner free room hl hb] at ran
  obtain rfl := Host.Outcome.next.inj ran
  exact answer_events ..

/-! ### EVENTS_READ (R357) -/

/-- R357: the block with the filter and the interrupt of a queue as EVENTS_READ gives them. -/
def eventsSet (m : Nat) (ps : List Byte) (d : Dev) : Dev :=
  let d1 := if bitOf (byteAt ps 1) 0 then setAttr EVENTQ_FILTER m (leAt ps 2 2) d else d
  if bitOf (byteAt ps 1) 1 then setAttr EVENTQ_IRQ_EN m (bitNat (bitOf (byteAt ps 1) 2)) d1 else d1

/-- R357: what EVENTS_READ leaves in a queue. -/
def eventsLeft (ps : List Byte) (es : List EventRec) : List EventRec := if bitOf (byteAt ps 1) 3 then es else es.drop (byteAt ps 0)

/-- R357, R359: the block once the records are taken from the queue: the signal repeats while any are left. -/
def eventsTaken (m : Nat) (ps : List Byte) (d : Dev) : Dev :=
  let d3 := setMaster m { master d m with events := eventsLeft ps (master d m).events } d
  if (eventsLeft ps (master d m).events).isEmpty then disarm tkSignal m d3 else arm tkSignal m (10 * nsPerMs) d3

section EventsRead
variable (m : Nat) (ps : List Byte) (d : Dev)

theorem keepsOthers_eventsSet : KeepsOthers [(EVENTQ_FILTER.code, m), (EVENTQ_IRQ_EN.code, m)] d (eventsSet m ps d) := by
  have filter : KeepsOthers [(EVENTQ_FILTER.code, m), (EVENTQ_IRQ_EN.code, m)] d
      (if bitOf (byteAt ps 1) 0 then setAttr EVENTQ_FILTER m (leAt ps 2 2) d else d) := KeepsOthers.refl.wrote.branch KeepsOthers.refl
  exact filter.wrote.branch filter

theorem sameUnits_eventsSet : SameUnits d (eventsSet m ps d) := by
  have filter : SameUnits d (if bitOf (byteAt ps 1) 0 then setAttr EVENTQ_FILTER m (leAt ps 2 2) d else d) :=
    (sameUnits_setAttr ..).branch (SameUnits.refl d)
  exact (filter.trans (sameUnits_setAttr ..)).branch filter

theorem eventsSet_masters : (eventsSet m ps d).masters = d.masters := by
  unfold eventsSet
  split <;> split <;> rfl

theorem attr_eventsSet_filter :
    attr (eventsSet m ps d) EVENTQ_FILTER m = if bitOf (byteAt ps 1) 0 then leAt ps 2 2 else attr d EVENTQ_FILTER m := by
  have width : EVENTQ_FILTER.width = 16 := rfl
  have bound : leAt ps 2 2 < 2 ^ 16 := leAt_lt ps 2 2
  have written : attr (if bitOf (byteAt ps 1) 0 then setAttr EVENTQ_FILTER m (leAt ps 2 2) d else d) EVENTQ_FILTER m
      = if bitOf (byteAt ps 1) 0 then leAt ps 2 2 else attr d EVENTQ_FILTER m := by
    rw [apply_ite fun e => attr e EVENTQ_FILTER m, attr_setAttr, width, Nat.mod_eq_of_lt bound]
  unfold eventsSet
  rw [apply_ite fun e => attr e EVENTQ_FILTER m, attr_setAttr_ne _ _ _ _ (by decide) (by decide) (by decide), ite_self, written]

theorem attr_eventsSet_irqEn : attr (eventsSet m ps d) EVENTQ_IRQ_EN m
    = if bitOf (byteAt ps 1) 1 then bitNat (bitOf (byteAt ps 1) 2) else attr d EVENTQ_IRQ_EN m := by
  have flag : ∀ b : Bool, bitNat b % 2 ^ EVENTQ_IRQ_EN.width = bitNat b := by decide
  have filter : attr (if bitOf (byteAt ps 1) 0 then setAttr EVENTQ_FILTER m (leAt ps 2 2) d else d) EVENTQ_IRQ_EN m = attr d EVENTQ_IRQ_EN m :=
    attr_ite (attr_setAttr_ne _ _ _ _ (by decide) (by decide) (by decide)) rfl
  unfold eventsSet
  rw [apply_ite fun e => attr e EVENTQ_IRQ_EN m, attr_setAttr, flag, filter]

theorem eventsTaken_events : (master (eventsTaken m ps d) m).events = eventsLeft ps (master d m).events := by
  have left : (master (setMaster m { master d m with events := eventsLeft ps (master d m).events } d) m).events = eventsLeft ps (master d m).events := by
    rw [master_setMaster]
  unfold eventsTaken
  split
  · rw [master_disarm, left]
  · rw [master_arm, left]

theorem eventsTaken_attrs : (eventsTaken m ps d).attrs = d.attrs := by
  unfold eventsTaken
  split
  · exact disarm_attrs ..
  · exact arm_attrs ..

theorem sameUnits_eventsTaken : SameUnits d (eventsTaken m ps d) :=
  ((sameUnits_setMaster ..).trans (sameUnits_disarm ..)).branch ((sameUnits_setMaster ..).trans (sameUnits_arm ..))

end EventsRead

section Rows
variable {r : Req} {s : State}

theorem bodyEventsRead_ok (hok : eventsReadOk r.params = true) : bodyEventsRead s.mem (takenCall 0x24 r s) (takenDev 0x24 r s) =
    okResult ([byteOf ((master s.dev r.master).events.take (byteAt r.params 0)).length, byteOf (attr s.dev LATTICE_INDEX 0)]
        ++ toLE (eventsLeft r.params (master s.dev r.master).events).length 2
        ++ ((master s.dev r.master).events.take (byteAt r.params 0)).flatMap eventBytes)
      (eventsTaken r.master r.params (eventsSet r.master r.params (takenDev 0x24 r s))) := by
  have queue : (master (eventsSet r.master r.params (takenDev 0x24 r s)) r.master).events = (master s.dev r.master).events := by
    rw [master_congr (eventsSet_masters ..), takenDev_events]
  rw [← takenDev_read 0x24 r s LATTICE_INDEX 0, ← queue]
  unfold bodyEventsRead eventsTaken eventsLeft eventsSet
  dsimp only [takenCall]
  rw [need_of hok]

theorem eventsRead_reads (ht : Claims.Takes 0x24 r s) (hl : r.params.length = 4) (hok : eventsReadOk r.params = true) :
    ∃ t, exec (.eventsRead r) s = .next t ∧ (master t.dev r.master).events = eventsLeft r.params (master s.dev r.master).events
      ∧ Claims.Replied 0x24 stOk r
          ([byteOf ((master s.dev r.master).events.take (byteAt r.params 0)).length, byteOf (attr s.dev LATTICE_INDEX 0)]
            ++ toLE (master t.dev r.master).events.length 2
            ++ ((master s.dev r.master).events.take (byteAt r.params 0)).flatMap eventBytes) s t
      ∧ attr t.dev EVENTQ_FILTER r.master = (if bitOf (byteAt r.params 1) 0 then leAt r.params 2 2 else attr s.dev EVENTQ_FILTER r.master)
      ∧ attr t.dev EVENTQ_IRQ_EN r.master
          = (if bitOf (byteAt r.params 1) 1 then bitNat (bitOf (byteAt r.params 1) 2) else attr s.dev EVENTQ_IRQ_EN r.master)
      ∧ Claims.KeepsAttrs [(EVENTQ_FILTER.code, r.master), (EVENTQ_IRQ_EN.code, r.master)] s t ∧ Claims.KeepsUnits s t := by
  have length : (paramRange 0x24).1 ≤ r.params.length ∧ r.params.length ≤ (paramRange 0x24).2 := ⟨by rw [hl]; decide, by rw [hl]; decide⟩
  have body := bodyEventsRead_ok (s := s) hok
  obtain ⟨t, ran, replied, came⟩ := issueOut_ends (f := bodyEventsRead) ht length body
  have events : (master t.dev r.master).events = eventsLeft r.params (master s.dev r.master).events := by
    rw [issueOut_ends_events ht length body ran, eventsTaken_events, master_congr (eventsSet_masters ..), takenDev_events]
  have sets := (keepsOthers_eventsSet r.master r.params (takenDev 0x24 r s)).same (eventsTaken_attrs r.master r.params _)
  refine ⟨t, ran, events, ?_, ?_, ?_, came.keepsAttrs sets, came.keepsUnits ((sameUnits_eventsSet ..).trans (sameUnits_eventsTaken ..))⟩
  · rwa [events]
  · rw [came.attr, attr_congr (eventsTaken_attrs ..), attr_eventsSet_filter, takenDev_read _ _ _ EVENTQ_FILTER]
  · rw [came.attr, attr_congr (eventsTaken_attrs ..), attr_eventsSet_irqEn, takenDev_read _ _ _ EVENTQ_IRQ_EN]

end Rows

/-! ### The signal repeated (R359) -/

theorem signal_notice {m : Nat} {d : Dev} (hm : 2 ≤ m) (hp : d.phase = .ready) : (master (signal m d) m).notice = some (ibiByte (master d m)) := by
  have ready : ¬d.phase ≠ .ready := fun h => h hp
  unfold signal
  dsimp only
  rw [if_neg ready, if_neg (by omega), master_setMaster]

theorem signal_ibi {m : Nat} {d : Dev} (hm : m < 2) (hp : d.phase = .ready) (he : (master d m).enint = true) (ha : (master d m).dynAddr.isSome = true) :
    (master (signal m d) m).ibi = some (ibiByte (master d m)) := by
  have ready : ¬d.phase ≠ .ready := fun h => h hp
  unfold signal
  dsimp only
  rw [if_neg ready, if_pos hm, if_pos ⟨he, ha⟩, master_setMaster]

theorem eventSignalRepeat_signals {m : Fin 4} {s : State} (hd : due s.dev tkSignal m = true) (he : (master s.dev m).events ≠ []) :
    ∃ t, exec (.eventSignalRepeat m) s = .next t ∧ armed t.dev tkSignal m = true
      ∧ (2 ≤ m.val → s.dev.phase = .ready → (master t.dev m).notice = some (ibiByte (master s.dev m)))
      ∧ (m.val < 2 → s.dev.phase = .ready → (master s.dev m).enint = true → (master s.dev m).dynAddr.isSome = true →
          (master t.dev m).ibi = some (ibiByte (master s.dev m)))
      ∧ Claims.KeepsAttrs [] s t ∧ Claims.KeepsUnits s t := by
  have ran : exec (.eventSignalRepeat m) s = onDev (onExpiry tkSignal m fun d =>
      if (master d m).events.isEmpty then d else arm tkSignal m (10 * nsPerMs) (signal m d)) s := rfl
  have waits : (master (disarm tkSignal m s.dev) m).events.isEmpty = false := by
    rw [master_disarm, List.isEmpty_eq_false_iff]
    exact he
  rw [ran, exec_onExpiry hd, waits, if_neg Bool.false_ne_true]
  refine ⟨_, rfl, armed_arm .., fun hm hp => ?_, fun hm hp hen ha => ?_, ?_, ?_⟩
  · rw [master_arm]
    exact signal_notice (d := disarm tkSignal m s.dev) hm hp
  · rw [master_arm]
    exact signal_ibi (d := disarm tkSignal m s.dev) hm hp hen ha
  · exact keepsAttrs_dev (KeepsOthers.timed (KeepsOthers.refl.untimed.framed (eventFrame_signal ..)))
  · exact SameUnits.keepsUnits (((sameUnits_disarm ..).trans (eventFrame_signal ..).1).trans (sameUnits_arm ..))

/-! ### Fences (R360 to R364) -/

/-- A completion leaves free the tags that were free. -/
theorem complete_leaves_free {k : JobRef} {d : Dev} (h : findJob d k = none) (j : JobRef) (cls inst type status : Nat) (result : List Byte) :
    findJob (complete j cls inst type status result d) k = none := by
  cases hj : findJob d j with
  | none => rwa [complete, completeBase, hj]
  | some job =>
    rw [findJob, complete_jobs hj, List.find?_eq_none]
    rw [findJob, List.find?_eq_none] at h
    exact fun x hx => h x (List.mem_filter.mp hx).1

theorem flushFences_leaves_free {k : JobRef} (m n : Nat) {d : Dev} (h : findJob d k = none) : findJob (flushFences m n d) k = none := by
  induction n generalizing d with
  | zero => exact h
  | succ n ih =>
    rw [flushFences]
    split
    · exact ih (complete_leaves_free h ..)
    · exact h

theorem keepsOthers_flushFences {changed : List (Nat × Nat)} (m n : Nat) (d : Dev) : KeepsOthers changed d (flushFences m n d) := by
  induction n generalizing d with
  | zero => exact KeepsOthers.refl
  | succ n ih =>
    rw [flushFences]
    split
    · exact KeepsOthers.trans KeepsOthers.refl.completed (ih _)
    · exact KeepsOthers.refl

theorem eventFrame_fenceMark (f : Job) (seq : Nat) (d : Dev) : EventFrame d (fenceMark f seq d) :=
  eventFrame_forAll _ (fun _ _ => eventFrame_enqueue ..) _ _

theorem findFence_some {d : Dev} {j : JobRef} {f : Job} (h : findFence d j = some f) : findJob d j = some f ∧ f.ref = j := by
  have found : findJob d j = some f := by
    unfold findFence at h
    split at h
    · rename_i g hg
      split at h
      · rwa [← h]
      · cases h
    · cases h
  exact ⟨found, by simpa using List.find?_some found⟩

/-- R362, R363: a fence whose conditions are met is no longer outstanding. -/
theorem finishFence_frees {d : Dev} {f : Job} (h : findJob d f.ref = some f) : findJob (finishFence f d) f.ref = none := by
  have freed := complete_frees h clsEventq f.ref.master evFenceDone stOk []
  unfold finishFence
  dsimp only
  split
  · exact flushFences_leaves_free _ _ (((eventFrame_fenceMark ..).findJob _).trans freed)
  · exact flushFences_leaves_free _ _ freed

theorem keepsOthers_finishFence {changed : List (Nat × Nat)} (f : Job) (d : Dev) : KeepsOthers changed d (finishFence f d) := by
  have done : KeepsOthers changed d (completeBase f.ref clsEventq f.ref.master evFenceDone stOk [] d) := KeepsOthers.refl.completed
  exact KeepsOthers.trans (KeepsOthers.branch (done.framed (eventFrame_fenceMark ..)) done) (keepsOthers_flushFences _ _ _)

theorem fenceConditionsMet_ends {m : Fin 4} {tag : Byte} {f : Job} {s : State} (hf : findFence s.dev ⟨m, tag.toNat⟩ = some f)
    (hr : fenceReady s.dev f = true) :
    ∃ t, exec (.fenceConditionsMet m tag) s = .next t ∧ findJob t.dev f.ref = none ∧ Claims.KeepsAttrs [] s t ∧ t.mem = s.mem := by
  obtain ⟨found, ref⟩ := findFence_some hf
  have ran : exec (.fenceConditionsMet m tag) s = .next { s with dev := finishFence f s.dev } := by
    show execFenceConditionsMet m tag s = _
    unfold execFenceConditionsMet onDev
    dsimp only
    rw [hf]
    dsimp only
    rw [if_pos hr]
  exact ⟨_, ran, finishFence_frees (ref.symm ▸ found), keepsAttrs_dev (keepsOthers_finishFence _ _), rfl⟩

theorem exec_fenceTimeout {m : Fin 4} {tag : Byte} {s : State} (hd : due s.dev tkFence (256 * m.val + tag.toNat) = true) :
    exec (.fenceTimeout m tag) s
      = .next { s with dev := expireFence ⟨m, tag.toNat⟩ (disarm tkFence (256 * m.val + tag.toNat) s.dev) } := exec_onExpiry hd

theorem fenceTimeout_ends {m : Fin 4} {tag : Byte} {f : Job} {s : State} (hd : due s.dev tkFence (256 * m.val + tag.toNat) = true)
    (hf : findFence s.dev ⟨m, tag.toNat⟩ = some f) (hx : ∀ x ∈ s.dev.jobs, x.opcode = 0x28 → x.ref.master = m.val → f.order ≤ x.order) :
    ∃ t, exec (.fenceTimeout m tag) s = .next t ∧ findJob t.dev f.ref = none ∧ Claims.KeepsAttrs [] s t ∧ t.mem = s.mem := by
  obtain ⟨found, ref⟩ := findFence_some hf
  have first : s.dev.jobs.any (fun x => x.opcode == 0x28 && x.ref.master == m.val && decide (x.order < f.order)) = false := by
    rw [List.any_eq_false]
    intro x hmem hearlier
    simp only [Bool.and_eq_true, beq_iff_eq, decide_eq_true_iff] at hearlier
    obtain ⟨⟨opcode, issuer⟩, earlier⟩ := hearlier
    exact absurd (hx x hmem opcode issuer) (Nat.not_le.2 earlier)
  have expired : expireFence ⟨m, tag.toNat⟩ (disarm tkFence (256 * m.val + tag.toNat) s.dev)
      = completeFence ⟨m, tag.toNat⟩ stTimeout (disarm tkFence (256 * m.val + tag.toNat) s.dev) := by
    have fence : findFence (disarm tkFence (256 * m.val + tag.toNat) s.dev) ⟨m, tag.toNat⟩ = some f := hf
    unfold expireFence
    rw [fence]
    dsimp only
    rw [disarm_jobs, first, if_neg Bool.false_ne_true]
  have freed := complete_frees (d := disarm tkFence (256 * m.val + tag.toNat) s.dev) found clsEventq m.val evFenceDone stTimeout []
  rw [exec_fenceTimeout hd, expired, ref]
  exact ⟨_, rfl, flushFences_leaves_free _ _ freed,
    keepsAttrs_dev (KeepsOthers.trans KeepsOthers.refl.untimed.completed (keepsOthers_flushFences _ _ _)), rfl⟩

theorem fenceTimeout_waits {m : Fin 4} {tag : Byte} {f : Job} {s : State} (hd : due s.dev tkFence (256 * m.val + tag.toNat) = true)
    (hf : findFence s.dev ⟨m, tag.toNat⟩ = some f) (hx : ∃ x ∈ s.dev.jobs, x.opcode = 0x28 ∧ x.ref.master = m.val ∧ x.order < f.order) :
    ∃ t, exec (.fenceTimeout m tag) s = .next t ∧ Claims.KeepsAttrs [] s t ∧ t.mem = s.mem
      ∧ t.dev.jobs = s.dev.jobs.map fun x => if x.ref == ⟨m, tag.toNat⟩ then { x with timedOut := true } else x := by
  have earlier : s.dev.jobs.any (fun x => x.opcode == 0x28 && x.ref.master == m.val && decide (x.order < f.order)) = true := by
    obtain ⟨x, hmem, opcode, issuer, before⟩ := hx
    exact List.any_eq_true.2 ⟨x, hmem, by simp [opcode, issuer, before]⟩
  have fence : findFence (disarm tkFence (256 * m.val + tag.toNat) s.dev) ⟨m, tag.toNat⟩ = some f := hf
  rw [exec_fenceTimeout hd]
  unfold expireFence
  rw [fence]
  dsimp only
  rw [disarm_jobs, earlier, if_pos rfl]
  exact ⟨_, rfl, keepsAttrs_dev (keepsOthers_of_attrs rfl), rfl, rfl⟩

/-- R360: the block with a fence among its outstanding commands, and its limit running where it has one. -/
def fenced (c : Call) (d : Dev) : Dev :=
  let d1 := { d with jobs := d.jobs ++ [⟨callRef c, c.op, c.params, c.order, false, byteAt c.params 0 == 1, false⟩] }
  if leAt c.params 2 2 = 0 then d1 else arm tkFence (256 * c.master + c.tag) (leAt c.params 2 2 * nsPerMs) d1

theorem fenced_jobs (c : Call) (d : Dev) :
    (fenced c d).jobs = d.jobs ++ [⟨callRef c, c.op, c.params, c.order, false, byteAt c.params 0 == 1, false⟩] := by
  unfold fenced
  split
  · rfl
  · rw [arm_jobs]

theorem fenced_attrs (c : Call) (d : Dev) : (fenced c d).attrs = d.attrs := by
  unfold fenced
  split
  · rfl
  · rw [arm_attrs]

theorem armed_fenced (c : Call) (d : Dev) : armed (fenced c d) tkFence (256 * c.master + c.tag) = true
    ↔ leAt c.params 2 2 ≠ 0 ∨ armed d tkFence (256 * c.master + c.tag) = true := by
  unfold fenced
  split
  · rename_i h
    simp only [h, ne_eq, not_true_eq_false, false_or]
    exact Iff.rfl
  · rename_i h
    simp [h]

/-- R342: of the limits, a request that is taken touches that of the lease alone. -/
theorem armed_takenDev {k i : Nat} (hk : k ≠ tkLease) (hi : i < 2 ^ 24) (op : Nat) (r : Req) (s : State) :
    armed (takenDev op r s) k i = armed s.dev k i := by
  have lease : ∀ e : Dev, armed (restartLease e) k i = armed e k i := fun e => armed_arm_ne _ e hk hi (by decide)
  have advanced : ∀ (m seq : Nat) (raw : List Byte), armed (advance m seq raw s.dev) k i = armed s.dev k i := by
    intro m seq raw
    unfold advance
    dsimp only
    split
    · exact (lease _).trans (armed_congr rfl ..)
    · exact armed_congr rfl ..
  exact (armed_congr rfl ..).trans (advanced _ _ _)

theorem bodyFence_ok {c : Call} (hz : byteAt c.params 1 = 0) (hs : byteAt c.params 0 ≤ 1) (hw : leAt c.params 2 2 ≤ 60000) (mem : List Host.Cell)
    (d : Dev) : bodyFence mem c d = .accept [] (fenced c d) := by
  have ok : (reservedZero c.params 1 1 && decide (byteAt c.params 0 ≤ 1) && decide (leAt c.params 2 2 ≤ 60000)) = true := by
    rw [reservedZero_one hz, decide_eq_true hs, decide_eq_true hw]
    rfl
  exact need_of ok ..

theorem fence_waits {r : Req} {s : State} (ht : Claims.Takes 0x28 r s) (hl : r.params.length = 4) (hs : byteAt r.params 0 ≤ 1)
    (hz : byteAt r.params 1 = 0) (hw : leAt r.params 2 2 ≤ 60000) :
    ∃ t, exec (.fence r) s = .next t ∧ Claims.Replied 0x28 stAccepted r [] s t
      ∧ t.dev.jobs = s.dev.jobs ++ [⟨⟨r.master, r.tag.toNat⟩, 0x28, r.params, s.dev.nextOrder, false, byteAt r.params 0 == 1, false⟩]
      ∧ (armed t.dev tkFence (256 * r.master + r.tag.toNat) = true ↔ leAt r.params 2 2 ≠ 0 ∨ armed s.dev tkFence (256 * r.master + r.tag.toNat) = true)
      ∧ Claims.KeepsAttrs [] s t ∧ t.mem = s.mem := by
  have body : bodyFence s.mem (takenCall 0x28 r s) (takenDev 0x28 r s) = .accept [] (fenced (takenCall 0x28 r s) (takenDev 0x28 r s)) :=
    bodyFence_ok hz hs hw ..
  obtain ⟨t, ran, replied, came⟩ := issueOut_starts (f := bodyFence) ht ⟨by rw [hl]; decide, by rw [hl]; decide⟩ body
  have tag := r.tag.isLt
  have master := r.master.isLt
  refine ⟨t, ran, replied, ?_, ?_, came.keepsAttrs (keepsOthers_of_attrs (fenced_attrs ..)), came.mem⟩
  · rw [came.field Dev.jobs, fenced_jobs, takenDev_jobs]
    rfl
  · rw [came.armed, ← armed_takenDev (op := 0x28) (r := r) (s := s) (by decide) (by omega)]
    exact armed_fenced ..

/-- Settles O18. A master's queue keeps its records over every reply (`answer_events`), and a fence that ends, alone or with the fences that waited for it,
leaves no attribute but the counts of events changed (`keepsOthers_finishFence`, `keepsOthers_flushFences`). -/
theorem eventsAndFences : Obligations.events_and_fences := fun _ =>
  ⟨fun _ => eventsRead_reads, fun _ => eventSignalRepeat_signals, fun _ => fence_waits, fun _ _ _ => fenceConditionsMet_ends,
    fun _ _ _ => fenceTimeout_ends, fun _ _ _ => fenceTimeout_waits⟩

end Sys2Proof.Machine

namespace Sys2Proof.Machine

-- In order, so that no thread waits for the lemmas before it.
set_option Elab.async false

/-! ### Reports of faults (R385, R386, R393) -/

/-- Only what reports of faults change differs: attributes, masters, limits, the free values used, and the waiting records, hourly sums and latest
causes of the fault masking. -/
def Reported (d e : Dev) : Prop :=
  ∃ as xs ts n queue sums raised, e =
    { d with attrs := as, masters := xs, timers := ts, freeCount := n, faults := { d.faults with queue := queue, sums := sums, raised := raised } }

namespace Reported
variable {d e f : Dev}

theorem refl (d : Dev) : Reported d d := ⟨_, _, _, _, _, _, _, rfl⟩

theorem trans (h : Reported d e) (g : Reported e f) : Reported d f := by
  obtain ⟨_, _, _, _, _, _, _, rfl⟩ := h
  obtain ⟨_, _, _, _, _, _, _, rfl⟩ := g
  exact ⟨_, _, _, _, _, _, _, rfl⟩

theorem of_event (h : EventFrame d e) : Reported d e := by
  obtain ⟨⟨_, _, _, rfl⟩, -⟩ := h
  exact ⟨_, _, _, _, _, _, _, rfl⟩

theorem wrote (h : Reported d e) {a : Attr} {i v : Nat} : Reported d (setAttr a i v e) := h.trans ⟨_, _, _, _, _, _, _, rfl⟩

theorem counted (h : Reported d e) {a : Attr} {i n : Nat} : Reported d (bump a i n e) := h.wrote

theorem raised (h : Reported d e) {cls inst type detail : Nat} : Reported d (raise cls inst type detail e) := h.trans (of_event (eventFrame_raise ..))

theorem logged (h : Reported d e) {cls inst element fclass kind status cause count : Nat} :
    Reported d (queueLog cls inst element fclass kind status cause count e) := h.trans ⟨_, _, _, _, _, _, _, rfl⟩

theorem summed (h : Reported d e) {cls inst fclass n : Nat} : Reported d (countTransients cls inst fclass n e) := by
  obtain ⟨sums, counts⟩ := countTransients_eq cls inst fclass n e
  exact counts ▸ h.trans ⟨_, _, _, _, _, _, _, rfl⟩

theorem unmasks (h : Reported d e) {cls inst element fclass cause : Nat} : Reported d (unmasked cls inst element fclass cause e) := by
  unfold unmasked
  split
  · exact h.summed
  · exact Reported.raised (Reported.logged (Reported.wrote (Reported.counted (h.trans ⟨_, _, _, _, _, _, _, rfl⟩))))

theorem fails (h : Reported d e) {cls inst element fclass : Nat} : Reported d (permanentFault cls inst element fclass e) := h.counted.logged.raised

theorem branch {p : Prop} [Decidable p] (h : Reported d e) (g : Reported d f) : Reported d (if p then e else f) := by
  split
  · exact h
  · exact g

/-- What speaks of none of these is as before. -/
theorem field {β : Sort*} (h : Reported d e) (g : Dev → β)
    (hg : ∀ as xs ts n queue sums raised c, g
      { c with attrs := as, masters := xs, timers := ts, freeCount := n, faults := { c.faults with queue := queue, sums := sums, raised := raised } }
        = g c := by exact fun _ _ _ _ _ _ _ _ => rfl) : g e = g d := by
  obtain ⟨_, _, _, _, _, _, _, rfl⟩ := h
  exact hg ..

end Reported

section Attributes
variable {changed : List (Nat × Nat)} {d e : Dev}

theorem KeepsOthers.logged (h : KeepsOthers changed d e) {cls inst element fclass kind status cause count : Nat} :
    KeepsOthers changed d (queueLog cls inst element fclass kind status cause count e) := h.same rfl

theorem KeepsOthers.summed (h : KeepsOthers changed d e) {cls inst fclass n : Nat} : KeepsOthers changed d (countTransients cls inst fclass n e) := by
  obtain ⟨sums, counts⟩ := countTransients_eq cls inst fclass n e
  exact counts ▸ h.same rfl

theorem KeepsOthers.unmasks (h : KeepsOthers changed d e) {cls inst element fclass cause : Nat} (hl : (DEVICE_UNMASKED_LAST.code, 0) ∈ changed := by simp)
    (hc : (DEVICE_UNMASKED_COUNT.code, 0) ∈ changed := by simp) : KeepsOthers changed d (unmasked cls inst element fclass cause e) := by
  unfold unmasked
  split
  · exact h.summed
  · have noted := h.same (f := modFaults (fun x => { x with raised := (x.raised.filter fun r => !(r.cause == cause && r.cls == cls && r.inst == inst))
      ++ [⟨cause, cls, inst, e.elapsed⟩] }) e) rfl
    exact ((noted.counted (by decide) hc).wrote (by decide) hl).logged.raised

theorem KeepsOthers.fails (h : KeepsOthers changed d e) {cls inst element fclass : Nat} (hf : (DEVICE_FAILED_ELEMENTS.code, 0) ∈ changed := by simp) :
    KeepsOthers changed d (permanentFault cls inst element fclass e) := (h.counted (by decide) hf).logged.raised

end Attributes

/-! ### The Vertex (R382, R383) -/

theorem haltVertex_vertex (d : Dev) : (haltVertex d).vertex = .halted := ((Reported.refl _).unmasks.field Dev.vertex)

theorem haltVertex_waiting (d : Dev) : (haltVertex d).waiting = d.waiting := ((Reported.refl _).unmasks.field Dev.waiting)

section Disagree
variable {s : State}

/-- R382: the instants of the disagreements of the last 10 ms, before this one. -/
def recentRollbacks (d : Dev) : List Nat := d.faults.rollbacks.filter fun t => decide (d.elapsed < t + 10000000)

/-- R382: the block in which the disagreement is noted. -/
def disagreed (d : Dev) : Dev :=
  modFaults (fun x => { x with rollbacks := recentRollbacks d ++ [d.elapsed], disagreeAt := d.elapsed, disagreeTime := d.devTime }) d

theorem vertexDisagree_running (hp : s.dev.phase ≠ .held) (hv : s.dev.vertex = .running) :
    exec .vertexDisagree s = .next { s with dev :=
      if 3 ≤ (recentRollbacks s.dev).length + 1 then if spareCore s.dev = 3 then haltVertex (disagreed s.dev) else { disagreed s.dev with vertex := .trial }
      else { disagreed s.dev with vertex := .reloading } } := by
  have acts : ¬(s.dev.phase = .held ∨ s.dev.vertex = .halted ∨ s.dev.vertex = .trial) := by simp [hp, hv]
  have runs : ¬s.dev.vertex = .reloading := by simp [hv]
  show onDev vertexDisagree s = _
  unfold onDev vertexDisagree
  rw [if_neg acts]
  simp only [runs, false_or, List.length_append, List.length_singleton]
  rfl

theorem vertexDisagree_disagrees (hp : s.dev.phase ≠ .held) (hv : s.dev.vertex = .running) :
    ((recentRollbacks s.dev).length < 2 → ∃ t, exec .vertexDisagree s = .next t ∧ t.dev.vertex = .reloading ∧ t.dev.faults.disagreeAt = s.dev.elapsed
        ∧ Claims.KeepsAttrs [] s t ∧ t.mem = s.mem)
    ∧ (2 ≤ (recentRollbacks s.dev).length → spareCore s.dev ≠ 3 →
        ∃ t, exec .vertexDisagree s = .next t ∧ t.dev.vertex = .trial ∧ Claims.KeepsAttrs [] s t ∧ t.mem = s.mem)
    ∧ (2 ≤ (recentRollbacks s.dev).length → spareCore s.dev = 3 →
        ∃ t, exec .vertexDisagree s = .next t ∧ t.dev.vertex = .halted ∧ t.mem = s.mem) := by
  rw [vertexDisagree_running hp hv]
  refine ⟨fun few => ?_, fun many spare => ?_, fun many none => ?_⟩
  · rw [if_neg (by omega)]
    exact ⟨_, rfl, rfl, rfl, keepsAttrs_dev (keepsOthers_of_attrs rfl), rfl⟩
  · rw [if_pos (by omega), if_neg spare]
    exact ⟨_, rfl, rfl, keepsAttrs_dev (keepsOthers_of_attrs rfl), rfl⟩
  · rw [if_pos (by omega), if_pos none]
    exact ⟨_, rfl, haltVertex_vertex _, rfl⟩

end Disagree

section Rollback
variable (d : Dev)

/-- R382: the block once a rollback is counted, before its event. -/
def rollbackCounted : Dev :=
  setAttr DEVICE_ROLLBACK_MAX 0 (max (attr d DEVICE_ROLLBACK_MAX 0) (min 0xFFFF ((d.elapsed - d.faults.disagreeAt) / nsPerUs)))
    (countTransient clsDevice 0 6 (bump DEVICE_ROLLBACKS 0 1 d))

theorem rollbackDone_eq : ∃ detail, rollbackDone d =
    { raise clsDevice 0 evRollback detail { rollbackCounted d with devTime := d.faults.disagreeTime } with devTime := (rollbackCounted d).devTime } := by
  unfold rollbackDone rollbackCounted
  exact ⟨_, rfl⟩

theorem KeepsOthers.clocked {changed : List (Nat × Nat)} {d e : Dev} (h : KeepsOthers changed d e) {t : Nat} :
    KeepsOthers changed d { e with devTime := t } := h.same rfl

/-- R382: of the attributes, a rollback counts itself and keeps the longest. -/
theorem keepsOthers_rollbackDone : KeepsOthers [(DEVICE_ROLLBACK_MAX.code, 0)] (bump DEVICE_ROLLBACKS 0 1 d) (rollbackDone d) := by
  obtain ⟨detail, done⟩ := rollbackDone_eq d
  have counted : KeepsOthers [(DEVICE_ROLLBACK_MAX.code, 0)] (bump DEVICE_ROLLBACKS 0 1 d) (rollbackCounted d) :=
    KeepsOthers.wrote KeepsOthers.refl.summed
  rw [done]
  exact counted.clocked.raised.clocked

theorem reported_rollbackDone : Reported d (rollbackDone d) := by
  obtain ⟨detail, done⟩ := rollbackDone_eq d
  have counted : Reported d (rollbackCounted d) := Reported.wrote (Reported.summed (Reported.counted (Reported.refl d)))
  obtain ⟨⟨_, _, _, told⟩, -⟩ := eventFrame_raise clsDevice 0 evRollback detail { rollbackCounted d with devTime := d.faults.disagreeTime }
  obtain ⟨_, _, _, _, _, _, _, same⟩ := counted
  rw [done, told, same]
  exact ⟨_, _, _, _, _, _, _, rfl⟩

theorem attr_rollbackDone_rollbacks :
    attr (rollbackDone d) DEVICE_ROLLBACKS 0 = (attr d DEVICE_ROLLBACKS 0 + 1) % 2 ^ DEVICE_ROLLBACKS.width :=
  ((keepsOthers_rollbackDone d).read DEVICE_ROLLBACKS 0).trans (attr_bump ..)

theorem cores_rollbackDone : attr (rollbackDone d) DEVICE_VERTEX_CORES 0 = attr d DEVICE_VERTEX_CORES 0 :=
  ((keepsOthers_rollbackDone d).read DEVICE_VERTEX_CORES 0).trans (attr_bump_ne _ _ _ _ (by decide) (by decide) (by decide))

end Rollback

section Cores
variable (kept out : Nat) (d : Dev)

theorem attr_failCore (hk : kept < 4) : attr (failCore kept out d) DEVICE_VERTEX_CORES 0 = kept + 4 * spareCore d + 48 := by
  have spare : spareCore d < 4 := Nat.mod_lt _ (by decide)
  have width : DEVICE_VERTEX_CORES.width = 8 := rfl
  have reported : KeepsOthers [(DEVICE_FAILED_ELEMENTS.code, 0)]
      (setCores kept (spareCore d) 3 (modFaults (fun x => { x with failedCores := x.failedCores ++ [out] }) d)) (failCore kept out d) :=
    KeepsOthers.refl.fails
  rw [reported.read DEVICE_VERTEX_CORES 0, setCores, attr_setAttr, width, Nat.mod_eq_of_lt (by omega)]

/-- R383: the core kept and the old spare are the new pair, no spare is left, and the core left out is FAILED. -/
theorem failCore_cores (hk : kept < 4) : activeCores (failCore kept out d) = (kept, spareCore d) ∧ spareCore (failCore kept out d) = 3
    ∧ out ∈ (failCore kept out d).faults.failedCores := by
  have spare : spareCore d < 4 := Nat.mod_lt _ (by decide)
  have failed := ((Reported.refl (setCores kept (spareCore d) 3 (modFaults (fun x => { x with failedCores := x.failedCores ++ [out] }) d))).fails
    (cls := clsDevice) (inst := 0) (element := out) (fclass := 6)).field fun e => e.faults.failedCores
  refine ⟨?_, ?_, ?_⟩
  · rw [activeCores, attr_failCore _ _ _ hk]
    refine Prod.ext ?_ ?_
    · dsimp only; omega
    · dsimp only; omega
  · rw [spareCore, attr_failCore _ _ _ hk]
    omega
  · refine failed ▸ ?_
    exact List.mem_append_right _ (List.mem_singleton_self out)

theorem failCore_vertex : (failCore kept out d).vertex = d.vertex := (Reported.refl _).fails.field Dev.vertex

theorem failCore_waiting : (failCore kept out d).waiting = d.waiting := (Reported.refl _).fails.field Dev.waiting

end Cores

section Trials
variable {s : State}

theorem exec_idle {d : Dev} (h : d.waiting = []) : pumpAll { s with dev := d } = { s with dev := d } := pumpAll_idle h

theorem vertexReloadDone_runs (hv : s.dev.vertex = .reloading) (hw : s.dev.waiting = []) :
    ∃ t, exec .vertexReloadDone s = .next t ∧ t.dev.vertex = .running ∧ t.mem = s.mem
      ∧ attr t.dev DEVICE_ROLLBACKS 0 = (attr s.dev DEVICE_ROLLBACKS 0 + 1) % 2 ^ DEVICE_ROLLBACKS.width := by
  have reloaded : reloadDone s.dev = rollbackDone { s.dev with vertex := .running } := if_pos hv
  have ran : exec .vertexReloadDone s = .next (pumpAll { s with dev := reloadDone s.dev }) := rfl
  have same := reported_rollbackDone { s.dev with vertex := .running }
  rw [ran, reloaded, exec_idle ((same.field Dev.waiting).trans hw)]
  exact ⟨_, rfl, same.field Dev.vertex, rfl, attr_rollbackDone_rollbacks _⟩

theorem coreTrialEnd_ends (hv : s.dev.vertex = .trial) (hw : s.dev.waiting = []) :
    (∃ t, exec (.coreTrialEnd true true) s = .next t ∧ t.dev.vertex = .running ∧ activeCores t.dev = activeCores s.dev ∧ t.mem = s.mem)
    ∧ (∃ t, exec (.coreTrialEnd true false) s = .next t ∧ t.dev.vertex = .running ∧ activeCores t.dev = ((activeCores s.dev).1, spareCore s.dev)
        ∧ spareCore t.dev = 3 ∧ (activeCores s.dev).2 ∈ t.dev.faults.failedCores ∧ t.mem = s.mem)
    ∧ (∃ t, exec (.coreTrialEnd false true) s = .next t ∧ t.dev.vertex = .running ∧ activeCores t.dev = ((activeCores s.dev).2, spareCore s.dev)
        ∧ spareCore t.dev = 3 ∧ (activeCores s.dev).1 ∈ t.dev.faults.failedCores ∧ t.mem = s.mem)
    ∧ ∃ t, exec (.coreTrialEnd false false) s = .next t ∧ t.dev.vertex = .halted ∧ t.mem = s.mem := by
  have ran : ∀ first second, exec (.coreTrialEnd first second) s = .next (pumpAll { s with dev := trialEnd first second s.dev }) := fun _ _ => rfl
  have trial : ¬s.dev.vertex ≠ .trial := fun h => h hv
  have same := reported_rollbackDone { s.dev with vertex := .running }
  have cores := cores_rollbackDone { s.dev with vertex := .running }
  have spare : spareCore (rollbackDone { s.dev with vertex := .running }) = spareCore s.dev := congrArg (· / 16 % 4) cores
  have idle := (same.field Dev.waiting).trans hw
  have first : (activeCores s.dev).1 < 4 := Nat.mod_lt _ (by decide)
  have second : (activeCores s.dev).2 < 4 := Nat.mod_lt _ (by decide)
  have vertex := same.field Dev.vertex
  refine ⟨?_, ?_, ?_, ?_⟩
  · have ended : trialEnd true true s.dev = rollbackDone { s.dev with vertex := .running } := if_neg trial
    rw [ran, ended, exec_idle idle]
    exact ⟨_, rfl, vertex, congrArg (fun v => (v % 4, v / 4 % 4)) cores, rfl⟩
  · have ended : trialEnd true false s.dev
        = failCore (activeCores s.dev).1 (activeCores s.dev).2 (rollbackDone { s.dev with vertex := .running }) := if_neg trial
    obtain ⟨pair, none, failed⟩ := failCore_cores _ (activeCores s.dev).2 (rollbackDone { s.dev with vertex := .running }) first
    rw [ran, ended, exec_idle ((failCore_waiting ..).trans idle)]
    exact ⟨_, rfl, (failCore_vertex ..).trans vertex, spare ▸ pair, none, failed, rfl⟩
  · have ended : trialEnd false true s.dev
        = failCore (activeCores s.dev).2 (activeCores s.dev).1 (rollbackDone { s.dev with vertex := .running }) := if_neg trial
    obtain ⟨pair, none, failed⟩ := failCore_cores _ (activeCores s.dev).1 (rollbackDone { s.dev with vertex := .running }) second
    rw [ran, ended, exec_idle ((failCore_waiting ..).trans idle)]
    exact ⟨_, rfl, (failCore_vertex ..).trans vertex, spare ▸ pair, none, failed, rfl⟩
  · have ended : trialEnd false false s.dev = haltVertex s.dev := if_neg trial
    rw [ran, ended, exec_idle ((haltVertex_waiting _).trans hw)]
    exact ⟨_, rfl, haltVertex_vertex _, rfl⟩

end Trials

/-! ### Brownout (R391, R392) -/

section Supplies
variable {s : State}

theorem supplyLow_begins (rail : Fin 6) (hb : s.dev.brownout = none) (hp : s.dev.phase ≠ .held) :
    ∃ t, exec (.supplyLow rail) s = .next t ∧ t.dev.brownout = some (rail.val, s.dev.elapsed) ∧ rail.val ∈ t.dev.faults.rails
      ∧ Claims.KeepsAttrs [] s t ∧ t.mem = s.mem := by
  have begins : ¬(s.dev.brownout.isSome = true ∨ s.dev.phase = .held) := by simp [hb, hp]
  have low : supplyLow rail s.dev = { modFaults (fun x => if x.rails.contains rail.val then x else { x with rails := x.rails ++ [rail.val] }) s.dev with
      brownout := some (rail.val, s.dev.elapsed) } := if_neg begins
  have ran : exec (.supplyLow rail) s = .next { s with dev := supplyLow rail s.dev } := rfl
  have listed : ∀ x : Faults, rail.val ∈ (if x.rails.contains rail.val then x else { x with rails := x.rails ++ [rail.val] }).rails := by
    intro x
    split
    · rename_i h
      exact List.contains_iff_mem.1 h
    · exact List.mem_append_right _ (List.mem_singleton_self _)
  rw [ran, low]
  exact ⟨_, rfl, rfl, listed _, keepsAttrs_dev (keepsOthers_of_attrs rfl), rfl⟩

/-- R392: the block once a brownout is counted, before its report. -/
def brownoutCounted (rail start : Nat) (d : Dev) : Dev :=
  setAttr DEVICE_BROWNOUT_LAST 0 (rail * 2 ^ 28 + min (2 ^ 28 - 1) ((d.elapsed - start) / nsPerUs))
    (bump DEVICE_BROWNOUTS 0 1 (modFaults (fun x => { x with brownoutEnd := d.elapsed + 1 }) { d with brownout := none }))

theorem brownoutCounted_fields (rail start : Nat) (d : Dev) : (brownoutCounted rail start d).brownout = none
    ∧ (brownoutCounted rail start d).waiting = d.waiting ∧ (brownoutCounted rail start d).faults.rails = d.faults.rails := by
  unfold brownoutCounted bump
  rw [setAttr_brownout, setAttr_brownout, setAttr_waiting, setAttr_waiting, setAttr_faults, setAttr_faults]
  exact ⟨rfl, rfl, rfl⟩

/-- R392: the report of a brownout, with the flag of the start before READY. -/
def brownoutTold (rail start : Nat) (short : Nat) (d : Dev) : Dev :=
  let e := raise clsDevice 0 evBrownout short (queueLog clsDevice 0 0xFF 9 logBrownout 0 short 1 (brownoutCounted rail start d))
  if d.phase = .ready then e else setAttr DEVICE_START_FLAGS 0 (withBit (attr e DEVICE_START_FLAGS 0) 8 true) e

section Over
variable (rail start : Nat) (d : Dev)

theorem brownoutOver_eq : ∃ short, ∃ late : Bool, brownoutOver rail start d =
    if late then unmasked clsDevice 0 0xFF 9 unmBrownoutLong (brownoutTold rail start short d) else brownoutTold rail start short d := by
  refine ⟨rail * 4096 + min 0xFFF ((d.elapsed - start) / nsPerUs), decide (50000 ≤ d.elapsed - start ∨ (d.faults.brownoutEnd ≠ 0 ∧ start + 1 < d.faults.brownoutEnd + 10 * nsPerMs)), ?_⟩
  simp only [decide_eq_true_iff]
  unfold brownoutOver brownoutTold brownoutCounted
  rfl

theorem reported_brownoutOver : Reported (brownoutCounted rail start d) (brownoutOver rail start d) := by
  obtain ⟨short, late, ended⟩ := brownoutOver_eq rail start d
  have told : Reported (brownoutCounted rail start d) (brownoutTold rail start short d) :=
    (Reported.refl _).logged.raised.branch (Reported.refl _).logged.raised.wrote
  rw [ended]
  exact told.unmasks.branch told

theorem keepsOthers_brownoutOver : KeepsOthers [(DEVICE_START_FLAGS.code, 0), (DEVICE_UNMASKED_LAST.code, 0), (DEVICE_UNMASKED_COUNT.code, 0)]
    (brownoutCounted rail start d) (brownoutOver rail start d) := by
  obtain ⟨short, late, ended⟩ := brownoutOver_eq rail start d
  have told : KeepsOthers [(DEVICE_START_FLAGS.code, 0), (DEVICE_UNMASKED_LAST.code, 0), (DEVICE_UNMASKED_COUNT.code, 0)]
      (brownoutCounted rail start d) (brownoutTold rail start short d) := KeepsOthers.refl.logged.raised.branch KeepsOthers.refl.logged.raised.wrote
  rw [ended]
  exact told.unmasks.branch told

end Over

theorem supplyRestored_ends (rail : Fin 6) {r0 t0 : Nat} (hb : s.dev.brownout = some (r0, t0)) (hr : s.dev.faults.rails = [rail.val])
    (hw : s.dev.waiting = []) :
    ∃ t, exec (.supplyRestored rail) s = .next t ∧ t.dev.brownout = none ∧ t.dev.faults.rails = [] ∧ t.mem = s.mem
      ∧ attr t.dev DEVICE_BROWNOUTS 0 = (attr s.dev DEVICE_BROWNOUTS 0 + 1) % 2 ^ DEVICE_BROWNOUTS.width := by
  let d := modFaults (fun x => { x with rails := x.rails.filter (· != rail.val) }) s.dev
  have rails : d.faults.rails = [] := by
    show s.dev.faults.rails.filter _ = []
    simp [hr]
  have ended : supplyRestored rail.val s.dev = brownoutOver r0 t0 d := by
    unfold supplyRestored
    rw [hb]
    exact if_pos rails
  have ran : exec (.supplyRestored rail) s = .next (pumpAll { s with dev := supplyRestored rail.val s.dev }) := rfl
  have reported := reported_brownoutOver r0 t0 d
  have counted : attr (brownoutCounted r0 t0 d) DEVICE_BROWNOUTS 0 = (attr s.dev DEVICE_BROWNOUTS 0 + 1) % 2 ^ DEVICE_BROWNOUTS.width := by
    rw [brownoutCounted, attr_setAttr_ne _ _ _ _ (by decide) (by decide) (by decide), attr_bump]
    rfl
  obtain ⟨none, waiting, low⟩ := brownoutCounted_fields r0 t0 d
  rw [ran, ended, exec_idle ((reported.field Dev.waiting).trans (waiting.trans hw))]
  exact ⟨_, rfl, (reported.field Dev.brownout).trans none, (reported.field fun e => e.faults.rails).trans (low.trans rails), rfl,
    ((keepsOthers_brownoutOver r0 t0 d).read DEVICE_BROWNOUTS 0).trans counted⟩

end Supplies

/-- Settles O46. What a rollback, a halt and the end of a brownout report is said once (`Reported`, `keepsOthers_rollbackDone`,
`keepsOthers_brownoutOver`); the rows are the branches of R382, R383 and R392. -/
theorem vertexAndSupplies : Obligations.vertex_and_supplies := fun _ =>
  ⟨vertexDisagree_disagrees, vertexReloadDone_runs, coreTrialEnd_ends, supplyLow_begins, fun rail _ _ => supplyRestored_ends rail⟩

end Sys2Proof.Machine

namespace Sys2Proof.Machine

-- In order, so that no thread waits for the lemmas before it.
set_option Elab.async false

/-! ### Bytes of the addressed memory (R483) -/

theorem length_fitBytes (bs : List Byte) (n : Nat) : (fitBytes bs n).length = n := by simp [fitBytes]

/-- What was written reads back. -/
theorem memRead_write (m : List Host.Cell) (a : Nat) {bs : List Byte} {n : Nat} (h : bs.length = n) : memRead (memWrite m a bs) a n = bs := by
  refine List.ext_getElem (by simp [memRead, h]) fun k hk hb => ?_
  simp only [memRead, List.getElem_map, List.getElem_range]
  rw [memGet_write_at bs m a k hb, List.getD_eq_getElem _ _ hb]

/-- A write of bytes elsewhere does not show in a byte. -/
theorem memGet_write_out {m : List Host.Cell} {a n i : Nat} {bs : List Byte} (hl : bs.length = n) (h : i < a ∨ a + n ≤ i) :
    memGet (memWrite m a bs) i = memGet m i := memGet_write_ne bs m a i (by rwa [hl])

/-! ### The log writer (R393 to R395) -/

theorem length_sealRecord {body : List Byte} (h : body.length = 56) (n : Nat) (pinned : Bool) : (sealRecord n pinned body).length = 64 := by
  simp [sealRecord, h, length_toLE]

theorem length_recordBody (d : Dev) (seq : Nat) (r : LogRec) : (recordBody d seq r).length = 56 := by
  simp only [recordBody, List.length_append, length_toLE, length_fitBytes, List.length_cons, List.length_nil]

theorem length_sealRecord_read (m : List Host.Cell) (a n : Nat) (pinned : Bool) : (sealRecord n pinned (memRead m a 64)).length = 64 := by
  simp [sealRecord, memRead, length_toLE]

/-- R395: the record that a pinned one takes the pin from. -/
def unpins (r : LogRec) (places : List LogPlace) : Option LogPlace := if pins r.kind then losesPin places else none

/-- R395: the memory once the FLAGS and CHECK of the record that lost its pin are written, where its place is not the new record's own. -/
def unpinned (place : Nat) (free : Option LogPlace) (m : List Host.Cell) : List Host.Cell :=
  match free with
  | some p => if p.place = place then m else memWrite m (logAddr p.place) (sealRecord p.place false (memRead m (logAddr p.place) 64))
  | none => m

theorem memGet_unpinned {place a : Nat} {free : Option LogPlace} (m : List Host.Cell)
    (h : ∀ p, free = some p → a < logAddr p.place ∨ logAddr p.place + 64 ≤ a) : memGet (unpinned place free m) a = memGet m a := by
  unfold unpinned
  split
  · rename_i p
    split
    · rfl
    · exact memGet_write_out (length_sealRecord_read ..) (h p rfl)
  · rfl

/-- R393 to R395: what the writing of a record leaves in the block and in the memory. -/
theorem writeRecord_writes {s : State} {r : LogRec} {rest : List LogRec} (hq : s.dev.faults.queue = r :: rest) (hb : s.dev.brownout = none)
    (he : s.dev.faults.erase = none) :
    (writeRecord s).dev.faults.queue = rest ∧ (writeRecord s).dev.faults.nextSeq = s.dev.faults.nextSeq + 1
    ∧ attr (writeRecord s).dev DEVICE_LOG_NEWEST 0 = s.dev.faults.nextSeq % 2 ^ 32
    ∧ (writeRecord s).mem = memWrite (unpinned (nextPlace s.dev.faults.places) (unpins r s.dev.faults.places) s.mem)
        (logAddr (nextPlace s.dev.faults.places))
        (sealRecord (nextPlace s.dev.faults.places) (pins r.kind) (recordBody s.dev s.dev.faults.nextSeq r)) := by
  have writes : ¬(s.dev.brownout.isSome = true ∨ s.dev.faults.erase.isSome = true) := by simp [hb, he]
  have width : DEVICE_LOG_NEWEST.width = 32 := rfl
  have attrs : ∀ (seq held wraps : Nat) (e : Dev), attr (logAttrs seq held wraps e) DEVICE_LOG_NEWEST 0 = seq % 2 ^ 32 := by
    intro seq held wraps e
    rw [logAttrs, attr_setAttr_ne _ _ _ _ (by decide) (by decide) (by decide), attr_setAttr_ne _ _ _ _ (by decide) (by decide) (by decide),
      attr_setAttr, width]
  have faults : ∀ (seq held wraps : Nat) (e : Dev), (logAttrs seq held wraps e).faults = e.faults := fun seq held wraps e => by
    rw [logAttrs, setAttr_faults, setAttr_faults, setAttr_faults]
  unfold writeRecord
  dsimp only
  rw [hq]
  dsimp only
  rw [if_neg writes]
  dsimp only
  refine ⟨?_, ?_, attrs .., ?_⟩
  · rw [faults]
    split <;> rfl
  · rw [faults]
    split <;> rfl
  · rfl

theorem logRecordWrite_writes {s : State} {r : LogRec} {rest : List LogRec} (hq : s.dev.faults.queue = r :: rest) (hb : s.dev.brownout = none)
    (he : s.dev.faults.erase = none) :
    ∃ t, exec .logRecordWrite s = .next t ∧ t.dev.faults.queue = rest ∧ t.dev.faults.nextSeq = s.dev.faults.nextSeq + 1
      ∧ attr t.dev DEVICE_LOG_NEWEST 0 = s.dev.faults.nextSeq % 2 ^ 32
      ∧ memRead t.mem (logAddr (nextPlace s.dev.faults.places)) 64
          = sealRecord (nextPlace s.dev.faults.places) (pins r.kind) (recordBody s.dev s.dev.faults.nextSeq r)
      ∧ ∀ a, a < logAddr (nextPlace s.dev.faults.places) ∨ logAddr (nextPlace s.dev.faults.places) + 64 ≤ a →
          (∀ p, losesPin s.dev.faults.places = some p → a < logAddr p.place ∨ logAddr p.place + 64 ≤ a) → memGet t.mem a = memGet s.mem a := by
  obtain ⟨queue, seq, newest, mem⟩ := writeRecord_writes hq hb he
  have length := length_sealRecord (length_recordBody s.dev s.dev.faults.nextSeq r) (nextPlace s.dev.faults.places) (pins r.kind)
  refine ⟨writeRecord s, rfl, queue, seq, newest, ?_, fun a ha hp => ?_⟩
  · rw [mem, memRead_write _ _ length]
  · rw [mem, memGet_write_out length ha]
    refine memGet_unpinned _ fun p h => hp p ?_
    unfold unpins at h
    split at h
    · exact h
    · cases h

theorem logRecordWrite_idle {s : State} (h : s.dev.faults.queue = []) : exec .logRecordWrite s = .next s := by
  have ran : exec .logRecordWrite s = .next (writeRecord s) := rfl
  rw [ran, writeRecord]
  dsimp only
  rw [h]

theorem log_waits {s : State} (h : s.dev.brownout.isSome = true) : exec .faultLogEraseEnd s = .next s ∧ exec .logRecordWrite s = .next s := by
  have erases : exec .faultLogEraseEnd s = .next (if s.dev.brownout.isSome then s else eraseEnd s) := rfl
  have writes : exec .logRecordWrite s = .next (writeRecord s) := rfl
  refine ⟨by rw [erases, if_pos h], ?_⟩
  rw [writes, writeRecord]
  dsimp only
  split
  · rfl
  · rw [if_pos (.inl h)]

/-! ### The erase and the hour (R393, R396) -/

theorem faultLogEraseEnd_erases {s : State} {j : JobRef} (hj : s.dev.faults.erase = some j) (hb : s.dev.brownout = none) :
    ∃ t, exec .faultLogEraseEnd s = .next t ∧ t.dev.faults.places = [] ∧ t.dev.faults.erase = none ∧ attr t.dev DEVICE_LOG_HELD 0 = 0
      ∧ (∀ a, 0x600000 ≤ a → a < 0x800000 → memGet t.mem a = 0#8) ∧ ∀ a, a < 0x600000 ∨ 0x800000 ≤ a → memGet t.mem a = memGet s.mem a := by
  have on : ¬s.dev.brownout.isSome = true := by simp [hb]
  have ran : exec .faultLogEraseEnd s = .next (if s.dev.brownout.isSome then s else eraseEnd s) := rfl
  rw [ran, if_neg on, eraseEnd, hj]
  refine ⟨_, rfl, ?_, ?_, ?_, fun a h1 h2 => memGet_erase_in _ _ _ _ h1 h2, fun a h => memGet_erase_out _ _ _ _ h⟩
  · dsimp only
    rw [complete_faults, setAttr_faults]
    rfl
  · dsimp only
    rw [complete_faults, setAttr_faults]
    rfl
  · exact (attr_complete _ _ _ _ _ _ _ _ _ (by unfold noEventAttr; decide)).trans (attr_setAttr ..)

/-- R393: the records of an hour wait behind those that waited, one for each sum, and no limit and no attribute changes. -/
theorem foldl_queueLog (sums : List FaultSum) (d : Dev) :
    (sums.foldl (fun e s => queueLog s.cls s.inst 0xFF s.fclass logSummary 0 0 s.count e) d).faults.queue.length = d.faults.queue.length + sums.length
    ∧ (sums.foldl (fun e s => queueLog s.cls s.inst 0xFF s.fclass logSummary 0 0 s.count e) d).faults.sums = d.faults.sums
    ∧ (sums.foldl (fun e s => queueLog s.cls s.inst 0xFF s.fclass logSummary 0 0 s.count e) d).timers = d.timers
    ∧ (sums.foldl (fun e s => queueLog s.cls s.inst 0xFF s.fclass logSummary 0 0 s.count e) d).attrs = d.attrs := by
  induction sums generalizing d with
  | nil => exact ⟨rfl, rfl, rfl, rfl⟩
  | cons x sums ih =>
    obtain ⟨queue, kept, timers, attrs⟩ := ih (queueLog x.cls x.inst 0xFF x.fclass logSummary 0 0 x.count d)
    refine ⟨?_, kept, timers, attrs⟩
    rw [List.foldl_cons, queue]
    simp [queueLog, usedFree]
    omega

theorem summaryHour_logs (d : Dev) : (summaryHour d).faults.queue.length = d.faults.queue.length + d.faults.sums.length
    ∧ (summaryHour d).faults.sums = [] ∧ (summaryHour d).timers = d.timers ∧ (summaryHour d).attrs = d.attrs :=
  foldl_queueLog d.faults.sums (modFaults (fun x => { x with sums := [] }) d)

theorem summaryHour_sums {s : State} (h : armed s.dev tkSummary 0 = false ∨ due s.dev tkSummary 0 = true) :
    ∃ t, exec .summaryHour s = .next t ∧ t.dev.faults.sums = [] ∧ t.dev.faults.queue.length = s.dev.faults.queue.length + s.dev.faults.sums.length
      ∧ armed t.dev tkSummary 0 = true ∧ Claims.KeepsAttrs [] s t ∧ t.mem = s.mem := by
  have ended : ¬(armed s.dev tkSummary 0 = true ∧ due s.dev tkSummary 0 = false) := by
    rintro ⟨running, early⟩
    obtain h | h := h
    · exact Bool.noConfusion (h.symm.trans running)
    · exact Bool.noConfusion (early.symm.trans h)
  have ran : exec .summaryHour s = .next { s with dev := summaryHour (arm tkSummary 0 (3600 * nsPerS) s.dev) } := by
    show execSummaryHour s = _
    unfold execSummaryHour onDev
    dsimp only
    rw [if_neg ended]
  obtain ⟨queue, sums, timers, attrs⟩ := summaryHour_logs (arm tkSummary 0 (3600 * nsPerS) s.dev)
  rw [arm_faults] at queue
  refine ⟨_, ran, sums, queue, ?_, keepsAttrs_dev (keepsOthers_of_attrs (attrs.trans (arm_attrs ..))), rfl⟩
  exact (armed_congr timers ..).trans (armed_arm ..)

/-! ### FAULT_LOG (R396) -/

section FaultLog
variable {r : Req} {s : State}

theorem logInfo_takenDev : logInfo (takenDev 0xB0 r s) = logInfo s.dev := by
  rw [logInfo, takenDev_faults, takenDev_read _ _ _ DEVICE_LOG_WRAPS, takenDev_read _ _ _ DEVICE_BOOTS, logInfo]

theorem readLog_takenDev (count start : Nat) : readLog s.mem (takenDev 0xB0 r s) count start = readLog s.mem s.dev count start := by
  have record : readRecord s.mem (takenDev 0xB0 r s) = readRecord s.mem s.dev := funext fun p => by simp only [readRecord, takenDev_faults]
  simp only [readLog, takenDev_faults, record]

/-- R396: the fields of FAULT_LOG in range. -/
def faultLogOk (ps : List Byte) : Bool :=
  decide (byteAt ps 0 ≤ 2) && reservedZero ps 2 2
    && (if byteAt ps 0 = 1 then decide (1 ≤ byteAt ps 1) && decide (byteAt ps 1 ≤ 15) else byteAt ps 1 == 0 && leAt ps 4 4 == 0)

theorem bodyFaultLog_ok {c : Call} (h : faultLogOk c.params = true) (mem : List Host.Cell) (d : Dev) : bodyFaultLog mem c d =
    if byteAt c.params 0 = 0 then okResult (logInfo d) d
    else if byteAt c.params 0 = 1 then okResult (readLog mem d (byteAt c.params 1) (leAt c.params 4 4)) d
    else need (lcOpen d) stLifecycle <| need d.faults.erase.isNone stBusy <|
      .accept [] (modFaults (fun x => { x with erase := some (callRef c) }) (addJob c d)) := need_of h ..

theorem faultLog_answers (ht : Claims.Takes 0xB0 r s) (hl : r.params.length = 8) (hz : leAt r.params 2 2 = 0) :
    (byteAt r.params 0 = 0 → byteAt r.params 1 = 0 → leAt r.params 4 4 = 0 →
      ∃ t, exec (.faultLog r) s = .next t ∧ Claims.Replied 0xB0 stOk r (logInfo s.dev) s t ∧ Claims.KeepsAttrs [] s t ∧ Claims.KeepsUnits s t)
    ∧ (byteAt r.params 0 = 1 → 1 ≤ byteAt r.params 1 → byteAt r.params 1 ≤ 15 →
      ∃ t, exec (.faultLog r) s = .next t ∧ Claims.Replied 0xB0 stOk r (readLog s.mem s.dev (byteAt r.params 1) (leAt r.params 4 4)) s t
        ∧ Claims.KeepsAttrs [] s t ∧ Claims.KeepsUnits s t)
    ∧ (byteAt r.params 0 = 2 → byteAt r.params 1 = 0 → leAt r.params 4 4 = 0 → lcOpen s.dev = true → s.dev.faults.erase = none →
      ∃ t, exec (.faultLog r) s = .next t ∧ Claims.Replied 0xB0 stAccepted r [] s t ∧ t.dev.faults.erase = some ⟨r.master, r.tag.toNat⟩
        ∧ t.mem = s.mem) := by
  have length : (paramRange 0xB0).1 ≤ r.params.length ∧ r.params.length ≤ (paramRange 0xB0).2 := ⟨by rw [hl]; decide, by rw [hl]; decide⟩
  have body : faultLogOk r.params = true → _ := fun ok => bodyFaultLog_ok (c := takenCall 0xB0 r s) ok s.mem (takenDev 0xB0 r s)
  have action : byteAt (takenCall 0xB0 r s).params 0 = byteAt r.params 0 := rfl
  refine ⟨fun h0 h1 h4 => ?_, fun h0 h1 h15 => ?_, fun h0 h1 h4 hopen he => ?_⟩
  · have ok : faultLogOk r.params = true := by simp [faultLogOk, h0, h1, h4, reservedZero_of hz]
    have done := body ok
    rw [action, if_pos h0, logInfo_takenDev] at done
    obtain ⟨t, ran, attrs, units, replied⟩ := issueOut_okResult ht length done
    exact ⟨t, ran, replied, attrs, units⟩
  · have ok : faultLogOk r.params = true := by simp [faultLogOk, h0, h1, h15, reservedZero_of hz]
    have done := body ok
    rw [action, if_neg (by omega), if_pos h0, readLog_takenDev] at done
    obtain ⟨t, ran, attrs, units, replied⟩ := issueOut_okResult ht length done
    exact ⟨t, ran, replied, attrs, units⟩
  · have ok : faultLogOk r.params = true := by simp [faultLogOk, h0, h1, h4, reservedZero_of hz]
    have idle : (takenDev 0xB0 r s).faults.erase.isNone = true := by rw [takenDev_faults, he]; rfl
    have started := body ok
    rw [action, if_neg (by omega), if_neg (by omega), lcOpen_takenDev, need_of hopen, need_of idle] at started
    obtain ⟨t, ran, replied, came⟩ := issueOut_starts ht length started
    exact ⟨t, ran, replied, came.field fun e => e.faults.erase, came.mem⟩

end FaultLog

/-- Settles O47. The bytes written are the sealed record's and, where a pinned record takes the pin of another, those of that one's place, which is read
back and sealed anew: that the record freed is rewritten so is assumption 62 of the log. That the writer and the erase wait in a brownout is assumption 73,
and that an erased byte reads 0 is the model's own choice (`memErase` with `memDefault`). -/
theorem faultLog : Obligations.fault_log := fun _ =>
  ⟨fun _ _ => logRecordWrite_writes, logRecordWrite_idle, log_waits, fun _ => faultLogEraseEnd_erases, summaryHour_sums, fun _ => faultLog_answers⟩

end Sys2Proof.Machine

namespace Sys2Proof.Machine

-- In order, so that no thread waits for the lemmas before it.
set_option Elab.async false

/-! ### A training leaves the fault masking alone (R242) -/

section Faults
variable (d : Dev)

theorem finishCalRun_faults (r : CalRun) (status cause : Nat) : (finishCalRun r status cause d).faults = d.faults := by
  unfold finishCalRun endMeasure
  dsimp only
  rw [complete_faults]
  split
  · split
    · rfl
    · rfl
  · rfl

theorem calOnPair_faults (pair : Nat) : (calOnPair pair d).faults = d.faults :=
  foldl_keeps Dev.faults (fun e r => finishCalRun_faults e r stAborted 2) _ d

theorem endPattern_faults (l status cause : Nat) : (endPattern l status cause d).faults = d.faults := by
  unfold endPattern
  split
  · rfl
  · dsimp only
    rw [complete_faults]
    split
    · rfl
    · split
      · rfl
      · rfl

theorem hubGroupWidth_faults (g : Nat) : (hubGroupWidth g d).faults = d.faults := by
  refine forAll_keeps Dev.faults (fun f e => ?_) _ d
  unfold returnTimer
  split
  · split
    · exact disarm_faults ..
    · split
      · rfl
      · exact arm_faults ..
  · rfl

theorem refreshCharges_faults (ports : List Nat) : (refreshCharges ports d).faults = d.faults :=
  refreshCharges_preserves (P := fun e => e.faults = d.faults) (fun _ _ _ _ h => h) (fun _ _ _ _ _ h => (raise_faults ..).trans h) ports rfl

theorem clearPhase_faults (pair : Nat) (t : LaneTraining) : (clearPhase pair t d).faults = d.faults := by
  unfold clearPhase
  exact forAll_keeps Dev.faults (fun _ e => forAll_keeps Dev.faults (fun _ _ => modLane_faults ..) _ e) _ d

theorem beginLanePhase_faults {t : LaneTraining} (h : t.phase = 1) (pair : Nat) : (beginLanePhase pair t d).faults = d.faults := by
  rw [beginLanePhase, if_neg (by simp [h]), if_neg (by simp [h])]
  exact (arm_faults ..).trans (clearPhase_faults ..)

theorem startTraining_faults (pair : Nat) (why : TrainWhy) (quick : Bool) (lanes : List Nat) : (startTraining pair why quick lanes d).faults = d.faults := by
  unfold startTraining
  dsimp only
  rw [beginLanePhase_faults _ rfl, disarm_faults, calOnPair_faults, refreshCharges_faults]
  refine forAll_keeps Dev.faults (fun g e => ?_) _ d
  have entered : ∀ x : Dev, (forAll lanes (fun k x => if laneState x g k = 6 ∧ (trainLane why).isNone then x
      else setLaneState g k 1 (endPattern (laneOf g k) stAborted 2 x)) x).faults = x.faults := fun x => by
    refine forAll_keeps Dev.faults (fun k y => ?_) _ x
    split
    · rfl
    · exact endPattern_faults ..
  split
  · rw [modLink_faults, disarm_faults, hubGroupWidth_faults, setAttr_faults]
    exact (apply_ite Dev.faults ..).trans ((ite_self _).trans (entered e))
  · exact (apply_ite Dev.faults ..).trans ((ite_self _).trans (entered e))

theorem nextBackground_faults (pair : Nat) : (nextBackground pair d).faults = d.faults := by
  unfold nextBackground
  dsimp only
  split
  · rfl
  · split
    · exact startTraining_faults ..
    · split
      · exact startTraining_faults ..
      · rfl

end Faults

/-! ### REPAIR (R397) -/

section Repairs
variable {r : Req} {s : State}

theorem elementFailed_takenDev (op cls inst e : Nat) : elementFailed (takenDev op r s) cls inst e = elementFailed s.dev cls inst e := by
  have engine : engineState (takenDev op r s) inst e = engineState s.dev inst e := by rw [engineState, takenDev_faults, engineState]
  have slice : sliceState (takenDev op r s) inst e = sliceState s.dev inst e := by rw [sliceState, takenDev_faults, sliceState]
  have lane : laneState (takenDev op r s) inst e = laneState s.dev inst e := takenDev_read _ _ _ LANE_STATE _
  rw [elementFailed, takenDev_faults, engine, slice, lane, elementFailed]

theorem repairOn_takenDev (op cls inst : Nat) : repairOn (takenDev op r s) cls inst = repairOn s.dev cls inst := by
  rw [repairOn, takenDev_faults, repairOn]

/-- R397: the block with a repair added. -/
def repairing (c : Call) (d : Dev) : Dev :=
  modFaults (fun x => { x with repairs := x.repairs ++ [⟨callRef c, byteAt c.params 0, leAt c.params 2 2, byteAt c.params 1⟩] }) (addJob c d)

theorem bodyRepair_ok {c : Call} {mem : List Host.Cell} {d : Dev} (hf : repairFieldsOk c.params = true)
    (he : (elementFailed d (byteAt c.params 0) (leAt c.params 2 2) (byteAt c.params 1)
      && (byteAt c.params 0 != 7 || (attr d GROUP_STATE (leAt c.params 2 2) != 5 && attr d GROUP_STATE (leAt c.params 2 2) != 6))) = true)
    (hn : (repairOn d (byteAt c.params 0) (leAt c.params 2 2)).isNone = true) : bodyRepair mem c d =
      .accept [] (if byteAt c.params 0 = 7 then nextBackground (pairOf (leAt c.params 2 2)) (repairing c d) else repairing c d) :=
  (need_of hf ..).trans ((need_of he ..).trans (need_of hn ..))

theorem repair_begins (ht : Claims.Takes 0xB1 r s) (hl : r.params.length = 4) (hf : repairFieldsOk r.params = true) (h7 : byteAt r.params 0 ≠ 7)
    (he : elementFailed s.dev (byteAt r.params 0) (leAt r.params 2 2) (byteAt r.params 1) = true)
    (hn : repairOn s.dev (byteAt r.params 0) (leAt r.params 2 2) = none) :
    ∃ t, exec (.repair r) s = .next t ∧ Claims.Replied 0xB1 stAccepted r [] s t
      ∧ t.dev.faults.repairs = s.dev.faults.repairs ++ [⟨⟨r.master, r.tag.toNat⟩, byteAt r.params 0, leAt r.params 2 2, byteAt r.params 1⟩]
      ∧ t.mem = s.mem := by
  have started := bodyRepair_ok (c := takenCall 0xB1 r s) (mem := s.mem) (d := takenDev 0xB1 r s) hf
    (by rw [elementFailed_takenDev]; simp [takenCall, he, h7]) (by rw [repairOn_takenDev]; simp [takenCall, hn])
  rw [if_neg (show byteAt (takenCall 0xB1 r s).params 0 ≠ 7 from h7)] at started
  obtain ⟨t, ran, replied, came⟩ := issueOut_starts (f := bodyRepair) ht ⟨by rw [hl]; decide, by rw [hl]; decide⟩ started
  refine ⟨t, ran, replied, ?_, came.mem⟩
  rw [← takenDev_faults 0xB1 r s]
  exact came.field fun e => e.faults.repairs

theorem repair_begins_lane (ht : Claims.Takes 0xB1 r s) (hl : r.params.length = 4) (hf : repairFieldsOk r.params = true) (h7 : byteAt r.params 0 = 7)
    (he : laneState s.dev (leAt r.params 2 2) (byteAt r.params 1) = 6) (h5 : attr s.dev GROUP_STATE (leAt r.params 2 2) ≠ 5)
    (h6 : attr s.dev GROUP_STATE (leAt r.params 2 2) ≠ 6) (hn : repairOn s.dev 7 (leAt r.params 2 2) = none) :
    ∃ t, exec (.repair r) s = .next t ∧ Claims.Replied 0xB1 stAccepted r [] s t ∧ (repairOn t.dev 7 (leAt r.params 2 2)).isSome = true
      ∧ t.mem = s.mem := by
  have failed : elementFailed s.dev 7 (leAt r.params 2 2) (byteAt r.params 1) = true := by simp [elementFailed, he]
  have started := bodyRepair_ok (c := takenCall 0xB1 r s) (mem := s.mem) (d := takenDev 0xB1 r s) hf
    (by rw [elementFailed_takenDev, groupState_takenDev]; simp [takenCall, failed, h5, h6, h7])
    (by rw [repairOn_takenDev]; simp [takenCall, h7, hn])
  rw [if_pos (show byteAt (takenCall 0xB1 r s).params 0 = 7 from h7)] at started
  obtain ⟨t, ran, replied, came⟩ := issueOut_starts (f := bodyRepair) ht ⟨by rw [hl]; decide, by rw [hl]; decide⟩ started
  have repairs : t.dev.faults.repairs
      = s.dev.faults.repairs ++ [⟨⟨r.master, r.tag.toNat⟩, byteAt r.params 0, leAt r.params 2 2, byteAt r.params 1⟩] := by
    rw [came.field Dev.faults, nextBackground_faults, ← takenDev_faults 0xB1 r s]
    rfl
  refine ⟨t, ran, replied, ?_, came.mem⟩
  rw [repairOn, repairs, List.find?_isSome]
  exact ⟨_, List.mem_append_right _ (List.mem_singleton_self _), by simp [h7]⟩

/-- R397: the faults once a repair has ended: it is off the list, its record waits, and no element differs. -/
theorem endRepair_faults (x : Repair) (status : Nat) (d : Dev) : x ∉ (endRepair x status d).faults.repairs
    ∧ (endRepair x status d).faults.failedCores = d.faults.failedCores ∧ (endRepair x status d).faults.engines = d.faults.engines
    ∧ (endRepair x status d).faults.slices = d.faults.slices := by
  unfold endRepair
  dsimp only
  rw [complete_faults]
  refine ⟨fun h => ?_, rfl, rfl, rfl⟩
  have kept : x ∈ d.faults.repairs.filter (· != x) := h
  simp at kept

theorem exec_repairTestEnd {cls inst : Nat} {x : Repair} (h7 : cls ≠ 7) (hx : repairOn s.dev cls inst = some x) (pass : Bool) :
    exec (.repairTestEnd cls inst pass) s
      = .next { s with dev := if pass then endRepair x stOk (repaired x s.dev) else endRepair x stDegraded s.dev } := by
  show onDev (repairTestEnd cls inst pass) s = _
  rw [onDev, repairTestEnd, hx]
  dsimp only
  rw [if_neg h7]

/-- R397: a core that passed is FAILED no longer. -/
theorem repaired_core {x : Repair} (h : x.cls = 1) (d : Dev) : x.element ∉ (repaired x d).faults.failedCores := by
  intro hm
  rw [repaired, if_pos h] at hm
  have kept : x.element ∈ d.faults.failedCores.filter (· != x.element) := hm
  simp at kept

theorem repairTestEnd_ends (cls inst : Nat) (x : Repair) (h7 : cls ≠ 7) (hx : repairOn s.dev cls inst = some x) :
    (∃ t, exec (.repairTestEnd cls inst false) s = .next t ∧ x ∉ t.dev.faults.repairs ∧ t.dev.faults.failedCores = s.dev.faults.failedCores
        ∧ t.dev.faults.engines = s.dev.faults.engines ∧ t.dev.faults.slices = s.dev.faults.slices ∧ t.mem = s.mem)
    ∧ ∃ t, exec (.repairTestEnd cls inst true) s = .next t ∧ x ∉ t.dev.faults.repairs ∧ (cls = 1 → x.element ∉ t.dev.faults.failedCores)
        ∧ t.mem = s.mem := by
  have named : x.cls = cls := by
    have found := List.find?_some hx
    simp only [Bool.and_eq_true, beq_iff_eq] at found
    exact found.1
  refine ⟨?_, ?_⟩
  · obtain ⟨gone, cores, engines, slices⟩ := endRepair_faults x stDegraded s.dev
    exact ⟨_, exec_repairTestEnd h7 hx false, gone, cores, engines, slices, rfl⟩
  · obtain ⟨gone, cores, -, -⟩ := endRepair_faults x stOk (repaired x s.dev)
    exact ⟨_, exec_repairTestEnd h7 hx true, gone, fun h1 => cores ▸ repaired_core (named.trans h1) s.dev, rfl⟩

end Repairs

/-- Settles O48. A repair stands in `Faults.repairs` until its end, which takes it off the list (`endRepair_faults`); the training that a lane's repair
begins leaves the list alone (`nextBackground_faults`). -/
theorem repairs : Obligations.repairs := fun _ =>
  ⟨fun _ => repair_begins, fun _ => repair_begins_lane, repairTestEnd_ends⟩

end Sys2Proof.Machine

namespace Sys2Proof.Machine

-- In order, so that no thread waits for the lemmas before it.
set_option Elab.async false

/-! ### Signed attributes (R7) -/

theorem signedOf_saturateS {w : Nat} {v : Int} (hw : w ≠ 0) (hl : -(2 ^ (w - 1)) ≤ v) (hh : v < 2 ^ (w - 1)) : signedOf w (saturateS w v) = v := by
  obtain ⟨n, rfl⟩ : ∃ n, w = n + 1 := Nat.exists_eq_succ_of_ne_zero hw
  rw [Nat.add_sub_cancel] at hl hh
  have double : (2 : Int) ^ (n + 1) = 2 * 2 ^ n := by ring
  have within : clampInt v (-(2 ^ n)) (2 ^ n - 1) = v := by
    unfold clampInt
    omega
  have least : 0 ≤ v % (2 ^ (n + 1) : Int) := Int.emod_nonneg _ (by positivity)
  have stored : ((saturateS (n + 1) v : Nat) : Int) = v % 2 ^ (n + 1) := by
    rw [saturateS, Nat.add_sub_cancel, within, unsignedOf, Int.toNat_of_nonneg least]
  have small : saturateS (n + 1) v % 2 ^ (n + 1) = saturateS (n + 1) v := Nat.mod_eq_of_lt (unsignedOf_lt _ _)
  have half : ((2 ^ n : Nat) : Int) = 2 ^ n := by push_cast; rfl
  rw [signedOf, small, stored, Int.emod_emod, Nat.add_sub_cancel, double]
  rw [double] at stored
  generalize (2 : Int) ^ n = h at *
  have sign : v % (2 * h) = v ∧ 0 ≤ v ∨ v % (2 * h) = v + 2 * h ∧ v < 0 := by
    by_cases neg : 0 ≤ v
    · exact .inl ⟨Int.emod_eq_of_lt neg (by omega), neg⟩
    · exact .inr ⟨by rw [← Int.add_emod_right, Int.emod_eq_of_lt (by omega) (by omega)], by omega⟩
  split
  · omega
  · omega

/-- A signed attribute reads as it was written, where the value is in its range. -/
theorem attrInt_setAttrInt {a : Attr} {v : Int} (hw : a.width ≠ 0) (hl : -(2 ^ (a.width - 1)) ≤ v) (hh : v < 2 ^ (a.width - 1)) (i : Nat) (d : Dev) :
    attrInt (setAttrInt a i v d) a i = v := by
  rw [attrInt, attr_setAttrInt, signedOf_saturateS hw hl hh]

/-! ### The quiet state of a port, left alone -/

/-- The quiet states of the ports stand as before. -/
structure QuietFrame (d e : Dev) : Prop where
  same : ∀ q, quiet e q = quiet d q

namespace QuietFrame
variable {d e f : Dev}

theorem refl (d : Dev) : QuietFrame d d := ⟨fun _ => rfl⟩

/-- Transitivity with the later step first, in the order in which the model writes its steps. -/
theorem after (k : QuietFrame e f) (h : QuietFrame d e) : QuietFrame d f := ⟨fun q => (k.same q).trans (h.same q)⟩

theorem of_ports (h : e.ports = d.ports) : QuietFrame d e := ⟨quiet_congr h⟩

theorem modPort {p : Nat} {g : Port → Port} (hg : ∀ x, (g x).quiet = x.quiet) : QuietFrame d (modPort p g d) where
  same q := by
    by_cases h : q = p
    · rw [h, quiet, port_modPort, hg]
      rfl
    · rw [quiet, port_modPort_ne _ _ h]
      rfl

theorem foldl {α : Type} {g : Dev → α → Dev} (h : ∀ e x, QuietFrame e (g e x)) (l : List α) (d : Dev) : QuietFrame d (l.foldl g d) := by
  induction l generalizing d with
  | nil => exact refl d
  | cons x l ih => exact after (ih _) (h d x)

theorem forAll {g : Nat → Dev → Dev} (h : ∀ k e, QuietFrame e (g k e)) (l : List Nat) (d : Dev) : QuietFrame d (forAll l g d) :=
  foldl (fun e k => h k e) l d

theorem ite {c : Prop} [Decidable c] {x y : Dev} (hx : QuietFrame d x) (hy : QuietFrame d y) : QuietFrame d (if c then x else y) := by
  split
  · exact hx
  · exact hy

theorem when {g : Dev → Dev} (h : ∀ e, QuietFrame e (g e)) (c : Bool) (d : Dev) : QuietFrame d (when c g d) := ite (h d) (refl d)

theorem setAttr (a : Attr) (i v : Nat) (d : Dev) : QuietFrame d (setAttr a i v d) := of_ports rfl
theorem bump (a : Attr) (i n : Nat) (d : Dev) : QuietFrame d (bump a i n d) := of_ports rfl
theorem setBlock (a : Attr) (i : Nat) (bs : List Byte) (d : Dev) : QuietFrame d (setBlock a i bs d) := of_ports rfl
theorem arm (k i n : Nat) (d : Dev) : QuietFrame d (arm k i n d) := of_ports rfl
theorem disarm (k i : Nat) (d : Dev) : QuietFrame d (disarm k i d) := of_ports rfl
theorem setNextSlot (p k v : Nat) (d : Dev) : QuietFrame d (setNextSlot p k v d) := of_ports rfl
theorem modPrism (m : Nat) (g : Prism → Prism) (d : Dev) : QuietFrame d (modPrism m g d) := of_ports rfl
theorem setTx (p h : Nat) (d : Dev) : QuietFrame d (setTx p h d) := of_ports rfl
theorem setCapture (p h : Nat) (d : Dev) : QuietFrame d (setCapture p h d) := of_ports rfl
theorem modRx (p : Nat) (g : PortRx → PortRx) (d : Dev) : QuietFrame d (modRx p g d) := modPort fun _ => rfl
theorem modTx (p : Nat) (g : PortTx → PortTx) (d : Dev) : QuietFrame d (modTx p g d) := modPort fun _ => rfl
theorem modSvc (p : Nat) (g : Svc → Svc) (d : Dev) : QuietFrame d (modSvc p g d) := modPort fun _ => rfl
theorem modTrain (p : Nat) (g : Training → Training) (d : Dev) : QuietFrame d (modTrain p g d) := modPort fun _ => rfl
theorem modRecast (p : Nat) (g : Recast → Recast) (d : Dev) : QuietFrame d (modRecast p g d) := modPort fun _ => rfl

theorem raise (cls inst type detail : Nat) (d : Dev) : QuietFrame d (raise cls inst type detail d) := of_ports (raise_ports ..)
theorem complete (j : JobRef) (cls inst type status : Nat) (result : List Byte) (d : Dev) : QuietFrame d (complete j cls inst type status result d) :=
  of_ports (complete_ports ..)

end QuietFrame

theorem finishMulti_ports (x : MultiPort) (d : Dev) : (finishMulti x d).ports = d.ports := by
  unfold finishMulti
  split
  · rfl
  · dsimp only
    split
    · exact complete_ports ..
    · split
      · exact complete_ports ..
      · exact complete_ports ..

/-- A command on several ports that ends leaves the ports. -/
theorem portEnded_ports (op p : Nat) (ok : Bool) (cause : Nat) (d : Dev) : (portEnded op p ok cause d).ports = d.ports := by
  have ended : ∀ (xs : List MultiPort) (e : Dev), (xs.foldl (fun e x => finishMulti x e) e).ports = e.ports := by
    intro xs
    induction xs with
    | nil => exact fun _ => rfl
    | cons x xs ih => exact fun e => (ih _).trans (finishMulti_ports x e)
  exact ended _ _

/-! ### Entry into QUIET or DORMANT (R419, R421) -/

section Entry
variable {p : Nat} {d : Dev}

theorem entry_setQuietStep (st : QuietStep) : (quiet (setQuietStep p st d) p).entry = (quiet d p).entry.map fun e => { e with step := st } := by
  rw [setQuietStep, quiet_modQuiet]

/-- R421: the block with an entry agreed, before its step and the wait of R127. -/
def entryAgreed (p : Nat) (d : Dev) : Dev :=
  setAttr PORT_QUIET_STATE p 2 (modRecast p (fun x => { x with noNewData := true }) (modQuiet p (fun x => { x with agreedAt := d.elapsed }) d))

theorem quietAgreed_eq (p : Nat) (d : Dev) :
    quietAgreed p d = arm tkDrainWait p (deadlineInUse d p) (setQuietStep p .draining (entryAgreed p d)) := by
  unfold quietAgreed entryAgreed
  rfl

/-- R421: an entry agreed on drains. -/
structure Draining (p : Nat) (d e : Dev) : Prop where
  entry : (quiet e p).entry = (quiet d p).entry.map fun x => { x with step := .draining }
  state : attr e PORT_QUIET_STATE p = 2
  closed : (recast e p).noNewData = true
  waits : armed e tkDrainWait p = true
  timed : ∀ k i, armed d k i = true → armed e k i = true
  keeps : KeepsOthers [(PORT_QUIET_STATE.code, p)] d e

theorem recast_setQuietStep (st : QuietStep) : recast (setQuietStep p st d) p = recast d p := by
  rw [recast, setQuietStep, modQuiet, port_modPort]
  rfl

theorem quiet_modRecast (g : Recast → Recast) : quiet (modRecast p g d) p = quiet d p := (QuietFrame.modRecast p g d).same p

theorem quietAgreed_drains : Draining p d (quietAgreed p d) where
  entry := by
    rw [quietAgreed_eq, quiet_congr (arm_ports ..), entry_setQuietStep, entryAgreed, quiet_congr (setAttr_ports ..), quiet_modRecast, quiet_modQuiet]
  state := by
    rw [quietAgreed_eq, attr_arm, setQuietStep, attr_modQuiet, entryAgreed, attr_setAttr]
    rfl
  closed := by
    have same : recast (quietAgreed p d) p = recast (entryAgreed p d) p := by
      rw [quietAgreed_eq, recast, port_congr (arm_ports ..)]
      exact recast_setQuietStep ..
    rw [same, entryAgreed, recast, port_congr (setAttr_ports ..)]
    exact congrArg Recast.noNewData (recast_modRecast ..)
  waits := by rw [quietAgreed_eq, armed_arm]
  timed k i h := by
    have waits : ∀ n e, armed e k i = true → armed (arm tkDrainWait p n e) k i = true := fun n e => (SvcFrame.arm tkDrainWait p n e).armed k i
    rw [quietAgreed_eq]
    refine waits _ _ ?_
    rw [setQuietStep, entryAgreed, armed_congr (modQuiet_timers ..), armed_congr (setAttr_timers ..), armed_congr (modRecast_timers ..),
      armed_congr (modQuiet_timers ..), h]
  keeps := by
    have stepped : KeepsOthers [(PORT_QUIET_STATE.code, p)] d (setQuietStep p .draining (entryAgreed p d)) := by
      refine KeepsOthers.same (e := entryAgreed p d) ?_ rfl
      exact KeepsOthers.wrote (KeepsOthers.refl.same rfl)
    rw [quietAgreed_eq]
    exact stepped.timed

/-- R421: an entry that fails leaves nothing of itself. -/
theorem failQuiet_ends (cause : Nat) (h : (quiet d p).entry.isSome = true) : (quiet (failQuiet p cause d) p).entry = none
    ∧ attr (failQuiet p cause d) PORT_QUIET_STATE p = 0 ∧ (recast (failQuiet p cause d) p).noNewData = false := by
  have fails : (port d p).quiet.entry.isSome = true := h
  have kept : ∀ e, port (portEnded 0x32 p false cause e) p = port e p := fun e => port_congr (portEnded_ports ..) p
  rw [failQuiet, if_pos fails]
  refine ⟨?_, ?_, ?_⟩
  · rw [quiet, kept, port_congr (disarm_ports ..), port_congr (disarm_ports ..), port_congr (setAttr_ports ..)]
    exact congrArg QuietState.entry ((quiet_modRecast ..).trans (quiet_modQuiet ..))
  · rw [(LinkFrame.portEnded ..).attrs _ steady_quietState, attr_disarm, attr_disarm, attr_setAttr]
    rfl
  · rw [recast, kept, port_congr (disarm_ports ..), port_congr (disarm_ports ..), port_congr (setAttr_ports ..)]
    exact congrArg Recast.noNewData (recast_modRecast ..)

end Entry

section EntryRows
variable {p : Nat} {d : Dev}

theorem keepsOthers_sendTraining (bytes : List Byte) : KeepsOthers [(SVC_BURSTS_TX.code, p)] d (sendTraining p bytes d) :=
  (KeepsOthers.refl.same rfl).trans (BurstFrame.svcKick ..).attrs

theorem SvcFrame.recast {e : Dev} (h : SvcFrame d e) (q : Nat) : recast e q = recast d q := (congrArg Port.recast (h.ports q) :)

/-- R419: the block with the entry that the partner asks for, before it is agreed. -/
def askedEntry (p : Nat) (dormant : Bool) (d : Dev) : Dev :=
  modQuiet p (fun x => { x with entry := some ⟨dormant, .draining, false⟩ }) (arm tkQuietEntry p (20 * nsPerMs) d)

theorem askedEntry_entry (dormant : Bool) : (quiet (askedEntry p dormant d) p).entry = some ⟨dormant, .draining, false⟩ := by
  rw [askedEntry, quiet_modQuiet]

theorem askedEntry_timed (dormant : Bool) : armed (askedEntry p dormant d) tkQuietEntry p = true := by
  rw [askedEntry, armed_congr (modQuiet_timers ..), armed_arm]

theorem keepsOthers_askedEntry {changed : List (Nat × Nat)} (dormant : Bool) : KeepsOthers changed d (askedEntry p dormant d) :=
  keepsOthers_of_attrs (by rw [askedEntry, modQuiet_attrs, arm_attrs])

/-- R419: the block with QUIET_REQ agreed and its reply sent. -/
def requestAgreed (p : Nat) (dormant : Bool) (d : Dev) : Dev := sendTraining p [0x11#8, 0x00#8] (quietAgreed p (askedEntry p dormant d))

theorem requestAgreed_drains (dormant : Bool) : (quiet (requestAgreed p dormant d) p).entry = some ⟨dormant, .draining, false⟩
    ∧ attr (requestAgreed p dormant d) PORT_QUIET_STATE p = 2 ∧ (recast (requestAgreed p dormant d) p).noNewData = true
    ∧ armed (requestAgreed p dormant d) tkQuietEntry p = true := by
  have drains := quietAgreed_drains (p := p) (d := askedEntry p dormant d)
  have sent : SvcFrame (quietAgreed p (askedEntry p dormant d)) (requestAgreed p dormant d) := .sendTraining ..
  refine ⟨?_, (sent.steady steady_quietState p).trans drains.state, (congrArg Recast.noNewData (sent.recast p)).trans drains.closed,
    sent.armed _ _ (drains.timed _ _ (askedEntry_timed dormant))⟩
  rw [sent.quiet, drains.entry, askedEntry_entry]
  rfl

theorem keepsOthers_requestAgreed (dormant : Bool) :
    KeepsOthers [(PORT_QUIET_STATE.code, p), (SVC_BURSTS_TX.code, p)] d (requestAgreed p dormant d) :=
  (((keepsOthers_askedEntry dormant).trans quietAgreed_drains.keeps).weaken (by simp)).trans ((keepsOthers_sendTraining _).weaken (by simp))

theorem quietRequest_agrees {mode : Nat} (hc : attr d PORT_STATE p = psCarry) (hw : swapOf d p = none) (he : (quiet d p).entry = none)
    (hs : (port d p).stop = none) (hm : mode ≤ 1) (hf : captureFailed d p = false) :
    quietRequest p mode d = requestAgreed p (mode == 1) d := by
  have carries : ¬stateOf d p ≠ psCarry := fun h => h hc
  have free : ¬((swapOf d p).isSome = true ∨ (quiet d p).entry.isSome = true ∨ (port d p).stop.isSome = true) := by simp [hw, he, hs]
  have able : ¬(1 < mode ∨ captureFailed d p = true) := by simp [hf, hm]
  unfold quietRequest requestAgreed askedEntry
  rw [if_neg carries, if_neg free, if_neg able]

theorem quietReq_drains {p : Fin 128} {s : State} (mode : Byte) (hc : attr s.dev PORT_STATE p = psCarry) (hw : swapOf s.dev p = none)
    (he : (quiet s.dev p).entry = none) (hs : (port s.dev p).stop = none) (hm : mode.toNat ≤ 1) (hf : captureFailed s.dev p = false) :
    ∃ t, exec (.quietReq p mode) s = .next t ∧ (quiet t.dev p).entry = some ⟨mode.toNat == 1, .draining, false⟩ ∧ attr t.dev PORT_QUIET_STATE p = 2
      ∧ (recast t.dev p).noNewData = true ∧ armed t.dev tkQuietEntry p = true
      ∧ Claims.KeepsAttrs [(PORT_QUIET_STATE.code, p), (SVC_BURSTS_TX.code, p)] s t ∧ t.mem = s.mem := by
  have ran : exec (.quietReq p mode) s = .next { s with dev := quietRequest p mode.toNat s.dev } := rfl
  obtain ⟨entry, state, closed, timed⟩ := requestAgreed_drains (p := p) (d := s.dev) (mode.toNat == 1)
  have kept := keepsOthers_requestAgreed (p := p) (d := s.dev) (mode.toNat == 1)
  rw [← quietRequest_agrees hc hw he hs hm hf] at entry state closed timed kept
  exact ⟨_, ran, entry, state, closed, timed, keepsAttrs_dev kept, rfl⟩

section Reply
variable {p : Fin 128} {s : State} {e : QuietEntry} (he : (quiet s.dev p).entry = some e)
include he

theorem quietReply_answers (ha : e.step = .asked) :
    (∃ t, exec (.quietReply p 0#8) s = .next t ∧ (quiet t.dev p).entry = some { e with step := .draining } ∧ attr t.dev PORT_QUIET_STATE p = 2
      ∧ (recast t.dev p).noNewData = true ∧ armed t.dev tkDrainWait p = true ∧ Claims.KeepsAttrs [(PORT_QUIET_STATE.code, p)] s t ∧ t.mem = s.mem)
    ∧ ∀ code, code ≠ 0#8 → ∃ t, exec (.quietReply p code) s = .next t ∧ (quiet t.dev p).entry = none ∧ attr t.dev PORT_QUIET_STATE p = 0
      ∧ (recast t.dev p).noNewData = false ∧ t.mem = s.mem := by
  have ran : ∀ code, exec (.quietReply p code) s = .next { s with dev := quietReply p code.toNat s.dev } := fun _ => rfl
  have reply : ∀ code, quietReply p code s.dev = if code = 0 then quietAgreed p s.dev else failQuiet p 1 s.dev := fun code => by
    unfold quietReply
    rw [he]
    exact if_pos ha
  refine ⟨?_, fun code hn => ?_⟩
  · have drains := quietAgreed_drains (p := p) (d := s.dev)
    have agreed : (0#8).toNat = 0 := rfl
    rw [ran, reply, if_pos agreed]
    refine ⟨_, rfl, drains.entry.trans ?_, drains.state, drains.closed, drains.waits, keepsAttrs_dev drains.keeps, rfl⟩
    rw [he]
    rfl
  · have refused : code.toNat ≠ 0 := fun h => hn (BitVec.eq_of_toNat_eq h)
    obtain ⟨ended, state, opened⟩ := failQuiet_ends (p := p) (d := s.dev) 1 (by rw [he]; rfl)
    rw [ran, reply, if_neg refused]
    exact ⟨_, rfl, ended, state, opened, rfl⟩

theorem quietAt_schedules (sf : Byte) (hh : e.fromHost = false) :
    ∃ t, exec (.quietAt p sf) s = .next t ∧ (quiet t.dev p).entry = some { e with step := .scheduled sf.toNat } ∧ Claims.KeepsAttrs [] s t ∧ t.mem = s.mem := by
  have ran : exec (.quietAt p sf) s = .next { s with dev := quietAt p sf.toNat s.dev } := rfl
  have named : quietAt p sf.toNat s.dev = setQuietStep p (.scheduled sf.toNat) s.dev := by
    unfold quietAt
    rw [he]
    exact if_neg (by simp [hh])
  rw [ran, named]
  refine ⟨_, rfl, (entry_setQuietStep ..).trans ?_, keepsAttrs_dev (keepsOthers_of_attrs rfl), rfl⟩
  rw [he]
  rfl

end Reply

theorem quietEntryTimeout_ends {p : Fin 128} {s : State} (hd : due s.dev tkQuietEntry p = true) (he : (quiet s.dev p).entry.isSome = true) :
    ∃ t, exec (.quietEntryTimeout p) s = .next t ∧ (quiet t.dev p).entry = none ∧ attr t.dev PORT_QUIET_STATE p = 0 ∧ t.mem = s.mem := by
  have ran : exec (.quietEntryTimeout p) s = .next { s with dev := failQuiet p 2 (disarm tkQuietEntry p s.dev) } := exec_onExpiry hd
  obtain ⟨ended, state, -⟩ := failQuiet_ends (p := p) (d := disarm tkQuietEntry p s.dev) 2 (by rwa [quiet_congr (disarm_ports ..)])
  rw [ran]
  exact ⟨_, rfl, ended, state, rfl⟩

end EntryRows

/-! ### The partner lost (R153) -/

/-- R153, R168: a port that no stop silences counts a lost partner and listens. -/
theorem partnerLost_listens {p : Nat} {d : Dev} (hl : attr d PORT_STATE p ≠ psListen) (hs : (port d p).stop = none) (cause : Nat) :
    attr (partnerLost p cause d) PORT_STATE p = psListen
    ∧ attr (partnerLost p cause d) PORT_PARTNER_LOSSES p = (attr d PORT_PARTNER_LOSSES p + 1) % 2 ^ 32 := by
  have running : ¬(port d p).stop.isSome = true := by simp [hs]
  obtain ⟨detail, v, lost⟩ : ∃ detail v, partnerLost p cause d
      = changeState p psListen cause (raise clsPort p evPartnerLost detail (bump PORT_PARTNER_LOSSES p 1 (setAttr PORT_LAST_FAIL p v d))) := by
    unfold partnerLost
    rw [if_neg running]
    exact ⟨_, _, rfl⟩
  rw [lost]
  generalize he : raise clsPort p evPartnerLost detail (bump PORT_PARTNER_LOSSES p 1 (setAttr PORT_LAST_FAIL p v d)) = e
  have told : ∀ b, Bystander b → attr e b p = attr (bump PORT_PARTNER_LOSSES p 1 (setAttr PORT_LAST_FAIL p v d)) b p := fun b hb => by
    rw [← he, hb.attr_raise]
  have state : attr e PORT_STATE p = attr d PORT_STATE p := by
    rw [told _ bystander_portState, attr_bump_ne _ _ _ _ (by decide) (by decide) (by decide), attr_setAttr_ne _ _ _ _ (by decide) (by decide) (by decide)]
  have stop : (port e p).stop = none := by
    rw [← he, port_congr (raise_ports ..), port_congr (bump_ports ..), port_congr (setAttr_ports ..), hs]
  have target := stopTarget_of_none stop psListen cause
  have moves : stateOf e p ≠ psListen := by rwa [stateOf, state]
  refine ⟨attr_changeState_state target (.inl rfl) moves, ?_⟩
  rw [attr_changeState_ne bystander_partnerLosses (by decide) target (.inl rfl) moves, told _ bystander_partnerLosses, attr_bump,
    attr_setAttr_ne _ _ _ _ (by decide) (by decide) (by decide)]
  rfl

/-! ### Refreshes in QUIET (R423, R424) -/

section Refresh
variable {p : Fin 128} {s : State} {marker corr : Nat} {offset : Int} (hq : attr s.dev PORT_STATE p = psQuiet)
  (hd : (quiet s.dev p).sfSince % refreshEvery s.dev p = 0)
include hq hd

theorem refresh_judged : ¬(stateOf s.dev p ≠ psQuiet ∨ (quiet s.dev p).sfSince % refreshEvery s.dev p ≠ 0) := fun h => by
  rcases h with h | h
  · exact h hq
  · exact h hd

theorem quietRefresh_taken (hm : 500 ≤ marker) (hc : 500 ≤ corr) (ho : offset.natAbs ≤ 128) :
    ∃ t, exec (.quietRefresh p marker corr offset) s = .next t ∧ attrInt t.dev PORT_RX_OFFSET p = offset ∧ (quiet t.dev p).missed = 0
      ∧ Claims.KeepsAttrs [(PORT_RX_OFFSET.code, p)] s t ∧ t.mem = s.mem := by
  have ran : exec (.quietRefresh p marker corr offset) s = .next { s with dev := judgeRefresh p marker corr offset s.dev } := rfl
  have good : ¬(marker < 500 ∨ corr < 500 ∨ 128 < offset.natAbs) := by omega
  have taken : judgeRefresh p marker corr offset s.dev = setAttrInt PORT_RX_OFFSET p offset (modQuiet p (fun y => { y with missed := 0 }) s.dev) := by
    unfold judgeRefresh
    dsimp only
    rw [if_neg (refresh_judged hq hd), if_neg good]
  have width : PORT_RX_OFFSET.width - 1 = 15 := rfl
  rw [ran, taken]
  refine ⟨_, rfl, attrInt_setAttrInt (by decide) (by rw [width]; omega) (by rw [width]; omega) .., ?_, keepsAttrs_dev ?_, rfl⟩
  · rw [setAttrInt, quiet_congr (setAttr_ports ..), quiet_modQuiet]
  · exact KeepsOthers.wrote (KeepsOthers.refl.same rfl)

/-- R424: the block with a refresh missed and counted. -/
def refreshMissed (p : Nat) (d : Dev) : Dev := bump PORT_REFRESHES_MISSED p 1 (modQuiet p (fun y => { y with missed := y.missed + 1 }) d)

variable (hb : marker < 500 ∨ corr < 500 ∨ 128 < offset.natAbs)
include hb

theorem judgeRefresh_missed : judgeRefresh p marker corr offset s.dev
    = if 3 ≤ (quiet s.dev p).missed + 1 then partnerLost p causeRefreshLost (refreshMissed p s.dev) else refreshMissed p s.dev := by
  unfold judgeRefresh
  dsimp only
  rw [if_neg (refresh_judged hq hd), if_pos hb]
  rfl

theorem quietRefresh_missed (hm : (quiet s.dev p).missed < 2) :
    ∃ t, exec (.quietRefresh p marker corr offset) s = .next t ∧ (quiet t.dev p).missed = (quiet s.dev p).missed + 1
      ∧ attr t.dev PORT_REFRESHES_MISSED p = (attr s.dev PORT_REFRESHES_MISSED p + 1) % 2 ^ 32
      ∧ Claims.KeepsAttrs [(PORT_REFRESHES_MISSED.code, p)] s t ∧ t.mem = s.mem := by
  have ran : exec (.quietRefresh p marker corr offset) s = .next { s with dev := judgeRefresh p marker corr offset s.dev } := rfl
  rw [ran, judgeRefresh_missed hq hd hb, if_neg (by omega)]
  refine ⟨_, rfl, ?_, (attr_bump ..).trans rfl, keepsAttrs_dev ?_, rfl⟩
  · rw [refreshMissed, quiet_congr (bump_ports ..), quiet_modQuiet]
  · exact KeepsOthers.counted (KeepsOthers.refl.same rfl)

theorem quietRefresh_lost (hm : 2 ≤ (quiet s.dev p).missed) (hs : (port s.dev p).stop = none) :
    ∃ t, exec (.quietRefresh p marker corr offset) s = .next t ∧ attr t.dev PORT_STATE p = psListen
      ∧ attr t.dev PORT_PARTNER_LOSSES p = (attr s.dev PORT_PARTNER_LOSSES p + 1) % 2 ^ 32 ∧ t.mem = s.mem := by
  have ran : exec (.quietRefresh p marker corr offset) s = .next { s with dev := judgeRefresh p marker corr offset s.dev } := rfl
  have kept : KeepsOthers [(PORT_REFRESHES_MISSED.code, p.val)] s.dev (refreshMissed p s.dev) := KeepsOthers.counted (KeepsOthers.refl.same rfl)
  have stop : (port (refreshMissed p s.dev) p).stop = none := by
    rw [refreshMissed, port_congr (bump_ports ..)]
    exact ((LinkFrame.modQuiet ..).stops p).trans hs
  obtain ⟨state, losses⟩ := partnerLost_listens (d := refreshMissed p s.dev) (p := p) (by rw [kept.read PORT_STATE p, hq]; decide) stop causeRefreshLost
  rw [ran, judgeRefresh_missed hq hd hb, if_pos (by omega)]
  exact ⟨_, rfl, state, by rw [losses, kept.read PORT_PARTNER_LOSSES p], rfl⟩

end Refresh

end Sys2Proof.Machine

namespace Sys2Proof.Machine

-- In order, so that no thread waits for the lemmas before it.
set_option Elab.async false

/-! ### What upkeep leaves of the quiet states (R81 to R85, R164 to R166, R209 to R222) -/

namespace QuietFrame
variable {d e : Dev}

theorem startSurvey (p : Nat) (d : Dev) : QuietFrame d (startSurvey p d) := by
  unfold Machine.startSurvey
  exact ite (after (disarm ..) (setNextSlot ..)) (after (arm ..) (setNextSlot ..))

theorem joinSurvey (p : Nat) (d : Dev) : QuietFrame d (joinSurvey p d) := by
  unfold Machine.joinSurvey
  exact ite (refl d) (ite (refl d) (after (disarm ..) (after (setNextSlot ..) (modRx ..))))

theorem startRamp (p : Nat) (d : Dev) : QuietFrame d (startRamp p d) := by
  unfold Machine.startRamp
  exact after (disarm ..) (after (forAll (fun _ _ => after (disarm ..) (after (setNextSlot ..) (modRx ..))) ..) (after (modPrism ..) (setAttr ..)))

theorem settleRamp (p : Nat) (d : Dev) : QuietFrame d (settleRamp p d) := by
  unfold Machine.settleRamp
  exact ite (after (arm ..) (modTrain ..)) (refl d)

theorem nextRamp (m : Nat) (d : Dev) : QuietFrame d (nextRamp m d) := by
  unfold Machine.nextRamp
  split
  · exact refl d
  · exact ite (refl d) (after (settleRamp ..) (after (startRamp ..) (modPrism ..)))

theorem releaseRamp (m : Nat) (d : Dev) : QuietFrame d (releaseRamp m d) := by
  unfold Machine.releaseRamp
  refine ite (refl d) (after (nextRamp ..) (after (forAll (fun q e => ?_) ..) (after (modPrism ..) (setAttr ..))))
  split
  · exact ite (after (startSurvey ..) (after (setNextSlot ..) (modRx ..))) (after (arm ..) (after (setNextSlot ..) (modRx ..)))
  · exact refl e

theorem cancelRamp (p : Nat) (d : Dev) : QuietFrame d (cancelRamp p d) := by
  unfold Machine.cancelRamp
  exact ite (after (releaseRamp ..) (modPrism ..)) (after (nextRamp ..) (modPrism ..))

theorem endSnapshot (r status cause st : Nat) (d : Dev) : QuietFrame d (endSnapshot r status cause st d) := by
  unfold Machine.endSnapshot
  split
  · exact refl d
  · have left : ∀ e : Dev, QuietFrame e (setRecord r st e) := fun _ => of_ports rfl
    have taken : QuietFrame d { d with snapshots := bankPut none d.snapshots r none } := of_ports rfl
    exact after (complete ..) (ite (after (setCapture ..) (after (disarm ..) (after (left _) taken))) (after (disarm ..) (after (left _) taken)))

theorem abortSnapshots (p cause : Nat) (g : Snapshot → Bool) (d : Dev) : QuietFrame d (abortSnapshots p cause g d) := by
  refine forAll (fun r e => ?_) _ d
  split
  · exact ite (endSnapshot ..) (refl e)
  · exact refl e

theorem finishScan (p status cause : Nat) (d : Dev) : QuietFrame d (finishScan p status cause d) := by
  unfold Machine.finishScan
  split
  · exact refl d
  · extract_lets d1 d2 d3 d4
    have ended : QuietFrame d d1 := modPort fun _ => rfl
    have capture : QuietFrame d d2 := ite (after (setCapture ..) ended) ended
    have tx : QuietFrame d d3 := ite (after (setTx ..) capture) capture
    have ramp : QuietFrame d d4 := by
      dsimp only [d4]
      split
      · exact after (arm ..) (after (cancelRamp ..) tx)
      · exact after (arm ..) tx
      · exact after (cancelRamp ..) tx
      · exact tx
    exact after (complete ..) (after (disarm ..) (after (disarm ..) ramp))

theorem abortScan (p cause : Nat) (d : Dev) : QuietFrame d (abortScan p cause d) := by
  unfold Machine.abortScan
  exact ite (after (finishScan ..) (setBlock ..)) (refl d)

theorem endDiagnostics (p new : Nat) (d : Dev) : QuietFrame d (endDiagnostics p new d) := by
  unfold Machine.endDiagnostics
  extract_lets d1 d2
  have quieted : QuietFrame d d1 := ite (abortSnapshots ..) (refl d)
  have ended : QuietFrame d d2 := after (abortSnapshots ..) quieted
  exact ite ended (after (abortScan ..) ended)

theorem stateClaims (p new : Nat) (d : Dev) : QuietFrame d (stateClaims p new d) := by
  unfold Machine.stateClaims
  extract_lets traffic d1
  have tx : QuietFrame d d1 := ite (setTx ..) (ite (setTx ..) (ite (setTx ..) (refl d)))
  exact ite (after (setCapture ..) tx) (ite (after (setCapture ..) tx) tx)

theorem stopSlice (region : Nat) (d : Dev) : QuietFrame d (stopSlice region d) := by
  obtain ⟨_, h⟩ := stopSlice_eq region d
  rw [h]
  exact of_ports rfl

theorem releaseCal (p : Nat) (d : Dev) : QuietFrame d (releaseCal p d) := setAttr ..

theorem endMeasure (x : Nat) (d : Dev) : QuietFrame d (endMeasure x d) := by
  unfold Machine.endMeasure
  dsimp only
  split
  · exact after (releaseCal ..) (setAttr ..)
  · exact setAttr ..

theorem finishCalRun (r : CalRun) (status cause : Nat) (d : Dev) : QuietFrame d (finishCalRun r status cause d) := by
  unfold Machine.finishCalRun
  refine after (complete ..) ?_
  split
  · exact after (endMeasure ..) (of_ports rfl)
  · exact of_ports rfl

theorem calOnPort (p new : Nat) (d : Dev) : QuietFrame d (calOnPort p new d) := by
  have aborted : ∀ (item : Nat → Bool) (cause : Nat) (e : Dev), QuietFrame e (abortFullRuns item cause e) := fun _ _ e =>
    foldl (fun _ _ => finishCalRun ..) _ e
  unfold Machine.calOnPort
  extract_lets d0 d1
  have released : QuietFrame d d0 := ite (refl d) (after (releaseCal ..) (ite (stopSlice ..) (refl d)))
  have ended : QuietFrame d d1 := ite released (after (aborted ..) released)
  exact ite ended (after (aborted ..) ended)

theorem reportDropped (f tsKind tag : Nat) (d : Dev) : QuietFrame d (reportDropped f tsKind tag d) := by
  unfold Machine.reportDropped
  exact ite (after (bump ..) (of_ports rfl)) (refl d)

theorem dropFromHost (a : Attr) (f tsKind tag : Nat) (d : Dev) : QuietFrame d (dropFromHost a f tsKind tag d) := after (reportDropped ..) (bump ..)

theorem moveLine (f new : Nat) (d : Dev) (x : LineFrame) : QuietFrame d (moveLine f new d x) := by
  unfold Machine.moveLine
  exact ite (modPort fun _ => rfl) (after (dropFromHost ..) (ite (of_ports rfl) (refl d)))

theorem moveHub (f new : Nat) (d : Dev) (x : EgressFrame) : QuietFrame d (moveHub f new d x) := by
  unfold Machine.moveHub
  exact ite (of_ports rfl) (after (dropFromHost ..) (ite (refl d) (of_ports rfl)))

theorem refreshOversub (p : Nat) (d : Dev) : QuietFrame d (refreshOversub p d) := by
  unfold Machine.refreshOversub
  exact ite (after (raise ..) (setAttr ..)) (setAttr ..)

theorem refreshCharges (ports : List Nat) (d : Dev) : QuietFrame d (refreshCharges ports d) := by
  refine after (forAll (fun _ _ => ?sums) ..) (forAll (fun _ _ => ?group) ..)
  case sums => exact after (refreshOversub ..) (after (setAttr ..) (setAttr ..))
  case group =>
    unfold refreshGroup
    exact ite (after (raise ..) (after (setAttr ..) (setAttr ..))) (after (setAttr ..) (setAttr ..))

theorem setEgress (p : Nat) (l : List EgressFrame) (d : Dev) : QuietFrame d (setEgress p l d) := after (setAttr ..) (of_ports rfl)

theorem modSource (n : Nat) (g : HubSource → HubSource) (d : Dev) : QuietFrame d (modSource n g d) := of_ports (modSource_ports ..)

theorem moveMember (f : Nat) (d : Dev) : QuietFrame d (moveMember f d) := by
  unfold Machine.moveMember
  extract_lets old new line hub units d1 d2 d3
  have taken : QuietFrame d d1 := after (modPort fun _ => rfl) (setAttr ..)
  have moved : QuietFrame d d2 := after (foldl (moveHub f new) ..) (after (foldl (moveLine f new) ..) (after (setEgress ..) taken))
  exact ite (refl d) (after (refreshCharges ..) (after (setAttr ..) (after (modSource ..) (after (modSource ..) moved))))

theorem chordWaitOver (p : Nat) (d : Dev) : QuietFrame d (chordWaitOver p d) := by
  unfold Machine.chordWaitOver
  exact ite (disarm ..) (ite (after (forAll (fun _ _ => moveMember ..) ..) (disarm ..)) (refl d))

theorem refreshChord (c : Nat) (carried : Bool) (d : Dev) : QuietFrame d (refreshChord c carried d) := by
  unfold Machine.refreshChord
  exact ite (refl d) (after (raise ..) (setBlock ..))

theorem refreshClock (m : Nat) (d : Dev) : QuietFrame d (refreshClock m d) := by
  unfold Machine.refreshClock
  dsimp only
  split
  · exact ite (refl d) (of_ports rfl)
  · exact ite (refl d) (of_ports rfl)

theorem chordOnState (p old new deadline : Nat) (d : Dev) : QuietFrame d (chordOnState p old new deadline d) := by
  unfold Machine.chordOnState
  extract_lets c d1 d2
  have waits : QuietFrame d d1 := ite (arm ..) (ite (disarm ..) (refl d))
  have moved : QuietFrame d d2 := after (when (fun _ => forAll (fun _ _ => chordWaitOver ..) ..) ..) waits
  exact ite (refl d) (after (refreshClock ..) (after (refreshChord ..) moved))

theorem refreshSvc (p : Nat) (d : Dev) : QuietFrame d (refreshSvc p d) := of_ports rfl

/-- R191: CARRY keeps the channel's messages, polls and nodes. -/
theorem svcOnState_carry (p : Nat) (d : Dev) : QuietFrame d (svcOnState p psCarry d) := by
  unfold svcOnState
  extract_lets d0 d1 d2 d3 d4
  have same : d4 = d := rfl
  rw [same]
  exact refreshSvc ..

theorem portEnded (op p : Nat) (ok : Bool) (cause : Nat) (d : Dev) : QuietFrame d (portEnded op p ok cause d) := of_ports (portEnded_ports ..)

end QuietFrame

/-! ### Exit from QUIET (R425, R426) -/

section Exit
variable {p : Nat} {d : Dev}

theorem leaveState_woken : leaveState p psQuiet psCarry d = disarm tkDwell p (disarm tkNegotiate p d) := rfl

/-- R132, R426: a port that leaves QUIET for CARRY keeps the exit's quiet state. -/
theorem quiet_changeState_carry (hq : attr d PORT_STATE p = psQuiet) (why : Nat) : QuietFrame d (changeState p psCarry why d) := by
  have old : stateOf d p = psQuiet := hq
  have moves : ¬psQuiet = psCarry := by decide
  have woken : ∀ e, QuietFrame e (enterState p psQuiet psCarry e) := fun e => by
    rw [enterState_carry]
    unfold enterCarry
    extract_lets d1
    rw [if_neg (by decide)]
    exact .after (.joinSurvey ..) (.after (.setAttr ..) (.modRx ..))
  unfold changeState
  rw [stopTarget_carry]
  dsimp only
  rw [old, if_neg moves, leaveState_woken]
  have unstopped : ∀ e, stopOnState p psCarry e = e := fun e => if_neg (by decide)
  have awake : ∀ e, wakeOnState p psCarry e = portEnded 0x33 p true 0 e := fun e => if_pos rfl
  have measured : ∀ e, when (psCarry != psCarry && psCarry != psQuiet && psCarry != psDormant) (clearMeasures p) (neighbours p psQuiet psCarry e) = e :=
    fun _ => rfl
  rw [unstopped, awake, measured]
  refine .after (.portEnded ..) (.after (.refreshOversub ..) (.after (.chordOnState ..) (.after (.svcOnState_carry ..) (.after (woken _) ?_))))
  refine .after (.stateClaims ..) (.after (.calOnPort ..) (.after (.endDiagnostics ..) ?_))
  exact .after (.raise ..) (.after (.setAttr ..) (.after (.disarm ..) (.disarm ..)))

/-- R426: the block as its exit is decided, before the change of state. -/
def exitDecided (p : Nat) (d : Dev) : Dev := startBurst p (setAttr PORT_QUIET_STATE p 0 (modQuiet p (fun _ => { decidedAt := d.elapsed + 1 }) d))

theorem startBurst_sends (d : Dev) : (quiet (startBurst p d) p).burstSent = true ∧ (quiet (startBurst p d) p).answered = (quiet d p).answered := by
  unfold startBurst
  rw [((QuietFrame.when (fun _ => .setTx ..) ..).after (.modTx ..)).same, quiet_modQuiet]
  exact ⟨rfl, rfl⟩

/-- R426: of the attributes and the time limits, a burst out of DORMANT moves the port's claims alone (assumption 115). -/
theorem startBurst_dormant (h : attr d PORT_STATE p = psDormant) :
    ∃ e, startBurst p d = setTx p holdRefresh e ∧ e.attrs = d.attrs ∧ e.timers = d.timers := by
  have dormant : ∀ e, stateOf e p = stateOf d p → ((stateOf e p == psDormant) = true) := fun e he => by rw [he, stateOf, h]; rfl
  unfold startBurst
  rw [when, if_pos (dormant d rfl)]
  exact ⟨_, rfl, rfl, rfl⟩

theorem exitDecided_state (hq : attr d PORT_STATE p = psQuiet) : attr (exitDecided p d) PORT_STATE p = psQuiet := by
  rw [exitDecided, (LinkFrame.startBurst ..).attrs _ steady_portState, attr_setAttr_ne _ _ _ _ (by decide) (by decide) (by decide), attr_modQuiet, hq]

theorem exitQuiet_carries (hq : attr d PORT_STATE p = psQuiet) (cause : Nat) : attr (exitQuiet p cause d) PORT_STATE p = psCarry
    ∧ attr (exitQuiet p cause d) PORT_QUIET_STATE p = 0 ∧ (quiet (exitQuiet p cause d) p).burstSent = true := by
  have left : exitQuiet p cause d = changeState p psCarry cause (exitDecided p d) := rfl
  have state := exitDecided_state hq
  have moves : stateOf (exitDecided p d) p ≠ psCarry := by rw [stateOf, state]; decide
  rw [left]
  refine ⟨?_, ?_, ?_⟩
  · rw [state_after_change (stopTarget_carry ..) .carry, if_pos rfl]
  · rw [attr_changeState_of_left (stopTarget_carry ..) moves .carry steady_quietState (by decide), attr_setAttr_ne _ _ _ _ (by decide) (by decide) (by decide),
      stateOf, state, leaveState_woken, attr_disarm, attr_disarm, exitDecided, (LinkFrame.startBurst ..).attrs _ steady_quietState, attr_setAttr]
    rfl
  · rw [(quiet_changeState_carry state cause).same]
    exact (startBurst_sends _).1

theorem tangentBurst_wakes {p : Fin 128} {s : State} (hq : attr s.dev PORT_STATE p = psQuiet) :
    ∃ t, exec (.tangentBurstDetected p) s = .next t ∧ attr t.dev PORT_STATE p = psCarry ∧ attr t.dev PORT_QUIET_STATE p = 0
      ∧ (quiet t.dev p).burstSent = true ∧ t.mem = s.mem := by
  have ran : exec (.tangentBurstDetected p) s = .next { s with dev := exitQuiet p causePartnerWake s.dev } := by
    show onDev _ s = _
    rw [onDev, if_pos hq]
  obtain ⟨state, quiet, sent⟩ := exitQuiet_carries hq causePartnerWake
  exact ⟨_, ran, state, quiet, sent, rfl⟩

end Exit

/-! ### Exit from DORMANT (R428, R431) -/

section Dormant
variable {p : Fin 128} {s : State} (hd : attr s.dev PORT_STATE p = psDormant)
include hd

/-- R428: the block with the partner's answer noted. -/
def answerHeard (p : Nat) (d : Dev) : Dev := disarm tkWakeUnanswered p (modQuiet p (fun y => { y with answered := true }) d)

theorem relockDetected_goesOn (offset : Int) (hx : (quiet s.dev p).decidedAt ≠ 0) (hb : (quiet s.dev p).burstSent = false) (ho : offset.natAbs ≤ 128) :
    ∃ t, exec (.relockDetected p offset) s = .next t ∧ (quiet t.dev p).answered = true ∧ (quiet t.dev p).burstSent = true
      ∧ armed t.dev tkWakeUnanswered p = false ∧ attr t.dev PORT_CLAIMS p % 256 = 2 ∧ Claims.KeepsAttrs [(PORT_CLAIMS.code, p)] s t ∧ t.mem = s.mem := by
  have ran : exec (.relockDetected p offset) s = .next { s with dev := relocked p offset s.dev } := rfl
  have goes : relocked p offset s.dev = startBurst p (answerHeard p s.dev) := by
    unfold relocked
    dsimp only
    rw [if_pos ⟨hd, hx, hb⟩, if_pos ho]
    rfl
  have heard : (quiet (answerHeard p s.dev) p).answered = true := by rw [answerHeard, quiet_congr (disarm_ports ..), quiet_modQuiet]
  obtain ⟨sent, answered⟩ := startBurst_sends (p := p) (answerHeard p s.dev)
  obtain ⟨e, burst, attrs, timers⟩ := startBurst_dormant (p := p) (d := answerHeard p s.dev) hd
  have written : KeepsOthers [(PORT_CLAIMS.code, p.val)] s.dev e := keepsOthers_of_attrs attrs
  have claims : attr (setTx p holdRefresh e) PORT_CLAIMS p % 256 = 2 := by
    have width : PORT_CLAIMS.width = 16 := rfl
    rw [setTx, attr_setAttr, width, Nat.mod_mod_of_dvd _ (by decide), Nat.add_comm, Nat.add_mul_mod_self_left]
    rfl
  rw [← goes] at sent answered burst
  refine ⟨_, ran, answered.trans heard, sent, ?_, ?_, ?_, rfl⟩
  · show armed (relocked p offset s.dev) _ _ = _
    rw [burst, setTx, armed_congr (setAttr_timers ..), armed_congr timers, answerHeard, armed_disarm]
  · show attr (relocked p offset s.dev) _ _ % _ = _
    rw [burst, claims]
  · refine keepsAttrs_dev ?_
    rw [burst]
    exact written.wrote

theorem wakeUnanswered_loses (hw : due s.dev tkWakeUnanswered p = true) (ha : (quiet s.dev p).answered = false) (hs : (port s.dev p).stop = none) :
    ∃ t, exec (.wakeUnanswered p) s = .next t ∧ attr t.dev PORT_STATE p = psListen
      ∧ attr t.dev PORT_PARTNER_LOSSES p = (attr s.dev PORT_PARTNER_LOSSES p + 1) % 2 ^ 32 ∧ t.mem = s.mem := by
  have ran : exec (.wakeUnanswered p) s = .next { s with dev := partnerLost p causeWakeUnanswered (disarm tkWakeUnanswered p s.dev) } :=
    (exec_onExpiry hw).trans (congrArg (fun d => Host.Outcome.next { s with dev := d }) (if_pos ⟨hd, ha⟩))
  obtain ⟨state, losses⟩ := partnerLost_listens (p := p) (d := disarm tkWakeUnanswered p s.dev) (by rw [attr_disarm, hd]; decide) hs causeWakeUnanswered
  exact ⟨_, ran, state, losses, rfl⟩

end Dormant

/-- Settles O34. An entry agreed drains (`Draining`), a change from QUIET to CARRY keeps the exit's quiet state (`quiet_changeState_carry`), and a
partner lost in any state counts and listens (`partnerLost_listens`). That the burst out of DORMANT holds the transmitter under code 2 is the
model's choice (assumption 115). -/
theorem quietLinks : Obligations.quiet_links := by
  unfold Obligations.quiet_links
  refine ⟨fun p s => ⟨quietReq_drains, fun e => quietReply_answers, fun e sf he hh => quietAt_schedules he sf hh, quietEntryTimeout_ends⟩,
    fun p s => ⟨fun hq => ⟨?_, ?_, ?_, tangentBurst_wakes hq⟩, fun hd => ⟨relockDetected_goesOn hd, wakeUnanswered_loses hd⟩⟩⟩
  · exact fun marker corr offset hd hm hc ho => quietRefresh_taken hq hd hm hc ho
  · exact fun marker corr offset hd hb hm => quietRefresh_missed hq hd hb hm
  · exact fun marker corr offset hd hb hm hs => quietRefresh_lost hq hd hb hm hs

end Sys2Proof.Machine

namespace Sys2Proof.Machine

-- In order, so that no thread waits for the lemmas before it.
set_option Elab.async false

/-! ### What leaves the power domains and POWER_SET alone (R402 to R410) -/

/-- The POWER_SET under way and the attributes of every domain stand as before. -/
structure PowerFrame (d e : Dev) : Prop where
  set : e.power.set = d.power.set
  attrs : ∀ b : Attr, b.code / 65536 = clsDomain → ∀ i, attr e b i = attr d b i

theorem domainAttr_lt {b : Attr} (hb : b.code / 65536 = clsDomain) : b.code < 2 ^ 24 := by
  have small : clsDomain < 256 := by decide
  omega

theorem domainAttr_noEvent {b : Attr} (hb : b.code / 65536 = clsDomain) : noEventAttr b :=
  ⟨domainAttr_lt hb, fun h => absurd hb (by rw [h]; decide), fun h => absurd hb (by rw [h]; decide), fun h => absurd hb (by rw [h]; decide)⟩

namespace PowerFrame
variable {d e f : Dev}

theorem refl (d : Dev) : PowerFrame d d := ⟨rfl, fun _ _ _ => rfl⟩

/-- Transitivity with the later step first, in the order in which the model writes its steps. -/
theorem after (k : PowerFrame e f) (h : PowerFrame d e) : PowerFrame d f :=
  ⟨k.set.trans h.set, fun b hb i => (k.attrs b hb i).trans (h.attrs b hb i)⟩

theorem of_same (ha : e.attrs = d.attrs) (hp : e.power.set = d.power.set) : PowerFrame d e := ⟨hp, fun b _ i => attr_congr ha b i⟩

theorem setAttr {a : Attr} {d : Dev} (i v : Nat) (ha : a.code / 65536 ≠ clsDomain := by decide) (hl : a.code < 2 ^ 24 := by decide) :
    PowerFrame d (setAttr a i v d) where
  set := congrArg Power.set (setAttr_power ..)
  attrs _ hb j := attr_setAttr_ne i v j d (fun h => ha (h ▸ hb)) hl (domainAttr_lt hb)

theorem bump {a : Attr} {d : Dev} (i n : Nat) (ha : a.code / 65536 ≠ clsDomain := by decide) (hl : a.code < 2 ^ 24 := by decide) :
    PowerFrame d (bump a i n d) := setAttr i _ ha hl

theorem foldl {α : Type} {g : Dev → α → Dev} (h : ∀ e x, PowerFrame e (g e x)) (l : List α) (d : Dev) : PowerFrame d (l.foldl g d) := by
  induction l generalizing d with
  | nil => exact refl d
  | cons x l ih => exact after (ih _) (h d x)

theorem forAll {g : Nat → Dev → Dev} (h : ∀ k e, PowerFrame e (g k e)) (l : List Nat) (d : Dev) : PowerFrame d (forAll l g d) :=
  foldl (fun e k => h k e) l d

theorem ite {c : Prop} [Decidable c] {x y : Dev} (hx : PowerFrame d x) (hy : PowerFrame d y) : PowerFrame d (if c then x else y) := by
  split
  · exact hx
  · exact hy

theorem when {g : Dev → Dev} (h : ∀ e, PowerFrame e (g e)) (c : Bool) (d : Dev) : PowerFrame d (when c g d) := ite (h d) (refl d)

theorem resetAttrs {as : List Attr} {d : Dev} (p : Nat) (ha : ∀ a ∈ as, a.code / 65536 ≠ clsDomain ∧ a.code < 2 ^ 24 := by decide) :
    PowerFrame d (resetAttrs as p d) := by
  induction as generalizing d with
  | nil => exact refl d
  | cons a as ih =>
    obtain ⟨other, small⟩ := ha a List.mem_cons_self
    exact after (ih fun x hx => ha x (List.mem_cons_of_mem a hx)) (setAttr p _ other small)

theorem setBlock (a : Attr) (i : Nat) (bs : List Byte) (d : Dev) : PowerFrame d (setBlock a i bs d) := of_same (setBlock_attrs ..) rfl
theorem arm (k i n : Nat) (d : Dev) : PowerFrame d (arm k i n d) := of_same (arm_attrs ..) (congrArg Power.set (arm_power ..))
theorem disarm (k i : Nat) (d : Dev) : PowerFrame d (disarm k i d) := of_same (disarm_attrs ..) (congrArg Power.set (disarm_power ..))
theorem setNextSlot (p k v : Nat) (d : Dev) : PowerFrame d (setNextSlot p k v d) := setBlock ..
theorem modPort (p : Nat) (g : Port → Port) (d : Dev) : PowerFrame d (modPort p g d) := of_same rfl rfl
theorem modRx (p : Nat) (g : PortRx → PortRx) (d : Dev) : PowerFrame d (modRx p g d) := modPort ..
theorem modTx (p : Nat) (g : PortTx → PortTx) (d : Dev) : PowerFrame d (modTx p g d) := modPort ..
theorem modSvc (p : Nat) (g : Svc → Svc) (d : Dev) : PowerFrame d (modSvc p g d) := modPort ..
theorem modTrain (p : Nat) (g : Training → Training) (d : Dev) : PowerFrame d (modTrain p g d) := modPort ..
theorem modRecast (p : Nat) (g : Recast → Recast) (d : Dev) : PowerFrame d (modRecast p g d) := modPort ..
theorem modQuiet (p : Nat) (g : QuietState → QuietState) (d : Dev) : PowerFrame d (modQuiet p g d) := modPort ..
theorem modPrism (m : Nat) (g : Prism → Prism) (d : Dev) : PowerFrame d (modPrism m g d) := of_same rfl rfl
theorem modLink (l : Nat) (g : Link → Link) (d : Dev) : PowerFrame d (modLink l g d) := of_same rfl rfl
theorem modCal (g : Cal → Cal) (d : Dev) : PowerFrame d (modCal g d) := of_same rfl rfl
theorem modItem (i : Nat) (g : CalItem → CalItem) (d : Dev) : PowerFrame d (modItem i g d) := modCal ..
theorem modBist (g : Bist → Bist) (d : Dev) : PowerFrame d (modBist g d) := of_same rfl rfl

/-! #### Events and completions -/

theorem raise (cls inst type detail : Nat) (d : Dev) : PowerFrame d (raise cls inst type detail d) where
  set := congrArg Power.set (raise_power ..)
  attrs b hb i := attr_raise cls inst type detail d b i (domainAttr_noEvent hb)

theorem complete (j : JobRef) (cls inst type status : Nat) (result : List Byte) (d : Dev) : PowerFrame d (complete j cls inst type status result d) where
  set := congrArg Power.set (complete_power ..)
  attrs b hb i := attr_complete j cls inst type status result d b i (domainAttr_noEvent hb)

theorem completeOpt (j : Option JobRef) (cls inst type status : Nat) (result : List Byte) (d : Dev) :
    PowerFrame d (completeOpt j cls inst type status result d) := by
  unfold Machine.completeOpt
  split
  · exact complete ..
  · exact refl d

theorem portEnded (op p : Nat) (ok : Bool) (cause : Nat) (d : Dev) : PowerFrame d (portEnded op p ok cause d) := by
  refine after (foldl (fun e x => ?_) ..) (of_same rfl rfl)
  unfold finishMulti
  split
  · exact refl e
  · exact ite (complete ..) (ite (complete ..) (complete ..))

/-! #### Ramps, snapshots and calibration of a port that falls silent -/

theorem startSurvey (p : Nat) (d : Dev) : PowerFrame d (startSurvey p d) := by
  unfold Machine.startSurvey
  exact ite (after (disarm ..) (setNextSlot ..)) (after (arm ..) (setNextSlot ..))

theorem startRamp (p : Nat) (d : Dev) : PowerFrame d (startRamp p d) := by
  unfold Machine.startRamp
  exact after (disarm ..) (after (forAll (fun _ _ => after (disarm ..) (after (setNextSlot ..) (modRx ..))) ..) (after (modPrism ..) (setAttr ..)))

theorem settleRamp (p : Nat) (d : Dev) : PowerFrame d (settleRamp p d) := by
  unfold Machine.settleRamp
  exact ite (after (arm ..) (modTrain ..)) (refl d)

theorem nextRamp (m : Nat) (d : Dev) : PowerFrame d (nextRamp m d) := by
  unfold Machine.nextRamp
  split
  · exact refl d
  · exact ite (refl d) (after (settleRamp ..) (after (startRamp ..) (modPrism ..)))

theorem releaseRamp (m : Nat) (d : Dev) : PowerFrame d (releaseRamp m d) := by
  unfold Machine.releaseRamp
  refine ite (refl d) (after (nextRamp ..) (after (forAll (fun q e => ?_) ..) (after (modPrism ..) (setAttr ..))))
  split
  · exact ite (after (startSurvey ..) (after (setNextSlot ..) (modRx ..))) (after (arm ..) (after (setNextSlot ..) (modRx ..)))
  · exact refl e

theorem cancelRamp (p : Nat) (d : Dev) : PowerFrame d (cancelRamp p d) := by
  unfold Machine.cancelRamp
  exact ite (after (releaseRamp ..) (modPrism ..)) (after (nextRamp ..) (modPrism ..))

theorem setTx (p h : Nat) (d : Dev) : PowerFrame d (setTx p h d) := setAttr ..
theorem setCapture (p h : Nat) (d : Dev) : PowerFrame d (setCapture p h d) := setAttr ..

theorem stateClaims (p new : Nat) (d : Dev) : PowerFrame d (stateClaims p new d) := by
  unfold Machine.stateClaims
  extract_lets traffic d1
  have tx : PowerFrame d d1 := ite (setTx ..) (ite (setTx ..) (ite (setTx ..) (refl d)))
  exact ite (after (setCapture ..) tx) (ite (after (setCapture ..) tx) tx)

theorem endSnapshot (r status cause st : Nat) (d : Dev) : PowerFrame d (endSnapshot r status cause st d) := by
  unfold Machine.endSnapshot
  split
  · exact refl d
  · have left : ∀ e : Dev, PowerFrame e (setRecord r st e) := fun _ => after (setAttr ..) (setBlock ..)
    have taken : PowerFrame d { d with snapshots := bankPut none d.snapshots r none } := of_same rfl rfl
    exact after (complete ..) (ite (after (setCapture ..) (after (disarm ..) (after (left _) taken))) (after (disarm ..) (after (left _) taken)))

theorem abortSnapshots (p cause : Nat) (g : Snapshot → Bool) (d : Dev) : PowerFrame d (abortSnapshots p cause g d) := by
  refine forAll (fun r e => ?_) _ d
  split
  · exact ite (endSnapshot ..) (refl e)
  · exact refl e

theorem stopSlice (region : Nat) (d : Dev) : PowerFrame d (stopSlice region d) := by
  obtain ⟨_, h⟩ := stopSlice_eq region d
  rw [h]
  exact of_same rfl rfl

theorem releaseCal (p : Nat) (d : Dev) : PowerFrame d (releaseCal p d) := setAttr ..

theorem endMeasure (x : Nat) (d : Dev) : PowerFrame d (endMeasure x d) := by
  unfold Machine.endMeasure
  dsimp only
  split
  · exact after (releaseCal ..) (setAttr ..)
  · exact setAttr ..

theorem finishCalRun (r : CalRun) (status cause : Nat) (d : Dev) : PowerFrame d (finishCalRun r status cause d) := by
  unfold Machine.finishCalRun
  refine after (complete ..) ?_
  split
  · exact after (endMeasure ..) (modCal ..)
  · exact modCal ..

theorem abortFullRuns (item : Nat → Bool) (cause : Nat) (d : Dev) : PowerFrame d (abortFullRuns item cause d) :=
  foldl (fun _ _ => finishCalRun ..) _ d

theorem calOnPort (p new : Nat) (d : Dev) : PowerFrame d (calOnPort p new d) := by
  unfold Machine.calOnPort
  extract_lets d0 d1
  have released : PowerFrame d d0 := ite (refl d) (after (releaseCal ..) (ite (stopSlice ..) (refl d)))
  have ended : PowerFrame d d1 := ite released (after (abortFullRuns ..) released)
  exact ite ended (after (abortFullRuns ..) ended)

theorem clearMeasures (p : Nat) (d : Dev) : PowerFrame d (clearMeasures p d) := after (setBlock ..) (resetAttrs ..)

theorem clearTrained (p : Nat) (d : Dev) : PowerFrame d (clearTrained p d) := by
  unfold Machine.clearTrained
  exact after (setBlock ..) (after (resetAttrs ..) (after (setBlock ..) (after (setBlock ..) (after (setBlock ..) (setBlock ..)))))

/-! #### The service channel, chords and rates -/

theorem refreshSvc (p : Nat) (d : Dev) : PowerFrame d (refreshSvc p d) := after (setAttr ..) (after (setAttr ..) (setAttr ..))

theorem modPeer (p n : Nat) (g : SvcPeer → SvcPeer) (d : Dev) : PowerFrame d (modPeer p n g d) := modSvc ..

theorem clearTraining (p : Nat) (d : Dev) : PowerFrame d (clearTraining p d) := after (disarm ..) (after (modPeer ..) (modSvc ..))

theorem abortMessages (p : Nat) (d : Dev) : PowerFrame d (abortMessages p d) := by
  unfold Machine.abortMessages
  exact after (refreshSvc ..) (after (foldl (fun _ _ => completeOpt ..) ..) (after (forAll (fun _ _ => disarm ..) ..) (modSvc ..)))

theorem svcOnState_listen (p : Nat) (d : Dev) : PowerFrame d (svcOnState p psListen d) := by
  have listens : svcOnState p psListen d = Machine.refreshSvc p (Machine.abortMessages p (Machine.clearTraining p (resetSeq p 0 d))) := rfl
  rw [listens]
  exact after (refreshSvc ..) (after (abortMessages ..) (after (clearTraining ..) (modPeer ..)))

theorem refreshOversub (p : Nat) (d : Dev) : PowerFrame d (refreshOversub p d) := by
  unfold Machine.refreshOversub
  exact ite (after (raise ..) (setAttr ..)) (setAttr ..)

theorem refreshChord (c : Nat) (carried : Bool) (d : Dev) : PowerFrame d (refreshChord c carried d) := by
  unfold Machine.refreshChord
  exact ite (refl d) (after (raise ..) (setBlock ..))

theorem refreshClock (m : Nat) (d : Dev) : PowerFrame d (refreshClock m d) := by
  have moved : ∀ src q, PowerFrame d (Machine.arm tkSlew m 0 (Machine.setAttr PRISM_CLOCK_SLEWING m 1 (Machine.setAttr PRISM_CLOCK_PORT m q
      (Machine.setAttr PRISM_CLOCK_SOURCE m src d)))) := fun _ _ => after (arm ..) (after (setAttr ..) (after (setAttr ..) (setAttr ..)))
  unfold Machine.refreshClock
  dsimp only
  split
  · exact ite (refl d) (moved ..)
  · exact ite (refl d) (moved ..)

theorem chordOnState_listen (p deadline : Nat) (d : Dev) : PowerFrame d (chordOnState p psDormant psListen deadline d) := by
  unfold Machine.chordOnState
  extract_lets c d1 d2
  have waits : d2 = d := rfl
  rw [waits]
  exact ite (refl d) (after (refreshClock ..) (refreshChord ..))

end PowerFrame

end Sys2Proof.Machine

namespace Sys2Proof.Machine

-- In order, so that no thread waits for the lemmas before it.
set_option Elab.async false

/-! ### A port in DORMANT whose partner is lost, or wakes (R153, R414, R428) -/

namespace PowerFrame

theorem leaveState_dormant (p : Nat) (d : Dev) : PowerFrame d (leaveState p psDormant psListen d) := by
  unfold leaveState
  extract_lets d1 d2 d3 d4 d5 d6
  have trained : PowerFrame d d2 := after (when (fun _ => clearTrained ..) ..) (refl d)
  have silent : PowerFrame d d3 :=
    after (setAttr ..) (after (setAttr ..) (after (modQuiet ..) (after (modRx ..) (after (modRecast ..) (after (modTx ..) trained)))))
  have awake : PowerFrame d d6 := after (setAttr ..) (after (disarm ..) silent)
  exact after (disarm ..) (after (disarm ..) (after (disarm ..) awake))

theorem enterListen (p old : Nat) (d : Dev) : PowerFrame d (enterListen p old d) := by
  unfold Machine.enterListen
  exact ite (after (arm ..) (after (modTrain ..) (arm ..))) (after (modTrain ..) (arm ..))

theorem neighbours_listen (p : Nat) (d : Dev) : PowerFrame d (neighbours p psDormant psListen d) := by
  have held : neighbours p psDormant psListen d
      = Machine.arm tkCoeffHold p (10 * nsPerS) (Machine.when (port d p).scan.isNone (Machine.cancelRamp p) (Machine.disarm tkSurvey p d)) := by
    unfold neighbours
    rw [if_pos (.inl rfl), if_pos (.inr (.inr (.inr rfl)))]
    rfl
  rw [held]
  exact after (arm ..) (after (when (fun _ => cancelRamp ..) ..) (disarm ..))

/-- R153, R414: a port that falls from DORMANT to LISTEN moves no domain. -/
theorem changeState_dormant {p : Nat} {d : Dev} (hd : attr d PORT_STATE p = psDormant) (why : Nat) : PowerFrame d (changeState p psListen why d) := by
  have old : stateOf d p = psDormant := hd
  have moves : ¬psDormant = psListen := by decide
  have target : stopTarget d p psListen why = (psListen, why) := if_neg fun h => absurd h.2.1 (by rw [old]; decide)
  have unstopped : ∀ e, stopOnState p psListen e = e := fun e => if_neg (by decide)
  have listens : ∀ e, enterState p psDormant psListen e = Machine.enterListen p psDormant e := fun e => if_pos rfl
  have ended : ∀ e, PowerFrame e (endDiagnostics p psListen e) := fun e => abortSnapshots ..
  have woken : ∀ e, wakeOnState p psListen e = Machine.portEnded 0x33 p false 0 e := fun e => (if_neg (by decide)).trans (if_pos (.inl rfl))
  unfold changeState
  rw [target]
  dsimp only
  rw [old, if_neg moves, unstopped, woken, listens]
  refine after (portEnded ..) (after (refreshOversub ..) (after (chordOnState_listen ..) (after (svcOnState_listen ..) (after (enterListen ..) ?_))))
  refine after (when (fun _ => clearMeasures ..) ..) (after (neighbours_listen ..) (after (stateClaims ..) (after (calOnPort ..) (after (ended _) ?_))))
  exact after (raise ..) (after (setAttr ..) (leaveState_dormant ..))

theorem partnerLost_dormant {p : Nat} {d : Dev} (hd : attr d PORT_STATE p = psDormant) (cause : Nat) : PowerFrame d (partnerLost p cause d) := by
  unfold partnerLost
  refine ite (changeState_dormant hd cause) ?_
  dsimp only
  refine after (changeState_dormant ?_ cause) (after (raise ..) (after (bump ..) (setAttr ..)))
  rw [bystander_portState.attr_raise, attr_bump_ne _ _ _ _ (by decide) (by decide) (by decide), attr_setAttr_ne _ _ _ _ (by decide) (by decide) (by decide), hd]

theorem of_svc {d e : Dev} (h : SvcFrame d e) : PowerFrame d e where
  set := (congrArg (fun x : Dev => x.power.set) h.rest :)
  attrs b hb i := h.attrs b (domainAttr_lt hb) (fun hc => absurd hb (by rw [hc]; decide)) i

theorem exitDormant (p : Nat) (host : Bool) (d : Dev) : PowerFrame d (exitDormant p host d) := by
  unfold Machine.exitDormant
  exact ite (refl d) (after (arm ..) (after (modTx ..) (after (of_svc (.startWake ..)) (after (modQuiet ..) (after (setAttr ..) (setAttr ..))))))

/-! #### Firings and reports that waited (R410, R417) -/

theorem modPower (g : Power → Power) (d : Dev) (hg : ∀ x, (g x).set = x.set := by exact fun _ => rfl) : PowerFrame d (modPower g d) := of_same rfl (hg d.power)

theorem finishFiring (x : Firing) (d : Dev) : PowerFrame d (finishFiring x d) := by
  unfold Machine.finishFiring
  extract_lets d1 d2
  have told : PowerFrame d d1 := after (raise ..) (modPower _ _)
  have pulsed : PowerFrame d d2 := ite (after (arm ..) (after (modPower _ _) told)) told
  exact ite (after (exitDormant ..) pulsed) pulsed

theorem startFiring (n source p : Nat) (d : Dev) : PowerFrame d (startFiring n source p d) := by
  unfold Machine.startFiring
  extract_lets ps left d1 x
  have begun : PowerFrame d d1 := ite (after (disarm ..) (setAttr ..)) (refl d)
  exact ite (after (finishFiring ..) begun) (after (modPower _ _) begun)

theorem unarmedWake (p source : Nat) (page : Bool) (d : Dev) : PowerFrame d (unarmedWake p source page d) := by
  unfold Machine.unarmedWake
  split
  · exact refl d
  · rename_i hd
    have dormant : attr d PORT_STATE p = psDormant := not_not.1 hd
    refine ite (modPower _ _) (ite (ite (exitDormant ..) (ite (partnerLost_dormant dormant _) (refl d))) ?_)
    exact after (raise ..) (setAttr ..)

theorem releaseWakes (n : Nat) (d : Dev) : PowerFrame d (releaseWakes n d) := by
  induction n generalizing d with
  | zero => exact refl d
  | succ n ih =>
    unfold Machine.releaseWakes
    refine ite (refl d) ?_
    split
    · exact after (ih _) (after (startFiring ..) (modPower _ _))
    · exact after (foldl (fun _ _ => unarmedWake ..) ..) (modPower _ _)

/-! #### The drain of a domain and training that a POWER_SET suspends (R405, R408, R532) -/

theorem abortBistRun (d : Dev) : PowerFrame d (abortBistRun d) := by
  have level : ∀ e : Dev, PowerFrame e (strobeLevel false e) := fun e => ite (setAttr ..) (refl e)
  have off : ∀ e : Dev, PowerFrame e { e with strobe := false } := fun _ => of_same rfl rfl
  unfold Machine.abortBistRun
  split
  · exact refl d
  · refine ite (after (complete ..) (after (modBist ..) (after (off _) (after (level _) (of_same rfl rfl))))) ?_
    unfold finishBistRun
    split
    · exact refl d
    · exact after (complete ..) (after (modBist ..) (after (off _) (level _)))

theorem abortScans (k : Nat) (d : Dev) : PowerFrame d (abortScans k d) :=
  have ended : ∀ (r : CheckRun) (e : Dev), PowerFrame e { e with scans := e.scans.filter fun x => !(x.job == r.job) } := fun _ _ => of_same rfl rfl
  foldl (fun e r => after (complete ..) (after (setBlock ..) (ended r e))) _ d

theorem drainDomain (k : Nat) (d : Dev) : PowerFrame d (drainDomain k d) := by
  unfold Machine.drainDomain
  extract_lets d1 d2
  have released : PowerFrame d d1 := ite (releaseCal ..) (ite (forAll releaseCal ..) (refl d))
  have stopped : PowerFrame d d2 := by
    dsimp only [d2]
    split
    · exact ite (after (stopSlice ..) released) released
    · exact released
  exact after (abortScans ..) (ite (after (abortBistRun ..) stopped) stopped)

theorem dropTraining (pair : Nat) (d : Dev) : PowerFrame d (dropTraining pair d) := by
  unfold Machine.dropTraining
  split
  · exact refl d
  · extract_lets d1
    have dropped : PowerFrame d d1 := after (disarm ..) (modLink ..)
    split
    · exact after (setAttr ..) dropped
    · exact dropped

theorem abandonStart (pair : Nat) (d : Dev) : PowerFrame d (abandonStart pair d) := by
  unfold Machine.abandonStart
  refine ite (after (forAll (fun g e => after (setAttr ..) (forAll (fun k x => ?_) ..)) ..) (dropTraining ..)) (disarm ..)
  exact ite (setAttr ..) (refl x)

end PowerFrame

/-- R408, R409: a POWER_SET is over, whatever waited for its end; no domain moves. -/
theorem finishPower_ends (x : PowerSet) (status : Nat) (result : List Byte) (d : Dev) :
    (finishPower x status result d).power.set = none
    ∧ ∀ b : Attr, b.code / 65536 = clsDomain → ∀ i, attr (finishPower x status result d) b i = attr d b i := by
  let d0 := modPower (fun y => { y with set := none }) d
  have ended : PowerFrame d0 (finishPower x status result d) := by
    unfold finishPower
    extract_lets d1 d2
    have told : PowerFrame d0 d1 := .complete ..
    exact .after (.releaseWakes ..) (.ite told (.after (.forAll (fun _ _ => .arm ..) ..) told))
  exact ⟨ended.set, fun b hb i => (ended.attrs b hb i).trans (attr_congr rfl b i)⟩

end Sys2Proof.Machine

namespace Sys2Proof.Machine

-- In order, so that no thread waits for the lemmas before it.
set_option Elab.async false

/-! ### A domain changes its state (R402 to R414) -/

/-- The POWER_SET under way and the states of the domains stand as before. -/
structure DomainFrame (d e : Dev) : Prop where
  set : e.power.set = d.power.set
  states : ∀ k, domainState e k = domainState d k

namespace DomainFrame
variable {d e f : Dev}

theorem of_power (h : PowerFrame d e) : DomainFrame d e := ⟨h.set, h.attrs DOMAIN_STATE (by decide)⟩

theorem refl (d : Dev) : DomainFrame d d := of_power (.refl d)

/-- Transitivity with the later step first. -/
theorem after (k : DomainFrame e f) (h : DomainFrame d e) : DomainFrame d f := ⟨k.set.trans h.set, fun j => (k.states j).trans (h.states j)⟩

theorem ite {c : Prop} [Decidable c] {x y : Dev} (hx : DomainFrame d x) (hy : DomainFrame d y) : DomainFrame d (if c then x else y) := by
  split
  · exact hx
  · exact hy

theorem setAttr {a : Attr} {d : Dev} (i v : Nat) (ha : DOMAIN_STATE.code ≠ a.code := by decide) (hl : a.code < 2 ^ 24 := by decide) :
    DomainFrame d (setAttr a i v d) where
  set := congrArg Power.set (setAttr_power ..)
  states k := attr_setAttr_ne i v k d ha hl (by decide)

end DomainFrame

namespace PowerFrame
variable {d e : Dev}

theorem foldl_mem {α : Type} {g : Dev → α → Dev} {l : List α} (h : ∀ x ∈ l, ∀ e, PowerFrame e (g e x)) (d : Dev) : PowerFrame d (l.foldl g d) := by
  induction l generalizing d with
  | nil => exact refl d
  | cons x l ih => exact after (ih (fun y hy => h y (List.mem_cons_of_mem x hy)) _) (h x List.mem_cons_self d)

theorem domainAttrs_class (k : Nat) : ∀ r ∈ domainAttrs k, r.1 ≠ clsDomain := by
  unfold domainAttrs
  repeat' split
  all_goals simp [clsPort, clsCal, clsPrism, clsSvc, clsGroup, clsLane, clsBist, clsDomain]

/-- R406: what a domain restarts belongs to no domain's own class. -/
theorem restartAttrs (k : Nat) (d : Dev) : PowerFrame d (restartAttrs k d) := by
  unfold Machine.restartAttrs
  refine foldl_mem (fun r hr e => ?_) d
  have other := domainAttrs_class k r hr
  refine foldl_mem (fun a ha e => forAll (fun i x => ite (setBlock ..) ?_) ..) e
  obtain ⟨listed, picked⟩ := List.mem_filter.1 ha
  obtain ⟨cls, id, -, -⟩ := catalogue_fields a listed
  simp only [Bool.and_eq_true, beq_iff_eq, decide_eq_true_iff] at picked
  obtain ⟨⟨⟨⟨⟨same, -⟩, -⟩, -⟩, -⟩, -⟩ := picked
  have code : a.code / 65536 = a.cls := by
    unfold Attr.code
    omega
  refine setAttr i _ (by rw [code, same]; exact other) ?_
  unfold Attr.code
  omega

/-- R414: a port in DORMANT falls to LISTEN; one in LISTEN stays there. -/
theorem changeState_falls {p : Nat} {d : Dev} (h : attr d PORT_STATE p = psDormant ∨ attr d PORT_STATE p = psListen) (why : Nat) :
    PowerFrame d (changeState p psListen why d)
    ∧ ∀ i, attr (changeState p psListen why d) PORT_STATE i = if i = p then psListen else attr d PORT_STATE i := by
  have target : stopTarget d p psListen why = (psListen, why) := if_neg fun hs => by
    rcases h with h | h
    · exact absurd hs.2.1 (by rw [stateOf, h]; decide)
    · exact absurd hs.2.1 (by rw [stateOf, h]; decide)
  refine ⟨?_, state_after_change target .listen⟩
  rcases h with h | h
  · exact changeState_dormant h why
  · have stays : changeState p psListen why d = d := by
      unfold changeState
      rw [target]
      exact if_pos h
    rw [stays]
    exact refl d

theorem dormantLost (ps : List Nat) (d : Dev) : PowerFrame d (dormantLost ps d) := by
  have lost : ∀ (l : List Nat) (e : Dev), (∀ p ∈ l, attr e PORT_STATE p = psDormant ∨ attr e PORT_STATE p = psListen) →
      PowerFrame e (Machine.forAll l (fun p => changeState p psListen causeRetentionLost) e) := by
    intro l
    induction l with
    | nil => exact fun e _ => refl e
    | cons q l ih =>
      intro e he
      obtain ⟨framed, state⟩ := changeState_falls (he q List.mem_cons_self) causeRetentionLost
      refine after (ih (changeState q psListen causeRetentionLost e) fun p hp => ?_) framed
      rw [state]
      split
      · exact .inr rfl
      · exact he p (List.mem_cons_of_mem q hp)
  refine lost _ _ fun p hp => .inl ?_
  exact eq_of_beq (List.mem_filter.1 hp).2

theorem loseLogic (k : Nat) (d : Dev) : PowerFrame d (loseLogic k d) := by
  unfold Machine.loseLogic
  exact ite (forAll (fun _ _ => modRx ..) ..) (ite (forAll (fun _ _ => after (modSvc ..) (modRx ..)) ..) (refl d))

theorem loseCoefficients (k : Nat) (d : Dev) : PowerFrame d (loseCoefficients k d) := forAll (fun _ _ => modLink ..) ..

theorem restartClock (m : Nat) (d : Dev) : PowerFrame d (restartClock m d) := after (setAttr ..) (modPrism ..)

end PowerFrame

namespace DomainFrame
variable {d e : Dev}

theorem retentionLost (k : Nat) (d : Dev) : DomainFrame d (retentionLost k d) := by
  unfold Machine.retentionLost
  extract_lets stored cleared d1
  have told : DomainFrame d d1 := after (of_power (.raise ..)) (setAttr ..)
  refine ite (after (of_power (.forAll (fun _ _ => .modItem ..) ..)) told) (ite (after (of_power (.dormantLost ..)) told) (ite ?prism
    (ite (after (of_power (.loseCoefficients ..)) told) (ite ?bist told))))
  case prism => exact after (of_power (.after (.dormantLost ..) (.forAll (fun _ _ => .setBlock ..) ..))) told
  case bist => exact after (of_power (.after (.modBist ..) (.after (.setAttr ..) (.setAttr ..)))) told

/-- R402: of the states of the domains, a change writes its own. -/
theorem changeDomain (k new source set p : Nat) (good : Bool) (d : Dev) :
    DomainFrame (Machine.setAttr DOMAIN_STATE k new d) (changeDomain k new source set p good d) := by
  unfold Machine.changeDomain
  extract_lets old d1 d2 d3 d4 d5
  have told : DomainFrame (Machine.setAttr DOMAIN_STATE k new d) d1 := of_power (.raise ..)
  have woken : DomainFrame (Machine.setAttr DOMAIN_STATE k new d) d2 := after (setAttr ..) (after (setAttr ..) (after (setAttr ..) (after (setAttr ..) told)))
  have clocked : DomainFrame (Machine.setAttr DOMAIN_STATE k new d) d3 := ite (after (of_power (.restartClock ..)) woken) woken
  have released : DomainFrame (Machine.setAttr DOMAIN_STATE k new d) d4 := after (setAttr ..) clocked
  have left : DomainFrame (Machine.setAttr DOMAIN_STATE k new d) d5 := after (setAttr ..) (ite (after (setAttr ..) told) told)
  refine ite (ite (ite released (after (retentionLost ..) released)) ?off) (ite ?sleep told)
  case off => exact after (of_power (.after (.loseCoefficients ..) (.after (.forAll (fun _ _ => .modItem ..) ..) (.after (.loseLogic ..) (.restartAttrs ..))))) clocked
  case sleep => exact after (of_power (.forAll (fun _ _ => .after (.setAttr ..) (.modItem ..)) ..)) left

end DomainFrame

end Sys2Proof.Machine

namespace Sys2Proof.Machine

-- In order, so that no thread waits for the lemmas before it.
set_option Elab.async false

/-! ### The phases of POWER_SET (R407, R408) -/

/-- R408: a POWER_SET after the answers of some domains. -/
def answeredPower (d : Dev) (x : PowerSet) (ks : List Nat) (late : Bool) : PowerSet :=
  let now := ks.filter x.waiting.contains
  { x with
    waiting := x.waiting.filter fun k => !now.contains k
    refusals := x.refusals ++ now.filterMap fun k =>
      if late then some (k, 9, 0) else if domainState d k < x.state then (judgeDomain d k x.state).map fun r => (k, r.1, r.2) else none }

theorem answerDomains_eq {d : Dev} {x : PowerSet} (hs : d.power.set = some x) (hc : x.committing = false) (ks : List Nat) (late : Bool) :
    answerDomains ks late d
      = if (answeredPower d x ks late).waiting.isEmpty then decidePower (answeredPower d x ks late) d
        else modPower (fun z => { z with set := some (answeredPower d x ks late) }) d := by
  have open_ : ¬x.committing = true := by simp [hc]
  unfold answerDomains
  rw [hs]
  dsimp only
  rw [if_neg open_]
  rfl

theorem commitOrder_ne_nil {st : Nat} {ks : List Nat} (h : ks ≠ []) : commitOrder st ks ≠ [] := by
  obtain ⟨k, hk⟩ := List.exists_mem_of_ne_nil ks h
  have placed : k ∈ commitOrder st ks := by
    unfold commitOrder
    by_cases orphan : (parentsOf k).isEmpty = true
    · split
      · exact List.mem_append_left _ (List.mem_filter.2 ⟨hk, orphan⟩)
      · exact List.mem_append_right _ (List.mem_filter.2 ⟨hk, orphan⟩)
    · have child : (!(parentsOf k).isEmpty) = true := by simpa using orphan
      split
      · exact List.mem_append_right _ (List.mem_filter.2 ⟨hk, child⟩)
      · exact List.mem_append_left _ (List.mem_filter.2 ⟨hk, child⟩)
  exact List.ne_nil_of_mem placed

/-- R408: a POWER_SET that nobody refused, as it begins to commit. -/
def committingPower (d : Dev) (x : PowerSet) : PowerSet :=
  { x with committing := true, left := commitOrder x.state (x.mask.filter fun k => domainState d k != x.state) }

theorem decidePower_agrees {d : Dev} {x : PowerSet} (hr : x.refusals = []) :
    decidePower x d = if (committingPower d x).left.isEmpty then finishPower (committingPower d x) stOk (powerResult x.state 0 0xFFFF 0 0) (disarm tkPrepare 0 d)
      else modPower (fun z => { z with set := some (committingPower d x) }) (disarm tkPrepare 0 d) := by
  have none : x.refusals.isEmpty = true := by rw [hr]; rfl
  unfold decidePower
  dsimp only
  rw [if_pos none]
  rfl

theorem decidePower_refused {d : Dev} {x : PowerSet} (hr : x.refusals ≠ []) :
    ∃ status result, decidePower x d
      = finishPower x status result (forAll (x.refusals.map (·.1)) (fun k => bump DOMAIN_REFUSALS k 1) (disarm tkPrepare 0 d)) := by
  have some : ¬x.refusals.isEmpty = true := by simpa using hr
  unfold decidePower
  dsimp only
  rw [if_neg some]
  exact ⟨_, _, rfl⟩

/-! ### POWER_SET (R407) -/

section Asked
variable (c : Call) (d : Dev)

/-- R407: the domains named. -/
def namedDomains : List Nat := maskList c.params 4 195

/-- R408: the domains that drain first. -/
def drainedDomains : List Nat := (namedDomains c).filter fun k => byteAt c.params 0 != 0 && domainState d k == 0

/-- R407: POWER_SET as it begins. -/
def askedPower : PowerSet :=
  ⟨callRef c, byteAt c.params 0, namedDomains c, namedDomains c, [], false, [], suspendedPairs d (namedDomains c) (byteAt c.params 0)⟩

/-- R407, R408: the block with the named domains draining and the limit of their answers running. -/
def powerPreparing : Dev :=
  arm tkPrepare 0 ((if leAt c.params 2 2 = 0 then 10 else leAt c.params 2 2) * nsPerMs)
    (forAll (suspendedPairs d (namedDomains c) (byteAt c.params 0)) abandonStart
      (forAll (drainedDomains c d) drainDomain (modPower (fun y => { y with set := some (askedPower c d) }) (addJob c d))))

theorem powerPreparing_frame :
    PowerFrame (modPower (fun y => { y with set := some (askedPower c d) }) (addJob c d)) (powerPreparing c d) :=
  .after (.arm ..) (.after (.forAll .abandonStart ..) (.forAll .drainDomain ..))

theorem powerPreparing_set : (powerPreparing c d).power.set = some (askedPower c d) := (powerPreparing_frame c d).set

theorem powerPreparing_state (k : Nat) : domainState (powerPreparing c d) k = domainState d k :=
  ((powerPreparing_frame c d).attrs DOMAIN_STATE (by decide) k).trans (attr_congr rfl _ k)

theorem powerPreparing_timed : armed (powerPreparing c d) tkPrepare 0 = true := by rw [powerPreparing, armed_arm]

end Asked

theorem powerBreach_congr {d e : Dev} (h : ∀ k, domainState e k = domainState d k) (mask : List Nat) (st : Nat) :
    powerBreach e mask st = powerBreach d mask st := by
  have same : domainState e = domainState d := funext h
  unfold powerBreach stateAfter
  rw [same]

/-- R407: the conditions of its parameters that every POWER_SET meets. -/
structure PowerAsked (c : Call) (d : Dev) : Prop where
  state : byteAt c.params 0 ≤ 2
  reserved : leAt c.params 1 1 = 0
  time : leAt c.params 2 2 ≤ 1000
  some : namedDomains c ≠ []
  byte : byteAt c.params 28 < 8
  tail : leAt c.params 29 3 = 0
  legal : powerBreach d (namedDomains c) (byteAt c.params 0) = none
  noSet : d.power.set = none
  noFiring : d.power.firing = none

/-- R405: the domains that a POWER_SET to another state than ON may not name. -/
def barred (c : Call) (k : Nat) : Bool :=
  k == 194 || (if c.master < 2 then [] else [168 + 4 * (c.master - 2), 176 + 4 * (c.master - 2)]).contains k

theorem bodyPowerSet_accepts {c : Call} {d : Dev} (h : PowerAsked c d) (hb : byteAt c.params 0 ≠ 0 → ∀ k ∈ namedDomains c, barred c k = false)
    (mem : List Host.Cell) : bodyPowerSet mem c d
      = .accept [] (answerDomains ((namedDomains c).filter fun k => !(drainedDomains c d).contains k) false (powerPreparing c d)) := by
  obtain ⟨state, reserved, time, named, byte, tail, legal, noSet, noFiring⟩ := h
  have some : (maskList c.params 4 195).isEmpty = false := List.isEmpty_eq_false_iff.2 named
  have allowed : byteAt c.params 0 ≠ 0 → (namedDomains c).filterMap (fun k => if k = 194 then Option.some (k, 7, 0)
      else if (if c.master < 2 then [] else [168 + 4 * (c.master - 2), 176 + 4 * (c.master - 2)]).contains k then Option.some (k, 8, 0) else none) = [] := fun hn => by
    refine List.filterMap_eq_nil_iff.2 fun k hk => ?_
    have free := hb hn k hk
    rw [barred, Bool.or_eq_false_iff] at free
    obtain ⟨axis, own⟩ := free
    rw [if_neg (by simpa using axis), if_neg (by rw [own]; decide)]
  unfold bodyPowerSet
  dsimp only
  rw [need_of (by simp [state, reservedZero, reserved, time, some, byte, tail]), if_neg (fun hs => hs.2 (allowed hs.1))]
  have lawful : powerBreach d (maskList c.params 4 195) (byteAt c.params 0) = none := legal
  rw [lawful]
  dsimp only
  rw [need_of (by simp [noSet, noFiring])]
  rfl

section PowerSetRow
variable {r : Req} {s : State} (ht : Claims.Takes 0x60 r s) (hl : r.params.length = 32) (h1 : byteAt r.params 1 = 0) (h2 : leAt r.params 2 2 ≤ 1000)
  (hm : maskList r.params 4 195 ≠ []) (h28 : byteAt r.params 28 < 8) (h29 : leAt r.params 29 3 = 0) (hs : s.dev.power.set = none)
  (hf : s.dev.power.firing = none)
include ht hl h1 h2 hm h28 h29 hs hf

omit ht hl in
theorem powerAsked_takenDev (h0 : byteAt r.params 0 ≤ 2) (hb : powerBreach s.dev (maskList r.params 4 195) (byteAt r.params 0) = none) :
    PowerAsked (takenCall 0x60 r s) (takenDev 0x60 r s) where
  state := h0
  reserved := by
    show leAt r.params 1 1 = 0
    have one : leAt r.params 1 1 = byteAt r.params 1 := by simp [leAt]
    rw [one, h1]
  time := h2
  some := hm
  byte := h28
  tail := h29
  legal := (powerBreach_congr (fun k => domainState_takenDev 0x60 r s k) ..).trans hb
  noSet := by rw [takenDev_power, hs]
  noFiring := by rw [takenDev_power, hf]

/-- R407: what an accepted POWER_SET leaves. -/
theorem powerSet_accepted (h0 : byteAt r.params 0 ≤ 2) (hb : powerBreach s.dev (maskList r.params 4 195) (byteAt r.params 0) = none)
    (hn : byteAt r.params 0 ≠ 0 → ∀ k ∈ maskList r.params 4 195, barred (takenCall 0x60 r s) k = false) :
    ∃ t, exec (.powerSet r) s = .next t ∧ Claims.Replied 0x60 stAccepted r [] s t
      ∧ CameTo (answerDomains ((maskList r.params 4 195).filter fun k => !(drainedDomains (takenCall 0x60 r s) (takenDev 0x60 r s)).contains k) false
          (powerPreparing (takenCall 0x60 r s) (takenDev 0x60 r s))) s t :=
  issueOut_starts ht (by rw [hl]; decide) (bodyPowerSet_accepts (powerAsked_takenDev h1 h2 hm h28 h29 hs hf h0 hb) hn s.mem)

/-- R408: the domains that are ON drain, and nobody has answered yet. -/
theorem powerSet_prepares (hlo : 1 ≤ byteAt r.params 0) (hhi : byteAt r.params 0 ≤ 2) (hx : 194 ∉ maskList r.params 4 195)
    (hown : 2 ≤ r.master.val → ∀ k ∈ maskList r.params 4 195, k ≠ 168 + 4 * (r.master.val - 2) ∧ k ≠ 176 + 4 * (r.master.val - 2))
    (hon : ∀ k ∈ maskList r.params 4 195, domainState s.dev k = 0) (hb : powerBreach s.dev (maskList r.params 4 195) (byteAt r.params 0) = none) :
    ∃ t x, exec (.powerSet r) s = .next t ∧ Claims.Replied 0x60 stAccepted r [] s t ∧ t.dev.power.set = some x ∧ x.job = ⟨r.master, r.tag.toNat⟩
      ∧ x.state = byteAt r.params 0 ∧ x.mask = maskList r.params 4 195 ∧ x.waiting = maskList r.params 4 195 ∧ x.committing = false ∧ x.refusals = []
      ∧ armed t.dev tkPrepare 0 = true ∧ t.mem = s.mem := by
  let c := takenCall 0x60 r s
  let d := takenDev 0x60 r s
  have free : byteAt r.params 0 ≠ 0 → ∀ k ∈ maskList r.params 4 195, barred (takenCall 0x60 r s) k = false := fun _ k hk => by
    have axis : k ≠ 194 := fun h => hx (h ▸ hk)
    rw [barred, Bool.or_eq_false_iff]
    refine ⟨beq_false_of_ne axis, ?_⟩
    split
    · rfl
    · rename_i host
      obtain ⟨up, down⟩ := hown (Nat.not_lt.1 host) k hk
      simpa [takenCall] using ⟨up, down⟩
  obtain ⟨t, ran, replied, came⟩ := powerSet_accepted ht hl h1 h2 hm h28 h29 hs hf hhi hb free
  have drained : drainedDomains c d = maskList r.params 4 195 := by
    refine List.filter_eq_self.2 fun k hk => ?_
    have on : domainState d k = 0 := (domainState_takenDev 0x60 r s k).trans (hon k hk)
    have lower : byteAt c.params 0 ≠ 0 := Nat.one_le_iff_ne_zero.1 hlo
    rw [Bool.and_eq_true, bne_iff_ne, beq_iff_eq]
    exact ⟨lower, on⟩
  have nobody : ((maskList r.params 4 195).filter fun k => !(drainedDomains c d).contains k) = [] := by
    rw [drained]
    exact List.filter_eq_nil_iff.2 fun k hk => by simpa using hk
  have waits : (answeredPower (powerPreparing c d) (askedPower c d) [] false).waiting = maskList r.params 4 195 :=
    List.filter_eq_self.2 fun _ _ => rfl
  have still : answerDomains [] false (powerPreparing c d)
      = modPower (fun z => { z with set := some (answeredPower (powerPreparing c d) (askedPower c d) [] false) }) (powerPreparing c d) := by
    rw [answerDomains_eq (powerPreparing_set c d) rfl, waits, if_neg (by simpa using hm)]
  rw [nobody, still] at came
  refine ⟨t, _, ran, replied, came.field fun e => e.power.set, rfl, rfl, rfl, waits, rfl, rfl, ?_, came.mem⟩
  rw [came.armed, armed_congr (modPower_timers ..), powerPreparing_timed]

section ToOn
variable (h0 : byteAt r.params 0 = 0) (hb : powerBreach s.dev (maskList r.params 4 195) 0 = none)
include h0 hb

/-- R408: where no domain drains, all answer at once. -/
theorem powerSet_agrees : ∃ t e, exec (.powerSet r) s = .next t ∧ Claims.Replied 0x60 stAccepted r [] s t
    ∧ (∀ k, domainState e k = domainState s.dev k) ∧ ∃ x : PowerSet, x.state = 0 ∧ x.mask = maskList r.params 4 195 ∧ x.refusals = []
      ∧ CameTo (decidePower x e) s t := by
  let c := takenCall 0x60 r s
  let d := takenDev 0x60 r s
  obtain ⟨t, ran, replied, came⟩ := powerSet_accepted ht hl h1 h2 hm h28 h29 hs hf (by omega) (by rw [h0, hb]) (fun hn => absurd h0 hn)
  have on : byteAt c.params 0 = 0 := h0
  have state : ∀ k, domainState (powerPreparing c d) k = domainState s.dev k := fun k =>
    (powerPreparing_state c d k).trans (domainState_takenDev 0x60 r s k)
  have none : drainedDomains c d = [] := List.filter_eq_nil_iff.2 fun k _ => by rw [on]; simp
  have all : ((maskList r.params 4 195).filter fun k => !(drainedDomains c d).contains k) = maskList r.params 4 195 := by
    rw [none]
    exact List.filter_eq_self.2 fun _ _ => rfl
  have toOn : (askedPower c d).state = 0 := h0
  have agree : (answeredPower (powerPreparing c d) (askedPower c d) (maskList r.params 4 195) false).refusals = [] := by
    have nobody : ∀ ks : List Nat, (ks.filterMap fun k => if false = true then some (k, 9, 0)
        else if domainState (powerPreparing c d) k < (askedPower c d).state then (judgeDomain (powerPreparing c d) k (askedPower c d).state).map fun r => (k, r.1, r.2)
        else Option.none) = [] := fun ks => List.filterMap_eq_nil_iff.2 fun k _ => by
      rw [if_neg Bool.false_ne_true, toOn, if_neg (Nat.not_lt_zero _)]
    exact (congrArg (([] : List (Nat × Nat × Nat)) ++ ·) (nobody _)).trans rfl
  have over_ : (answeredPower (powerPreparing c d) (askedPower c d) (maskList r.params 4 195) false).waiting.isEmpty = true := by
    rw [List.isEmpty_iff]
    refine List.filter_eq_nil_iff.2 fun k hk => ?_
    have member : k ∈ maskList r.params 4 195 := hk
    have heard : k ∈ (maskList r.params 4 195).filter (askedPower c d).waiting.contains := List.mem_filter.2 ⟨member, List.contains_iff_mem.2 hk⟩
    simpa using heard
  rw [all, answerDomains_eq (powerPreparing_set c d) rfl, if_pos over_] at came
  exact ⟨t, _, ran, replied, state, _, h0, rfl, agree, came⟩

theorem powerSet_commits (hn : ∃ k ∈ maskList r.params 4 195, domainState s.dev k ≠ 0) :
    ∃ t x, exec (.powerSet r) s = .next t ∧ Claims.Replied 0x60 stAccepted r [] s t ∧ t.dev.power.set = some x ∧ x.state = 0 ∧ x.committing = true
      ∧ x.left = commitOrder 0 ((maskList r.params 4 195).filter fun k => domainState s.dev k != 0) ∧ t.mem = s.mem := by
  obtain ⟨t, e, ran, replied, state, x, on, named, agree, came⟩ := powerSet_agrees ht hl h1 h2 hm h28 h29 hs hf h0 hb
  have same : domainState e = domainState s.dev := funext state
  have left : (committingPower e x).left = commitOrder 0 ((maskList r.params 4 195).filter fun k => domainState s.dev k != 0) := by
    unfold committingPower
    rw [same, on, named]
  have changes : (maskList r.params 4 195).filter (fun k => domainState s.dev k != 0) ≠ [] := by
    obtain ⟨k, hk, off⟩ := hn
    exact List.ne_nil_of_mem (List.mem_filter.2 ⟨hk, bne_iff_ne.2 off⟩)
  rw [decidePower_agrees agree, left, if_neg (by simpa using commitOrder_ne_nil changes)] at came
  exact ⟨t, _, ran, replied, came.field fun e => e.power.set, on, rfl, left, came.mem⟩

theorem powerSet_doneAtOnce (hn : ∀ k ∈ maskList r.params 4 195, domainState s.dev k = 0) :
    ∃ t, exec (.powerSet r) s = .next t ∧ Claims.Replied 0x60 stAccepted r [] s t ∧ t.dev.power.set = none
      ∧ (∀ k, k < 195 → domainState t.dev k = domainState s.dev k) ∧ t.mem = s.mem := by
  obtain ⟨t, e, ran, replied, state, x, on, named, agree, came⟩ := powerSet_agrees ht hl h1 h2 hm h28 h29 hs hf h0 hb
  have same : domainState e = domainState s.dev := funext state
  have none : (maskList r.params 4 195).filter (fun k => domainState s.dev k != 0) = [] :=
    List.filter_eq_nil_iff.2 fun k hk => by rw [hn k hk]; decide
  have left : (committingPower e x).left = [] := by
    unfold committingPower
    rw [same, on, named, none]
    rfl
  rw [decidePower_agrees agree, left, List.isEmpty_nil, if_pos rfl] at came
  obtain ⟨ended, states⟩ := finishPower_ends (committingPower e x) stOk (powerResult x.state 0 0xFFFF 0 0) (disarm tkPrepare 0 e)
  refine ⟨t, ran, replied, (came.field fun e => e.power.set).trans ended, fun k _ => ?_, came.mem⟩
  exact (came.attr DOMAIN_STATE k).trans ((states DOMAIN_STATE (by decide) k).trans ((attr_disarm ..).trans (state k)))

end ToOn

end PowerSetRow

/-! ### Answers (R408) -/

section Answers
variable {s : State} {x : PowerSet} (hs : s.dev.power.set = some x) (hc : x.committing = false)
include hs hc

section LastAnswer
variable {k : Fin 195} (hw : x.waiting = [k.val]) (hr : x.refusals = [])
include hw hr

omit hs hc hr in
theorem answeredPower_waiting (d : Dev) : (answeredPower d x [k.val] false).waiting = [] := by
  simp [answeredPower, hw]

omit hr in
theorem powerPrepareAnswer_decides : exec (.powerPrepareAnswer k) s = .next { s with dev := decidePower (answeredPower s.dev x [k.val] false) s.dev } := by
  have ran : exec (.powerPrepareAnswer k) s = .next { s with dev := answerDomains [k.val] false s.dev } := rfl
  rw [ran, answerDomains_eq hs hc, answeredPower_waiting hw, List.isEmpty_nil, if_pos rfl]

theorem powerPrepareAnswer_agrees (hj : judgeDomain s.dev k x.state = none)
    (hn : commitOrder x.state (x.mask.filter fun j => domainState s.dev j != x.state) ≠ []) :
    ∃ t, exec (.powerPrepareAnswer k) s = .next t ∧ armed t.dev tkPrepare 0 = false ∧ Claims.KeepsAttrs [] s t ∧ t.mem = s.mem
      ∧ t.dev.power.set = some { x with waiting := [], committing := true, left := commitOrder x.state (x.mask.filter fun j => domainState s.dev j != x.state) } := by
  have answers : answeredPower s.dev x [k.val] false = { x with waiting := [] } := by
    obtain ⟨job, state, mask, waiting, refusals, committing, left, paused⟩ := x
    simp only at hw hr hj
    simp [answeredPower, hw, hr, hj]
  have left : (committingPower s.dev { x with waiting := [] }).left = commitOrder x.state (x.mask.filter fun j => domainState s.dev j != x.state) := rfl
  rw [powerPrepareAnswer_decides hs hc hw, answers, decidePower_agrees (x := { x with waiting := [] }) hr, left, if_neg (by simpa using hn)]
  refine ⟨_, rfl, ?_, keepsAttrs_dev (keepsOthers_of_attrs rfl), rfl, rfl⟩
  dsimp only
  rw [armed_congr (modPower_timers ..), armed_disarm]

theorem powerPrepareAnswer_refuses (hl : domainState s.dev k < x.state) (why : Nat × Nat) (hj : judgeDomain s.dev k x.state = some why) :
    ∃ t, exec (.powerPrepareAnswer k) s = .next t ∧ t.dev.power.set = none ∧ domainState t.dev k = domainState s.dev k
      ∧ attr t.dev DOMAIN_REFUSALS k = (attr s.dev DOMAIN_REFUSALS k + 1) % 2 ^ DOMAIN_REFUSALS.width ∧ t.mem = s.mem := by
  have refused : (answeredPower s.dev x [k.val] false).refusals = [(k.val, why.1, why.2)] := by
    simp [answeredPower, hw, hr, hj, hl]
  obtain ⟨status, result, decided⟩ := decidePower_refused (d := s.dev) (x := answeredPower s.dev x [k.val] false) (by rw [refused]; exact List.cons_ne_nil _ _)
  have counted : forAll ((answeredPower s.dev x [k.val] false).refusals.map (·.1)) (fun k => bump DOMAIN_REFUSALS k 1) (disarm tkPrepare 0 s.dev)
      = bump DOMAIN_REFUSALS k 1 (disarm tkPrepare 0 s.dev) := by
    rw [refused]
    rfl
  obtain ⟨ended, attrs⟩ := finishPower_ends (answeredPower s.dev x [k.val] false) status result (bump DOMAIN_REFUSALS k 1 (disarm tkPrepare 0 s.dev))
  rw [powerPrepareAnswer_decides hs hc hw, decided, counted]
  refine ⟨_, rfl, ended, (attrs DOMAIN_STATE (by decide) k).trans ?_, (attrs DOMAIN_REFUSALS (by decide) k).trans ?_, rfl⟩
  · rw [attr_bump_ne _ _ _ _ (by decide) (by decide) (by decide), attr_disarm]
    rfl
  · rw [attr_bump, attr_disarm]

end LastAnswer

theorem powerPrepareTimeout_ends (hd : due s.dev tkPrepare 0 = true) (hn : x.waiting ≠ []) (hk : ∀ k ∈ x.waiting, k < 195) :
    ∃ t, exec .powerPrepareTimeout s = .next t ∧ t.dev.power.set = none ∧ t.mem = s.mem := by
  have ran : exec .powerPrepareTimeout s = .next { s with dev := answerDomains (List.range 195) true (disarm tkPrepare 0 s.dev) } := exec_onExpiry hd
  have set : (disarm tkPrepare 0 s.dev).power.set = some x := hs
  have heard : ∀ k ∈ x.waiting, k ∈ (List.range 195).filter x.waiting.contains := fun k hm =>
    List.mem_filter.2 ⟨List.mem_range.2 (hk k hm), List.contains_iff_mem.2 hm⟩
  have none : (answeredPower (disarm tkPrepare 0 s.dev) x (List.range 195) true).waiting = [] :=
    List.filter_eq_nil_iff.2 fun k hm => by simpa using heard k hm
  have refused : (answeredPower (disarm tkPrepare 0 s.dev) x (List.range 195) true).refusals ≠ [] := by
    obtain ⟨k, hm⟩ := List.exists_mem_of_ne_nil _ hn
    have late : (k, 9, 0) ∈ (answeredPower (disarm tkPrepare 0 s.dev) x (List.range 195) true).refusals :=
      List.mem_append_right _ (List.mem_filterMap.2 ⟨k, heard k hm, rfl⟩)
    exact List.ne_nil_of_mem late
  obtain ⟨status, result, decided⟩ := decidePower_refused (d := disarm tkPrepare 0 s.dev) refused
  rw [ran, answerDomains_eq set hc, none, List.isEmpty_nil, if_pos rfl, decided]
  exact ⟨_, rfl, (finishPower_ends ..).1, rfl⟩

end Answers

/-! ### Commits (R410) -/

theorem domainCommitDone_commits {s : State} (k : Fin 195) (x : PowerSet) (good : Bool) (hb : s.dev.brownout = none) (hs : s.dev.power.set = some x)
    (hc : x.committing = true) (h2 : x.state ≤ 2) (hm : mayChange k x.state x.left = true) :
    ∃ t, exec (.domainCommitDone k good) s = .next t ∧ attr t.dev DOMAIN_STATE k = x.state ∧ t.mem = s.mem
      ∧ t.dev.power.set = (if x.left.filter (· != k.val) = [] then none else some { x with left := x.left.filter (· != k.val) }) := by
  let y : PowerSet := { x with left := x.left.filter (· != k.val) }
  let e := changeDomain k x.state 1 0xFF 0xFF good (modPower (fun z => { z with set := some y }) s.dev)
  have standing : ¬s.dev.brownout.isSome = true := by simp [hb]
  have turn : ¬(x.committing = false ∨ mayChange k x.state x.left = false) := by simp [hc, hm]
  have done : commitDone k good s.dev = if y.left.isEmpty then finishPower y stOk (powerResult x.state 0 0xFFFF 0 0) e else e := by
    unfold commitDone
    rw [if_neg standing, hs]
    dsimp only
    rw [if_neg turn]
  have ran : exec (.domainCommitDone k good) s = .next { s with dev := commitDone k good s.dev } := rfl
  obtain ⟨set, states⟩ := DomainFrame.changeDomain k x.state 1 0xFF 0xFF good (modPower (fun z => { z with set := some y }) s.dev)
  have written : attr e DOMAIN_STATE k = x.state := by
    have width : x.state % 2 ^ DOMAIN_STATE.width = x.state := Nat.mod_eq_of_lt (by have w : DOMAIN_STATE.width = 8 := rfl; rw [w]; omega)
    exact (states k).trans ((attr_setAttr ..).trans width)
  rw [ran, done]
  by_cases last : x.left.filter (· != k.val) = []
  · obtain ⟨ended, attrs⟩ := finishPower_ends y stOk (powerResult x.state 0 0xFFFF 0 0) e
    have empty : y.left.isEmpty = true := List.isEmpty_iff.2 last
    rw [if_pos empty, if_pos last]
    exact ⟨_, rfl, (attrs DOMAIN_STATE (by decide) k).trans written, rfl, ended⟩
  · have more : ¬y.left.isEmpty = true := fun h => last (List.isEmpty_iff.1 h)
    rw [if_neg more, if_neg last]
    exact ⟨_, rfl, written, rfl, set⟩

/-- Settles O49. What drains, waits and follows a POWER_SET moves neither the command nor a domain's state (`PowerFrame`, `finishPower_ends`); a
change of domain writes its own state alone (`DomainFrame.changeDomain`). -/
theorem powerSetPhases : Obligations.power_set_phases := by
  unfold Obligations.power_set_phases
  refine fun s => ⟨fun r ht hl h1 h2 hm h28 h29 hs hf => ⟨?prepare, ?commit, ?once⟩, fun k x hs hc hw hr hl => ⟨?agree, ?refuse⟩, ?late, ?done⟩
  case prepare => exact fun hlo hhi hx hown hon hb => powerSet_prepares ht hl h1 h2 hm h28 h29 hs hf hlo hhi hx hown hon hb
  case commit => exact fun h0 hb hn => powerSet_commits ht hl h1 h2 hm h28 h29 hs hf h0 hb hn
  case once => exact fun h0 hn hb => powerSet_doneAtOnce ht hl h1 h2 hm h28 h29 hs hf h0 hb hn
  case agree => exact fun hj hn => powerPrepareAnswer_agrees hs hc hw hr hj hn
  case refuse => exact fun why hj => powerPrepareAnswer_refuses hs hc hw hr hl why hj
  case late => exact fun x hd hs hc hn hk => powerPrepareTimeout_ends hs hc hd hn hk
  case done => exact fun k x good hb hs hc h2 hm => domainCommitDone_commits k x good hb hs hc h2 hm

end Sys2Proof.Machine

namespace Sys2Proof.Machine

-- In order, so that no thread waits for the lemmas before it.
set_option Elab.async false

/-! ### PAD_RELEASE (R412) -/

theorem attr_forAll_cleared (l : List Nat) (d : Dev) (k : Nat) :
    attr (forAll l (fun k => setAttr DOMAIN_PADS_LATCHED k 0) d) DOMAIN_PADS_LATCHED k = if k ∈ l then 0 else attr d DOMAIN_PADS_LATCHED k := by
  induction l generalizing d with
  | nil => rfl
  | cons q l ih =>
    refine (ih _).trans ?_
    by_cases hl : k ∈ l
    · rw [if_pos hl, if_pos (List.mem_cons_of_mem q hl)]
    · rw [if_neg hl]
      by_cases hq : k = q
      · rw [hq, if_pos List.mem_cons_self, attr_setAttr]
        rfl
      · rw [if_neg (by simp [hq, hl]), attr_setAttr_inst _ _ _ hq]

theorem keepsOthers_forAll_cleared {changed : List (Nat × Nat)} {l : List Nat} (h : ∀ k ∈ l, (DOMAIN_PADS_LATCHED.code, k) ∈ changed) (d : Dev) :
    KeepsOthers changed d (forAll l (fun k => setAttr DOMAIN_PADS_LATCHED k 0) d) := by
  induction l generalizing d with
  | nil => exact KeepsOthers.refl
  | cons q l ih =>
    exact (keepsOthers_setAttr 0 d (by decide) (h q List.mem_cons_self)).trans (ih (fun k hk => h k (List.mem_cons_of_mem q hk)) _)

section Pads
variable {r : Req} {s : State}

/-- R412: the named domains whose pads are latched. -/
def latchedPads (r : Req) (d : Dev) : List Nat := (maskList r.params 0 195).filter fun k => attrOn d DOMAIN_PADS_LATCHED k

theorem latchedPads_takenDev : latchedPads r (takenDev 0x61 r s) = latchedPads r s.dev :=
  List.filter_congr fun k _ => congrArg (· != 0) (takenDev_read _ _ _ DOMAIN_PADS_LATCHED k)

theorem bodyPadRelease_releases (hm : maskList r.params 0 195 ≠ []) (h24 : byteAt r.params 24 < 8) (h25 : leAt r.params 25 3 = 0)
    (hs : s.dev.power.set = none) (hon : ∀ k ∈ maskList r.params 0 195, domainState s.dev k = 0) :
    bodyPadRelease s.mem (takenCall 0x61 r s) (takenDev 0x61 r s) = .done (maskBytes (latchedPads r s.dev) 25)
      (forAll (latchedPads r s.dev) (fun k => setAttr DOMAIN_PADS_LATCHED k 0) (takenDev 0x61 r s)) .keep := by
  have named : (maskList r.params 0 195).isEmpty = false := List.isEmpty_eq_false_iff.2 hm
  have on : ((maskList r.params 0 195).all fun k => domainState (takenDev 0x61 r s) k == 0
      && !((takenDev 0x61 r s).power.set.any fun x => x.mask.contains k)) = true := List.all_eq_true.2 fun k hk => by
    rw [takenDev_power, hs, domainState, domainState_takenDev]
    exact (congrArg (fun v => v == 0 && !false) (hon k hk)).trans rfl
  unfold bodyPadRelease
  dsimp only [takenCall]
  rw [need_of (by simp [named, h24, reservedZero, h25]), need_of on]
  rw [← latchedPads_takenDev]
  rfl

theorem padRelease_releases (ht : Claims.Takes 0x61 r s) (hl : r.params.length = 28) (hm : maskList r.params 0 195 ≠ []) (h24 : byteAt r.params 24 < 8)
    (h25 : leAt r.params 25 3 = 0) (hs : s.dev.power.set = none) (hon : ∀ k ∈ maskList r.params 0 195, domainState s.dev k = 0) :
    ∃ t, exec (.padRelease r) s = .next t ∧ (∀ k ∈ maskList r.params 0 195, attr t.dev DOMAIN_PADS_LATCHED k = 0)
      ∧ Claims.Replied 0x61 stOk r (maskBytes ((maskList r.params 0 195).filter fun k => attrOn s.dev DOMAIN_PADS_LATCHED k) 25) s t
      ∧ Claims.KeepsAttrs ((maskList r.params 0 195).map fun k => (DOMAIN_PADS_LATCHED.code, k)) s t ∧ t.mem = s.mem := by
  obtain ⟨t, ran, replied, came⟩ := issueOut_ends ht (by rw [hl]; decide) (bodyPadRelease_releases hm h24 h25 hs hon)
  refine ⟨t, ran, fun k hk => ?_, replied, came.keepsAttrs (keepsOthers_forAll_cleared (fun k hk => ?_) _), came.mem⟩
  · rw [came.attr, attr_forAll_cleared]
    split
    · rfl
    · rename_i unlatched
      have off : ¬attrOn s.dev DOMAIN_PADS_LATCHED k = true := fun h => unlatched (List.mem_filter.2 ⟨hk, h⟩)
      rw [takenDev_read _ _ _ DOMAIN_PADS_LATCHED k]
      simpa [attrOn] using off
  · exact List.mem_map.2 ⟨k, (List.mem_filter.1 hk).1, rfl⟩

end Pads

/-! ### WAKE_ARM (R416) -/

theorem bitOf_withBit_true (v r n : Nat) : bitOf (withBit v r true) n = (bitOf v n || n == r) := by
  have raised : withBit v r true = v ||| 2 ^ r := rfl
  rw [raised, bitOf, bitOf, Nat.testBit_or, Nat.testBit_two_pow]
  congr 1
  exact Bool.eq_iff_iff.2 (by rw [decide_eq_true_iff, beq_iff_eq]; exact eq_comm)

theorem bitOf_withBit_same (v n : Nat) (b : Bool) : bitOf (withBit v n b) n = b := by
  cases b
  · simp [bitOf_withBit_false]
  · simp [bitOf_withBit_true]

/-- A bit of an attribute, written. -/
theorem bitOf_setAttr_withBit {a : Attr} {n : Nat} (hn : n < a.width) (i v : Nat) (b : Bool) (d : Dev) :
    bitOf (attr (setAttr a i (withBit v n b) d) a i) n = b := by
  rw [attr_setAttr, bitOf, Nat.testBit_mod_two_pow, decide_eq_true hn, Bool.true_and]
  exact bitOf_withBit_same v n b

section Arm
variable {r : Req} {s : State} {n : Nat}

/-- R416: the block with a set armed, or disarmed, before its timer. -/
def wakeSetWritten (ps : List Byte) (n : Nat) (d : Dev) : Dev :=
  setAttr DEVICE_WAKE_ARMED 0 (withBit (attr d DEVICE_WAKE_ARMED 0) n (byteAt ps 1 != 0)) (setBlock DEVICE_WAKE_SET n ps d)

/-- R416, R417: and with its timer. -/
def wakeSetArmed (ps : List Byte) (n : Nat) (d : Dev) : Dev :=
  if leAt ps 4 4 = 0 then disarm tkWakeTimer n (wakeSetWritten ps n d) else arm tkWakeTimer n (leAt ps 4 4 * nsPerMs) (wakeSetWritten ps n d)

theorem wakeSetArmed_same (ps : List Byte) (n : Nat) (d : Dev) :
    (wakeSetArmed ps n d).attrs = (wakeSetWritten ps n d).attrs ∧ (wakeSetArmed ps n d).blocks = (wakeSetWritten ps n d).blocks
    ∧ armed (wakeSetArmed ps n d) tkWakeTimer n = decide (leAt ps 4 4 ≠ 0) := by
  unfold wakeSetArmed
  split
  · rename_i h
    exact ⟨disarm_attrs .., disarm_blocks .., by rw [armed_disarm, h]; rfl⟩
  · rename_i h
    exact ⟨arm_attrs .., arm_blocks .., by rw [armed_arm, decide_eq_true h]⟩

theorem gpioConflict_congr {d e : Dev} (ha : wakeArmed e = wakeArmed d) (hp : wakeParams e = wakeParams d) (hs : e.strobe = d.strobe) (n pin : Nat)
    (rising : Bool) : gpioConflict e n pin rising = gpioConflict d n pin rising := by
  unfold gpioConflict gpioHolders
  rw [ha, hp, hs]

theorem gpioConflict_takenDev (op n pin : Nat) (rising : Bool) : gpioConflict (takenDev op r s) n pin rising = gpioConflict s.dev n pin rising :=
  gpioConflict_congr (funext fun m => congrArg (bitOf · m) (takenDev_read op r s DEVICE_WAKE_ARMED 0)) (funext fun m => block_congr (takenDev_blocks ..) _ m)
    (takenDev_strobe ..) n pin rising

/-- R416: the parameters of WAKE_ARM that are in range. -/
structure WakeSetAsked (ps : List Byte) (n : Nat) : Prop where
  set : byteAt ps 0 = n
  known : n ≤ 7
  sources : byteAt ps 1 < 32
  pin : byteAt ps 2 < 4
  flags : byteAt ps 3 < 16
  time : leAt ps 4 4 ≤ 86400000
  timed : wakeSource ps 3 = true ↔ leAt ps 4 4 ≠ 0
  ports : wakeSource ps 1 = true ∨ wakeSource ps 2 = true → maskPorts ps 8 ≠ []
  axis : 194 ∉ maskList ps 24 195
  parents : ∀ k ∈ maskList ps 24 195, ∀ j ∈ parentsOf k, j ∈ maskList ps 24 195
  top : byteAt ps 48 < 8
  tail : leAt ps 49 3 = 0

theorem bodyWakeArm_arms (h : WakeSetAsked r.params n)
    (hg : wakeSource r.params 4 = true → gpioConflict s.dev n (byteAt r.params 2) (bitOf (byteAt r.params 3) 1) = none) :
    bodyWakeArm s.mem (takenCall 0x62 r s) (takenDev 0x62 r s) = .done [] (wakeSetArmed r.params n (takenDev 0x62 r s)) .keep := by
  obtain ⟨set, known, sources, pin, flags, time, timed, ports, axis, parents, top, tail⟩ := h
  have timer : (wakeSource r.params 3 == decide (leAt r.params 4 4 ≠ 0)) = true := by
    rw [beq_iff_eq]
    exact Bool.eq_iff_iff.2 (by rw [timed, decide_eq_true_iff])
  have masked : (!((wakeSource r.params 1 || wakeSource r.params 2) && (maskPorts r.params 8).isEmpty)) = true := by
    rw [Bool.not_eq_true', Bool.and_eq_false_iff]
    by_cases both : (wakeSource r.params 1 || wakeSource r.params 2) = true
    · exact .inr (List.isEmpty_eq_false_iff.2 (ports (Bool.or_eq_true_iff.1 both)))
    · exact .inl (Bool.eq_false_iff.2 both)
  have closed : ((maskList r.params 24 195).all fun k => (parentsOf k).all (maskList r.params 24 195).contains) = true :=
    List.all_eq_true.2 fun k hk => List.all_eq_true.2 fun j hj => List.contains_iff_mem.2 (parents k hk j hj)
  have free : (if wakeSource r.params 4 = true then gpioConflict (takenDev 0x62 r s) n (byteAt r.params 2) (bitOf (byteAt r.params 3) 1) else none) = none := by
    split
    · rename_i pinned
      rw [gpioConflict_takenDev]
      exact hg pinned
    · rfl
  have unlisted : (!(maskList r.params 24 195).contains 194) = true := by simpa using axis
  unfold bodyWakeArm
  dsimp only [takenCall]
  rw [set, need_of (by rw [timer, masked, closed, unlisted]; simp [known, sources, pin, flags, time, top, reservedZero, tail]), free]
  rfl

theorem wakeArm_arms (ht : Claims.Takes 0x62 r s) (hl : r.params.length = 52) (h : WakeSetAsked r.params n)
    (hg : wakeSource r.params 4 = true → gpioConflict s.dev n (byteAt r.params 2) (bitOf (byteAt r.params 3) 1) = none) :
    ∃ t, exec (.wakeArm r) s = .next t ∧ Claims.Replied 0x62 stOk r [] s t ∧ wakeArmed t.dev n = decide (byteAt r.params 1 ≠ 0)
      ∧ wakeParams t.dev n = r.params ∧ armed t.dev tkWakeTimer n = decide (leAt r.params 4 4 ≠ 0)
      ∧ Claims.KeepsAttrs [(DEVICE_WAKE_ARMED.code, 0)] s t ∧ t.mem = s.mem := by
  obtain ⟨t, ran, replied, came⟩ := issueOut_ends ht (by rw [hl]; decide) (bodyWakeArm_arms h hg)
  obtain ⟨attrs, blocks, timed⟩ := wakeSetArmed_same r.params n (takenDev 0x62 r s)
  have small : n < DEVICE_WAKE_ARMED.width := by
    have width : DEVICE_WAKE_ARMED.width = 8 := rfl
    have known := h.known
    omega
  have written : KeepsOthers [(DEVICE_WAKE_ARMED.code, 0)] (takenDev 0x62 r s) (wakeSetWritten r.params n (takenDev 0x62 r s)) :=
    KeepsOthers.wrote (keepsOthers_of_attrs (setBlock_attrs ..))
  refine ⟨t, ran, replied, ?_, ?_, (came.armed ..).trans timed, came.keepsAttrs (written.same attrs), came.mem⟩
  · rw [wakeArmed, came.attr, attr_congr attrs, wakeSetWritten, bitOf_setAttr_withBit small]
    exact Bool.eq_iff_iff.2 (by rw [bne_iff_ne, decide_eq_true_iff])
  · rw [wakeParams, came.block, block_congr blocks, wakeSetWritten, block_congr (setAttr_blocks ..), block_setBlock]
    exact fitBytes_exact hl

end Arm

/-! ### Edges (R415) -/

section Edges
variable (d : Dev)

theorem pins_exitDormant (p : Nat) (host : Bool) : attr (exitDormant p host d) DEVICE_PIN_STATE 0 = attr d DEVICE_PIN_STATE 0 := by
  unfold exitDormant
  refine attr_ite rfl ?_
  dsimp only
  rw [attr_arm, attr_modTx, (SvcFrame.startWake ..).attrs _ (by decide) (by decide), attr_modQuiet, attr_setAttr_ne _ _ _ _ (by decide) (by decide) (by decide),
    attr_setAttr_ne _ _ _ _ (by decide) (by decide) (by decide)]

theorem attr_modPower (g : Power → Power) (b : Attr) (i : Nat) : attr (modPower g d) b i = attr d b i := attr_congr (modPower_attrs ..) b i

theorem pins_finishFiring (x : Firing) : attr (finishFiring x d) DEVICE_PIN_STATE 0 = attr d DEVICE_PIN_STATE 0 := by
  have told : ∀ cls inst type detail, attr (raise cls inst type detail (modPower (fun y => { y with firing := none }) d)) DEVICE_PIN_STATE 0
      = attr d DEVICE_PIN_STATE 0 := fun _ _ _ _ => (attr_raise _ _ _ _ _ _ _ (by unfold noEventAttr; decide)).trans (attr_modPower ..)
  unfold finishFiring
  extract_lets d1 d2
  have pulsed : attr d2 DEVICE_PIN_STATE 0 = attr d DEVICE_PIN_STATE 0 :=
    attr_ite ((attr_arm ..).trans ((attr_modPower ..).trans (told ..))) (told ..)
  exact attr_ite ((pins_exitDormant ..).trans pulsed) pulsed

theorem pins_fireSet (n source p : Nat) : attr (fireSet n source p d) DEVICE_PIN_STATE 0 = attr d DEVICE_PIN_STATE 0 := by
  unfold fireSet
  refine attr_ite (attr_ite rfl (attr_modPower ..)) ?_
  unfold startFiring
  extract_lets ps left d1 x
  have begun : attr d1 DEVICE_PIN_STATE 0 = attr d DEVICE_PIN_STATE 0 :=
    attr_ite ((attr_disarm ..).trans (attr_setAttr_ne _ _ _ _ (by decide) (by decide) (by decide))) rfl
  exact attr_ite ((pins_finishFiring ..).trans begun) ((attr_modPower ..).trans begun)

/-- R415: a set that fires moves no input pin. -/
theorem pins_fireAll (source p : Nat) (test : List Byte → Bool) : attr (fireAll source p test d) DEVICE_PIN_STATE 0 = attr d DEVICE_PIN_STATE 0 := by
  unfold fireAll
  exact attr_ite (attr_forAll (fun n e => pins_fireSet e n source p) _ d) rfl

end Edges

section EdgeRows
variable {s : State}

theorem wakeInEdge_follows (rising : Bool) :
    ∃ t, exec (.wakeInEdge rising) s = .next t ∧ bitOf (attr t.dev DEVICE_PIN_STATE 0) 0 = rising ∧ t.mem = s.mem := by
  refine ⟨{ s with dev := wakeInEdge rising s.dev }, rfl, ?_, rfl⟩
  show bitOf (attr (wakeInEdge rising s.dev) DEVICE_PIN_STATE 0) 0 = rising
  rw [wakeInEdge, pins_fireAll, setPin]
  exact bitOf_setAttr_withBit (by decide) ..

theorem gpioEdge_follows (pin : Fin 4) (rising : Bool) :
    ∃ t, exec (.gpioEdge pin rising) s = .next t ∧ bitOf (attr t.dev DEVICE_PIN_STATE 0) (2 + pin.val) = rising ∧ t.mem = s.mem := by
  refine ⟨{ s with dev := gpioEdge pin.val rising s.dev }, rfl, ?_, rfl⟩
  have width : DEVICE_PIN_STATE.width = 16 := rfl
  show bitOf (attr (gpioEdge pin.val rising s.dev) DEVICE_PIN_STATE 0) (2 + pin.val) = rising
  rw [gpioEdge, pins_fireAll, setPin]
  exact bitOf_setAttr_withBit (by omega) ..

end EdgeRows

end Sys2Proof.Machine

namespace Sys2Proof.Machine

-- In order, so that no thread waits for the lemmas before it.
set_option Elab.async false

/-! ### Line energy (R418) -/

section LineEnergy
variable {p : Fin 128} {s : State} (hr : isReady s.dev = true) (hd : attr s.dev PORT_STATE p = psDormant) (hs : s.dev.power.set = none)
  (hf : firingSets s.dev (fun ps => wakeSource ps 1 && maskBit ps 8 p) = [])
include hr hd hs hf

/-- R418: where no set is armed for it, the sentinel's own rules take the energy. -/
theorem lineEnergyWake_unarmed (page : Bool) : exec (.lineEnergyWake p page) s = .next { s with
    dev := if pathOn s.dev p then (if page then partnerLost p causePartnerReset s.dev else s.dev)
      else raise clsPort p evWakeHeld 3 (setAttr PORT_WAKE_PENDING p 1 s.dev) } := by
  have ran : exec (.lineEnergyWake p page) s = .next { s with dev := lineEnergy p page s.dev } := rfl
  have heard : ¬(isReady s.dev = false ∨ (stateOf s.dev p ≠ psDown ∧ stateOf s.dev p ≠ psDormant)) := by simp [hr, hd]
  have dormant : ¬stateOf s.dev p ≠ psDormant := not_not.2 hd
  have free : ¬(s.dev.power.set.isSome = true ∧ (pathDomains p).any (fun k => s.dev.power.set.any fun x => x.mask.contains k) = true) := by simp [hs]
  have unarmed : lineEnergy p page s.dev = unarmedWake p 3 page s.dev := by
    unfold lineEnergy
    rw [if_neg heard]
    exact if_pos hf
  rw [ran, unarmed]
  unfold unarmedWake
  rw [if_neg dormant, if_neg free]
  rfl

theorem lineEnergyWake_resets (ho : pathOn s.dev p = true) :
    ∃ t, exec (.lineEnergyWake p true) s = .next t ∧ attr t.dev PORT_STATE p = psListen ∧ t.mem = s.mem := by
  rw [lineEnergyWake_unarmed hr hd hs hf, if_pos ho, if_pos rfl]
  refine ⟨_, rfl, ?_, rfl⟩
  show attr (partnerLost p causePartnerReset s.dev) PORT_STATE p = psListen
  unfold partnerLost
  split
  · exact ((PowerFrame.changeState_falls (.inl hd) _).2 p).trans (if_pos rfl)
  · refine ((PowerFrame.changeState_falls (.inl ?_) _).2 p).trans (if_pos rfl)
    rw [bystander_portState.attr_raise, attr_bump_ne _ _ _ _ (by decide) (by decide) (by decide), attr_setAttr_ne _ _ _ _ (by decide) (by decide) (by decide), hd]

theorem lineEnergyWake_holds (ho : pathOn s.dev p = false) (page : Bool) :
    ∃ t, exec (.lineEnergyWake p page) s = .next t ∧ attr t.dev PORT_WAKE_PENDING p = 1 ∧ attr t.dev PORT_STATE p = psDormant ∧ t.mem = s.mem := by
  have told : KeepsOthers [(PORT_WAKE_PENDING.code, p.val)] s.dev (raise clsPort p evWakeHeld 3 (setAttr PORT_WAKE_PENDING p 1 s.dev)) :=
    KeepsOthers.raised (KeepsOthers.refl.wrote)
  rw [lineEnergyWake_unarmed hr hd hs hf, if_neg (by rw [ho]; decide)]
  refine ⟨_, rfl, ?_, (told.read PORT_STATE p).trans hd, rfl⟩
  exact (attr_raise _ _ _ _ _ _ _ (by unfold noEventAttr; decide)).trans (attr_setAttr ..)

end LineEnergy

/-! ### WAKE bursts (R189, R195) -/

section WakeBurst
variable {p : Fin 128} {s : State} {e : Dev}

theorem exec_wakeBurst : exec (.svcWakeBurst p) s = .next { s with dev := wakeBurst p s.dev } := rfl

/-- R189: the block once the reception of a WAKE burst is over. -/
def wakeHeard (p : Nat) (d : Dev) : Dev :=
  match headOf d p 3 with
  | some _ => receptionOver p d
  | none => d

/-- R195: the count of WAKE bursts, and the end of a sequence under way. -/
def wakeEnded (p : Nat) (d : Dev) : Dev := modSvc p (fun x => { x with wakeLeft := 0 }) (disarm tkWakeNext p (bump SVC_WAKE_RX p 1 d))

theorem wakeBurst_eq (p : Nat) (d : Dev) (he : wakeHeard p d = e) (hr : isReady e = true) (hb : (svc e p).blanked = false)
    (hs : attr e PORT_STATE p ≠ psDormant) :
    wakeBurst p d = if (svc e p).wakeLeft ≠ 0 then wakeEnded p e
      else if attr e PORT_STATE p = psQuiet ∧ pathOn e p = true then sendWake p (bump SVC_WAKE_RX p 1 e) else bump SVC_WAKE_RX p 1 e := by
  subst he
  have heard : ¬(isReady (wakeHeard p d) = false ∨ (svc (wakeHeard p d) p).blanked = true) := by simp [hr, hb]
  have open_ : wakeBurst p d
      = if isReady (wakeHeard p d) = false ∨ (svc (wakeHeard p d) p).blanked = true then wakeHeard p d
        else if stateOf (wakeHeard p d) p = psQuiet then
          if (svc (wakeHeard p d) p).wakeLeft ≠ 0 then wakeEnded p (wakeHeard p d)
          else if pathOn (wakeHeard p d) p = true then sendWake p (bump SVC_WAKE_RX p 1 (wakeHeard p d)) else bump SVC_WAKE_RX p 1 (wakeHeard p d)
        else if stateOf (wakeHeard p d) p = psDormant then
          if (quiet (wakeHeard p d) p).decidedAt ≠ 0 then disarm tkWakeUnanswered p (modQuiet p (fun x => { x with answered := true }) (wakeEnded p (wakeHeard p d)))
          else
            if firingSets (wakeHeard p d) (fun ps => wakeSource ps 2 && maskBit ps 8 p) = [] then unarmedWake p 4 false (bump SVC_WAKE_RX p 1 (wakeHeard p d))
            else fireAll 4 p (fun ps => wakeSource ps 2 && maskBit ps 8 p) (bump SVC_WAKE_RX p 1 (wakeHeard p d))
        else if (svc (wakeHeard p d) p).wakeLeft ≠ 0 then wakeEnded p (wakeHeard p d)
        else bump SVC_WAKE_RX p 1 (wakeHeard p d) := by
    unfold wakeBurst wakeHeard wakeEnded
    rfl
  rw [open_, if_neg heard]
  by_cases hq : stateOf (wakeHeard p d) p = psQuiet
  · rw [if_pos hq]
    simp only [hq, true_and]
  · have awake : ¬(attr (wakeHeard p d) PORT_STATE p = psQuiet ∧ pathOn (wakeHeard p d) p = true) := fun h => hq h.1
    rw [if_neg hq, if_neg hs, if_neg awake]

theorem wakeHeard_none (h : headOf s.dev p 3 = none) : wakeHeard p s.dev = s.dev := by rw [wakeHeard, h]

/-- R195: a WAKE burst received ends the sequence under way. -/
theorem svcWakeBurst_ends (hr : isReady s.dev = true) (hh : headOf s.dev p 3 = none) (hb : (svc s.dev p).blanked = false)
    (hs : attr s.dev PORT_STATE p = psCarry ∨ attr s.dev PORT_STATE p = psQuiet) (hw : (svc s.dev p).wakeLeft ≠ 0) :
    ∃ t, exec (.svcWakeBurst p) s = .next t ∧ (svc t.dev p).wakeLeft = 0 ∧ armed t.dev tkWakeNext p = false
      ∧ attr t.dev SVC_WAKE_RX p = (attr s.dev SVC_WAKE_RX p + 1) % 2 ^ 32 ∧ Claims.KeepsAttrs [(SVC_WAKE_RX.code, p)] s t ∧ t.mem = s.mem := by
  have awake : attr s.dev PORT_STATE p ≠ psDormant := by
    rcases hs with hs | hs
    · rw [hs]; decide
    · rw [hs]; decide
  have kept : KeepsOthers [(SVC_WAKE_RX.code, p.val)] s.dev (bump SVC_WAKE_RX p 1 s.dev) := KeepsOthers.refl.counted
  rw [exec_wakeBurst, wakeBurst_eq p s.dev (wakeHeard_none hh) hr hb awake, if_pos hw, wakeEnded]
  refine ⟨_, rfl, ?_, ?_, ?_, keepsAttrs_dev ((kept.untimed (k := tkWakeNext) (i := p)).same rfl), rfl⟩
  · exact congrArg Svc.wakeLeft (svc_modSvc ..)
  · exact (armed_congr (modSvc_timers ..) ..).trans (armed_disarm ..)
  · exact (attr_modSvc ..).trans ((attr_disarm ..).trans (attr_bump ..))

theorem sendWake_counts (p : Nat) (d : Dev) : attr (sendWake p d) SVC_BURSTS_TX p = (attr d SVC_BURSTS_TX p + 1) % 2 ^ 32
    ∧ KeepsOthers [(SVC_BURSTS_TX.code, p)] d (sendWake p d) := ⟨attr_putBurst .., (BurstFrame.putBurst ..).attrs⟩

/-- R189: in QUIET with its path powered, the port answers with a WAKE of its own. -/
theorem svcWakeBurst_answers (hr : isReady s.dev = true) (hh : headOf s.dev p 3 = none) (hb : (svc s.dev p).blanked = false)
    (hs : attr s.dev PORT_STATE p = psQuiet) (hw : (svc s.dev p).wakeLeft = 0) (ho : pathOn s.dev p = true) :
    ∃ t, exec (.svcWakeBurst p) s = .next t ∧ attr t.dev SVC_WAKE_RX p = (attr s.dev SVC_WAKE_RX p + 1) % 2 ^ 32
      ∧ attr t.dev SVC_BURSTS_TX p = (attr s.dev SVC_BURSTS_TX p + 1) % 2 ^ 32
      ∧ Claims.KeepsAttrs [(SVC_WAKE_RX.code, p), (SVC_BURSTS_TX.code, p)] s t ∧ t.mem = s.mem := by
  obtain ⟨sent, framed⟩ := sendWake_counts p (bump SVC_WAKE_RX p 1 s.dev)
  have counted : KeepsOthers [(SVC_WAKE_RX.code, p.val)] s.dev (bump SVC_WAKE_RX p 1 s.dev) := KeepsOthers.refl.counted
  rw [exec_wakeBurst, wakeBurst_eq p s.dev (wakeHeard_none hh) hr hb (by rw [hs]; decide), if_neg (not_not.2 hw), if_pos ⟨hs, ho⟩]
  refine ⟨_, rfl, (framed.read SVC_WAKE_RX p).trans (attr_bump ..), sent.trans ?_, keepsAttrs_dev ?_, rfl⟩
  · rw [counted.read SVC_BURSTS_TX p]
  · exact (counted.weaken (by simp)).trans (framed.weaken (by simp))

theorem svcWakeBurst_sends (he : wakeHeard p s.dev = e) (hs : attr e PORT_STATE p = psQuiet) (hr : isReady e = true) (hb : (svc e p).blanked = false)
    (hw : (svc e p).wakeLeft = 0) (ho : pathOn e p = true) :
    exec (.svcWakeBurst p) s = .next { s with dev := sendWake p (bump SVC_WAKE_RX p 1 e) } := by
  rw [exec_wakeBurst, wakeBurst_eq p s.dev he hr hb (by rw [hs]; decide), if_neg (not_not.2 hw), if_pos ⟨hs, ho⟩]

end WakeBurst

/-! ### Timers of wake sets (R417) -/

theorem wakeSetTimer_waits {s : State} (n : Fin 8) (hd : due s.dev tkWakeTimer n = true) (ha : wakeArmed s.dev n = true) (hs : s.dev.power.set ≠ none) :
    ∃ t, exec (.wakeSetTimer n) s = .next t ∧ t.dev.power.waiting =
        (if bitOf (byteAt (wakeParams s.dev n) 3) 2 ∧ (s.dev.power.waiting.any fun w => w.1 == n.val) = true then s.dev.power.waiting
          else s.dev.power.waiting ++ [(n.val, 5, 0xFF)])
      ∧ Claims.KeepsAttrs [] s t ∧ t.mem = s.mem := by
  let d := disarm tkWakeTimer n s.dev
  have ran : exec (.wakeSetTimer n) s = .next { s with dev := fireSet n 5 0xFF d } :=
    (exec_onExpiry hd).trans (congrArg (fun e => Host.Outcome.next { s with dev := e }) (if_pos ha))
  have busy : (d.power.set.isSome || d.power.firing.isSome) = true := by
    rw [Bool.or_eq_true_iff]
    exact .inl (Option.isSome_iff_ne_none.2 hs)
  have queued : fireSet n 5 0xFF d = if bitOf (byteAt (wakeParams s.dev n) 3) 2 ∧ (s.dev.power.waiting.any fun w => w.1 == n.val) = true then d
      else modPower (fun y => { y with waiting := y.waiting ++ [(n.val, 5, 0xFF)] }) d := if_pos busy
  have kept : KeepsOthers [] s.dev d := KeepsOthers.refl.untimed
  rw [ran, queued]
  refine ⟨_, rfl, ?_, keepsAttrs_dev (kept.branch (kept.same rfl)), rfl⟩
  split
  · rfl
  · rfl

/-- Settles O50. A set that fires moves no input pin (`pins_fireAll`); what a WAKE burst does outside DORMANT is said once (`wakeBurst_eq`). That a
disarmed set keeps its parameters is the model's choice (assumption 76). -/
theorem wakes : Obligations.wakes := by
  unfold Obligations.wakes
  refine fun s => ⟨?pads, ?arm, wakeInEdge_follows, gpioEdge_follows, ?energy, ?sends, ?ends, ?answers, wakeSetTimer_waits, ?pulse⟩
  case pads => exact fun r ht hl hm h24 h25 hs hon => padRelease_releases ht hl hm h24 h25 hs hon
  case arm =>
    intro r n ht hl h0 h7 h1 h2 h3 ht4 htimed hports haxis hparents h48 h49 hg
    exact wakeArm_arms ht hl ⟨h0, h7, h1, h2, h3, ht4, htimed, hports, haxis, hparents, h48, h49⟩ hg
  case energy => exact fun p hr hd hs hf => ⟨lineEnergyWake_resets hr hd hs hf, lineEnergyWake_holds hr hd hs hf⟩
  case sends =>
    intro p e _ he hs hr hb hw ho
    refine svcWakeBurst_sends ?_ hs hr hb hw ho
    rw [he]
    rfl
  case ends => exact fun p hr hh hb hs hw => svcWakeBurst_ends hr hh hb hs hw
  case answers => exact fun p hr hh hb hs hw ho => svcWakeBurst_answers hr hh hb hs hw ho
  case pulse => exact fun hd => ⟨_, exec_onExpiry hd, rfl, keepsAttrs_dev (keepsOthers_of_attrs rfl), rfl⟩

end Sys2Proof.Machine

namespace Sys2Proof.Machine

-- In order, so that no thread waits for the lemmas before it.
set_option Elab.async false

/-! ### Calibration as a taken request finds it -/

section Taken
variable (op : Nat) (r : Req) (s : State)

theorem domainOn_taken : domainOn (takenDev op r s) = domainOn s.dev := funext fun k => domainOn_takenDev op r s k

theorem refPresent_taken : refPresent (takenDev op r s) = refPresent s.dev :=
  funext fun k => congrArg (bitOf · k) (takenDev_read op r s CAL_REF_STATUS 0x0A00)

theorem refsPresent_taken (i : Nat) : refsPresent (takenDev op r s) i = refsPresent s.dev i := by rw [refsPresent, refPresent_taken, refsPresent]

theorem calObstacle_taken (energy : List (Fin 128)) (kind o : Nat) (check : Bool) :
    calObstacle (takenDev op r s) energy kind o check = calObstacle s.dev energy kind o check := by
  unfold calObstacle
  simp only [domainOn_taken, refsPresent_taken, state_takenDev, groupState_takenDev]

theorem claims_taken (p : Nat) : attr (takenDev op r s) PORT_CLAIMS p = attr s.dev PORT_CLAIMS p := takenDev_read op r s PORT_CLAIMS p

theorem snapshotOf_taken (k : Nat) : snapshotOf (takenDev op r s) k = snapshotOf s.dev k := by rw [snapshotOf, takenDev_snapshots, snapshotOf]

theorem calConflict_taken (kind o : Nat) : calConflict (takenDev op r s) kind o = calConflict s.dev kind o := by
  unfold calConflict claimConflict txHolder captureHolder
  simp only [claims_taken, state_takenDev, snapshotOf_taken]

theorem sliceRegion_taken (region : Nat) : sliceRegion (takenDev op r s) region = sliceRegion s.dev region := by
  unfold sliceRegion
  rw [takenDev_bist]

end Taken

/-! ### CAL_RUN (R449) -/

theorem stopSlice_cal (region : Nat) (d : Dev) : (stopSlice region d).cal = d.cal := by
  obtain ⟨b, h⟩ := stopSlice_eq region d
  rw [h]

theorem takeClaim_cal (i : Nat) (d : Dev) : (takeClaim i d).cal = d.cal := by
  unfold takeClaim
  split
  · dsimp only
    split
    · exact (setAttr_cal ..).trans ((setAttr_cal ..).trans (stopSlice_cal ..))
    · exact (setAttr_cal ..).trans (stopSlice_cal ..)
  · rfl

theorem beginOwner_cal (x : CalRun) (d : Dev) : (beginOwner x d).cal = d.cal := by
  unfold beginOwner
  split
  · rfl
  · exact (takeClaim_cal ..).trans (setAttr_cal ..)

section Run
variable {r : Req} {s : State}

/-- R449: the owners that CAL_RUN names. -/
def runOwners (ps : List Byte) : List Nat := if leAt ps 2 2 = 0xFFFF then kindOwners (byteAt ps 0) else [leAt ps 2 2]

/-- R449: the run of a CAL_RUN. -/
def askedRun (c : Call) : CalRun :=
  ⟨callRef c, byteAt c.params 0, byteAt c.params 1 == 1, 256 * byteAt c.params 0 + (runOwners c.params).headD 0, runOwners c.params, [], [], false⟩

theorem kindOwners_lt {kind o : Nat} (h : o ∈ kindOwners kind) : o < 128 := by
  unfold kindOwners at h
  split at h
  all_goals simp only [List.mem_range, List.mem_map, List.mem_singleton, List.not_mem_nil] at h
  all_goals omega

/-- R449: the owners named are those that the statement speaks of, and OWNER is in range. -/
theorem runOwners_of {ps : List Byte} {os : List Nat} (h : os = [leAt ps 2 2] ∧ leAt ps 2 2 ∈ kindOwners (byteAt ps 0)
    ∨ (os = kindOwners (byteAt ps 0) ∧ leAt ps 2 2 = 0xFFFF ∧ byteAt ps 0 ≠ 10)) : runOwners ps = os
      ∧ (if byteAt ps 0 = 10 then leAt ps 2 2 == 0 else leAt ps 2 2 == 0xFFFF || (kindOwners (byteAt ps 0)).contains (leAt ps 2 2)) = true := by
  rcases h with ⟨rfl, one⟩ | ⟨rfl, all, several⟩
  · have small := kindOwners_lt one
    refine ⟨if_neg (by omega), ?_⟩
    split
    · rename_i ten
      rw [ten] at one
      simpa [kindOwners] using one
    · rw [Bool.or_eq_true_iff]
      exact .inr (List.contains_iff_mem.2 one)
  · refine ⟨if_pos all, ?_⟩
    rw [if_neg several, all]
    rfl

/-- R449, R450: what lets a CAL_RUN begin. -/
structure RunAsked (energy : List (Fin 128)) (os : List Nat) (ps : List Byte) (d : Dev) : Prop where
  kind : byteAt ps 0 ≤ 10
  check : byteAt ps 1 ≤ 1
  tail : leAt ps 4 4 = 0
  owners : os = [leAt ps 2 2] ∧ leAt ps 2 2 ∈ kindOwners (byteAt ps 0) ∨ (os = kindOwners (byteAt ps 0) ∧ leAt ps 2 2 = 0xFFFF ∧ byteAt ps 0 ≠ 10)
  state : byteAt ps 0 ≠ 9 ∨ byteAt ps 1 = 1 ∨ attr d DEVICE_LC_STATE 0 = 0 ∨ attr d DEVICE_LC_STATE 0 = 2
  powered : domainOn d 192 = true
  free : ∀ o ∈ os, calObstacle d energy (byteAt ps 0) o (byteAt ps 1 == 1) = 0 ∧ calConflict d (byteAt ps 0) o = none
  apart : ∀ x ∈ d.cal.runs, x.kind = byteAt ps 0 → ∀ o ∈ x.left, o ∉ os
  room : d.cal.runs.length < 2
  noSlice : sliceRegion d 0x500 = false

theorem bodyCalRun_begins {energy : List (Fin 128)} {os : List Nat} {c : Call} {d : Dev} (h : RunAsked energy os c.params d) (mem : List Host.Cell) :
    bodyCalRun energy mem c d
      = .accept [] (beginOwner (askedRun c) (modCal (fun x => { x with runs := x.runs ++ [askedRun c] }) (addJob c d))) := by
  obtain ⟨kind, check, tail, owners, state, powered, free, apart, room, noSlice⟩ := h
  obtain ⟨named, inRange⟩ := runOwners_of owners
  have owned : (if leAt c.params 2 2 = 0xFFFF then kindOwners (byteAt c.params 0) else [leAt c.params 2 2]) = os := named
  have lawful : (byteAt c.params 0 != 9 || byteAt c.params 1 == 1 || attr d DEVICE_LC_STATE 0 == 0 || attr d DEVICE_LC_STATE 0 == 2) = true := by
    simp only [Bool.or_eq_true, bne_iff_ne, beq_iff_eq]
    tauto
  have clear : (os.find? fun o => calObstacle d energy (byteAt c.params 0) o (byteAt c.params 1 == 1) != 0) = none :=
    List.find?_eq_none.2 fun o ho => by rw [(free o ho).1]; decide
  have unclaimed : os.findSome? (calConflict d (byteAt c.params 0)) = none := List.findSome?_eq_none_iff.2 fun o ho => (free o ho).2
  have alone : (!(d.cal.runs.any fun x => x.kind == byteAt c.params 0 && x.left.any os.contains)) = true := by
    rw [Bool.not_eq_true', List.any_eq_false]
    intro x hx hit
    rw [Bool.and_eq_true, beq_iff_eq, List.any_eq_true] at hit
    obtain ⟨same, o, left, listed⟩ := hit
    exact apart x hx same o left (List.contains_iff_mem.1 listed)
  unfold bodyCalRun
  dsimp only
  rw [need_of (by rw [inRange]; simp [kind, check, reservedZero, tail]), need_of lawful, need_of powered, owned, clear]
  dsimp only
  rw [unclaimed]
  dsimp only
  rw [need_of alone, need_of (decide_eq_true room), noSlice, if_neg Bool.false_ne_true, askedRun, named]

theorem calRun_begins {energy : List (Fin 128)} {os : List Nat} (ht : Claims.Takes 0x70 r s) (hl : r.params.length = 8)
    (h : RunAsked energy os r.params s.dev) :
    ∃ t, exec (.calRun r energy) s = .next t ∧ Claims.Replied 0x70 stAccepted r [] s t ∧ t.mem = s.mem
      ∧ t.dev.cal.runs = s.dev.cal.runs
        ++ [⟨⟨r.master, r.tag.toNat⟩, byteAt r.params 0, byteAt r.params 1 == 1, 256 * byteAt r.params 0 + os.headD 0, os, [], [], false⟩] := by
  have named : runOwners r.params = os := (runOwners_of h.owners).1
  have state : attr (takenDev 0x70 r s) DEVICE_LC_STATE 0 = attr s.dev DEVICE_LC_STATE 0 := takenDev_read ..
  have taken : RunAsked energy os (takenCall 0x70 r s).params (takenDev 0x70 r s) :=
    { kind := h.kind, check := h.check, tail := h.tail, owners := h.owners
      state := by rw [state]; exact h.state
      powered := by rw [domainOn_taken, h.powered]
      free := fun o ho => ⟨(calObstacle_taken ..).trans (h.free o ho).1, (calConflict_taken ..).trans (h.free o ho).2⟩
      apart := by rw [takenDev_cal]; exact h.apart
      room := by rw [takenDev_cal]; exact h.room
      noSlice := (sliceRegion_taken ..).trans h.noSlice }
  obtain ⟨t, ran, replied, came⟩ := issueOut_starts ht (by rw [hl]; decide) (bodyCalRun_begins taken s.mem)
  have asked : askedRun (takenCall 0x70 r s)
      = ⟨⟨r.master, r.tag.toNat⟩, byteAt r.params 0, byteAt r.params 1 == 1, 256 * byteAt r.params 0 + os.headD 0, os, [], [], false⟩ := by
    rw [← named]
    rfl
  refine ⟨t, ran, replied, came.mem, (came.field fun e => e.cal.runs).trans ?_⟩
  rw [beginOwner_cal, asked]
  exact congrArg (fun x : Cal => x.runs ++ _) (takenDev_cal ..)

end Run

/-! ### CAL_REPORT (R452) -/

section Report
variable {r : Req} {s : State}

theorem calRecord_taken (op : Nat) (r : Req) (s : State) (i : Nat) : calRecord (takenDev op r s) i = calRecord s.dev i := by
  have item : calItem (takenDev op r s) i = calItem s.dev i := by rw [calItem, takenDev_cal, calItem]
  have lost : refLost (takenDev op r s) = refLost s.dev := funext fun k => by rw [refLost, takenDev_cal, refLost]
  have stale := takenDev_read op r s CAL_STALE i
  have left := takenDev_read op r s CAL_RANGE_LEFT i
  have spares : calSpares (takenDev op r s) i = calSpares s.dev i := by
    unfold calSpares
    rw [takenDev_read op r s PORT_ADC_SPARES i, takenDev_read op r s CAL_SPARES i]
  have domains : (fun k => attr (takenDev op r s) DOMAIN_STATE k != 0) = fun k => attr s.dev DOMAIN_STATE k != 0 :=
    funext fun k => congrArg (· != 0) (takenDev_read op r s DOMAIN_STATE k)
  have state : calStateOf (takenDev op r s) i = calStateOf s.dev i := by
    unfold calStateOf calHeld attrOn
    rw [domains, lost, stale, left, spares]
  unfold calRecord
  rw [item, state, stale, left, spares, takenDev_read op r s CAL_RUN_COUNT i, takenDev_read op r s CAL_LAST_RUN i, takenDev_read op r s CAL_DEVIATION i,
    takenDev_read op r s CAL_PENDING i]

theorem calReport_answers (ht : Claims.Takes 0x72 r s) (hl : r.params.length = 4) (hk : byteAt r.params 0 ≤ 10) (h1 : 1 ≤ byteAt r.params 1)
    (h40 : byteAt r.params 1 ≤ 40) (ho : ∀ k < byteAt r.params 1, leAt r.params 2 2 + k ∈ kindOwners (byteAt r.params 0)) :
    ∃ t, exec (.calReport r) s = .next t ∧ Claims.KeepsAttrs [] s t ∧ Claims.KeepsUnits s t
      ∧ Claims.Replied 0x72 stOk r ([byteOf (byteAt r.params 1), 0#8, 0#8, 0#8]
          ++ (List.range (byteAt r.params 1)).flatMap fun k => calRecord s.dev (256 * byteAt r.params 0 + leAt r.params 2 2 + k)) s t := by
  have owners : ((List.range (byteAt r.params 1)).all fun k => (kindOwners (byteAt r.params 0)).contains (leAt r.params 2 2 + k)) = true :=
    List.all_eq_true.2 fun k h => List.contains_iff_mem.2 (ho k (List.mem_range.1 h))
  have body : bodyCalReport s.mem (takenCall 0x72 r s) (takenDev 0x72 r s) = .done ([byteOf (byteAt r.params 1), 0#8, 0#8, 0#8]
      ++ (List.range (byteAt r.params 1)).flatMap fun k => calRecord s.dev (256 * byteAt r.params 0 + leAt r.params 2 2 + k)) (takenDev 0x72 r s) .keep := by
    unfold bodyCalReport
    dsimp only [takenCall]
    rw [need_of (by rw [owners]; simp [hk, h1, h40])]
    simp only [calRecord_taken]
    rfl
  obtain ⟨t, ran, replied, came⟩ := issueOut_ends ht (by rw [hl]; decide) body
  exact ⟨t, ran, came.keepsAttrs KeepsOthers.refl, came.keepsUnits (SameUnits.refl _), replied⟩

end Report

/-! ### CAL_STORE (R457) -/

section Store
variable {r : Req} {s : State}

theorem newestSlot_congr {d e : Dev} (hc : e.cal.store = d.cal.store) (hf : e.faults.badWords = d.faults.badWords) (mem : List Host.Cell) (half : Nat) :
    newestSlot mem e half = newestSlot mem d half := by
  unfold newestSlot slotGeneration badRange
  rw [hc, hf]

theorem keepsOthers_refreshStores (mem : List Host.Cell) (d : Dev) :
    KeepsOthers [(CAL_STORE_VALID.code, 0x0A00), (CAL_CAL_GEN.code, 0x0A00), (CAL_CFG_GEN.code, 0x0A00)] d (refreshStores mem d) := by
  unfold refreshStores
  exact KeepsOthers.refl.wrote.wrote.wrote

theorem refreshStores_cal (mem : List Host.Cell) (d : Dev) : (refreshStores mem d).cal = d.cal :=
  (setAttr_cal ..).trans ((setAttr_cal ..).trans (setAttr_cal ..))

/-- R456: the slot and the generation that a store takes. -/
def nextSlotOf (newest : Option (Nat × Nat)) (half : Nat) : Nat × Nat :=
  match newest with
  | some (n, g) => (if n % 2 = 0 then 2 * half + 1 else 2 * half, g + 1)
  | none => (2 * half, 1)

theorem newestSlot_of {mem : List Host.Cell} {d : Dev} {half n g : Nat} (h : newestSlot mem d half = some (n, g)) : n = 2 * half ∨ n = 2 * half + 1 := by
  unfold newestSlot at h
  split at h
  · split at h
    · exact .inr (by simpa using (congrArg Prod.fst (Option.some.inj h)).symm)
    · exact .inl (by simpa using (congrArg Prod.fst (Option.some.inj h)).symm)
  · exact .inl (by simpa using (congrArg Prod.fst (Option.some.inj h)).symm)
  · exact .inr (by simpa using (congrArg Prod.fst (Option.some.inj h)).symm)
  · cases h

/-- R456: the slot taken is not the newest one. -/
theorem nextSlotOf_ne {mem : List Host.Cell} {d : Dev} {half n g : Nat} (h : newestSlot mem d half = some (n, g)) :
    (nextSlotOf (some (n, g)) half).1 ≠ n := by
  have place := newestSlot_of h
  unfold nextSlotOf
  dsimp only
  split <;> omega

/-- R457: the store of a CAL_STORE. -/
def askedStore (mem : List Host.Cell) (c : Call) (d : Dev) : CalStore :=
  let region := byteAt c.params 0
  let place := nextSlotOf (newestSlot mem d (min region 1)) (min region 1)
  ⟨callRef c, region, place.1, place.2,
    slotImage d place.1 place.2 (if region = 0 then toLE (freeVal d) (256 * 724) else if region = 1 then configBody d else [])⟩

/-- R457: the block with a store begun. -/
def storeBegun (mem : List Host.Cell) (c : Call) (d : Dev) : Dev :=
  refreshStores mem (modCal (fun y => { y with store := some (askedStore mem c d) }) (addJob c (if byteAt c.params 0 = 0 then usedFree d else d)))

theorem storeBegun_store (mem : List Host.Cell) (c : Call) (d : Dev) : (storeBegun mem c d).cal.store = some (askedStore mem c d) := by
  rw [storeBegun, refreshStores_cal]
  rfl

theorem keepsOthers_storeBegun (mem : List Host.Cell) (c : Call) (d : Dev) :
    KeepsOthers [(CAL_STORE_VALID.code, 0x0A00), (CAL_CAL_GEN.code, 0x0A00), (CAL_CFG_GEN.code, 0x0A00)] d (storeBegun mem c d) := by
  refine KeepsOthers.trans ?_ (keepsOthers_refreshStores _ _)
  refine keepsOthers_of_attrs ((modCal_attrs ..).trans ?_)
  show (if byteAt c.params 0 = 0 then usedFree d else d).attrs = d.attrs
  split
  · rfl
  · rfl

theorem askedStore_place (mem : List Host.Cell) (c : Call) (d : Dev) :
    ((askedStore mem c d).slot, (askedStore mem c d).gen) = nextSlotOf (newestSlot mem d (min (byteAt c.params 0) 1)) (min (byteAt c.params 0) 1) := rfl

theorem bodyCalStore_begins {c : Call} {d : Dev} (h2 : byteAt c.params 0 ≤ 2) (h0 : leAt c.params 1 3 = 0) (hs : attr d DEVICE_LC_STATE 0 ≠ 3)
    (ho : domainOn d 192 = true) (hr : byteAt c.params 0 = 0 → ∀ k < 3, refPresent d k = true) (hn : d.cal.store = none)
    (hb : sliceRegion d 0x500 = false) (mem : List Host.Cell) :
    bodyCalStore mem c d = .accept [] (storeBegun mem c d) := by
  have refs : (domainOn d 192 && (byteAt c.params 0 != 0 || [0, 1, 2].all (refPresent d))) = true := by
    rw [ho, Bool.true_and, Bool.or_eq_true_iff, bne_iff_ne]
    by_cases zero : byteAt c.params 0 = 0
    · exact .inr (List.all_eq_true.2 fun k hk => hr zero k (by simp at hk; omega))
    · exact .inl zero
  unfold bodyCalStore
  dsimp only
  rw [need_of (by simp [h2, reservedZero, h0]), need_of (bne_iff_ne.2 hs), need_of refs, need_of (by rw [hn]; rfl), hb, if_neg Bool.false_ne_true]
  unfold storeBegun askedStore
  dsimp only
  cases newestSlot mem d (min (byteAt c.params 0) 1) with
  | none => rfl
  | some x => rfl

theorem calStore_begins (ht : Claims.Takes 0x71 r s) (hl : r.params.length = 4) (h2 : byteAt r.params 0 ≤ 2) (h0 : leAt r.params 1 3 = 0)
    (hs : attr s.dev DEVICE_LC_STATE 0 ≠ 3) (ho : domainOn s.dev 192 = true) (hr : byteAt r.params 0 = 0 → ∀ k < 3, refPresent s.dev k = true)
    (hn : s.dev.cal.store = none) (hb : sliceRegion s.dev 0x500 = false) :
    ∃ t x, exec (.calStore r) s = .next t ∧ Claims.Replied 0x71 stAccepted r [] s t ∧ t.dev.cal.store = some x ∧ x.region = byteAt r.params 0
      ∧ (∀ n g, newestSlot s.mem s.dev (min (byteAt r.params 0) 1) = some (n, g) → x.gen = g + 1 ∧ x.slot ≠ n)
      ∧ (newestSlot s.mem s.dev (min (byteAt r.params 0) 1) = none → x.gen = 1)
      ∧ Claims.KeepsAttrs [(CAL_STORE_VALID.code, 0x0A00), (CAL_CAL_GEN.code, 0x0A00), (CAL_CFG_GEN.code, 0x0A00)] s t ∧ t.mem = s.mem := by
  have state : attr (takenDev 0x71 r s) DEVICE_LC_STATE 0 = attr s.dev DEVICE_LC_STATE 0 := takenDev_read ..
  have refs : byteAt r.params 0 = 0 → ∀ k < 3, refPresent (takenDev 0x71 r s) k = true := by
    rw [refPresent_taken]
    exact hr
  obtain ⟨t, ran, replied, came⟩ := issueOut_starts ht (by rw [hl]; decide) (bodyCalStore_begins (c := takenCall 0x71 r s) h2 h0 (by rw [state]; exact hs)
    (by rw [domainOn_taken, ho]) refs (by rw [takenDev_cal, hn]) ((sliceRegion_taken ..).trans hb) s.mem)
  have newest : newestSlot s.mem (takenDev 0x71 r s) (min (byteAt r.params 0) 1) = newestSlot s.mem s.dev (min (byteAt r.params 0) 1) :=
    newestSlot_congr (congrArg Cal.store (takenDev_cal ..)) (congrArg Faults.badWords (takenDev_faults ..)) ..
  have place : ((askedStore s.mem (takenCall 0x71 r s) (takenDev 0x71 r s)).slot, (askedStore s.mem (takenCall 0x71 r s) (takenDev 0x71 r s)).gen)
      = nextSlotOf (newestSlot s.mem s.dev (min (byteAt r.params 0) 1)) (min (byteAt r.params 0) 1) :=
    (askedStore_place ..).trans (congrArg (nextSlotOf · (min (byteAt r.params 0) 1)) newest)
  have stored := came.field fun e => e.cal.store
  rw [storeBegun_store] at stored
  refine ⟨t, _, ran, replied, stored, rfl, fun n g h => ?_, fun h => ?_, came.keepsAttrs (keepsOthers_storeBegun _ _ _), came.mem⟩
  · rw [h] at place
    exact ⟨(Prod.ext_iff.1 place).2, fun hn => nextSlotOf_ne h ((Prod.ext_iff.1 place).1.symm.trans hn)⟩
  · rw [h] at place
    exact (Prod.ext_iff.1 place).2

end Store

/-- Settles O51. Each command is its body where its checks pass (`bodyCalRun_begins`, `bodyCalStore_begins`), on a block that reads for calibration as
the state does (`calObstacle_taken`, `calRecord_taken`). -/
theorem calCommands : Obligations.cal_commands := by
  unfold Obligations.cal_commands
  refine fun r s => ⟨?run, calStore_begins, calReport_answers⟩
  intro energy os ht hl hk hc h4 howners hstate hpower hfree hapart hroom hslice
  exact calRun_begins ht hl ⟨hk, hc, h4, howners, hstate, hpower, hfree, hapart, hroom, hslice⟩

end Sys2Proof.Machine

namespace Sys2Proof.Machine

-- In order, so that no thread waits for the lemmas before it.
set_option Elab.async false

/-! ### A run count that lists more than its attribute holds (R7) -/

/-- The block after reset with CAL.RUN_COUNT of item 0x0105, an attribute of 32 bits, listed with 2^32. -/
def wideRunCount : State :=
  { State.reset with dev := { State.reset.dev with attrs := [(attrKey CAL_RUN_COUNT 0x0105, 2 ^ 32)] } }

/-- Refutes O52: the statement takes every list of attributes, also one that holds more than an attribute's width, where the statement cuts the
value and the model does not (R7). In `wideRunCount` the first of several elements of item 0x0105 is measured, which counts no run (R443):
CAL.RUN_COUNT stays 2^32, and the statement has it 2^32 + 0 in 32 bits, which is 0. The state is not one that writes lead to
(`attr_setAttr`): what the statement lacks is the width of CAL.RUN_COUNT as a hypothesis of the clause of `calMeasurementEnd`. -/
theorem not_calTracking : ¬ Obligations.cal_tracking := by
  intro h
  obtain ⟨-, measured, -⟩ := h wideRunCount
  obtain ⟨t, ht, -, -, -, counted, -⟩ := measured 0x0105 4 0 50 true false (by decide +kernel) (by decide +kernel) (by decide +kernel) (by decide)
    (by decide) (by decide)
  obtain rfl := Host.Outcome.next.inj ht
  exact absurd counted (by decide +kernel)

end Sys2Proof.Machine

namespace Sys2Proof.Machine

-- In order, so that no thread waits for the lemmas before it.
set_option Elab.async false

/-! ### A count of cycles that lists more than its attribute holds (R7) -/

/-- The block after reset with no cycle of self-test under way, an hour over, and BIST.CYCLES, an attribute of 32 bits, listed with 2^32. -/
def wideCycles : State :=
  { State.reset with dev := arm tkCycle 0 0 { State.reset.dev with attrs := [(attrKey BIST_CYCLES 0x600, 2 ^ 32)] } }

/-- Refutes O54: the statement takes every list of attributes, also one that holds more than an attribute's width, where the statement cuts the
value and the model does not (R7). In `wideCycles` the hour starts a cycle where none was under way, which counts none (R472): BIST.CYCLES stays
2^32, and the statement has it 2^32 + 0 in 32 bits, which is 0. The state is not one that writes lead to (`attr_setAttr`): what the statement
lacks is the width of BIST.CYCLES as a hypothesis of the clause of `bistCycleStart`. -/
theorem not_selfTestCommands : ¬ Obligations.self_test_commands := by
  intro h
  obtain ⟨-, -, started, -⟩ := h wideCycles
  obtain ⟨t, ht, -, -, -, -, counted, -⟩ := started (by decide +kernel) (by decide +kernel) (by decide +kernel) (by decide +kernel)
  obtain rfl := Host.Outcome.next.inj ht
  exact absurd counted (by decide +kernel)

end Sys2Proof.Machine

namespace Sys2Proof.Machine

-- In order, so that no thread waits for the lemmas before it.
set_option Elab.async false

/-! ### What a calibration run leaves behind it (R209, R446, R451) -/

theorem bystander_rangeLeft : Bystander CAL_RANGE_LEFT := ⟨by decide, by decide⟩
theorem bystander_runCount : Bystander CAL_RUN_COUNT := ⟨by decide, by decide⟩

theorem Bystander.attr_checkLimit {b : Attr} (hb : Bystander b) (hs : b.code ≠ DEVICE_START_FLAGS.code) (i : Nat) (d : Dev) (k : Nat) :
    attr (checkLimit i d) b k = attr d b k := by
  unfold checkLimit
  split
  · refine (hb.attr_raise ..).trans ((attr_modCal ..).trans ?_)
    split
    · exact attr_setAttr_ne _ _ _ _ hs (by decide) hb.1
    · rfl
  · rfl

theorem Bystander.attr_takeClaim {b : Attr} (hb : Bystander b) (i : Nat) (d : Dev) (k : Nat) : attr (takeClaim i d) b k = attr d b k := by
  have stopped : ∀ region, attr (stopSlice region d) b k = attr d b k := fun region => by
    obtain ⟨_, h⟩ := stopSlice_eq region d
    rw [h]
    rfl
  unfold takeClaim
  split
  · dsimp only
    split
    · exact (hb.attr_setTx ..).trans ((hb.attr_setCapture ..).trans (stopped _))
    · exact (hb.attr_setCapture ..).trans (stopped _)
  · rfl

theorem Bystander.attr_beginOwner {b : Attr} (hb : Bystander b) (r : CalRun) (d : Dev) (k : Nat) : attr (beginOwner r d) b k = attr d b k := by
  unfold beginOwner
  split
  · rfl
  · exact (hb.attr_takeClaim ..).trans (hb.attr_setAttr (by decide) ..)

theorem checkLimit_runs (i : Nat) (d : Dev) : (checkLimit i d).cal.runs = d.cal.runs := by
  unfold checkLimit
  split
  · refine (congrArg Cal.runs (raise_cal ..)).trans ?_
    refine Eq.trans (b := (if d.phase = .calibrate then startFlag 4 d else d).cal.runs) rfl ?_
    split <;> rfl
  · rfl

theorem endMeasure_cal (i : Nat) (d : Dev) : (endMeasure i d).cal = d.cal := by
  unfold endMeasure
  dsimp only
  split
  · exact (setAttr_cal ..).trans (setAttr_cal ..)
  · exact setAttr_cal ..

theorem countRun_runs (i : Nat) (d : Dev) : (countRun i d).cal.runs = d.cal.runs := by
  unfold countRun
  rw [checkLimit_runs, endMeasure_cal]
  exact (congrArg Cal.runs ((setAttr_cal ..).trans (setAttr_cal ..))).trans rfl

/-- R446: the run counted. -/
theorem countRun_counts (i : Nat) (d : Dev) : attr (countRun i d) CAL_RUN_COUNT i = (attr d CAL_RUN_COUNT i + 1) % 2 ^ CAL_RUN_COUNT.width := by
  unfold countRun
  rw [bystander_runCount.attr_checkLimit (by decide), bystander_runCount.attr_endMeasure, attr_setAttr_ne _ _ _ _ (by decide) (by decide) (by decide),
    attr_bump]
  rfl

theorem countRun_range (i : Nat) (d : Dev) : attr (countRun i d) CAL_RANGE_LEFT i = attr d CAL_RANGE_LEFT i := by
  unfold countRun
  rw [bystander_rangeLeft.attr_checkLimit (by decide), bystander_rangeLeft.attr_endMeasure, attr_setAttr_ne _ _ _ _ (by decide) (by decide) (by decide),
    attr_bump_ne _ _ _ _ (by decide) (by decide) (by decide)]
  rfl

theorem finishCalRun_runs (r : CalRun) (status cause : Nat) (d : Dev) :
    (finishCalRun r status cause d).cal.runs = d.cal.runs.filter fun x => !(x.job == r.job) := by
  unfold finishCalRun
  dsimp only
  rw [complete_cal]
  split
  · exact congrArg Cal.runs (endMeasure_cal ..)
  · rfl

/-! ### The end of an owner's measurement (R451) -/

/-- R451: the results of an owner's measurement. -/
def ownerMeasured (i : Nat) (deviation : Int) (range lost : Nat) (r : CalRun) (d : Dev) : Dev :=
  let d1 := setAttrInt CAL_DEVIATION i deviation d
  if r.check then endMeasure i d1
  else
    countRun i (setAttrInt CAL_PENDING i 0 (setAttr CAL_RANGE_LEFT i range (setAttr CAL_SPARES i (attr d CAL_SPARES i - lost)
      (modItem i (fun x => { x with trim := x.trim - deviation }) d1))))

theorem ownerMeasured_runs (i : Nat) (deviation : Int) (range lost : Nat) (r : CalRun) (d : Dev) :
    (ownerMeasured i deviation range lost r d).cal.runs = d.cal.runs := by
  unfold ownerMeasured
  dsimp only
  split
  · exact congrArg Cal.runs ((endMeasure_cal ..).trans (setAttr_cal ..))
  · rw [countRun_runs]
    rfl

theorem ownerMeasured_results {r : CalRun} (h : r.check = false) (i : Nat) (deviation : Int) (range : Fin 101) (lost : Nat) (d : Dev) :
    attr (ownerMeasured i deviation range lost r d) CAL_RANGE_LEFT i = range.val
    ∧ attr (ownerMeasured i deviation range lost r d) CAL_RUN_COUNT i = (attr d CAL_RUN_COUNT i + 1) % 2 ^ CAL_RUN_COUNT.width := by
  have byte : 2 ^ CAL_RANGE_LEFT.width = 256 := rfl
  have width : range.val % 2 ^ CAL_RANGE_LEFT.width = range.val := Nat.mod_eq_of_lt (by omega)
  unfold ownerMeasured setAttrInt
  dsimp only
  rw [h, if_neg Bool.false_ne_true, countRun_range, countRun_counts]
  constructor
  · rw [attr_setAttr_ne _ _ _ _ (by decide) (by decide) (by decide), attr_setAttr, width]
  · rw [attr_setAttr_ne _ _ _ _ (by decide) (by decide) (by decide), attr_setAttr_ne _ _ _ _ (by decide) (by decide) (by decide),
      attr_setAttr_ne _ _ _ _ (by decide) (by decide) (by decide)]
    refine congrArg (fun n => (n + 1) % 2 ^ CAL_RUN_COUNT.width) ?_
    exact (attr_modCal ..).trans (attr_setAttr_ne _ _ _ _ (by decide) (by decide) (by decide))

/-- R451: the run after the measurement of its first owner. -/
def afterOwner (i : Nat) (deviation : Int) (range lost : Nat) (failed : Bool) (r : CalRun) (d : Dev) : CalRun :=
  let e := ownerMeasured i deviation range lost r d
  let bad := failed || calLimit e i
  { r with left := r.left.tail, finished := r.finished ++ [i % 256], degraded := r.degraded || bad, worst := if bad || calHeld e i then r.worst ++ [i % 256] else r.worst }

/-- R451: a run goes on with its next owner, or is over. -/
def goOn (r : CalRun) (d : Dev) : Dev := if r.left.isEmpty then finishCalRun r (if r.degraded then stDegraded else stOk) 0 d else beginOwner r d

theorem Bystander.attr_goOn {b : Attr} (hb : Bystander b) (r : CalRun) (d : Dev) (k : Nat) : attr (goOn r d) b k = attr d b k := by
  unfold goOn
  split
  · exact hb.attr_finishCalRun ..
  · exact hb.attr_beginOwner ..

theorem goOn_runs {r : CalRun} {d : Dev} (h : d.cal.runs = [r]) : (goOn r d).cal.runs = if r.left = [] then [] else [r] := by
  unfold goOn
  by_cases hl : r.left = []
  · rw [if_pos (by rw [hl, List.isEmpty_nil]), if_pos hl, finishCalRun_runs, h]
    simp
  · rw [if_neg (by rwa [List.isEmpty_iff]), if_neg hl, beginOwner_cal, h]

theorem ownerEnd_goesOn {d : Dev} {r : CalRun} {i : Nat} (hr : d.cal.runs = [r]) (hk : r.kind = calKind i) (hl : r.left.head? = some (i % 256))
    (hb : d.brownout = none) (deviation : Int) (range lost : Nat) (failed : Bool) :
    ownerEnd i deviation range lost failed d = goOn (afterOwner i deviation range lost failed r d)
      (modCal (fun x => { x with runs := x.runs.map fun y => if y.job = r.job then afterOwner i deviation range lost failed r d else y })
        (ownerMeasured i deviation range lost r d)) := by
  have found : d.cal.runs.find? (fun r => r.left.head? == some (i % 256) && r.kind == calKind i) = some r := by
    rw [hr, List.find?_cons_of_pos (by rw [hl, hk]; simp)]
  unfold ownerEnd
  rw [found]
  dsimp only
  rw [if_neg (by rw [hb]; simp)]
  rfl

theorem ownerEnd_ends {s : State} {item : Nat} {r : CalRun} {o : Nat} {rest : List Nat} (hr : s.dev.cal.runs = [r]) (hk : r.kind = calKind item)
    (hl : r.left = o :: rest) (ho : o = item % 256) (hb : s.dev.brownout = none) (deviation : Int) (range : Fin 101) (lost : Nat) (failed : Bool) :
    ∃ t, exec (.calRunOwnerEnd item deviation range lost failed) s = .next t ∧ t.mem = s.mem
      ∧ (rest = [] → t.dev.cal.runs = [])
      ∧ (rest ≠ [] → ∃ r', t.dev.cal.runs = [r'] ∧ r'.left = rest ∧ r'.finished = r.finished ++ [o] ∧ r'.job = r.job)
      ∧ (r.check = false → attr t.dev CAL_RANGE_LEFT item = range.val
          ∧ attr t.dev CAL_RUN_COUNT item = (attr s.dev CAL_RUN_COUNT item + 1) % 2 ^ CAL_RUN_COUNT.width) := by
  have ends := ownerEnd_goesOn hr hk (by rw [hl, ho]; rfl) hb deviation range lost failed
  have left : (afterOwner item deviation range lost failed r s.dev).left = rest := congrArg List.tail hl
  have runs := goOn_runs (r := afterOwner item deviation range lost failed r s.dev)
    (d := modCal (fun x => { x with runs := x.runs.map fun y => if y.job = r.job then afterOwner item deviation range lost failed r s.dev else y })
      (ownerMeasured item deviation range lost r s.dev)) (by rw [modCal_cal]; dsimp only; rw [ownerMeasured_runs, hr]; simp)
  rw [left, ← ends] at runs
  refine ⟨{ s with dev := ownerEnd item deviation range lost failed s.dev }, rfl, rfl, fun h => ?_, fun h => ?_, fun h => ?_⟩
  · exact runs.trans (if_pos h)
  · exact ⟨_, runs.trans (if_neg h), left, by rw [ho]; rfl, rfl⟩
  · obtain ⟨range', count⟩ := ownerMeasured_results h item deviation range lost s.dev
    dsimp only
    rw [ends, bystander_rangeLeft.attr_goOn, bystander_runCount.attr_goOn]
    exact ⟨range', count⟩

/-- R451: the partner's energy ends the one FULL run of its port. -/
theorem partnerEnergy_ends {s : State} {p : Fin 128} {r : CalRun} {o : Nat} {rest : List Nat} (hr : s.dev.cal.runs = [r]) (hc : r.check = false)
    (hl : r.left = o :: rest) (hp : portItem p (256 * r.kind + o) = true) :
    ∃ t, exec (.calPartnerEnergy p) s = .next t ∧ t.dev.cal.runs = [] ∧ t.mem = s.mem := by
  have hit : (r.left.any fun o => !r.check && portItem p (256 * r.kind + o)) = true := by
    rw [hl, List.any_cons, hc, hp]
    rfl
  have ended : abortFullRuns (portItem p) endPartnerEnergy s.dev = finishCalRun r stAborted endPartnerEnergy s.dev := by
    unfold abortFullRuns abortCalRuns
    rw [hr, List.filter_cons, if_pos hit]
    rfl
  refine ⟨{ s with dev := abortFullRuns (portItem p) endPartnerEnergy s.dev }, rfl, ?_, rfl⟩
  dsimp only
  rw [ended, finishCalRun_runs, hr]
  simp

/-! ### The end of a store (R455, R457) -/

/-- R455, R457: the block after the bytes of a store have been written, where it counts its good ones. -/
def storeTaken (good : Bool) (mem : List Host.Cell) (x : CalStore) (n : Nat) (d : Dev) : Dev :=
  let clear := fun (a : Nat) => decide (a + 16 ≤ slotBase x.slot) || decide (slotBase x.slot + n ≤ a)
  let e := refreshStores mem (noteWrite (slotBase x.slot) n (modFaults (fun y => { y with badWords := y.badWords.filter clear })
    (modCal (fun y => { y with store := none }) d)))
  if good then bump CAL_STORES 0x0A00 1 e else e

theorem storeTaken_store (good : Bool) (mem : List Host.Cell) (x : CalStore) (n : Nat) (d : Dev) : (storeTaken good mem x n d).cal.store = none := by
  unfold storeTaken
  dsimp only
  split
  · exact congrArg Cal.store ((setAttr_cal ..).trans (refreshStores_cal ..))
  · exact congrArg Cal.store (refreshStores_cal ..)

theorem storeTaken_stores (good : Bool) (mem : List Host.Cell) (x : CalStore) (n : Nat) (d : Dev) : attr (storeTaken good mem x n d) CAL_STORES 0x0A00
    = if good then (attr d CAL_STORES 0x0A00 + 1) % 2 ^ CAL_STORES.width else attr d CAL_STORES 0x0A00 := by
  have fresh : ∀ e : Dev, attr (refreshStores mem e) CAL_STORES 0x0A00 = attr e CAL_STORES 0x0A00 :=
    fun e => (keepsOthers_refreshStores mem e).read CAL_STORES 0x0A00
  unfold storeTaken
  dsimp only
  split
  · rw [attr_bump, fresh]
    rfl
  · exact fresh _

/-- R455: what the end of a store writes. -/
def storeBytes (good : Bool) (x : CalStore) : List Byte := if good then x.bytes else List.replicate 64 0#8

theorem storeEnd_ends {s : State} {x : CalStore} (hb : s.dev.brownout = none) (hx : s.dev.cal.store = some x) (good : Bool) :
    ∃ t, exec (.calStoreEnd good) s = .next t ∧ t.dev.cal.store = none ∧ t.mem = memWrite s.mem (slotBase x.slot) (storeBytes good x)
      ∧ attr t.dev CAL_STORES 0x0A00 = if good then (attr s.dev CAL_STORES 0x0A00 + 1) % 2 ^ CAL_STORES.width else attr s.dev CAL_STORES 0x0A00 := by
  have ran : exec (.calStoreEnd good) s = .next (storeEnd good s) := congrArg Host.Outcome.next (if_neg (by rw [hb]; simp))
  have ends : ∃ status result, storeEnd good s =
      { s with
        mem := memWrite s.mem (slotBase x.slot) (storeBytes good x)
        dev := complete x.job clsCal 0x0A00 evCalStoreDone status result
          (storeTaken good (memWrite s.mem (slotBase x.slot) (storeBytes good x)) x (if good then x.bytes.length else 64) s.dev) } := by
    unfold storeEnd
    rw [hx]
    exact ⟨_, _, rfl⟩
  obtain ⟨status, result, ended⟩ := ends
  refine ⟨_, ran, ?_, ?_, ?_⟩
  · rw [ended]
    exact (congrArg Cal.store (complete_cal ..)).trans (storeTaken_store ..)
  · rw [ended]
  · rw [ended]
    exact (attr_complete _ _ _ _ _ _ _ _ _ (by unfold noEventAttr; decide)).trans (storeTaken_stores ..)

/-- Settles O53. A slot written whole at the end of its store, and the zero header after ABORTED, are the model's choice (assumption 70): R455
writes a zero header, the body and the header in steps. -/
theorem calRunsAndStores : Obligations.cal_runs_and_stores := by
  unfold Obligations.cal_runs_and_stores
  intro s
  refine ⟨fun item deviation range lost failed r o rest hr hk hl ho hb => ownerEnd_ends hr hk hl ho hb deviation range lost failed,
    fun p r o rest hr hc hl hp => partnerEnergy_ends hr hc hl hp, fun x hb hx => ⟨?_, ?_⟩⟩
  · obtain ⟨t, ran, store, mem, count⟩ := storeEnd_ends hb hx true
    exact ⟨t, ran, store, by rw [mem]; exact memRead_write _ _ rfl, count, fun a ha => by rw [mem]; exact memGet_write_out rfl ha⟩
  · obtain ⟨t, ran, store, mem, count⟩ := storeEnd_ends hb hx false
    have length : (List.replicate 64 (0#8 : Byte)).length = 64 := List.length_replicate
    exact ⟨t, ran, store, by rw [mem]; exact memRead_write _ _ length, count, fun a ha => by rw [mem]; exact memGet_write_out length ha⟩

end Sys2Proof.Machine

namespace Sys2Proof.Machine

-- In order, so that no thread waits for the lemmas before it.
set_option Elab.async false

/-! ### Check scans (R485 to R491) -/

section Deferred
variable {op : Nat} {f : Body} {r : Req} {s : State}

/-- R474: the block with a command deferred for a slice. -/
def deferredDev (op : Nat) (r : Req) (s : State) : Dev :=
  deferSlice { takenDev op r s with jobs := (takenDev op r s).jobs ++ [⟨callRef (takenCall op r s), op, r.params, (takenCall op r s).order, true, false, false⟩] }

theorem deferSlice_bist (d : Dev) : ∃ b, deferSlice d = { d with bist := b } := by
  unfold deferSlice
  split
  · split
    · exact ⟨_, rfl⟩
    · exact ⟨d.bist, rfl⟩
  · exact ⟨d.bist, rfl⟩

/-- R310, R474: a taken request that waits for a slice. -/
theorem issueOut_defers (ht : Claims.Takes op r s) (hl : (paramRange op).1 ≤ r.params.length ∧ r.params.length ≤ (paramRange op).2)
    (hb : f s.mem (takenCall op r s) (takenDev op r s) = .defer) :
    ∃ t, issueOut op f r s = .next t ∧ Claims.Replied op stDeferred r [] s t ∧ CameTo (deferredDev op r s) s t := by
  obtain ⟨took, hf, owner, free, room⟩ := ht
  obtain ⟨xs, answered, replied⟩ := replied_answer (op := op) (s := s) hf stDeferred [] (deferredDev op r s)
  refine ⟨_, ?_, replied, xs, rfl⟩
  rw [issueOut, issue_body took hf owner free room hl, hb, ← answered]
  rfl

theorem deferredDev_job (hj : findJob s.dev ⟨r.master.val, r.tag.toNat⟩ = none) :
    (findJob (deferredDev op r s) ⟨r.master.val, r.tag.toNat⟩).map (·.deferred) = some true := by
  obtain ⟨b, h⟩ := deferSlice_bist { takenDev op r s with
    jobs := (takenDev op r s).jobs ++ [⟨callRef (takenCall op r s), op, r.params, (takenCall op r s).order, true, false, false⟩] }
  have before : s.dev.jobs.find? (fun x => x.ref == (⟨r.master.val, r.tag.toNat⟩ : JobRef)) = none := hj
  have own : callRef (takenCall op r s) = ⟨r.master.val, r.tag.toNat⟩ := rfl
  rw [deferredDev, h, findJob]
  dsimp only
  rw [takenDev_jobs, List.find?_append, before, own]
  simp

theorem deferredDev_scans : (deferredDev op r s).scans = s.dev.scans := by
  obtain ⟨b, h⟩ := deferSlice_bist { takenDev op r s with
    jobs := (takenDev op r s).jobs ++ [⟨callRef (takenCall op r s), op, r.params, (takenCall op r s).order, true, false, false⟩] }
  rw [deferredDev, h]
  exact takenDev_scans ..

theorem keepsOthers_deferredDev : KeepsOthers [] (takenDev op r s) (deferredDev op r s) := by
  obtain ⟨b, h⟩ := deferSlice_bist { takenDev op r s with
    jobs := (takenDev op r s).jobs ++ [⟨callRef (takenCall op r s), op, r.params, (takenCall op r s).order, true, false, false⟩] }
  rw [deferredDev, h]
  exact keepsOthers_of_attrs rfl

end Deferred

/-! #### CHECK_SCAN and CHECK_RESULT (R487, R491) -/

section Commands
variable {r : Req} {s : State}

theorem unitParams_taken (op u : Nat) : unitParams (takenDev op r s) u = unitParams s.dev u := by
  unfold unitParams
  rw [takenDev_read _ _ _ CHECK_FLAGS, takenDev_read _ _ _ CHECK_WIDTH, takenDev_read _ _ _ CHECK_POLY, takenDev_read _ _ _ CHECK_INIT]

theorem scanFieldsOk_taken (op : Nat) (ps : List Byte) : scanFieldsOk (takenDev op r s) ps = scanFieldsOk s.dev ps := by
  unfold scanFieldsOk fieldBytes
  dsimp only
  rw [takenDev_read _ _ _ CHECK_WIDTH, unitParams_taken]

/-- R487: no scan runs on the unit or on the die of a CHECK_SCAN. -/
def ScanFree (ps : List Byte) (d : Dev) : Prop := ∀ x ∈ d.scans, x.unit ≠ byteAt ps 0 ∧ scanDie (scanStart x.params) ≠ scanDie (scanStart ps)

/-- R487: the block with a scan begun. -/
def scanBegun (c : Call) (d : Dev) : Dev := { addJob c d with scans := d.scans ++ [⟨callRef c, byteAt c.params 0, c.params, false⟩] }

theorem keepsOthers_scanBegun (c : Call) (d : Dev) : KeepsOthers [] d (scanBegun c d) := keepsOthers_of_attrs rfl

/-- R487: the checks that a CHECK_SCAN meets. -/
structure ScanAsked (ps : List Byte) (d : Dev) : Prop where
  fields : scanFieldsOk d ps = true
  powered : ∀ k ∈ scanDomains ps, domainOn d k = true
  free : ScanFree ps d

theorem bodyCheckScan_checked {c : Call} {d : Dev} (h : ScanAsked c.params d) (mem : List Host.Cell) :
    bodyCheckScan mem c d = if sliceRegion d (0x400 + scanDie (scanStart c.params)) then .defer else .accept [] (scanBegun c d) := by
  have free : (d.scans.any fun r => r.unit == byteAt c.params 0 || scanDie (scanStart r.params) == scanDie (scanStart c.params)) = false := by
    refine List.any_eq_false.2 fun x hx => ?_
    obtain ⟨unit, die⟩ := h.free x hx
    simp [unit, die]
  unfold bodyCheckScan
  dsimp only
  rw [need_of h.fields, need_of (List.all_eq_true.2 h.powered), need_of (by rw [free]; rfl)]
  rfl

/-- R487: the checks of CHECK_SCAN pass where the request is taken as they do in the block before it. -/
theorem ScanAsked.taken {ps : List Byte} (h : ScanAsked ps s.dev) (op : Nat) : ScanAsked ps (takenDev op r s) where
  fields := (scanFieldsOk_taken ..).trans h.fields
  powered k hk := (congrFun (domainOn_taken ..) k).trans (h.powered k hk)
  free x hx := h.free x (by rwa [takenDev_scans] at hx)

theorem checkScan_starts (ht : Claims.Takes 0x88 r s) (hl : r.params.length = 32) (h : ScanAsked r.params s.dev)
    (hn : sliceRegion s.dev (0x400 + scanDie (scanStart r.params)) = false) :
    ∃ t, exec (.checkScan r) s = .next t ∧ Claims.Replied 0x88 stAccepted r [] s t
      ∧ t.dev.scans = s.dev.scans ++ [⟨⟨r.master.val, r.tag.toNat⟩, byteAt r.params 0, r.params, false⟩] ∧ Claims.KeepsAttrs [] s t ∧ t.mem = s.mem := by
  have idle : sliceRegion (takenDev 0x88 r s) (0x400 + scanDie (scanStart (takenCall 0x88 r s).params)) = false := (sliceRegion_taken ..).trans hn
  have body := bodyCheckScan_checked (c := takenCall 0x88 r s) (d := takenDev 0x88 r s) (h.taken 0x88) s.mem
  rw [idle, if_neg Bool.false_ne_true] at body
  obtain ⟨t, ran, replied, came⟩ := issueOut_starts ht (by rw [hl]; decide) body
  refine ⟨t, ran, replied, (came.field Dev.scans).trans ?_, came.keepsAttrs (keepsOthers_scanBegun _ _), came.mem⟩
  rw [scanBegun, takenDev_scans]
  rfl

theorem checkScan_defers (ht : Claims.Takes 0x88 r s) (hl : r.params.length = 32) (h : ScanAsked r.params s.dev)
    (hn : sliceRegion s.dev (0x400 + scanDie (scanStart r.params)) = true) :
    ∃ t, exec (.checkScan r) s = .next t ∧ Claims.Replied 0x88 stDeferred r [] s t ∧ t.dev.scans = s.dev.scans
      ∧ (findJob t.dev ⟨r.master, r.tag.toNat⟩).map (·.deferred) = some true ∧ Claims.KeepsAttrs [] s t ∧ t.mem = s.mem := by
  have busy : sliceRegion (takenDev 0x88 r s) (0x400 + scanDie (scanStart (takenCall 0x88 r s).params)) = true := (sliceRegion_taken ..).trans hn
  have body := bodyCheckScan_checked (c := takenCall 0x88 r s) (d := takenDev 0x88 r s) (h.taken 0x88) s.mem
  rw [busy, if_pos rfl] at body
  obtain ⟨t, ran, replied, came⟩ := issueOut_defers ht (by rw [hl]; decide) body
  exact ⟨t, ran, replied, (came.field Dev.scans).trans deferredDev_scans,
    (congrArg (Option.map (·.deferred)) (came.findJob _)).trans (deferredDev_job ht.2.2.2.1), came.keepsAttrs keepsOthers_deferredDev, came.mem⟩

theorem checkResult_reads (ht : Claims.Takes 0x89 r s) (hl : r.params.length = 4) (hu : byteAt r.params 0 ≤ 3) (hz : leAt r.params 1 3 = 0) :
    ∃ t, exec (.checkResult r) s = .next t ∧ Claims.KeepsAttrs [] s t ∧ Claims.KeepsUnits s t
      ∧ Claims.Replied 0x89 stOk r ((block s.dev CHECK_RESULT (byteAt r.params 0)).set 0 (byteOf (byteAt r.params 0))) s t := by
  have body : bodyCheckResult s.mem (takenCall 0x89 r s) (takenDev 0x89 r s)
      = .done ((block s.dev CHECK_RESULT (byteAt r.params 0)).set 0 (byteOf (byteAt r.params 0))) (takenDev 0x89 r s) .keep := by
    unfold bodyCheckResult
    dsimp only [takenCall]
    rw [need_of (by rw [reservedZero_of hz]; simp [hu]), block_congr (takenDev_blocks ..)]
    rfl
  obtain ⟨t, ran, replied, came⟩ := issueOut_ends ht (by rw [hl]; decide) body
  exact ⟨t, ran, came.keepsAttrs KeepsOthers.refl, came.keepsUnits (SameUnits.refl _), replied⟩

end Commands

end Sys2Proof.Machine

namespace Sys2Proof.Machine

-- In order, so that no thread waits for the lemmas before it.
set_option Elab.async false

/-! ### The end of a scan with no partner (R484, R488, R490) -/

/-- A completion writes no block but DEVICE.COMPLETION. -/
theorem block_complete_ne {b : Attr} (hb : b.code < 2 ^ 24) (hn : b.code ≠ DEVICE_COMPLETION.code) (j : JobRef) (cls inst type status : Nat)
    (result : List Byte) (d : Dev) (i : Nat) : block (complete j cls inst type status result d) b i = block d b i := by
  cases hj : findJob d j with
  | none =>
    have same : complete j cls inst type status result d = d := by
      unfold complete completeBase
      rw [hj]
    rw [same]
  | some job =>
    exact (block_congr (complete_block hj ..) b i).trans (block_setBlock_ne _ _ (by decide) hb fun h => hn (congrArg Prod.fst h))

section Record
variable (d : Dev) (ps : List Byte) (outcome flags value stored partner corrected : Nat)

theorem length_scanRecord : (scanRecord d ps outcome flags value stored partner corrected).length = 48 := by
  simp only [scanRecord, List.length_append, length_toLE, List.length_cons, List.length_nil]

/-- R490: the value computed stands at byte 12 of the record. -/
theorem scanRecord_value : leAt (scanRecord d ps outcome flags value stored partner corrected) 12 8 = value % 2 ^ 64 := by
  have split : scanRecord d ps outcome flags value stored partner corrected
      = ([byteOf (byteAt ps 0), byteOf (scanMode ps), byteOf outcome, byteOf flags] ++ toLE (scanStart ps) 4 ++ toLE (scanLength ps) 4)
        ++ (toLE value 8 ++ (toLE stored 8 ++ toLE partner 8 ++ toLE corrected 4 ++ toLE (d.devTime % 2 ^ 48) 6 ++ toLE 0 2)) := by
    simp only [scanRecord, List.append_assoc]
  have head : ([byteOf (byteAt ps 0), byteOf (scanMode ps), byteOf outcome, byteOf flags] ++ toLE (scanStart ps) 4 ++ toLE (scanLength ps) 4).length
      = 12 := by simp only [List.length_append, length_toLE, List.length_cons, List.length_nil]
  rw [split]
  exact (leAt_append head _ 0 8).trans (leAt_toLE ..)

theorem scanRecord_outcome : byteAt (scanRecord d ps outcome flags value stored partner corrected) 2 = outcome % 256 := rfl

end Record

/-- R489: only a scan with a partner finds a field to repair. -/
theorem scanOutcome_alone {mode : Nat} (h : mode ≤ 2) (value expected : Nat) (bad bad2 : Bool) (s1 c2 s2 : Nat) (same : Bool) :
    scanOutcome mode value expected bad bad2 s1 c2 s2 same
      = if bad then 4 else if mode = 0 then 1 else if mode = 1 then (if value = expected then 2 else 3) else if value = s1 then 2 else 3 := by
  rw [scanOutcome, if_neg (by omega)]

/-- R488: the outcome of a scan without a partner. -/
theorem scanOutcome_small {mode : Nat} (h : mode ≤ 2) (value expected : Nat) (bad bad2 : Bool) (s1 c2 s2 : Nat) (same : Bool) :
    scanOutcome mode value expected bad bad2 s1 c2 s2 same < 5 := by
  rw [scanOutcome_alone h]
  repeat' split
  all_goals omega

/-- R488: the value that a scan computes over its range, its check field left out where it has one. -/
def scanValue (s : State) (ps : List Byte) (unit : Nat) (data : List Byte) : Nat :=
  crcOf (unitParams s.dev unit) (scanStream ps (scanStart ps) (fieldAt ps) (if scanMode ps = 2 ∨ scanMode ps = 3 then fieldBytes s.dev unit else 0) 0
    (readRange s (scanStart ps) (scanLength ps) data))

/-- R484, R490: the block with a scan's end counted. -/
def scanCounted (unit corrected : Nat) (x : CheckRun) (d : Dev) : Dev :=
  bump CHECK_SCANS unit 1 (countCorrected (scanDie (scanStart x.params)) corrected d)

theorem scanCounted_scans (unit corrected : Nat) (x : CheckRun) (d : Dev) : (scanCounted unit corrected x d).scans = d.scans := by
  unfold scanCounted countCorrected
  split <;> rfl

theorem keepsOthers_scanCounted (unit corrected : Nat) (x : CheckRun) (d : Dev) :
    KeepsOthers [(CHECK_SCANS.code, unit), (DIE_MEM_CORRECTED.code, scanDie (scanStart x.params))] d (scanCounted unit corrected x d) := by
  have words : KeepsOthers [(CHECK_SCANS.code, unit), (DIE_MEM_CORRECTED.code, scanDie (scanStart x.params))] d
      (countCorrected (scanDie (scanStart x.params)) corrected d) := by
    unfold countCorrected
    exact KeepsOthers.refl.branch (KeepsOthers.refl.counted.same (e := bump DIE_MEM_CORRECTED (scanDie (scanStart x.params)) corrected d) rfl)
  exact words.counted

theorem scanCounted_count (unit corrected : Nat) (x : CheckRun) (d : Dev) :
    attr (scanCounted unit corrected x d) CHECK_SCANS unit = (attr d CHECK_SCANS unit + 1) % 2 ^ CHECK_SCANS.width := by
  have words : attr (countCorrected (scanDie (scanStart x.params)) corrected d) CHECK_SCANS unit = attr d CHECK_SCANS unit := by
    unfold countCorrected
    split
    · rfl
    · exact attr_bump_ne _ _ _ _ (by decide) (by decide) (by decide)
  rw [scanCounted, attr_bump, words]

/-- R488, R490: a scan without a partner ends with its record alone. -/
theorem scanEnd_alone {s : State} {unit : Nat} {x : CheckRun} (hx : s.dev.scans.find? (fun r => r.unit == unit) = some x) (hm : scanMode x.params ≤ 2)
    (data partner : List Byte) (corrected : Nat) (written readBack : Bool) :
    ∃ outcome flags stored, scanEnd unit data partner corrected written readBack s =
        { s with dev := finishScanRun x stOk (scanRecord s.dev x.params outcome flags (scanValue s x.params unit data) stored 0 corrected)
                   (scanCounted unit corrected x s.dev) }
      ∧ outcome < 5
      ∧ (scanMode x.params ≤ 1 → outcome = if badRange s.dev (scanStart x.params) (scanLength x.params) then 4
          else if scanMode x.params = 0 then 1 else if scanValue s x.params unit data = scanExpected x.params then 2 else 3) := by
  have h3 : scanMode x.params ≠ 3 := by omega
  have kept : ∀ value expected bad bad2 s1 c2 s2 same changed,
      (scanOutcome (scanMode x.params) value expected bad bad2 s1 c2 s2 same == 6 && !changed) = false := fun value expected bad bad2 s1 c2 s2 same changed => by
    have small := scanOutcome_small hm value expected bad bad2 s1 c2 s2 same
    rw [beq_false_of_ne (by omega), Bool.false_and]
  unfold scanEnd
  rw [hx]
  dsimp only
  simp only [kept, Bool.false_and, if_neg h3, Bool.false_eq_true, if_false]
  refine ⟨_, _, _, rfl, scanOutcome_small hm .., fun h1 => ?_⟩
  rw [scanOutcome_alone hm]
  by_cases hb : badRange s.dev (scanStart x.params) (scanLength x.params) = true
  · rw [if_pos hb, if_pos hb]
  · rw [if_neg hb, if_neg hb]
    by_cases h0 : scanMode x.params = 0
    · rw [if_pos h0, if_pos h0]
    · rw [if_neg h0, if_neg h0, if_pos (by omega)]
      rfl

section Finish
variable (x : CheckRun) (status : Nat) (rec : List Byte) (d : Dev)

theorem finishScanRun_scans : (finishScanRun x status rec d).scans = d.scans.filter fun y => !(y.job == x.job) := by
  rw [finishScanRun, complete_scans, setBlock_scans]

theorem keepsOthers_finishScanRun {changed : List (Nat × Nat)} : KeepsOthers changed d (finishScanRun x status rec d) := by
  have wrote : KeepsOthers changed d (setBlock CHECK_RESULT x.unit rec { d with scans := d.scans.filter fun y => !(y.job == x.job) }) :=
    keepsOthers_of_attrs (setBlock_attrs ..)
  exact wrote.completed

theorem finishScanRun_record (h : rec.length = 48) : block (finishScanRun x status rec d) CHECK_RESULT x.unit = rec := by
  rw [finishScanRun, block_complete_ne (by decide) (by decide), block_setBlock]
  exact fitBytes_exact h

end Finish

theorem checkScanEnd_alone {s : State} {u : Fin 4} {x : CheckRun} (hb : s.dev.brownout = none)
    (hx : s.dev.scans.find? (fun r => r.unit == u.val) = some x) (hm : scanMode x.params ≤ 2) (data partner : List Byte) (corrected : Nat)
    (written readBack : Bool) :
    ∃ t, exec (.checkScanEnd u data partner corrected written readBack) s = .next t ∧ t.mem = s.mem
      ∧ t.dev.scans = s.dev.scans.filter (fun y => !(y.job == x.job))
      ∧ attr t.dev CHECK_SCANS u = (attr s.dev CHECK_SCANS u + 1) % 2 ^ CHECK_SCANS.width
      ∧ Claims.KeepsAttrs [(CHECK_SCANS.code, u.val), (DIE_MEM_CORRECTED.code, scanDie (scanStart x.params))] s t
      ∧ (scanMode x.params ≤ 1 → leAt (block t.dev CHECK_RESULT u) 12 8 = scanValue s x.params u data % 2 ^ 64
          ∧ byteAt (block t.dev CHECK_RESULT u) 2 = if badRange s.dev (scanStart x.params) (scanLength x.params) then 4
              else if scanMode x.params = 0 then 1 else if scanValue s x.params u data = scanExpected x.params then 2 else 3) := by
  obtain ⟨outcome, flags, stored, ended, small, verdict⟩ := scanEnd_alone hx hm data partner corrected written readBack
  have unit : x.unit = u.val := by simpa using List.find?_some hx
  have ran : exec (.checkScanEnd u data partner corrected written readBack) s = .next (scanEnd u data partner corrected written readBack s) :=
    congrArg Host.Outcome.next (if_neg (by rw [hb]; simp))
  have record := finishScanRun_record x stOk _ (scanCounted u corrected x s.dev)
    (length_scanRecord s.dev x.params outcome flags (scanValue s x.params u data) stored 0 corrected)
  rw [unit] at record
  refine ⟨_, ran.trans (congrArg Host.Outcome.next ended), rfl, ?_, ?_, ?_, fun h1 => ?_⟩
  · exact (finishScanRun_scans ..).trans (congrArg _ (scanCounted_scans ..))
  · exact ((keepsOthers_finishScanRun (changed := []) _ _ _ _).read CHECK_SCANS u).trans (scanCounted_count ..)
  · exact (keepsAttrs_iff ..).2 ((keepsOthers_scanCounted _ _ _ _).trans (keepsOthers_finishScanRun _ _ _ _))
  · dsimp only
    rw [record, scanRecord_value, scanRecord_outcome, verdict h1]
    exact ⟨rfl, Nat.mod_eq_of_lt (by rw [← verdict h1]; omega)⟩

/-! ### A deferred command taken up (R475) -/

theorem deferredTakeUp_starts {s : State} {m : Fin 4} {tag : Byte} {job : Job} {body : Body} {x : List Byte} {e : Dev}
    (hj : s.dev.jobs.find? (fun y => y.ref == ⟨m, tag.toNat⟩ && y.deferred) = some job) (hr : isReady s.dev = true) (hv : s.dev.vertex = .running)
    (hb : s.dev.brownout = none) (ho : bodyOf job.opcode = some body)
    (hs : body s.mem ⟨m, tag.toNat, job.opcode, job.params, job.order, [], 0⟩
      { s.dev with jobs := s.dev.jobs.filter fun y => !(y.ref == ⟨m, tag.toNat⟩) } = .accept x e) :
    exec (.deferredTakeUp m tag) s = .next { s with dev := e } := by
  have goes : ¬(isReady s.dev = false ∨ s.dev.vertex ≠ .running ∨ s.dev.brownout.isSome = true) := by simp [hr, hv, hb]
  have taken : takeUp ⟨m, tag.toNat⟩ s = { s with dev := e } := by
    unfold takeUp
    dsimp only
    rw [hj]
    dsimp only
    rw [if_neg goes, ho]
    dsimp only
    rw [hs]
  exact congrArg Host.Outcome.next taken

/-- Settles O56. Memory other than MRAM read from an operand (assumption 72), the result of ACCEPTED dropped when a deferred command is taken up
(95) and the corrected words counted at the die of START (125) are the model's choices. -/
theorem scansAndDeferral : Obligations.scans_and_deferral := by
  unfold Obligations.scans_and_deferral
  intro s
  refine ⟨fun r ht hl hf hd hs => ⟨checkScan_starts ht hl ⟨hf, hd, hs⟩, checkScan_defers ht hl ⟨hf, hd, hs⟩⟩,
    fun r ht hl hu hz => checkResult_reads ht hl hu hz, fun u data partner corrected written readBack x hb hx hm => ?_,
    fun m tag job body x e hj hr hv hb ho hs => deferredTakeUp_starts hj hr hv hb ho hs⟩
  obtain ⟨t, ran, mem, scans, count, kept, record⟩ := checkScanEnd_alone hb hx hm data partner corrected written readBack
  refine ⟨t, ran, mem, scans, count, kept, fun h1 => ?_⟩
  obtain ⟨value, outcome⟩ := record h1
  have whole : ¬(scanMode x.params = 2 ∨ scanMode x.params = 3) := by omega
  unfold scanValue at value outcome
  rw [if_neg whole] at value outcome
  exact ⟨value, outcome⟩

end Sys2Proof.Machine

namespace Sys2Proof.Machine

-- In order, so that no thread waits for the lemmas before it.
set_option Elab.async false

/-! ### Requests that end with a write (R310, R311) -/

section Outcomes
variable {op : Nat} {f : Body} {r : Req} {s : State} {x : List Byte} {d : Dev} {w : MemOp}

theorem issueOut_stores (ht : Claims.Takes op r s) (hl : (paramRange op).1 ≤ r.params.length ∧ r.params.length ≤ (paramRange op).2)
    (hb : f s.mem (takenCall op r s) (takenDev op r s) = .done x d w) :
    ∃ t, issueOut op f r s = .next t ∧ Claims.Replied op stOk r x s t ∧ CameTo d { s with mem := applyMemOp s.mem w } t := by
  obtain ⟨took, hf, owner, free, room⟩ := ht
  obtain ⟨xs, answered, replied⟩ := replied_answer (op := op) (s := s) hf stOk x d
  refine ⟨_, congrArg Host.Outcome.next (issue_done took hf owner free room hl hb), ?_⟩
  rw [answered]
  exact ⟨replied, xs, rfl⟩

theorem issueOut_ended {st : Nat} (ht : Claims.Takes op r s) (hl : (paramRange op).1 ≤ r.params.length ∧ r.params.length ≤ (paramRange op).2)
    (hb : f s.mem (takenCall op r s) (takenDev op r s) = .ended st x d w) :
    ∃ t, issueOut op f r s = .next t ∧ Claims.Replied op st r x s t ∧ CameTo d { s with mem := applyMemOp s.mem w } t := by
  obtain ⟨took, hf, owner, free, room⟩ := ht
  obtain ⟨xs, answered, replied⟩ := replied_answer (op := op) (s := s) hf st x d
  have ran : issue op f r s = { s with dev := answer (takenCall op r s) st x d, mem := applyMemOp s.mem w } := by
    rw [issue_body took hf owner free room hl, hb]
    rfl
  refine ⟨_, congrArg Host.Outcome.next ran, ?_⟩
  rw [answered]
  exact ⟨replied, xs, rfl⟩

/-- A request taken keeps the attributes that its effect keeps, whatever it stores. -/
theorem CameTo.keepsAttrs_stored {changed : List (Nat × Nat)} {m : List Host.Cell} {t : State} (h : CameTo d { s with mem := m } t)
    (k : KeepsOthers changed (takenDev op r s) d) : Claims.KeepsAttrs changed s t :=
  (keepsAttrs_iff ..).2 (((keepsOthers_takenDev op r s).trans k).same (h.field Dev.attrs))

end Outcomes

/-! ### LC_ADVANCE (R503 to R505) -/

theorem drawNonce_nonce (d : Dev) : attr (drawNonce d) DEVICE_LC_NONCE 0 = Config.freeNat d.freeCount % 2 ^ 32 := attr_setAttr ..

theorem keepsOthers_drawNonce {changed : List (Nat × Nat)} (d : Dev) (h : (DEVICE_LC_NONCE.code, 0) ∈ changed) : KeepsOthers changed d (drawNonce d) := by
  have used : KeepsOthers changed d (usedFree d) := keepsOthers_of_attrs rfl
  exact used.wrote (by decide) h

/-- R503: the fields and the states that an LC_ADVANCE meets before its token is looked at. -/
structure AdvanceAsked (ps : List Byte) (d : Dev) : Prop where
  later : attr d DEVICE_LC_STATE 0 < byteAt ps 0
  target : byteAt ps 0 ≤ 3
  reserved : leAt ps 1 3 = 0
  tries : attr d DEVICE_LC_FAILS 0 < 3

theorem AdvanceAsked.taken {ps : List Byte} {s : State} (h : AdvanceAsked ps s.dev) (op : Nat) (r : Req) : AdvanceAsked ps (takenDev op r s) where
  later := by rw [takenDev_read _ _ _ DEVICE_LC_STATE]; exact h.later
  target := h.target
  reserved := h.reserved
  tries := by rw [takenDev_read _ _ _ DEVICE_LC_FAILS]; exact h.tries

theorem tokenFor_taken (op : Nat) (r : Req) (s : State) (target : Nat) : tokenFor (takenDev op r s) target = tokenFor s.dev target := by
  rw [tokenFor, takenDev_read _ _ _ DEVICE_LC_NONCE, tokenFor]

/-- R505: the block with an advance begun. -/
def advanceBegun (c : Call) (d : Dev) : Dev :=
  modLife (fun x => { x with advance := some (callRef c, byteAt c.params 0) }) (addJob c (drawNonce d))

theorem keepsOthers_advanceBegun (c : Call) (d : Dev) : KeepsOthers [(DEVICE_LC_NONCE.code, 0)] d (advanceBegun c d) :=
  KeepsOthers.same (e := drawNonce d) (keepsOthers_drawNonce d (by simp)) rfl

theorem advanceBegun_nonce (c : Call) (d : Dev) : attr (advanceBegun c d) DEVICE_LC_NONCE 0 = Config.freeNat d.freeCount % 2 ^ 32 := drawNonce_nonce d

theorem bodyLcAdvance_asked {c : Call} {d : Dev} (h : AdvanceAsked c.params d) (mem : List Host.Cell) :
    bodyLcAdvance mem c d =
      if (c.params.drop 4).take 8 ≠ tokenFor d (byteAt c.params 0) then .ended stRefused [] (bump DEVICE_LC_FAILS 0 1 (drawNonce d)) .keep
      else if d.life.advance.isSome ∨ d.life.commit.isSome then .ended stBusy [] (drawNonce d) .keep
      else .accept [] (advanceBegun c d) := by
  obtain ⟨later, target, reserved, tries⟩ := h
  unfold bodyLcAdvance
  dsimp only
  rw [need_of (by rw [reservedZero_of reserved]; simp; omega), need_of (decide_eq_true later), need_of (decide_eq_true tries)]
  rfl

section Advance
variable {r : Req} {s : State}

theorem lcAdvance_refuses (ht : Claims.Takes 0xC4 r s) (hl : r.params.length = 12) (h : AdvanceAsked r.params s.dev)
    (hk : (r.params.drop 4).take 8 ≠ tokenFor s.dev (byteAt r.params 0)) :
    ∃ t, exec (.lcAdvance r) s = .next t ∧ Claims.Replied 0xC4 stRefused r [] s t
      ∧ attr t.dev DEVICE_LC_FAILS 0 = attr s.dev DEVICE_LC_FAILS 0 + 1
      ∧ attr t.dev DEVICE_LC_NONCE 0 = Config.freeNat s.dev.freeCount % 2 ^ 32 ∧ t.dev.life = s.dev.life
      ∧ Claims.KeepsAttrs [(DEVICE_LC_FAILS.code, 0), (DEVICE_LC_NONCE.code, 0)] s t ∧ t.mem = s.mem := by
  have body := bodyLcAdvance_asked (c := takenCall 0xC4 r s) (h.taken 0xC4 r) s.mem
  rw [if_pos (by rw [tokenFor_taken]; exact hk)] at body
  obtain ⟨t, ran, replied, came⟩ := issueOut_ended ht (by rw [hl]; decide) body
  have width : DEVICE_LC_FAILS.width = 8 := rfl
  have tries := h.tries
  have kept : KeepsOthers [(DEVICE_LC_FAILS.code, 0), (DEVICE_LC_NONCE.code, 0)] (takenDev 0xC4 r s)
      (bump DEVICE_LC_FAILS 0 1 (drawNonce (takenDev 0xC4 r s))) := (keepsOthers_drawNonce _ (by simp)).counted
  refine ⟨t, ran, replied, ?_, ?_, ?_, came.keepsAttrs_stored kept, came.mem⟩
  · rw [came.attr, attr_bump, drawNonce, attr_setAttr_ne _ _ _ _ (by decide) (by decide) (by decide), width]
    have same : attr (usedFree (takenDev 0xC4 r s)) DEVICE_LC_FAILS 0 = attr s.dev DEVICE_LC_FAILS 0 := takenDev_read ..
    rw [same]
    exact Nat.mod_eq_of_lt (by omega)
  · rw [came.attr, attr_bump_ne _ _ _ _ (by decide) (by decide) (by decide), drawNonce_nonce, takenDev_freeCount]
  · exact (came.field Dev.life).trans (takenDev_life ..)

theorem lcAdvance_starts (ht : Claims.Takes 0xC4 r s) (hl : r.params.length = 12) (h : AdvanceAsked r.params s.dev)
    (hk : (r.params.drop 4).take 8 = tokenFor s.dev (byteAt r.params 0)) (ha : s.dev.life.advance = none) (hc : s.dev.life.commit = none) :
    ∃ t, exec (.lcAdvance r) s = .next t ∧ Claims.Replied 0xC4 stAccepted r [] s t
      ∧ t.dev.life.advance = some (⟨r.master, r.tag.toNat⟩, byteAt r.params 0)
      ∧ attr t.dev DEVICE_LC_NONCE 0 = Config.freeNat s.dev.freeCount % 2 ^ 32 ∧ Claims.KeepsAttrs [(DEVICE_LC_NONCE.code, 0)] s t ∧ t.mem = s.mem := by
  have idle : ¬((takenDev 0xC4 r s).life.advance.isSome ∨ (takenDev 0xC4 r s).life.commit.isSome) := by rw [takenDev_life, ha, hc]; simp
  have body := bodyLcAdvance_asked (c := takenCall 0xC4 r s) (h.taken 0xC4 r) s.mem
  rw [if_neg (by rw [tokenFor_taken]; exact not_not.2 hk), if_neg idle] at body
  obtain ⟨t, ran, replied, came⟩ := issueOut_starts ht (by rw [hl]; decide) body
  refine ⟨t, ran, replied, came.field fun e => e.life.advance, ?_, came.keepsAttrs (keepsOthers_advanceBegun _ _), came.mem⟩
  rw [came.attr, advanceBegun_nonce, takenDev_freeCount]

end Advance

/-! ### The fuses blown (R476, R505) -/

/-- R505: what the stop of self-test leaves alone: the state of the life cycle. -/
structure LifeFrame (d e : Dev) : Prop where
  life : e.life = d.life
  state : attr e DEVICE_LC_STATE 0 = attr d DEVICE_LC_STATE 0

/-- R477: the block with its run of self-test over. -/
def runCleared (d : Dev) : Dev := modBist (fun b => { b with run := none }) { strobeLevel false d with strobe := false }

theorem strobeLevel_bist (level : Bool) (d : Dev) : (strobeLevel level d).bist = d.bist := by
  unfold strobeLevel
  split
  · exact setAttr_bist ..
  · rfl

theorem runCleared_cycling (d : Dev) : (runCleared d).bist.cycling = d.bist.cycling := by
  have same := congrArg Bist.cycling (strobeLevel_bist false d)
  exact same

namespace LifeFrame
variable {d e f : Dev}

theorem refl (d : Dev) : LifeFrame d d := ⟨rfl, rfl⟩

theorem after (k : LifeFrame e f) (h : LifeFrame d e) : LifeFrame d f := ⟨k.life.trans h.life, k.state.trans h.state⟩

theorem complete (j : JobRef) (cls inst type status : Nat) (result : List Byte) (d : Dev) : LifeFrame d (complete j cls inst type status result d) where
  life := complete_life ..
  state := attr_complete _ _ _ _ _ _ _ _ _ (by unfold noEventAttr; decide)

theorem strobeLevel (level : Bool) (d : Dev) : LifeFrame d (strobeLevel level d) := by
  unfold Machine.strobeLevel
  split
  · exact ⟨rfl, attr_setAttr_ne _ _ _ _ (by decide) (by decide) (by decide)⟩
  · exact refl d

theorem runCleared (d : Dev) : LifeFrame d (runCleared d) := after (e := Machine.strobeLevel false d) ⟨rfl, rfl⟩ (strobeLevel ..)

theorem finishBistRun (status : Nat) (d : Dev) : LifeFrame d (finishBistRun status d) := by
  unfold Machine.finishBistRun
  split
  · exact refl d
  · exact after (complete ..) (runCleared d)

theorem abortBistRun (d : Dev) : LifeFrame d (abortBistRun d) := by
  unfold Machine.abortBistRun
  split
  · exact refl d
  · split
    · exact after (complete ..) (after (runCleared _) ⟨rfl, rfl⟩)
    · exact finishBistRun ..

theorem stopSlice (region : Nat) (d : Dev) : LifeFrame d (stopSlice region d) := by
  obtain ⟨_, h⟩ := stopSlice_eq region d
  rw [h]
  exact ⟨rfl, rfl⟩

theorem failEngine (f e : Nat) (d : Dev) : LifeFrame d (failEngine f e d) where
  life := raise_life ..
  state := by
    unfold Machine.failEngine permanentFault
    rw [attr_raise _ _ _ _ _ _ _ (by unfold noEventAttr; decide)]
    refine (attr_bump_ne _ _ _ _ (by decide) (by decide) (by decide)).trans ?_
    exact attr_setEngine_ne _ _ _ _ _ (by decide) (by decide)

end LifeFrame

/-- R477: an aborted run of self-test is over. -/
theorem abortBistRun_run (d : Dev) : (abortBistRun d).bist.run = none := by
  unfold abortBistRun finishBistRun
  cases h : d.bist.run with
  | none => exact h
  | some x =>
    dsimp only
    split <;> rw [complete_bist] <;> rfl

theorem abortBistRun_cycling (d : Dev) : (abortBistRun d).bist.cycling = d.bist.cycling := by
  unfold abortBistRun finishBistRun
  cases h : d.bist.run with
  | none => rfl
  | some x =>
    dsimp only
    split
    · rw [complete_bist]
      exact runCleared_cycling (usedFree d)
    · rw [complete_bist]
      exact runCleared_cycling d

/-- R463: the stop of a slice leaves the run and the cycle. -/
theorem stopSlice_bist (region : Nat) (d : Dev) : (stopSlice region d).bist.run = d.bist.run ∧ (stopSlice region d).bist.cycling = d.bist.cycling := by
  unfold stopSlice
  split
  · split <;> exact ⟨rfl, rfl⟩
  · exact ⟨rfl, rfl⟩

theorem failEngine_bist (f e : Nat) (d : Dev) : (failEngine f e d).bist = d.bist := by
  unfold failEngine permanentFault
  exact (raise_bist ..).trans rfl

/-- R476: the slice under way stopped. -/
def stopRunning (d : Dev) : Dev := match d.bist.slice with | some x => stopSlice x.region d | none => d

/-- R476: engines still under test are FAILED. -/
def failTested (d : Dev) : Dev := forAll (List.range 160) (fun i e => if engineState e (i / 5) (i % 5) = 1 then failEngine (i / 5) (i % 5) e else e) d

theorem stopSelfTest_eq (d : Dev) : stopSelfTest d = failTested (stopRunning (abortBistRun (modBist (fun b => { b with cycling := false }) d))) := rfl

theorem stopRunning_bist (d : Dev) : (stopRunning d).bist.run = d.bist.run ∧ (stopRunning d).bist.cycling = d.bist.cycling := by
  unfold stopRunning
  split
  · exact stopSlice_bist ..
  · exact ⟨rfl, rfl⟩

theorem failTested_bist (d : Dev) : (failTested d).bist = d.bist := by
  refine forAll_keeps Dev.bist (fun i e => ?_) _ d
  split
  · exact failEngine_bist ..
  · rfl

theorem LifeFrame.stopRunning (d : Dev) : LifeFrame d (stopRunning d) := by
  unfold Machine.stopRunning
  split
  · exact .stopSlice ..
  · exact .refl d

theorem LifeFrame.failTested (d : Dev) : LifeFrame d (failTested d) := by
  have each : ∀ i e, LifeFrame e (if engineState e (i / 5) (i % 5) = 1 then Machine.failEngine (i / 5) (i % 5) e else e) := fun i e => by
    split
    · exact .failEngine ..
    · exact .refl e
  exact ⟨forAll_keeps Dev.life (fun i e => (each i e).life) _ d,
    forAll_keeps (fun x => attr x DEVICE_LC_STATE 0) (fun i e => (each i e).state) _ d⟩

theorem LifeFrame.stopSelfTest (d : Dev) : LifeFrame d (stopSelfTest d) :=
  .after (.failTested _) (.after (.stopRunning _) (.after (.abortBistRun _) ⟨rfl, rfl⟩))

theorem stopSelfTest_stops (d : Dev) : (stopSelfTest d).bist.run = none ∧ (stopSelfTest d).bist.cycling = false := by
  obtain ⟨run, cycling⟩ := stopRunning_bist (abortBistRun (modBist (fun b => { b with cycling := false }) d))
  rw [stopSelfTest_eq, failTested_bist, run, cycling]
  exact ⟨abortBistRun_run _, abortBistRun_cycling _⟩

section Fuses
variable {s : State} {j : JobRef} {target : Nat}

theorem fuseDone_below {d : Dev} (ha : d.life.advance = some (j, target)) (h3 : target ≠ 3) :
    fuseDone d = complete j clsDevice 0 evLcDone stOk [byteOf target] (modLife (fun x => { x with advance := none })
      (if target = 1 then setAttr BIST_POWER_UP 0x600 1 (setAttr DEVICE_LC_STATE 0 target d) else setAttr DEVICE_LC_STATE 0 target d)) := by
  unfold fuseDone
  rw [ha]
  exact if_neg h3

theorem fuseDone_last {d : Dev} (ha : d.life.advance = some (j, 3)) :
    fuseDone d = stopSelfTest (modLife (fun x => { x with erasePending := true, erasing := true }) (setAttr DEVICE_LC_STATE 0 3 d)) := by
  unfold fuseDone
  rw [ha]
  exact if_pos rfl

theorem lcState_set (d : Dev) (h : target ≤ 3) : attr (setAttr DEVICE_LC_STATE 0 target d) DEVICE_LC_STATE 0 = target := by
  have width : DEVICE_LC_STATE.width = 8 := rfl
  rw [attr_setAttr, width]
  omega

theorem lcFuseDone_below (ha : s.dev.life.advance = some (j, target)) (h3 : target < 3) :
    ∃ t, exec .lcFuseDone s = .next t ∧ attr t.dev DEVICE_LC_STATE 0 = target ∧ t.mem = s.mem ∧ t.dev.life.advance = none
      ∧ Claims.KeepsAttrs [(DEVICE_LC_STATE.code, 0), (BIST_POWER_UP.code, 0x600)] s t := by
  have set : KeepsOthers [(DEVICE_LC_STATE.code, 0), (BIST_POWER_UP.code, 0x600)] s.dev (setAttr DEVICE_LC_STATE 0 target s.dev) :=
    KeepsOthers.refl.wrote
  have applied := (set.wrote (a := BIST_POWER_UP) (i := 0x600) (v := 1)).branch (p := target = 1) set
  refine ⟨{ s with dev := fuseDone s.dev }, rfl, ?_, rfl, ?_, (keepsAttrs_iff ..).2 ?_⟩
  · dsimp only
    rw [fuseDone_below ha (by omega), attr_complete _ _ _ _ _ _ _ _ _ (by unfold noEventAttr; decide)]
    have raw : attr (if target = 1 then setAttr BIST_POWER_UP 0x600 1 (setAttr DEVICE_LC_STATE 0 target s.dev) else setAttr DEVICE_LC_STATE 0 target s.dev)
        DEVICE_LC_STATE 0 = target := by
      split
      · rw [attr_setAttr_ne _ _ _ _ (by decide) (by decide) (by decide), lcState_set _ (by omega)]
      · exact lcState_set _ (by omega)
    exact raw
  · dsimp only
    rw [fuseDone_below ha (by omega), complete_life]
    rfl
  · rw [fuseDone_below ha (by omega)]
    exact KeepsOthers.completed (applied.same rfl)

theorem lcFuseDone_last (ha : s.dev.life.advance = some (j, 3)) :
    ∃ t, exec .lcFuseDone s = .next t ∧ attr t.dev DEVICE_LC_STATE 0 = 3 ∧ t.mem = s.mem ∧ t.dev.life.erasing = true ∧ t.dev.bist.run = none
      ∧ t.dev.bist.cycling = false := by
  have frame := LifeFrame.stopSelfTest (modLife (fun x => { x with erasePending := true, erasing := true }) (setAttr DEVICE_LC_STATE 0 3 s.dev))
  have stops := stopSelfTest_stops (modLife (fun x => { x with erasePending := true, erasing := true }) (setAttr DEVICE_LC_STATE 0 3 s.dev))
  rw [← fuseDone_last ha] at frame stops
  obtain ⟨life, state⟩ := frame
  obtain ⟨run, cycling⟩ := stops
  exact ⟨{ s with dev := fuseDone s.dev }, rfl, state.trans (lcState_set (target := 3) s.dev (by decide)), rfl, congrArg Life.erasing life, run, cycling⟩

end Fuses

/-! ### The erase of DECOMMISSIONED (R505) -/

/-- R505: the block after its stores are erased. -/
def storesErased (mem : List Host.Cell) (d : Dev) : Dev :=
  refreshStores mem (setAttr DEVICE_FW_STAGE_STATE 0 0 (modLife (fun x => { x with erasePending := false, erasing := false })
    (modFaults (fun x => { x with badWords := x.badWords.filter fun w => decide (lcErased ≤ w) }) (noteWrite 0 lcErased d))))

theorem eraseStores_eq (s : State) :
    eraseStores s = { s with mem := memErase s.mem 0 lcErased, dev := storesErased (memErase s.mem 0 lcErased) s.dev } := rfl

theorem storesErased_life (mem : List Host.Cell) (d : Dev) :
    (storesErased mem d).life = { d.life with erasePending := false, erasing := false } := by
  unfold storesErased refreshStores
  rw [setAttr_life, setAttr_life, setAttr_life, setAttr_life]
  rfl

theorem storesErased_stage (mem : List Host.Cell) (d : Dev) : attr (storesErased mem d) DEVICE_FW_STAGE_STATE 0 = 0 :=
  ((keepsOthers_refreshStores mem _).read DEVICE_FW_STAGE_STATE 0).trans (attr_setAttr ..)

/-- R505: the block once the advance to DECOMMISSIONED is over. -/
def advanceOver (d : Dev) : Dev :=
  match d.life.advance with
  | some (j, target) => complete j clsDevice 0 evLcDone stOk [byteOf target] (modLife (fun x => { x with advance := none }) d)
  | none => d

theorem advanceOver_life (d : Dev) : (advanceOver d).life = { d.life with advance := none } := by
  unfold advanceOver
  split
  · exact complete_life ..
  · rename_i h
    rw [← h]

theorem advanceOver_stage (d : Dev) : attr (advanceOver d) DEVICE_FW_STAGE_STATE 0 = attr d DEVICE_FW_STAGE_STATE 0 := by
  unfold advanceOver
  split
  · exact attr_complete _ _ _ _ _ _ _ _ _ (by unfold noEventAttr; decide)
  · rfl

theorem lcEraseEnd_erases {s : State} (he : s.dev.life.erasing = true) (hb : s.dev.brownout = none) :
    lcEraseEnd s = { s with mem := memErase s.mem 0 lcErased, dev := advanceOver (storesErased (memErase s.mem 0 lcErased) s.dev) } := by
  have runs : ¬(s.dev.life.erasing = false ∨ s.dev.brownout.isSome = true) := by simp [he, hb]
  unfold lcEraseEnd
  rw [if_neg runs, eraseStores_eq]
  dsimp only
  unfold advanceOver
  cases (storesErased (memErase s.mem 0 lcErased) s.dev).life.advance with
  | none => rfl
  | some x => rfl

theorem lcEraseEnd_ends {s : State} (he : s.dev.life.erasing = true) (hb : s.dev.brownout = none) :
    ∃ t, exec .lcEraseEnd s = .next t ∧ t.dev.life.erasing = false ∧ t.dev.life.erasePending = false ∧ t.dev.life.advance = none
      ∧ attr t.dev DEVICE_FW_STAGE_STATE 0 = 0 ∧ (∀ a < 0x600000, memGet t.mem a = 0#8) ∧ (∀ a, 0x600000 ≤ a → memGet t.mem a = memGet s.mem a) := by
  have life := (advanceOver_life _).trans (congrArg (fun x : Life => { x with advance := none }) (storesErased_life (memErase s.mem 0 lcErased) s.dev))
  refine ⟨_, congrArg Host.Outcome.next (lcEraseEnd_erases he hb), congrArg Life.erasing life, congrArg Life.erasePending life,
    congrArg Life.advance life, (advanceOver_stage _).trans (storesErased_stage ..), fun a ha => ?_, fun a ha => ?_⟩
  · exact memGet_erase_in s.mem 0 lcErased a (Nat.zero_le a) (by omega)
  · exact memGet_erase_out s.mem 0 lcErased a (.inr (by omega))

/-- Settles O58. An erased byte that reads 0 is the model's choice, which no row of its assumption log names (R505 says only that the stores are
erased), and so is the NONCE drawn from a stream of free values (assumption 5). -/
theorem lifeCycleAdvance : Obligations.life_cycle_advance := by
  unfold Obligations.life_cycle_advance
  intro s
  refine ⟨fun r ht hl hs h3 hz hf => ?_, fun j target ha h3 => ?_, fun he hb => lcEraseEnd_ends he hb⟩
  · have asked : AdvanceAsked r.params s.dev := ⟨hs, h3, hz, hf⟩
    exact ⟨lcAdvance_refuses ht hl asked, lcAdvance_starts ht hl asked⟩
  · by_cases last : target = 3
    · subst last
      obtain ⟨t, ran, state, mem, erasing, run, cycling⟩ := lcFuseDone_last ha
      exact ⟨t, ran, state, mem, fun h => absurd h (by decide), fun _ => ⟨erasing, run, cycling⟩⟩
    · obtain ⟨t, ran, state, mem, ended, kept⟩ := lcFuseDone_below ha (by omega)
      exact ⟨t, ran, state, mem, fun _ => ⟨ended, kept⟩, fun h => absurd h last⟩

end Sys2Proof.Machine

namespace Sys2Proof.Machine

-- In order, so that no thread waits for the lemmas before it.
set_option Elab.async false

/-! ### FW_STAGE (R506, R507) -/

section Stage
variable {d e : Dev}

/-- The slot staged is that of the block before the request. -/
theorem stageSlot_congr (h : attr e DEVICE_FW_ACTIVE 0 = attr d DEVICE_FW_ACTIVE 0) : stageSlot e = stageSlot d := by rw [stageSlot, h, stageSlot]

theorem stageSlot_taken (op : Nat) (r : Req) (s : State) : stageSlot (takenDev op r s) = stageSlot s.dev := stageSlot_congr (takenDev_read ..)

theorem keepsOthers_noteStage {changed : List (Nat × Nat)} (off n : Nat) (d : Dev) : KeepsOthers changed d (noteStage off n d) := keepsOthers_of_attrs rfl

/-- R507: the checks that every FW_STAGE passes. -/
structure StageAsked (ps : List Byte) (d : Dev) : Prop where
  reserved : leAt ps 1 3 = 0
  inUse : attr d DEVICE_LC_STATE 0 ≠ 3
  idle : d.life.commit = none

theorem StageAsked.taken {ps : List Byte} {s : State} (h : StageAsked ps s.dev) (op : Nat) (r : Req) : StageAsked ps (takenDev op r s) where
  reserved := h.reserved
  inUse := by rw [takenDev_read _ _ _ DEVICE_LC_STATE]; exact h.inUse
  idle := by rw [takenDev_life]; exact h.idle

/-- R507: the block after BEGIN. -/
def stageBegun (d : Dev) : Dev := setAttr DEVICE_FW_STAGE_BYTES 0 0 (setAttr DEVICE_FW_STAGE_STATE 0 1 (noteStage 0 256 d))

/-- R507: the block after ABORT. -/
def stageAborted (d : Dev) : Dev := setAttr DEVICE_FW_STAGE_STATE 0 0 (noteStage 0 256 d)

/-- R507: the block after DATA of `n` bytes. -/
def stageFed (off n : Nat) (d : Dev) : Dev := bump DEVICE_FW_STAGE_BYTES 0 n (noteStage off n d)

theorem bodyFwStage_clears {c : Call} {d : Dev} (h : StageAsked c.params d) (hl : c.params.length = 8) (ha : byteAt c.params 0 = 0 ∨ byteAt c.params 0 = 2)
    (lost : Bool) (mem : List Host.Cell) :
    bodyFwStage lost mem c d = .done [] (if byteAt c.params 0 = 0 then stageBegun d else stageAborted d) (.erase (patchBase (stageSlot d)) 256) := by
  obtain ⟨reserved, inUse, idle⟩ := h
  have act : byteAt c.params 0 ≠ 1 := by omega
  have state : (attr d DEVICE_LC_STATE 0 != 3) = true := bne_iff_ne.2 inUse
  unfold bodyFwStage
  dsimp only
  rw [need_of (by rw [reservedZero_of reserved]; simp; omega), if_neg act, need_of (by simp [hl]), need_of state, need_of (by rw [idle]; rfl)]
  rcases ha with begin' | abort
  · rw [if_pos begin', if_pos begin']
    rfl
  · have other : byteAt c.params 0 ≠ 0 := by omega
    rw [if_neg other, if_pos abort, if_neg other]
    rfl

theorem bodyFwStage_feeds {c : Call} {d : Dev} (h : StageAsked c.params d) (ha : byteAt c.params 0 = 1) (h9 : 9 ≤ c.params.length)
    (hm : c.params.length ≤ 1024) (hs : leAt c.params 4 4 + (c.params.length - 8) ≤ 1048576)
    (hh : 256 ≤ leAt c.params 4 4 ∨ leAt c.params 4 4 + (c.params.length - 8) ≤ 192) (hb : attr d DEVICE_FW_STAGE_STATE 0 = 1) (mem : List Host.Cell) :
    bodyFwStage false mem c d = .done [] (stageFed (leAt c.params 4 4) (c.params.length - 8) d)
      (.write (patchBase (stageSlot d) + leAt c.params 4 4) (c.params.drop 8)) := by
  obtain ⟨reserved, inUse, idle⟩ := h
  have state : (attr d DEVICE_LC_STATE 0 != 3) = true := bne_iff_ne.2 inUse
  have first : byteAt c.params 0 ≠ 0 := by omega
  have second : byteAt c.params 0 ≠ 2 := by omega
  have place : (decide (leAt c.params 4 4 + (c.params.length - 8) ≤ 1048576)
      && (decide (256 ≤ leAt c.params 4 4) || decide (leAt c.params 4 4 + (c.params.length - 8) ≤ 192))) = true := by
    simpa using ⟨hs, hh⟩
  unfold bodyFwStage
  dsimp only
  rw [need_of (by rw [reservedZero_of reserved]; simp; omega), if_pos ha, need_of (by simp; omega), need_of state, need_of (by rw [idle]; rfl),
    if_neg first, if_neg second, List.length_drop, need_of place, need_of (beq_iff_eq.2 hb), if_neg Bool.false_ne_true]
  rfl

end Stage

section Staging
variable {r : Req} {s : State}

theorem stageBegun_state (d : Dev) : attr (stageBegun d) DEVICE_FW_STAGE_STATE 0 = 1 := by
  rw [stageBegun, attr_setAttr_ne _ _ _ _ (by decide) (by decide) (by decide), attr_setAttr]
  rfl

theorem stageBegun_bytes (d : Dev) : attr (stageBegun d) DEVICE_FW_STAGE_BYTES 0 = 0 := attr_setAttr ..

theorem stageAborted_state (d : Dev) : attr (stageAborted d) DEVICE_FW_STAGE_STATE 0 = 0 := attr_setAttr ..

theorem stageFed_bytes (off n : Nat) (d : Dev) :
    attr (stageFed off n d) DEVICE_FW_STAGE_BYTES 0 = (attr d DEVICE_FW_STAGE_BYTES 0 + n) % 2 ^ DEVICE_FW_STAGE_BYTES.width := attr_bump ..

theorem stageCleared_state (begins : Prop) [Decidable begins] (d : Dev) :
    attr (if begins then stageBegun d else stageAborted d) DEVICE_FW_STAGE_STATE 0 = if begins then 1 else 0 := by
  split
  · exact stageBegun_state d
  · exact stageAborted_state d

theorem keepsOthers_stageCleared (begins : Prop) [Decidable begins] (d : Dev) :
    KeepsOthers [(DEVICE_FW_STAGE_STATE.code, 0), (DEVICE_FW_STAGE_BYTES.code, 0)] d (if begins then stageBegun d else stageAborted d) :=
  KeepsOthers.branch (keepsOthers_noteStage 0 256 d).wrote.wrote (keepsOthers_noteStage 0 256 d).wrote

theorem fwStage_clears (ht : Claims.Takes 0xC0 r s) (h : StageAsked r.params s.dev) (lost : Bool) (hl : r.params.length = 8)
    (ha : byteAt r.params 0 = 0 ∨ byteAt r.params 0 = 2) :
    ∃ t, exec (.fwStage r lost) s = .next t ∧ Claims.Replied 0xC0 stOk r [] s t
      ∧ attr t.dev DEVICE_FW_STAGE_STATE 0 = (if byteAt r.params 0 = 0 then 1 else 0)
      ∧ (byteAt r.params 0 = 0 → attr t.dev DEVICE_FW_STAGE_BYTES 0 = 0)
      ∧ (∀ a, patchBase (stageSlot s.dev) ≤ a → a < patchBase (stageSlot s.dev) + 256 → memGet t.mem a = 0#8)
      ∧ (∀ a, a < patchBase (stageSlot s.dev) ∨ patchBase (stageSlot s.dev) + 256 ≤ a → memGet t.mem a = memGet s.mem a)
      ∧ Claims.KeepsAttrs [(DEVICE_FW_STAGE_STATE.code, 0), (DEVICE_FW_STAGE_BYTES.code, 0)] s t := by
  have body := bodyFwStage_clears (c := takenCall 0xC0 r s) (h.taken 0xC0 r) hl ha lost s.mem
  rw [stageSlot_taken] at body
  obtain ⟨t, ran, replied, came⟩ := issueOut_stores ht (by rw [hl]; decide) body
  have mem : t.mem = memErase s.mem (patchBase (stageSlot s.dev)) 256 := came.mem
  refine ⟨t, ran, replied, ?_, fun begins => ?_, fun a h1 h2 => ?_, fun a ha => ?_, came.keepsAttrs_stored (keepsOthers_stageCleared _ _)⟩
  · exact (came.attr ..).trans (stageCleared_state ..)
  · rw [came.attr, if_pos (show byteAt (takenCall 0xC0 r s).params 0 = 0 from begins)]
    exact stageBegun_bytes _
  · rw [mem, memGet_erase_in _ _ _ _ h1 h2]
  · rw [mem, memGet_erase_out _ _ _ _ ha]

theorem fwStage_feeds (ht : Claims.Takes 0xC0 r s) (h : StageAsked r.params s.dev) (ha : byteAt r.params 0 = 1) (h9 : 9 ≤ r.params.length)
    (hm : r.params.length ≤ 1024) (hs : leAt r.params 4 4 + (r.params.length - 8) ≤ 1048576)
    (hh : 256 ≤ leAt r.params 4 4 ∨ leAt r.params 4 4 + (r.params.length - 8) ≤ 192) (hb : attr s.dev DEVICE_FW_STAGE_STATE 0 = 1) :
    ∃ t, exec (.fwStage r false) s = .next t ∧ Claims.Replied 0xC0 stOk r [] s t
      ∧ attr t.dev DEVICE_FW_STAGE_BYTES 0 = (attr s.dev DEVICE_FW_STAGE_BYTES 0 + (r.params.length - 8)) % 2 ^ DEVICE_FW_STAGE_BYTES.width
      ∧ memRead t.mem (patchBase (stageSlot s.dev) + leAt r.params 4 4) (r.params.length - 8) = r.params.drop 8
      ∧ (∀ a, a < patchBase (stageSlot s.dev) + leAt r.params 4 4 ∨ patchBase (stageSlot s.dev) + leAt r.params 4 4 + (r.params.length - 8) ≤ a →
          memGet t.mem a = memGet s.mem a)
      ∧ Claims.KeepsAttrs [(DEVICE_FW_STAGE_BYTES.code, 0)] s t := by
  have staging : attr (takenDev 0xC0 r s) DEVICE_FW_STAGE_STATE 0 = 1 := (takenDev_read ..).trans hb
  have body := bodyFwStage_feeds (c := takenCall 0xC0 r s) (h.taken 0xC0 r) ha h9 hm hs hh staging s.mem
  rw [stageSlot_taken] at body
  have range : (paramRange 0xC0).1 = 8 ∧ (paramRange 0xC0).2 = 1024 := by decide
  obtain ⟨t, ran, replied, came⟩ := issueOut_stores ht (by rw [range.1, range.2]; omega) body
  have mem : t.mem = memWrite s.mem (patchBase (stageSlot s.dev) + leAt r.params 4 4) (r.params.drop 8) := came.mem
  have length : (r.params.drop 8).length = r.params.length - 8 := List.length_drop
  refine ⟨t, ran, replied, ?_, ?_, fun a ha => ?_, came.keepsAttrs_stored (keepsOthers_noteStage _ _ _).counted⟩
  · rw [came.attr, stageFed_bytes, takenDev_read _ _ _ DEVICE_FW_STAGE_BYTES]
    rfl
  · rw [mem, memRead_write _ _ length]
  · rw [mem, memGet_write_out length ha]

end Staging

end Sys2Proof.Machine

namespace Sys2Proof.Machine

-- In order, so that no thread waits for the lemmas before it.
set_option Elab.async false

/-! ### FW_COMMIT (R508) -/

section Commit
variable {r : Req} {s : State}

/-- R508: the block with a verification begun. -/
def commitBegun (c : Call) (d : Dev) : Dev := modLife (fun x => { x with commit := some (callRef c) }) (setAttr DEVICE_FW_STAGE_STATE 0 2 (addJob c d))

theorem commitBegun_state (c : Call) (d : Dev) : attr (commitBegun c d) DEVICE_FW_STAGE_STATE 0 = 2 := by
  have set := attr_setAttr DEVICE_FW_STAGE_STATE 0 2 (addJob c d)
  exact set

theorem keepsOthers_commitBegun (c : Call) (d : Dev) : KeepsOthers [(DEVICE_FW_STAGE_STATE.code, 0)] d (commitBegun c d) := by
  have job : KeepsOthers [(DEVICE_FW_STAGE_STATE.code, 0)] d (addJob c d) := keepsOthers_of_attrs rfl
  exact KeepsOthers.same (e := setAttr DEVICE_FW_STAGE_STATE 0 2 (addJob c d)) job.wrote rfl

theorem bodyFwCommit_begins {c : Call} {d : Dev} (hp : c.params = [0#8, 0#8, 0#8, 0#8]) (hl : attr d DEVICE_LC_STATE 0 ≠ 3)
    (hs : attr d DEVICE_FW_STAGE_STATE 0 = 1) (ha : d.life.advance = none) (mem : List Host.Cell) :
    bodyFwCommit mem c d = .accept [] (commitBegun c d) := by
  unfold bodyFwCommit
  rw [need_of (by rw [hp]; decide), need_of (bne_iff_ne.2 hl), need_of (beq_iff_eq.2 hs), need_of (by rw [ha]; rfl)]
  rfl

theorem fwCommit_begins (ht : Claims.Takes 0xC1 r s) (hp : r.params = [0#8, 0#8, 0#8, 0#8]) (hl : attr s.dev DEVICE_LC_STATE 0 ≠ 3)
    (hs : attr s.dev DEVICE_FW_STAGE_STATE 0 = 1) (ha : s.dev.life.advance = none) :
    ∃ t, exec (.fwCommit r) s = .next t ∧ Claims.Replied 0xC1 stAccepted r [] s t ∧ attr t.dev DEVICE_FW_STAGE_STATE 0 = 2
      ∧ t.dev.life.commit = some ⟨r.master, r.tag.toNat⟩ ∧ Claims.KeepsAttrs [(DEVICE_FW_STAGE_STATE.code, 0)] s t ∧ t.mem = s.mem := by
  have state : attr (takenDev 0xC1 r s) DEVICE_LC_STATE 0 ≠ 3 := by rwa [takenDev_read _ _ _ DEVICE_LC_STATE]
  have staged : attr (takenDev 0xC1 r s) DEVICE_FW_STAGE_STATE 0 = 1 := (takenDev_read ..).trans hs
  have idle : (takenDev 0xC1 r s).life.advance = none := by rw [takenDev_life, ha]
  have body := bodyFwCommit_begins (c := takenCall 0xC1 r s) hp state staged idle s.mem
  obtain ⟨t, ran, replied, came⟩ := issueOut_starts ht (by rw [hp]; decide) body
  exact ⟨t, ran, replied, (came.attr ..).trans (commitBegun_state ..), came.field fun e => e.life.commit,
    came.keepsAttrs (keepsOthers_commitBegun _ _), came.mem⟩

end Commit

/-! ### The header of a patch slot (R506, R508) -/

theorem length_memRead (m : List Host.Cell) (a n : Nat) : (memRead m a n).length = n := by simp [memRead]

/-- What is written elsewhere does not show in a range read. -/
theorem memRead_write_out {m : List Host.Cell} {a b n k : Nat} {bs : List Byte} (hl : bs.length = n) (h : b + k ≤ a ∨ a + n ≤ b) :
    memRead (memWrite m a bs) b k = memRead m b k := by
  unfold memRead
  refine List.map_congr_left fun i hi => ?_
  have inside := List.mem_range.1 hi
  exact memGet_write_out hl (by omega)

theorem byteAt_take_append {h : List Byte} {m i : Nat} (hm : m ≤ h.length) (hi : i < m) (rest : List Byte) :
    byteAt (h.take m ++ rest) i = byteAt h i := by
  have short : i < (h.take m).length := by rw [List.length_take]; omega
  unfold byteAt
  rw [List.getD_append _ _ _ _ short, List.getD_eq_getElem _ _ short, List.getElem_take, List.getD_eq_getElem]

/-- A field that lies in a first part reads as there. -/
theorem leAt_take_append {h : List Byte} {m : Nat} (hm : m ≤ h.length) (n : Nat) : ∀ {i : Nat}, i + n ≤ m → ∀ rest : List Byte,
    leAt (h.take m ++ rest) i n = leAt h i n := by
  induction n with
  | zero => exact fun _ _ => rfl
  | succ n ih =>
    intro i hi rest
    rw [leAt, leAt, byteAt_take_append hm (by omega), ih (by omega)]

/-- R508: the first 252 bytes of a header with a generation put in. -/
def generated (h : List Byte) (gen : Nat) : List Byte := h.take 192 ++ toLE gen 4 ++ (h.drop 196).take 56

section Header
variable {h : List Byte} (hl : h.length = 256) (gen check : Nat)
include hl

theorem length_generated : (generated h gen).length = 252 := by
  simp [generated, hl, length_toLE]

/-- The fields before the generation stand. -/
theorem leAt_generated {i n : Nat} (hi : i + n ≤ 192) (rest : List Byte) : leAt (generated h gen ++ rest) i n = leAt h i n := by
  rw [generated, List.append_assoc, List.append_assoc]
  exact leAt_take_append (by omega) n hi _

theorem byteAt_generated {i : Nat} (hi : i < 192) (rest : List Byte) : byteAt (generated h gen ++ rest) i = byteAt h i := by
  rw [generated, List.append_assoc, List.append_assoc]
  exact byteAt_take_append (by omega) hi _

theorem leAt_generated_generation (rest : List Byte) : leAt (generated h gen ++ rest) 192 4 = gen % 2 ^ 32 := by
  have head : (h.take 192).length = 192 := by rw [List.length_take]; omega
  rw [generated, List.append_assoc, List.append_assoc]
  exact (leAt_append head _ 0 4).trans (leAt_toLE ..)

theorem leAt_generated_check : leAt (generated h gen ++ toLE check 4) 252 4 = check % 2 ^ 32 := by
  have last := (leAt_append (length_generated hl gen) (toLE check 4 ++ []) 0 4).trans (leAt_toLE ..)
  rwa [List.append_nil] at last

theorem take_generated (rest : List Byte) : (generated h gen ++ rest).take 252 = generated h gen :=
  List.take_left' (length_generated hl gen)

end Header

/-- R506: a check covers the first 252 bytes of the header. -/
theorem patchCheck_lt (slot : Nat) (h body : List Byte) : patchCheck slot h body < 2 ^ 32 := crc32c_lt _

theorem patchCheck_generated {h : List Byte} (hl : h.length = 256) (slot gen : Nat) (rest body : List Byte) :
    patchCheck slot (generated h gen ++ rest) body = patchCheck slot (generated h gen) body := by
  have whole : (generated h gen).take 252 = generated h gen := List.take_of_length_le (length_generated hl gen).le
  rw [patchCheck, patchCheck, take_generated hl, whole]

/-! ### The verification (R508) -/

/-- R508: the header of the slot staged, as the verification finds it. -/
def stagedHeader (mem : List Host.Cell) (d : Dev) : List Byte := memRead mem (patchBase (stageSlot d)) 256

theorem length_stagedHeader (mem : List Host.Cell) (d : Dev) : (stagedHeader mem d).length = 256 := length_memRead ..

/-- R508: the body of the slot staged. -/
def stagedBody (mem : List Host.Cell) (d : Dev) : List Byte :=
  memRead mem (patchBase (stageSlot d) + 256) (leAt (stagedHeader mem d) 16 4)

theorem sealedHeader_eq (mem : List Host.Cell) (d : Dev) : sealedHeader mem d = generated (stagedHeader mem d) (nextGeneration d)
    ++ toLE (patchCheck (stageSlot d) (generated (stagedHeader mem d) (nextGeneration d)) (stagedBody mem d)) 4 := rfl

theorem length_sealedHeader (mem : List Host.Cell) (d : Dev) : (sealedHeader mem d).length = 256 := by
  rw [sealedHeader_eq, List.length_append, length_generated (length_stagedHeader mem d), length_toLE]

/-- R508: what an image that is not refused has been found to be. -/
structure ImageGood (mem : List Host.Cell) (d : Dev) : Prop where
  magic : leAt (stagedHeader mem d) 0 4 = 0x50465A49
  kind : byteAt (stagedHeader mem d) 4 = 1
  length : patchLengthOk (leAt (stagedHeader mem d) 16 4) = true
  words : badRange d (patchBase (stageSlot d)) (256 + leAt (stagedHeader mem d) 16 4) = false

theorem imageGood_of {mem : List Host.Cell} {d : Dev} {written : Bool} (h : imageFault mem d written = 0) : ImageGood mem d := by
  unfold imageFault at h
  dsimp only at h
  split at h
  · omega
  · rename_i head
    split at h
    · omega
    · rename_i length
      split at h
      · omega
      · split at h
        · omega
        · rename_i rest
          rw [not_or, not_not, not_not] at head
          obtain ⟨magic, kind⟩ := head
          rw [not_or, Bool.not_eq_true] at rest
          exact ⟨magic, kind, Bool.eq_true_of_not_eq_false length, rest.1⟩

/-- R508: a slot sealed is valid, with the generation put in and the version staged. -/
theorem patchValid_sealed {mem : List Host.Cell} {d e : Dev} (h : ImageGood mem d)
    (hw : badRange e (patchBase (stageSlot d)) (256 + leAt (stagedHeader mem d) 16 4) = false) :
    patchValid (memWrite mem (patchBase (stageSlot d)) (sealedHeader mem d)) e (stageSlot d)
      = some (nextGeneration d % 2 ^ 32, leAt (stagedHeader mem d) 8 4) := by
  obtain ⟨magic, kind, length, -⟩ := h
  have whole : (stagedHeader mem d).length = 256 := length_stagedHeader mem d
  have head : memRead (memWrite mem (patchBase (stageSlot d)) (sealedHeader mem d)) (patchBase (stageSlot d)) 256 = sealedHeader mem d :=
    memRead_write _ _ (length_sealedHeader ..)
  have n : leAt (sealedHeader mem d) 16 4 = leAt (stagedHeader mem d) 16 4 := by rw [sealedHeader_eq, leAt_generated whole _ (by decide)]
  have magic' : leAt (sealedHeader mem d) 0 4 = 0x50465A49 := by rw [sealedHeader_eq, leAt_generated whole _ (by decide), magic]
  have kind' : byteAt (sealedHeader mem d) 4 = 1 := by rw [sealedHeader_eq, byteAt_generated whole _ (by decide), kind]
  have body : memRead (memWrite mem (patchBase (stageSlot d)) (sealedHeader mem d)) (patchBase (stageSlot d) + 256) (leAt (stagedHeader mem d) 16 4)
      = stagedBody mem d := memRead_write_out (length_sealedHeader ..) (.inr (Nat.le_refl _))
  have check : leAt (sealedHeader mem d) 252 4 = patchCheck (stageSlot d) (sealedHeader mem d) (stagedBody mem d) := by
    rw [sealedHeader_eq, leAt_generated_check whole, patchCheck_generated whole]
    exact Nat.mod_eq_of_lt (patchCheck_lt ..)
  have heading : ¬(leAt (sealedHeader mem d) 0 4 ≠ 0x50465A49 ∨ byteAt (sealedHeader mem d) 4 ≠ 1
      ∨ patchLengthOk (leAt (stagedHeader mem d) 16 4) = false) := by simp [magic', kind', length]
  unfold patchValid
  dsimp only
  rw [head, n, if_neg heading, hw, if_neg Bool.false_ne_true, body, if_pos check]
  rw [sealedHeader_eq, leAt_generated_generation whole, leAt_generated whole _ (by decide)]

/-- R508: the block after a verification, before its completion. -/
def verified (d : Dev) : Dev := noteStage 0 256 (setAttr DEVICE_FW_STAGE_STATE 0 0 (modLife (fun x => { x with commit := none }) d))

theorem verified_state (d : Dev) : attr (verified d) DEVICE_FW_STAGE_STATE 0 = 0 := by
  have set := attr_setAttr DEVICE_FW_STAGE_STATE 0 0 (modLife (fun x => { x with commit := none }) d)
  exact set

theorem keepsOthers_verified (d : Dev) : KeepsOthers [(DEVICE_FW_STAGE_STATE.code, 0)] d (verified d) := by
  have ended : KeepsOthers [(DEVICE_FW_STAGE_STATE.code, 0)] d (modLife (fun x => { x with commit := none }) d) := keepsOthers_of_attrs rfl
  exact (KeepsOthers.wrote (a := DEVICE_FW_STAGE_STATE) (i := 0) (v := 0) ended).trans (keepsOthers_noteStage 0 256 _)

/-- R379: words made good leave no range worse. -/
theorem badRange_filter {d e : Dev} {f : Nat → Bool} (h : e.faults.badWords = d.faults.badWords.filter f) {a n : Nat} (hg : badRange d a n = false) :
    badRange e a n = false := by
  rw [badRange, List.any_eq_false] at hg
  rw [badRange, h, List.any_eq_false]
  exact fun w hw => hg w (List.mem_of_mem_filter hw)

theorem verified_badWords (d : Dev) : ∃ f : Nat → Bool, (verified d).faults.badWords = d.faults.badWords.filter f := ⟨_, rfl⟩

section Verify
variable {s : State} {j : JobRef} {written : Bool}

/-- R508: what the end of a verification leaves, whatever it found. -/
structure Verified (s t : State) : Prop where
  done : ∃ j status result, t.dev = complete j clsDevice 0 evFwDone status result (verified s.dev)
  outside : ∀ a, a < patchBase (stageSlot s.dev) ∨ patchBase (stageSlot s.dev) + 256 ≤ a → memGet t.mem a = memGet s.mem a

theorem Verified.commit {t : State} (h : Verified s t) : t.dev.life.commit = none := by
  obtain ⟨_, _, _, done⟩ := h.done
  rw [done, complete_life]
  rfl

theorem Verified.stage {t : State} (h : Verified s t) : attr t.dev DEVICE_FW_STAGE_STATE 0 = 0 := by
  obtain ⟨_, _, _, done⟩ := h.done
  rw [done, attr_complete _ _ _ _ _ _ _ _ _ (by unfold noEventAttr; decide), verified_state]

theorem Verified.keeps {t : State} (h : Verified s t) : Claims.KeepsAttrs [(DEVICE_FW_STAGE_STATE.code, 0)] s t := by
  obtain ⟨_, _, _, done⟩ := h.done
  refine (keepsAttrs_iff ..).2 ?_
  rw [done]
  exact (keepsOthers_verified s.dev).completed

theorem Verified.words {t : State} (h : Verified s t) {a n : Nat} (hg : badRange s.dev a n = false) : badRange t.dev a n = false := by
  obtain ⟨_, _, _, done⟩ := h.done
  obtain ⟨f, words⟩ := verified_badWords s.dev
  refine badRange_filter (f := f) ?_ hg
  rw [done, complete_faults, words]

theorem fwVerifyEnd_refuses (hj : s.dev.life.commit = some j) (hb : s.dev.brownout = none) (hf : imageFault s.mem s.dev written ≠ 0) :
    ∃ t, exec (.fwVerifyEnd written) s = .next t ∧ Verified s t ∧ t.mem = memErase s.mem (patchBase (stageSlot s.dev)) 256 := by
  have ends : verifyEnd written s = { s with
      mem := memErase s.mem (patchBase (stageSlot s.dev)) 256
      dev := complete j clsDevice 0 evFwDone stRefused [byteOf (imageFault s.mem s.dev written)] (verified s.dev) } := by
    unfold verifyEnd
    rw [hj]
    exact if_neg hf
  have ran : exec (.fwVerifyEnd written) s = .next (verifyEnd written s) := congrArg Host.Outcome.next (if_neg (by rw [hb]; simp))
  exact ⟨_, ran.trans (congrArg Host.Outcome.next ends), ⟨⟨_, _, _, rfl⟩, fun a ha => memGet_erase_out _ _ _ _ ha⟩, rfl⟩

theorem fwVerifyEnd_seals (hj : s.dev.life.commit = some j) (hb : s.dev.brownout = none) (hf : imageFault s.mem s.dev written = 0) :
    ∃ t, exec (.fwVerifyEnd written) s = .next t ∧ Verified s t
      ∧ t.mem = memWrite s.mem (patchBase (stageSlot s.dev)) (sealedHeader s.mem s.dev) := by
  have ends : ∃ result, verifyEnd written s = { s with
      mem := memWrite s.mem (patchBase (stageSlot s.dev)) (sealedHeader s.mem s.dev)
      dev := complete j clsDevice 0 evFwDone stOk result (verified s.dev) } := by
    unfold verifyEnd
    rw [hj]
    exact ⟨_, if_pos hf⟩
  obtain ⟨result, ended⟩ := ends
  have ran : exec (.fwVerifyEnd written) s = .next (verifyEnd written s) := congrArg Host.Outcome.next (if_neg (by rw [hb]; simp))
  have outside : ∀ a, a < patchBase (stageSlot s.dev) ∨ patchBase (stageSlot s.dev) + 256 ≤ a →
      memGet (memWrite s.mem (patchBase (stageSlot s.dev)) (sealedHeader s.mem s.dev)) a = memGet s.mem a :=
    fun a ha => memGet_write_out (length_sealedHeader s.mem s.dev) ha
  refine ⟨_, ran.trans (congrArg Host.Outcome.next ended), ⟨⟨_, _, _, rfl⟩, fun a ha => ?_⟩, ?_⟩
  · dsimp only
    exact outside a ha
  · dsimp only

end Verify

/-- Settles O59. BEGIN and ABORT answering OK whatever OFFSET holds, slot A as the stage while the ROM runs (assumption 87) and the signature taken
from the opaque `Config.signatureGood` (88) are the model's choices; an erased byte that reads 0 is one too, which no row of its log names. -/
theorem firmwareStage : Obligations.firmware_stage := by
  unfold Obligations.firmware_stage
  intro s
  refine ⟨fun r ht hz hl hc => ?_, fun r ht hp hl hs ha => fwCommit_begins ht hp hl hs ha, fun written j hj hb => ?_⟩
  · have asked : StageAsked r.params s.dev := ⟨hz, hl, hc⟩
    exact ⟨fun lost h8 ha => fwStage_clears ht asked lost h8 ha, fun ha h9 hm hs hh hb => fwStage_feeds ht asked ha h9 hm hs hh hb⟩
  · by_cases hf : imageFault s.mem s.dev written = 0
    · obtain ⟨t, ran, done, mem⟩ := fwVerifyEnd_seals hj hb hf
      have good := imageGood_of hf
      refine ⟨t, ran, done.commit, done.stage, fun h => absurd hf h, fun _ => ?_, done.outside, done.keeps⟩
      rw [mem]
      exact patchValid_sealed good (done.words good.words)
    · obtain ⟨t, ran, done, mem⟩ := fwVerifyEnd_refuses hj hb hf
      refine ⟨t, ran, done.commit, done.stage, fun _ a h1 h2 => ?_, fun h => absurd h hf, done.outside, done.keeps⟩
      rw [mem, memGet_erase_in _ _ _ _ h1 h2]

end Sys2Proof.Machine

namespace Sys2Proof.Machine

-- In order, so that no thread waits for the lemmas before it.
set_option Elab.async false

/-! ### A command of a master that is none (R317) -/

/-- A master of no number that Izrath gives (R302): the limit of its fence has the key that the wear rotation's own limit has. -/
def strayMaster : JobRef := ⟨69 * 2 ^ 16, 0⟩

/-- A pattern of a command of `strayMaster`. -/
def strayPattern : PatternRun := ⟨strayMaster, 1, 0, 0, 0, 0, 0, 0, 0, 0, 0, 0⟩

/-- The block after reset with group 0 in service and its spare lane, which would carry a lane for wear, running `strayPattern`. -/
def strayRun : State :=
  { State.reset with
    dev := modLane 4 (fun x => { x with pattern := some strayPattern }) (setAttr LANE_STATE 4 3 (setAttr GROUP_STATE 0 2
      { State.reset.dev with jobs := [⟨strayMaster, 0x52, [], 0, false, false, false⟩] })) }

/-- Refutes O57: the statement takes every table of outstanding commands, also one with a command of a master that Izrath does not have. In
`strayRun` the first part of the wear rotation takes the spare lane of group 0, whose pattern ends, and the completion of its command ends the
limit of a fence of that command (R364), which for a master of number 69 * 2^16 is listed where the limit of the rotation is. So the next part is
not armed. The state is not one that requests lead to, since a request's master is below 4: what the statement lacks is that bound as a
hypothesis of the clause of `wearRotationPart`. -/
theorem not_backgroundWork : ¬ Obligations.background_work := by
  intro h
  obtain ⟨rotated, -⟩ := h strayRun (by decide +kernel) (by decide +kernel)
  obtain ⟨t, ht, -, next, -⟩ := rotated (.inl (by decide +kernel)) (by decide +kernel)
  obtain rfl := Host.Outcome.next.inj ht
  exact absurd next (by decide +kernel)

end Sys2Proof.Machine

namespace Sys2Proof.Machine

-- In order, so that no thread waits for the lemmas before it.
set_option Elab.async false

/-! ### What the work on covers leaves alone of the self-test (R462 to R464) -/

/-- Where no slice is under way, what self-test keeps stands as before, and so does every attribute of class BIST. -/
structure TestFrame (d e : Dev) : Prop where
  bist : d.bist.slice = none → e.bist = d.bist
  attrs : ∀ b : Attr, b.code / 65536 = clsBist → ∀ i, attr e b i = attr d b i

theorem testAttr_lt {b : Attr} (hb : b.code / 65536 = clsBist) : b.code < 2 ^ 24 := by
  have small : clsBist < 256 := by decide
  omega

theorem testAttr_noEvent {b : Attr} (hb : b.code / 65536 = clsBist) : noEventAttr b :=
  ⟨testAttr_lt hb, fun h => absurd hb (by rw [h]; decide), fun h => absurd hb (by rw [h]; decide), fun h => absurd hb (by rw [h]; decide)⟩

namespace TestFrame
variable {d e f : Dev}

theorem refl (d : Dev) : TestFrame d d := ⟨fun _ => rfl, fun _ _ _ => rfl⟩

/-- Transitivity with the later step first, in the order in which the model writes its steps. -/
theorem after (k : TestFrame e f) (h : TestFrame d e) : TestFrame d f where
  bist idle := by
    have same := h.bist idle
    exact (k.bist (by rw [same, idle])).trans same
  attrs b hb i := (k.attrs b hb i).trans (h.attrs b hb i)

theorem of_same (ha : e.attrs = d.attrs) (hp : e.bist = d.bist) : TestFrame d e := ⟨fun _ => hp, fun b _ i => attr_congr ha b i⟩

theorem ite {p : Prop} [Decidable p] (h : TestFrame d e) (k : TestFrame d f) : TestFrame d (if p then e else f) := by
  split
  · exact h
  · exact k

theorem setAttr {a : Attr} {d : Dev} (i v : Nat) (ha : a.code / 65536 ≠ clsBist := by decide) (hl : a.code < 2 ^ 24 := by decide) :
    TestFrame d (setAttr a i v d) where
  bist _ := setAttr_bist ..
  attrs _ hb j := attr_setAttr_ne i v j d (fun h => ha (h ▸ hb)) hl (testAttr_lt hb)

theorem modFaults (g : Faults → Faults) (d : Dev) : TestFrame d (modFaults g d) := of_same rfl rfl

theorem modLink (g : Nat) (k : Link → Link) (d : Dev) : TestFrame d (modLink g k d) := of_same rfl rfl

theorem disarm (k i : Nat) (d : Dev) : TestFrame d (disarm k i d) := of_same rfl rfl

theorem raise (cls inst type detail : Nat) (d : Dev) : TestFrame d (raise cls inst type detail d) where
  bist _ := raise_bist ..
  attrs b hb i := attr_raise cls inst type detail d b i (testAttr_noEvent hb)

theorem complete (j : JobRef) (cls inst type status : Nat) (result : List Byte) (d : Dev) : TestFrame d (complete j cls inst type status result d) where
  bist _ := complete_bist ..
  attrs b hb i := attr_complete j cls inst type status result d b i (testAttr_noEvent hb)

theorem stopSlice (region : Nat) (d : Dev) : TestFrame d (stopSlice region d) where
  bist idle := by
    unfold Machine.stopSlice
    rw [idle]
  attrs b _ i := by
    obtain ⟨_, h⟩ := stopSlice_eq region d
    rw [h]
    rfl

/-! #### Spares of facets (R10, R11) -/

theorem returnPort (f : Nat) (d : Dev) : TestFrame d (returnPort f d) := by
  have mapped : TestFrame d (if attr d FACET_SPARE_PORT f < 128 then mapEngine (attr d FACET_SPARE_PORT f) (attr d FACET_SPARE_PORT f % 4) d else d) :=
    ite (setAttr ..) (refl d)
  exact after (setAttr ..) (after (setAttr ..) (after (modFaults ..) mapped))

theorem stopCovered (f : Nat) (d : Dev) : TestFrame d (stopCovered f d) := by
  unfold Machine.stopCovered
  split
  · exact stopSlice ..
  · exact refl d

theorem requestSpare (p rank : Nat) (d : Dev) : TestFrame d (requestSpare p rank d) := by
  unfold Machine.requestSpare
  exact ite (after (modFaults ..) (after (returnPort ..) (after (stopSlice ..) (stopCovered ..)))) (refl d)

theorem spareFreed (f : Nat) (d : Dev) : TestFrame d (spareFreed f d) := by
  unfold Machine.spareFreed
  split
  · exact requestSpare ..
  · exact refl d

theorem giveBackSpare (f : Nat) (d : Dev) : TestFrame d (giveBackSpare f d) := after (spareFreed ..) (returnPort ..)

theorem clearSlow (key cls : Nat) (d : Dev) : TestFrame d (clearSlow key cls d) := by
  unfold Machine.clearSlow
  split
  · exact after (raise ..) (modFaults ..)
  · exact refl d

/-! #### Spare lanes of groups (R247, R248) -/

theorem endPattern (l status cause : Nat) (d : Dev) : TestFrame d (endPattern l status cause d) := by
  unfold Machine.endPattern
  split
  · exact refl d
  · have ended : TestFrame d (Machine.disarm tkPattern l (modLane l (fun x => { x with pattern := none }) d)) := of_same rfl rfl
    exact after (complete ..) (ite ended (ite (after (setAttr ..) ended) ended))

theorem endSparePattern (g code : Nat) (d : Dev) : TestFrame d (endSparePattern g code d) := ite (refl d) (endPattern ..)

theorem wantMapChange (g code rank : Nat) (d : Dev) : TestFrame d (wantMapChange g code rank d) := by
  unfold Machine.wantMapChange
  exact ite (after (modLink ..) (endSparePattern ..)) (refl d)

theorem announceChange (g code rank : Nat) (d : Dev) : TestFrame d (announceChange g code rank d) := by
  unfold Machine.announceChange
  exact ite (after (modLink ..) (endSparePattern ..)) (refl d)

theorem requestLs (g j rank : Nat) (d : Dev) : TestFrame d (requestLs g j rank d) := by
  unfold Machine.requestLs
  extract_lets lower d1
  have stopped : TestFrame d d1 := ite (stopSlice ..) (refl d)
  exact ite (ite (after (announceChange ..) stopped) (after (wantMapChange ..) stopped)) (refl d)

theorem returnLs (g : Nat) (d : Dev) : TestFrame d (returnLs g d) := by
  unfold Machine.returnLs
  split
  · exact ite (ite (announceChange ..) (wantMapChange ..)) (refl d)
  · exact refl d

/-! #### Covers and marks -/

theorem setCapture (p h : Nat) (d : Dev) : TestFrame d (setCapture p h d) := setAttr ..

theorem strobeLevel (level : Bool) (d : Dev) : TestFrame d (strobeLevel level d) := ite (setAttr ..) (refl d)

theorem askCover (r : Nat) (d : Dev) : TestFrame d (askCover r d) := by
  unfold Machine.askCover
  refine ite (ite (refl d) (requestSpare ..)) (ite (ite (setCapture ..) (refl d)) (ite ?lane (refl d)))
  dsimp only
  split
  · exact ite (requestLs ..) (refl d)
  · exact refl d

theorem endCover (r : Nat) (d : Dev) : TestFrame d (endCover r d) := by
  unfold Machine.endCover
  refine ite (ite (giveBackSpare ..) (refl d)) (ite (ite (setCapture ..) (refl d)) (ite ?lane (refl d)))
  dsimp only
  split
  · exact returnLs ..
  · exact refl d

theorem leaveSlice (x : Slice) (d : Dev) : TestFrame d (leaveSlice x d) := after (endCover ..) (strobeLevel ..)

theorem passClears (r margin : Nat) (d : Dev) : TestFrame d (passClears r margin d) := by
  unfold Machine.passClears
  refine ite (refl d) (ite ?facet (ite ?lane (clearSlow ..)))
  case facet => exact ite (after (giveBackSpare ..) (clearSlow ..)) (clearSlow ..)
  case lane =>
    dsimp only
    split
    · exact after (returnLs ..) (clearSlow ..)
    · exact clearSlow ..

end TestFrame

end Sys2Proof.Machine

namespace Sys2Proof.Machine

-- In order, so that no thread waits for the lemmas before it.
set_option Elab.async false

/-! ### Records of slices (R466, R478) -/

section Record
variable (r v : Nat) (d : Dev)

theorem recordResult_result : attr (recordResult r v d) BIST_RESULT r = v % 2 ^ 8 := by
  unfold recordResult
  rw [attr_setAttr_ne _ _ _ _ (by decide) (by decide) (by decide), attr_setAttr]
  rfl

theorem recordResult_time : attr (recordResult r v d) BIST_LAST_TIME r = d.devTime % 2 ^ BIST_LAST_TIME.width := attr_setAttr ..

theorem recordResult_ne {b : Attr} (i : Nat) (h1 : b.code ≠ BIST_RESULT.code := by decide) (h2 : b.code ≠ BIST_LAST_TIME.code := by decide)
    (hb : b.code < 2 ^ 24 := by decide) : attr (recordResult r v d) b i = attr d b i := by
  unfold recordResult
  rw [attr_setAttr_ne _ _ _ _ h2 (by decide) hb, attr_setAttr_ne _ _ _ _ h1 (by decide) hb]
  rfl

theorem recordResult_bist : (recordResult r v d).bist = { d.bist with reasons := bankPut 0 d.bist.reasons r 0 } :=
  (setAttr_bist ..).trans (setAttr_bist ..)

end Record

/-- R466: the block with its slice over and the margin measured. -/
def sliceMeasured (x : Slice) (margin : Nat) (d : Dev) : Dev := setAttr BIST_MARGIN x.region margin (modBist (fun b => { b with slice := none }) d)

theorem sliceMeasured_bist (x : Slice) (margin : Nat) (d : Dev) : (sliceMeasured x margin d).bist = { d.bist with slice := none } := setAttr_bist ..

theorem sliceMeasured_margin (x : Slice) (margin : BitVec 16) (d : Dev) : attr (sliceMeasured x margin.toNat d) BIST_MARGIN x.region = margin.toNat := by
  have width : BIST_MARGIN.width = 16 := rfl
  rw [sliceMeasured, attr_setAttr, width]
  exact Nat.mod_eq_of_lt margin.isLt

theorem sliceMeasured_ne (x : Slice) (margin : Nat) (d : Dev) {b : Attr} (i : Nat) (h : b.code ≠ BIST_MARGIN.code := by decide)
    (hb : b.code < 2 ^ 24 := by decide) : attr (sliceMeasured x margin d) b i = attr d b i := attr_setAttr_ne _ _ _ _ h (by decide) hb

/-! ### A slice begun again (R463, R470) -/

/-- R463: a slice started is the one under way. -/
theorem startSlice_slice (r why : Nat) (again rebuilt : Bool) (d : Dev) : ∃ z, (startSlice r why again rebuilt d).bist.slice = some z ∧ z.region = r
    ∧ z.why = why ∧ z.again = again ∧ z.rebuilt = rebuilt ∧ z.aborted = false := by
  have begun : ∀ e : Dev, (strobeLevel true e).bist = e.bist := strobeLevel_bist true
  refine ⟨_, congrArg Bist.slice (begun _), rfl, rfl, rfl, rfl, rfl⟩

/-- A slice started leaves every attribute of class BIST. -/
theorem startSlice_attr (r why : Nat) (again rebuilt : Bool) (d : Dev) {b : Attr} (i : Nat) (hb : b.code / 65536 = clsBist := by decide) :
    attr (startSlice r why again rebuilt d) b i = attr d b i := by
  have asked : TestFrame d (if why = 4 then d else askCover r d) := .ite (.refl d) (.askCover ..)
  exact ((TestFrame.strobeLevel true _).attrs b hb i).trans (asked.attrs b hb i)

/-! ### The end of a slice (R466 to R472) -/

theorem modRun_none {d : Dev} (h : d.bist.run = none) (f : BistRun → BistRun) : modRun f d = d := by
  have same : d.bist.run.map f = d.bist.run := by
    rw [h]
    rfl
  unfold modRun modBist
  dsimp only
  rw [same]

theorem afterSlice_idle {x : Slice} {d : Dev} (hw : x.why ≠ 4) (hr : d.bist.run = none) (f : BistRun → BistRun) :
    afterSlice x (if x.why = 1 then modRun f d else d) = d := by
  rw [modRun_none hr, ite_self, afterSlice, if_neg hw, hr]

/-- R466, R472: the block with a slice passed. -/
def slicePassed (x : Slice) (margin : Nat) (d : Dev) : Dev :=
  cyclePass x.region (bump BIST_PASSES x.region 1 (recordResult x.region brPass (sliceMeasured x margin d)))

theorem cyclePass_attr (r : Nat) (d : Dev) {b : Attr} (i : Nat) (h : b.code ≠ BIST_CYCLE_LEFT.code := by decide) (hb : b.code < 2 ^ 24 := by decide) :
    attr (cyclePass r d) b i = attr d b i := by
  unfold cyclePass
  split
  · exact attr_setAttr_ne _ _ _ _ h (by decide) hb
  · rfl

/-- R472: a cycle changes nothing of the slice and the run. -/
theorem cyclePass_bist (r : Nat) (d : Dev) : (cyclePass r d).bist.slice = d.bist.slice ∧ (cyclePass r d).bist.run = d.bist.run := by
  unfold cyclePass
  split
  · exact ⟨rfl, rfl⟩
  · exact ⟨rfl, rfl⟩

theorem cyclePass_passed {r : Nat} {d : Dev} (h : d.bist.cycling = true) : r ∈ (cyclePass r d).bist.passed := by
  unfold cyclePass
  split
  · exact List.mem_append_right d.bist.passed (List.mem_singleton.2 rfl)
  · rename_i kept
    rw [not_and, Bool.not_eq_false] at kept
    exact List.contains_iff_mem.1 (kept h)

section Ends
variable {s : State} {x : Slice}

theorem slicePassed_bist (d : Dev) (margin : Nat) : (slicePassed x margin d).bist.slice = none ∧ (slicePassed x margin d).bist.run = d.bist.run
    ∧ (d.bist.cycling = true → x.region ∈ (slicePassed x margin d).bist.passed) := by
  obtain ⟨slice, run⟩ := cyclePass_bist x.region (bump BIST_PASSES x.region 1 (recordResult x.region brPass (sliceMeasured x margin d)))
  have kept : (bump BIST_PASSES x.region 1 (recordResult x.region brPass (sliceMeasured x margin d))).bist
      = { d.bist with slice := none, reasons := bankPut 0 d.bist.reasons x.region 0 } := by
    refine (setAttr_bist ..).trans ((recordResult_bist ..).trans ?_)
    rw [sliceMeasured_bist]
  rw [slicePassed, slice, run, kept]
  exact ⟨rfl, rfl, fun h => cyclePass_passed (by rw [kept]; exact h)⟩

/-- R466: the record of a slice that passed. -/
theorem slicePassed_record (d : Dev) (margin : BitVec 16) :
    attr (slicePassed x margin.toNat d) BIST_RESULT x.region = brPass
    ∧ attr (slicePassed x margin.toNat d) BIST_LAST_TIME x.region = d.devTime % 2 ^ BIST_LAST_TIME.width
    ∧ attr (slicePassed x margin.toNat d) BIST_MARGIN x.region = margin.toNat
    ∧ attr (slicePassed x margin.toNat d) BIST_PASSES x.region = (attr d BIST_PASSES x.region + 1) % 2 ^ BIST_PASSES.width := by
  unfold slicePassed
  refine ⟨?_, ?_, ?_, ?_⟩
  · rw [cyclePass_attr _ _ _, attr_bump_ne _ _ _ _ (by decide) (by decide) (by decide), recordResult_result]
    rfl
  · rw [cyclePass_attr _ _ _, attr_bump_ne _ _ _ _ (by decide) (by decide) (by decide), recordResult_time]
    rfl
  · rw [cyclePass_attr _ _ _, attr_bump_ne _ _ _ _ (by decide) (by decide) (by decide), recordResult_ne, sliceMeasured_margin]
  · rw [cyclePass_attr _ _ _, attr_bump, recordResult_ne, sliceMeasured_ne]

theorem sliceEnd_passes {d : Dev} (hx : d.bist.slice = some x) (hb : d.brownout = none) (ha : x.aborted = false) (hr : isRaw d x = false)
    (hw : x.why ≠ 4) (hn : d.bist.run = none) {signature : BitVec 64} {applied independent : BitVec 32}
    (hv : sliceResult x.region signature applied independent = brPass) (margin : Nat) :
    sliceEnd signature applied independent true margin d = passClears x.region margin (leaveSlice x (slicePassed x margin d)) := by
  obtain ⟨slice, run, -⟩ := slicePassed_bist (x := x) d margin
  have frame := TestFrame.after (.passClears x.region margin _) (.leaveSlice x (slicePassed x margin d))
  have idle : (passClears x.region margin (leaveSlice x (slicePassed x margin d))).bist.run = none := by rw [frame.bist slice, run, hn]
  unfold sliceEnd
  rw [hx]
  dsimp only
  rw [hb, ha, hr, hv, if_neg (by simp), if_neg Bool.false_ne_true, if_neg (by simp), if_neg Bool.false_ne_true, if_pos rfl]
  exact afterSlice_idle hw idle _

/-- R470, R472: the block with a slice of result `v` counted, before what follows. -/
def sliceCounted (a : Attr) (k v margin : Nat) (x : Slice) (d : Dev) : Dev := bump a k 1 (recordResult x.region v (sliceMeasured x margin d))

theorem sliceEnd_repeats {d : Dev} (hx : d.bist.slice = some x) (hb : d.brownout = none) (ha : x.aborted = false) (hr : isRaw d x = false)
    (hg : x.again = false) {signature : BitVec 64} {applied independent : BitVec 32}
    (hv : sliceResult x.region signature applied independent ≠ brPass) (margin : Nat) :
    sliceEnd signature applied independent true margin d = startSlice x.region x.why true x.rebuilt
      (sliceCounted BIST_FAILS x.region (sliceResult x.region signature applied independent) margin x d) := by
  unfold sliceEnd
  rw [hx]
  dsimp only
  rw [hb, ha, hr, if_neg (by simp), if_neg Bool.false_ne_true, if_neg (by simp), if_neg Bool.false_ne_true, if_neg hv, hg, if_neg Bool.false_ne_true]
  rfl

theorem sliceEnd_restores {d : Dev} (hx : d.bist.slice = some x) (hb : d.brownout = none) (ha : x.aborted = false) (hr : x.rebuilt = false)
    (hc : hasCover x.region = true) (signature : BitVec 64) (applied independent : BitVec 32) (margin : Nat) :
    sliceEnd signature applied independent false margin d = startSlice x.region x.why x.again true
      (sliceCounted BIST_SAVE_FAULTS 0x600 brRestore margin x d) := by
  unfold sliceEnd
  rw [hx]
  dsimp only
  rw [hb, ha, if_neg (by simp), if_neg Bool.false_ne_true, if_pos rfl, if_pos ⟨hc, hr⟩]
  rfl

/-- R466: the counts are compared before the signature. -/
theorem sliceResult_count {r : Nat} {signature : BitVec 64} {applied independent : BitVec 32} :
    sliceResult r signature applied independent = brCount ↔ applied ≠ Config.patternCount r ∨ independent ≠ Config.patternCount r := by
  unfold sliceResult
  dsimp only
  by_cases h : applied ≠ Config.patternCount r ∨ independent ≠ Config.patternCount r
  · rw [if_pos h]
    exact ⟨fun _ => h, fun _ => rfl⟩
  · rw [if_neg h]
    refine ⟨fun k => ?_, fun k => absurd k h⟩
    split at k
    · exact absurd k (by decide)
    · exact absurd k (by decide)

theorem sliceResult_lt (r : Nat) (signature : BitVec 64) (applied independent : BitVec 32) :
    sliceResult r signature applied independent < 2 ^ 8 := by
  unfold sliceResult
  dsimp only
  split
  · decide
  · split <;> decide

/-- R466: counts and a signature as configured are a pass. -/
theorem sliceResult_pass {r : Nat} {signature : BitVec 64} {applied independent : BitVec 32} (ha : applied = Config.patternCount r)
    (hi : independent = Config.patternCount r) (hs : signature = Config.goldenSignature r) : sliceResult r signature applied independent = brPass := by
  rw [sliceResult, if_neg (by simp [ha, hi]), if_pos hs]

theorem sliceAborted_over {d : Dev} (hw : x.why = 2 ∨ x.why = 3) (hn : d.bist.run = none) :
    sliceAborted x d = leaveSlice x (recordResult x.region brAborted (modBist (fun b => { b with slice := none }) d)) := by
  have bist := recordResult_bist x.region brAborted (modBist (fun b => { b with slice := none }) d)
  have frame := TestFrame.leaveSlice x (recordResult x.region brAborted (modBist (fun b => { b with slice := none }) d))
  have run : (leaveSlice x (recordResult x.region brAborted (modBist (fun b => { b with slice := none }) d))).bist.run = none := by
    rw [frame.bist (by rw [bist]; rfl), bist]
    exact hn
  have raw : isRaw (leaveSlice x (recordResult x.region brAborted (modBist (fun b => { b with slice := none }) d))) x = false := by
    rw [isRaw, beq_false_of_ne (by omega), Bool.false_and]
  unfold sliceAborted
  dsimp only
  rw [raw, if_neg Bool.false_ne_true]
  exact afterSlice_idle (by omega) run _

/-! #### The rows -/

theorem bistSliceEnd_passes (hx : s.dev.bist.slice = some x) (hb : s.dev.brownout = none) (ha : x.aborted = false) (hr : isRaw s.dev x = false)
    (hw : x.why ≠ 4) (hn : s.dev.bist.run = none) {signature : BitVec 64} {applied independent : BitVec 32}
    (hv : sliceResult x.region signature applied independent = brPass) (margin : BitVec 16) :
    ∃ t, exec (.bistSliceEnd signature applied independent true margin) s = .next t ∧ t.dev.bist.slice = none
      ∧ attr t.dev BIST_RESULT x.region = brPass ∧ attr t.dev BIST_LAST_TIME x.region = s.dev.devTime % 2 ^ BIST_LAST_TIME.width
      ∧ attr t.dev BIST_MARGIN x.region = margin.toNat
      ∧ attr t.dev BIST_PASSES x.region = (attr s.dev BIST_PASSES x.region + 1) % 2 ^ BIST_PASSES.width
      ∧ (s.dev.bist.cycling = true → x.region ∈ t.dev.bist.passed) ∧ t.mem = s.mem := by
  obtain ⟨slice, -, passed⟩ := slicePassed_bist (x := x) s.dev margin.toNat
  obtain ⟨result, time, measured, passes⟩ := slicePassed_record (x := x) s.dev margin
  obtain ⟨bist, attrs⟩ := TestFrame.after (.passClears x.region margin.toNat _) (.leaveSlice x (slicePassed x margin.toNat s.dev))
  rw [← sliceEnd_passes hx hb ha hr hw hn hv] at bist attrs
  refine ⟨{ s with dev := sliceEnd signature applied independent true margin.toNat s.dev }, rfl, ?_, (attrs _ (by decide) _).trans result,
    (attrs _ (by decide) _).trans time, (attrs _ (by decide) _).trans measured, (attrs _ (by decide) _).trans passes, fun h => ?_, rfl⟩
  · exact (congrArg Bist.slice (bist slice)).trans slice
  · dsimp only
    rw [bist slice]
    exact passed h

theorem bistSliceEnd_repeats (hx : s.dev.bist.slice = some x) (hb : s.dev.brownout = none) (ha : x.aborted = false) (hr : isRaw s.dev x = false)
    (hg : x.again = false) {signature : BitVec 64} {applied independent : BitVec 32} {v : Nat} (hp : v ≠ brPass)
    (hv : sliceResult x.region signature applied independent = v) (margin : BitVec 16) :
    ∃ t z, exec (.bistSliceEnd signature applied independent true margin) s = .next t ∧ t.dev.bist.slice = some z ∧ z.region = x.region
      ∧ z.why = x.why ∧ z.again = true ∧ z.aborted = false ∧ attr t.dev BIST_RESULT x.region = v
      ∧ (v = brCount ↔ applied ≠ Config.patternCount x.region ∨ independent ≠ Config.patternCount x.region)
      ∧ attr t.dev BIST_FAILS x.region = (attr s.dev BIST_FAILS x.region + 1) % 2 ^ BIST_FAILS.width ∧ t.mem = s.mem := by
  subst hv
  have ends := sliceEnd_repeats hx hb ha hr hg hp margin.toNat
  obtain ⟨z, slice, region, why, again, -, aborted⟩ := startSlice_slice x.region x.why true x.rebuilt
    (sliceCounted BIST_FAILS x.region (sliceResult x.region signature applied independent) margin.toNat x s.dev)
  rw [← ends] at slice
  refine ⟨{ s with dev := sliceEnd signature applied independent true margin.toNat s.dev }, z, rfl, slice, region, why, again, aborted, ?_,
    sliceResult_count, ?_, rfl⟩
  · dsimp only
    rw [ends, startSlice_attr _ _ _ _ _ _, sliceCounted, attr_bump_ne _ _ _ _ (by decide) (by decide) (by decide), recordResult_result]
    exact Nat.mod_eq_of_lt (sliceResult_lt ..)
  · dsimp only
    rw [ends, startSlice_attr _ _ _ _ _ _, sliceCounted, attr_bump, recordResult_ne, sliceMeasured_ne]

theorem bistSliceEnd_restores (hx : s.dev.bist.slice = some x) (hb : s.dev.brownout = none) (ha : x.aborted = false) (hr : x.rebuilt = false)
    (hc : hasCover x.region = true) (signature : BitVec 64) (applied independent : BitVec 32) (margin : BitVec 16) :
    ∃ t z, exec (.bistSliceEnd signature applied independent false margin) s = .next t ∧ t.dev.bist.slice = some z ∧ z.region = x.region
      ∧ z.rebuilt = true ∧ z.again = x.again ∧ attr t.dev BIST_RESULT x.region = brRestore
      ∧ attr t.dev BIST_SAVE_FAULTS 0x600 = (attr s.dev BIST_SAVE_FAULTS 0x600 + 1) % 2 ^ BIST_SAVE_FAULTS.width
      ∧ attr t.dev BIST_FAILS x.region = attr s.dev BIST_FAILS x.region ∧ t.mem = s.mem := by
  have ends := sliceEnd_restores hx hb ha hr hc signature applied independent margin.toNat
  obtain ⟨z, slice, region, -, again, rebuilt, -⟩ := startSlice_slice x.region x.why x.again true
    (sliceCounted BIST_SAVE_FAULTS 0x600 brRestore margin.toNat x s.dev)
  rw [← ends] at slice
  refine ⟨{ s with dev := sliceEnd signature applied independent false margin.toNat s.dev }, z, rfl, slice, region, rebuilt, again, ?_, ?_, ?_, rfl⟩
  · dsimp only
    rw [ends, startSlice_attr _ _ _ _ _ _, sliceCounted, attr_bump_ne _ _ _ _ (by decide) (by decide) (by decide), recordResult_result]
    rfl
  · dsimp only
    rw [ends, startSlice_attr _ _ _ _ _ _, sliceCounted, attr_bump, recordResult_ne, sliceMeasured_ne]
  · dsimp only
    rw [ends, startSlice_attr _ _ _ _ _ _, sliceCounted, attr_bump_ne _ _ _ _ (by decide) (by decide) (by decide), recordResult_ne, sliceMeasured_ne]

theorem bistSliceAbort_aborts (hx : s.dev.bist.slice = some x) (hb : s.dev.brownout = none) (hw : x.why = 2 ∨ x.why = 3) (hn : s.dev.bist.run = none) :
    ∃ t, exec .bistSliceAbort s = .next t ∧ t.dev.bist.slice = none ∧ attr t.dev BIST_RESULT x.region = brAborted
      ∧ attr t.dev BIST_PASSES x.region = attr s.dev BIST_PASSES x.region ∧ attr t.dev BIST_FAILS x.region = attr s.dev BIST_FAILS x.region
      ∧ t.dev.bist.passed = s.dev.bist.passed ∧ t.mem = s.mem := by
  have ends : sliceAbort s.dev = leaveSlice x (recordResult x.region brAborted (modBist (fun b => { b with slice := none }) s.dev)) := by
    unfold sliceAbort
    rw [hx]
    dsimp only
    rw [hb, if_neg (by simp)]
    exact sliceAborted_over hw hn
  have recorded := recordResult_bist x.region brAborted (modBist (fun b => { b with slice := none }) s.dev)
  obtain ⟨bist, attrs⟩ := TestFrame.leaveSlice x (recordResult x.region brAborted (modBist (fun b => { b with slice := none }) s.dev))
  rw [← ends] at bist attrs
  have left := (bist (by rw [recorded]; rfl)).trans recorded
  have passed := congrArg Bist.passed left
  refine ⟨{ s with dev := sliceAbort s.dev }, rfl, congrArg Bist.slice left, ?_, ?_, ?_, passed, rfl⟩
  · exact (attrs _ (by decide) _).trans (recordResult_result ..)
  · exact (attrs _ (by decide) _).trans (recordResult_ne ..)
  · exact (attrs _ (by decide) _).trans (recordResult_ne ..)

end Ends

/-- Settles O55. The counts judged before the signature (assumption 79) and a restore that fails counted in BIST.SAVE_FAULTS and not in BIST.FAILS
(80) are the model's choices. -/
theorem selfTestSlices : Obligations.self_test_slices := by
  unfold Obligations.self_test_slices
  intro s x hx hb
  refine ⟨fun signature applied independent margin ha hr hw hn _ => ⟨fun hp hi hs => ?_, fun v hp hv hg => ?_, fun hr hc => ?_⟩, fun hw hn => ?_⟩
  · exact bistSliceEnd_passes hx hb ha hr hw hn (sliceResult_pass hp hi hs) margin
  · exact bistSliceEnd_repeats hx hb ha hr hg hp hv margin
  · exact bistSliceEnd_restores hx hb ha hr hc signature applied independent margin
  · exact bistSliceAbort_aborts hx hb hw hn

end Sys2Proof.Machine

namespace Sys2Proof.Machine

-- In order, so that no thread waits for the lemmas before it.
set_option Elab.async false

/-! ### What a start leaves as its release found it (R523 to R527) -/

/-- R24, R522: the times and the latches of a reset. -/
def startFacts (d : Dev) : Nat × Nat × Bool × Bool × Option Nat := (d.elapsed, d.devTime, d.sawCoreOff, d.sawResetN, d.sawRail)

/-- What the release and a patch's start write of the attributes. -/
abbrev bootAttrs : List Attr := [DEVICE_BOOTS, DEVICE_RESET_CAUSE, LATTICE_INDEX, LATTICE_TIME_MASTER, DEVICE_FW_ACTIVE, DEVICE_FW_VERSION]

theorem bootAttrs_lt : ∀ b ∈ bootAttrs, b.code < 2 ^ 24 := by decide

/-- R321: what may be SET is none of `bootAttrs`. -/
theorem bootAttrs_fixed : (catalogue.all fun a => a.acc == .ro || bootAttrs.all fun b => b.code != a.code) = true := by decide +kernel

/-- The times, the latches, the addresses of the masters and `bootAttrs` are as before. -/
structure BootFrame (d e : Dev) : Prop where
  kept : startFacts e = startFacts d
  addr : ∀ k, (master e k).staticAddr = (master d k).staticAddr
  attrs : ∀ b ∈ bootAttrs, ∀ i, attr e b i = attr d b i

namespace BootFrame
variable {d e f : Dev}

theorem refl (d : Dev) : BootFrame d d := ⟨rfl, fun _ => rfl, fun _ _ _ => rfl⟩

/-- Transitivity with the later step first, in the order in which the model writes its steps. -/
theorem after (k : BootFrame e f) (h : BootFrame d e) : BootFrame d f :=
  ⟨k.kept.trans h.kept, fun n => (k.addr n).trans (h.addr n), fun b hb i => (k.attrs b hb i).trans (h.attrs b hb i)⟩

theorem of_same (ha : e.attrs = d.attrs) (hm : e.masters = d.masters) (hk : startFacts e = startFacts d) : BootFrame d e :=
  ⟨hk, fun k => congrArg Master.staticAddr (master_congr hm k), fun b _ i => attr_congr ha b i⟩

theorem ite {p : Prop} [Decidable p] (h : BootFrame d e) (k : BootFrame d f) : BootFrame d (if p then e else f) := by
  split
  · exact h
  · exact k

theorem when {g : Dev → Dev} (h : ∀ e, BootFrame e (g e)) (c : Bool) (d : Dev) : BootFrame d (when c g d) := ite (h d) (refl d)

theorem forAll {g : Nat → Dev → Dev} (h : ∀ k e, BootFrame e (g k e)) (l : List Nat) (d : Dev) : BootFrame d (forAll l g d) := by
  unfold Machine.forAll
  induction l generalizing d with
  | nil => exact refl d
  | cons k l ih => exact after (ih _) (h k d)

/-- A write of an attribute that is not one of `bootAttrs`. -/
theorem setAttr_of {a : Attr} (hl : a.code < 2 ^ 24) (ha : ∀ b ∈ bootAttrs, b.code ≠ a.code) (i v : Nat) (d : Dev) : BootFrame d (setAttr a i v d) where
  kept := rfl
  addr _ := rfl
  attrs b hb j := attr_setAttr_ne i v j d (ha b hb) hl (bootAttrs_lt b hb)

theorem setAttr {a : Attr} {d : Dev} (i v : Nat) (ha : ∀ b ∈ bootAttrs, b.code ≠ a.code := by decide) (hl : a.code < 2 ^ 24 := by decide) :
    BootFrame d (setAttr a i v d) := setAttr_of hl ha i v d

theorem bump {a : Attr} {d : Dev} (i n : Nat) (ha : ∀ b ∈ bootAttrs, b.code ≠ a.code := by decide) (hl : a.code < 2 ^ 24 := by decide) :
    BootFrame d (bump a i n d) := setAttr_of hl ha i _ d

theorem setAttr_writable {a : Attr} (hc : a ∈ catalogue) (hw : a.acc ≠ .ro) (i v : Nat) (d : Dev) : BootFrame d (Machine.setAttr a i v d) := by
  have fixed := List.all_eq_true.1 bootAttrs_fixed a hc
  rw [beq_false_of_ne hw, Bool.false_or, List.all_eq_true] at fixed
  exact setAttr_of (code_lt hc) (fun b hb => bne_iff_ne.1 (fixed b hb)) i v d

theorem setBlock (a : Attr) (i : Nat) (bs : List Byte) (d : Dev) : BootFrame d (setBlock a i bs d) := of_same (setBlock_attrs ..) rfl rfl
theorem arm (k i n : Nat) (d : Dev) : BootFrame d (arm k i n d) := of_same rfl rfl rfl
theorem disarm (k i : Nat) (d : Dev) : BootFrame d (disarm k i d) := of_same rfl rfl rfl

theorem modPrism (m : Nat) (g : Prism → Prism) (d : Dev) : BootFrame d (modPrism m g d) := of_same rfl rfl rfl

/-! #### Events and completions (R349 to R356) -/

theorem setMaster {m : Nat} {x : Master} {d : Dev} (h : x.staticAddr = (master d m).staticAddr) : BootFrame d (setMaster m x d) where
  kept := rfl
  addr k := by
    by_cases hk : k = m
    · rw [hk, master_setMaster, h]
    · rw [master_setMaster_ne _ _ hk]
  attrs _ _ _ := rfl

theorem signal (m : Nat) (d : Dev) : BootFrame d (signal m d) where
  kept := by
    obtain ⟨_, h⟩ := signal_eq m d
    rw [h]
    rfl
  addr k := by
    obtain ⟨_, _, h⟩ := master_signal m k d
    rw [h]
  attrs b _ i := attr_signal m d b i

theorem enqueue (m : Nat) (r : EventRec) (d : Dev) : BootFrame d (enqueue m r d) := by
  have put : ∀ x : List EventRec, BootFrame d (Machine.setMaster m { master d m with events := x } d) := fun _ => setMaster rfl
  unfold Machine.enqueue
  refine ite (ite (after (arm ..) (after (signal ..) (after (bump ..) (put _)))) (after (bump ..) (put _))) ?_
  dsimp only
  split
  · exact ite (after (bump ..) (put _)) (after (signal ..) (after (bump ..) (after (bump ..) (put _))))
  · exact refl d

theorem raiseTo (ms : List Nat) (cls inst type detail : Nat) (d : Dev) : BootFrame d (raiseTo ms cls inst type detail d) := by
  unfold Machine.raiseTo
  exact ite (refl d) (after (forAll (fun m e => enqueue m _ e) ms _) (bump ..))

theorem raise (cls inst type detail : Nat) (d : Dev) : BootFrame d (raise cls inst type detail d) := raiseTo ..

theorem complete (j : JobRef) (cls inst type status : Nat) (result : List Byte) (d : Dev) : BootFrame d (complete j cls inst type status result d) := by
  unfold Machine.complete completeBase
  split
  · exact refl d
  · exact after (disarm ..) (after (raiseTo ..) (of_same rfl rfl rfl))

theorem startFlag (bit : Nat) (d : Dev) : BootFrame d (startFlag bit d) := setAttr ..

/-! #### The effects of a SET (R67, R201, R213) -/

theorem setRecord (r st : Nat) (d : Dev) : BootFrame d (setRecord r st d) := after (setAttr ..) (setBlock ..)

theorem endSnapshot (r status cause st : Nat) (d : Dev) : BootFrame d (endSnapshot r status cause st d) := by
  unfold Machine.endSnapshot
  split
  · exact refl d
  · have taken : BootFrame d { d with snapshots := bankPut none d.snapshots r none } := of_same rfl rfl rfl
    have left := after (disarm tkSnapArm r _) (after (setRecord r st _) taken)
    exact after (complete ..) (ite (after (setAttr ..) left) left)

theorem freeRecords (v : Nat) (d : Dev) : BootFrame d (freeRecords v d) := by
  refine forAll (fun r e => ?_) _ d
  split
  · exact endSnapshot ..
  · exact setRecord ..

theorem refreshRates (p : Nat) (d : Dev) : BootFrame d (refreshRates p d) :=
  after (setAttr ..) (after (setAttr ..) (after (setAttr ..) (after (setAttr ..) (setAttr ..))))

theorem setRateCap (p v : Nat) (d : Dev) : BootFrame d (setRateCap p v d) :=
  after (when (fun e => raise clsPort p evRateOverCap 0 e) _ _) (after (refreshRates ..) (setAttr ..))

theorem clearSnrHistory (p : Nat) (d : Dev) : BootFrame d (clearSnrHistory p d) :=
  after (arm ..) (after (setBlock ..) (after (setAttr ..) (of_same rfl rfl rfl)))

theorem newPulsePeriod (v : Nat) (d : Dev) : BootFrame d (newPulsePeriod v d) := by
  unfold Machine.newPulsePeriod
  exact ite (refl d) (after (setAttr ..) (after (setAttr ..) (after (disarm ..) (of_same rfl rfl rfl))))

theorem writeValue {a : Attr} (hc : a ∈ catalogue) (hw : a.acc ≠ .ro) (i v : Nat) (d : Dev) : BootFrame d (writeValue a i v d) := by
  have stored := setAttr_writable hc hw i v d
  unfold Machine.writeValue
  exact ite (freeRecords ..) (ite (after (modPrism ..) stored) (ite (setRateCap ..) (ite (after (clearSnrHistory ..) stored)
    (ite (newPulsePeriod ..) (ite (after (disarm ..) stored) (ite (after (disarm ..) stored) stored))))))

end BootFrame

end Sys2Proof.Machine

namespace Sys2Proof.Machine

-- In order, so that no thread waits for the lemmas before it.
set_option Elab.async false

/-! ### Steps 4 and 5 of a start (R526, R527) -/

namespace BootFrame
variable {d e : Dev}

theorem refreshStores (mem : List Host.Cell) (d : Dev) : BootFrame d (refreshStores mem d) := after (setAttr ..) (after (setAttr ..) (setAttr ..))

theorem modItem (i : Nat) (g : CalItem → CalItem) (d : Dev) : BootFrame d (modItem i g d) := of_same rfl rfl rfl

/-- R526: an entry that passes its check writes an attribute that may be SET. -/
theorem applyEntry {x : ConfigEntry} (h : applyEntry x d = some e) : BootFrame d e := by
  unfold Machine.applyEntry at h
  split at h
  · cases h
  · rename_i a ha
    split at h
    · split at h
      · cases h
      · obtain rfl := Option.some.inj h
        exact setBlock ..
    · dsimp only at h
      split at h
      · cases h
      · rename_i good
        rw [not_or, not_not, not_not] at good
        obtain ⟨-, checked⟩ := good
        have writable : a.acc ≠ .ro := fun fixed => by
          unfold valueCheck setRefused at checked
          rw [fixed] at checked
          exact absurd checked (by simp)
        obtain rfl := Option.some.inj h
        exact writeValue (addressed_mem ha) writable ..

theorem applyEntries (l done : List ConfigEntry) (n : Nat) (d : Dev) : BootFrame d (applyEntries l done n d).1 := by
  induction l generalizing done n d with
  | nil => exact refl d
  | cons x l ih =>
    unfold Machine.applyEntries
    split
    · rename_i e h
      exact after (ih ..) (applyEntry h)
    · exact ih ..

theorem checkStaged (done : List ConfigEntry) (p : Nat) (la ga : Attr) (x : Dev × Nat × Nat) : BootFrame x.1 (checkStaged done p la ga x).1 := by
  unfold Machine.checkStaged
  dsimp only
  split
  · exact refl _
  · exact after (setBlock ..) (setBlock ..)

/-- R526: the staged pairs of the ports checked. -/
theorem checkPorts (done : List ConfigEntry) (l : List Nat) (x : Dev × Nat × Nat) :
    BootFrame x.1 (l.foldl (fun x p => Machine.checkStaged done p PORT_STAGE_LOADING_RX PORT_STAGE_GAIN_RX
      (Machine.checkStaged done p PORT_STAGE_LOADING_TX PORT_STAGE_GAIN_TX x)) x).1 := by
  induction l generalizing x with
  | nil => exact refl _
  | cons p l ih => exact after (ih _) (after (checkStaged ..) (checkStaged ..))

theorem applyConfig (body : List Byte) (d : Dev) : BootFrame d (applyConfig body d) := by
  have written := applyEntries (configEntries body.length body) [] 0 d
  unfold Machine.applyConfig
  generalize Machine.applyEntries (configEntries body.length body) [] 0 d = w at written ⊢
  obtain ⟨d1, skipped, done⟩ := w
  have checked := checkPorts done allPorts (d1, done.length, skipped)
  dsimp only at checked ⊢
  generalize List.foldl _ (d1, done.length, skipped) allPorts = c at checked ⊢
  obtain ⟨d2, applied, bad⟩ := c
  have counted := after (setAttr (a := DEVICE_CONFIG_APPLIED) 0 applied) (after (setAttr (a := DEVICE_CONFIG_SKIPPED) 0 bad) (after checked written))
  exact ite counted (after (raise ..) (after (startFlag ..) counted))

/-- R526: the stored configuration applied, where there is one to take. -/
theorem storedConfig (mem : List Host.Cell) (x : Option (Nat × Nat)) (d : Dev) : BootFrame d (match x with
    | some (n, _) => Machine.applyConfig (memRead mem (slotBase n + 64) (leAt (memRead mem (slotBase n) 64) 12 4)) (Machine.startFlag 1 d)
    | none => d) := by
  split
  · exact after (applyConfig ..) (startFlag ..)
  · exact refl d

theorem loadConfig (mem : List Host.Cell) (d : Dev) : BootFrame d (loadConfig mem d) := by
  unfold Machine.loadConfig
  extract_lets d1 slot d2 stored d3
  have taken : BootFrame d d2 := after (storedConfig mem (slot 1) d1) (refreshStores mem d)
  have flagged : BootFrame d d3 := ite (after (startFlag ..) taken) taken
  exact after (forAll (fun i e => modItem i _ e) _ _) flagged

theorem restartClock (m : Nat) (d : Dev) : BootFrame d (restartClock m d) := after (setAttr ..) (modPrism ..)

theorem startDomain (on : List Nat) (k : Nat) (d : Dev) : BootFrame d (startDomain on k d) := by
  unfold Machine.startDomain
  extract_lets d1 d2
  have latched : BootFrame d d1 := ite (setAttr ..) (refl d)
  have powered : BootFrame d d2 := after (setAttr ..) (after (setAttr ..) (after (setAttr ..) latched))
  exact ite (ite (after (restartClock ..) powered) powered) (after (setAttr ..) latched)

theorem restInner (d : Dev) : BootFrame d (restInner d) := forAll (fun _ e => ite (refl e) (after (setAttr ..) (setAttr ..))) _ d

theorem phased (x : StartPhase) (d : Dev) : BootFrame d { d with phase := x } := of_same rfl rfl rfl

/-- R526 to R528: steps 4 and 5. -/
theorem startSteps (s : State) : BootFrame s.dev (startSteps s).dev := by
  unfold Machine.startSteps
  extract_lets d1 on d2
  have powered : BootFrame s.dev d2 := after (restInner ..) (after (forAll (startDomain on) _ d1) (loadConfig ..))
  exact after (setAttr ..) (after (phased ..) powered)

/-! #### Candidates (R525) -/

theorem rejectPatch (slot reason : Nat) (d : Dev) : BootFrame d (rejectPatch slot reason d) := after (raise ..) (after (startFlag ..) (setAttr ..))

theorem nextPatch (n : Nat) (s : State) : BootFrame s.dev (nextPatch n s).dev := by
  induction n generalizing s with
  | zero => exact startSteps s
  | succ n ih =>
    unfold Machine.nextPatch
    split
    · exact startSteps s
    · split
      · exact after (arm ..) (phased ..)
      · exact after (ih _) (rejectPatch ..)

end BootFrame

theorem startSteps_phase (s : State) : (startSteps s).dev.phase = .calibrate := by
  unfold startSteps
  exact setAttr_phase ..

theorem startSteps_mem (s : State) : (startSteps s).mem = s.mem := by
  unfold startSteps
  dsimp only

/-- R525: step 3 leaves the memory, and the block no longer in reset. -/
theorem nextPatch_starts (n : Nat) (s : State) : (nextPatch n s).mem = s.mem ∧ (nextPatch n s).dev.phase ≠ .held := by
  have steps : (startSteps s).mem = s.mem ∧ (startSteps s).dev.phase ≠ .held := ⟨startSteps_mem s, by rw [startSteps_phase]; decide⟩
  induction n generalizing s with
  | zero => exact steps
  | succ n ih =>
    unfold nextPatch
    split
    · exact steps
    · split
      · rw [arm_phase]
        exact ⟨rfl, fun h => by cases h⟩
      · exact ih _ ⟨startSteps_mem _, by rw [startSteps_phase]; decide⟩

/-! ### Reset held (R518, R519) -/

/-- R519: what a reset keeps beside attributes. -/
def freshDev (d : Dev) : Dev :=
  { freeCount := d.freeCount, phase := .held, faults := keptFaults d.faults, life := { erasePending := d.life.erasePending }, sawCoreOff := d.sawCoreOff
    sawResetN := d.sawResetN, sawRail := d.sawRail, railsDown := d.railsDown, resetLow := d.resetLow }

theorem heldDev_eq (d : Dev) : heldDev d
    = forAll [0, 1, 2] (fun die x => setAttr DIE_SPARE_WORDS_MIN die (sparesMin x die) x) (keptAttrs d (freshDev d)) := by
  unfold heldDev freshDev
  dsimp only

/-- Writes of attributes leave what is not one. -/
theorem foldl_setAttr_attrs {α : Type} {g : Dev → α → Dev} (h : ∀ e x, ∃ as, g e x = { e with attrs := as }) (l : List α) (d : Dev) :
    ∃ as, l.foldl g d = { d with attrs := as } := by
  induction l generalizing d with
  | nil => exact ⟨d.attrs, rfl⟩
  | cons x l ih =>
    obtain ⟨as, first⟩ := h d x
    obtain ⟨bs, rest⟩ := ih (g d x)
    refine ⟨bs, rest.trans ?_⟩
    rw [first]

theorem heldDev_attrs (d : Dev) : ∃ as, heldDev d = { freshDev d with attrs := as } := by
  obtain ⟨as, kept⟩ : ∃ as, keptAttrs d (freshDev d) = { freshDev d with attrs := as } := foldl_setAttr_attrs (fun _ _ => ⟨_, rfl⟩) _ _
  obtain ⟨bs, held⟩ : ∃ bs, forAll [0, 1, 2] (fun die x => setAttr DIE_SPARE_WORDS_MIN die (sparesMin x die) x) (keptAttrs d (freshDev d))
    = { keptAttrs d (freshDev d) with attrs := bs } := foldl_setAttr_attrs (fun _ _ => ⟨_, rfl⟩) _ _
  refine ⟨bs, (heldDev_eq d).trans (held.trans ?_)⟩
  rw [kept]

theorem heldDev_kept (d : Dev) : (heldDev d).phase = .held ∧ (heldDev d).jobs = [] ∧ (heldDev d).faults.places = d.faults.places := by
  obtain ⟨as, h⟩ := heldDev_attrs d
  rw [h]
  exact ⟨rfl, rfl, rfl⟩

/-- R519: an attribute of the fuses and the log, kept over a reset. -/
theorem keptAttrs_read (d e : Dev) : attr (keptAttrs d e) DEVICE_LC_STATE 0 = attr d DEVICE_LC_STATE 0 % 2 ^ DEVICE_LC_STATE.width
    ∧ attr (keptAttrs d e) DEVICE_BOOTS 0 = attr d DEVICE_BOOTS 0 % 2 ^ DEVICE_BOOTS.width := by
  simp only [keptAttrs, List.foldl_cons, List.foldl_nil]
  constructor
  · rw [attr_setAttr_ne _ _ _ _ (by decide) (by decide) (by decide), attr_setAttr_ne _ _ _ _ (by decide) (by decide) (by decide),
      attr_setAttr_ne _ _ _ _ (by decide) (by decide) (by decide), attr_setAttr_ne _ _ _ _ (by decide) (by decide) (by decide),
      attr_setAttr_ne _ _ _ _ (by decide) (by decide) (by decide), attr_setAttr]
  · rw [attr_setAttr_ne _ _ _ _ (by decide) (by decide) (by decide), attr_setAttr_ne _ _ _ _ (by decide) (by decide) (by decide),
      attr_setAttr_ne _ _ _ _ (by decide) (by decide) (by decide), attr_setAttr_ne _ _ _ _ (by decide) (by decide) (by decide), attr_setAttr]

theorem heldDev_read (d : Dev) : attr (heldDev d) DEVICE_LC_STATE 0 = attr d DEVICE_LC_STATE 0 % 2 ^ DEVICE_LC_STATE.width
    ∧ attr (heldDev d) DEVICE_BOOTS 0 = attr d DEVICE_BOOTS 0 % 2 ^ DEVICE_BOOTS.width := by
  have spare : ∀ (b : Attr) (l : List Nat) (e : Dev), b.code ≠ DIE_SPARE_WORDS_MIN.code → b.code < 2 ^ 24 → ∀ i,
      attr (forAll l (fun die x => setAttr DIE_SPARE_WORDS_MIN die (sparesMin x die) x) e) b i = attr e b i :=
    fun b l e hn hb i => attr_forAll (fun _ _ => attr_setAttr_ne _ _ _ _ hn (by decide) hb) l e
  rw [heldDev_eq, spare _ _ _ (by decide) (by decide), spare _ _ _ (by decide) (by decide)]
  exact keptAttrs_read ..

end Sys2Proof.Machine

namespace Sys2Proof.Machine

-- In order, so that no thread waits for the lemmas before it.
set_option Elab.async false

/-! ### The release of reset (R518, R522 to R524) -/

/-- R24, R522, R524: the block with its boot counted, its cause named, and the attributes that the pins give. -/
def pinnedDev (pins : Nat) (d : Dev) : Dev :=
  setAttr LATTICE_TIME_MASTER 0 (fieldOf pins 8 6) (setAttr LATTICE_MEMBERS 0 (2 ^ fieldOf pins 8 6) (setAttr LATTICE_INDEX 0 (fieldOf pins 8 6)
    (setAttr DEVICE_PIN_STATE 0 pins (setAttr DEVICE_RESET_CAUSE 0 (resetCause d) (bump DEVICE_BOOTS 0 1 d)))))

/-- R326, R523: the block at its release, before its NONCE is drawn. -/
def releasedDev (pins : Nat) (d : Dev) : Dev :=
  { setMaster 1 { staticAddr := 0x5E + bitNat (bitOf pins 10), enint := true }
      (setMaster 0 { staticAddr := 0x5C + bitNat (bitOf pins 9), enint := true } (pinnedDev pins d)) with
    elapsed := 0, devTime := 0, sawCoreOff := false, sawResetN := false, sawRail := none, railsDown := [], resetLow := false }

theorem releaseDev_eq (pins : Nat) (d : Dev) : releaseDev pins d = drawNonce (releasedDev pins d) := by
  unfold releaseDev releasedDev pinnedDev
  dsimp only

theorem BootFrame.drawNonce (d : Dev) : BootFrame d (drawNonce d) := .after (.setAttr ..) (.of_same rfl rfl rfl)

section Released
variable (pins : Nat) (d : Dev)

theorem releasedDev_attr (b : Attr) (i : Nat) : attr (releasedDev pins d) b i = attr (pinnedDev pins d) b i := attr_congr rfl b i

theorem pinnedDev_boots : attr (pinnedDev pins d) DEVICE_BOOTS 0 = (attr d DEVICE_BOOTS 0 + 1) % 2 ^ DEVICE_BOOTS.width := by
  rw [pinnedDev, attr_setAttr_ne _ _ _ _ (by decide) (by decide) (by decide), attr_setAttr_ne _ _ _ _ (by decide) (by decide) (by decide),
    attr_setAttr_ne _ _ _ _ (by decide) (by decide) (by decide), attr_setAttr_ne _ _ _ _ (by decide) (by decide) (by decide),
    attr_setAttr_ne _ _ _ _ (by decide) (by decide) (by decide), attr_bump]

theorem pinnedDev_cause : attr (pinnedDev pins d) DEVICE_RESET_CAUSE 0 = resetCause d % 2 ^ DEVICE_RESET_CAUSE.width := by
  rw [pinnedDev, attr_setAttr_ne _ _ _ _ (by decide) (by decide) (by decide), attr_setAttr_ne _ _ _ _ (by decide) (by decide) (by decide),
    attr_setAttr_ne _ _ _ _ (by decide) (by decide) (by decide), attr_setAttr_ne _ _ _ _ (by decide) (by decide) (by decide), attr_setAttr]

theorem fieldOf_index_lt : fieldOf pins 8 6 < 2 ^ 8 := by
  unfold fieldOf
  omega

theorem pinnedDev_index : attr (pinnedDev pins d) LATTICE_INDEX 0 = fieldOf pins 8 6 := by
  rw [pinnedDev, attr_setAttr_ne _ _ _ _ (by decide) (by decide) (by decide), attr_setAttr_ne _ _ _ _ (by decide) (by decide) (by decide), attr_setAttr]
  exact Nat.mod_eq_of_lt (fieldOf_index_lt pins)

theorem pinnedDev_timeMaster : attr (pinnedDev pins d) LATTICE_TIME_MASTER 0 = fieldOf pins 8 6 := by
  rw [pinnedDev, attr_setAttr]
  exact Nat.mod_eq_of_lt (fieldOf_index_lt pins)

theorem releasedDev_addr : (master (releasedDev pins d) 0).staticAddr = 0x5C + bitNat (bitOf pins 9)
    ∧ (master (releasedDev pins d) 1).staticAddr = 0x5E + bitNat (bitOf pins 10) := by
  have second := master_setMaster 1 { staticAddr := 0x5E + bitNat (bitOf pins 10), enint := true }
    (setMaster 0 { staticAddr := 0x5C + bitNat (bitOf pins 9), enint := true } (pinnedDev pins d))
  have first := (master_setMaster_ne { staticAddr := 0x5E + bitNat (bitOf pins 10), enint := true }
    (setMaster 0 { staticAddr := 0x5C + bitNat (bitOf pins 9), enint := true } (pinnedDev pins d)) Nat.zero_ne_one).trans (master_setMaster ..)
  exact ⟨congrArg Master.staticAddr first, congrArg Master.staticAddr second⟩

end Released

section Release
variable {s : State}

/-- R518: reset is held, by the pin or by a rail. -/
theorem release_held {s : State} (hp : s.dev.phase = .held) (hl : s.dev.resetLow = true ∨ s.dev.railsDown ≠ []) :
    ¬(s.dev.phase ≠ .held ∨ (s.dev.resetLow = false ∧ s.dev.railsDown = [])) := by
  rcases hl with low | rails
  · simp [hp, low]
  · simp [hp, rails]

theorem resetRelease_fails (hp : s.dev.phase = .held) (hl : s.dev.resetLow = true ∨ s.dev.railsDown ≠ []) (pins : BitVec 11) :
    exec (.resetRelease pins false) s = .next { s with dev := { s.dev with resetLow := false, railsDown := [] } } := by
  have released : release pins.toNat false s = { s with dev := { s.dev with resetLow := false, railsDown := [] } } := by
    unfold release
    dsimp only
    rw [if_neg (release_held hp hl), if_pos rfl]
  exact congrArg Host.Outcome.next released

/-- R523: the state with which step 3 begins. -/
def released (pins : Nat) (s : State) : State := { s with dev := { releaseDev pins s.dev with phase := .stopped } }

theorem BootFrame.released (pins : Nat) (s : State) : BootFrame (releasedDev pins s.dev) (released pins s).dev := by
  unfold Machine.released
  rw [releaseDev_eq]
  exact .after (.phased ..) (.drawNonce _)

theorem release_starts (hp : s.dev.phase = .held) (hl : s.dev.resetLow = true ∨ s.dev.railsDown ≠ []) (he : s.dev.life.erasePending = false)
    (pins : Nat) :
    release pins true s = if attr s.dev DEVICE_LC_STATE 0 = 3 then startSteps (released pins s) else nextPatch 2 (released pins s) := by
  unfold release
  dsimp only
  rw [if_neg (release_held hp hl), if_neg (by decide), he, if_neg Bool.false_ne_true]
  rfl

theorem release_goes (hp : s.dev.phase = .held) (hl : s.dev.resetLow = true ∨ s.dev.railsDown ≠ []) (he : s.dev.life.erasePending = false)
    (pins : Nat) : (release pins true s).mem = s.mem ∧ (release pins true s).dev.phase ≠ .held
      ∧ BootFrame (releasedDev pins s.dev) (release pins true s).dev := by
  rw [release_starts hp hl he]
  split
  · exact ⟨startSteps_mem _, by rw [startSteps_phase]; decide, .after (.startSteps _) (.released ..)⟩
  · obtain ⟨mem, phase⟩ := nextPatch_starts 2 (released pins s)
    exact ⟨mem, phase, .after (.nextPatch ..) (.released ..)⟩

theorem resetRelease_starts (hp : s.dev.phase = .held) (hl : s.dev.resetLow = true ∨ s.dev.railsDown ≠ []) (he : s.dev.life.erasePending = false)
    (pins : BitVec 11) :
    ∃ t, exec (.resetRelease pins true) s = .next t ∧ t.mem = s.mem ∧ t.dev.elapsed = 0 ∧ t.dev.devTime = 0 ∧ t.dev.phase ≠ .held
      ∧ attr t.dev DEVICE_BOOTS 0 = (attr s.dev DEVICE_BOOTS 0 + 1) % 2 ^ DEVICE_BOOTS.width
      ∧ attr t.dev DEVICE_RESET_CAUSE 0 = resetCause s.dev % 2 ^ DEVICE_RESET_CAUSE.width
      ∧ attr t.dev LATTICE_INDEX 0 = fieldOf pins.toNat 8 6 ∧ attr t.dev LATTICE_TIME_MASTER 0 = fieldOf pins.toNat 8 6
      ∧ (master t.dev 0).staticAddr = 0x5C + bitNat (bitOf pins.toNat 9) ∧ (master t.dev 1).staticAddr = 0x5E + bitNat (bitOf pins.toNat 10)
      ∧ t.dev.sawCoreOff = false ∧ t.dev.sawResetN = false ∧ t.dev.sawRail = none := by
  obtain ⟨mem, phase, kept, addr, attrs⟩ := release_goes hp hl he pins.toNat
  obtain ⟨elapsed, devTime, coreOff, resetN, rail⟩ : (release pins.toNat true s).dev.elapsed = 0 ∧ (release pins.toNat true s).dev.devTime = 0
      ∧ (release pins.toNat true s).dev.sawCoreOff = false ∧ (release pins.toNat true s).dev.sawResetN = false
      ∧ (release pins.toNat true s).dev.sawRail = none := by
    simpa only [startFacts, releasedDev, Prod.mk.injEq] using kept
  obtain ⟨first, second⟩ := releasedDev_addr pins.toNat s.dev
  have read : ∀ b ∈ bootAttrs, attr (release pins.toNat true s).dev b 0 = attr (pinnedDev pins.toNat s.dev) b 0 :=
    fun b hb => (attrs b hb 0).trans (releasedDev_attr ..)
  exact ⟨_, rfl, mem, elapsed, devTime, phase, (read _ (by simp)).trans (pinnedDev_boots ..), (read _ (by simp)).trans (pinnedDev_cause ..),
    (read _ (by simp)).trans (pinnedDev_index ..), (read _ (by simp)).trans (pinnedDev_timeMaster ..), (addr 0).trans first, (addr 1).trans second,
    coreOff, resetN, rail⟩

end Release

/-! ### Patches started (R525) -/

section Patch
variable {s : State} {slot : Nat}

theorem rejectPatch_rejects {d : Dev} (h0 : attr d DEVICE_BOOT_REJECTS 0 = 0) (hs : slot < 2) :
    attr (rejectPatch slot 4 d) DEVICE_BOOT_REJECTS 0 = 4 * 16 ^ slot := by
  have width : 2 ^ DEVICE_BOOT_REJECTS.width = 256 := rfl
  unfold rejectPatch
  rw [attr_raise _ _ _ _ _ _ _ (by unfold noEventAttr; decide), startFlag, attr_setAttr_ne _ _ _ _ (by decide) (by decide) (by decide), attr_setAttr,
    h0, width]
  obtain rfl | rfl : slot = 0 ∨ slot = 1 := by omega
  · rfl
  · rfl

theorem patchStartTimeout_rejects (hp : s.dev.phase = .patch slot) (hd : due s.dev tkPatchStart 0 = true) :
    exec .patchStartTimeout s = .next (nextPatch 2 { s with dev := rejectPatch slot 4 (disarm tkPatchStart 0 s.dev) }) := by
  have ran : exec .patchStartTimeout s = execPatchStartTimeout s := rfl
  rw [ran, execPatchStartTimeout, hp]
  dsimp only
  rw [hd, if_pos rfl]

theorem patchStartTimeout_waits (hp : s.dev.phase = .patch slot) (hd : due s.dev tkPatchStart 0 = false) : exec .patchStartTimeout s = .next s := by
  have ran : exec .patchStartTimeout s = execPatchStartTimeout s := rfl
  rw [ran, execPatchStartTimeout, hp]
  dsimp only
  rw [hd, if_neg Bool.false_ne_true]

/-- R525: the block with a patch named as the one that runs. -/
def patchNamed (slot version : Nat) (d : Dev) : Dev :=
  setAttr DEVICE_FW_VERSION 0 version (setAttr DEVICE_FW_ACTIVE 0 (slot + 1) (disarm tkPatchStart 0 d))

/-- R525: the state with which a patch that reported goes on to step 4. -/
def patchStarted (slot : Nat) (s : State) : State :=
  { s with
    dev := modLife (fun x => { x with fwGen := leAt (memRead s.mem (patchBase slot) 256) 192 4 })
      (patchNamed slot (leAt (memRead s.mem (patchBase slot) 256) 8 4) s.dev) }

theorem patchRuns_eq (slot : Nat) (s : State) : patchRuns slot s = startSteps (patchStarted slot s) := by
  unfold patchRuns patchStarted patchNamed
  dsimp only

theorem patchStarted_attr (b : Attr) (i : Nat) :
    attr (patchStarted slot s).dev b i = attr (patchNamed slot (leAt (memRead s.mem (patchBase slot) 256) 8 4) s.dev) b i := attr_congr rfl b i

theorem patchNamed_active (version : Nat) (d : Dev) :
    attr (patchNamed slot version d) DEVICE_FW_ACTIVE 0 = (slot + 1) % 2 ^ DEVICE_FW_ACTIVE.width := by
  rw [patchNamed, attr_setAttr_ne _ _ _ _ (by decide) (by decide) (by decide), attr_setAttr]

theorem patchNamed_version (h : List Byte) (d : Dev) : attr (patchNamed slot (leAt h 8 4) d) DEVICE_FW_VERSION 0 = leAt h 8 4 := by
  have width : DEVICE_FW_VERSION.width = 32 := rfl
  have small := leAt_lt h 8 4
  rw [patchNamed, attr_setAttr, width]
  exact Nat.mod_eq_of_lt small

theorem patchInitDone_runs (hp : s.dev.phase = .patch slot) (hv : s.dev.vertex = .running) (hb : s.dev.brownout = none) :
    ∃ t, exec .patchInitDone s = .next t ∧ t = patchRuns slot s ∧ t.mem = s.mem ∧ t.dev.phase = .calibrate
      ∧ attr t.dev DEVICE_FW_ACTIVE 0 = (slot + 1) % 2 ^ DEVICE_FW_ACTIVE.width
      ∧ attr t.dev DEVICE_FW_VERSION 0 = leAt (memRead s.mem (patchBase slot) 256) 8 4 := by
  have running : s.dev.vertex = .running ∧ s.dev.brownout.isNone := ⟨hv, by rw [hb]; rfl⟩
  have ran : exec .patchInitDone s = .next (patchRuns slot s) := by
    have row : exec .patchInitDone s = execPatchInitDone s := rfl
    rw [row, execPatchInitDone, hp]
    dsimp only
    rw [if_pos running]
  have frame := BootFrame.startSteps (patchStarted slot s)
  have mem := startSteps_mem (patchStarted slot s)
  have phase := startSteps_phase (patchStarted slot s)
  rw [← patchRuns_eq] at frame mem phase
  refine ⟨_, ran, rfl, mem, phase, ?_, ?_⟩
  · rw [frame.attrs DEVICE_FW_ACTIVE (by simp), patchStarted_attr, patchNamed_active]
  · rw [frame.attrs DEVICE_FW_VERSION (by simp), patchStarted_attr, patchNamed_version]

end Patch

/-- Settles O60. A ROM check that fails leaving the block held with its reset sources cleared (assumption 93), and all of memory, SRAM included,
kept over a reset (92), are the model's choices. -/
theorem resetAndPatchStart : Obligations.reset_and_patch_start := by
  unfold Obligations.reset_and_patch_start
  refine ⟨fun s => ⟨fun rail coreOff => rfl, rfl, fun d => ?_, fun h => ?_, fun pins hp hl => ⟨⟨_, resetRelease_fails hp hl pins, rfl⟩,
    fun he => resetRelease_starts hp hl he pins⟩⟩, fun s slot hp => ⟨fun hd => ⟨patchStartTimeout_rejects hp hd, fun h0 hs => ?_⟩,
    fun hd => patchStartTimeout_waits hp hd, fun hv hb => patchInitDone_runs hp hv hb⟩⟩
  · obtain ⟨phase, jobs, places⟩ := heldDev_kept d
    obtain ⟨state, boots⟩ := heldDev_read d
    exact ⟨phase, jobs, state, boots, places⟩
  · rw [cutStore, h]
  · exact rejectPatch_rejects h0 hs

end Sys2Proof.Machine
